-- ==== Sys2Proof/Word.lean ====
section
/-! DEFINITION. The word types of the BV-9664 (R9: every register is a 32-bit word; R5, R32: 64-bit unit IDs). -/

namespace Sys2Proof

/-- A BAR0 register word (R9). -/
abbrev Word := BitVec 32

/-- A byte of a frame, a payload or an image. -/
abbrev Byte := BitVec 8

/-- A sequence of bytes. -/
abbrev Bytes := List Byte

/-- The 64-bit unit ID fused in OTP (R312). -/
abbrev UnitId := BitVec 64

/-- A 48-bit MAC address. -/
abbrev Mac := BitVec 48

end Sys2Proof
end

