-- ==== Sys2Proof/Syntax/Types.lean ====
section
/-! DEFINITION. The operand types of the commands: the parties, the parameter records of R308 and the frames and
structures whose layouts the tables of the spec give. -/

namespace Sys2Proof

/-! ## Shared forms -/

/-- The spaces of the PCIe function: its configuration space (R5, R61) and the two BARs the host maps (R30, R34). -/
inductive Bar where
  | config | bar0 | bar2
  deriving DecidableEq, Repr

/-- A host access is a read of 32 or of 64 bits, or a write (R31); or a Precision Time Measurement dialogue that completes with
the host's time (R61). -/
inductive Access where
  | read | read64 | write
  | ptm (host : Nat)
  deriving DecidableEq, Repr

/-- Where a host access goes: a space and an offset in it. -/
structure HostAddr where
  bar : Bar
  off : Nat
  deriving DecidableEq, Repr

/-- A write of GLOBAL_ECC_LAST (Table 1-11): its data, and whether an event sets valid at the instant of the write (R9). -/
structure CaptureWrite where
  v      : Word
  setNow : Bool
  deriving DecidableEq, Repr

/-- One 32-bit part of a host write (R31): its data; the W1C bits for which a set event falls at the instant of the write (R9);
and whether the read of its read-modify-write corrects a single-bit error (R29). -/
structure HostWrite where
  v      : Word
  setNow : Word
  single : Bool
  deriving DecidableEq, Repr

/-- The two time bases (R35). -/
inductive Scale where
  | trt | wyt
  deriving DecidableEq, Repr

/-- The two lines of the backbone (R77). -/
inductive Line where
  | a | b
  deriving DecidableEq, Repr

/-- The two channels of the safety island (R244): the SFP is channel A, the SLA channel B. -/
inductive Chan where
  | sfp | sla
  deriving DecidableEq, Repr

/-- Who sends an HCP command and how it arrived: the tenant, flags bit 0 as R303 has authenticated it, and the tag
(Table 12-9). -/
structure Hcp where
  tenant : Nat
  classC : Bool
  tag    : Word
  deriving DecidableEq, Repr

/-- The value of a parameter record (R308): a number, an enumeration code, a port set, or raw bytes. -/
inductive PVal where
  | num   (v : Int)
  | enum  (v : Nat)
  | ports (m : BitVec 128)
  | bytes (b : Bytes)
  deriving DecidableEq, Repr

/-- One parameter record (R308): key, the port and element halves of its index (0xFF = none or all), and the value. -/
structure Param where
  key  : Nat
  port : Nat
  elem : Nat
  val  : PVal
  deriving DecidableEq, Repr

/-- What a DMA read brings back (R283): the data, or UR, CA, a poisoned completion or a timeout. -/
inductive Dma (α : Type) where
  | ok (a : α)
  | failed
  deriving DecidableEq, Repr

/-! ## Memories (R27) -/

/-- What a read of one word finds (R27). -/
inductive EccKind where
  | single | double
  deriving DecidableEq, Repr

/-- One word of one SRAM in which a read finds an error: the scrubber's, a functional read, or the read of an engine's or core's
read-modify-write (R27, R29). `raced` says that a functional write came between the scrubber's read and its write-back,
`fatal` that the MGP's firmware cannot recover from the bus error (memory 0x08). -/
structure EccFind where
  mem   : Nat
  word  : Nat
  kind  : EccKind
  raced : Bool
  fatal : Bool
  deriving DecidableEq, Repr

/-! ## Train time -/

/-- A frame with a one-step time insertion: where it leaves (a port, a segment or a slot), and whether its insertion completes
(R56). -/
structure Departure where
  at_      : Nat
  inserted : Bool
  deriving DecidableEq, Repr

/-- A link timing message (Table 2-4). Times are linear ns with their 16-bit fractions. -/
structure Ltm where
  version     : Nat
  isLeader    : Bool
  inHoldover  : Bool
  trtValid    : Bool
  seq         : BitVec 16
  hops        : Nat
  leaderId    : UnitId
  senderId    : UnitId
  tSec        : Nat
  tNs         : Nat
  tFrac       : Nat
  echoT1      : Nat
  echoT1Frac  : Nat
  echoT2      : Nat
  echoT2Frac  : Nat
  echoSeq     : BitVec 16
  drift       : Int
  domainEpoch : Word
  deriving DecidableEq, Repr

/-- A link timing message as it is received: with the phase tracker's reading of the neighbour's rate over this device's, less 1,
in units of 2^-48 (R42). -/
structure LtmArrival where
  ltm   : Ltm
  ratio : Int
  deriving DecidableEq, Repr

/-- The identity of a gPTP grandmaster, in the order in which the best master selection of IEEE 802.1AS-2020 compares its
parts (R49; PRESUMED, log). -/
structure GptpRank where
  priority1  : Nat
  clockClass : Nat
  accuracy   : Nat
  variance   : Nat
  priority2  : Nat
  identity   : UnitId
  deriving DecidableEq, Repr

/-- What a gPTP message brings (R49, Table 2-5). `sync` stands for a one-step Sync or a two-step one with its Follow_Up:
originTimestamp, correctionField in 2^-16 ns, the cumulative rate offset in 2^-41 and logSyncInterval. The times of a
peer delay response are the neighbour's, in 2^-16 ns. -/
inductive GptpKind where
  | sync (sec ns : Nat) (correction rate logInterval : Int)
  | pdelayReq (seq : BitVec 16)
  | pdelayResp (seq : BitVec 16) (t2 t3 : Nat)
  | announce (rank : GptpRank) (steps : Nat)
  deriving DecidableEq, Repr

/-- A gPTP message: its domain number and what it is. -/
structure GptpMsg where
  domain : Nat
  kind   : GptpKind
  deriving DecidableEq, Repr

/-- One reference measurement of a 100 ms window (R63): the port of the recovered clock and XIN minus that clock, in
units of 0.001 ppm. -/
structure RefMeas where
  port : Nat
  ppb  : Int
  deriving DecidableEq, Repr

/-! ## CSS frames -/

/-- The CSS header of Table 3-4 with the facts of its reception. -/
structure CssHdr where
  fcsOk       : Bool
  version     : Nat
  lineB       : Bool
  fromLeader  : Bool
  scheduleId  : Word
  pan         : Word
  slotId      : Nat
  txNs        : Word
  domainEpoch : Word
  /-- source MAC (R76) -/
  src         : Mac := 0
  deriving DecidableEq, Repr

/-- A commit token's payload (Table 4-6). -/
structure Token where
  actionId  : Word
  decision  : Nat
  keySlot   : Nat
  fireSec   : Nat
  fireNs    : Nat
  commitSec : Nat
  commitNs  : Nat
  issuerId  : UnitId
  cmac      : BitVec 96
  deriving DecidableEq, Repr

/-- A survey report's payload (Table 4-7). -/
structure Survey where
  actionId   : Word
  outcome    : Nat
  reason     : Nat
  lines      : Nat
  flags      : Nat
  eventNs    : Word
  tokenNs    : Word
  reporterId : UnitId
  car        : Nat
  role       : Nat
  hops       : Nat
  cmac       : BitVec 96
  deriving DecidableEq, Repr

/-- The body of a slot frame by its subtype (Table 3-3); `other` is a subtype the CSS engine discards. -/
inductive CssBody where
  | data (prodSeq : Word) (data : Bytes)
  | token (t : Token)
  | survey (r : Survey)
  | other (subtype : Nat)
  deriving DecidableEq, Repr

/-- A slot frame as received (R74). -/
structure CssFrame where
  hdr  : CssHdr
  body : CssBody
  deriving DecidableEq, Repr

/-- A cycle-start frame (Table 3-5). -/
structure CycleStart where
  hdr      : CssHdr
  startSec : Nat
  startNs  : Nat
  panLenUs : Nat
  leaderId : UnitId
  stop     : Bool
  stopPan  : Word
  guardNs  : Nat
  carCount : Nat
  deriving DecidableEq, Repr

/-- A cold-start frame (Table 3-5). -/
structure ColdStart where
  hdr       : CssHdr
  senderId  : UnitId
  panLenUs  : Nat
  originSec : Nat
  originNs  : Nat
  listen    : Nat
  deriving DecidableEq, Repr

/-! ## Schedule images (R90, R91) -/

/-- A transmit template: the instantiation terms of R91 and the other fields of Table 3-1. -/
structure TxTemplate where
  carSel   : Nat
  role     : Nat
  idBase   : Int
  idStride : Int
  offBase  : Int
  offStride : Int
  length   : Nat
  periodLog2 : Nat
  phase    : Nat
  kind     : Nat
  producer : Nat
  repeatOn : Bool
  shared   : Bool
  deriving DecidableEq, Repr

/-- The source car of a receive template (R91): absolute, or the consumer's car plus a signed distance. -/
inductive SrcCar where
  | absolute (car : Nat)
  | relative (d : Int)
  deriving DecidableEq, Repr

/-- A receive template (R91). -/
structure RxTemplate where
  carSel      : Nat
  role        : Nat
  source      : Nat
  srcCar      : SrcCar
  closeBase   : Int
  closeStride : Int
  delivery    : Nat
  deriving DecidableEq, Repr

/-- A sluice template: one exclusive TC7 window on a set of BB ports, in 10 ns units. -/
structure SluiceTemplate where
  carSel      : Nat
  role        : Nat
  ports       : List Nat
  startBase   : Int
  startStride : Int
  width       : Nat
  deriving DecidableEq, Repr

/-- A cold-start capable entry (Table 3-7): car (0 = every car) and role. -/
structure ColdMark where
  car  : Nat
  role : Nat
  deriving DecidableEq, Repr

/-- What the template tables of a schedule image hold. -/
structure Templates where
  tx     : List TxTemplate
  rx     : List RxTemplate
  sluice : List SluiceTemplate
  cold   : List ColdMark
  deriving DecidableEq, Repr

/-- The two scopes of CSS_STOP (R85). -/
inductive StopScope where
  | train | localOnly
  deriving DecidableEq, Repr

/-- The modes of CSS_START (R88); a timed start carries T_s and the designated leader. -/
inductive StartMode where
  | cold
  | timed (sec ns : Nat) (leader : UnitId)
  deriving DecidableEq, Repr

/-! ## Timed actions -/

/-- The payload of TAU_ARM, field by field (Table 4-9). -/
structure TauArm where
  tau       : Nat
  mode      : Nat
  timescale : Nat
  target    : Nat
  arg       : Word
  fireSec   : Nat
  fireNs    : Nat
  fireFrac  : Nat
  keySlot   : Nat
  period    : Nat
  count     : Nat
  commitSec : Nat
  commitNs  : Nat
  actionId  : Word
  issuerId  : UnitId
  source    : Nat
  survey    : Nat
  surveySlot : Nat
  surveySpan : Nat
  expected  : Nat
  twinShared : Bool
  deriving DecidableEq, Repr

/-! ## Frames of the fabric -/

/-- An IEEE 802.1Q tag. -/
structure VlanTag where
  vid : Nat
  pcp : Nat
  deriving DecidableEq, Repr

/-- The PRP trailer of IEC 62439-3: sequence number and LAN (`true` = B). -/
structure Rct where
  seq  : BitVec 16
  lanB : Bool
  deriving DecidableEq, Repr

/-- A frame in the fabric. `len` is counted from destination MAC to FCS, tags included; `subtype` is the first byte
after EtherType 0x88B5 or 0x88B6. `degraded` marks a frame that a meter has downgraded: it is best effort at every later hop
(R164; the spec does not say by what the later hop knows it; DESIGN CHOICE, log). -/
structure Frame where
  dst     : Mac
  src     : Mac
  vlan    : Option VlanTag
  etype   : Nat
  subtype : Nat
  rtag    : Option (BitVec 16)
  rct     : Option Rct
  len     : Nat
  fcsOk   : Bool
  gptpDomain : Option Nat
  payload : Bytes
  degraded : Bool := false
  deriving DecidableEq, Repr

/-- What the medium of a port reports beside a frame, by the counter it is counted in (Table 7-7). -/
inductive PhyCount where
  | alignment | symbol | elastic | collision | beacon
  | canBit | canStuff | canCrc | canForm | canAck | canArbitration
  deriving DecidableEq, Repr

/-- A frame boundary of a port's transmitter, and what the medium reports of the transmission (Table 7-7). -/
structure Boundary where
  port : Nat
  phy  : List PhyCount
  deriving DecidableEq, Repr

/-- One frame arriving at an ingress port; frames listed together ask for their first shared cell in one fabric cycle
(R124). `finds` are the errors that the reads of its passage meet, those of its Brine cells under memory 0x01 (R27). -/
structure Ingress where
  port  : Nat
  frame : Frame
  finds : List EccFind
  phy   : List PhyCount := []
  deriving DecidableEq, Repr

/-- A sluice entry (Table 5-5). -/
structure SluiceEntry where
  gates    : BitVec 8
  interval : Nat
  css      : Bool
  deriving DecidableEq, Repr

/-- A sluice bank (R129). -/
structure SluiceBank where
  cycleTime : Nat
  entries   : List SluiceEntry
  deriving DecidableEq, Repr

/-- What an FDB entry points at (R141): an egress port, or an entry of the port mask table. -/
inductive FdbDest where
  | port (p : Nat)
  | mask (i : Nat)
  deriving DecidableEq, Repr

/-- What FDB_FLUSH selects (R143). -/
inductive FlushSel where
  | all | learned | static | byPort (p : Nat) | byFid (fid : Nat)
  deriving DecidableEq, Repr

/-- A watch counter's filter (R147); `none` is any. -/
structure WatchFilter where
  tenant : Option Nat
  port   : Option Nat
  reason : Option Nat
  deriving DecidableEq, Repr

/-- What BITTERN_CLEAR zeroes (R147). -/
inductive BitternSel where
  | port (p : Nat)
  | tenant (t : Nat)
  | watch (k : Nat)
  | all
  deriving DecidableEq, Repr

/-! ## Stream admission -/

/-- A stream request (Table 6-1, R310), with the addresses its TFA resolves to left to the device. -/
structure StreamReq where
  ingressPort : Nat
  cls5        : Bool
  destTfa     : Nat
  maxFrame    : Nat
  n           : Nat
  identMode   : Bool
  yellowDiscard : Bool
  frer        : Bool
  lineB       : Bool
  deliverInWindow : Bool
  interval    : Nat
  bound       : Nat
  eir         : Nat
  ebs         : Nat
  srcMac      : Mac
  deriving DecidableEq, Repr

/-- A stream's train-wide name: origin unit ID and stream_id (R154), with the attempt number txn of R307. -/
structure StreamName where
  origin   : UnitId
  streamId : Nat
  txn      : Nat
  /-- flags bit 0 of the header: line B -/
  lineB    : Bool := false
  deriving DecidableEq, Repr

/-- One hop of a path: the node's position, and its egress port (Table 12-13). -/
structure PathHop where
  position : Nat
  port     : Nat
  deriving DecidableEq, Repr

/-- A PREPARE (Table 12-13). -/
structure Prepare where
  name     : StreamName
  maxFrame : Nat
  n        : Nat
  cls5     : Bool
  interval : Nat
  bound    : Nat
  rho      : Nat
  burst    : Nat
  frer     : Bool
  lineB    : Bool
  deliverInWindow : Bool
  identMode : Bool
  mac      : Mac
  vlan     : Nat
  hops     : List PathHop
  deriving DecidableEq, Repr

/-- A hop record of a REPLY (Table 12-13). -/
structure HopRec where
  hop    : Nat
  reason : Nat
  dHop   : Nat
  deriving DecidableEq, Repr

/-- The failure record of a REPLY (Table 6-5 offsets 0 to 23). -/
structure FailRec where
  reason    : Nat
  hop       : Nat
  port      : Nat
  cls       : Nat
  node      : UnitId
  needed    : Nat
  available : Nat
  unit      : Nat
  held      : Bool
  lineB     : Bool
  hopCount  : Nat
  deriving DecidableEq, Repr

/-- A REPLY (Table 12-13). -/
structure Reply where
  name  : StreamName
  fail  : Option FailRec
  hops  : List HopRec
  deriving DecidableEq, Repr

/-- A violation notice (Table 12-13). -/
structure Notice where
  name      : StreamName
  hop       : Nat
  port      : Nat
  kind      : Nat
  reason    : Nat
  cause     : Nat
  residence : Nat
  bound     : Nat
  deriving DecidableEq, Repr

/-! ## Ports -/

/-- Who a port's link partner is, as far as the device learns it at link up: unit ID and, on TW0, its twin state code
(Table 8-10 order). -/
structure Partner where
  unit : UnitId
  twin : Nat
  deriving DecidableEq, Repr

/-- What a serial link finds as it comes up (R170): for how long its PCS has held lock in ns, whether its partner offers full
duplex, and who the partner is. -/
structure LinkOffer where
  lockNs     : Nat
  fullDuplex : Bool
  partner    : Option Partner
  deriving DecidableEq, Repr

/-- A CAN record header (R294) with its data. -/
structure CanRecord where
  ident  : Word
  format : Nat
  vcid   : Nat
  accept : Word
  data   : Bytes
  deriving DecidableEq, Repr

/-- A CAN frame as a port sees it: its record, and the errors the controller reports of it (Table 7-7). -/
structure CanArrival where
  record : CanRecord
  phy    : List PhyCount
  deriving DecidableEq, Repr

/-- One MDIO operation (R173) and what the PHY drives during a read: `none` where no PHY drives the turnaround. -/
structure MdioOp where
  clause45 : Bool
  isWrite  : Bool
  phy      : Nat
  reg      : Nat
  data     : BitVec 16
  phyData  : Option (BitVec 16)
  deriving DecidableEq, Repr

/-- The commanded states of a segment transceiver (Table 7-3). -/
inductive SegState where
  | normal | listenOnly | standby | sleep
  deriving DecidableEq, Repr

/-- The activity seen on a segment (R178): polarity transitions counted within 10 µs whose amplitude and spacing are in
range. -/
structure SegPulse where
  transitions : Nat
  minMv       : Nat
  minGapNs    : Nat
  maxGapNs    : Nat
  spanNs      : Nat
  deriving DecidableEq, Repr

/-- HARVEST_TAKE (Table 7-10). -/
structure HarvestArgs where
  bank      : Nat
  immediate : Bool
  ident     : Word
  sec       : Nat
  ns        : Nat
  mask      : BitVec 128
  deriving DecidableEq, Repr

/-! ## Inauguration -/

/-- The inauguration frame header (Table 8-3). -/
structure InaugHdr where
  lineB       : Bool
  coordinator : Bool
  inaugSeq    : Word
  senderId    : UnitId
  domainEpoch : Word
  topoCount   : Word
  version     : Nat := 1
  deriving DecidableEq, Repr

/-- A HELLO (Table 8-3), with the hw_type and stepping of GLOBAL_ID (Table 0-2). -/
structure Hello where
  hdr       : InaugHdr
  fast      : Bool
  standard  : Bool
  port      : Nat
  nodeCount : Nat
  leaderId  : UnitId
  seq       : Word
  echo      : BitVec 16
  hwType    : Nat := 0x9664
  stepping  : Nat := 0xB0
  deriving DecidableEq, Repr

/-- A node record (Table 8-4). -/
structure NodeRec where
  unit      : UnitId
  consistId : Word
  carIndex  : Nat
  role      : Nat
  twin      : Bool
  capable   : Bool
  cab1      : Bool
  cab2      : Bool
  ref2      : Bool
  lead      : Bool
  isLeader  : Bool
  position  : Nat
  car       : Nat
  consist   : Nat
  reversed  : Bool
  functions : Nat
  lines     : BitVec 4
  partner   : UnitId
  deriving DecidableEq, Repr

/-- A function entry (Table 8-3, FUNCS): function, local side, VLAN, MAC, stream index. -/
structure FuncEntry where
  func   : Nat
  side   : Nat
  vlan   : Nat
  mac    : Mac
  stream : Nat
  deriving DecidableEq, Repr

/-- A static alias entry of ALIAS_SET (R212). -/
structure AliasArgs where
  tfa    : Nat
  mac    : Mac
  vlan   : Nat
  stream : Option Nat
  deriving DecidableEq, Repr

/-- What a TTDP frame brings about in standard mode under IEC 61375-2-5 (R196): `hello` for a TTDP HELLO, or a stable
topology with its directory and counter. -/
inductive TtdpResult where
  | hello
  | topology
  | stable (nodes : List NodeRec) (topoCount : Word)
  deriving DecidableEq, Repr

/-- The shared slot record of a state image (Table 8-9); its age in pans since the commit. -/
structure SlotRec where
  slot    : Nat
  prodSeq : Word
  ready   : Bool
  data    : Bytes
  age     : Nat := 0
  deriving DecidableEq, Repr

/-- A TAU record of a state image (Table 8-9): its armed parameters with the next instant, whether it is COMMITTED, the index of
that instant, its tenant, and the trt_epoch of its arming. -/
structure TauShared where
  arm       : TauArm
  committed : Bool
  k         : Nat
  owner     : Option Nat
  epoch     : BitVec 8
  deriving DecidableEq, Repr

/-- A tenant session record: last accepted counter and the short record's digest (R301, Table 8-9). -/
structure SessionRec where
  tenant  : Nat
  counter : BitVec 64
  cmac4   : Word
  status  : Nat
  reason  : Nat
  deriving DecidableEq, Repr

/-! ## Legacy bridge and Far Window -/

/-- The buses of a map entry (Table 9-3). -/
inductive Bus where
  | mvb (n : Nat)
  | wtb
  deriving DecidableEq, Repr

/-- The writer of a PDS variable (Table 9-1). -/
inductive Writer where
  | tenant (t : Nat)
  | mgp
  | legacyBus (bus : Bus) (entry : Nat)
  | trdp (comid : Word) (src : Word)
  | cssWindow (w : Nat)
  deriving DecidableEq, Repr

/-- A stream origin record (Table 8-9): an installed stream of the pair. -/
structure OriginRec where
  streamId  : Nat
  txn       : Nat
  owner     : Nat
  suspended : Bool
  req       : StreamReq
  path      : List PathHop
  pathB     : List PathHop
  deriving DecidableEq, Repr

/-- Ownership and freshness of a variable of the Process Data Store (Table 8-9). -/
structure PdRec where
  var    : Nat
  writer : Option Writer
  stale  : Bool
  deriving DecidableEq, Repr

/-- A twin state image as it arrives (Table 8-9): its pan, whether its CRC-32 verifies, and its records. -/
structure TwinImage where
  pan      : Word
  crcOk    : Bool
  taus     : List TauShared
  sessions : List SessionRec
  slots    : List SlotRec
  nodes    : List NodeRec
  topo     : Word
  streams  : List OriginRec
  owners   : List PdRec
  deriving DecidableEq, Repr

/-- The Ethernet side of a map entry (Table 9-3). -/
inductive EthKind where
  | none | trdp | cssSlot
  deriving DecidableEq, Repr

/-- What a destination receives while its variable is stale (Table 9-3). -/
inductive OnStale where
  | hold | zero | suppress
  deriving DecidableEq, Repr

/-- A map entry (Table 9-3), with its place in the bus's table. -/
structure MapEntry where
  bus        : Bus
  busAddr    : Int
  source     : Bool
  bitOffset  : Nat
  bitLen     : Nat
  var   : Nat
  ethKind    : EthKind
  comid      : Word
  dsOffset   : Nat
  ethPeriod  : Nat
  slotId     : Nat
  staleTimeout : Nat
  onStale    : OnStale
  ageOffset  : Nat
  busPeriod  : Nat
  deriving DecidableEq, Repr

/-- One port's process data seen on a bus: its logical address (on WTB the position of its node), its value, and the lines on
which it arrived without error (Table 9-2, R228). -/
structure BusData where
  addr : Int
  data : Bytes
  onA  : Bool := true
  onB  : Bool := true
  deriving DecidableEq, Repr

/-- A far access response (Table 9-4): op as received, tag, status, the length it names, its data. -/
structure FarResp where
  op     : Nat
  tag    : Nat
  status : Nat
  len    : Nat
  data   : Bytes
  deriving DecidableEq, Repr

/-- An MVB frame: process data of a logical address, a far access message, the answer to a device status request or such a
request, and the offer of mastership to an administrator or its acceptance (Table 9-2). -/
inductive MvbFrame where
  | process (d : BusData)
  | far (target : Nat) (r : FarResp)
  | status (addr : Nat) (v : BitVec 16)
  | statusRequest (dev : Nat)
  | offer (dev : Nat)
  | accept (dev : Nat)
  deriving DecidableEq, Repr

/-- What a WTB inauguration settles (R228): this node is its master, another strong node takes part, and the period the master
sets. -/
structure WtbOutcome where
  master   : Bool
  strong   : Bool
  periodMs : Nat
  deriving DecidableEq, Repr

/-- The role a WTB node is set to (R228). -/
inductive WtbRole where
  | strong | weak | slave
  deriving DecidableEq, Repr

/-- One entry of a bus administrator's periodic list: a logical address, polled every 2^log2 ms (Table 9-2). -/
structure MasterFrame where
  addr : Nat
  log2 : Nat
  deriving DecidableEq, Repr

/-- A received TRDP process data frame (R229): ComID, source address, topology counters and dataset, or a Pr request. -/
structure TrdpFrame where
  comid     : Word
  src       : Word
  etbTopo   : Word
  isRequest : Bool
  data      : Bytes
  deriving DecidableEq, Repr

/-- A TRDP subscription: the ComID and source address of its writer, its variable and place in the dataset (R229). -/
structure TrdpSub where
  comid    : Word
  src      : Word
  var : Nat
  offset   : Nat
  deriving DecidableEq, Repr

/-- LGB_CONFIG for one MVB port: role, device address, basic period, periodic list and the administrators among which
mastership moves; or for the WTB node (R243, Table 9-2, R228). -/
inductive LgbConfig where
  | mvb (port : Nat) (administrator : Bool) (device : Nat) (basicPeriodUs : Nat) (list : List MasterFrame) (admins : List Nat)
  | wtb (role : WtbRole) (periodMs : Nat)
  deriving DecidableEq, Repr

/-- A far target's settings (R232); far_timeout is none where its record is absent. -/
structure FarCfg where
  port    : Nat
  mac     : Mac
  canReq  : Word
  canResp : Word
  mvbAddr : Nat
  base    : Word
  size    : Nat
  timeoutUs : Option Nat
  maint   : Bool
  owner   : Nat
  deriving DecidableEq, Repr

/-! ## Safety island -/

/-- A safety telegram body (Table 10-2). -/
structure Telegram where
  channel  : Nat
  epoch    : BitVec 8
  seq      : Word
  trtNs    : Word
  posA     : Int
  posB     : Int
  speed    : Int
  status   : BitVec 16
  cmdEcho  : BitVec 16
  tag      : Word
  code     : Word
  deriving DecidableEq, Repr

/-- What one channel's safety cycle samples and measures (R245): its half of the inputs, SEAL and feedback balls, the
other channel's clock ratio, the elapsed TRT against its own measure of the cycle (both as deviations in ppm of
nominal), VDD_SAFE in mV, whether it has been outside limits for 10 µs, Tj in 0.1 °C, and its self-test results. -/
structure CycleMeas where
  inputs    : BitVec 16
  seals     : BitVec 8
  feedback  : BitVec 8
  clockPpm  : Int
  trtPpm    : Int
  vsafeMv   : Nat
  vsafeBad  : Bool
  tj        : Int
  lockstepOk : Bool
  selfTestOk : Bool
  memOk     : Bool
  vectorIn  : Bool
  deriving DecidableEq, Repr

/-! ## Host interface -/

/-- A command entry as fetched (Table 12-9) with its payload, inline or read through the indirect address, and the address and
size of the response buffer it names (0 = inline or none). -/
structure CmdEntry where
  opcode  : Nat
  version : Nat
  classC  : Bool
  indirect : Bool
  tag     : Word
  counter : BitVec 64
  payloadLen : Nat
  cmac    : BitVec 96
  payload : Bytes
  respAddr : Nat
  respSize : Nat
  deriving DecidableEq, Repr

/-- A TX descriptor as read (Table 12-7), with the bytes of its buffer. -/
structure TxDesc where
  length : Nat
  kind   : Nat
  port   : Nat
  dest   : Nat
  irq    : Bool
  stamp  : Bool
  frame  : Frame
  data   : Bytes
  deriving DecidableEq, Repr

/-- An RX descriptor as the host wrote it (R293). -/
structure RxDesc where
  addr : BitVec 64
  size : Nat
  deriving DecidableEq, Repr

/-- A remote HCP command frame (R306): source MAC and VLAN, the frame fields and the message. -/
structure RemoteHcp where
  src     : Mac
  vlan    : Nat
  subtype : Nat
  version : Nat
  tenant  : Nat
  unit    : UnitId
  entry   : CmdEntry
  deriving DecidableEq, Repr

/-- The attachment of a tenant (Table 12-6 codes). -/
inductive Attach where
  | none | pcie | spi | remote
  deriving DecidableEq, Repr

/-- TENANT_CONFIG (R286, R306): configure with attachment, rights, port set, key and the remote addresses, or remove. -/
inductive TenantCfg where
  | configure (tenant : Nat) (attach : Attach) (rights : Word) (ports : BitVec 128) (key : Option (BitVec 128))
      (mac : Mac) (vlan : Nat) (eventMac : Mac)
  | remove (tenant : Nat)
  deriving DecidableEq, Repr

/-- Where a DMA access of a tenant failed (Table 12-6, `where`). -/
inductive RingRef where
  | txq (q : Nat) | rxq (q : Nat) | cmd | rsp | evt
  deriving DecidableEq, Repr

/-! ## Firmware -/

/-- One image component's hash check at load (R327): true where it agrees. -/
structure LoadCheck where
  typ : Nat
  idx : Nat
  ok  : Bool
  deriving DecidableEq, Repr

/-- An image as its header, directory and manifest give it (Tables 13-4 and 13-6): what the boot ROM and the MGP read
from a slot. Hashes are the SHA-256 values of the directory, by component type and index. -/
structure ImageInfo where
  imageId : Word
  secVersion : Nat
  rootHash : BitVec 256
  hashes : List (Nat × Nat × BitVec 256)
  manifest : List (BitVec 8 × BitVec 512)
  deriving DecidableEq, Repr

/-- What a start reads from the external flash (R316, R326, R327): whether each slot passes Table 13-7, and the image of
the slot booted. -/
structure FlashView where
  okA : Bool
  okB : Bool
  deriving DecidableEq, Repr

/-! ## Power, recorder and ageing -/

/-- A keep-alive or a sleep notice (Table 14-4). -/
structure KeepAlive where
  lineB       : Bool
  sender      : UnitId
  sec         : Nat
  ns          : Nat
  domainEpoch : Word
  reasons     : BitVec 16
  car         : Nat
  tenant      : Nat
  seq         : Word
  awakeFor    : Nat
  sleepSec    : Nat
  sleepNs     : Nat
  deriving DecidableEq, Repr

/-- A token bucket setting of EVR_CONFIG (R366). -/
structure BucketCfg where
  code  : Nat
  rate  : Nat
  burst : Nat
  deriving DecidableEq, Repr

/-- What the MGP finds in the recorder memory at start (R348): no answer, no valid header, the header of another unit with
its size, newest record number and ring slots, or the device's own header and, from its checkpoint on, the last valid
record number. -/
inductive EvrScan where
  | none | unformatted
  | foreign (sizeMiB last : Nat) (ring : List (Nat × Bytes))
  | valid (sizeMiB last boots hours : Nat) (floor : BitVec 64)
  deriving DecidableEq, Repr

/-- One ageing measurement (R361): replica slacks in ps with their domains, latency changes from factory in ps of the
nine lanes, T1S segments with trim and amplitude in mV and the factory amplitude, READ_VOUT in mV and Tj in 0.1 °C. -/
structure AgmMeas where
  replicas : List (Nat × Int)
  latTx    : List Int
  latRx    : List Int
  t1s      : List (Nat × Nat × Nat)
  factoryT1s : Nat
  readVout : Nat
  tj : Int
  deriving DecidableEq, Repr

end Sys2Proof
end

