-- ==== Sys2Proof/Syntax.lean ====
section
/-! DEFINITION. The commands of the block: one constructor per row of spec/opcode_table.json, in the table's order.
A host command of Table 12-10 carries `h`, who sends it; an event row carries what the event brings from outside. -/

namespace Sys2Proof

/-- The commands, one per row of the opcode table. The docstring of each meaning says what it does. -/
inductive Instr where
  /- 01 architecture: BAR0, ECC and latching reads -/
  | registerWrite (bar : Bar) (off : Nat) (ws : List HostWrite)
  | reservedAccess (acc : Access) (at_ : HostAddr)
  | narrowWrite (off : Nat) (be : BitVec 4) (v : Word)
  | globalEccClear (v : Word) (ceNow ueNow : Bool)
  | eccCaptureRelease (w : CaptureWrite)
  | patrolScrub (finds : List EccFind)
  | shadowRestore (mem word : Nat)
  | timeSlotLatch (slot : Nat)
  | driftLatch (scale : Scale)
  | leaderIdLatch
  | trtStepRecordLatch
  | cssLeaderLatch
  | cssOriginLatch
  | ffCounterLatch (off : Nat)
  | lastDiscardLatch (t : Nat)
  | ffBrineClear (v : Word)
  | ineStepLatch
  | sleepAtLatch
  | keeperLatch
  | eomSecLatch
  | evrWinLatch (i : Nat)
  /- 12 host tenants and mailboxes -/
  | commandDoorbell (t : Nat) (prod : Word)
  | commandFetch (t : Nat) (e : Dma CmdEntry)
  | mbxTResetWrite (t : Nat) (v : Word)
  | tenantResetExecute (t : Nat)
  | spiTransaction (instr : Byte) (addr : Nat) (data : List Word) (words : Nat)
  | txDescriptor (t q : Nat) (d : Dma TxDesc)
  | rxDelivery (t q : Nat) (d : Dma RxDesc)
  | interruptHoldoffEnd (t : Nat)
  | eventRingRoom (t : Nat) (cons : Word)
  | remoteHcpReceive (c : RemoteHcp)
  | sessionOpen (h : Hcp) (version : Nat) (mask : BitVec 128) (maxWake : Nat)
  | tenantConfig (h : Hcp) (c : TenantCfg)
  | tenantKeySet (h : Hcp) (t : Nat) (key : BitVec 128)
  | tenantReset (h : Hcp) (t : Nat)
  | featuresSet (h : Hcp) (mask : BitVec 128)
  | queueSteer (h : Hcp) (entry tenant queue : Nat)
  | authEcho (h : Hcp) (payload : Bytes)
  | timeRead (h : Hcp)
  | timeConfig (h : Hcp) (recs : List Param)
  | timeSet (h : Hcp) (sec ns frac : Nat)
  /- 02 train time -/
  | ltmSend (d : Departure)
  | ltmReceive (p : Nat) (m : LtmArrival)
  | trtHoldoverEntry
  | servoUpdate (scale : Scale) (rate : Option Int) (span : Nat)
  | phaseTrackLoss (p : Nat)
  | phaseTrackRequalify (p : Nat)
  | gptpMessageReceive (port : Nat) (m : GptpMsg)
  | syncReceiptTimeout (dom : Nat)
  | preferredDomainReturn
  | ppsInEdge
  | ppsOutSecond
  | refMonitorWindow (ms : List RefMeas)
  | refReturn
  | xinStop
  | segmentBeaconSend (d : Departure)
  /- 03 cyclic slot service -/
  | panBoundary
  | slotFetch (i : Nat)
  | slotTransmit (d : Departure)
  | cssFrameReceive (port : Nat) (f : CssFrame)
  | windowClose (w : Nat)
  | cycleStartReceive (port : Nat) (f : CycleStart)
  | coldStartReceive (port : Nat) (f : ColdStart)
  | listenTimeout
  | originReached
  | timedStartReached
  | waitStartTimeout
  | integratingTimeout
  | reelectionColdStart
  | leaderlessTimeout
  | schedLoadBegin (h : Hcp) (len : Nat) (ident : Word)
  | schedLoadBlock (h : Hcp) (off : Nat) (data : Bytes)
  | schedLoadEnd (h : Hcp) (met : List Nat)
  | cssStart (h : Hcp) (mode : StartMode)
  | cssStop (h : Hcp) (scope : StopScope) (pan : Word)
  | cssCountersClear (h : Hcp)
  /- 04 timed actions -/
  | tauArm (h : Hcp) (a : TauArm)
  | tauCancel (h : Hcp) (tau : Nat)
  | tauFrameLoad (h : Hcp) (tau : Nat) (data : Bytes)
  | tauCommit (h : Hcp) (tau source keySlot slotId : Nat)
  | tauAbort (h : Hcp) (tau source keySlot slotId : Nat)
  | tauKeySet (h : Hcp) (slot : Nat) (key : BitVec 128)
  | tauStatus (h : Hcp) (tau : Nat)
  | tauSurveyRead (h : Hcp) (tau first : Nat)
  | tauFire (tau : Nat)
  | pinPulseEnd (pin : Nat)
  | captureEdge (pin : Nat) (rising : Bool)
  | captureWindowEnd (pin : Nat)
  | commitDeadline (tau : Nat)
  | commitTokenReceive (port : Nat) (f : CssFrame)
  | waysideTokenRepeat (tau : Nat)
  | surveyReportReceive (port : Nat) (f : CssFrame)
  | surveyClose (tau : Nat)
  /- 05 forwarding fabric -/
  | frameIngress (fs : List Ingress)
  | egressSelect (b : Boundary)
  | sluiceGateChange (port : Nat)
  | fdbAgeOut (mac : Mac) (fid : Nat)
  | resaltTrigger
  | resaltWalkDone
  | resaltResume
  | frerResetTimeout (fn : Nat)
  | prpSupervisionSend (pair : Nat)
  | prpNodeForget (mac : Mac)
  | brineConfig (h : Hcp) (recs : List Param)
  | classConfig (h : Hcp) (recs : List Param)
  | sluiceLoad (h : Hcp) (port bank : Nat) (b : SluiceBank)
  | tagConfig (h : Hcp) (recs : List Param)
  | prpConfig (h : Hcp) (recs : List Param)
  | frerStatus (h : Hcp) (fn : Nat)
  | fdbAdd (h : Hcp) (mac : Mac) (fid : Nat) (dest : FdbDest)
  | fdbDelete (h : Hcp) (mac : Mac) (fid : Nat)
  | fdbFlush (h : Hcp) (sel : FlushSel)
  | fdbResalt (h : Hcp)
  | bitternWatch (h : Hcp) (k : Nat) (f : WatchFilter)
  | bitternClear (h : Hcp) (sel : BitternSel)
  /- 06 stream admission -/
  | streamAdmit (h : Hcp) (r : StreamReq)
  | streamWithdraw (h : Hcp) (origin : UnitId) (id : Nat)
  | streamStatus (h : Hcp) (origin : UnitId) (id : Nat)
  | admissionConfig (h : Hcp) (recs : List Param)
  | prepareReceive (port : Nat) (p : Prepare)
  | replyReceive (r : Reply)
  | admissionInstallReceive (port : Nat) (name : StreamName) (sec ns : Nat)
  | streamActivation (name : StreamName)
  | confirmReceive (name : StreamName) (hop status : Nat)
  | confirmTimeout (id : Nat)
  | prepareTimeout (id : Nat)
  | releaseReceive (name : StreamName)
  | holdLapse (name : StreamName)
  | noticeReceive (n : Notice)
  | suspendHoldExpiry (id : Nat)
  /- 07 port complex -/
  | linkUp (port : Nat) (offer : LinkOffer)
  | linkDown (port : Nat)
  | cpInbandStatus (port : Nat) (up : Bool) (speed : Nat) (fullDuplex : Bool)
  | laneSyncLoss (lane : Nat)
  | pauseReceive (port : Nat) (quanta : Nat) (src : Mac)
  | pauseExpiry (port : Nat)
  | pauseWatchdogTrip (port : Nat)
  | pauseIgnoreEnd (port : Nat)
  | portConfig (h : Hcp) (recs : List Param)
  | segConfig (h : Hcp) (recs : List Param)
  | segState (h : Hcp) (sg : Nat) (st : SegState)
  | segSleepSilence (sg : Nat)
  | segSleepTimeout (sg : Nat)
  | segActivity (sg : Nat) (p : SegPulse)
  | segWakePattern (sg : Nat) (p : SegPulse)
  | segWake (h : Hcp) (sg : Nat)
  | segWakeBurstEnd (sg : Nat)
  | canConfig (h : Hcp) (recs : List Param)
  | canRecover (h : Hcp) (port : Nat)
  | canBusOff (port : Nat)
  | canAutoRecovery (port : Nat) (bits : Nat)
  | canFrameReceive (port : Nat) (x : CanArrival)
  | mdioAccess (h : Hcp) (ops : List MdioOp)
  | portStatus (h : Hcp) (port : Nat)
  | harvestTake (h : Hcp) (a : HarvestArgs)
  | harvestFillDone (bank : Nat)
  /- 08 inauguration and twins -/
  | helloSend (port : Nat)
  | helloReceive (port : Nat) (m : Hello)
  | ttdpFallback (port : Nat)
  | ttdpFrameReceive (port : Nat) (r : TtdpResult)
  | tableReceive (port : Nat) (hdr : InaugHdr) (part parts : Nat) (records : List NodeRec)
  | funcsReceive (port : Nat) (hdr : InaugHdr) (owner : UnitId) (entries : List FuncEntry)
  | digestReceive (port : Nat) (hdr : InaugHdr) (crc : Word) (count : Nat) (steps : Bool)
  | topologyTimeout
  | disagreeHoldoffEnd
  | proceedReceive (port : Nat) (hdr : InaugHdr)
  | mergeReceive (port : Nat) (hdr : InaugHdr) (epoch : Word) (leader : UnitId)
  | inaugInstallReceive (port : Nat) (hdr : InaugHdr) (sec ns : Nat) (topo crc : Word)
  | inaugAckReceive (port : Nat) (hdr : InaugHdr) (subtype status : Nat)
  | inaugAbortReceive (port : Nat) (hdr : InaugHdr) (reason : Nat)
  | inaugConfig (h : Hcp) (recs : List Param) (functions : List FuncEntry)
  | inaugLead (h : Hcp) (cab : Nat)
  | inaugInhibit (h : Hcp) (on : Bool)
  | inaugStatus (h : Hcp)
  | aliasSet (h : Hcp) (a : AliasArgs)
  | aliasClear (h : Hcp) (tfa : Nat)
  | aliasCommit (h : Hcp) (sec ns : Nat)
  | twinConfig (h : Hcp) (recs : List Param)
  | twinSwap (h : Hcp)
  | twinImageSend
  | twinImageReceive (im : Option TwinImage)
  | twinFullTransferDone (im : TwinImage)
  | twinSyncTimeout
  | twinPartnerTimeout
  | twinUnpairedTimeout
  | twinSwapDue
  | twinSwapSkip
  | twinMirrorReceive (slot : Nat) (seq : Word) (data : Option Bytes)
  /- 09 legacy bridge and far window -/
  | mvbMacrocycle (port : Nat) (polled : List BusData)
  | mvbFrameReceive (port : Nat) (f : MvbFrame)
  | wtbInauguration (o : WtbOutcome) (nodes : List Int)
  | wtbDataReceive (node : Int) (x : BusData)
  | trdpReceive (f : TrdpFrame)
  | pdPublish (bus : Bus) (idx : Nat)
  | variableStale (v : Nat)
  | lgbConfig (h : Hcp) (c : LgbConfig)
  | lgbMapSet (h : Hcp) (idx : Nat) (e : MapEntry)
  | lgbMapClear (h : Hcp) (bus : Bus) (idx : Nat)
  | trdpConfig (h : Hcp) (src : Word) (subs : List TrdpSub)
  | pdOwnerSet (h : Hcp) (v len : Nat) (writer : Writer)
  | pdWrite (h : Hcp) (v : Nat) (data : Bytes)
  | pdRead (h : Hcp) (v : Nat)
  | lgbStatus (h : Hcp) (bus : Bus) (idx : Nat)
  | farTargetSet (h : Hcp) (f : Nat) (c : Option FarCfg)
  | farRead (h : Hcp) (f addr len : Nat)
  | farWrite (h : Hcp) (f addr : Nat) (data : Bytes)
  | farLock (h : Hcp) (f token lease : Nat)
  | farUnlock (h : Hcp) (f token : Nat)
  | farHostRead (f off len : Nat)
  | farHostWrite (f off : Nat) (data : Bytes)
  | fwLockWrite (f : Nat) (v : Word)
  | farRequestSend (f : Nat)
  | farResponseReceive (f : Nat) (r : FarResp)
  | farResend (f : Nat)
  | farTimeout (f : Nat)
  | farDiscardEnd (f tag : Nat)
  | farLeaseExpiry (f : Nat)
  /- 10 and 11 safety island -/
  | safetyCycle (ch : Chan) (m : CycleMeas)
  | telegramReceive (port : Nat) (t : Telegram)
  | compareWindowExpiry (ch : Chan) (c : Nat)
  | stalenessDeadline (ch : Chan) (c : Nat)
  | driveCommandSend (ch : Chan) (c : Nat)
  | darkPulseStart (ch : Chan) (n : Nat)
  | darkPulseEnd (ch : Chan) (n : Nat) (feedback : Bool)
  | feedbackDisagreeTimeout (ch : Chan) (n : Nat)
  | inputDiscrepancyTimeout (ch : Chan) (i : Nat)
  | handoverTimeout (n : Nat)
  | guardTestTimeout (ch : Chan) (c : Nat)
  | autoRecover (ch : Chan) (c : Nat)
  | islandStartupTimeout
  | sfpFirstVector (m : CycleMeas)
  | safetyParamBegin (h : Hcp) (len : Nat) (ident : Word)
  | safetyParamBlock (h : Hcp) (off : Nat) (data : Bytes)
  | safetyParamEnd (h : Hcp)
  | safetyResume (h : Hcp)
  | safetyChannelReset (h : Hcp) (mask : BitVec 64)
  | safetyGuardTest (h : Hcp) (mask : BitVec 64)
  | axisCounterSet (h : Hcp) (c : Nat) (cycles reversals : Word)
  | axisStatus (h : Hcp) (c : Nat)
  | counterWindrowWrite
  /- 13 firmware and trust -/
  | imageBegin (h : Hcp) (len : Nat) (ident : Word)
  | imageBlock (h : Hcp) (off : Nat) (data : Bytes) (readbackOk : Bool)
  | imageVerify (h : Hcp)
  | imageActivate (h : Hcp) (live : Bool) (ident : Word)
  | activationDrainEnd
  | activationFallback
  | imageCommit (h : Hcp)
  | imageStatus (h : Hcp)
  | rootRevoke (h : Hcp) (i : Nat)
  | keyWipe (h : Hcp)
  | bootDecision (bootsel : Bool) (fl : FlashView)
  | componentLoad (checks : List LoadCheck) (scan : EvrScan) (info : Option ImageInfo)
  | fwReady
  | bootTimeout
  | uartFrameReceive (data : Bytes)
  /- 14 power and wake -/
  | powerConfig (h : Hcp) (recs : List Param)
  | powerKeep (h : Hcp) (on : Bool)
  | powerLatency (h : Hcp) (us : Nat)
  | powerStandby (h : Hcp) (force : Bool)
  | powerStatus (h : Hcp)
  | powerStateEval
  | dozeHoldExpiry
  | napHoldExpiry
  | keepaliveSend
  | keepaliveReceive (port : Nat) (k : KeepAlive)
  | sleepNoticeReceive (port : Nat) (k : KeepAlive)
  | quietExpiry
  | sleepNoticeRepeat
  | wakeSwDebounce
  | externalInhWake
  | wakeTimerExpiry
  | heldWakeStart
  | pgRise (n : Nat)
  | pgTimeout (n : Nat)
  | xinValid
  | xinTimeout
  | pllLock
  | pllLockTimeout
  | wakeRetry
  | wakeOutSignal
  | pgFall (n : Nat)
  | pgLowTimeout (n : Nat)
  | vaonPowerOn
  | vaonLoss
  | porstAssert
  | porstRelease
  | pfailFall
  | pfailRise
  /- 15 recorder and ageing -/
  | evrReport (code : Nat) (data : Bytes)
  | evrSecondSummary
  | evrWriteBurst (answers : Bool)
  | evrCheckpoint
  | evrStagingFinal
  | evrConfig (h : Hcp) (entries : List BucketCfg)
  | evrRead (h : Hcp) (first count : Nat)
  | evrMark (h : Hcp) (data : Bytes)
  | evrFormat (h : Hcp) (nonce : BitVec 64) (floor : BitVec 64) (size : Nat)
  | evrStatus (h : Hcp)
  | agmMeasurement (m : AgmMeas)
  | avsStepSettle (margin : Int) (readVout : Nat)
  | agmDaily
  | agmConfig (h : Hcp) (recs : List Param)
  | agmStatus (h : Hcp)
  | agmMeasure (h : Hcp)
  /- the rows the table adds at its end -/
  | queueProducerWrite (t : Nat) (isRx : Bool) (q : Nat) (prod : Word)
  | dmaCompletionTimeout (t : Nat) (ring : RingRef)
  | pdelayReqSend (port : Nat)
  | syncTransmission (d : Departure) (dom : Nat)
  | latentErrorDetection (fn : Nat)
  | fullTransferRequest
  | wtbProcessDataPeriod (rx : List BusData)
  | wakeGraceExpiry
  | wakeSwRelease
  | segPhyPowerUp (sg : Nat)
  | rstoutRelease
  | ppsOutFall
  deriving DecidableEq, Repr

end Sys2Proof
end

