-- ==== Sys2Proof/Decode.lean ====
section
/-! DEFINITION. Decoding. The opcode table gives no row any bits: the commands of this block are accesses, messages and
events, not words. -/

namespace Sys2Proof

/-- The command a word spells by the table's bits: no row gives bits, so there is none. -/
def decodeTableWord (_nbits _w : Nat) : Option Instr := none

end Sys2Proof
end

