-- ==== Sys2Proof/Config.lean ====
section
/-! DEFINITION. What an implementation fixes and the spec does not give: constants without a body (the free values of
the model), so that no proof can see them. Each is named in the assumption log. -/

namespace Sys2Proof

/-- The `k`-th free value: a value the spec leaves open where it says that the machine goes on. -/
opaque Config.free : Nat → Nat

/-- The `k`-th draw of the true random number generator (R142, R358). -/
opaque Config.trng : Nat → BitVec 64

/-- The bucket, 0 to 8191 after reduction, that the FDB hash gives a key under a salt (R142; the spec does not give the
function): salt, MAC and FID. -/
opaque Config.fdbHash : BitVec 64 → Nat → Nat → Nat

/-- The proportional term of a servo (R37; the spec gives the loop's bandwidth and no gains): of the bandwidth in mHz and
the offset in ps, a signed correction in units of 2^-48 ns per tick. -/
opaque Config.servoP : Nat → Int → Int

/-- What an update adds to a servo's integral term, as `servoP`; its third argument is the time in ns since the servo's last
update, over which it integrates. -/
opaque Config.servoI : Nat → Int → Nat → Int

/-- The factory-calibrated latency of a segment's integrated PHY in ps, transmit and receive (Table 2-7). -/
opaque Config.sgTx : Nat → Nat
/-- See `sgTx`. -/
opaque Config.sgRx : Nat → Nat

/-- The entry that a 64-bit word of a memory (its ID of Table 1-5) belongs to: an entry takes as many words as the memory's
layout gives it, and the spec gives each memory's organisation and no word layout. -/
opaque Config.entryOf : Nat → Nat → Nat

/-- The last word of a variable of the Process Data Store, a part of which its value takes (R222; as `entryOf`). -/
opaque Config.pdTail : Nat → Nat

/-- The plain CRC-32 of the spec's stored and linked structures (R317, R329, Tables 8-3 and 8-9), of which it names
no polynomial. -/
opaque Config.crc32 : Bytes → Word

/-- The protected word, as memory ID and index, that backs a BAR0 register word (Table 1-6); memory ID 0, which no memory
has, where none does. -/
opaque Config.backing : Nat → Nat × Nat

/-- The port microengine, 0 to 11, that serves an external port (Table 1-5 gives twelve and no assignment). -/
opaque Config.engineOf : Nat → Nat

/-- The MAC address by which a node, by its unit ID, answers for its car (R210; the spec does not say how a node comes by
its MAC address). -/
opaque Config.nodeMac : UnitId → Mac

/-- The MAC address of a port of this device, by its unit ID (R76: the sender's port MAC address; the spec gives none). -/
opaque Config.portMac : UnitId → Nat → Mac

/-- The template tables of a schedule image (R90: they follow the header; the spec gives their fields and no layout); none
where they do not lie wholly within the image. -/
opaque Config.templateTables : Bytes → Option Templates

/-- The tenant that owns a stream of another node, by origin and stream_id: no admission frame carries it (R166, log). -/
opaque Config.streamOwner : UnitId → Nat → Nat

/-- The port whose external PHY answers an MDIO address: the board's wiring, which no rule gives (R173, log). -/
opaque Config.phyPort : Nat → Nat

/-- The IPv4 destination of a published ComID: Table 9-3 has no field for it (R229, log). -/
opaque Config.trdpDest : Word → Word

/-- The topology counter of a numbered node table (R211: as IEC 61375-2-5 defines it; the spec does not give it). -/
opaque Config.topoCount : Bytes → Word

/-- log10 and 10^x of the ageing projection in units of 2^-32 (R365; the spec does not give their rounding). -/
opaque Config.log10 : Nat → Int
/-- See `log10`: from units of 2^-32 to hours. -/
opaque Config.pow10 : Int → Int

/-- FEATURES_OFFERED, fixed by the firmware (R32, R295). -/
opaque Config.features : BitVec 128

/-- The offset of Device Control 2 in configuration space (R283; the spec does not place the PCIe capability). -/
opaque Config.devCtl2 : Nat

/-- The offsets of the MSI-X, AER and PTM capabilities in configuration space (Table 12-1; as `devCtl2`). -/
opaque Config.msixCap : Nat
/-- See `msixCap`. -/
opaque Config.aerCap : Nat
/-- See `msixCap`. -/
opaque Config.ptmCap : Nat

/-- The factory slope of the replicas' slack over VDD_CORE, in fs per mV (R365). -/
opaque Config.factorySlope : Int

/-- What the factory temperature coefficients add to a slack measured at a Tj in 0.1 °C to bring it to 125 °C, in ps (R365). -/
opaque Config.tempShift : Int → Int

/-- The mode the core regulator reports by VOUT_MODE is linear (R364). -/
opaque Config.voutLinear : Bool

end Sys2Proof
end

