-- ==== Sys2Proof/Machine/Crypto.lean ====
section
/-! DEFINITION. The checks and signatures the spec names by their standards: AES-128-CMAC (R302; R304 gives a vector),
SHA-256 and ECDSA P-256 (R90, R257, R318), CRC-8 (Table 15-2) and the CRC-32 of R248. Bytes are natural numbers
below 256. -/

namespace Sys2Proof.Machine

/-! ## AES-128-CMAC -/

/-- The AES S-box, byte i at bits 8i to 8i + 7. -/
def aesBox : Nat := 0x16bb54b00f2d99416842e6bf0d89a18cdf2855cee9871e9b948ed9691198f8e19e1dc186b95735610ef6034866b53e708a8bbd4b1f74dde8c6b4a61c2e2578ba08ae7a65eaf4566ca94ed58d6d37c8e779e4959162acd3c25c2406490a3a32e0db0b5ede14b8ee4688902a22dc4f816073195d643d7ea7c41744975fec130ccdd2f3ff1021dab6bcf5389d928f40a351a89f3c507f02f94585334d43fbaaefd0cf584c4a39becb6a5bb1fc20ed00d153842fe329b3d63b52a05a6e1b1a2c830975b227ebe28012079a059618c323c7041531d871f1e5a534ccf73f362693fdb7c072a49cafa2d4adf04759fa7dc982ca76abd7fe2b670130c56f6bf27b777c63

/-- One byte through the S-box. -/
def aesSub (b : Nat) : Nat := (aesBox >>> (8 * b)) % 256

/-- Multiplication by x in the field of AES. -/
def aesX (b : Nat) : Nat := if b < 128 then 2 * b else (2 * b) ^^^ 0x11b

/-- Byte-wise exclusive or. -/
def xorBytes (a b : List Nat) : List Nat := List.zipWith (fun x y => x ^^^ y) a b

/-- The next round key from a round key of 16 bytes and the round constant. -/
def aesNextKey (k : List Nat) (rc : Nat) : List Nat :=
  let g := fun i => k.getD i 0
  let t := [aesSub (g 13) ^^^ rc, aesSub (g 14), aesSub (g 15), aesSub (g 12)]
  let w0 := xorBytes (k.take 4) t
  let w1 := xorBytes ((k.drop 4).take 4) w0
  let w2 := xorBytes ((k.drop 8).take 4) w1
  let w3 := xorBytes (k.drop 12) w2
  w0 ++ w1 ++ w2 ++ w3

/-- The S-box on every byte, then the rotation of the rows. -/
def aesSubShift (s : List Nat) : List Nat :=
  [0, 5, 10, 15, 4, 9, 14, 3, 8, 13, 2, 7, 12, 1, 6, 11].map fun i => aesSub (s.getD i 0)

/-- One column through MixColumns. -/
def aesMixCol (a b c d : Nat) : List Nat :=
  let t := a ^^^ b ^^^ c ^^^ d
  [a ^^^ t ^^^ aesX (a ^^^ b), b ^^^ t ^^^ aesX (b ^^^ c), c ^^^ t ^^^ aesX (c ^^^ d), d ^^^ t ^^^ aesX (d ^^^ a)]

/-- MixColumns on 16 bytes. -/
def aesMix (s : List Nat) : List Nat :=
  let g := fun i => s.getD i 0
  aesMixCol (g 0) (g 1) (g 2) (g 3) ++ aesMixCol (g 4) (g 5) (g 6) (g 7)
    ++ aesMixCol (g 8) (g 9) (g 10) (g 11) ++ aesMixCol (g 12) (g 13) (g 14) (g 15)

/-- The rounds that follow the first key addition, by their round constants. -/
def aesRounds (k s : List Nat) (rcs : List Nat) : List Nat :=
  match rcs with
  | [] => s
  | [rc] => xorBytes (aesSubShift s) (aesNextKey k rc)
  | rc :: rest =>
    let k' := aesNextKey k rc
    aesRounds k' (xorBytes (aesMix (aesSubShift s)) k') rest

/-- AES-128 on one block. -/
def aes (key block : List Nat) : List Nat :=
  aesRounds key (xorBytes block key) [1, 2, 4, 8, 16, 32, 64, 128, 0x1b, 0x36]

/-- A number as `n` bytes, most significant first. -/
def beNat (n v : Nat) : List Nat := (List.range n).map fun i => (v >>> (8 * (n - 1 - i))) % 256

/-- Bytes, most significant first, as a number. -/
def ofBe (b : List Nat) : Nat := b.foldl (fun a x => a * 256 + x) 0

/-- Doubling in the field of CMAC. -/
def cmacDouble (b : List Nat) : List Nat :=
  let v := 2 * ofBe b
  beNat 16 (if v < 2 ^ 128 then v else (v - 2 ^ 128) ^^^ 0x87)

/-- The chain of CMAC over the blocks, with the fuel of their number. -/
def cmacChain (key k1 k2 : List Nat) : Nat → List Nat → List Nat → List Nat
  | 0, x, _ => x
  | n + 1, x, m =>
    if m.length = 16 then aes key (xorBytes x (xorBytes m k1))
    else if m.length < 16 then
      aes key (xorBytes x (xorBytes (m ++ 0x80 :: List.replicate (15 - m.length) 0) k2))
    else cmacChain key k1 k2 n (aes key (xorBytes x (m.take 16))) (m.drop 16)

/-- The full AES-128-CMAC of a message under a key, as 16 bytes. -/
def cmacBytes (key msg : List Nat) : List Nat :=
  let k1 := cmacDouble (aes key (List.replicate 16 0))
  cmacChain key k1 (cmacDouble k1) (msg.length / 16 + 1) (List.replicate 16 0) msg

/-- The CMAC truncated to its first 96 bits, as the number its 12 bytes spell in their order (R302). -/
def cmac96 (key : BitVec 128) (msg : Bytes) : BitVec 96 :=
  BitVec.ofNat 96 (ofBe ((cmacBytes (beNat 16 key.toNat) (msg.map BitVec.toNat)).take 12))

/-! ## SHA-256 -/

/-- The round constants of SHA-256, constant i at bits 32i to 32i + 31. -/
def shaK : Nat := 0xc67178f2bef9a3f7a4506ceb90befffa8cc7020884c8781478a5636f748f82ee682e6ff35b9cca4f4ed8aa4a391c0cb334b0bcb52748774c1e376c0819a4c116106aa070f40e3585d6990624d192e819c76c51a3c24b8b70a81a664ba2bfe8a192722c8581c2c92e766a0abb650a735453380d134d2c6dfc2e1b213827b70a851429296706ca6351d5a79147c6e00bf3bf597fc7b00327c8a831c66d983e515276f988da5cb0a9dc4a7484aa2de92c6f240ca1cc0fc19dc6efbe4786e49b69c1c19bf1749bdc06a780deb1fe72be5d74550c7dc3243185be12835b01d807aa98ab1c5ed5923f82a459f111f13956c25be9b5dba5b5c0fbcf71374491428a2f98

/-- A 32-bit word twice over: the low 32 bits of a shift of it to the right are the word rotated. -/
def twice32 (x : Nat) : Nat := x * 0x100000001

/-- The 64 words of the message schedule, latest first, from the first 16. -/
def shaExtend : Nat → List Nat → List Nat
  | 0, w => w
  | n + 1, w =>
    let x := w.getD 14 0
    let y := w.getD 1 0
    let s0 := ((twice32 x >>> 7) ^^^ (twice32 x >>> 18)) % 0x100000000 ^^^ (x >>> 3)
    let s1 := ((twice32 y >>> 17) ^^^ (twice32 y >>> 19)) % 0x100000000 ^^^ (y >>> 10)
    shaExtend n (((w.getD 15 0 + s0 + w.getD 6 0 + s1) % 0x100000000) :: w)

/-- One round of SHA-256 on the eight working variables, with a word of the schedule and its constant added. -/
def shaRound (v : List Nat) (kw : Nat) : List Nat :=
  match v with
  | [a, b, c, d, e, f, g, h] =>
    let x := twice32 e
    let y := twice32 a
    let t1 := h + ((x >>> 6) ^^^ (x >>> 11) ^^^ (x >>> 25)) % 0x100000000 + (g ^^^ (e &&& (f ^^^ g))) + kw
    [(t1 + ((y >>> 2) ^^^ (y >>> 13) ^^^ (y >>> 22)) % 0x100000000 + ((a &&& (b ^^^ c)) ^^^ (b &&& c))) % 0x100000000,
     a, b, c, (d + t1) % 0x100000000, e, f, g]
  | _ => v

/-- One block of 64 bytes. -/
def shaBlock (h : List Nat) (b : List Nat) : List Nat :=
  let w := (shaExtend 48 ((List.range 16).map fun i => ofBe ((b.drop (4 * i)).take 4)).reverse).reverse
  let v := (List.zipWith (fun i x => (shaK >>> (32 * i)) % 0x100000000 + x) (List.range 64) w).foldl shaRound h
  List.zipWith (fun x y => (x + y) % 2 ^ 32) h v

/-- The blocks of a padded message. -/
def shaBlocks : Nat → List Nat → List Nat → List Nat
  | 0, h, _ => h
  | n + 1, h, m => shaBlocks n (shaBlock h (m.take 64)) (m.drop 64)

/-- SHA-256. -/
def sha256 (m : Bytes) : BitVec 256 :=
  let n := m.length
  let pad := m.map BitVec.toNat ++ 0x80 :: List.replicate ((119 - n % 64) % 64) 0 ++ beNat 8 (8 * n)
  let h0 := [0x6a09e667, 0xbb67ae85, 0x3c6ef372, 0xa54ff53a, 0x510e527f, 0x9b05688c, 0x1f83d9ab, 0x5be0cd19]
  BitVec.ofNat 256 ((shaBlocks (pad.length / 64) h0 pad).foldl (fun a x => a * 2 ^ 32 + x) 0)

/-! ## ECDSA P-256 -/

/-- The prime of P-256. -/
def p256P : Nat := 0xffffffff00000001000000000000000000000000ffffffffffffffffffffffff
/-- The order of P-256. -/
def p256N : Nat := 0xffffffff00000000ffffffffffffffffbce6faada7179e84f3b9cac2fc632551
/-- The coefficient b of P-256. -/
def p256B : Nat := 0x5ac635d8aa3a93e7b3ebbd55769886bc651d06b0cc53b0f63bce3c3e27d2604b
/-- The base point of P-256. -/
def p256G : Nat × Nat :=
  (0x6b17d1f2e12c4247f8bce6e563a440f277037d812deb33a0f4a13945d898c296,
   0x4fe342e2fe1a7f9b8ee7eb4a7c0f9e162bce33576b315ececbb6406837bf51f5)

/-- Exponentiation modulo `m` over the low `k` bits of the exponent. -/
def powMod (m : Nat) : Nat → Nat → Nat → Nat
  | 0, _, _ => 1
  | k + 1, b, e => if e % 2 = 1 then b * powMod m k (b * b % m) (e / 2) % m else powMod m k (b * b % m) (e / 2)

/-- The inverse modulo a prime. -/
def invMod (m a : Nat) : Nat := powMod m 256 (a % m) (m - 2)

/-- Addition of points; `none` is the point at infinity. -/
def ecAdd (a b : Option (Nat × Nat)) : Option (Nat × Nat) :=
  match a, b with
  | none, q => q
  | q, none => q
  | some (x1, y1), some (x2, y2) =>
    if x1 = x2 ∧ (y1 + y2) % p256P = 0 then none
    else
      let l := if x1 = x2 then (3 * x1 * x1 + (p256P - 3)) * invMod p256P (2 * y1)
               else (y2 + p256P - y1) * invMod p256P (x2 + p256P - x1)
      let x3 := (l * l + 2 * p256P - x1 - x2) % p256P
      some (x3, (l % p256P * (x1 + p256P - x3) + p256P - y1) % p256P)

/-- Multiplication of a point over the low `k` bits of the factor. -/
def ecMul : Nat → Nat → Option (Nat × Nat) → Option (Nat × Nat)
  | 0, _, _ => none
  | k + 1, e, q => if e % 2 = 1 then ecAdd q (ecMul k (e / 2) (ecAdd q q)) else ecMul k (e / 2) (ecAdd q q)

/-- ECDSA P-256 verification: public key and signature of 64 bytes each (x then y, r then s, big-endian), digest. -/
def ecdsaOk (key sig : BitVec 512) (digest : BitVec 256) : Bool :=
  let x := key.toNat / 2 ^ 256
  let y := key.toNat % 2 ^ 256
  let r := sig.toNat / 2 ^ 256
  let s := sig.toNat % 2 ^ 256
  if r = 0 ∨ s = 0 ∨ p256N ≤ r ∨ p256N ≤ s ∨ p256P ≤ x ∨ p256P ≤ y
      ∨ y * y % p256P ≠ (x * x * x + (p256P - 3) * x + p256B) % p256P then false
  else
    let w := invMod p256N s
    match ecAdd (ecMul 256 (digest.toNat * w % p256N) (some p256G)) (ecMul 256 (r * w % p256N) (some (x, y))) with
    | none => false
    | some (px, _) => px % p256N = r

/-! ## Cyclic redundancy checks -/

/-- `k` steps of a CRC register of width `w`. -/
def crcSteps (w poly : Nat) : Nat → Nat → Nat
  | 0, c => c
  | k + 1, c => crcSteps w poly k (if c < 2 ^ (w - 1) then 2 * c else (2 * c - 2 ^ w) ^^^ poly)

/-- A CRC of width `w`, bytes taken in order, most significant bit first, no final XOR. -/
def crcMsb (w poly init : Nat) (b : Bytes) : Nat :=
  b.foldl (fun c x => crcSteps w poly 8 (c ^^^ (x.toNat <<< (w - 8)))) init

/-- CRC-32 of the safety code: polynomial 0x1EDC6F41, not reflected, no final XOR (R248, R257). -/
def crcSafety (seed : Word) (b : Bytes) : Word := BitVec.ofNat 32 (crcMsb 32 0x1EDC6F41 seed.toNat b)

/-- CRC-8 of a windrow: polynomial 0x07, initial value 0x00 (Table 15-2). -/
def crc8 (b : Bytes) : Byte := BitVec.ofNat 8 (crcMsb 8 0x07 0 b)

end Sys2Proof.Machine
end

