-- ==== Sys2Proof/Machine/Table.lean ====
section
/-! DEFINITION. Sparse tables: the fixed arrays of the spec (windows, slots, TAUs, tenants, ports ...) as plain data in
one canonical form: keys strictly rising, no entry equal to the table's default. -/

namespace Sys2Proof.Machine

/-- A sparse table from numbers to entries. An unlisted key holds the table's default, which each accessor is given. -/
abbrev Table (α : Type) := List (Nat × α)

/-- What key `k` holds. -/
def tget {α : Type} (d : α) (t : Table α) (k : Nat) : α :=
  match t with
  | [] => d
  | (j, a) :: r => if j = k then a else tget d r k

/-- The table without key `k`. -/
def tdel {α : Type} (t : Table α) (k : Nat) : Table α :=
  match t with
  | [] => []
  | (j, a) :: r => if j = k then tdel r k else (j, a) :: tdel r k

/-- The table with `(k, v)` put at its place among the keys. -/
def tins {α : Type} (t : Table α) (k : Nat) (v : α) : Table α :=
  match t with
  | [] => [(k, v)]
  | (j, a) :: r =>
    if k < j then (k, v) :: (j, a) :: r
    else if k = j then (k, v) :: r
    else (j, a) :: tins r k v

/-- The table in which key `k` holds `v`: an entry equal to the default is not listed. -/
def tset {α : Type} [DecidableEq α] (d : α) (t : Table α) (k : Nat) (v : α) : Table α :=
  if v = d then tdel t k else tins t k v

/-- The table in which key `k` holds `f` of what it held. -/
def tmod {α : Type} [DecidableEq α] (d : α) (t : Table α) (k : Nat) (f : α → α) : Table α :=
  tset d t k (f (tget d t k))

/-- The canonical form: keys strictly rising and no entry equal to the default. -/
def tkeysFrom {α : Type} : Nat → Table α → Bool
  | _, [] => true
  | b, (j, _) :: r => decide (b ≤ j) && tkeysFrom (j + 1) r

/-- A table is in canonical form. -/
def twf {α : Type} [DecidableEq α] (d : α) (t : Table α) : Bool :=
  tkeysFrom 0 t && t.all (fun e => decide (e.2 ≠ d))

/-- Every listed entry mapped by `f`, those that become the default dropped. -/
def tmap {α : Type} [DecidableEq α] (d : α) (t : Table α) (f : Nat → α → α) : Table α :=
  t.filterMap fun e => let v := f e.1 e.2; if v = d then none else some (e.1, v)

/-- A set of numbers: a strictly rising list. -/
abbrev NatSet := List Nat

/-- `k` put into the set. -/
def sadd (t : NatSet) (k : Nat) : NatSet :=
  match t with
  | [] => [k]
  | j :: r => if k < j then k :: j :: r else if k = j then j :: r else j :: sadd r k

/-- `k` taken out of the set. -/
def sdel (t : NatSet) (k : Nat) : NatSet := t.filter (fun j => j != k)

end Sys2Proof.Machine
end

