-- ==== Sys2Proof/Machine/State/Fabric.lean ====
section
/-! DEFINITION. The state of the Forwarding Fabric: Brine, queues, sluices, stream table, FRER, PRP, FDB and bittern
(spec/05_forwarding_fabric.md). -/

namespace Sys2Proof.Machine

/-- A frame held in Brine (R122): its cells by the account that supplied them, and how many egress queues refer to it. -/
structure Held where
  frame : Frame
  ingress : Nat
  tenant : Nat
  cls : Nat
  /-- index of the stream table entry it hit -/
  stream : Option Nat
  conforming : Bool
  /-- ingress stamp, TRT in units of 2^-48 ns -/
  stamp : Nat
  /-- trt_epoch at ingress (R162) -/
  epoch : BitVec 8
  clsCells : Nat
  streamCells : Nat
  portCells : Nat
  sharedCells : Nat
  refs : Nat
  /-- a host TX descriptor that waits for its departure: tenant, queue, descriptor index (R292) -/
  txRef : Option (Nat × Nat × Word)
  /-- the PRP pairs to which it goes and the RCT number it carries on both ports of each (R140) -/
  rcts : List (Nat × BitVec 16) := []
  deriving DecidableEq, Repr

/-- The account sizes set by BRINE_CONFIG (Table 5-4), at their defaults; `guards` holds the ingress guarantees that
differ from the default of their port type. -/
structure BrineCfg where
  guards : Table (Option Nat) := []
  tc7 : Nat := 2048
  tc6 : Nat := 2048
  pool : Nat := 16384
  lowMark : Nat := 4096
  deriving DecidableEq, Repr

/-- The class settings of CLASS_CONFIG that differ from their defaults (R123, R126, Table 5-2). -/
structure ClassCfg where
  /-- exponent k of α per class; default 3 for TC7 and TC6, 1 for TC5 and TC4, 0 below -/
  alpha : Table (Option Int) := []
  /-- weight per class; default 64, 32, 16, 8 for TC3 to TC0 -/
  weight : Table (Option Nat) := []
  /-- weight per lane; default 1 -/
  lane : Table (Option Nat) := []
  /-- lane per tenant; default tenant mod 16 -/
  tenantLane : Table (Option Nat) := []
  /-- class of remote HCP frames; default TC3 -/
  remoteHcp : Nat := 3
  deriving DecidableEq, Repr

/-- Deficit round robin of one set of queues: the deficits and the one served last. -/
structure Dwrr where
  deficit : Table Nat := []
  pos : Nat := 0
  deriving DecidableEq, Repr

/-- The tag settings of a port (Table 5-7). -/
structure TagPort where
  pvid : Nat := 1
  acceptTagged : Bool := true
  acceptUntagged : Bool := true
  pcp : Nat := 0
  deriving DecidableEq, Repr

/-- The settings of a VLAN (R116, R138, R141). -/
structure Vlan where
  tenant : Nat := 0
  /-- FID; none = VID -/
  fid : Option Nat := none
  members : BitVec 128 := 0
  untagged : BitVec 128 := 0
  deriving DecidableEq, Repr

/-- The load of an egress that a per-hop bound takes in (Table 6-2): B6 + Σ b_k in bytes, and ρ_hi in bit/s. -/
structure HopLoad where
  burst : Nat := 0
  rho : Nat := 0
  deriving DecidableEq, Repr

/-- A stream table entry (R136) with its reservation, meter and figures (R165, R166). -/
structure Stream where
  origin : UnitId
  streamId : Nat
  /-- attempt number of the origin and hop index in the path, from 1 -/
  txn : Nat
  hop : Nat
  /-- source MAC and VLAN identification (else destination MAC and VLAN) -/
  bySource : Bool
  mac : Mac
  vlan : Nat
  /-- ingress port; none = any -/
  port : Option Nat
  egress : Nat
  maxSdu : Nat
  /-- bit/s -/
  cir : Nat
  /-- bytes -/
  cbs : Nat
  eir : Nat
  ebs : Nat
  yellowDiscard : Bool
  /-- the meter's coupling: tokens that overflow the committed bucket fill the excess one (R136); no command sets it -/
  coupled : Bool := false
  cls : Nat
  owner : Nat
  /-- per-hop bound in ns -/
  bound : Nat
  frer : Bool
  lineB : Bool
  deliverInWindow : Bool
  /-- reserved Brine cells -/
  cells : Nat
  /-- reserved bandwidth, bit/s -/
  rate : Nat
  /-- b_k: burst with the growth upstream can cause, bytes (Table 6-2) -/
  bk : Nat
  /-- the origin's state, mirrored (R161): the stream has become ACTIVE, and it is SUSPENDED -/
  active : Bool := false
  suspended : Bool := false
  /-- the load its bound was installed with (R162) -/
  load : HopLoad := {}
  /-- its egress has gone down, and the neighbour behind it at the installation (R161) -/
  lost : Bool := false
  neighbour : UnitId := 0
  /-- its sequence recovery function, 0 to 4095 (R139) -/
  fn : Nat := 0
  usedCells : Nat := 0
  /-- committed and excess tokens in bits times 10^9, and the model time they were brought up to -/
  ctok : Nat := 0
  etok : Nat := 0
  at_ : Nat := 0
  green : Nat := 0
  yellow : Nat := 0
  red : Nat := 0
  oversize : Nat := 0
  late : Nat := 0
  dropped : Nat := 0
  /-- worst residence in ns -/
  worst : Nat := 0
  deriving DecidableEq, Repr

/-- A sequence recovery function (R139): IEEE 802.1CB vector recovery with a history of 32, and its counters. -/
structure Recovery where
  takeAny : Bool := true
  seq : BitVec 16 := 0
  history : BitVec 32 := 0
  lastAt : Nat := 0
  timeoutMs : Nat := 100
  latentOn : Bool := false
  outOfOrder : Nat := 0
  rogue : Nat := 0
  passed : Nat := 0
  discarded : Nat := 0
  lost : Nat := 0
  tagless : Nat := 0
  resets : Nat := 0
  latentErrors : Nat := 0
  /-- the base of the latent error test, and the model times of the last reset of it and of the last test -/
  base : Int := 0
  baseAt : Nat := 0
  testedAt : Nat := 0
  deriving DecidableEq, Repr

/-- An entry of the PRP node table (R140). -/
structure PrpNode where
  mac : Mac
  seenA : Nat
  seenB : Nat
  wrongLan : Nat
  lastAt : Nat
  deriving DecidableEq, Repr

/-- A PRP duplicate entry: pair, source, sequence number and time (R140). -/
structure PrpDup where
  pair : Nat
  mac : Mac
  seq : BitVec 16
  at_ : Nat
  deriving DecidableEq, Repr

/-- The PRP state. -/
structure Prp where
  enabled : NatSet := []
  seq : Table (BitVec 16) := []
  supSeq : Table (BitVec 16) := []
  /-- nominal instant of the last supervision frames of a pair (LifeCheckInterval) -/
  supAt : Table (Option Nat) := []
  nodes : List PrpNode := []
  dups : List PrpDup := []
  deriving DecidableEq, Repr

/-- An FDB entry (R141). -/
structure FdbEntry where
  mac : Mac
  fid : Nat
  dest : FdbDest
  isStatic : Bool
  tenant : Nat
  /-- model time of the last traffic -/
  seenAt : Nat
  /-- placed under the new salt of a re-salt -/
  newGen : Bool
  inCam : Bool
  /-- its place in the CAM -/
  slot : Nat := 0
  deriving DecidableEq, Repr

/-- Re-salt states (Table 5-8). -/
inductive Resalt where
  | idle | migrating | camSweep | stuck
  deriving DecidableEq, Repr

/-- The forwarding database. -/
structure Fdb where
  /-- entries in order of arrival. Reset: none. -/
  entries : List FdbEntry := []
  /-- port mask table, 1024 entries (R141). Reset: DESIGN CHOICE 0. -/
  masks : Table (BitVec 128) := []
  /-- the current salt, as drawn at boot (R142); the value is `Config.trng` of this draw. -/
  salt : Nat := 0
  /-- the new salt's draw during a re-salt (R145). -/
  newSalt : Nat := 0
  /-- salt_gen, 4 bits (Table 5-11). Reset: 0x0. -/
  saltGen : Nat := 0
  /-- resalt_state (Table 5-11). Reset: IDLE. -/
  resalt : Resalt := .idle
  pass : Nat := 0
  /-- a trigger held until IDLE (R145). -/
  heldTrigger : Bool := false
  /-- the held trigger is automatic: its conditions are tested when the state returns to IDLE (R144). -/
  heldAuto : Bool := false
  /-- model time of the last re-salt start. -/
  lastResalt : Option Nat := none
  /-- learn_fail, 32-bit wrapping. Reset: DESIGN CHOICE 0. -/
  learnFail : Word := 0
  /-- model times of the learn_fail increments of the last second (R144). -/
  failTimes : List Nat := []
  /-- FF_FDB_RESALTS, 32-bit wrapping. Reset: 0. -/
  resalts : Word := 0
  /-- fdb_full condition (Table 5-11). Reset: 0. -/
  full : Bool := false
  /-- aging_time in s. Reset: 300. -/
  aging : Nat := 300
  /-- learn_limit per port where it is not 4096 (R143). -/
  learnLimit : Table (Option Nat) := []
  /-- ports on which learning is disabled (R143). -/
  noLearn : NatSet := []
  deriving DecidableEq, Repr

/-- A watch counter (R147). -/
structure Watch where
  filter : WatchFilter
  owner : Nat
  frames : BitVec 64
  bytes : BitVec 64
  deriving DecidableEq, Repr

/-- A last-discard record (R148): words 0 to 2, the live count of word 3, and the latched words 1 to 3. -/
structure LastDiscard where
  w0 : Word := 0
  w1 : Word := 0
  w2 : Word := 0
  live : Nat := 0
  l1 : Word := 0
  l2 : Word := 0
  l3 : Word := 0
  deriving DecidableEq, Repr

/-- Bittern (R146 to R151). -/
structure Bittern where
  /-- per-port counters by p × 16 + r, 64 bits wrapping. Reset: DESIGN CHOICE 0. -/
  ports : Table (BitVec 64) := []
  /-- per-tenant counters by t × 16 + r, 64 bits wrapping. Reset: DESIGN CHOICE 0. -/
  tenants : Table (BitVec 64) := []
  /-- watch counters 0 to 15. Reset: not armed. -/
  watches : Table (Option Watch) := []
  /-- last-discard records by tenant. Reset: DESIGN CHOICE 0. -/
  last : Table LastDiscard := []
  /-- the high half latched by the most recent _LO read (R151). Reset: DESIGN CHOICE 0. -/
  latchHi : Word := 0
  /-- FF_LATCH_TAG, 20 bits. Reset: DESIGN CHOICE 0. -/
  latchTag : Word := 0
  /-- by p × 16 + r the TRT second, plus 1, of the last first-discard windrow (R149). -/
  told : Table Nat := []
  deriving DecidableEq, Repr

/-- The sluice of an egress port (R129, R130). -/
structure Sluice where
  bank0 : Option SluiceBank := none
  bank1 : Option SluiceBank := none
  /-- the active bank. Reset: DESIGN CHOICE 0. -/
  active : Nat := 0
  /-- T_fire of the activation, or the CSS origin, linear ns -/
  start : Nat := 0
  /-- number of the present cycle and entry -/
  cycle : Nat := 0
  entry : Nat := 0
  /-- gate states applied, bit n = TCn open. Reset: all open (DESIGN CHOICE; R14 gives it without time service). -/
  gates : BitVec 8 := 255
  /-- TC6 bytes sent in this cycle (R158) -/
  tc6Bytes : Nat := 0
  deriving DecidableEq, Repr

/-- A TC6 policer (R117): the rate in bit/s and depth in bytes that were set, the tokens (bits × 10^9), their time. -/
structure Policer where
  rate : Option Nat := none
  depth : Nat := 2048
  used : Bool := false
  tokens : Nat := 0
  at_ : Nat := 0
  deriving DecidableEq, Repr

/-- The Forwarding Fabric. -/
structure Fabric where
  /-- fabric_ready (Table 5-11). Reset: 0. -/
  ready : Bool := false
  /-- FF_ALARM, 12 bits W1C (Table 5-12). Reset: 0. -/
  alarm : Word := 0
  /-- FF_ALARM_EN. Reset: 0. -/
  alarmEn : Word := 0
  /-- the Brine account sizes (Table 5-4). -/
  brine : BrineCfg := {}
  /-- cells drawn on the ingress guarantees by port (R122). Reset: none. -/
  portUsed : Table Nat := []
  /-- cells drawn on the TC7 reserve. Reset: 0. -/
  tc7Used : Nat := 0
  /-- cells drawn on the TC6 reserve. Reset: 0. -/
  tc6Used : Nat := 0
  /-- cells drawn on the shared remainder. Reset: 0. -/
  sharedUsed : Nat := 0
  /-- FF_BRINE_SHARED_MIN. Reset: DESIGN CHOICE 41168, the free count at reset. -/
  sharedMin : Nat := 41168
  /-- FF_ARB_PTR, 0 to 100 (R124). Reset: DESIGN CHOICE 0. -/
  arbPtr : Nat := 0
  /-- the frames in Brine by number. Reset: none. -/
  held : Table (Option Held) := []
  /-- the next frame number. -/
  nextId : Nat := 0
  /-- egress queues by port × 8 + class, oldest frame first. Reset: empty. -/
  queues : Table (List Nat) := []
  /-- class settings in force. -/
  cls : ClassCfg := {}
  /-- ports at which a changed class setting waits for the next frame boundary (R126), with the settings before. -/
  oldCls : Table (Option ClassCfg) := []
  /-- DWRR among TC3 to TC0 by port (R126). -/
  dwrr : Table Dwrr := []
  /-- DWRR among tenant lanes by port × 8 + class (R126). -/
  lanes : Table Dwrr := []
  /-- tag settings by port (Table 5-7). -/
  tags : Table TagPort := []
  /-- VLAN settings by VID; VLAN 1 holds every port until configured. -/
  vlans : Table (Option Vlan) := []
  /-- stream table entries by index, 0 to 8191 (R136). Reset: none. -/
  streams : Table (Option Stream) := []
  /-- R-TAG sequence numbers by stream index (R139). -/
  frerGen : Table (BitVec 16) := []
  /-- recovery functions by number, 0 to 4095 (R139). -/
  recovery : Table Recovery := []
  /-- the PRP state (R140). -/
  prp : Prp := {}
  /-- the forwarding database (R141). -/
  fdb : Fdb := {}
  /-- bittern (R146). -/
  bit : Bittern := {}
  /-- sluices by egress port 0 to 95 (R129). -/
  sluices : Table Sluice := []
  /-- admitted_enabled (Table 5-11). Reset: 0. -/
  admitted : Bool := false
  /-- TC6 policers by ingress port (R117). -/
  policers : Table Policer := []
  /-- FF_CT_FRAMES, 32-bit wrapping. Reset: DESIGN CHOICE 0. -/
  ctFrames : Word := 0
  /-- FF_CT_STOMPS, 32-bit wrapping. Reset: DESIGN CHOICE 0. -/
  ctStomps : Word := 0
  /-- FF_GV_COUNT, 32-bit wrapping. Reset: DESIGN CHOICE 0. -/
  gvCount : Word := 0
  deriving DecidableEq, Repr

end Sys2Proof.Machine
end

