-- ==== Sys2Proof/Machine/State/Admission.lean ====
section
/-! DEFINITION. The state of the Admission Engine (spec/06_stream_admission.md). -/

namespace Sys2Proof.Machine

/-- Stream states at the origin (Table 6-4). -/
inductive StreamState where
  | preparing | installing | active | suspended
  deriving DecidableEq, Repr

/-- A stream at its origin (R161, R307). -/
structure OriginStream where
  /-- stream_id: names the attempt until ACTIVE gives it to the requester -/
  streamId : Nat
  txn : Nat
  req : StreamReq
  owner : Nat
  /-- the command that waits for completion -/
  hcp : Option Hcp
  state : StreamState
  path : List PathHop
  /-- with frer the hops on line B, while `path` has those on line A; each ends with the last hop -/
  pathB : List PathHop := []
  /-- per path hop the D_hop of the reply; the key of hop i is i, with frer on line B 64 + i -/
  dHops : Table Nat
  /-- sums of the link delays of the two, ns -/
  linkDelay : Nat
  linkDelayB : Nat := 0
  sum : Nat
  /-- model time of the PREPARE -/
  at_ : Nat
  /-- T_act, TRT linear ns -/
  tAct : Nat
  confirmed : NatSet
  /-- path ports now down: (position, port) -/
  down : List PathHop
  /-- model time of suspension -/
  suspendedAt : Nat
  deriving DecidableEq, Repr

/-- A hold at a hop node (R159, R160), and after INSTALL its activation instant. -/
structure Hold where
  name : StreamName
  /-- hop index in the path, from 1 -/
  hop : Nat
  port : Nat
  /-- the ingress port of the stream at this node -/
  inPort : Nat
  prep : Prepare
  dHop : Nat
  load : HopLoad := {}
  burst : Nat
  rate : Nat
  cells : Nat
  at_ : Nat
  installAt : Option Nat
  deriving DecidableEq, Repr

/-- The Admission Engine. -/
structure Admission where
  /-- streams of which this node is the origin. Reset: none. -/
  streams : List OriginStream := []
  /-- holds at this node's egress ports. Reset: none. -/
  holds : List Hold := []
  /-- refusals of this node that wait for the REPLY of their attempt (R307). Reset: none. -/
  refusals : List (StreamName × FailRec) := []
  /-- cap in percent (R156). Reset: 75. -/
  cap : Nat := 75
  /-- TC6 allowance burst per port in bytes where it is not 4096 (Table 6-2). -/
  tc6Burst : Table (Option Nat) := []
  /-- TC6 allowance rate per port in bit/s where it is not 2 % of the line rate (Table 6-2). -/
  tc6Rate : Table (Option Nat) := []
  /-- cable_delay per port in ns where it is not 500 (Table 6-2). -/
  cable : Table (Option Nat) := []
  /-- suspend_hold in s (R161). Reset: 10. -/
  suspendHold : Nat := 10
  /-- the next stream_id and attempt number. Reset: DESIGN CHOICE 1. -/
  nextId : Nat := 1
  nextTxn : Nat := 1
  /-- tc6_over by port: the last sluice cycle exceeded its allowance (R158). Reset: none. -/
  tc6Over : NatSet := []
  deriving DecidableEq, Repr

end Sys2Proof.Machine
end

