-- ==== Sys2Proof/Machine/State/Css.lean ====
section
/-! DEFINITION. The state of the Cyclic Slot Service (spec/03_cyclic_slot_service.md). -/

namespace Sys2Proof.Machine

/-- CSS node states (Tables 3-6 and 3-9). -/
inductive CssState where
  | stopped | listen | coldstart | integrating | active | leader | waitStart
  deriving DecidableEq, Repr

/-- A transmit slot entry (Table 3-1) with its double buffer and counts (R75). -/
structure TxSlot where
  slotId : Nat
  /-- transmit instant within the pan, 10 ns units -/
  offset : Nat
  length : Nat
  periodLog2 : Nat
  phase : Nat
  /-- 0 data, 1 commit token, 2 survey report -/
  kind : Nat
  producer : Nat
  repeatOn : Bool
  /-- shared between the devices of a twin pair (R215) -/
  shared : Bool
  /-- the ready mark. Reset: 0 (CSS_TX_STAT). -/
  ready : Bool := false
  /-- the committed half of the double buffer -/
  data : Bytes := []
  /-- a shared commit that waits for the partner's acknowledgement (R215) -/
  mirrored : Option Bytes := none
  /-- model time of the last commit -/
  commitAt : Nat := 0
  /-- the frame built at the fetch instant and not yet sent: its prod_seq and body -/
  built : Option (Word × CssBody) := none
  /-- token or survey report waiting for its slot (R105, R108) -/
  waiting : Option CssBody := none
  /-- prod_seq of the last commit, and of the half that is ready or was -/
  prodSeq : Word := 0
  dataSeq : Word := 0
  /-- CSS_TX_SEQ: prod_seq last transmitted -/
  sentSeq : Word := 0
  /-- not-ready count, 16-bit saturating -/
  notReady : Nat := 0
  /-- pans found not ready since the count was last brought up to date (R92) -/
  notReadyNow : Nat := 0
  deriving DecidableEq, Repr

/-- A receive window (Table 3-2) with its counts (Tables 3-8 and 3-9). -/
structure RxWin where
  slotId : Nat
  offset : Nat
  close : Nat
  periodLog2 : Nat
  phase : Nat
  /-- the 12-bit delivery field -/
  delivery : Nat
  lastPan : BitVec 16 := 0
  stale : Bool := false
  line : Bool := false
  rejected : Bool := false
  validEver : Bool := false
  /-- 0 to 4095, saturating -/
  age : Nat := 0
  dup : Nat := 0
  empty : Nat := 0
  missA : Nat := 0
  missB : Nat := 0
  rej : Nat := 0
  /-- copies rejected since the counts were last brought up to date (R92: at window close or pan boundary) -/
  rejNow : Nat := 0
  /-- a valid copy of line A (line B) has come in the present pan -/
  gotA : Bool := false
  gotB : Bool := false
  /-- the value last delivered -/
  value : Bytes := []
  deriving DecidableEq, Repr

/-- A loaded schedule image (Table 3-7) with its template tables. -/
structure SchedImage where
  timedRestart : Bool
  schedId : Word
  panLen : Nat
  guard : Nat
  maxCars : Nat
  templates : Templates
  deriving DecidableEq, Repr

/-- A schedule image load in progress (R87, R309): its length, schedule_id, and the blocks written, latest last. -/
structure LoadStage where
  len : Nat
  ident : Word
  tenant : Nat
  blocks : List (Nat × Bytes)
  deriving DecidableEq, Repr

/-- An exclusive TC7 window of a port instantiated from a sluice template, in 10 ns units (R91). -/
structure CssGate where
  port : Nat
  start : Nat
  width : Nat
  deriving DecidableEq, Repr

/-- The Cyclic Slot Service. -/
structure Css where
  /-- CSS_STATUS state, 3 bits (Table 3-9). Reset: 0 STOPPED. -/
  state : CssState := .stopped
  /-- stop_reason, 4 bits. Reset: 0. -/
  stopReason : Nat := 0
  /-- cs_missed, 8 bits saturating. Reset: 0x00. -/
  missed : Nat := 0
  /-- leaderless. Reset: 0. -/
  leaderless : Bool := false
  /-- cs_capable. Reset: 0. -/
  capable : Bool := false
  /-- CSS_ALARM, 11 bits W1C (Table 3-10). Reset: 0. -/
  alarm : Word := 0
  /-- CSS_ALARM_EN. Reset: 0. -/
  alarmEn : Word := 0
  /-- the instantiated image (CSS_SCHED_ID, CSS_PAN_LEN; sched_loaded). Reset: none. -/
  image : Option SchedImage := none
  /-- the image is held and instantiated for the present numbering (sched_loaded). Reset: 0. -/
  fits : Bool := false
  /-- the loads in progress, at most one per tenant (R87, R309). Reset: none. -/
  loads : List LoadStage := []
  /-- transmit slot entries by index i, at most 1024 (R72). Reset: none. -/
  slots : List TxSlot := []
  /-- receive windows by index w, at most 4096 (R73). Reset: none. -/
  windows : List RxWin := []
  /-- exclusive TC7 windows per port (R91). Reset: none. -/
  gates : List CssGate := []
  /-- receive templates not instantiated (CSS_SKIPPED). Reset: DESIGN CHOICE 0. -/
  skipped : Nat := 0
  /-- pan number, 32 bits (CSS_PAN_NUM). Reset: 0. -/
  pan : Word := 0
  /-- start of the current pan, TRT linear ns: origin + n × pan_len (R71). Reset: DESIGN CHOICE 0. -/
  panStart : Nat := 0
  /-- origin, TRT linear ns (R71). Reset: DESIGN CHOICE 0. -/
  origin : Nat := 0
  /-- the leader's unit ID (CSS_LEADER). Reset: DESIGN CHOICE 0. -/
  leader : UnitId := 0
  /-- the cold-start or cycle-start sender followed while INTEGRATING or the designated leader (Table 3-6). -/
  followed : UnitId := 0
  /-- T_s of a timed start, TRT linear ns (R88). -/
  tStart : Nat := 0
  /-- model time at which the node entered LISTEN (Table 3-6). -/
  listenSince : Nat := 0
  /-- counting cycle-starts in a row (Table 3-6). Reset: 0. -/
  count : Nat := 0
  /-- pan of the last counting cycle-start. -/
  countPan : Word := 0
  /-- model time of the last counting cycle-start or of entry to INTEGRATING (Table 3-6: 4 pans). -/
  countAt : Nat := 0
  /-- model time of entry to INTEGRATING (Table 3-6: 2 pans). -/
  integSince : Nat := 0
  /-- pans of which a valid cycle-start has arrived: the latest (R82). -/
  lastCs : Option Word := none
  /-- the one before it. -/
  prevCs : Option Word := none
  /-- slots start at the next pan boundary (Table 3-6, row second counting cycle-start). -/
  startNext : Bool := false
  /-- own slots run (R83). Reset: 0. -/
  slotsRun : Bool := false
  /-- a re-election cold-start has been sent in this pan (Table 3-6). -/
  reelectSent : Bool := false
  /-- the re-election cold-start of this pan is still due at pan start + listen offset. -/
  reelectDue : Bool := false
  /-- pans judged missing in a row since the last cycle-start or the last leader followed (Table 3-6: 2). Reset: 0. -/
  missRun : Nat := 0
  /-- an announced stop_pan (stop_pending). Reset: none. -/
  stopPan : Option Word := none
  /-- stop_reason the announced stop gives: 2 train, 5 inauguration. -/
  stopWhy : Nat := 2
  /-- a local stop takes effect at the next pan boundary (R85). -/
  localStop : Bool := false
  /-- a node whose image forbids a timed restart enters LISTEN at `tStart` (R88). Reset: no. -/
  listenDue : Bool := false
  /-- counters are cleared at the next pan boundary (R93). -/
  clearDue : Bool := false
  /-- CSS_CLEAR_PAN. Reset: DESIGN CHOICE 0. -/
  clearPan : Word := 0
  /-- effective guard g in ns (CSS_GUARD). Reset: 200 (R74). -/
  guardEff : Nat := 200
  /-- configured guard in ns (CSS_GUARD). Reset: 200 (R74). -/
  guardCfg : Nat := 200
  /-- the allowance the Ageing Monitor adds from the next pan boundary on (R74, R363). Reset: 0. -/
  guardAllow : Nat := 0
  /-- CSS_CS_MISS_TOTAL, 32-bit wrapping. Reset: DESIGN CHOICE 0. -/
  missTotal : Word := 0
  /-- CSS_REJECT_TOTAL, 32-bit wrapping. Reset: DESIGN CHOICE 0. -/
  rejectTotal : Word := 0
  /-- rejects not yet in CSS_REJECT_TOTAL while a pan runs (R92). Reset: 0. -/
  rejectNow : Nat := 0
  /-- CSS_INTEGRATIONS, 32-bit wrapping. Reset: DESIGN CHOICE 0. -/
  integrations : Word := 0
  /-- latched CSS_LEADER_HI (R92). Reset: DESIGN CHOICE 0. -/
  leaderHi : Word := 0
  /-- latched CSS_ORIGIN_SEC_HI and CSS_ORIGIN_NS (R92). Reset: DESIGN CHOICE 0. -/
  originHi : Word := 0
  /-- see originHi. Reset: DESIGN CHOICE 0. -/
  originNs : Word := 0
  deriving DecidableEq, Repr

end Sys2Proof.Machine
end

