-- ==== Sys2Proof/Machine/State/Evr.lean ====
section
/-! DEFINITION. The state of the Event Recorder and the Ageing Monitor (spec/15_recorder_and_ageing.md). -/

namespace Sys2Proof.Machine

/-- A windrow (Table 15-2). `num` is its 48-bit record number F (R350). -/
structure Windrow where
  num : Nat
  sec : Nat
  ns : Nat
  timeValid : Bool
  epoch : BitVec 8
  cls : Nat
  code : Nat
  repeats : Nat
  data : Bytes
  /-- it has been written to the memory -/
  written : Bool
  /-- model time of its report (R352) -/
  at_ : Nat
  /-- final: it can no longer merge (R352) -/
  final : Bool
  deriving DecidableEq, Repr

/-- A token bucket (R352): rate and burst that were set, tokens × 10^9 in use below burst, and their time. -/
structure Bucket where
  rate : Nat := 10
  burst : Nat := 50
  /-- tokens taken and not yet regained, in units of 10^-9 -/
  taken : Nat := 0
  at_ : Nat := 0
  deriving DecidableEq, Repr

/-- The recorder memory header as known (R348). -/
structure EvrHeader where
  sizeMiB : Nat := 0
  checkpoint : Nat := 0
  counterSet : Nat := 0
  boots : Nat := 0
  hours : Nat := 0
  /-- counter floor (R358) -/
  floor : BitVec 64 := 0
  /-- least-squares sums (R365): days of data, sum of x, y, x² and xy, with x in units of 2^-32 and y in ps -/
  days : Nat := 0
  sx : Int := 0
  sy : Int := 0
  sxx : Int := 0
  sxy : Int := 0
  deriving DecidableEq, Repr

/-- A copy of a tenant's short record in the counter area (R357). -/
structure CounterCopy where
  counter : BitVec 64
  cmac : Word
  status : Nat
  reason : Nat
  /-- write generation -/
  gen : Nat
  deriving DecidableEq, Repr

/-- The Event Recorder. -/
structure Evr where
  /-- ready. Reset: 0. -/
  ready : Bool := false
  /-- mem_fault. Reset: 0. -/
  memFault : Bool := false
  /-- unformatted. Reset: 0. -/
  unformatted : Bool := false
  /-- foreign. Reset: 0. -/
  foreign : Bool := false
  /-- flushing. Reset: 0. -/
  flushing : Bool := false
  /-- pfail_done. Reset: 0. -/
  pfailDone : Bool := false
  /-- EVR_ALARM, 5 bits W1C. Reset: 0. -/
  alarm : Word := 0
  /-- EVR_ALARM_EN. Reset: 0. -/
  alarmEn : Word := 0
  header : EvrHeader := {}
  /-- the next record number F, 48 bits (R350). Reset: DESIGN CHOICE 0. -/
  next : Nat := 0
  /-- windrows in staging, newest first (R354). Reset: none. -/
  staging : List Windrow := []
  /-- the bytes of the ring's slots as last written (R350). Reset: DESIGN CHOICE none. -/
  mem : Table Bytes := []
  /-- the counter area: copy c of tenant t at 2t + c (R357). Reset: DESIGN CHOICE none. -/
  area : Table (Option CounterCopy) := []
  /-- model time at which the header's operating hours held -/
  hoursAt : Nat := 0
  /-- highest dirty count since start (EVR_DIRTY). Reset: DESIGN CHOICE 0. -/
  dirtyMax : Nat := 0
  /-- EVR_LOST, 32-bit wrapping. Reset: DESIGN CHOICE 0. -/
  lost : Word := 0
  /-- EVR_SUPPRESSED, 32-bit wrapping. Reset: DESIGN CHOICE 0. -/
  suppressed : Word := 0
  /-- EVR_MERGED, 32-bit wrapping. Reset: DESIGN CHOICE 0. -/
  merged : Word := 0
  /-- losses not yet told by a LOSS windrow: all, and safety (R353) -/
  lossNow : Nat := 0
  lossSafety : Nat := 0
  /-- suppressions of the present second by code (R353) -/
  supNow : Table Nat := []
  /-- token buckets by code; those not listed are at their defaults (R352) -/
  buckets : Table Bucket := []
  /-- the burst of the frame of four to come (R355) -/
  burst : Nat := 0
  /-- tenants whose counter area record waits to be written (R355, R357) -/
  counterWrites : NatSet := []
  /-- a header checkpoint waits to be written (R348) -/
  checkpointDue : Bool := false
  /-- windrows written since the last checkpoint, and its model time (R348) -/
  sinceCheck : Nat := 0
  checkAt : Nat := 0
  /-- EVR_WIN_BASE. Reset: 0. -/
  winBase : Word := 0
  /-- EVR_LATCH_TAG, 12 bits. Reset: DESIGN CHOICE 0. -/
  latchTag : Word := 0
  /-- the 8 words latched by the last read of a word 0 (R359). Reset: DESIGN CHOICE 0. -/
  latch : List Word := []
  /-- the draw of format_nonce at this start (R358); its value is `Config.trng` of it -/
  nonce : Nat := 0
  /-- model time of the rise of PFAIL# (admission resumes 10 ms later, R356) -/
  pfailRose : Option Nat := none
  deriving DecidableEq, Repr

/-- Ageing parameters (Table 15-5). -/
structure AgmCfg where
  /-- avs_en. Reset: on. -/
  avs : Bool := true
  /-- pmbus_addr. Reset: 0x40. -/
  addr : Nat := 64
  /-- margin_target in ps. Reset: 80. -/
  target : Int := 80
  /-- margin_hyst in ps. Reset: 40. -/
  hyst : Int := 40
  /-- margin_floor in ps. Reset: 20. -/
  floor : Int := 20
  /-- avs_step in mV. Reset: 5. -/
  step : Nat := 5
  /-- vcore_min in mV. Reset: 700. -/
  vmin : Nat := 700
  /-- vcore_max in mV. Reset: 850. -/
  vmax : Nat := 850
  deriving DecidableEq, Repr

/-- The Ageing Monitor. -/
structure Agm where
  cfg : AgmCfg := {}
  /-- count, 16 bits. Reset: 0x0000. -/
  count : BitVec 16 := 0
  /-- measuring. Reset: 0. -/
  measuring : Bool := false
  /-- cal_range. Reset: 0. -/
  calRange : Bool := false
  /-- avs_state. Reset: 0 off. -/
  avsState : Nat := 0
  /-- AGM_ALARM, 6 bits W1C. Reset: 0. -/
  alarm : Word := 0
  /-- AGM_ALARM_EN. Reset: 0. -/
  alarmEn : Word := 0
  /-- commanded VDD_CORE in mV (AGM_VCORE). Reset: DESIGN CHOICE 750, the nominal rail of Table 16-3. -/
  vcore : Nat := 750
  /-- READ_VOUT in mV. Reset: DESIGN CHOICE 750. -/
  vout : Nat := 750
  /-- margin_now and margin_at_max in ps. Reset: DESIGN CHOICE 0. -/
  margin : Int := 0
  marginMax : Int := 0
  /-- steps made in the present measurement, and whether a step settles now (R364) -/
  steps : Nat := 0
  settling : Bool := false
  /-- model time of the write that settles (R364) -/
  stepAt : Nat := 0
  /-- the step that settles lowers VDD_CORE (R364) -/
  lowering : Bool := false
  /-- the write under check has been retried (R364) -/
  retried : Bool := false
  /-- VDD_CORE in mV before the step that settles (R365) -/
  stepFrom : Nat := 750
  /-- slopes seen in the last 16 AVS steps, newest first, in fs per mV (R365). Reset: none. -/
  slopes : List Int := []
  /-- Tj of the last measurement in 0.1 °C (R365). Reset: DESIGN CHOICE 0. -/
  tj : Int := 0
  /-- AGM_EOM_HOURS. Reset: 0xFFFFFFFF (before 30 days of data, R365). -/
  eomHours : Word := 4294967295
  /-- AGM_EOM_SEC, 48 bits. Reset: DESIGN CHOICE 0. -/
  eomSec : Nat := 0
  /-- latched AGM_EOM_SEC_HI (R367). Reset: DESIGN CHOICE 0. -/
  eomHi : Word := 0
  /-- AGM_GUARD_ADD in ns (R363). Reset: DESIGN CHOICE 0. -/
  guardAdd : Nat := 0
  /-- AGM_LAST_NS. Reset: DESIGN CHOICE 0. -/
  lastNs : Word := 0
  /-- model time of the start of the last measurement (R361) -/
  lastAt : Option Nat := none
  /-- replicas 0 to 47: domain and slack (AGM_REPLICA). Reset: DESIGN CHOICE 0. -/
  replicas : List (Nat × Int) := []
  /-- latency corrections from factory in ps of the nine lanes, TX and RX (AGM_LAT). Reset: DESIGN CHOICE 0. -/
  latTx : List Int := []
  latRx : List Int := []
  /-- T1S trim and amplitude by segment (AGM_T1S). Reset: DESIGN CHOICE 0. -/
  t1s : Table (Nat × Nat) := []
  /-- figures of the present day: lowest margin, sum and count of margin_at_max and of VDD_CORE, highest Tj, excess -/
  dayLow : Int := 0
  daySum : Int := 0
  dayVcore : Nat := 0
  dayCount : Nat := 0
  dayTj : Int := 0
  dayExcess : Nat := 0
  /-- operating hours at the last AGM_DAY windrow (R365) -/
  dayAt : Nat := 0
  deriving DecidableEq, Repr

end Sys2Proof.Machine
end

