-- ==== Sys2Proof/Machine/State/Fw.lean ====
section
/-! DEFINITION. The state of OTP, flash, firmware slots and boot (spec/13_firmware_and_trust.md). -/

namespace Sys2Proof.Machine

/-- The fuses that change after manufacture (R312), and those that tell the parts apart. -/
structure Otp where
  /-- unit ID, 64 bits (R312). Reset: DESIGN CHOICE 1 (each device has its own). -/
  unitId : UnitId := 1
  /-- SHA-256 hashes of the four root public keys (R312, R315). Reset: DESIGN CHOICE 0. -/
  roots : List (BitVec 256) := [0, 0, 0, 0]
  /-- safety_island fuse: BV-9664-S. Reset: DESIGN CHOICE 1 (the model is of a BV-9664-S). -/
  island : Bool := true
  /-- root_revoked fuses, 4 bits (R315). Reset: DESIGN CHOICE 0. -/
  revoked : BitVec 4 := 0
  /-- rollback: burned fuses, 0 to 64 (R328). Reset: DESIGN CHOICE 0. -/
  rollback : Nat := 0
  deriving DecidableEq, Repr

/-- Slot states (Table 13-5); `empty` is a slot that holds no image. -/
inductive SlotState where
  | empty | loading | verified | active | invalid
  deriving DecidableEq, Repr

/-- A firmware slot (Table 13-5). -/
structure FwSlot where
  state : SlotState := .empty
  imageId : Word := 0
  secVersion : Nat := 0
  /-- length announced by IMAGE_BEGIN and the tenant that began -/
  len : Nat := 0
  tenant : Nat := 0
  /-- blocks programmed, latest last -/
  blocks : List (Nat × Bytes) := []
  /-- 64 KiB sectors erased since IMAGE_BEGIN -/
  erased : NatSet := []
  /-- what the image says of itself, once verified or read at boot -/
  info : Option ImageInfo := none
  /-- the safety parameter area of the slot (Table 13-3) -/
  par : Option Bytes := none
  deriving DecidableEq, Repr

/-- Where the device stands between reset and fw_ready (R326, R327). -/
inductive BootPhase where
  /-- held in reset or not powered -/
  | reset
  /-- boot ROM, before its decision -/
  | rom
  /-- the active slot boots; components not yet loaded -/
  | booting
  /-- components loaded, fw_ready not yet set -/
  | loaded
  /-- fw_ready -/
  | ready
  /-- Recovery ROM; entered by BOOTSEL0 or not -/
  | recovery (strap : Bool)
  /-- control-plane pause of a live activation (R323) -/
  | paused
  deriving DecidableEq, Repr

/-- A live or restart activation in progress (R323). -/
structure Activation where
  live : Bool
  /-- model time of the commit point, and once it begins of the control-plane pause -/
  at_ : Nat
  /-- the SFP restarts (R322) -/
  sfp : Bool
  /-- the new firmware has loaded its components (R323) -/
  loaded : Bool := false
  /-- the MGP has restarted from the previous slot (R323) -/
  fellBack : Bool := false
  deriving DecidableEq, Repr

/-- Firmware, keys and boot. -/
structure Fw where
  phase : BootPhase := .reset
  slotA : FwSlot := {}
  slotB : FwSlot := {}
  /-- the active slot is B. Reset: DESIGN CHOICE slot A. -/
  activeB : Bool := false
  /-- trial flag (R328). Reset: DESIGN CHOICE 0. -/
  trial : Bool := false
  /-- failed-boot count (R326). Reset: DESIGN CHOICE 0. -/
  failed : Nat := 0
  /-- the slot that failed last is B; none = neither has failed (R329) -/
  failedSlot : Option Bool := none
  /-- feature_mask of the flash configuration (R295). Reset: all ones. -/
  featureMask : BitVec 128 := BitVec.allOnes 128
  /-- the image running: manifest and component hashes (R313, R323) -/
  running : Option ImageInfo := none
  activation : Option Activation := none
  /-- the next boot decision does not sample the straps: restart of an activation (R325) -/
  noStrap : Bool := false
  /-- cause of this start as the BOOT windrow tells it: 0 power-on, 1 PORST#, 2 restart, 3 STANDBY wake, 4 Recovery ROM -/
  bootCause : Nat := 0
  /-- model time at which the boot ROM was left (R326: 2 s) -/
  leftRom : Nat := 0
  /-- model time of fw_ready (R217, R334) -/
  readyAt : Nat := 0
  /-- sequence numbers of the boot record and configuration copies, the valid one (R317) -/
  bootSeq : Word := 0
  confSeq : Word := 0
  deriving DecidableEq, Repr

end Sys2Proof.Machine
end

