-- ==== Sys2Proof/Machine/State/Global.lean ====
section
/-! DEFINITION. The state of the GLOBAL block and of the protected memories (spec/01_architecture.md). -/

namespace Sys2Proof.Machine

/-- The GLOBAL block (Tables 1-8 to 1-11) and the ECC state of the memories of Table 1-5. -/
structure Global where
  /-- fw_ready (Table 1-9). Reset: 0. -/
  fwReady : Bool := false
  /-- degraded_rc (Table 1-9). Reset: 0. -/
  degraded : Bool := false
  /-- ref_alarm (Table 1-9). Reset: 0. -/
  refAlarm : Bool := false
  /-- recovery (Table 1-9). Reset: 0. -/
  recovery : Bool := false
  /-- sla_clk_fault (Table 1-9). Reset: 0. -/
  slaFault : Bool := false
  /-- GLOBAL_ERR, 5 bits W1C (Table 1-10). Reset: 0. -/
  err : Word := 0
  /-- GLOBAL_ERR_EN (Table 1-8). Reset: 0. -/
  errEn : Word := 0
  /-- FEATURES_ACCEPTED, 128 bits (R32). Reset: 0. -/
  featAccepted : BitVec 128 := 0
  /-- GLOBAL_ECC_CE_COUNT, 32-bit saturating (Table 1-8). Reset: DESIGN CHOICE 0. -/
  ceCount : Nat := 0
  /-- GLOBAL_ECC_UE_COUNT, 32-bit saturating (Table 1-8). Reset: DESIGN CHOICE 0. -/
  ueCount : Nat := 0
  /-- GLOBAL_ECC_LAST valid (Table 1-11). Reset: 0. -/
  eccValid : Bool := false
  /-- GLOBAL_ECC_LAST ue (Table 1-11). Reset: 0. -/
  eccUe : Bool := false
  /-- GLOBAL_ECC_LAST mem_id, 6 bits (Table 1-11). Reset: 0x00. -/
  eccMem : BitVec 6 := 0
  /-- GLOBAL_ECC_LAST word, 24 bits (Table 1-11). Reset: 0x000000. -/
  eccWord : BitVec 24 := 0
  /-- GLOBAL_BAD_ACCESS_ADDR, 24 bits (Table 1-8). Reset: DESIGN CHOICE 0. -/
  badAddr : BitVec 24 := 0
  /-- the poisoned 64-bit words by memory ID (R27). Reset: none. -/
  poison : Table NatSet := []
  /-- PCIe AER Uncorrectable Internal Error status (Table 1-6). Reset: DESIGN CHOICE 0. -/
  aer : Bool := false
  /-- the data words the last host read returned, lower address first (R31). -/
  readData : List Word := []
  /-- the last host read's completion had the EP bit set (Table 1-6). -/
  readPoisoned : Bool := false
  /-- model time of the device's start, from which seconds count without time service (R349) -/
  startAt : Nat := 0
  deriving DecidableEq, Repr

end Sys2Proof.Machine
end

