-- ==== Sys2Proof/Machine/State/Host.lean ====
section
/-! DEFINITION. The state of the host interface: tenants, rings, queues, sessions, SPI and MSI-X
(spec/12_host_tenants_mailboxes.md). -/

namespace Sys2Proof.Machine

/-- Tenant states (Table 12-2). -/
inductive TenantState where
  | free | configured | opened | faulted | resetting
  deriving DecidableEq, Repr

/-- A response entry (Table 12-9). -/
structure Response where
  opcode : Nat
  /-- bits 0 class C, 2 replayed, 3 truncated, 4 replay_short -/
  flags : Nat
  tag : Word
  counter : BitVec 64
  status : Nat
  reason : Nat
  payload : Bytes
  /-- 96-bit CMAC of a response to an authenticated command; 0 = none -/
  cmac : BitVec 96
  deriving DecidableEq, Repr

/-- An event entry (R289): type, flags, seq, TRT linear ns and its 20 data bytes. -/
structure Event where
  typ : Nat
  seq : Word
  ns : Word
  data : Bytes
  deriving DecidableEq, Repr

/-- An event that waits for the end of a control-plane pause (Table 13-8): its tenant, type, TRT linear ns and data. -/
structure WaitingEvent where
  tenant : Nat
  typ : Nat
  ns : Word
  data : Bytes
  deriving DecidableEq, Repr

/-- A command fetched and not yet completed (R299). -/
structure Inflight where
  opcode : Nat
  tag : Word
  classC : Bool
  /-- authenticated under Table 12-12, with its counter and CMAC -/
  auth : Bool
  counter : BitVec 64
  cmac : BitVec 96
  /-- size of the response buffer; 0 = none: 24 B inline (R297) -/
  room : Nat
  /-- its address, within the staging area for an SPI tenant (R284) -/
  respAddr : Nat
  /-- tags of resends held until it completes (Table 12-12) -/
  held : List Word
  /-- it came as a remote HCP frame (R306) -/
  remote : Bool
  /-- its commit point has passed (R299) -/
  committed : Bool
  /-- the unit ID it was addressed to, over which its CMAC and that of its response are computed (R302, R306) -/
  unit : UnitId
  deriving DecidableEq, Repr

/-- A TX or RX queue of a tenant (Table 12-4). -/
structure HostQueue where
  base : BitVec 64 := 0
  enabled : Bool := false
  log2 : Nat := 0
  prod : Word := 0
  cons : Word := 0
  deriving DecidableEq, Repr

/-- A frame waiting for an RX descriptor (R293), with what its writeback says. -/
structure RxItem where
  queue : Nat
  /-- its number in Brine; none where it holds no cells -/
  held : Option Nat
  ingress : Nat
  cls : Nat
  css : Bool
  /-- window index or CAN acceptance entry -/
  index : Nat
  trt : Word
  wyt : Word
  pan : Word
  epoch : BitVec 8
  data : Bytes
  len : Nat
  deriving DecidableEq, Repr

/-- What the device wrote back into a TX descriptor: queue, index, status and stamp (R292). -/
structure TxWrite where
  queue : Nat
  index : Word
  status : Nat
  stamp : Word
  deriving DecidableEq, Repr

/-- What the device wrote back into an RX descriptor and its buffer (R293). -/
structure RxWrite where
  queue : Nat
  index : Word
  len : Nat
  ingress : Nat
  flags : Nat
  window : Nat
  trt : Word
  wyt : Word
  pan : Word
  epoch : BitVec 8
  data : Bytes
  deriving DecidableEq, Repr

/-- A tenant (R285): state, rights, key, counters, rings and queues. -/
structure Tenant where
  /-- state (Table 12-6). Reset: FREE, tenant 0 CONFIGURED (R285). -/
  state : TenantState := .free
  /-- attachment (Table 12-6). Reset: none. -/
  attach : Attach := .none
  rights : Word := 0
  ports : BitVec 128 := 0
  /-- AES key, 128 bits, kept wrapped (R301) -/
  key : Option (BitVec 128) := none
  mac : Mac := 0
  vlan : Nat := 0
  eventMac : Mac := 0
  /-- last accepted counter and short record (R301) -/
  counter : BitVec 64 := 0
  shortCmac : Word := 0
  shortStatus : Nat := 0
  shortReason : Nat := 0
  /-- CMAC of the command the cached response answers, and that response (R303) -/
  cacheCmac : BitVec 96 := 0
  cache : Option Response := none
  /-- MBX_T_CTRL. Reset: 0. -/
  ctrl : Word := 0
  /-- MBX_T_FAULT where and code. Reset: 0. -/
  faultWhere : Nat := 0
  faultCode : Nat := 0
  /-- MBX_T_AUTH_FAIL, 32-bit wrapping. Reset: DESIGN CHOICE 0. -/
  authFail : Word := 0
  cmdBase : BitVec 64 := 0
  rspBase : BitVec 64 := 0
  evtBase : BitVec 64 := 0
  /-- MBX_T_EVT_SIZE, log2 entries. Reset: DESIGN CHOICE 6. -/
  evtSize : Nat := 6
  cmdProd : Word := 0
  cmdCons : Word := 0
  rspProd : Word := 0
  rspCons : Word := 0
  evtProd : Word := 0
  evtCons : Word := 0
  /-- MBX_T_EVT_LOST, 32-bit wrapping. Reset: DESIGN CHOICE 0. -/
  evtLost : Word := 0
  /-- events lost since the last events_lost event (R289) -/
  lostNow : Nat := 0
  evtSeq : Word := 0
  txq : Table HostQueue := []
  rxq : Table HostQueue := []
  /-- frames waiting in its port 96 queues, oldest first -/
  waiting : List RxItem := []
  /-- session features (R296) -/
  features : BitVec 128 := 0
  /-- max_wake_latency in µs; 0xFFFFFFFF = any (R296) -/
  maxWake : Nat := 4294967295
  /-- commands fetched and not completed, oldest first -/
  inflight : List Inflight := []
  /-- response entries written, oldest first (the response ring, or frames sent to a remote tenant) -/
  responses : List Response := []
  /-- event entries written, oldest first -/
  events : List Event := []
  /-- descriptor writebacks, oldest first (the model's record of what the device wrote to host memory) -/
  txWrites : List TxWrite := []
  rxWrites : List RxWrite := []
  /-- model time of the last raise of its vector (R290) -/
  raisedAt : Option Nat := none
  /-- a condition waits for the end of the holdoff -/
  irqWait : Bool := false
  /-- SPIT_IRQ# condition pending (R284) -/
  irqSpi : Bool := false
  /-- a tenant reset is requested or running (R305) -/
  resetDue : Bool := false
  /-- commands not fetched when the tenant was reset: they complete with ABORTED_RESET (R305) -/
  abortLeft : Nat := 0
  /-- the reset removes the tenant (Table 12-2) -/
  removing : Bool := false
  /-- rings and staging area of an SPI tenant by word offset within its 0x8000 (R284) -/
  spi : Table Word := []
  deriving DecidableEq, Repr

/-- The host interface. -/
structure HostIf where
  /-- tenants 0 to 255 that are not FREE and empty (R285). -/
  tenants : Table Tenant := [(0, { state := .configured })]
  /-- steering table of 1024 entries: tenant and queue (R293). Reset: DESIGN CHOICE none. -/
  steering : Table (Option (Nat × Nat)) := []
  /-- the tenant served last (R299). -/
  served : Nat := 0
  /-- counter_store_ok (R301). Reset: 0 (Table 12-6). -/
  counterOk : Bool := false
  /-- ignored SPI instructions, 16-bit saturating (MBX_SPI_STAT). Reset: DESIGN CHOICE 0. -/
  spiIgnored : Nat := 0
  /-- SPI target in use (MBX_SPI_STAT). Reset: DESIGN CHOICE 0. -/
  spiUsed : Bool := false
  /-- data words the SPI target returned last. -/
  spiOut : List Word := []
  /-- MSI-X table words by word index, 257 × 4 (R34); vector control words read masked until written. -/
  msix : Table (Option Word) := []
  /-- Pending Bit Array (R34). Reset: 0. -/
  pba : NatSet := []
  /-- MSI-X messages sent, oldest first: vectors. -/
  sent : List Nat := []
  /-- Device Control 2 completion timeout in µs (R283). Reset: 50 ms. -/
  completionUs : Nat := 50000
  /-- BAR0 and BAR2 base addresses as the host programs them (Table 12-1). Reset: PRESUMED 0 (PCI's). -/
  bar0 : BitVec 64 := 0
  bar2 : BitVec 64 := 0
  /-- Device Control, which holds the max read request as the host programs it (Table 12-1). Reset: PRESUMED 0x2810 (PCI's). -/
  devCtl : Word := 0x2810
  /-- the last Precision Time Measurement dialogue: the host's time and the local time, TRT linear ns (R61). Reset: DESIGN CHOICE
  none. -/
  ptm : Option (Nat × Nat) := none
  /-- frames and octets of responses and events to remote tenants, counted at port 97 (R187). Reset: 0. -/
  remoteOut : BitVec 64 × BitVec 64 := (0, 0)
  /-- events of a control-plane pause, in their order (Table 13-8). Reset: DESIGN CHOICE none. -/
  waitingEvents : List WaitingEvent := []
  deriving DecidableEq, Repr

end Sys2Proof.Machine
end

