-- ==== Sys2Proof/Machine/State/Ine.lean ====
section
/-! DEFINITION. The state of the Inauguration Engine, the alias table and the twin pair
(spec/08_inauguration_and_twins.md). -/

namespace Sys2Proof.Machine

/-- Node identity (Table 8-1). -/
structure Identity where
  /-- mode 0 fast, 1 standard, 2 auto. Reset: auto (R194). -/
  mode : Nat := 2
  consistId : Word := 0
  carIndex : Nat := 0
  role : Nat := 0
  /-- reference_dir, 1 or 2 -/
  refDir : Nat := 1
  /-- cab: 0 none, 1 dir 1 end, 2 dir 2 end -/
  cab : Nat := 0
  functions : List FuncEntry := []
  deriving DecidableEq, Repr

/-- INE_STATUS state (Table 8-14). -/
inductive IneState where
  | idle | hello | topology | stopping | merging | renumbering | installing | standard | held
  deriving DecidableEq, Repr

/-- The HELLO exchange on a BB port (R199). -/
structure HelloLink where
  /-- HELLOs are sent: the link is up and not confirmed -/
  running : Bool := false
  /-- hello_seq of the last HELLO sent -/
  seq : Word := 0
  /-- the partner and the last hello_seq received from it -/
  partner : UnitId := 0
  rxSeq : Word := 0
  /-- consecutive matching HELLOs of that partner -/
  run : Nat := 0
  /-- consecutive matching HELLOs whose echo matched -/
  confirmed : Bool := false
  /-- node count of the partner's half, its leader, epoch and topology counter -/
  nodes : Nat := 0
  leader : UnitId := 0
  epoch : Word := 0
  topo : Word := 0
  /-- fabric-up: the port carries every frame (R206) -/
  fabricUp : Bool := false
  /-- held until the inauguration in progress ends (Table 8-7) -/
  held : Bool := false
  /-- model time of the link-up -/
  upAt : Nat := 0
  /-- model time of the last HELLO sent since then -/
  sentAt : Option Nat := none
  /-- HELLOs sent that echo the partner's last hello_seq and that it has not been heard to miss (R199) -/
  echoed : Nat := 0
  /-- the neighbour has sent TTDP frames since the link-up (R195, R197) -/
  ttdp : Bool := false
  deriving DecidableEq, Repr

/-- An alias entry (R209, Table 8-13). -/
structure AliasEntry where
  tfa : Nat
  mac : Mac
  vlan : Nat
  stream : Option Nat
  isStatic : Bool
  exchanged : Bool
  source : Nat
  deriving DecidableEq, Repr

/-- The parts of a table as one sender's TABLE frames bring them (Table 8-3). -/
structure PartSet where
  sender : UnitId := 0
  count : Nat := 0
  got : Table (List NodeRec) := []
  deriving DecidableEq, Repr

/-- What is known of the inauguration in progress (R202 to R207). -/
structure InaugRun where
  /-- inaug_seq -/
  seq : Word := 0
  /-- coupler ports of this node -/
  couplers : NatSet := []
  /-- the parts received of the other half's node table, and of the own half's, or the remaining half's where there is no merge -/
  otherParts : PartSet := {}
  ownParts : PartSet := {}
  /-- the two tables once they are complete -/
  other : List NodeRec := []
  own : List NodeRec := []
  /-- this node has begun an inauguration without a merge and sends its TABLE (R207) -/
  initiator : Bool := false
  /-- identity, mode and topology counter before it (Table 8-7) -/
  oldIdent : Identity := {}
  oldMode : Nat := 0
  oldTopo : Word := 0
  /-- unit ID and domain_epoch of the other half's sender, and whether it lies beyond this half's front end -/
  otherUnit : UnitId := 0
  otherEpoch : Word := 0
  front : Bool := false
  /-- the joint table, in the proposed backbone order; empty until it is computed -/
  joint : List NodeRec := []
  /-- digests by sender: CRC-32, node count and whether its half steps -/
  digests : List (UnitId × Word × Nat × Bool) := []
  /-- phase 2 has been repeated (R205) -/
  repeated : Bool := false
  /-- the own half steps (R203) -/
  stepping : Bool := false
  /-- the surviving leader's unit ID, 0 = neither half has a leader (R203) -/
  survivor : UnitId := 0
  /-- a merge of two halves, else an uncoupling or a turn (R207) -/
  merge : Bool := true
  /-- this half keeps car 1: its numbering and CSS go on (R207) -/
  keeps : Bool := false
  /-- the TRT leader of the own half before the merge (Table 8-7) -/
  formerLeader : UnitId := 0
  /-- the topology of standard mode is stable: the inauguration in standard mode is complete (R196) -/
  stable : Bool := false
  /-- a MERGE has been executed -/
  merged : Bool := false
  /-- function lists received, by owner; they outlast the inauguration for a half that keeps its numbering (R207) -/
  funcs : List (UnitId × List FuncEntry) := []
  /-- the owners whose FUNCS have come in this inauguration -/
  funcsFrom : List UnitId := []
  /-- T_s has come: the bank has switched, phase 7 runs -/
  switched : Bool := false
  /-- ACKs by sender: the subtype acknowledged and the status -/
  acks : List (UnitId × Nat × Nat) := []
  /-- T_s, TRT linear ns -/
  tStart : Nat := 0
  /-- model time of the link-up and of the start of phase 2 -/
  startAt : Nat := 0
  phaseAt : Nat := 0
  /-- model time until which coupler ports stay down after DISAGREE -/
  holdUntil : Option Nat := none
  deriving DecidableEq, Repr

/-- Twin states (Table 8-10). -/
inductive TwinState where
  | unpaired | syncing | active | standby | alone
  deriving DecidableEq, Repr

/-- The twin pair (R214 to R218). -/
structure Twin where
  /-- INE_TWIN_STATUS state. Reset: DESIGN CHOICE UNPAIRED. -/
  state : TwinState := .unpaired
  /-- the partner named by TWIN_CONFIG; none = no twin configured -/
  partner : Option UnitId := none
  /-- this is the line B device -/
  lineB : Bool := false
  /-- swap_interval in s. Reset: 24 h. -/
  interval : Nat := 86400
  /-- model time at which the next swap falls due -/
  dueAt : Nat := 0
  /-- a swap is due -/
  due : Bool := false
  /-- duties are taken (true) or dropped (false) at the next pan boundary -/
  atBoundary : Option TwinState := none
  /-- the pan of the final image: duties are released at the following boundary (Table 8-10) -/
  finalSent : Bool := false
  /-- model time at which SYNCING began -/
  syncAt : Nat := 0
  /-- model time of the last state image accepted (STANDBY) -/
  imageAt : Nat := 0
  /-- pan parity for images of pans shorter than 150 µs (R216) -/
  oddPan : Bool := false
  /-- a full transfer has been requested by this device -/
  requested : Bool := false
  /-- INE_TWIN_SWAPS, 32-bit wrapping. Reset: DESIGN CHOICE 0. -/
  swaps : Word := 0
  /-- INE_TWIN_IMAGE_MISS, 32-bit wrapping. Reset: DESIGN CHOICE 0. -/
  misses : Word := 0
  /-- state images are sent: not before a full transfer that the partner asked for is verified (Table 8-10) -/
  imagesOn : Bool := true
  /-- the last state image held by a Standby device -/
  image : Option TwinImage := none
  deriving DecidableEq, Repr

/-- The Inauguration Engine. -/
structure Ine where
  /-- INE_STATUS state. Reset: 0 IDLE. -/
  state : IneState := .idle
  /-- INE_STATUS mode: 0 fast, 1 standard, 2 auto. Reset: 0 (Table 8-14). -/
  mode : Nat := 0
  /-- inhibited. Reset: 0. -/
  inhibited : Bool := false
  /-- stepped_last. Reset: 0. -/
  steppedLast : Bool := false
  /-- active_bank. Reset: 0. -/
  activeBank : Nat := 0
  /-- the inactive bank is copied to the other bank after an ALIAS_COMMIT (R212). -/
  copyAfter : Bool := false
  /-- INE_ALARM, 13 bits W1C (Table 8-15). Reset: 0. -/
  alarm : Word := 0
  /-- INE_ALARM_EN. Reset: 0. -/
  alarmEn : Word := 0
  /-- INE_GEN. Reset: DESIGN CHOICE 0. -/
  gen : Word := 0
  /-- INE_TOPO_COUNT. Reset: DESIGN CHOICE 0. -/
  topo : Word := 0
  /-- the identity in force and the one of the next inauguration (R194). -/
  ident : Identity := {}
  identNext : Identity := {}
  /-- the cab declared active on this node by INAUG_LEAD (R200): 0 none, 1, 2. Reset: none. -/
  lead : Nat := 0
  /-- the numbered node table, position order (INE_NODE). Reset: empty. -/
  nodes : List NodeRec := []
  /-- the node table before the inauguration in progress (Table 8-7). -/
  oldNodes : List NodeRec := []
  /-- own position, 255 = none; car, consist, orientation (INE_SELF). Reset: DESIGN CHOICE none. -/
  position : Nat := 255
  car : Nat := 0
  consist : Nat := 0
  reversed : Bool := false
  /-- INE_INAUG_COUNT, 32-bit wrapping. Reset: DESIGN CHOICE 0. -/
  count : Word := 0
  /-- INE_LAST_DURATION in µs. Reset: DESIGN CHOICE 0. -/
  duration : Nat := 0
  /-- INE_LAST_RESULT reason and nodes not integrated. Reset: DESIGN CHOICE 0. -/
  result : Nat := 0
  missing : Nat := 0
  /-- INE_LAST_STEP: signed seconds and ns. Reset: DESIGN CHOICE 0. -/
  stepSec : Int := 0
  stepNs : Nat := 0
  /-- latched INE_LAST_STEP_NS (R221). Reset: DESIGN CHOICE 0. -/
  stepLatch : Word := 0
  /-- HELLO exchanges by BB port 0 to 3. -/
  hello : Table HelloLink := []
  /-- the inauguration in progress. -/
  run : InaugRun := {}
  /-- alias banks 0 and 1 by entry (R209). Reset: DESIGN CHOICE empty. -/
  bank0 : Table (Option AliasEntry) := []
  bank1 : Table (Option AliasEntry) := []
  /-- static entries in the order they were set (R212). -/
  statics : List AliasArgs := []
  /-- the twin pair. -/
  twin : Twin := {}
  deriving DecidableEq, Repr

end Sys2Proof.Machine
end

