-- ==== Sys2Proof/Machine/State/Island.lean ====
section
/-! DEFINITION. The state of the safety island: two channels, axes, outputs, inputs, parameter set and mirror
(spec/10_safety_island.md, spec/11_door_axis_monitoring.md). -/

namespace Sys2Proof.Machine

/-- A channel record of the parameter set (Table 10-6). -/
structure ChanPar where
  enabled : Bool
  segPair : Nat
  period : Nat
  tag : Word
  outputs : BitVec 8
  localIn : Nat
  guardIn : Nat
  deriving DecidableEq, Repr

/-- An output record (Table 10-5): kind, t_dark in µs, test_interval in s, fb_settle in µs, gate_inputs. -/
structure OutPar where
  kind : Nat
  tDark : Nat
  interval : Nat
  settle : Nat
  gates : BitVec 16
  deriving DecidableEq, Repr

/-- An input record (Table 10-5). -/
structure InPar where
  antivalent : Bool
  debounce : Nat
  discrepancy : Nat
  use : Nat
  deriving DecidableEq, Repr

/-- A function block (Table 11-1). -/
structure FuncPar where
  travel : Int
  closedZone : Int
  slpMargin : Int
  posTol : Int
  reversal : Int
  testTravel : Int
  slsOpen : Int
  slsClose : Int
  slsCreep : Int
  speedTol : Int
  sdiTol : Int
  xcheck : Nat
  autoTest : Bool
  autoRecover : Bool
  stopIn : Nat
  isoIn : Nat
  deriving DecidableEq, Repr

/-- A verified parameter set (Table 10-5). -/
structure SafetyPar where
  ident : Word
  crc : Word
  seals : BitVec 8
  period : Nat
  miss : Nat
  singleLimit : Nat
  window : Nat
  seed : Word
  chans : List ChanPar
  outs : List OutPar
  ins : List InPar
  funcs : List FuncPar
  deriving DecidableEq, Repr

/-- Channel states of an axis (Table 11-4). -/
inductive AxState where
  | disabled | safe | guardOpenWait | guardCloseWait | locked | released | closing
  deriving DecidableEq, Repr

/-- The first copy of a seq that waits for its second copy (R250): the telegram, the segment (true = B), its arrival. -/
structure PairWait where
  tel : Telegram
  segB : Bool
  at_ : Nat
  /-- compare_window has elapsed: the seq counts as single-copy, and a second copy is late -/
  late : Bool
  deriving DecidableEq, Repr

/-- An axis as one channel keeps it (R244). -/
structure Axis where
  /-- state (Table 11-4). Reset: DISABLED. -/
  state : AxState := .disabled
  /-- last safe-state reason (Table 10-8). -/
  reason : Nat := 0
  /-- last function code and the state code at that fault (Table 11-6). -/
  func : Nat := 0
  funcState : Nat := 0
  /-- model time at which the reason and the function code were recorded. -/
  reasonAt : Nat := 0
  funcAt : Nat := 0
  /-- outputs with a HANDOVER fault caused by this axis (Table 11-6). -/
  handover : BitVec 8 := 0
  /-- highest seq accepted from segment A and from segment B since the channel reset (R249). -/
  lastA : Option Word := none
  lastB : Option Word := none
  /-- copies of seqs that wait for their second copy (R250). -/
  waiting : List PairWait := []
  /-- the newest accepted and evaluated telegram. -/
  newest : Option Telegram := none
  /-- posB and trt_ns of the newest sample and of the one before it (R264). -/
  prev : Option (Int × Word) := none
  prev2 : Option (Int × Word) := none
  /-- speed vB derived from the two newest telegrams (R264), exactly: v × dt in 0.1 mm/s × ns, and dt in ns. -/
  vB : Option (Int × Nat) := none
  /-- a telegram has been evaluated since the channel reset. -/
  heard : Bool := false
  /-- consecutive failed position and speed cross-checks (R269). -/
  xPos : Nat := 0
  xSpeed : Nat := 0
  /-- raised position ceiling (R273). -/
  ceiling : Option Int := none
  /-- opening is permitted up to this position after an obstacle (R276). -/
  allow : Option Int := none
  /-- CLOSING was entered from RELEASED (R279). -/
  fromReleased : Bool := false
  /-- model time at which the guard test started (R273). -/
  testAt : Option Nat := none
  /-- staleness deadline, TRT linear ns (R251). -/
  deadline : Nat := 0
  /-- model time since which every seq was a complete pair (R275). -/
  pairsSince : Option Nat := none
  /-- seq of the last complete pair. -/
  lastPair : Option Word := none
  /-- single-copy streak (R250). -/
  streak : Nat := 0
  /-- single-copy seqs, 32-bit wrapping (SI_CH_SINGLE). -/
  singles : Word := 0
  /-- mismatches and rejected copies, 16-bit saturating (SI_CH_ERR). -/
  mismatches : Nat := 0
  rejects : Nat := 0
  /-- seq of the last drive command of this channel's copy (Table 10-3). -/
  cmdSeq : Word := 0
  /-- model time of that command (R248: one each period). -/
  cmdAt : Option Nat := none
  deriving DecidableEq, Repr

/-- A debounced half of an input: the value held and the cycles for which the ball has read otherwise (R255). -/
structure InHalf where
  value : Bool := false
  count : Nat := 0
  deriving DecidableEq, Repr

/-- The decision vector (R245). -/
structure Vector98 where
  states : List AxState
  outs : BitVec 8
  ins : BitVec 16
  seals : BitVec 8
  ident : Word
  crc : Word
  cycle : Word
  deriving DecidableEq, Repr

/-- One channel of the island (R244). -/
structure Channel where
  /-- started and self-tested (sfp_ok, sla_ok). Reset: 0. -/
  ok : Bool := false
  /-- axes 0 to 63. Reset: DISABLED. -/
  axes : Table Axis := []
  /-- the synchronous release S per output (R276). Reset: 0. -/
  grants : BitVec 8 := 0
  /-- its halves of the outputs, as commanded. Reset: low (R253). -/
  halves : BitVec 8 := 0
  /-- dark pulses in progress (R254). -/
  dark : BitVec 8 := 0
  /-- model time of the last commanded change and of the last dark pulse of each output (R254). -/
  changed : Table Nat := []
  pulsed : Table Nat := []
  /-- its halves of the inputs after debounce (R255). -/
  inputs : Table InHalf := []
  /-- model time since which the halves of an input disagree, as this channel sees it (R255). -/
  disagree : Table (Option Nat) := []
  /-- model time since which the feedback of an output disagrees (R254). -/
  fbSince : Table (Option Nat) := []
  /-- model time since which S is 1 while an L is 0 (R278). -/
  handSince : Table (Option Nat) := []
  /-- SEAL and feedback balls as last read. -/
  seals : BitVec 8 := 0
  feedback : BitVec 8 := 0
  /-- consecutive cycles with SEAL different from seal_code (R256). -/
  sealBad : Nat := 0
  /-- the vector it posted last, not yet compared by the other channel. -/
  posted : Option Vector98 := none
  /-- the latest vector received from the other channel. -/
  received : Option Vector98 := none
  /-- consecutive comparisons in which each field differed, by field, and consecutive cycles without a vector (R246). -/
  discrepant : Table Nat := []
  missed : Nat := 0
  /-- safety cycles (SI_CYCLE of the SFP, 32-bit wrapping). Reset: DESIGN CHOICE 0. -/
  cycle : Word := 0
  /-- model time of its last safety cycle (R245: one each millisecond). -/
  cycleAt : Option Nat := none
  /-- model time of the safety cycle before it (R247). -/
  cycleFrom : Option Nat := none
  deriving DecidableEq, Repr

/-- The safety island. -/
structure Island where
  /-- SI_FAULT: causes of Table 10-7. Reset: 0 = none. -/
  fault : Word := 0
  /-- device safe state in force (device_safe). Reset: 1 (Table 10-9). -/
  deviceSafe : Bool := true
  /-- island_ready. Reset: 0. -/
  ready : Bool := false
  /-- param_valid. Reset: 0. -/
  paramValid : Bool := false
  /-- the parameter set in force. Reset: none. -/
  par : Option SafetyPar := none
  sfp : Channel := {}
  sla : Channel := {}
  /-- latched output faults (R254, R278). Reset: 0. -/
  outFault : BitVec 8 := 0
  /-- reason of the latched fault per output: 1 FEEDBACK, 2 DARK_TEST, 3 HANDOVER. -/
  outReason : Table Nat := []
  /-- latched input faults (R255). Reset: 0. -/
  inFault : BitVec 16 := 0
  /-- VDD_SAFE in mV and Tj in 0.1 °C as last measured (SI_ENV). Reset: DESIGN CHOICE 0. -/
  vsafe : Nat := 0
  vsafeOk : Bool := false
  tj : Int := 0
  /-- door cycles and reversals per axis, 32-bit saturating (R279). -/
  cycles : Table Nat := []
  reversals : Table Nat := []
  /-- cycles counted per axis since the counters were last written (R279). -/
  since : Table Nat := []
  /-- model time of the last counter write. -/
  counterAt : Nat := 0
  /-- the safety parameter loads in progress, at most one per tenant (R259, R309). -/
  loads : List LoadStage := []
  /-- the mirror as the SFP wrote it at the end of its last cycle, by offset (R262). Reset: SI_STATUS 0x2. -/
  mirror : Table Word := [(0, 2)]
  /-- the SFP restarts after an activation: model time of the commit, its first vector awaited (R322). -/
  sfpRestart : Option Nat := none
  deriving DecidableEq, Repr

end Sys2Proof.Machine
end

