-- ==== Sys2Proof/Machine/State/Lgb.lean ====
section
/-! DEFINITION. The state of the Process Data Store, the legacy bridge and the Far Window
(spec/09_legacy_bridge_and_far_window.md). -/

namespace Sys2Proof.Machine

/-- A Process Data Store variable (R222 to R226). -/
structure PdVar where
  /-- length in bytes, 0 = not configured. Reset: 0. -/
  len : Nat := 0
  writer : Option Writer := none
  value : Bytes := []
  /-- write sequence -/
  seq : Word := 0
  /-- model time of the last write -/
  at_ : Nat := 0
  stale : Bool := true
  /-- age in pans for a variable written by a CSS window -/
  agePans : Nat := 0
  /-- stale_timeout in ms; none = no map entry sets one -/
  timeout : Option Nat := none
  deriving DecidableEq, Repr

/-- A map entry in its table with its counts (R230, R231). -/
structure MapRec where
  entry : MapEntry
  /-- applied since the macrocycle after LGB_MAP_SET -/
  applied : Bool
  superseded : Nat
  staleCount : Nat
  mismatch : Nat
  /-- sequence of the value carried last -/
  carried : Word
  /-- model time of the last publication on Ethernet, and of the last write to the bus -/
  pubAt : Nat
  busAt : Nat
  /-- the entry that takes its place at the next macrocycle (R230) -/
  next : Option MapEntry := none
  deriving DecidableEq, Repr

/-- An MVB port (Table 9-2). -/
structure MvbPort where
  administrator : Bool := false
  device : Nat := 0
  /-- basic period in µs. Reset: 1 ms. -/
  basicUs : Nat := 1000
  /-- its periodic list, the other administrators, and whether it holds the mastership now. Reset: none. -/
  list : List MasterFrame := []
  admins : List Nat := []
  master : Bool := false
  /-- it receives from line B. Reset: line A (DESIGN CHOICE, log). -/
  lineB : Bool := false
  /-- basic periods run -/
  cycle : Nat := 0
  /-- model time of the last macrocycle -/
  at_ : Nat := 0
  /-- device status words seen by address -/
  devStatus : Table (BitVec 16) := []
  mismatch : Nat := 0
  deriving DecidableEq, Repr

/-- The WTB node (R228). -/
structure WtbNode where
  /-- DESIGN CHOICE (log): the spec gives no reset role -/
  role : WtbRole := .weak
  /-- period in ms as set for this node, and as in force. Reset: 25. -/
  periodMs : Nat := 25
  inForce : Nat := 25
  /-- directions 1 and 2 are received from line B. Reset: line A (DESIGN CHOICE, log). -/
  lineB1 : Bool := false
  lineB2 : Bool := false
  inaugurated : Bool := false
  master : Bool := false
  /-- positions of the inaugurated nodes relative to this one -/
  nodes : List Int := []
  /-- process data last received, by relative position -/
  rx : List (Int × Bytes) := []
  /-- process data sent in the present period -/
  tx : Bytes := []
  /-- model time of the last process data period -/
  at_ : Nat := 0
  deriving DecidableEq, Repr

/-- The legacy bridge and the Process Data Store. -/
structure Lgb where
  /-- variables 0 to 8191 (R222). Reset: not configured. -/
  vars : Table PdVar := []
  /-- map entries by table × 4096 + index; WTB uses table 3 (R228). Reset: none. -/
  map : Table (Option MapRec) := []
  /-- MVB0 to MVB3. -/
  mvb : Table MvbPort := []
  /-- the WTB node. -/
  wtb : WtbNode := {}
  /-- TRDP source address (R229). Reset: DESIGN CHOICE 0. -/
  src : Word := 0
  subs : List TrdpSub := []
  /-- sequence counters of the published ComIDs -/
  pubSeq : List (Word × Word) := []
  /-- received frames discarded for their etbTopoCnt (R229). Reset: 0. -/
  topoDiscards : Nat := 0
  /-- pd_owner_mismatch of TRDP frames (R223). Reset: 0. -/
  mismatch : Nat := 0
  deriving DecidableEq, Repr

/-- An accessor path of a far target (R239). -/
inductive FarPath where
  | bar0
  | tenant (t : Nat)
  deriving DecidableEq, Repr

/-- A lock of a far target (R239). -/
structure FarLockRec where
  path : FarPath
  token : Nat
  /-- model time at which the lease ends -/
  endAt : Nat
  deriving DecidableEq, Repr

/-- A lock request that waits (R239). -/
structure FarLockReq where
  path : FarPath
  token : Nat
  /-- lease in ns -/
  lease : Nat
  at_ : Nat
  hcp : Option Hcp
  deriving DecidableEq, Repr

/-- One access to a target: arrived, split into requests of the chunk size (R233, R235). -/
structure FarAcc where
  path : FarPath
  isRead : Bool
  addr : Nat
  len : Nat
  data : Bytes
  at_ : Nat
  /-- bytes of the access whose requests have been sent, and answered -/
  sent : Nat
  answered : Nat
  got : Bytes
  /-- the HCP command that waits, for a tenant path -/
  hcp : Option Hcp
  /-- its place in the order of arrival over all targets -/
  no : Nat := 0
  deriving DecidableEq, Repr

/-- An open transaction (R233, R234). -/
structure FarTxn where
  tag : Nat
  isRead : Bool
  addr : Nat
  len : Nat
  data : Bytes
  resends : Nat
  at_ : Nat
  deriving DecidableEq, Repr

/-- A far target (R232 to R242). -/
structure FarTarget where
  /-- its settings; none = unconfigured. Reset: none. -/
  cfg : Option FarCfg := none
  /-- FW_ERR, 6 bits W1C. Reset: 0. -/
  err : Word := 0
  /-- FW_ERR_ADDR. Reset: DESIGN CHOICE 0. -/
  errAddr : Word := 0
  /-- last_status. Reset: 0x00. -/
  lastStatus : Nat := 0
  nextTag : Nat := 0
  /-- accesses in order of arrival -/
  queue : List FarAcc := []
  /-- the open transaction -/
  txn : Option FarTxn := none
  /-- tags reserved after a timeout, with the model time at which they are free (R236) -/
  reserved : Table Nat := []
  lock : Option FarLockRec := none
  waiters : List FarLockReq := []
  /-- path and token of the lock just released (R240) -/
  released : Option (FarPath × Nat) := none
  deriving DecidableEq, Repr

/-- The Far Window. -/
structure Far where
  /-- far targets 0 to 255. -/
  targets : Table FarTarget := []
  /-- held BAR0 reads completed: target, status 0 SC, 1 UR, 2 CA, and data, latest first (R235). -/
  completions : List (Nat × Nat × Bytes) := []
  /-- accesses that have arrived -/
  arrivals : Nat := 0
  deriving DecidableEq, Repr

end Sys2Proof.Machine
end

