-- ==== Sys2Proof/Machine/State/Wire.lean ====
section
/-! DEFINITION. What leaves the device: frames and signals as the commands put them out, kept in order (the model's
own record of outputs; no rule reads it). -/

namespace Sys2Proof.Machine

/-- A TRDP telegram as it enters the fabric (R229): IPv4 addresses, UDP port, message type, the standard header's fields. -/
structure TrdpOut where
  src : Word
  dst : Word
  udp : Nat
  msg : BitVec 16
  comid : Word
  seq : Word
  etbTopo : Word
  opTopo : Word
  data : Bytes
  deriving DecidableEq, Repr

/-- One thing sent, with the logical port it left on. -/
inductive Sent where
  /-- a frame of the fabric at its egress port; `stomped` = ended with an invalid FCS (R56, R120) -/
  | frame (port : Nat) (f : Frame) (stomped : Bool)
  /-- a link timing message (Table 2-4) -/
  | ltm (port : Nat) (m : Ltm)
  /-- a segment time beacon (R53): flags, seq, TRT sec, ns, frac, epoch -/
  | beacon (port : Nat) (locked holdover : Bool) (seq : BitVec 16) (sec ns frac : Nat) (epoch : BitVec 8)
  /-- a peer delay request, or the response to one (its Follow_Up with it): the linear WYT ns of the request's arrival and of
  the response's departure (R49) -/
  | pdelayReq (port : Nat) (seq : BitVec 16)
  | pdelayResp (port : Nat) (seq : BitVec 16) (t2 t3 : Nat)
  /-- a Sync: originTimestamp and correctionField in 2^-16 ns (R49, R56) -/
  | sync (port : Nat) (domain : Nat) (seq : BitVec 16) (sec ns : Nat) (correction : Int)
  /-- an Announce (R49) -/
  | announce (port : Nat) (domain : Nat) (rank : GptpRank) (steps : Nat)
  /-- a frame whose one-step insertion did not complete: ended with an invalid FCS (R56) -/
  | spoiled (port : Nat)
  /-- the link leaves low-power idle for a transmission in DOZE (R40) -/
  | lpiWake (port : Nat)
  /-- CSS frames (Table 3-3) -/
  | css (port : Nat) (f : CssFrame)
  | cycleStart (port : Nat) (f : CycleStart)
  | coldStart (port : Nat) (f : ColdStart)
  /-- a wayside token on WL0 (R105) -/
  | wayside (t : Token)
  /-- PRP supervision (R140): pair and sequence -/
  | prpSup (port : Nat) (seq : BitVec 16)
  /-- admission frames (Table 12-13) -/
  | prepare (lineB : Bool) (p : Prepare)
  | reply (r : Reply)
  | install (n : StreamName) (sec ns : Nat)
  | confirm (n : StreamName) (hop status : Nat)
  | release (n : StreamName)
  | notice (n : Notice)
  /-- inauguration frames (Table 8-3) -/
  | hello (h : Hello)
  | table (port : Nat) (h : InaugHdr) (part parts : Nat) (records : List NodeRec)
  | funcs (port : Nat) (h : InaugHdr) (owner : UnitId) (entries : List FuncEntry)
  | digest (port : Nat) (h : InaugHdr) (crc : Word) (count : Nat) (steps : Bool)
  | proceed (h : InaugHdr)
  | merge (h : InaugHdr) (epoch : Word) (leader : UnitId)
  | inaugInstall (h : InaugHdr) (sec ns : Nat) (topo crc : Word)
  | inaugAck (h : InaugHdr) (subtype status : Nat)
  | inaugAbort (h : InaugHdr) (reason : Nat)
  | ttdp (port : Nat)
  /-- the twin link (R215 to R217) -/
  | twinImage (i : TwinImage)
  | twinRequest
  | twinFull (i : TwinImage)
  | twinMirror (slot : Nat) (seq : Word) (data : Bytes)
  | twinMirrorAck (slot : Nat)
  /-- TRDP, MVB and WTB process data (R229, R231) -/
  | trdp (t : TrdpOut)
  | mvb (port : Nat) (addr : Int) (data : Bytes)
  | mvbPoll (port : Nat) (addr : Nat)
  /-- an MVB device's status, and the offer and acceptance of mastership (Table 9-2) -/
  | mvbStatus (port dev : Nat) (v : BitVec 16)
  | mvbOffer (port dev : Nat)
  | mvbAccept (port dev : Nat)
  | wtb (data : Bytes)
  /-- keep-alives and sleep notices (Table 14-4) -/
  | keepAlive (k : KeepAlive)
  | sleepNotice (k : KeepAlive)
  /-- a remote HCP response or event (R306): tenant and bytes -/
  | remoteResponse (tenant : Nat) (b : Bytes)
  | remoteEvent (tenant : Nat) (b : Bytes)
  /-- an MDIO operation (R173) -/
  | mdio (clause45 isWrite : Bool) (phy reg : Nat) (data : BitVec 16)
  /-- a wake burst on a segment (R179) -/
  | wakeBurst (seg : Nat)
  /-- a CAN record (R294) -/
  | can (port : Nat) (r : CanRecord)
  /-- an answer on the recovery UART (R329) -/
  | uart (b : Bytes)
  deriving DecidableEq, Repr

end Sys2Proof.Machine
end

