-- ==== Sys2Proof/Machine/State/Ports.lean ====
section
/-! DEFINITION. The state of the port complex: settings, links, pause, segments, CAN, MDIO, counters and harvest banks
(spec/07_port_complex.md). -/

namespace Sys2Proof.Machine

/-- Port settings (Table 7-1). `none` is the default of the port's type. -/
structure PortCfg where
  /-- admin enabled. Reset: disabled (R167). -/
  enabled : Bool := false
  /-- speed in the enumeration of R308: 0 10GBASE-R, 1 5GBASE-R, 2 2.5GBASE-X, 3 1000BASE-X -/
  speed : Option Nat := none
  maxFrame : Option Nat := none
  pauseRx : Option Bool := none
  /-- pause_wd_limit in ms. Reset: 50. -/
  pauseLimit : Nat := 50
  /-- link_holdoff in ms. Reset: 1. -/
  holdoff : Nat := 1
  /-- lpi_en. Reset: on. -/
  lpi : Bool := true
  /-- tx_amp. Reset: 20. -/
  txAmp : Nat := 20
  /-- tx_pre. Reset: 0. -/
  txPre : Nat := 0
  /-- tx_post. Reset: 4. -/
  txPost : Nat := 4
  /-- tx_pol inverted. Reset: normal. -/
  txInv : Bool := false
  /-- rx_pol inverted. Reset: normal. -/
  rxInv : Bool := false
  /-- eq_mode adapt. Reset: adapt_freeze. -/
  eqAdapt : Bool := false
  deriving DecidableEq, Repr

/-- A link and its pause state. -/
structure LinkRec where
  up : Bool := false
  /-- speed code of a CP port: 0x10, 0x11, 0x12 (Table 7-11) -/
  speed : Nat := 0x12
  /-- held down for half duplex (R170, R172) -/
  halfDuplex : Bool := false
  /-- the QSGMII lane or PCS has lost synchronisation -/
  noSync : Bool := false
  /-- unit ID of the neighbour on BB and TW0, as far as known -/
  partner : Option Partner := none
  /-- transmitter halted by PAUSE until this model time (R184) -/
  haltUntil : Option Nat := none
  /-- model time at which the unbroken halt began (R186) -/
  haltSince : Nat := 0
  /-- PAUSE is ignored since a watchdog trip (R186) -/
  ignoring : Bool := false
  /-- model time of the last PAUSE with non-zero quanta -/
  lastPause : Nat := 0
  /-- source of the last PAUSE frame -/
  pauseSrc : Mac := 0
  /-- the port is in low-power idle (DOZE) -/
  lpiNow : Bool := false
  deriving DecidableEq, Repr

/-- A pending command on a segment (Table 7-4). -/
inductive SegPending where
  /-- Sleep waits for silence since the model time given; the command to complete -/
  | sleep (since : Nat) (h : Hcp)
  /-- the PHY powers up towards a state -/
  | powerUp (target : SegState) (h : Hcp)
  /-- the PHY powers up towards a wake burst -/
  | powerUpWake (h : Hcp)
  /-- a wake burst is being sent since the model time given; the state after it -/
  | burst (since : Nat) (after : SegState) (h : Hcp)
  /-- the PHY powers up after a wake pattern -/
  | wakeUp
  deriving DecidableEq, Repr

/-- A segment (Tables 7-2 and 7-3). -/
structure Segment where
  /-- transceiver state. Reset: Sleep (R167). -/
  state : SegState := .sleep
  /-- the commands and events under way, oldest first. Reset: none. -/
  pending : List SegPending := []
  /-- node_count. Reset: 8. -/
  nodeCount : Nat := 8
  /-- to_timer. Reset: 32. -/
  toTimer : Nat := 32
  /-- max_bc. Reset: 0. -/
  maxBc : Nat := 0
  /-- node_frame. Reset: 1522. -/
  nodeFrame : Nat := 1522
  /-- wake_det_en. Reset: off. -/
  wakeDet : Bool := false
  /-- auto_wake. Reset: on. -/
  autoWake : Bool := true
  deriving DecidableEq, Repr

/-- A destination of the CAN acceptance table (R182): an entry of the steering table (R293), port 97, or none. -/
inductive CanDest where
  | steer (entry : Nat)
  | farWindow
  | discard
  deriving DecidableEq, Repr

/-- An entry of the CAN acceptance table (R182): identifier, mask, format and destination. -/
structure CanAccept where
  ident : Word
  mask : Word
  format : Nat
  dest : CanDest
  deriving DecidableEq, Repr

/-- A CAN port (Table 7-5). -/
structure CanPort where
  /-- mode 0 CC, 1 FD, 2 XL. Reset: FD. -/
  mode : Nat := 1
  /-- nominal_rate in bit/s. Reset: 500 kb/s. -/
  nominal : Nat := 500000
  /-- data_rate in bit/s. Reset: 2 Mb/s. -/
  data : Nat := 2000000
  /-- nominal_sp in percent. Reset: 80. -/
  nominalSp : Nat := 80
  /-- data_sp in percent. Reset: 75. -/
  dataSp : Nat := 75
  /-- tdc auto. Reset: auto. -/
  tdc : Bool := true
  /-- pwm. Reset: off. -/
  pwm : Bool := false
  /-- xl_max_data. Reset: 64. -/
  xlMax : Nat := 64
  /-- bus_off_recovery manual. Reset: auto. -/
  manual : Bool := false
  /-- listen_only. Reset: off. -/
  listenOnly : Bool := false
  /-- acceptance table, at most 256 entries. Reset: empty. -/
  accept : Table (Option CanAccept) := []
  /-- the controller is bus-off (R182). Reset: no. -/
  busOff : Bool := false
  /-- CAN_RECOVER has been given: 128 × 11 recessive bits are awaited (R180). -/
  recovering : Bool := false
  /-- the 8 transmit buffers: frame numbers in Brine (R182) -/
  buffers : List Nat := []
  deriving DecidableEq, Repr

/-- The states of a harvest bank (Table 7-9). -/
inductive BankState where
  | empty | pending | filling | valid | aborted
  deriving DecidableEq, Repr

/-- A harvest bank (R189 to R192). -/
structure HarvestBank where
  /-- FF_HV_SEQ. Reset: 0. -/
  seq : Word := 0
  /-- state. Reset: EMPTY. -/
  state : BankState := .empty
  /-- epoch. Reset: 0x00. -/
  epoch : BitVec 8 := 0
  /-- tenant. Reset: 0x00. -/
  tenant : Nat := 0
  /-- time_invalid. Reset: 0. -/
  invalid : Bool := false
  /-- abort_reason. Reset: 0. -/
  abort : Nat := 0
  /-- T_h, TRT linear ns. Reset: DESIGN CHOICE 0. -/
  at_ : Nat := 0
  /-- harvest_id. Reset: DESIGN CHOICE 0. -/
  ident : Word := 0
  /-- ports harvested. Reset: DESIGN CHOICE 0. -/
  mask : BitVec 128 := 0
  /-- the counters by p × 64 + c. Reset: DESIGN CHOICE 0. -/
  counts : Table (BitVec 64) := []
  /-- the harvest that is pending, with its tenant; the bank keeps its content until it is filled (R190). Reset: none. -/
  next : Option (Nat × HarvestArgs) := none
  deriving DecidableEq, Repr

/-- A frame of the time or redundancy protocols that waits for the end of its port's halt (R184). -/
structure HeldOut where
  port : Nat
  item : Sent
  /-- model time since which it waits: a Sync's correction grows by the wait (R49, R56) -/
  since : Nat
  deriving DecidableEq, Repr

/-- The port complex. -/
structure Ports where
  /-- settings by logical port (CPQ lane fields under the lane's first port). Reset: every port disabled (R167). -/
  cfg : Table PortCfg := []
  /-- links by logical port. Reset: down. -/
  links : Table LinkRec := []
  /-- segments by segment number 0 to 63. Reset: Sleep, detector off (R167). -/
  segs : Table Segment := []
  /-- CAN ports by number 0 to 7. -/
  can : Table CanPort := []
  /-- MDC in kHz (R173). Reset: 2500. -/
  mdcKhz : Nat := 2500
  /-- MDIO preamble suppression (R173). Reset: off. -/
  mdioNoPreamble : Bool := false
  /-- frames of the time and redundancy protocols that wait for the end of their port's halt, oldest first (R184). Reset:
  none. -/
  heldOut : List HeldOut := []
  /-- live counters by p × 64 + c, 64 bits wrapping (R187). Reset: 0. -/
  counters : Table (BitVec 64) := []
  /-- harvest banks 0 to 3. Reset: EMPTY. -/
  banks : Table HarvestBank := []
  deriving DecidableEq, Repr

end Sys2Proof.Machine
end

