-- ==== Sys2Proof/Machine/State/Pwc.lean ====
section
/-! DEFINITION. The state of the Power and Wake Controller and the slow balls (spec/14_power_and_wake.md,
spec/16_balls_and_electrical.md). -/

namespace Sys2Proof.Machine

/-- Power parameters (Table 14-5). Spans in µs or s as named. -/
structure PowerCfg where
  /-- deepest_auto: 0 RUN, 1 IDLE, 2 DOZE, 3 NAP. Reset: NAP. -/
  deepest : Nat := 3
  /-- doze_hold in µs. Reset: 100. -/
  dozeHold : Nat := 100
  /-- nap_hold in ms. Reset: 10. -/
  napHold : Nat := 10
  /-- sleep_agree. Reset: on. -/
  agree : Bool := true
  /-- always_awake. Reset: off. -/
  alwaysAwake : Bool := false
  /-- T_quiet in s. Reset: 10. -/
  quiet : Nat := 10
  /-- sleep_grace in s. Reset: 2. -/
  grace : Nat := 2
  /-- keep_max in s. Reset: 8 h. -/
  keepMax : Nat := 28800
  /-- awake_min in s. Reset: 60. -/
  awakeMin : Nat := 60
  /-- wake_sw_en. Reset: on. -/
  wakeSw : Bool := true
  /-- wake_timer in s, 0 = off. Reset: off. -/
  timer : Nat := 0
  deriving DecidableEq, Repr

/-- Where the rails stand (R338 to R341, R374, R375). -/
inductive PowerPhase where
  /-- VAON below its range or PORST# low -/
  | held
  /-- STANDBY: only VAON powered -/
  | standby
  /-- wake sequence: waiting for PG0, PG1, PG2 -/
  | pg (n : Nat)
  | xin
  /-- waiting for PLL lock; `again` = the further attempt, `rc` = on the internal RC -/
  | lock (again rc : Bool)
  /-- a failed attempt or an INH release: the next attempt follows 100 ms later -/
  | retry
  | running
  deriving DecidableEq, Repr

/-- Sleep agreement states (Tables 14-5a and 14-11). -/
inductive SleepState where
  | awake | pending | entering
  deriving DecidableEq, Repr

/-- A keep-alive sender (R337). -/
structure Keeper where
  unit : UnitId
  reasons : BitVec 16
  car : Nat
  tenant : Nat
  awakeFor : Nat
  /-- awake_for at the last keeper alarm -/
  told : Nat
  deriving DecidableEq, Repr

/-- The Power and Wake Controller. -/
structure Pwc where
  phase : PowerPhase := .pg 0
  /-- model time at which the phase began -/
  phaseAt : Nat := 0
  /-- INH0 to INH2. Reset: INH0 asserted, the wake sequence begun (R374). -/
  inh : BitVec 3 := 1
  /-- PG0 to PG2 as read. -/
  pgs : BitVec 3 := 0
  /-- attempts of this wake sequence (Table 14-13). Reset: 0x0. -/
  attempts : Nat := 0
  /-- PWC_STATUS state, 0 to 3 (Table 14-11). Reset: 0 RUN. -/
  state : Nat := 0
  /-- permitted. Reset: 0. -/
  permitted : Nat := 0
  /-- limiter. Reset: 0x0. -/
  limiter : Nat := 0
  /-- model time since which the conditions of DOZE and of NAP hold (R333) -/
  dozeSince : Option Nat := none
  napSince : Option Nat := none
  /-- model time of entry to the present state, and ns in each of states 0 to 3 (PWC_RES) -/
  stateAt : Nat := 0
  res : Table Nat := []
  sleep : SleepState := .awake
  /-- ka_sending. Reset: 0. -/
  kaSending : Bool := false
  /-- PWC_ALARM, 5 bits W1C. Reset: 0. -/
  alarm : Word := 0
  /-- PWC_ALARM_EN. Reset: 0. -/
  alarmEn : Word := 0
  cfg : PowerCfg := {}
  /-- tenants that hold POWER_KEEP (Table 14-3) -/
  keepers : NatSet := []
  /-- WAKE_SW is active, after debounce -/
  wakeSw : Bool := false
  /-- less than awake_min has passed since fw_ready after a wake from STANDBY -/
  graceOn : Bool := false
  /-- last_ka and T_sleep, TRT linear ns (R336) -/
  lastKa : Nat := 0
  sleepAt : Nat := 0
  /-- model time of the last keep-alive and of the last notice sent; seq of the frames -/
  kaAt : Nat := 0
  noticeAt : Nat := 0
  kaSeq : Word := 0
  /-- model time since which this node has kept reasons without a gap over 3 s -/
  keepSince : Option Nat := none
  /-- keep-alive senders, at most 128 (R337) -/
  senders : List Keeper := []
  /-- latched PWC_SLEEP_AT_SEC_HI, PWC_SLEEP_AT_NS, PWC_KEEPER_HI, PWC_KEEPER_INFO (R345) -/
  sleepHi : Word := 0
  sleepNs : Word := 0
  keeperHi : Word := 0
  keeperInfo : Word := 0
  /-- wake_fail and fail_code of PWC_VAON_WAKE (Table 14-13). Reset: 0. -/
  wakeFail : Bool := false
  failCode : Nat := 0
  /-- source and segment of PWC_VAON_WAKE. Reset: 0x00 VAON power-on. -/
  source : Nat := 0
  segment : Nat := 0
  /-- PWC_VAON_COUNT, PWC_VAON_ENTRY, PWC_VAON_STANDBY_S, PWC_VAON_FAILS. Reset: DESIGN CHOICE 0. -/
  count : Word := 0
  entry : Nat := 0
  standbyS : Word := 0
  fails : Word := 0
  /-- wake_timer as held on VAON (PWC_VAON_TIMER) -/
  timer : Nat := 0
  /-- segments whose wake detector was armed at entry -/
  armed : NatSet := []
  /-- a wake event held during entry: source and segment (R338) -/
  heldWake : Option (Nat × Nat) := none
  /-- VAON has powered up and no wake sequence has run since (source 0x00, R374) -/
  vaonFresh : Bool := false
  /-- model time of the last entry to STANDBY -/
  entryAt : Nat := 0
  /-- this start follows a wake from STANDBY -/
  fromStandby : Bool := false
  /-- STANDBY entry waits for the control-plane pause to end (R337) -/
  entryWaits : Bool := false
  /-- WAKE_OUT pulses: model time of the end of the present pulse; none = low (R342) -/
  wakeOut : Option Nat := none
  /-- WAKE_OUT signals the latched failure since this model time -/
  wakeOutFail : Option Nat := none
  /-- PORST# is low; VAON is within its range. -/
  porstLow : Bool := false
  vaonOk : Bool := true
  /-- RSTOUT# is low (Table 16-10). Reset: low. -/
  rstoutLow : Bool := true
  /-- model time of the last PLL lock -/
  lockAt : Nat := 0
  /-- PFAIL# is low (R356) -/
  pfail : Bool := false
  /-- the PGs that fell while the device ran, with the model time (R375) -/
  pgLow : Table (Option Nat) := []
  deriving DecidableEq, Repr

end Sys2Proof.Machine
end

