-- ==== Sys2Proof/Machine/State/Tau.lean ====
section
/-! DEFINITION. The state of the timed action units and their pins (spec/04_timed_actions.md). -/

namespace Sys2Proof.Machine

/-- TAU states (Table 4-4). -/
inductive TauState where
  | idle | armed | committed | surveyWait
  deriving DecidableEq, Repr

/-- TAU modes (Table 4-3). -/
inductive TauMode where
  | oneShot | periodic | gated
  deriving DecidableEq, Repr

/-- One timed action unit: the armed parameters (Table 4-9), its state and results. -/
structure TauRec where
  /-- state (Table 4-4). Reset: IDLE (R95). -/
  state : TauState := .idle
  /-- mode (Table 4-3). -/
  mode : TauMode := .oneShot
  /-- timescale WYT. -/
  wyt : Bool := false
  /-- target code (Table 4-1). -/
  target : Nat := 0
  /-- target_arg, 32 bits. -/
  arg : Word := 0
  /-- the next T_fire, in units of 2^-16 ns of its timescale. -/
  fire : Nat := 0
  /-- key slot 0-3. -/
  keySlot : Nat := 0
  /-- period in ns. -/
  period : Nat := 0
  /-- count, 0 = until cancelled. -/
  count : Nat := 0
  /-- index k of the next instant. -/
  k : Nat := 0
  /-- T_commit, linear ns. -/
  commitAt : Nat := 0
  /-- action_id, 32 bits. -/
  actionId : Word := 0
  /-- issuer unit ID. -/
  issuer : UnitId := 0
  /-- commit source wayside. -/
  wayside : Bool := false
  /-- a survey is armed. -/
  survey : Bool := false
  /-- survey slot_id. -/
  surveySlot : Nat := 0
  /-- survey_span in pans. -/
  surveySpan : Nat := 8
  /-- expected_count. -/
  expected : Nat := 0
  /-- the tenant that armed it last; none = not armed since reset (R95); 256 = the device. -/
  owner : Option Nat := none
  /-- trt_epoch recorded at arming. -/
  epoch : BitVec 8 := 0
  /-- a TAU_COMMIT or TAU_ABORT has been accepted for its action (R105). -/
  decided : Bool := false
  /-- token_reject count of this arming (R102). -/
  rejects : Nat := 0
  /-- lines on which valid tokens came: bit 0 A, 1 B, 2 wayside (Table 4-7). -/
  lines : BitVec 8 := 0
  /-- arrival of the first accepted token, linear ns mod 2^32. -/
  tokenAt : Option Word := none
  /-- decision of the first accepted token (1 commit, 2 cancel). -/
  verdict : Nat := 0
  /-- last reason (Table 4-5), 0 = none or fired. -/
  reason : Nat := 0
  /-- it last fired. -/
  fired : Bool := false
  /-- the frame buffer of 1522 B (R96). Reset: not loaded. -/
  buffer : Option Bytes := none
  /-- the action is part of the shared state of a twin pair (R215). -/
  shared : Bool := false
  /-- the survey of the issuer is open (R109). -/
  surveyOpen : Bool := false
  /-- reports received (R109). -/
  reports : List Survey := []
  deriving DecidableEq, Repr

/-- A TA pin: its level, the actions applied at its latest tick over the level before them, and a running pulse. -/
structure TaPin where
  level : Bool := false
  /-- raw TRT tick of the latest actions -/
  tick : Nat := 0
  base : Bool := false
  /-- (TAU, operation) of the actions at that tick (R107) -/
  ops : List (Nat × Nat) := []
  /-- a pulse: model time of its end and the level to return to -/
  pulse : Option (Nat × Bool) := none
  deriving DecidableEq, Repr

/-- A capture window on a TC pin (Table 4-1). -/
structure CapWin where
  tau : Nat
  /-- 1 rising, 2 falling, 3 both -/
  edges : Nat
  /-- model time at which it ends -/
  endAt : Nat
  wyt : Bool
  /-- stamps as linear ns mod 2^32 with the edge, oldest first, at most 16 -/
  stamps : List (Word × Bool)
  deriving DecidableEq, Repr

/-- A token stored for WL0 (R105): its bytes' fields and T_commit as linear ns. -/
structure WaysideTok where
  token : Token
  commitAt : Nat
  wyt : Bool
  /-- model time of the next transmission -/
  nextAt : Nat
  deriving DecidableEq, Repr

/-- A survey report that waits for its slot (R108). -/
structure SurveyWait where
  /-- T_fire, linear ns of its timescale -/
  fire : Nat
  wyt : Bool
  /-- slot_id of the survey slot -/
  slot : Nat
  tau : Nat
  report : Survey
  /-- T_fire has come: the fields taken at T_fire stand, and the CMAC is over them -/
  sealed : Bool
  deriving DecidableEq, Repr

/-- The timed action units. -/
structure Taus where
  /-- TAU0 to TAU63 (R94). -/
  units : Table TauRec := []
  /-- token keys in slots 0 to 3, 128 bits, none = no key (R110). Reset: DESIGN CHOICE none. -/
  keys : Table (Option (BitVec 128)) := []
  /-- TA pins 0 to 7. Reset: low (R96). -/
  ta : Table TaPin := []
  /-- capture windows by TC pin 0 to 7. Reset: none. -/
  caps : Table (Option CapWin) := []
  /-- stamps of ended capture windows by TC pin, TAU first. -/
  captured : Table (Option CapWin) := []
  /-- survey reports waiting for their slot in order of T_fire (R108). -/
  surveyQueue : List SurveyWait := []
  /-- wayside tokens by TAU (R105). -/
  tokens : Table (Option WaysideTok) := []
  /-- the latest presentation to each safe output: raw tick, TAU, grant (R107). -/
  lastRelease : Table (Option (Nat × Nat × Bool)) := []
  deriving DecidableEq, Repr

end Sys2Proof.Machine
end

