-- ==== Sys2Proof/Machine/State/Tms.lean ====
section
/-! DEFINITION. The state of the Time Subsystem and the reference monitor (spec/02_train_time.md). -/

namespace Sys2Proof.Machine

/-- trt_state (Table 2-11). -/
inductive TrtState where
  | free | acquiring | locked | holdover | leader | none
  deriving DecidableEq, Repr

/-- wyt_state (Table 2-11). -/
inductive WytState where
  | invalid | acquiring | locked | holdover
  deriving DecidableEq, Repr

/-- pps_out_src (Table 2-2). -/
inductive PpsSrc where
  | trt | wyt | off
  deriving DecidableEq, Repr

/-- The time configuration parameters of Table 2-2, at their defaults. Rates in mHz, spans in ns, thresholds in
0.001 ppm (the units of R308). -/
structure TimeCfg where
  /-- servo_mode manual (R39). Reset: auto. -/
  manual : Bool := false
  /-- trt_bw in mHz. Reset: 50 Hz. -/
  trtBw : Nat := 50000
  /-- wyt_bw in mHz. Reset: 0.5 Hz. -/
  wytBw : Nat := 500
  /-- slew_limit in 0.001 ppm. Reset: 100 ppm. -/
  slewLimit : Nat := 100000
  /-- trt_step_threshold in ns. Reset: 1 µs. -/
  stepThreshold : Nat := 1000
  /-- lock_window in ns. Reset: 2. -/
  lockWindow : Nat := 2
  /-- wyt_domain_pref. Reset: 0. -/
  domainPref : Nat := 0
  /-- wyt_step_limit in ns. Reset: 1 ms. -/
  wytStepLimit : Nat := 1000000
  /-- ref_threshold in 0.001 ppm. Reset: 30 ppm. -/
  refThreshold : Nat := 30000
  /-- ref_revert. Reset: on. -/
  refRevert : Bool := true
  /-- bb_asym in ps by link 0-3 BB0-BB3, 4 TW0. Reset: 0. -/
  bbAsym : Table Int := []
  /-- cp_lat_tx in ps by CP number. Reset: 0. -/
  cpLatTx : Table Nat := []
  /-- cp_lat_rx in ps by CP number. Reset: 0. -/
  cpLatRx : Table Nat := []
  /-- gptp_port_en, a set of logical ports. Reset: WL0 only. -/
  gptpPorts : NatSet := [94]
  /-- pps_out_src. Reset: TRT. -/
  ppsSrc : PpsSrc := .trt
  deriving DecidableEq, Repr

/-- What the last LTM received on a link said of its sender (Table 2-4, R43). -/
structure PeerTime where
  leaderId : UnitId
  senderId : UnitId
  epoch : Word
  hops : Nat
  isLeader : Bool
  inHoldover : Bool
  valid : Bool
  drift : Int
  /-- model time at which it arrived (R45: 500 µs) -/
  at_ : Nat
  deriving DecidableEq, Repr

/-- The LTM state of one BB or TW0 link (R40 to R42). -/
structure LinkTime where
  /-- seq of the last LTM sent (R40). Reset: DESIGN CHOICE 0. -/
  txSeq : BitVec 16 := 0
  /-- the last LTM received: its seq, its time (linear ns and frac) and the receive stamp (linear ns and frac) -/
  echo : Option (BitVec 16 × Word × Nat × Word × Nat) := none
  /-- what its sender said -/
  peer : Option PeerTime := none
  /-- the last 16 delay samples in ps, newest first (R41) -/
  samples : List Int := []
  /-- LTMs of other versions discarded (Table 2-4). Reset: 0. -/
  versionDiscards : Nat := 0
  /-- the phase tracker holds lock since this model time; none = no lock (R42) -/
  trackSince : Option Nat := none
  /-- the neighbour's recovered clock over the local reference, less 1, in units of 2^-48, as the phase tracker last gave
  it (R42) -/
  ratio : Int := 0
  /-- usable as upstream: the tracker has held lock for 10 ms (R42) -/
  qualified : Bool := false
  /-- the nominal instant of the last LTM sent, in model time; none = none since the link came up (R40: 125 µs). -/
  ltmAt : Option Nat := none
  /-- the leader that this link's LTMs last carried while it was this node's, with the model time of the last (R45) -/
  led : Option (UnitId × Nat) := none
  deriving DecidableEq, Repr

/-- A gPTP domain (R49, R50). -/
structure GptpDomain where
  /-- synchronised: within syncReceiptTimeout of the last Sync (R50). Reset: no (Table 2-10). -/
  synced : Bool := false
  /-- local WYT minus domain time in ns (TMS_WYT_DOMn_OFFSET) -/
  offset : Int := 0
  /-- the domain's rate over the local oscillator's, less 1, in units of 2^-48 (R37, R49) -/
  ratio : Int := 0
  /-- the grandmaster that best master selection names; 0 = none (R49) -/
  grandmaster : UnitId := 0
  /-- the grandmaster changed and no Sync of the new one has come yet (R50) -/
  gmNew : Bool := false
  /-- the last Announce by port: what it names, its steps removed and the model time at which it came (R49) -/
  heard : Table (Option (GptpRank × Nat × Nat)) := []
  /-- external port configuration (Table 2-5): the slave port it gives, if any. Reset: off (none). -/
  ext : Option (Option Nat) := none
  /-- model time since which sync is continuous (R50: 10 s) -/
  since : Nat := 0
  /-- model time of the last Sync -/
  lastSync : Nat := 0
  /-- logSyncInterval of the Syncs received (Table 2-5). Reset: −3 (125 ms). -/
  logInterval : Int := -3
  /-- the nominal instant of the last Sync sent as grandmaster, by port (R49) -/
  syncAt : Table (Option Nat) := []
  /-- sequence number of the Syncs sent as grandmaster -/
  txSeq : BitVec 16 := 0
  /-- priority1; 255 = not grandmaster-capable (Table 2-5). Reset: 255. -/
  priority1 : Nat := 255
  deriving DecidableEq, Repr

/-- Peer delay of a gPTP port (R49). -/
structure PeerDelay where
  /-- the sequence number of the last request -/
  seq : BitVec 16 := 0
  /-- the WYT stamp of its departure in 2^-16 ns, from then until its response has come -/
  t1 : Option Nat := none
  /-- the nominal instant of the last request in model time (Table 2-5: 1 s) -/
  reqAt : Option Nat := none
  /-- t3 and t4 of the last exchange, in 2^-16 ns (neighborRateRatio), and its model time -/
  last : Option (Nat × Nat × Nat) := none
  /-- mean link delay in 2^-16 ns -/
  delay : Int := 0
  /-- neighborRateRatio less 1 against WYT, in units of 2^-41 -/
  rateRatio : Int := 0
  /-- the neighbour's rate over the local oscillator's, less 1, in units of 2^-41: what the WYT servo's feed-forward takes
  (R37) -/
  oscRatio : Int := 0
  deriving DecidableEq, Repr

/-- The shadows of a time-read slot (R59, Table 2-10). Times raw in units of 2^-48 ns. -/
structure TimeSlot where
  trt : Nat := 0
  wyt : Nat := 0
  trtValid : Bool := false
  wytValid : Bool := false
  epoch : BitVec 8 := 0
  count : BitVec 16 := 0
  deriving DecidableEq, Repr

/-- The last TRT step (Table 2-10): seconds signed, ns from 0 to 999,999,999, and the trt_epoch it began. -/
structure StepRec where
  sec : Int := 0
  ns : Nat := 0
  epoch : BitVec 8 := 0
  /-- model time of the step (R249: 40 ms); none = no step yet -/
  at_ : Option Nat := none
  deriving DecidableEq, Repr

/-- The Time Subsystem. -/
structure Tms where
  /-- ts_valid, 1 bit (R70, Table 2-11). Reset: 0. -/
  tsValid : Bool := false
  /-- TRT, 48-bit sec, ns, 16-bit frac, 32-bit sub, held in units of 2^-48 ns (R35). Reset: 0 (R47). -/
  trt : Nat := 0
  /-- WYT, as TRT (R35). Reset: DESIGN CHOICE 0. -/
  wyt : Nat := 0
  /-- DRIFT of TRT, signed 40 bits (R36). Reset: DESIGN CHOICE 0. -/
  trtDrift : Int := 0
  /-- DRIFT of WYT, signed 40 bits (R36). Reset: DESIGN CHOICE 0. -/
  wytDrift : Int := 0
  /-- trt_state (Table 2-11). Reset: FREE. -/
  trtState : TrtState := .free
  /-- trt_epoch, 8 bits (R38). Reset: 0x00. -/
  trtEpoch : BitVec 8 := 0
  /-- trt_hops, 8 bits (Table 2-11). Reset: 0xFF. -/
  hops : Nat := 255
  /-- upstream, 4 bits: 0-3 BB0-BB3, 4 TW0, 15 none (Table 2-11). Reset: 0xF. -/
  upstream : Nat := 15
  /-- the leader's unit ID, 64 bits (R43, Table 2-10). Reset: DESIGN CHOICE 0 (none). -/
  leaderId : UnitId := 0
  /-- model time at which the node took its leader_id (R45: 500 µs). Reset: DESIGN CHOICE 0. -/
  leaderSince : Nat := 0
  /-- domain_epoch, 32 bits (Table 2-4). Reset: DESIGN CHOICE 0. -/
  domainEpoch : Word := 0
  /-- wyt_state (Table 2-11). Reset: INVALID. -/
  wytState : WytState := .invalid
  /-- wyt_dom, the selected gPTP domain (Table 2-11). Reset: 0. -/
  wytDom : Nat := 0
  /-- the two gPTP domains (R50). Reset: not synchronised. -/
  domains : Table GptpDomain := []
  /-- peer delay by logical port (R49). -/
  peerDelay : Table PeerDelay := []
  /-- TMS_ALARM, 11 bits W1C (Table 2-13). Reset: 0. -/
  alarm : Word := 0
  /-- TMS_ALARM_EN (Table 2-10). Reset: 0. -/
  alarmEn : Word := 0
  /-- TMS_UP_OFFSET in ps (R41). Reset: DESIGN CHOICE 0. -/
  upOffset : Int := 0
  /-- the offsets of R41 to the present upstream since the last TRT servo update, in ps (R42). Reset: none. -/
  offsets : List Int := []
  /-- the integral terms of the two servos, in DRIFT units (R37). Reset: DESIGN CHOICE 0. -/
  trtInteg : Int := 0
  /-- see trtInteg. -/
  wytInteg : Int := 0
  /-- the servos' last updates were in manual mode (R39: they resume from the present DRIFT). Reset: no. -/
  trtStopped : Bool := false
  /-- see trtStopped. -/
  wytStopped : Bool := false
  /-- model time of entry to TRT holdover; none outside it (R45). Reset: none. -/
  trtHoldSince : Option Nat := none
  /-- model time of entry to WYT holdover (R50). Reset: none. -/
  wytHoldSince : Option Nat := none
  /-- DRIFT values of TRT with the model time each took effect, newest first (R45: mean over 1 s). -/
  trtHist : List (Nat × Int) := []
  /-- as trtHist for WYT (R50: mean over 10 s). -/
  wytHist : List (Nat × Int) := []
  /-- model time at which the node became LOCKED (R45). -/
  lockedSince : Nat := 0
  /-- consecutive offsets within lock_window (R44: 16). Reset: 0. -/
  goodRun : Nat := 0
  /-- consecutive offsets outside four times lock_window (R44: 4). Reset: 0. -/
  badRun : Nat := 0
  /-- the links 0-3 BB0-BB3 and 4 TW0 (R40 to R42). -/
  links : Table LinkTime := []
  /-- a TRT step to the first LTM carrying the surviving leader is pending after a merge (R203). -/
  mergeStep : Bool := false
  /-- the first alignment to the present upstream domain has been taken (Table 2-3, first row). Reset: no. -/
  aligned : Bool := false
  /-- TMS_REF_STATUS source, 8 bits (Table 2-11). Reset: 0x00 XIN. -/
  refSource : Nat := 0
  /-- consensus members, bit 0-3 BB0-BB3, 4-15 CP0-CP11 (Table 2-11). Reset: 0. -/
  refCand : BitVec 16 := 0
  /-- xin_fault (R63). Reset: 0. -/
  xinFault : Bool := false
  /-- XIN minus consensus in 0.001 ppm; none = no consensus (TMS_REF_PPM). Reset: none. -/
  refPpb : Option Int := none
  /-- model time of the end of the last reference monitor window (R63: 100 ms). Reset: DESIGN CHOICE 0. -/
  refAt : Nat := 0
  /-- consecutive windows in which XIN lay beyond ref_threshold (R63: 3). Reset: 0. -/
  refBad : Nat := 0
  /-- model time since which XIN stays within half the threshold (R66: 60 s). -/
  refGood : Option Nat := none
  /-- TMS_PPSIN_TRT_NS. Reset: DESIGN CHOICE 0. -/
  ppsInTrt : Word := 0
  /-- TMS_PPSIN_WYT_NS. Reset: DESIGN CHOICE 0. -/
  ppsInWyt : Word := 0
  /-- TMS_PPSIN_COUNT, 32-bit wrapping (R62). Reset: DESIGN CHOICE 0. -/
  ppsInCount : Word := 0
  /-- the model time at which a high PPS_OUT falls; none = low (R62). Reset: low. -/
  ppsFallAt : Option Nat := none
  /-- the last TRT step (Table 2-10). Reset: DESIGN CHOICE 0. -/
  stepRec : StepRec := {}
  /-- the latched step record (R70). Reset: DESIGN CHOICE 0. -/
  stepLatch : StepRec := {}
  /-- latched TMS_TRT_DRIFT_HI (R62). Reset: DESIGN CHOICE 0. -/
  trtDriftHi : Word := 0
  /-- latched TMS_WYT_DRIFT_HI (R62). Reset: DESIGN CHOICE 0. -/
  wytDriftHi : Word := 0
  /-- latched TMS_TRT_LEADER_HI (R62). Reset: DESIGN CHOICE 0. -/
  leaderHi : Word := 0
  /-- the eight time-read slots (R59). Reset: shadows DESIGN CHOICE 0, TMS_SLOT_STAT 0 (Table 2-11). -/
  slots : Table TimeSlot := []
  /-- seq of the segment beacons by segment (R53). Reset: DESIGN CHOICE 0. -/
  beaconSeq : Table (BitVec 16) := []
  /-- the nominal instant of the last beacon by segment, in model time (R53: 10 ms). Reset: none. -/
  beaconAt : Table (Option Nat) := []
  /-- the parameters in force (Table 2-2). -/
  cfg : TimeCfg := {}
  /-- the parameters that the next servo update puts in force (R39). -/
  cfgNext : TimeCfg := {}
  /-- the DRIFT value given with TIME_CONFIG in manual mode for TRT that the next servo update puts in force (Table 2-2).
  Reset: none. -/
  manualTrt : Option Int := none
  /-- as manualTrt for WYT. Reset: none. -/
  manualWyt : Option Int := none
  /-- the SerDes latency corrections in ps from which the last calibration update started, by lane: BB0-BB3, WL0, TW0,
  CPQ0-CPQ2 (R57); the Ageing Monitor holds those it leads to. Reset: DESIGN CHOICE 0, the factory value. -/
  latTx : Table Int := []
  /-- see latTx. -/
  latRx : Table Int := []
  /-- model time of that update (R57). Reset: DESIGN CHOICE 0. -/
  latAt : Nat := 0
  deriving DecidableEq, Repr

end Sys2Proof.Machine
end

