-- ==== Sys2Proof/Machine/State.lean ====
section
/-! DEFINITION. The state of the BV-9664, block by block, with the queue of waiting commands; the reasons a step can
stop; and the state right after reset. -/

namespace Sys2Proof.Machine

/-- Why a command faults. No command does: the spec gives every command an effect or no effect, never a stop. -/
inductive Fault where
  deriving DecidableEq, Repr

/-- Why a command is refused. -/
inductive Refusal where
  /-- Raised by an arm of `exec` whose command has no meaning yet. Safe: it answers no state. -/
  | notModelled (mnemonic : String)
  deriving DecidableEq, Repr

/-- The state of the device. -/
structure State where
  /-- GLOBAL registers and ECC (chapter 1) -/
  glob : Global := {}
  /-- OTP fuses (chapter 13) -/
  otp : Otp := {}
  /-- firmware slots, keys and boot (chapter 13) -/
  fw : Fw := {}
  /-- Time Subsystem (chapter 2) -/
  tms : Tms := {}
  /-- Cyclic Slot Service (chapter 3) -/
  css : Css := {}
  /-- timed action units (chapter 4) -/
  tau : Taus := {}
  /-- Forwarding Fabric (chapter 5) -/
  fab : Fabric := {}
  /-- Admission Engine (chapter 6) -/
  adm : Admission := {}
  /-- port complex (chapter 7) -/
  ports : Ports := {}
  /-- Inauguration Engine and twin pair (chapter 8) -/
  ine : Ine := {}
  /-- legacy bridge and Process Data Store (chapter 9) -/
  lgb : Lgb := {}
  /-- Far Window (chapter 9) -/
  far : Far := {}
  /-- safety island (chapters 10 and 11) -/
  isl : Island := {}
  /-- host interface and tenants (chapter 12) -/
  host : HostIf := {}
  /-- Power and Wake Controller and the slow balls (chapters 14 and 16) -/
  pwc : Pwc := {}
  /-- Event Recorder (chapter 15) -/
  evr : Evr := {}
  /-- Ageing Monitor (chapter 15) -/
  agm : Agm := {}
  /-- everything sent since reset, oldest first (the model's own record of the outputs) -/
  wire : List Sent := []
  /-- model time in ns: the TRT passed since reset, its steps apart; without time service the ticks of the clock the device
  then has (the model's own; durations are measured with it, R12) -/
  mono : Nat := 0
  /-- what has passed beyond `mono`, in units of 2^-48 ns (the model's own). Reset: DESIGN CHOICE 0. -/
  monoFrac : Nat := 0
  /-- the number of free values drawn (the model's own). Reset: DESIGN CHOICE 0. -/
  draws : Nat := 0
  /-- the commands that wait, first in, first out (the model's own). Reset: empty. -/
  pending : List Instr := []
  deriving DecidableEq, Repr

/-- The device right after the release of its internal power-on reset (R374): every field at the value its docstring
states, the wake sequence begun. -/
def State.reset : State := {}

end Sys2Proof.Machine
end

