-- ==== Sys2Proof/Machine/Operands.lean ====
section
/-! DEFINITION. Operand forms: byte orders (R11), bit fields, parameter records (R308) and the kinds of logical ports
(Table 0-4). -/

namespace Sys2Proof.Machine

/-! ## Bytes and bits -/

/-- The low `n` bytes of a number, least significant first. -/
def leBytes : Nat → Nat → Bytes
  | 0, _ => []
  | n + 1, v => BitVec.ofNat 8 v :: leBytes n (v / 256)

/-- The low `n` bytes of a number, most significant first (network order). -/
def beBytes (n v : Nat) : Bytes := (leBytes n v).reverse

/-- Bytes, least significant first, as a number. -/
def leNat : Bytes → Nat
  | [] => 0
  | b :: r => b.toNat + 256 * leNat r

/-- Bytes, most significant first, as a number. -/
def beNum (b : Bytes) : Nat := b.foldl (fun a x => a * 256 + x.toNat) 0

/-- A signed number as `n` bytes, least significant first, two's complement. -/
def leInt (n : Nat) (v : Int) : Bytes := leBytes n (v.emod (2 ^ (8 * n))).toNat

/-- A signed number as `n` bytes, most significant first. -/
def beInt (n : Nat) (v : Int) : Bytes := (leInt n v).reverse

/-- A number of `bits` bits read as two's complement. -/
def toSigned (bits v : Nat) : Int :=
  let m := v % 2 ^ bits
  if m < 2 ^ (bits - 1) then (m : Int) else (m : Int) - 2 ^ bits

/-- The `n` bytes at offset `o` of a structure, missing bytes zero. -/
def bytesAt (b : Bytes) (o n : Nat) : Bytes := (List.range n).map fun i => b.getD (o + i) 0

/-- The little-endian field of `n` bytes at offset `o`. -/
def leAt (b : Bytes) (o n : Nat) : Nat := leNat (bytesAt b o n)

/-- A word that holds a number. -/
def word (v : Nat) : Word := BitVec.ofNat 32 v

/-- A word that holds the low 32 bits of a signed number. -/
def wordI (v : Int) : Word := BitVec.ofInt 32 v

/-- A bit as a number. -/
def b2n (b : Bool) : Nat := if b then 1 else 0

/-- Bit `i` of a vector. -/
def bitAt {n : Nat} (v : BitVec n) (i : Nat) : Bool := v.getLsbD i

/-- A vector with bit `i` set or cleared. -/
def setBit {n : Nat} (v : BitVec n) (i : Nat) (b : Bool) : BitVec n :=
  if b then v ||| BitVec.twoPow n i else v &&& ~~~(BitVec.twoPow n i)

/-- A count of 16 bits that saturates. -/
def sat16 (v : Nat) : Nat := min 65535 v

/-- A count of 32 bits that saturates. -/
def sat32 (v : Nat) : Nat := min 4294967295 v

/-- The numbers below `n` whose bit is set. -/
def setOf {n : Nat} (v : BitVec n) : List Nat := (List.range n).filter fun i => v.getLsbD i

/-- Element `i` of a list changed by `f`; a list that is too short stays. -/
def modAt {α : Type} (l : List α) (i : Nat) (f : α → α) : List α :=
  match l, i with
  | [], _ => []
  | a :: r, 0 => f a :: r
  | a :: r, k + 1 => a :: modAt r k f

/-! ## Blocks of a load (R309) -/

/-- Byte `i` of a load: the latest block that covers it. -/
def loadByte : List (Nat × Bytes) → Nat → Option Byte
  | [], _ => none
  | (o, d) :: r, i =>
    match loadByte r i with
    | some b => some b
    | none => if o ≤ i ∧ i < o + d.length then d[i - o]? else none

/-- The bytes of a complete load, or none while a byte is missing. -/
def loadBytes (blocks : List (Nat × Bytes)) (len : Nat) : Option Bytes :=
  (List.range len).mapM (loadByte blocks)

/-- A load begun: it takes the place of the same tenant's (R309). -/
def loadBegin (ls : List LoadStage) (t len : Nat) (ident : Word) : List LoadStage :=
  { len := len, ident := ident, tenant := t, blocks := [] } :: ls.filter fun l => l.tenant != t

/-- Another tenant's load of the kind is in progress (R309). -/
def loadBusy (ls : List LoadStage) (t : Nat) : Bool := ls.any fun l => l.tenant != t

/-- A block is within the form of R309: 1 B to 4 KiB, inside the announced length. -/
def blockOk (l : LoadStage) (off : Nat) (data : Bytes) : Bool :=
  decide (1 ≤ data.length ∧ data.length ≤ 4096 ∧ off + data.length ≤ l.len)

/-- The load of a tenant. -/
def loadOf (ls : List LoadStage) (t : Nat) : Option LoadStage := ls.find? fun l => l.tenant == t

/-- A block written into a tenant's load. -/
def loadPut (ls : List LoadStage) (t off : Nat) (data : Bytes) : List LoadStage :=
  ls.map fun l => if l.tenant == t then { l with blocks := l.blocks ++ [(off, data)] } else l

/-- The tenant's load taken away. -/
def loadDrop (ls : List LoadStage) (t : Nat) : List LoadStage := ls.filter fun l => l.tenant != t

/-! ## Logical ports (Table 0-4) -/

/-- The type of a logical port. -/
inductive PortKind where
  | bb | cp | sg | can | mvb | wtb | wl | tw | host | mgp | safety | bridge | css | reserved
  deriving DecidableEq, Repr

/-- The type of a logical port number (Table 0-4, R8). -/
def portKind (p : Nat) : PortKind :=
  if p < 4 then .bb else if p < 16 then .cp else if p < 80 then .sg else if p < 88 then .can
  else if p < 92 then .mvb else if p < 94 then .wtb
  else match p with
    | 94 => .wl | 95 => .tw | 96 => .host | 97 => .mgp | 98 => .safety | 99 => .bridge | 100 => .css
    | _ => .reserved

/-- The external network ports, 0 to 95. -/
def isExternal (p : Nat) : Bool := p < 96

/-- The network-reserved port numbers: 101 and above, and 98 on a BV-9664-N (R8). -/
def portReserved (s : State) (p : Nat) : Bool := 101 ≤ p || (p == 98 && !s.otp.island)

/-! ## Parameter records (R308) -/

/-- A number within a range. -/
def recNum (p : Param) (lo hi : Int) : Option Int :=
  match p.val with
  | .num v => if lo ≤ v ∧ v ≤ hi then some v else none
  | _ => none

/-- A number within a range of naturals. -/
def recNat (p : Param) (lo hi : Nat) : Option Nat := (recNum p lo hi).map Int.toNat

/-- An enumeration code below a bound. -/
def recEnum (p : Param) (n : Nat) : Option Nat :=
  match p.val with
  | .enum v => if v < n then some v else none
  | _ => none

/-- An enumeration of two values as a Bool: `true` for code `t`. -/
def recFlag (p : Param) (t : Nat) : Option Bool := (recEnum p 2).map (· == t)

/-- A port set. -/
def recPorts (p : Param) : Option (BitVec 128) :=
  match p.val with
  | .ports m => some m
  | _ => none

/-- The port half of a record names a reserved port (R8, R308); 0xFF names none or all. -/
def recReserved (s : State) (p : Param) : Bool := p.port != 255 && portReserved s p.port

/-- The records of a command applied in order, or the index of the first that fails. -/
def applyRecs {α : Type} (s : State) (f : α → Param → Option α) : Nat → α → List Param → Except Nat α
  | _, a, [] => .ok a
  | i, a, p :: r =>
    if recReserved s p then .error i
    else
      match f a p with
      | none => .error i
      | some a' => applyRecs s f (i + 1) a' r

end Sys2Proof.Machine
end

