-- ==== Sys2Proof/Machine/Flags.lean ====
section
/-! DEFINITION. Flags: the alarm registers of the blocks and the global vector they raise (Table 1-10 and the ALARM
registers of each chapter), and the status words that fields make up. -/

namespace Sys2Proof.Machine

/-- MSI-X: vector `v` is sent if its table entry is unmasked, else it becomes pending (R34). -/
def msixRaise (s : State) (v : Nat) : State :=
  let ctl := (tget none s.host.msix (4 * v + 3)).getD 1
  if bitAt ctl 0 then { s with host := { s.host with pba := sadd s.host.pba v } }
  else { s with host := { s.host with sent := s.host.sent ++ [v] } }

/-- The blocks that have an ALARM register. -/
inductive AlarmReg where
  | glob | tms | css | fab | ine | pwc | evr | agm
  deriving DecidableEq, Repr

/-- The value of an ALARM register. -/
def alarmOf (s : State) : AlarmReg → Word
  | .glob => s.glob.err | .tms => s.tms.alarm | .css => s.css.alarm | .fab => s.fab.alarm
  | .ine => s.ine.alarm | .pwc => s.pwc.alarm | .evr => s.evr.alarm | .agm => s.agm.alarm

/-- The value of an ALARM_EN register. -/
def alarmEnOf (s : State) : AlarmReg → Word
  | .glob => s.glob.errEn | .tms => s.tms.alarmEn | .css => s.css.alarmEn | .fab => s.fab.alarmEn
  | .ine => s.ine.alarmEn | .pwc => s.pwc.alarmEn | .evr => s.evr.alarmEn | .agm => s.agm.alarmEn

/-- An ALARM register written. -/
def putAlarm (s : State) (r : AlarmReg) (v : Word) : State :=
  match r with
  | .glob => { s with glob := { s.glob with err := v } }
  | .tms => { s with tms := { s.tms with alarm := v } }
  | .css => { s with css := { s.css with alarm := v } }
  | .fab => { s with fab := { s.fab with alarm := v } }
  | .ine => { s with ine := { s.ine with alarm := v } }
  | .pwc => { s with pwc := { s.pwc with alarm := v } }
  | .evr => { s with evr := { s.evr with alarm := v } }
  | .agm => { s with agm := { s.agm with alarm := v } }

/-- An ALARM_EN register written. -/
def putAlarmEn (s : State) (r : AlarmReg) (v : Word) : State :=
  match r with
  | .glob => { s with glob := { s.glob with errEn := v } }
  | .tms => { s with tms := { s.tms with alarmEn := v } }
  | .css => { s with css := { s.css with alarmEn := v } }
  | .fab => { s with fab := { s.fab with alarmEn := v } }
  | .ine => { s with ine := { s.ine with alarmEn := v } }
  | .pwc => { s with pwc := { s.pwc with alarmEn := v } }
  | .evr => { s with evr := { s.evr with alarmEn := v } }
  | .agm => { s with agm := { s.agm with alarmEn := v } }

/-- Bit `b` of an ALARM register set; where the bit is enabled and was clear, MSI-X vector 256 is raised. -/
def setAlarm (s : State) (r : AlarmReg) (b : Nat) : State :=
  let was := bitAt (alarmOf s r) b
  let s' := putAlarm s r (setBit (alarmOf s r) b true)
  if bitAt (alarmEnOf s r) b && !was then msixRaise s' 256 else s'

/-- Bit `b` of an ALARM register set where a condition holds. -/
def setAlarmIf (s : State) (c : Bool) (r : AlarmReg) (b : Nat) : State := if c then setAlarm s r b else s

/-- A write to a W1C register: ones clear (R9). -/
def clearAlarm (s : State) (r : AlarmReg) (v : Word) : State := putAlarm s r (alarmOf s r &&& ~~~v)

/-- GLOBAL_STATUS (Table 1-9). -/
def globalStatus (s : State) : Word :=
  word (b2n s.glob.fwReady + 2 * b2n s.glob.degraded + 4 * b2n s.glob.refAlarm + 8 * b2n s.glob.recovery
    + 16 * b2n (s.glob.slaFault && s.otp.island))

end Sys2Proof.Machine
end

