-- ==== Sys2Proof/Machine/Ops.lean ====
section
/-! DEFINITION. The operations every family shares: the passage of time, what leaves the device, windrows, interrupts,
events, responses, the form of a host command, discards and memory errors. -/

namespace Sys2Proof.Machine

/-- The outcome of a command. -/
abbrev Out := Host.Outcome State Fault Refusal

/-! ## Time -/

/-- One nanosecond in the units of the time bases, 2^-48 ns (R35). -/
abbrev nsRaw : Nat := 2 ^ 48

/-- The span of a time base: 2^48 seconds. -/
def timeSpan : Nat := 2 ^ 48 * 1000000000 * nsRaw

/-- What one tick of 1 GHz adds to a counter of DRIFT `d` (R36). -/
def tickStep (d : Int) : Nat := (nsRaw + d).toNat

/-- Both time bases after `k` ticks of 1 GHz: each tick adds 1 ns and the DRIFT (R36). -/
def Tms.ticked (t : Tms) (k : Nat) : Tms :=
  { t with
    trt := (t.trt + k * tickStep t.trtDrift) % timeSpan
    wyt := (t.wyt + k * tickStep t.wytDrift) % timeSpan }

/-- `k` ticks of 1 GHz. Model time is the TRT that has passed, steps apart (R12); without time service it counts the ticks
of the clock the device then has (R12, R70). -/
def State.ticks (s : State) (k : Nat) : State :=
  if s.tms.tsValid then
    let e := s.monoFrac + k * tickStep s.tms.trtDrift
    { s with mono := s.mono + e / nsRaw, monoFrac := e % nsRaw, tms := s.tms.ticked k }
  else { s with mono := s.mono + k }

/-- The ticks until a counter `v` with DRIFT `d` has reached `target`, both in units of 2^-48 ns. -/
def ticksTo (v : Nat) (d : Int) (target : Nat) : Nat :=
  (target - v + tickStep d - 1) / tickStep d

/-- `n` ns of TRT pass (R12): the ticks until the TRT passed has reached them; what the last tick passes beyond them stays
in `monoFrac`. Without time service `n` ticks pass. -/
def State.advance (s : State) (n : Nat) : State :=
  if s.tms.tsValid then
    let k := ticksTo s.monoFrac s.tms.trtDrift (n * nsRaw)
    { s with
      mono := s.mono + n, monoFrac := s.monoFrac + k * tickStep s.tms.trtDrift - n * nsRaw, tms := s.tms.ticked k }
  else { s with mono := s.mono + n }

/-- Time passes until the model time `m`; none where it is past. -/
def untilMono (s : State) (m : Nat) : State := s.advance (m - s.mono)

/-- Time passes until TRT reaches `target`, in units of 2^-48 ns; none without time service or where it is past. -/
def untilTrt (s : State) (target : Nat) : State :=
  if s.tms.tsValid then s.ticks (ticksTo s.tms.trt s.tms.trtDrift target) else s

/-- Time passes until WYT reaches `target`. -/
def untilWyt (s : State) (target : Nat) : State :=
  if s.tms.tsValid then s.ticks (ticksTo s.tms.wyt s.tms.wytDrift target) else s

/-- TRT in linear ns. -/
def trtNs (s : State) : Nat := s.tms.trt / nsRaw

/-- WYT in linear ns. -/
def wytNs (s : State) : Nat := s.tms.wyt / nsRaw

/-- TRT linear ns mod 2^32, as stamps carry it. -/
def stampNs (s : State) : Word := word (trtNs s)

/-- Time passes until TRT reaches `t` linear ns. -/
def untilNs (s : State) (t : Nat) : State := untilTrt s (t * nsRaw)

/-- Seconds and ns as linear ns. -/
def linNs (sec ns : Nat) : Nat := sec * 1000000000 + ns

/-! ## What leaves the device -/

/-- One thing sent. -/
def emit (s : State) (x : Sent) : State := { s with wire := s.wire ++ [x] }

/-! ## Port counters (R187) -/

/-- Counter `c` of port `p` (R187) plus `n`. -/
def countPort (s : State) (p c n : Nat) : State :=
  { s with ports := { s.ports with counters := tmod 0 s.ports.counters (p * 64 + c) (· + BitVec.ofNat 64 n) } }

/-- The octets of a frame that the octet counters of IEEE 802.3 clause 30 count: data and pad, without the addresses, the
type and the FCS; of a CAN record its data, of an MVB or WTB frame its data (R187; PRESUMED from the standard the rule names,
log). -/
def dataOctets (p len : Nat) : Nat :=
  match portKind p with
  | .can => len - 16
  | .mvb | .wtb => len
  | _ => len - 18

/-- A frame of `len` octets received without error, counted at its port: counters 4 and 5, and 7 for a broadcast or 6 for
a multicast one (Table 7-7). -/
def countGot (s : State) (p len : Nat) (multi : Bool := true) (broad : Bool := false) : State :=
  let s := countPort (countPort s p 4 1) p 5 (dataOctets p len)
  if broad then countPort s p 7 1 else if multi then countPort s p 6 1 else s

/-- A frame sent, counted at its port: counters 0 and 1, and 3 or 2. -/
def countSent (s : State) (p len : Nat) (multi : Bool := true) (broad : Bool := false) : State :=
  let s := countPort (countPort s p 0 1) p 1 (dataOctets p len)
  if broad then countPort s p 3 1 else if multi then countPort s p 2 1 else s

/-- The length of a frame of this device from destination MAC to FCS, padded to 64 B: TABLE and FUNCS by their records (Table
8-3), keep-alives and sleep notices 66 B (R335), commit tokens 90 B (R104), PREPARE, INSTALL and the like of Table 12-13. -/
def sentLen : Sent → Nat
  | .table _ _ _ _ l => max 64 (46 + 32 * l.length)
  | .funcs _ _ _ l => max 64 (54 + 12 * l.length)
  | .keepAlive _ | .sleepNotice _ => 66
  | .prpSup .. => 70
  | .wayside _ => 90
  | .prepare _ p => 64 + 2 * p.hops.length
  | .reply r => max 64 (62 + 6 * r.hops.length)
  | .remoteResponse _ b | .remoteEvent _ b => max 64 (30 + b.length)
  | _ => 64

/-! ## The power state (R331 to R333) -/

/-- A port whose link may use low-power idle in DOZE and NAP (Tables 7-1 and 14-1). -/
def lpiPort (s : State) (p : Nat) : Bool :=
  (portKind p == .bb || portKind p == .cp || portKind p == .wl || portKind p == .tw)
    && (tget ({} : PortCfg) s.ports.cfg p).lpi

/-- A link of port `p` that is up is in low-power idle in power state `n`: NAP includes the savings of DOZE (R331). -/
def lpiOf (s : State) (n p : Nat) : Bool := decide (2 ≤ n) && lpiPort s p

/-- The power state becomes `n`; the residency of the one left is counted (R333). In DOZE and NAP the links with lpi_en are in
low-power idle (R331, Table 14-1). -/
def setPower (s : State) (n : Nat) : State :=
  if s.pwc.state = n then s
  else { s with
    pwc := { s.pwc with
      state := n, stateAt := s.mono, res := tmod 0 s.pwc.res s.pwc.state (· + (s.mono - s.pwc.stateAt)) }
    ports := { s.ports with
      links := tmap {} s.ports.links fun p x => { x with lpiNow := x.up && lpiOf s n p } } }

/-- NAP ends: the MGP is needed (R333). The holds of DOZE and NAP begin anew. -/
def napEnd (s : State) : State :=
  if s.pwc.state = 3 then setPower { s with pwc := { s.pwc with dozeSince := none, napSince := none } } 0 else s

/-! ## Frames of the MGP -/

/-- A unicast frame of MGP firmware: it enters the fabric at port 97 and leaves at `via`, where the model knows its way back
(R187; elsewhere the FDB's choice is not followed, log). -/
def mgpSends (s : State) (via : Option Nat) (x : Sent) : State :=
  emit (via.toList.foldl (fun s p => countSent s p (sentLen x) false) (countGot s 97 (sentLen x) false)) x

/-- A response or event to a remote tenant: its frame is counted among those that entered at port 97, beside the other frames
of that port (R187; see `portCounters`). -/
def remoteSends (s : State) (x : Sent) : State :=
  emit { s with host := { s.host with remoteOut :=
    (s.host.remoteOut.1 + 1, s.host.remoteOut.2 + BitVec.ofNat 64 (dataOctets 97 (sentLen x))) } } x

/-- The live port counters (R187). -/
def portCounters (s : State) : Table (BitVec 64) :=
  tmod 0 (tmod 0 s.ports.counters (97 * 64 + 4) (· + s.host.remoteOut.1)) (97 * 64 + 5) (· + s.host.remoteOut.2)

/-- A unicast frame for MGP firmware leaves the fabric at port 97 (R187), which ends NAP (R333). -/
def mgpTakes (s : State) (x : Sent) : State := countSent (napEnd s) 97 (sentLen x) false

/-- A list of things sent. -/
def emitAll (s : State) (xs : List Sent) : State := { s with wire := s.wire ++ xs }

/-- The transmitter of a port is halted by PAUSE: quanta left and not released by the watchdog (R184, R186). -/
def txHalted (s : State) (p : Nat) : Bool :=
  let l := tget ({} : LinkRec) s.ports.links p
  !l.ignoring && match l.haltUntil with | some t => decide (s.mono < t) | none => false

/-! ## Windrows (R349 to R354) -/

/-- The class of a windrow code (Table 15-3). -/
def windrowClass (code : Nat) : Nat :=
  if code = 0x1001 ∨ code = 0x5001 ∨ code = 0xB001 then 2
  else if 0xA001 ≤ code ∧ code ≤ 0xA004 then 3
  else if code = 0x0003 ∨ code = 0x0005 ∨ code = 0x0006 ∨ code = 0xD001 ∨ 0xE000 ≤ code then 0
  else 1

/-- Codes that are never merged or suppressed (R352, first row). -/
def windrowExempt (code : Nat) : Bool := windrowClass code == 3 || (1 ≤ code && code ≤ 6)

/-- The recorder's clock in ns: TRT, or the time since start without time service (R349, R353). -/
def evrClock (s : State) : Nat := if s.tms.tsValid then trtNs s else s.mono - s.glob.startAt

/-- The tokens a bucket can give now: those taken less those regained, in units of 10^-9; a token comes at each whole multiple of
1/rate s of the recorder's clock (R352; DEDUCED, log: the worked example of R356 names these instants). -/
def bucketNow (b : Bucket) (now : Nat) : Bucket :=
  { b with taken := b.taken - (b.rate * now / 1000000000 - b.rate * b.at_ / 1000000000) * 1000000000, at_ := now }

/-- A bucket gives a token. -/
def bucketHas (b : Bucket) : Bool := b.rate != 0 && b.taken + 1000000000 ≤ b.burst * 1000000000

/-- The dirty windrows: admitted and not yet written. -/
def dirtyCount (s : State) : Nat := (s.evr.staging.filter fun w => !w.written).length

/-- Whether a windrow finds room in the dirty budget (Table 15-4), and the staging after a displacement. -/
def stagingRoom (s : State) (cls : Nat) : Option (List Windrow × Option Windrow) :=
  let dirty := s.evr.staging.filter fun w => !w.written
  let sd := (dirty.filter fun w => w.cls == 3).length
  let nd := dirty.length - sd
  let general := nd + (sd - 31)
  if cls = 3 then
    if sd < 31 ∨ general < 160 then some (s.evr.staging, none)
    else
      match s.evr.staging.find? fun w => !w.written && w.cls != 3 with
      | some v => some (s.evr.staging.filter (fun w => w.num != v.num), some v)
      | none => none
  else if general < 160 then some (s.evr.staging, none) else none

/-- A windrow lost for lack of room: counted, to be told by a LOSS windrow (R353). -/
def windrowLost (s : State) (safety : Bool) : State :=
  setAlarmIf (setAlarm
    { s with evr := { s.evr with
        lost := s.evr.lost + 1, lossNow := s.evr.lossNow + 1, lossSafety := s.evr.lossSafety + b2n safety } }
    .evr 0) safety .evr 2

/-- The windrow of a report made now (R349). -/
def mkWindrow (s : State) (code : Nat) (data : Bytes) : Windrow :=
  { num := s.evr.next
    sec := evrClock s / 1000000000
    ns := evrClock s % 1000000000
    timeValid := s.tms.tsValid, epoch := s.tms.trtEpoch, cls := windrowClass code, code := code, repeats := 0
    data := bytesAt data 0 10, written := false, at_ := s.mono, final := false }

/-- The rank of a windrow among those of one tick: safety class first, then by the source nibble (R351). -/
def windrowRank (w : Windrow) : Nat := if w.cls = 3 then 0 else 1 + w.code / 4096 % 16

/-- A new windrow put among those in staging, the newest first: before it in number come the windrows of the same tick that
rank before it, and those written (R351). -/
def placeWindrow (w : Windrow) : List Windrow → List Windrow
  | [] => [w]
  | x :: r =>
    if x.at_ = w.at_ ∧ x.written = false ∧ windrowRank w < windrowRank x then
      { x with num := w.num } :: placeWindrow { w with num := x.num } r
    else w :: x :: r

/-- The windrows of staging but the newest are final (R352). -/
def olderFinal : List Windrow → List Windrow
  | [] => []
  | x :: r => x :: r.map fun y => { y with final := true }

/-- A new windrow put into staging; those before the newest become final; staging holds 32,768. -/
def stageWindrow (s : State) (w : Windrow) (st : List Windrow) : State :=
  let st' := (olderFinal (placeWindrow w st)).take 32768
  let d := (st'.filter fun x => !x.written).length
  { s with evr := { s.evr with next := s.evr.next + 1, staging := st', dirtyMax := max s.evr.dirtyMax d } }

/-- A report becomes a new windrow if the dirty budget has room (R354), and is lost otherwise. -/
def newWindrow (s : State) (code : Nat) (data : Bytes) : State :=
  match stagingRoom s (windrowClass code) with
  | none => windrowLost s (windrowClass code == 3)
  | some (st, none) => stageWindrow s (mkWindrow s code data) st
  | some (st, some v) => windrowLost (stageWindrow s (mkWindrow s code data) st) (v.cls == 3)

/-- A windrow that the newest one may still absorb: same code and data, within 1 s, not final (R352). -/
def mergesWith (s : State) (w : Windrow) (code : Nat) (data : Bytes) : Bool :=
  w.code == code && w.data == bytesAt data 0 10 && !w.final && !w.written && decide (s.mono - w.at_ ≤ 1000000000)
    && decide (w.repeats < 65535)

/-- A report that neither merges nor finds a token is suppressed and counted for its code (R352). -/
def suppressReport (s : State) (code : Nat) : State :=
  setAlarm { s with evr := { s.evr with
      suppressed := s.evr.suppressed + 1, supNow := tmod 0 s.evr.supNow code (· + 1) } } .evr 1

/-- PFAIL# has stopped the admission of windrows other than safety: until 10 ms after it rose again (R356). -/
def evrStopped (s : State) : Bool :=
  (s.evr.flushing || s.evr.pfailDone) && !(s.evr.pfailRose.any fun t => decide (t + 10000000 ≤ s.mono))

/-- A report to the Event Recorder, by the first row of R352 that applies. While PFAIL# has stopped admission, only
safety windrows are admitted (R356). -/
def report (s : State) (code : Nat) (data : Bytes) : State :=
  if evrStopped s && windrowClass code != 3 then windrowLost s false
  else if windrowExempt code then newWindrow s code data
  else
    match s.evr.staging with
    | w :: r =>
      if mergesWith s w code data then
        { s with evr := { s.evr with
            staging := { w with repeats := w.repeats + 1 } :: r, merged := s.evr.merged + 1 } }
      else
        let b := bucketNow (tget {} s.evr.buckets code) (evrClock s)
        if bucketHas b then
          newWindrow { s with evr := { s.evr with
            buckets := tset {} s.evr.buckets code { b with taken := b.taken + 1000000000 } } } code data
        else suppressReport s code
    | [] =>
      let b := bucketNow (tget {} s.evr.buckets code) (evrClock s)
      if bucketHas b then
        newWindrow { s with evr := { s.evr with
          buckets := tset {} s.evr.buckets code { b with taken := b.taken + 1000000000 } } } code data
      else suppressReport s code

/-! ## Tenants, interrupts and events -/

/-- Tenant `t`. -/
def tenant (s : State) (t : Nat) : Tenant := tget {} s.host.tenants t

/-- Tenant `t` changed. -/
def modTenant (s : State) (t : Nat) (f : Tenant → Tenant) : State :=
  { s with host := { s.host with tenants := tmod {} s.host.tenants t f } }

/-- Interrupt holdoff in ticks (Table 12-6). -/
def holdoffTicks (x : Tenant) : Nat := (x.ctrl.toNat / 256 % 256) * 1000

/-- The holdoff of a tenant's last raise has not ended (R290). -/
def heldOff (x : Tenant) (now : Nat) : Bool := x.raisedAt.any fun r => decide (now < r + holdoffTicks x)

/-- A condition of R290 arises for tenant `t`: its MSI-X vector, or SPIT_IRQ#, is raised, within the holdoff later. -/
def raiseTenant (s : State) (t : Nat) : State :=
  let x := tenant s t
  if x.attach = .spi ∨ x.attach = .pcie then
    if heldOff x s.mono then modTenant s t fun x => { x with irqWait := true }
    else
      let s := modTenant s t fun x =>
        { x with raisedAt := some s.mono, irqWait := false, irqSpi := x.irqSpi || x.attach == .spi }
      if x.attach = .pcie then msixRaise s t else s
  else s

/-- An interrupt condition that the tenant enables is pending: an unread response or event, or its fault (R284, R290). -/
def irqPending (x : Tenant) : Bool :=
  (bitAt x.ctrl 2 && x.rspProd != x.rspCons) || (bitAt x.ctrl 3 && x.evtProd != x.evtCons) || x.state == .faulted

/-- SPIT_IRQ# is released where no enabled condition of the tenant is pending (R284). -/
def irqSettle (x : Tenant) : Tenant := { x with irqSpi := x.irqSpi && irqPending x }

/-- Bytes of an event entry: type, flags, seq, TRT linear ns, 20 B of data (R289). -/
def eventBytes (e : Event) : Bytes :=
  leBytes 2 e.typ ++ leBytes 2 0 ++ leBytes 4 e.seq.toNat ++ leBytes 4 e.ns.toNat ++ bytesAt e.data 0 20

/-- The size of a tenant's event ring: 128 entries inside the device for an SPI tenant (R284), else 2^EVT_SIZE. -/
def eventRing (x : Tenant) : Nat := if x.attach = .spi then 128 else 2 ^ x.evtSize

/-- Bytes laid into an SPI tenant's rings or staging area from byte offset `off` on; the other bytes of the words they begin and
end in stay (R284). -/
def spiStore (x : Tenant) (off : Nat) (b : Bytes) : Tenant :=
  let old := fun (m : Table Word) (i : Nat) => leBytes 4 (tget 0 m i).toNat
  let put := fun (m : Table Word) (i : Nat) =>
    let w := off / 4 + i
    let bytes := (List.range 4).map fun j =>
      let k := 4 * w + j
      if off ≤ k ∧ k < off + b.length then b.getD (k - off) 0 else (old m w).getD j 0
    tset 0 m w (word (leNat bytes))
  { x with spi := (List.range ((off % 4 + b.length + 3) / 4)).foldl put x.spi }

/-- An event of the instant `ns` for tenant `t`: written to its ring, or sent in a frame to a remote tenant; dropped and counted
where the ring is full or disabled (R289, R306). Its number is taken in every case. -/
def deliverEvent (s : State) (t typ : Nat) (ns : Word) (data : Bytes) : State :=
  let x := tenant s t
  if x.state = .free then s
  else
    let e : Event := { typ := typ, seq := x.evtSeq, ns := ns, data := bytesAt data 0 20 }
    if x.attach = .remote then
      remoteSends (modTenant s t fun x => { x with evtSeq := x.evtSeq + 1, events := x.events ++ [e] })
        (.remoteEvent t (eventBytes e))
    else if bitAt x.ctrl 1 ∧ (x.evtProd - x.evtCons).toNat < eventRing x then
      let s := modTenant s t fun x =>
        let x := if x.attach = .spi then spiStore x (0x3000 + x.evtProd.toNat % 128 * 32) (eventBytes e) else x
        { x with evtSeq := x.evtSeq + 1, evtProd := x.evtProd + 1, events := x.events ++ [e] }
      if bitAt x.ctrl 3 then raiseTenant s t else s
    else modTenant s t fun x =>
      { x with evtSeq := x.evtSeq + 1, evtLost := x.evtLost + 1, lostNow := x.lostNow + 1 }

/-- An event for tenant `t` (R289); in a control-plane pause it waits for the end of the pause (Table 13-8). -/
def event (s : State) (t : Nat) (typ : Nat) (data : Bytes) : State :=
  if s.fw.phase = .paused then
    { s with host := { s.host with waitingEvents := s.host.waitingEvents ++ [{ tenant := t, typ := typ, ns := stampNs s, data := data }] } }
  else deliverEvent s t typ (stampNs s) data

/-- The events of a pause are delivered in their order (Table 13-8). -/
def eventsAfterPause (s : State) : State :=
  s.host.waitingEvents.foldl (fun s e => deliverEvent s e.tenant e.typ e.ns e.data)
    { s with host := { s.host with waitingEvents := [] } }

/-- A fault of Table 12-5: an OPEN tenant, or one still CONFIGURED whose rings the device serves (R283, R288), becomes FAULTED and
its vector is raised. -/
def faultTenant (s : State) (t wh code : Nat) : State :=
  if (tenant s t).state = .opened ∨ (tenant s t).state = .configured then
    raiseTenant (modTenant s t fun x => { x with state := .faulted, faultWhere := wh, faultCode := code }) t
  else s

/-! ## Host commands -/

/-- The number of commands of each group. -/
def groupSizes : List Nat := [6, 3, 6, 8, 12, 4, 9, 9, 13, 8, 8, 5, 8]

/-- An opcode of the catalogue. -/
def opcodeKnown (op : Nat) : Bool :=
  op == 0x2DAE || (decide (1 ≤ op % 256) && decide (op % 256 ≤ groupSizes.getD (op / 256) 0))

/-- Status codes (Table 12-10). -/
inductive Status where
  | ok | busy | refused | authFail | replay | notPermitted | abortedReset | ownerMismatch | stale | poisoned
  | safeStateRequired | invalidArgument | unknownOpcode
  deriving DecidableEq, Repr

/-- The code of a status. -/
def Status.code : Status → Nat
  | .ok => 0 | .busy => 1 | .refused => 2 | .authFail => 3 | .replay => 4 | .notPermitted => 5
  | .abortedReset => 6 | .ownerMismatch => 7 | .stale => 8 | .poisoned => 9 | .safeStateRequired => 10
  | .invalidArgument => 11 | .unknownOpcode => 12

/-- What the execution of a host command comes to: it completes, with the state its effect leaves, or it waits. -/
inductive Answer where
  | done (s : State) (st : Status) (reason : Nat) (payload : Bytes)
  | wait (s : State)

/-- What the catalogue says of a command (R311): opcode, its class, whether only tenant 0 may send it, its features
(Table 12-8; one of those listed must be in the session; none listed: it needs no session), and whether the Recovery ROM accepts it (R329). -/
structure Cmd where
  opcode : Nat
  classC : Bool := false
  owner  : Bool := false
  features : List Nat := [0]
  recovery : Bool := false

/-- Reason codes of Table 12-11 used in more than one chapter. -/
abbrev rFeature : Nat := 0x0702
/-- See `rFeature`. -/
abbrev rRight : Nat := 0x0703
/-- NO_TIME of Table 6-6. -/
abbrev rNoTime : Nat := 0x0005

/-- The response payload that fits: 24 B inline, or the response buffer (R297). -/
def fitPayload (room : Nat) (p : Bytes) : Bytes := if p.length ≤ 24 then p else p.take room

/-- A response to an authenticated command addressed to unit `u` carries a CMAC under the tenant's key (R302). -/
def responseCmac (key : Option (BitVec 128)) (u : UnitId) (counter : BitVec 64) (opcode : Nat) (st : Status)
    (reason : Nat) (payload : Bytes) : BitVec 96 :=
  match key with
  | none => 0
  | some k => cmac96 k (leBytes 8 u.toNat ++ leBytes 8 counter.toNat ++ leBytes 2 (opcode ||| 0x8000)
      ++ leBytes 2 st.code ++ leBytes 2 reason ++ payload)

/-- A response as an HCP message (Table 12-9). -/
def responseBytes (r : Response) : Bytes :=
  leBytes 2 r.opcode ++ [1] ++ leBytes 1 r.flags ++ leBytes 4 r.tag.toNat ++ leBytes 8 r.counter.toNat
    ++ leBytes 4 r.payload.length ++ leBytes 2 r.status ++ leBytes 2 r.reason ++ beBytes 12 r.cmac.toNat ++ leBytes 4 0
    ++ r.payload

/-- A response entry of 64 B: a longer payload than 24 B lies in the response buffer (R297). -/
def responseEntry (r : Response) : Bytes :=
  (responseBytes { r with payload := if r.payload.length ≤ 24 then r.payload else [] }).take 16
    ++ leBytes 4 r.payload.length ++ bytesAt (responseBytes r) 20 20
    ++ bytesAt (if r.payload.length ≤ 24 then r.payload else []) 0 24

/-- A response entry written for tenant `t`: into its response ring, or sent in a frame to a remote tenant (R288,
R290, R306). -/
def putResponse (s : State) (t : Nat) (r : Response) (remote : Bool) : State :=
  let s := modTenant s t fun x =>
    let x := if x.attach = .spi ∧ ¬ remote then spiStore x (0x2000 + x.rspProd.toNat % 64 * 64) (responseEntry r) else x
    { x with responses := x.responses ++ [r], rspProd := if remote then x.rspProd else x.rspProd + 1 }
  if remote then remoteSends s (.remoteResponse t (responseBytes r))
  else if bitAt (tenant s t).ctrl 2 then raiseTenant s t else s

/-- The command `op` with tag `h.tag` completes: its response is written; an authenticated one carries a CMAC, is kept
for replay and leaves its status in the short record (R301, R303); copies held for it complete too. -/
def respond (s : State) (h : Hcp) (op : Nat) (st : Status) (reason : Nat) (payload : Bytes) : State :=
  let x := tenant s h.tenant
  match x.inflight.find? fun i => i.tag == h.tag && i.opcode == op with
  | none =>
    putResponse s h.tenant
      { opcode := op ||| 0x8000, flags := b2n h.classC, tag := h.tag, counter := 0, status := st.code,
        reason := reason, payload := payload, cmac := 0 } false
  | some i =>
    let body := fitPayload i.room payload
    let r : Response :=
      { opcode := op ||| 0x8000, flags := b2n h.classC + (if body.length < payload.length then 8 else 0), tag := h.tag
        counter := i.counter, status := st.code, reason := reason, payload := body
        cmac := if i.auth then responseCmac x.key i.unit i.counter op st reason body else 0 }
    let s := modTenant s h.tenant fun x =>
      let x := if x.attach = .spi ∧ 24 < body.length then spiStore x (0x4000 + i.respAddr) body else x
      { x with inflight := x.inflight.filter fun j => !(j.tag == h.tag && j.opcode == op) }
    let s := putResponse s h.tenant r i.remote
    let s := i.held.foldl (fun s tag => putResponse s h.tenant { r with tag := tag, flags := r.flags + 4 } i.remote) s
    if i.auth then
      let s := modTenant s h.tenant fun x =>
        { x with cache := some r, cacheCmac := i.cmac, shortStatus := st.code, shortReason := reason }
      { s with evr := { s.evr with counterWrites := sadd s.evr.counterWrites h.tenant } }
    else s

/-- The MGP executes commands: fw_ready and no control-plane pause (R15, R299), or the Recovery ROM for the commands
it accepts from tenant 0 (R329). -/
def serves (s : State) (c : Cmd) (h : Hcp) : Bool :=
  match s.fw.phase with
  | .ready => s.glob.fwReady
  | .recovery _ => c.recovery && h.tenant == 0
  | _ => false

/-- The Recovery ROM executes commands. -/
def inRecovery (s : State) : Bool :=
  match s.fw.phase with
  | .recovery _ => true
  | _ => false

/-- A host command is executed (R285, R286, R296, R298, R311): the MGP serves it; outside the Recovery ROM its tenant is OPEN with a
feature it asks for that is still accepted (R323), unless it asks for none, and a class C command came authenticated; a command of tenant 0 came from it. -/
def accepts (c : Cmd) (h : Hcp) (s : State) : Bool :=
  let x := tenant s h.tenant
  serves s c h
    && (inRecovery s || c.features.isEmpty || (x.state == .opened && c.features.any fun b => bitAt (x.features &&& s.glob.featAccepted) b))
    && (inRecovery s || !c.classC || h.classC) && (!c.owner || h.tenant == 0)

/-- The reason of the NOT_PERMITTED of a command that is served and turned away. -/
def deniedReason (c : Cmd) (h : Hcp) (s : State) : Nat :=
  let x := tenant s h.tenant
  if !inRecovery s && !c.features.isEmpty && !(x.state == .opened && c.features.any fun b => bitAt (x.features &&& s.glob.featAccepted) b) then rFeature
  else if !inRecovery s && c.classC && !h.classC then 0
  else rRight

/-- What the execution of a command comes to: its response, or a wait. -/
def conclude (h : Hcp) (op : Nat) : Answer → State
  | .done s st reason payload => respond s h op st reason payload
  | .wait s => s

/-- A host command: while the MGP does not serve it, it has no effect; one that is not accepted completes with NOT_PERMITTED;
else its body decides. -/
def runHcp (c : Cmd) (h : Hcp) (s : State) (body : State → Answer) : State :=
  if accepts c h s then conclude h c.opcode (body s)
  else if serves s c h then respond s h c.opcode .notPermitted (deniedReason c h s) []
  else s

/-- A command completes OK with a payload. -/
def okWith (s : State) (payload : Bytes) : Answer := .done s .ok 0 payload

/-- A command completes OK. -/
def okay (s : State) : Answer := .done s .ok 0 []

/-- A command completes without an effect. -/
def fails (s : State) (st : Status) (reason : Nat) : Answer := .done s st reason []

/-- A command of parameter records fails at record `i` (R308). -/
def failsAt (s : State) (i : Nat) : Answer := .done s .invalidArgument 0 (leBytes 2 i)

/-- A tenant has a right (Table 12-3); tenant 0 holds every right. -/
def hasRight (s : State) (t bit : Nat) : Bool := t == 0 || bitAt (tenant s t).rights bit

/-- A tenant may act on a port: it is in its port set (R286). -/
def hasPort (s : State) (t p : Nat) : Bool := t == 0 || bitAt (tenant s t).ports p

/-! ## Discards (R146 to R149) -/

/-- A discard of a frame copy. -/
structure Discard where
  port : Nat
  reason : Nat
  ingress : Nat
  egress : Nat := 255
  tenant : Nat
  cls : Nat := 0
  stream : Option Nat := none
  violation : Bool := false
  stomped : Bool := false
  len : Nat

/-- A frame sent on each of some ports, counted there (R187). -/
def emitEach (s : State) (ports : List Nat) (mk : Nat → Sent) : State :=
  ports.foldl (fun s p => emit (countSent s p (sentLen (mk p))) (mk p)) s

/-- A frame as some ports send it, counted at each and recorded once. -/
def emitVia (s : State) (ports : List Nat) (x : Sent) : State :=
  if ports.isEmpty then s else emit (ports.foldl (fun s p => countSent s p (sentLen x)) s) x

/-- A frame of the form `x` received at a port, counted there. -/
def gotSent (s : State) (p : Nat) (x : Sent) : State := countGot s p (sentLen x)

/-- The counter of a report of the medium (Table 7-7). -/
def phyCounter : PhyCount → Nat
  | .alignment => 9 | .symbol => 12 | .elastic => 16 | .collision => 17 | .beacon => 18
  | .canBit => 32 | .canStuff => 33 | .canCrc => 34 | .canForm => 35 | .canAck => 36 | .canArbitration => 37

/-- A port's type counts a report of its medium: alignment errors on a CP port at 10 and 100 Mb/s and on SG (Table 7-7). -/
def phyCounts (s : State) (p : Nat) (c : PhyCount) : Bool :=
  let k := portKind p
  match c with
  | .alignment => k == .sg || (k == .cp && (tget ({} : LinkRec) s.ports.links p).speed != 0x12)
  | .symbol | .elastic => k == .bb || k == .cp || k == .sg || k == .wl || k == .tw
  | .collision | .beacon => k == .sg
  | _ => k == .can

/-- What the medium reports is counted at its port (R187). -/
def countPhy (s : State) (p : Nat) (l : List PhyCount) : State :=
  (l.filter (phyCounts s p)).foldl (fun s c => countPort s p (phyCounter c) 1) s

/-- A watch counter's filter matches a discard (R147). -/
def watchHit (f : WatchFilter) (d : Discard) : Bool :=
  (f.tenant.all (· == d.tenant)) && (f.port.all (· == d.port)) && (f.reason.all (· == d.reason))

/-- The second in which a discard falls, for its windrow: that of TRT, or without time service of the clock the device then
has (R12, R149). -/
def discardSecond (s : State) : Nat :=
  if s.tms.tsValid then 2 * (s.tms.trt / (nsRaw * 1000000000)) + 1 else 2 * (s.mono / 1000000000) + 2

/-- What bittern holds after a discard: the counts per port and per tenant, the watch counters it matches, the tenant's
last-discard record and the second of the latest windrow (R146 to R149). -/
def discardRecord (s : State) (d : Discard) : Bittern :=
  let b := s.fab.bit
  let w1 := word (d.reason * 2 ^ 24 + d.ingress * 2 ^ 16 + d.egress * 2 ^ 8 + d.cls * 32 + b2n d.violation * 16
    + b2n d.stomped * 8)
  { b with
    ports := tmod 0 b.ports (d.port * 16 + d.reason) (· + 1)
    tenants := tmod 0 b.tenants (d.tenant * 16 + d.reason) (· + 1)
    watches := tmap none b.watches fun _ o => o.map fun w =>
      if watchHit w.filter d then { w with frames := w.frames + 1, bytes := w.bytes + BitVec.ofNat 64 d.len } else w
    last := tmod {} b.last d.tenant fun r =>
      { r with w0 := stampNs s, w1 := w1, w2 := word (d.stream.getD 0xFFFF), live := sat32 (r.live + 1) }
    told := tset 0 b.told (d.port * 16 + d.reason) (discardSecond s) }

/-- A discard is counted once: in bittern and in the port's harvest counter; the first of each reason, port and second also
gives a windrow (R146 to R149). -/
def discard (s : State) (d : Discard) : State :=
  let s' := countPort { s with fab := { s.fab with bit := discardRecord s d } } d.port (48 + d.reason) 1
  let s' := setAlarmIf (setAlarmIf s' (d.reason == 1) .fab 1) (d.reason == 8) .fab 11
  if tget 0 s.fab.bit.told (d.port * 16 + d.reason) = discardSecond s then s'
  else report s' 0x5002 (leBytes 1 d.port ++ leBytes 1 d.reason ++ leBytes 1 d.tenant ++ leBytes 2 (d.stream.getD 0xFFFF))

/-! ## Memory errors (R27, R33) -/

/-- Word `w` of memory `m` is poisoned. -/
def poisoned (s : State) (m w : Nat) : Bool := (tget [] s.glob.poison m).contains w

/-- The first poisoned word of entry `k` of memory `m`. -/
def poisonedWord (s : State) (m k : Nat) : Option Nat := (tget [] s.glob.poison m).find? fun w => Config.entryOf m w == k

/-- A word of the entry `k` of memory `m` is poisoned. -/
def entryPoisoned (s : State) (m k : Nat) : Bool := (poisonedWord s m k).isSome

/-- GLOBAL_ECC_LAST captures the first error after valid was last clear; an uncorrectable one replaces a correctable
capture, none replaces an uncorrectable one (R33). -/
def eccCapture (g : Global) (ue : Bool) (m w : Nat) : Global :=
  if g.eccValid ∧ (g.eccUe ∨ ¬ ue) then g
  else { g with eccValid := true, eccUe := ue, eccMem := BitVec.ofNat 6 m, eccWord := BitVec.ofNat 24 w }

/-- A read finds a single-bit error: corrected, written back and counted (R27). -/
def correctable (s : State) (m w : Nat) : State :=
  setAlarm { s with glob := eccCapture { s.glob with ceCount := sat32 (s.glob.ceCount + 1) } false m w } .glob 0

/-- Reads of memory `m` that find single-bit errors in the words `ws`, in turn. -/
def readsCorrected (s : State) (m : Nat) (ws : List Nat) : State := ws.foldl (fun s w => correctable s m w) s

/-- A read finds an uncorrectable error: the word is poisoned, counted and captured, a MEM_ERROR windrow written (R27).
The reaction of Table 1-5 is the reader's. -/
def uncorrectable (s : State) (m w : Nat) : State :=
  let g := { s.glob with
    ueCount := sat32 (s.glob.ueCount + 1), poison := tmod [] s.glob.poison m (fun t => sadd t w) }
  report (setAlarm { s with glob := eccCapture g true m w } .glob 1) 0x1001
    (leBytes 1 m ++ leBytes 3 w ++ [1])

/-- A write of a whole word clears its poison (R28). -/
def unpoison (s : State) (m w : Nat) : State :=
  { s with glob := { s.glob with poison := tmod [] s.glob.poison m (fun t => sdel t w) } }

/-- The words of entries that satisfy `p` are written whole, which clears their poison (R28). -/
def unpoisonWhere (s : State) (m : Nat) (p : Nat → Bool) : State :=
  { s with glob := { s.glob with poison := tmod [] s.glob.poison m fun t => t.filter fun w => !p (Config.entryOf m w) } }

/-- An entry is written whole, which clears the poison of each of its words (R28). -/
def unpoisonEntry (s : State) (m k : Nat) : State := unpoisonWhere s m fun j => j == k

/-- The poisoned word, as memory and index, that backs a register of BAR0. -/
def poisonedBacking (s : State) (off : Nat) : Option (Nat × Nat) :=
  s.glob.poison.findSome? fun e => (e.2.find? fun w => Config.backing off == (e.1, w)).map fun w => (e.1, w)

/-- A host write that meets a poisoned word is dropped (R29, Table 1-6): the word stays poisoned, ecc_ue and the AER status are
set. -/
def dropWrite (s : State) (m w : Nat) : State :=
  let s := uncorrectable s m w
  { s with glob := { s.glob with aer := true } }

/-- A posted host write of the BAR0 register at `off`, with the effect `f` unless its word is poisoned (R29). -/
def posted (s : State) (off : Nat) (f : State → State) : State :=
  match poisonedBacking s off with
  | some (m, w) => dropWrite s m w
  | none => f s

/-! ## Free values -/

/-- A value the spec leaves open: a fresh free value, and the state that has drawn it. -/
def draw (s : State) : Nat × State := (Config.free s.draws, { s with draws := s.draws + 1 })

end Sys2Proof.Machine
end

