-- ==== Sys2Proof/Machine/TauOps.lean ====
section
/-! DEFINITION. Timed action units: events, survey reports and aborts (R95, R100, R101, R108, R391). -/

namespace Sys2Proof.Machine

/-- TAU `k`. -/
def tauOf (s : State) (k : Nat) : TauRec := tget {} s.tau.units k

/-- TAU `k` replaced. -/
def putTau (s : State) (k : Nat) (r : TauRec) : State :=
  { s with tau := { s.tau with units := tset {} s.tau.units k r } }

/-- The owner code of the device itself (R94). -/
abbrev deviceOwner : Nat := 256

/-- The targets that only the device arms: a harvest of TAU 60 + b (R190) and entry to STANDBY (R338). -/
abbrev targetHarvest : Nat := 0x100
/-- See `targetHarvest`. -/
abbrev targetStandby : Nat := 0x101

/-- A timescale in units of 2^-16 ns. -/
def scale16 (s : State) (wyt : Bool) : Nat := (if wyt then s.tms.wyt else s.tms.trt) / 2 ^ 32

/-- A timescale in linear ns. -/
def scaleNs (s : State) (wyt : Bool) : Nat := if wyt then wytNs s else trtNs s

/-- TRT is valid (R70). -/
def trtValid (s : State) : Bool :=
  s.tms.tsValid && (s.tms.trtState == .locked || s.tms.trtState == .holdover || s.tms.trtState == .leader)

/-- WYT is valid: it has been synchronised once (R51), and there is time service (R70). -/
def wytValid (s : State) : Bool := s.tms.tsValid && s.tms.wytState != .invalid

/-- skew_ok (R67): the node is leader, or LOCKED with an upstream that reports itself valid and not in holdover. -/
def skewOk (s : State) : Bool :=
  s.tms.tsValid && (s.tms.trtState == .leader ||
    (s.tms.trtState == .locked &&
      match (tget {} s.tms.links s.tms.upstream).peer with
      | some p => p.valid && !p.inHoldover
      | none => false))

/-- The tau event of a TAU, Table 4-10: outcome, reason, extra flags and instant. -/
def tauEvent (s : State) (k outcome reason flags : Nat) (at_ : Nat) : State :=
  let r := tauOf s k
  match r.owner with
  | none => s
  | some o =>
    if o = deviceOwner then s
    else event s o 1 (leBytes 1 k ++ leBytes 1 outcome ++ leBytes 1 reason
      ++ leBytes 1 (flags + 4 * b2n r.wyt + 8 * b2n (r.mode == .periodic)) ++ leBytes 4 at_
      ++ leBytes 4 (if r.mode = .gated then r.actionId.toNat else 0)
      ++ leBytes 4 (if r.mode = .periodic then r.k else 0))

/-- The schedule_id in force, 0 without a schedule. -/
def schedId (s : State) : Word := match s.css.image with | some i => i.schedId | none => 0

/-- The CMAC input's prefix: schedule_id and domain_epoch on a CSS source, zeros on a wayside source (R104). -/
def cmacPrefix (s : State) (wayside : Bool) : Bytes :=
  if wayside then List.replicate 8 0 else beBytes 4 (schedId s).toNat ++ beBytes 4 s.tms.domainEpoch.toNat

/-- T_commit of a token this node issued, in TRT linear ns: the TAU armed for its action names the timescale (R105). -/
def commitTrt (s : State) (t : Token) : Nat :=
  let c := linNs t.commitSec t.commitNs
  if s.tau.units.any (fun e => e.2.mode == .gated && e.2.actionId == t.actionId && e.2.wyt) then trtNs s + c - wytNs s else c

/-- The CMAC under a TAU key slot; 0 where the slot holds no key. -/
def tauCmac (s : State) (slot : Nat) (msg : Bytes) : BitVec 96 :=
  match tget none s.tau.keys slot with
  | some k => cmac96 k msg
  | none => 0

/-- Bytes 24 to 51 of a survey report (Table 4-7). -/
def surveyBytes (r : Survey) : Bytes :=
  beBytes 4 r.actionId.toNat ++ beBytes 1 r.outcome ++ beBytes 1 r.reason ++ beBytes 1 r.lines ++ beBytes 1 r.flags
    ++ beBytes 4 r.eventNs.toNat ++ beBytes 4 r.tokenNs.toNat ++ beBytes 8 r.reporterId.toNat ++ beBytes 1 r.car
    ++ beBytes 1 r.role ++ beBytes 1 r.hops ++ [0]

/-- Bytes 24 to 59 of a commit token (Table 4-6). -/
def tokenBytes (t : Token) : Bytes :=
  beBytes 4 t.actionId.toNat ++ beBytes 1 t.decision ++ beBytes 1 t.keySlot ++ [0, 0] ++ beBytes 6 t.fireSec
    ++ beBytes 4 t.fireNs ++ beBytes 6 t.commitSec ++ beBytes 4 t.commitNs ++ beBytes 8 t.issuerId.toNat

/-- This node's survey report of TAU `k` (R108): what Table 4-7 takes at T_fire is filled in by `surveyFields`. -/
def surveyOf (s : State) (r : TauRec) (fired : Bool) (reason : Nat) (collision : Bool) (at_ : Nat) : Survey :=
  { actionId := r.actionId, outcome := if fired then 1 else 2, reason := reason, lines := 0, flags := 2 * b2n collision
    eventNs := word at_, tokenNs := 0xFFFFFFFF, reporterId := s.otp.unitId, car := s.ine.car, role := s.ine.ident.role
    hops := 0, cmac := 0 }

/-- The fields of a report taken at T_fire (Table 4-7): the lines and the arrival of its tokens, skew_ok and the hop count;
then its CMAC over schedule_id, domain_epoch and bytes 24 to 51 (R108). -/
def surveyFields (s : State) (r : TauRec) (x : Survey) : Survey :=
  let y : Survey := { x with
    lines := r.lines.toNat, flags := b2n (skewOk s) + x.flags / 2 * 2, tokenNs := r.tokenAt.getD 0xFFFFFFFF
    hops := s.tms.hops, cmac := 0 }
  { y with cmac := tauCmac s r.keySlot (cmacPrefix s false ++ surveyBytes y) }

/-- T_fire of a waiting report, in TRT linear ns now. -/
def surveyFire (s : State) (e : SurveyWait) : Int := if e.wyt then trtNs s + (e.fire - wytNs s : Int) else e.fire

/-- Reports queue in order of T_fire (R108). -/
def queueSurvey (s : State) (q : List SurveyWait) (e : SurveyWait) : List SurveyWait :=
  match q with
  | [] => [e]
  | h :: r => if surveyFire s e < surveyFire s h then e :: h :: r else h :: queueSurvey s r e

/-- T_fire of TAU `k` has come: its waiting report takes the fields of that instant, in the queue and in the issuer's own
table. -/
def surveySeal (s : State) (k : Nat) : State :=
  match s.tau.surveyQueue.find? fun e => e.tau == k && !e.sealed with
  | none => s
  | some e =>
    let r := tauOf s k
    let x := surveyFields s r e.report
    let s := putTau s k { r with reports := r.reports.map fun y => if y = e.report then x else y }
    { s with tau := { s.tau with
        surveyQueue := s.tau.surveyQueue.map fun y => if y = e then { e with report := x, sealed := true } else y } }

/-- A TAU leaves ARMED or COMMITTED for good: a commit-gated one with a survey queues its report and waits for it, any
other is IDLE (Table 4-4, R108). The issuer's own report counts in its open survey (DESIGN CHOICE, log). -/
def tauFinish (s : State) (k : Nat) (fired : Bool) (reason : Nat) (collision : Bool) (at_ : Nat) : State :=
  let r := tauOf s k
  if r.mode = .gated ∧ r.survey then
    let report := surveyOf s r fired reason collision at_
    let own := if r.surveyOpen then r.reports ++ [report] else r.reports
    let s := putTau s k { r with state := .surveyWait, reason := reason, fired := fired, reports := own }
    let e : SurveyWait :=
      { fire := r.fire / 2 ^ 16, wyt := r.wyt, slot := r.surveySlot, tau := k, report := report, sealed := false }
    let s := { s with tau := { s.tau with surveyQueue := queueSurvey s s.tau.surveyQueue e } }
    if r.fire ≤ scale16 s r.wyt then surveySeal s k else s
  else putTau s k { r with state := .idle, reason := reason, fired := fired }

/-- A pending harvest of bank `b` aborts (R192): STEP, NO_TIME or TENANT_RESET; the bank's content is discarded and the
tenant receives harvest_done. -/
def harvestAbort (s : State) (b reason : Nat) : State :=
  let x := tget {} s.ports.banks b
  match x.next with
  | none => s
  | some (t, a) =>
    let code := if reason = 3 then 1 else if reason = 5 then 2 else 3
    let y : HarvestBank := { seq := x.seq, state := .aborted, tenant := t, abort := code, ident := a.ident }
    let s := { s with ports := { s.ports with banks := tset {} s.ports.banks b y } }
    event s t 6 (leBytes 1 b ++ leBytes 4 a.ident.toNat ++ leBytes 1 4)

/-- The counters of the ports of a mask as they stand, by p × 64 + c (R190). -/
def harvestCounts (t : Table (BitVec 64)) (mask : BitVec 128) : Table (BitVec 64) :=
  t.filter fun e => mask.getLsbD (e.1 / 64)

/-- Bank `b` is filled at the instant `t`, linear ns (R190, R191): FILLING, seq odd, the counters as they stand. -/
def harvestFill (s : State) (b tenantId : Nat) (a : HarvestArgs) (t : Nat) (invalid : Bool) : State :=
  let x := tget ({} : HarvestBank) s.ports.banks b
  let y : HarvestBank :=
    { seq := x.seq + 1, state := .filling, epoch := s.tms.trtEpoch, tenant := tenantId, invalid := invalid, at_ := t
      ident := a.ident, mask := a.mask, counts := harvestCounts (portCounters s) a.mask }
  { s with ports := { s.ports with banks := tset {} s.ports.banks b y } }

/-- A TAU aborts with a reason of Table 4-5: event ABORTED, then SURVEY_WAIT or IDLE; a device TAU that holds a harvest
aborts the harvest (R192). -/
def tauAbort (s : State) (k reason : Nat) : State :=
  let at_ := scaleNs s (tauOf s k).wyt
  let s := if (tauOf s k).target = targetHarvest then harvestAbort s (k - 60) reason else s
  tauFinish (tauEvent s k 2 reason 0 at_) k false reason false at_

/-- A TAU that still may fire. -/
def tauLive (r : TauRec) : Bool := r.state == .armed || r.state == .committed

/-- The last reason of a TAU that stays ARMED (R100). -/
def tauReason (s : State) (k reason : Nat) : State := putTau s k { tauOf s k with reason := reason }

/-- The next instant of a periodic TAU: k + 1; IDLE after the last (Table 4-3). -/
def tauNext (s : State) (k : Nat) : State :=
  let r := tauOf s k
  if r.count ≠ 0 ∧ r.count ≤ r.k + 1 then putTau s k { r with state := .idle, k := r.k + 1 }
  else putTau s k { r with k := r.k + 1, fire := r.fire + r.period * 2 ^ 16 }

/-- The instants of a periodic TAU that a step jumps over are skipped, each reported ABORTED with STEP (R101). -/
def tauSkip : Nat → State → Nat → Nat → State
  | 0, s, _, _ => s
  | n + 1, s, k, new16 =>
    let r := tauOf s k
    if r.state = .armed ∧ r.fire < new16 then
      tauSkip n (tauNext (tauReason (tauEvent s k 2 3 0 (r.fire / 2 ^ 16)) k 3) k) k new16
    else s

/-- What a step of a timescale from `old16` to `new16` does to TAU `k` (R38, R101): a commit-gated TRT action aborts
with EPOCH, also where the step jumps over its instant (DESIGN CHOICE, log: both reasons of Table 4-5 hold then); any other
action whose instant the step jumps over aborts with STEP; a periodic one skips. -/
def tauStep (s : State) (wyt : Bool) (old16 new16 k : Nat) : State :=
  let r := tauOf s k
  if !tauLive r || r.wyt != wyt then s
  else if r.mode = .gated ∧ ¬ wyt then tauAbort s k 4
  else if old16 < r.fire ∧ r.fire < new16 then
    if r.mode = .periodic then tauSkip ((new16 - r.fire) / (r.period * 2 ^ 16) + 1) s k new16 else tauAbort s k 3
  else s

/-- A step of a timescale, on every TAU. -/
def tausStep (s : State) (wyt : Bool) (old16 new16 : Nat) : State :=
  (s.tau.units.map Prod.fst).foldl (fun s k => tauStep s wyt old16 new16 k) s

/-- Every live TAU that satisfies `p` aborts with a reason. -/
def tausAbort (s : State) (p : Nat → TauRec → Bool) (reason : Nat) : State :=
  (s.tau.units.map Prod.fst).foldl
    (fun s k => if tauLive (tauOf s k) && p k (tauOf s k) then tauAbort s k reason else s) s

/-- A caller may read a TAU (R95): its owner, its last owner, tenant 0, or anyone if it was never armed. -/
def tauReadable (s : State) (t k : Nat) : Bool :=
  match (tauOf s k).owner with
  | none => true
  | some o => t == 0 || o == t

end Sys2Proof.Machine
end

