-- ==== Sys2Proof/Machine/TimeOps.lean ====
section
/-! DEFINITION. Train time: steps, upstream selection, lock and holdover (R36 to R48). -/

namespace Sys2Proof.Machine

/-- The DRIFT range (R36). -/
def driftMax : Int := 2 ^ 39 - 1
/-- See `driftMax`. -/
def driftMin : Int := -(2 ^ 39)

/-- One ppm in DRIFT units (R36). -/
def driftPpm : Int := 281474977

/-- TRT DRIFT takes effect: saturated at its range with drift_limit set, and kept in the history (R36, R45). -/
def setTrtDrift (s : State) (d : Int) : State :=
  let v := max driftMin (min driftMax d)
  let s := { s with tms := { s.tms with trtDrift := v, trtHist := ((s.mono, v) :: s.tms.trtHist).take 10000 } }
  setAlarmIf s (v != d) .tms 9

/-- WYT DRIFT takes effect. -/
def setWytDrift (s : State) (d : Int) : State :=
  let v := max driftMin (min driftMax d)
  let s := { s with tms := { s.tms with wytDrift := v, wytHist := ((s.mono, v) :: s.tms.wytHist).take 10000 } }
  setAlarmIf s (v != d) .tms 9

/-- The time integral of a DRIFT history from model time `since` to `until_`. -/
def driftArea : List (Nat × Int) → Nat → Nat → Int
  | [], _, _ => 0
  | (a, d) :: r, since, until_ =>
    if a ≤ since then d * ((until_ : Int) - since)
    else d * ((until_ : Int) - a) + driftArea r since a

/-- The mean of a DRIFT over the `span` ticks before now, or since model time `from_` if that is later (R45, R50). -/
def driftMean (hist : List (Nat × Int)) (present : Int) (now from_ span : Nat) : Int :=
  let since := max (max (now - span) from_) ((hist.getLast?.map Prod.fst).getD now)
  if since < now then driftArea hist since now / ((now : Int) - since) else present

/-- What an axis holds in TRT, its deadline and the instants of its samples, moved by the amount of a TRT step, which the TMS
passes to both channels (R38, R249; DEDUCED, log). -/
def axisStep (d : Int) (a : Axis) : Axis :=
  { a with
    deadline := ((a.deadline : Int) + d).toNat
    prev := a.prev.map fun e => (e.1, e.2 + wordI d), prev2 := a.prev2.map fun e => (e.1, e.2 + wordI d) }

/-- TRT is set to a new value: a step (R38). It increments trt_epoch, sets trt_step, records the amount and the epoch it
began, aborts what it jumps over, and sets last_ka to the instant after it (R336). -/
def trtStep (s : State) (new : Nat) : State :=
  let old := s.tms.trt
  let delta : Int := (new / nsRaw : Nat) - (old / nsRaw : Nat)
  let epoch := s.tms.trtEpoch + 1
  let s := { s with tms := { s.tms with
      trt := new % timeSpan, trtEpoch := epoch
      stepRec := { sec := delta / 1000000000, ns := (delta % 1000000000).toNat, epoch := epoch, at_ := some s.mono } } }
  let s := { s with pwc := { s.pwc with lastKa := trtNs s } }
  let s := { s with isl := { s.isl with
      sfp := { s.isl.sfp with axes := tmap {} s.isl.sfp.axes fun _ a => axisStep delta a }
      sla := { s.isl.sla with axes := tmap {} s.isl.sla.axes fun _ a => axisStep delta a } } }
  tausStep (setAlarm s .tms 1) false (old / 2 ^ 32) (new / 2 ^ 32)

/-- WYT is set to a new value (R38): wyt_step is set. The domain offsets are measured against the new value (R50), and a
peer delay exchange that the step falls into is given up. -/
def wytStep (s : State) (new : Nat) : State :=
  let old := s.tms.wyt
  let moved : Int := ((new / nsRaw : Nat) : Int) - (old / nsRaw : Nat)
  let s := { s with tms := { s.tms with
      wyt := new % timeSpan
      domains := tmap {} s.tms.domains fun _ x => if x.synced then { x with offset := x.offset + moved } else x
      peerDelay := tmap {} s.tms.peerDelay fun _ x => { x with t1 := none, last := none } } }
  tausStep (setAlarm s .tms 6) true (old / 2 ^ 32) (new / 2 ^ 32)

/-- The link of a port that carries LTMs: 0 to 3 for BB0 to BB3, 4 for TW0 (Table 2-11). -/
def linkOf (port : Nat) : Option Nat := if port < 4 then some port else if port = 95 then some 4 else none

/-- The port of a link. -/
def portOfLink (l : Nat) : Nat := if l = 4 then 95 else l

/-- A logical port's link is up. -/
def linkIsUp (s : State) (p : Nat) : Bool := (tget {} s.ports.links p).up

/-- A segment that listens: enabled, in Listen-only, its receiver on (Table 7-3). -/
def listens (s : State) (p : Nat) : Bool :=
  portKind p == .sg && (tget ({} : PortCfg) s.ports.cfg p).enabled && !s.glob.degraded
    && (tget ({} : Segment) s.ports.segs (p - 16)).state == .listenOnly

/-- The port may receive frames: an internal port, an external one with link up, a segment that listens (R177). -/
def portReceives (s : State) (p : Nat) : Bool := 96 ≤ p || linkIsUp s p || listens s p

/-- Where a segment carries safety telegrams that the island consumes (R248): a pair of an enabled channel record. -/
def safetySegment (s : State) (p : Nat) : Bool :=
  s.otp.island && portKind p == .sg &&
    match s.isl.par with
    | some par => par.chans.any fun c => c.enabled && c.segPair == (p - 16) / 2
    | none => false

/-- The configured speed of a port in Mb/s (Table 7-1): BB 10GBASE-R, WL0 and TW0 2.5GBASE-X by default. -/
def speedMbps (s : State) (p : Nat) : Nat :=
  match portKind p with
  | .bb | .wl | .tw =>
    match (tget {} s.ports.cfg p).speed with
    | some 0 => 10000 | some 1 => 5000 | some 2 => 2500 | some _ => 1000
    | none => if portKind p = .bb then 10000 else if portKind p = .tw then 2500 else 1000
  | .cp =>
    match (tget {} s.ports.links p).speed with
    | 0x10 => 10 | 0x11 => 100 | _ => 1000
  | .sg => 10
  | _ => 1000

/-- The mean link delay of a link in ps: the mean of the samples held, 0 with none (R41). -/
def linkDelayPs (s : State) (l : Nat) : Int :=
  let xs := (tget {} s.tms.links l).samples
  if xs.isEmpty then 0 else xs.sum / xs.length

/-- A link may be the upstream: link up, qualified phase tracker, and LTMs not older than 500 µs that carry this node's
leader_id and domain_epoch (R42, R43, R45). -/
def upstreamOk (s : State) (l : Nat) : Bool :=
  let x := tget {} s.tms.links l
  linkIsUp s (portOfLink l) && x.qualified &&
    match x.peer with
    | some p => p.leaderId == s.tms.leaderId && p.epoch == s.tms.domainEpoch && p.hops != 255
        && decide (s.mono < p.at_ + 500000)
    | none => false

/-- The rank of a link as upstream, the lowest first: hops, then speed, line A, line B, TW0, then the port number (R43;
TW0 belongs to no line and comes after both). -/
def upstreamRank (s : State) (l : Nat) : Nat :=
  let hops := match (tget {} s.tms.links l).peer with | some p => p.hops | none => 255
  let slow := b2n (speedMbps s (portOfLink l) < 5000)
  let kind := if l = 4 then 2 else if l = 2 ∨ l = 3 then 1 else 0
  hops * 1000 + slow * 100 + kind * 10 + l

/-- The link of lowest rank among those that may be the upstream. -/
def bestUpstream (s : State) : Option Nat :=
  ([0, 1, 2, 3, 4].filter (upstreamOk s)).foldl
    (fun o l => match o with
      | none => some l
      | some k => if upstreamRank s l < upstreamRank s k then some l else some k) none

/-- The node selects its upstream (R43): a follower's hops are the upstream's plus 1; a change sets upstream_change. -/
def selectUpstream (s : State) : State :=
  if s.tms.trtState = .leader ∨ s.tms.trtState = .none then s
  else
    match bestUpstream s with
    | some l =>
      let hops := match (tget {} s.tms.links l).peer with | some p => p.hops + 1 | none => 255
      let changed := l != s.tms.upstream
      setAlarmIf { s with tms := { s.tms with
          upstream := l, hops := min 255 hops, offsets := if changed then [] else s.tms.offsets } } changed .tms 3
    | none => s

/-- The mean TRT DRIFT over the preceding 1 s, or since LOCKED (R45). -/
def trtMeanDrift (s : State) : Int :=
  driftMean s.tms.trtHist s.tms.trtDrift s.mono s.tms.lockedSince 1000000000

/-- A node can enter TRT holdover: it follows a leader and is not in holdover yet (R45). -/
def mayHold (s : State) : Bool :=
  s.tms.trtState == .locked || s.tms.trtState == .acquiring || (s.tms.trtState == .free && s.tms.leaderId != 0)

/-- The upstream reports holdover and no other port offers a path without it (R45). -/
def upstreamHolds (s : State) : Bool :=
  (match (tget {} s.tms.links s.tms.upstream).peer with | some p => p.inHoldover | none => false) &&
    [0, 1, 2, 3, 4].all fun k => !(upstreamOk s k &&
      match (tget {} s.tms.links k).peer with | some p => !p.inHoldover | none => false)

/-- The node enters TRT holdover (R45): DRIFT frozen at its mean, trt_holdover set, the age counted from now. An upstream that
holds over itself stays selected; where the leader fell silent there is none, which is a change of upstream (DESIGN
CHOICE, log: the spec does not say what the upstream field reads in holdover). -/
def enterHoldover (s : State) : State :=
  if mayHold s then
    let lost := !upstreamHolds s && s.tms.upstream != 15
    let s := setAlarmIf s lost .tms 3
    let s := setTrtDrift { s with tms := { s.tms with upstream := if lost then 15 else s.tms.upstream } } (trtMeanDrift s)
    setAlarm { s with tms := { s.tms with trtState := .holdover, trtHoldSince := some s.mono } } .tms 0
  else s

/-- The node takes a leader's unit ID (R46): a change makes a follower acquire it. -/
def followLeader (s : State) (id : UnitId) : State :=
  if s.tms.leaderId = id then s
  else { s with tms := { s.tms with leaderId := id, leaderSince := s.mono, goodRun := 0, badRun := 0 } }

/-- The node becomes TRT leader (R46): hops 0, no upstream; by cold start DRIFT becomes 0 (R47), otherwise the DRIFT of
this instant is held. -/
def leadTime (s : State) (cold : Bool) : State :=
  let s := if cold then setTrtDrift s 0 else s
  { s with tms := { s.tms with
      trtState := .leader, hops := 0, upstream := 15, leaderId := s.otp.unitId, trtHoldSince := none
      goodRun := 0, badRun := 0 } }

/-- The node stops being TRT leader and follows `id` (R46): its trt_state reads ACQUIRING until R44 makes it LOCKED. -/
def unleadTime (s : State) (id : UnitId) : State :=
  let s := if s.tms.trtState = .leader then
      { s with tms := { s.tms with
          trtState := .acquiring, hops := 255, goodRun := 0, badRun := 0
          aligned := s.css.state == .active || s.css.state == .leader } }
    else s
  selectUpstream (followLeader s id)

/-! ## Time-stamp points (Table 2-7) -/

/-- `a` moved towards `b` by at most `d`. -/
def towards (a b : Int) (d : Nat) : Int := if a ≤ b then min b (a + d) else max b (a - d)

/-- The latency correction of a SerDes lane in force, in ps: from that before the last calibration update towards the one
it gives, 10 ps each LTM period of 125 µs (R57). Lanes: BB0 to BB3, WL0, TW0, CPQ0 to CPQ2. -/
def laneLatency (s : State) (tx : Bool) (j : Nat) : Int :=
  let d := 10 * ((s.mono - s.tms.latAt) / 125000)
  if tx then towards (tget 0 s.tms.latTx j) (s.agm.latTx.getD j 0) d
  else towards (tget 0 s.tms.latRx j) (s.agm.latRx.getD j 0) d

/-- What a transmit stamp of a port adds to the instant taken, in ps (Table 2-7): the SerDes or PHY latency; on CP less
cp_lat_tx; nothing on CAN and the internal ports. -/
def txCorrection (s : State) (p : Nat) : Int :=
  match portKind p with
  | .bb => laneLatency s true p
  | .wl => laneLatency s true 4
  | .tw => laneLatency s true 5
  | .cp => laneLatency s true (6 + (p - 4) / 4) - tget 0 s.tms.cfg.cpLatTx (p - 4)
  | .sg => Config.sgTx (p - 16)
  | _ => 0

/-- What a receive stamp of a port adds, in ps (Table 2-7): less the SerDes or PHY latency, on CP less cp_lat_rx too. -/
def rxCorrection (s : State) (p : Nat) : Int :=
  match portKind p with
  | .bb => -laneLatency s false p
  | .wl => -laneLatency s false 4
  | .tw => -laneLatency s false 5
  | .cp => -laneLatency s false (6 + (p - 4) / 4) - tget 0 s.tms.cfg.cpLatRx (p - 4)
  | .sg => -(Config.sgRx (p - 16) : Int)
  | _ => 0

/-- A raw time moved by ps. -/
def movePs (raw : Nat) (ps : Int) : Nat := (((raw : Int) + ps * nsRaw / 1000) % timeSpan).toNat

/-- The TRT stamp of a frame that leaves port `p` now, in units of 2^-48 ns (R54). -/
def txTrt (s : State) (p : Nat) : Nat := movePs s.tms.trt (txCorrection s p)

/-- The TRT stamp of a frame that arrives at port `p` now (R54). -/
def rxTrt (s : State) (p : Nat) : Nat := movePs s.tms.trt (rxCorrection s p)

/-- The WYT stamp of a frame that leaves port `p` now (R54). -/
def txWyt (s : State) (p : Nat) : Nat := movePs s.tms.wyt (txCorrection s p)

/-- The WYT stamp of a frame that arrives at port `p` now (R54). -/
def rxWyt (s : State) (p : Nat) : Nat := movePs s.tms.wyt (rxCorrection s p)

/-- A time as a stamp in 2^-16 ns. -/
def stamp16 (raw : Nat) : Nat := raw / 2 ^ 32

/-! ## Frames that a halt of their port holds (R184) -/

/-- What leaves in place of an item that waited, with what its departure stamps: a Sync's correction grows by the wait, a peer
delay request's departure is its t1, a response's its t3 (R49, R56: no stamp is stale). -/
def departing (s : State) (e : HeldOut) : State × Sent :=
  match e.item with
  | .sync p d q sec ns c => (s, .sync p d q sec ns (c + (s.mono - e.since) * 65536))
  | .pdelayReq p q =>
    let t1 := some (stamp16 (txWyt s p))
    ({ s with tms := { s.tms with
        peerDelay := tmod {} s.tms.peerDelay p fun x => { x with t1 := t1 } } }, .pdelayReq p q)
  | .pdelayResp p q t2 _ => (s, .pdelayResp p q t2 (txWyt s p / nsRaw))
  | x => (s, x)

/-- One item leaves its port, counted there (R187). -/
def depart (s : State) (e : HeldOut) : State :=
  let d := departing s e
  emit (countSent d.1 e.port (sentLen e.item)) d.2

/-- What waited for the end of a port's halt is sent; nothing while it is halted. -/
def releasePort (s : State) (p : Nat) : State :=
  if txHalted s p then s
  else (s.ports.heldOut.filter fun e => e.port == p).foldl depart
    { s with ports := { s.ports with heldOut := s.ports.heldOut.filter fun e => e.port != p } }

/-- One thing sent on a port, behind what waits there; while the transmitter is halted it waits too (R184). -/
def emitPort (s : State) (p : Nat) (x : Sent) : State :=
  releasePort { s with ports := { s.ports with heldOut := s.ports.heldOut ++ [{ port := p, item := x, since := s.mono }] } } p

/-- A frame with fields written on the fly (R56): where the insertion does not complete, which nothing in the spec decides (a
free value), it ends with an invalid FCS. -/
def oneStep (s : State) (p : Nat) (x : Sent) : Sent × State :=
  let n := draw s
  (if n.1 % 2 = 1 then x else .spoiled p, n.2)

/-- A stamp as descriptors carry it: linear ns mod 2^32 (R58). -/
def stamp32 (raw : Nat) : Word := word (raw / nsRaw)

/-- The WYT stamp in a descriptor: taken on gptp_port_en ports, 0 elsewhere (R54). -/
def wytStamp32 (s : State) (p raw : Nat) : Word := if s.tms.cfg.gptpPorts.contains p then stamp32 raw else 0

/-- A segment's wake burst is under way (R179). -/
def segBursts (s : State) (sg : Nat) : Bool :=
  (tget ({} : Segment) s.ports.segs sg).pending.any fun w => match w with
    | .burst .. => true
    | _ => false

/-! ## Nominal instants -/

/-- The next nominal instant of something sent each `period` ns whose last nominal instant is `last`: the first is now. -/
def nextBeat (last : Option Nat) (period now : Nat) : Nat :=
  match last with
  | none => now
  | some a => a + max 1 ((now - a + period - 1) / period) * period

/-- The rate of a port's TC6 policer in bit/s: 20 % of the line rate by default (R117); that of the internal ports, which have
none, is taken as 1000 Mb/s (DESIGN CHOICE, log). -/
def policerRate (s : State) (p : Nat) (x : Policer) : Nat := x.rate.getD (speedMbps s p * 200000)

/-- A TC6 frame at its policer (R117): whether it conforms, and the policer after it. -/
def policerFrame (s : State) (p len : Nat) : Bool × Policer :=
  let x := tget {} s.fab.policers p
  let full := x.depth * 8 * 1000000000
  let tok := if x.used then min full (x.tokens + policerRate s p x * (s.mono - x.at_)) else full
  let need := len * 8 * 1000000000
  if need ≤ tok then (true, { x with used := true, tokens := tok - need, at_ := s.mono })
  else (false, { x with used := true, tokens := tok, at_ := s.mono })

/-- A TC6 frame of `len` octets that a row of its own brings: counted at its port and policed (R117), then what it does, else
METER_EXCEED for the tenant 0 of every VLAN (R116). -/
def policed (s : State) (p len : Nat) (f : State → State) : State :=
  let r := policerFrame s p len
  let s := countGot s p len
  let s := { s with fab := { s.fab with policers := tset {} s.fab.policers p r.2 } }
  if r.1 then f s else discard s { port := p, reason := 2, ingress := p, tenant := 0, cls := 6, len := len }

end Sys2Proof.Machine
end

