-- ==== Sys2Proof/Machine/CssOps.lean ====
section
/-! DEFINITION. Cyclic Slot Service: lines, frames, commits, state changes and instantiation (R71 to R91). -/

namespace Sys2Proof.Machine

/-- pan_len in µs of the loaded image, 1000 without one. -/
def panUs (s : State) : Nat := match s.css.image with | some i => i.panLen | none => 1000

/-- pan_len in ns. -/
def panNs (s : State) : Nat := panUs s * 1000

/-- The lines this device sends and forwards on (R77, R214): both, or its own in a twin pair. -/
def ownLines (s : State) : List Line :=
  match s.ine.twin.partner with
  | none => [.a, .b]
  | some _ => if s.ine.twin.lineB then [.b] else [.a]

/-- The two BB ports of a line (R77). -/
def linePorts : Line → List Nat
  | .a => [0, 1]
  | .b => [2, 3]

/-- The line of a BB port. -/
def lineOf (p : Nat) : Line := if p < 2 then .a else .b

/-- The other port of the same line. -/
def otherPort (p : Nat) : Nat := if p % 2 = 0 then p + 1 else p - 1

/-- The neighbour of a BB port belongs to this node's run of adjacent BV-9664 nodes (R197): it has sent no TTDP frame, or an LTM
too, since the link came up (DEDUCED, log: only a BV-9664 sends LTMs). -/
def inRun (s : State) (p : Nat) : Bool :=
  let x := tget ({} : HelloLink) s.ine.hello p
  !x.ttdp || (tget ({} : LinkTime) s.tms.links p).peer.any fun q => decide (x.upAt ≤ q.at_)

/-- A BB port carries CSS frames: link up, fabric-up and within the run (R77, R197, R206). -/
def cssPort (s : State) (p : Nat) : Bool := linkIsUp s p && (tget {} s.ine.hello p).fabricUp && inRun s p

/-- A port belongs to this device's line and network half: every port does but in a twin pair, where the line A device has BB0, BB1,
CP0 to CP5 and the even segments (R214). -/
def portMine (s : State) (p : Nat) : Bool :=
  let lineA : Option Bool :=
    match portKind p with
    | .bb => some (decide (p < 2))
    | .cp => some (decide (p < 10))
    | .sg => some (p % 2 == 0)
    | _ => none
  s.ine.twin.partner.isNone || lineA.all (· != s.ine.twin.lineB)

/-- A BB port or TW0 carries inauguration frames other than HELLO: up, and fabric-up or a coupler port (R198, R206). -/
def inaugPort (s : State) (p : Nat) : Bool :=
  linkIsUp s p && (p == 95 || (tget ({} : HelloLink) s.ine.hello p).fabricUp || s.ine.run.couplers.contains p)

/-- The ports of this device's lines to which a copy is made: link up (R77). -/
def copyPorts (s : State) : List Nat := ((ownLines s).flatMap linePorts).filter (cssPort s)

/-- A timing frame of `len` bytes sent on every own line out of both its ports (R77); `mk` gives the frame of a port, which
carries the instant of its departure (R56). -/
def sendLines (s : State) (len : Nat) (mk : Nat → Sent) : State :=
  (copyPorts s).foldl (fun s p =>
    let d := oneStep (countSent s p len) p (mk p)
    emit d.2 d.1) s

/-- The header of a CSS frame this node sends now on port `p` (Table 3-4), its tx_ns that of the departure (R56). -/
def cssHdr (s : State) (p : Nat) (pan : Word) (slotId : Nat) : CssHdr :=
  { fcsOk := true, version := 1, lineB := lineOf p == .b, fromLeader := s.css.state == .leader, scheduleId := schedId s
    pan := pan, slotId := slotId, txNs := stamp32 (txTrt s p), domainEpoch := s.tms.domainEpoch
    src := Config.portMac s.otp.unitId p }

/-- A pan runs on the node, so that a pan boundary comes (Table 3-8). -/
def panOn (s : State) : Bool := s.css.state == .active || s.css.state == .leader || s.css.state == .integrating

/-- One CSS frame counted in CSS_REJECT_TOTAL: while a pan runs at its end (R92), in the other states, which have no pan, at
once. -/
def rejectTotal (s : State) : State :=
  if panOn s then { s with css := { s.css with rejectNow := s.css.rejectNow + 1 } }
  else { s with css := { s.css with rejectTotal := s.css.rejectTotal + 1 } }

/-- The counts of a window brought up to date (R92). -/
def winSettle (w : RxWin) : RxWin :=
  { w with rej := sat16 (w.rej + w.rejNow), rejected := w.rejected || decide (0 < w.rejNow), rejNow := 0 }

/-- Every count of CSS brought up to date, as at a pan boundary (R92). -/
def cssSettle (s : State) : State :=
  { s with css := { s.css with
      rejectTotal := s.css.rejectTotal + BitVec.ofNat 32 s.css.rejectNow, rejectNow := 0
      slots := s.css.slots.map fun x => { x with notReady := sat16 (x.notReady + x.notReadyNow), notReadyNow := 0 }
      windows := s.css.windows.map winSettle } }

/-! ## The layout of CSS frames (R76, Tables 3-3 to 3-5; network order) -/

/-- The subtype of a slot frame's body. -/
def bodyType : CssBody → Nat
  | .data .. => 3 | .token _ => 4 | .survey _ => 5 | .other n => n

/-- The bytes a slot frame delivers: its data, or its payload from byte 24 (Tables 3-3, 4-6, 4-7). -/
def bodyBytes : CssBody → Bytes
  | .data _ d => d
  | .token t => tokenBytes t ++ beBytes 12 t.cmac.toNat
  | .survey r => surveyBytes r ++ beBytes 12 r.cmac.toNat
  | .other _ => []

/-- The payload of a slot frame from byte 24. -/
def bodyPayload : CssBody → Bytes
  | .data q d => beBytes 4 q.toNat ++ d
  | b => bodyBytes b

/-- The 24 B of a CSS header (Table 3-4). -/
def hdrBytes (sub : Nat) (h : CssHdr) (stop : Bool) (len : Nat) : Bytes :=
  beBytes 1 sub ++ beBytes 1 h.version ++ beBytes 2 (b2n h.lineB + 2 * b2n h.fromLeader + 4 * b2n stop)
    ++ beBytes 4 h.scheduleId.toNat ++ beBytes 4 h.pan.toNat ++ beBytes 2 h.slotId ++ beBytes 2 len
    ++ beBytes 4 h.txNs.toNat ++ beBytes 4 h.domainEpoch.toNat

/-- An untagged Ethernet frame with `b` after its EtherType, padded to 64 B with zeros. -/
def etherFrame (dst src : Mac) (etype sub : Nat) (b : Bytes) : Frame :=
  let n := max 46 b.length
  { dst := dst, src := src, vlan := none, etype := etype, subtype := sub, rtag := none, rct := none, len := n + 18
    fcsOk := true, gptpDomain := none, payload := bytesAt b 0 n }

/-- The destination of a slot frame (Table 3-3): 03-42-56-00-xx-xx. -/
def slotMac (id : Nat) : Mac := BitVec.ofNat 48 (0x034256000000 + id % 65536)

/-- A slot frame on the wire (R76). -/
def slotFrame (f : CssFrame) : Frame :=
  let b := bodyPayload f.body
  etherFrame (slotMac f.hdr.slotId) f.hdr.src 0x88B5 (bodyType f.body)
    (hdrBytes (bodyType f.body) f.hdr false b.length ++ b)

/-- A cycle-start frame on the wire (R76, Table 3-5). -/
def cycleStartFrame (f : CycleStart) : Frame :=
  etherFrame 0x034256FFFF03 f.hdr.src 0x88B5 1
    (hdrBytes 1 f.hdr f.stop 32 ++ beBytes 6 f.startSec ++ beBytes 4 f.startNs ++ beBytes 2 f.panLenUs
      ++ beBytes 8 f.leaderId.toNat ++ beBytes 4 f.stopPan.toNat ++ beBytes 2 f.guardNs ++ beBytes 2 f.carCount
      ++ beBytes 4 0)

/-- A cold-start frame on the wire (R76, Table 3-5). -/
def coldStartFrame (f : ColdStart) : Frame :=
  etherFrame 0x034256FFFF04 f.hdr.src 0x88B5 2
    (hdrBytes 2 f.hdr false 24 ++ beBytes 8 f.senderId.toNat ++ beBytes 2 f.panLenUs ++ beBytes 6 f.originSec
      ++ beBytes 4 f.originNs ++ beBytes 2 f.listen ++ beBytes 2 0)

/-- The network-order field of `n` bytes at offset `o`. -/
def beAt (b : Bytes) (o n : Nat) : Nat := beNum (bytesAt b o n)

/-- The header of a received CSS frame, from the bytes after its EtherType (Table 3-4). -/
def readHdr (fcsOk : Bool) (b : Bytes) : CssHdr :=
  { fcsOk := fcsOk, version := beAt b 1 1, lineB := beAt b 2 2 % 2 == 1, fromLeader := beAt b 2 2 / 2 % 2 == 1
    scheduleId := word (beAt b 4 4), pan := word (beAt b 8 4), slotId := beAt b 12 2, txNs := word (beAt b 16 4)
    domainEpoch := word (beAt b 20 4) }

/-- A received cycle-start (Table 3-5). -/
def readCycleStart (fcsOk : Bool) (b : Bytes) : CycleStart :=
  { hdr := readHdr fcsOk b, startSec := beAt b 24 6, startNs := beAt b 30 4, panLenUs := beAt b 34 2
    leaderId := BitVec.ofNat 64 (beAt b 36 8), stop := beAt b 2 2 / 4 % 2 == 1, stopPan := word (beAt b 44 4)
    guardNs := beAt b 48 2, carCount := beAt b 50 2 }

/-- A received cold-start (Table 3-5). -/
def readColdStart (fcsOk : Bool) (b : Bytes) : ColdStart :=
  { hdr := readHdr fcsOk b, senderId := BitVec.ofNat 64 (beAt b 24 8), panLenUs := beAt b 32 2, originSec := beAt b 34 6
    originNs := beAt b 40 4, listen := beAt b 44 2 }

/-- A received commit token (Table 4-6). -/
def readToken (b : Bytes) : Token :=
  { actionId := word (beAt b 24 4), decision := beAt b 28 1, keySlot := beAt b 29 1, fireSec := beAt b 32 6
    fireNs := beAt b 38 4, commitSec := beAt b 42 6, commitNs := beAt b 48 4, issuerId := BitVec.ofNat 64 (beAt b 52 8)
    cmac := BitVec.ofNat 96 (beAt b 60 12) }

/-- A received survey report (Table 4-7). -/
def readSurvey (b : Bytes) : Survey :=
  { actionId := word (beAt b 24 4), outcome := beAt b 28 1, reason := beAt b 29 1, lines := beAt b 30 1
    flags := beAt b 31 1, eventNs := word (beAt b 32 4), tokenNs := word (beAt b 36 4)
    reporterId := BitVec.ofNat 64 (beAt b 40 8), car := beAt b 48 1, role := beAt b 49 1, hops := beAt b 50 1
    cmac := BitVec.ofNat 96 (beAt b 52 12) }

/-- A received slot frame: payload_len says where its data end (Table 3-4). -/
def readSlot (fcsOk : Bool) (sub : Nat) (b : Bytes) : CssFrame :=
  { hdr := readHdr fcsOk b
    body := match sub with
      | 3 => .data (word (beAt b 24 4)) (bytesAt b 28 (min (beAt b 14 2 - 4) (b.length - 28)))
      | 4 => .token (readToken b)
      | 5 => .survey (readSurvey b)
      | n => .other n }

/-- The node is integrated in CSS (Table 2-3). -/
def integrated (s : State) : Bool := s.css.state == .active || s.css.state == .leader

/-- An inauguration is in progress (Table 8-7). -/
def inaugurating (s : State) : Bool :=
  match s.ine.state with
  | .hello | .topology | .stopping | .merging | .renumbering | .installing => true
  | _ => false

/-! ## Slots and commits (R75) -/

/-- The index of the transmit entry of a slot_id. -/
def slotIndex (s : State) (id : Nat) : Option Nat := s.css.slots.findIdx? fun x => x.slotId == id

/-- Transmit entry `i` changed. -/
def modSlot (s : State) (i : Nat) (f : TxSlot → TxSlot) : State :=
  { s with css := { s.css with slots := modAt s.css.slots i f } }

/-- Receive window `w` changed. -/
def modWin (s : State) (w : Nat) (f : RxWin → RxWin) : State :=
  { s with css := { s.css with windows := modAt s.css.windows w f } }

/-- The producer codes other than tenants (Table 3-1). -/
abbrev prodMgp : Nat := 0x100
/-- See `prodMgp`. -/
abbrev prodBridge : Nat := 0x101
/-- See `prodMgp`. -/
abbrev prodTau : Nat := 0x102

/-- The tests of a commit in their order (R75): the first that fails gives the status. -/
def commitTest (s : State) (id producer len : Nat) : Status × Option Nat :=
  match slotIndex s id with
  | none => (.invalidArgument, none)
  | some i =>
    match s.css.slots[i]? with
    | none => (.invalidArgument, none)
    | some x =>
      if x.kind ≠ 0 then (.invalidArgument, none)
      else if x.producer ≠ producer then (.ownerMismatch, none)
      else if x.length < len then (.invalidArgument, none)
      else (.ok, some i)

/-- A shared slot's readiness waits for the partner's acknowledgement while the partner is there (R215). -/
def slotMirrors (s : State) (x : TxSlot) : Bool :=
  x.shared && s.ine.twin.partner.isSome && (s.ine.twin.state == .active || s.ine.twin.state == .standby)

/-- A commit (R75): prod_seq + 1, the other half of the double buffer written and marked ready; a shared slot of a twin
pair is mirrored over TW0 first (R215). -/
def commitSlot (s : State) (id producer : Nat) (data : Bytes) : Status × State :=
  match commitTest s id producer data.length with
  | (st, none) => (st, s)
  | (st, some i) =>
    match s.css.slots[i]? with
    | none => (st, s)
    | some x =>
      if slotMirrors s x then
        (st, emit (modSlot s i fun x => { x with prodSeq := x.prodSeq + 1, mirrored := some data, commitAt := s.mono })
          (.twinMirror id (x.prodSeq + 1) data))
      else
        (st, modSlot s i fun x =>
          { x with prodSeq := x.prodSeq + 1, dataSeq := x.prodSeq + 1, data := data, ready := true, commitAt := s.mono })

/-! ## State changes (Table 3-6) -/

/-- Every per-window and per-slot count zeroed (R93). -/
def cssZero (s : State) (pan : Word) : State :=
  { s with css := { s.css with
      clearDue := false, clearPan := pan
      slots := s.css.slots.map fun x => { x with notReady := 0, notReadyNow := 0 }
      windows := s.css.windows.map fun w =>
        { w with dup := 0, empty := 0, missA := 0, missB := 0, rej := 0, rejNow := 0 } } }

/-- The leader's unit ID as CSS_LEADER shows it; a change sets new_leader (Table 3-10). -/
def setLeader (s : State) (id : UnitId) : State :=
  setAlarmIf { s with css := { s.css with leader := id } } (s.css.leader != id) .css 1

/-- Own slots and windows stop: what was built for the pan that does not end is dropped, with its copies, its cycle-starts and
what Table 3-6 counts in a run of pans. -/
def cssQuiet (s : State) : State :=
  { s with css := { s.css with
      slotsRun := false, startNext := false, leaderless := false, missRun := 0, missed := 0, reelectSent := false
      reelectDue := false, count := 0, lastCs := none, prevCs := none
      slots := s.css.slots.map fun x => { x with built := none }
      windows := s.css.windows.map fun w => { w with gotA := false, gotB := false } } }

/-- No pan runs on the node any more: as `cssQuiet`, and an announced stop and its reason are dropped; counts are brought up to
date. -/
def cssHalt (s : State) : State :=
  let s := cssSettle s
  let s := cssQuiet (if s.css.clearDue then cssZero s 0 else s)
  { s with css := { s.css with stopPan := none, stopWhy := 2, localStop := false, pan := 0, listenDue := false } }

/-- Every window reads stale, with the age it has (Table 8-8). -/
def windowsStale (s : State) : State :=
  { s with css := { s.css with windows := s.css.windows.map fun w => { w with stale := true } } }

/-- The node enters STOPPED with a stop_reason (Tables 3-6 and 3-9); in an inauguration its windows read stale until pan 2 after
T_s (Table 8-8). A CSS leader that stops is TRT leader no longer by R46 but keeps its trt_state until it follows another (R48,
R88). -/
def cssStopped (s : State) (reason : Nat) : State :=
  let s := if reason = 5 then windowsStale (cssHalt s) else cssHalt s
  setAlarm { s with css := { s.css with state := .stopped, stopReason := reason } } .css 6

/-- CSS starts: no window has had a delivery since (Table 3-9). -/
def cssFresh (s : State) : State :=
  { s with css := { s.css with windows := s.css.windows.map fun w => { w with validEver := false } } }

/-- The node enters LISTEN: the listen timer starts. -/
def cssListen (s : State) : State :=
  let s := cssHalt s
  { s with css := { s.css with state := .listen, listenSince := s.mono } }

/-- The node enters INTEGRATING behind a sender with count 0, 4 pans from now (Table 3-6); counts and a clear that wait for a
pan boundary go on waiting for it (R92, R93). -/
def cssFollow (s : State) (id : UnitId) : State :=
  let s := cssQuiet s
  { s with css := { s.css with state := .integrating, followed := id, countAt := s.mono, integSince := s.mono } }

/-- The node follows another sender, of which it has heard no pan and no stop. -/
def cssIntegrate (s : State) (id : UnitId) : State :=
  let s := cssFollow s id
  unleadTime { s with css := { s.css with pan := 0, stopPan := none, stopWhy := 2 } } id

/-- The node leaves ACTIVE or LEADER for INTEGRATING at a TRT step (Table 3-6): an announced or local stop still holds (R85), and
CSS_PAN_NUM reads the pan of the last cycle-start (Table 3-8). -/
def cssStepped (s : State) (id : UnitId) : State :=
  let last := s.css.lastCs.getD s.css.pan
  let back := (s.css.pan - last).toNat * panNs s
  let s := cssFollow s id
  { s with css := { s.css with stopReason := 4, pan := last, panStart := s.css.panStart - back } }

/-- The node becomes ACTIVE or LEADER: counted, integrated set (Tables 3-8 and 3-10). -/
def cssIntegrated (s : State) (st : CssState) : State :=
  setAlarm { s with css := { s.css with
      state := st, integrations := s.css.integrations + 1, leaderless := false, missRun := 0, missed := 0
      slotsRun := true, startNext := false } } .css 2

/-- The cycle-start of the current pan, as leader, on both lines (R78, Table 3-5). -/
def sendCycleStart (s : State) : State :=
  let s' := { s with css := { s.css with lastCs := some s.css.pan, prevCs := s.css.lastCs } }
  sendLines s' 74 fun p => .cycleStart p
    { hdr := cssHdr s p s.css.pan 0xFFFF
      startSec := s.css.panStart / 1000000000, startNs := s.css.panStart % 1000000000, panLenUs := panUs s
      leaderId := s.otp.unitId, stop := s.css.stopPan.isSome, stopPan := s.css.stopPan.getD 0
      guardNs := s.css.guardCfg, carCount := (s.ine.nodes.map NodeRec.car).foldl max 0 }

/-- The node becomes LEADER: it leads the time of the train (R46) and sends the cycle-start of its pan. -/
def cssLead (s : State) : State :=
  let s := cssIntegrated s .leader
  sendCycleStart (setLeader (leadTime s false) s.otp.unitId)

/-- The listen offset in ns (R81). -/
def listenOffset (s : State) : Nat := (s.otp.unitId.toNat % 65536 % 1021) * 100

/-- A cold-start frame sent on both lines with an origin (Table 3-5). -/
def sendColdStart (s : State) (origin : Nat) : State :=
  sendLines s 66 fun p => .coldStart p
    { hdr := cssHdr s p 0 0xFFFF, senderId := s.otp.unitId, panLenUs := panUs s, originSec := origin / 1000000000
      originNs := origin % 1000000000, listen := listenOffset s / 100 }

/-! ## Instantiation (R91) -/

/-- A transmit template applies to car `i`, role `r`. -/
def txApplies (t : TxTemplate) (i r : Nat) : Bool := (t.carSel == 0 || t.carSel == i) && t.role == r

/-- The offset of a transmit template in car `i`. -/
def txOffset (t : TxTemplate) (i : Nat) : Int := t.offBase + i * t.offStride

/-- The slot_id of a transmit template in car `i`. -/
def txId (t : TxTemplate) (i : Nat) : Int := t.idBase + i * t.idStride

/-- The source car of a receive template in car `i`. -/
def srcCar (c : SrcCar) (i : Nat) : Int :=
  match c with
  | .absolute j => (j : Int)
  | .relative d => (i : Int) + d

/-- The frame size of an entry on the wire (R91). -/
def txFrameSize (kind len : Nat) : Nat := if kind = 1 then 90 else if kind = 2 then 82 else max 64 (len + 46)

/-- The wire time of an entry in ps at `mbps`: (F + 20) × 8 / r. -/
def txWirePs (kind len mbps : Nat) : Nat := ((txFrameSize kind len + 20) * 8 * 1000000 + mbps - 1) / mbps

/-- Two entries are active in a common pan (R91). -/
def panMeets (a b : TxSlot) : Bool :=
  let m := 2 ^ min a.periodLog2 b.periodLog2
  a.phase % m == b.phase % m

/-- Two entries overlap on the wire (R91). -/
def slotsOverlap (mbps : Nat) (a b : TxSlot) : Bool :=
  panMeets a b && decide (a.offset * 10000 < b.offset * 10000 + txWirePs b.kind b.length mbps)
    && decide (b.offset * 10000 < a.offset * 10000 + txWirePs a.kind a.length mbps)

/-- No two elements of a list are related. -/
def noPair {α : Type} (f : α → α → Bool) : List α → Bool
  | [] => true
  | a :: r => r.all (fun b => !f a b) && noPair f r

/-- What an instantiation gives: slots, windows, TC7 windows, skipped receive templates, the cold-start mark. -/
structure Instance where
  slots : List TxSlot
  windows : List RxWin
  gates : List CssGate
  skipped : Nat
  capable : Bool

/-- The template tables keep the widths of Tables 3-1 and 3-2: length up to 1472, period_log2 up to 6, phase 6 bits, kind up
to 2, the producers named, delivery 12 bits. -/
def templatesFormed (t : Templates) : Bool :=
  t.tx.all (fun x => decide (x.length ≤ 1472 ∧ x.periodLog2 ≤ 6 ∧ x.phase < 64 ∧ x.kind ≤ 2 ∧ x.producer ≤ 0x102))
    && t.rx.all fun x => decide (x.delivery < 4096)

/-- The transmit entries of car `i`, role `r`; `none` where a slot_id or an offset comes out negative or a slot_id wider than
its 16 bits (DESIGN CHOICE, log: R91 does not say; the model takes it as a misfit). -/
def mkSlots (tp : Templates) (i r : Nat) : Option (List TxSlot) :=
  (tp.tx.filter fun t => txApplies t i r).mapM fun t =>
    if txId t i < 0 ∨ 65536 ≤ txId t i ∨ txOffset t i < 0 then none
    else some { slotId := (txId t i).toNat, offset := (txOffset t i).toNat, length := t.length
                periodLog2 := t.periodLog2, phase := t.phase, kind := t.kind, producer := t.producer
                repeatOn := t.repeatOn, shared := t.shared }

/-- The source of a receive template is present: car `j` exists, the source template applies to it, and car `j` holds a
node of its role (R91). -/
def srcPresent (nodes : List NodeRec) (cars : Nat) (t : TxTemplate) (j : Int) : Bool :=
  decide (1 ≤ j ∧ j ≤ cars) && (t.carSel == 0 || (t.carSel : Int) == j)
    && nodes.any (fun n => (n.car : Int) == j && n.role == t.role)

/-- The windows of car `i`, role `r`, and the receive templates skipped for an absent source (R91). A template whose source
index names no transmit template counts as skipped (DESIGN CHOICE, log: R91 gives no case for it). -/
def mkWindows (tp : Templates) (nodes : List NodeRec) (cars i r : Nat) : Option (List RxWin × Nat) :=
  let mine := tp.rx.filter fun t => (t.carSel == 0 || t.carSel == i) && t.role == r
  let split := mine.map fun t =>
    match tp.tx[t.source]? with
    | none => (t, none)
    | some x => (t, if srcPresent nodes cars x (srcCar t.srcCar i) then some x else none)
  let skipped := (split.filter fun e => e.2.isNone).length
  (((split.filterMap fun e => e.2.map fun x => (e.1, x)).mapM fun e =>
    let j := (srcCar e.1.srcCar i).toNat
    let off : Int := txOffset e.2 j
    let cl : Int := e.1.closeBase + (i : Int) * e.1.closeStride
    if off < 0 ∨ cl ≤ off ∨ txId e.2 j < 0 ∨ 65536 ≤ txId e.2 j then none
    else some { slotId := (txId e.2 j).toNat, offset := off.toNat, close := cl.toNat, periodLog2 := e.2.periodLog2
                phase := e.2.phase, delivery := e.1.delivery : RxWin })).map fun ws => (ws, skipped)

/-- The exclusive TC7 windows of car `i`, role `r`; `none` where one begins before the pan start (R91). -/
def mkGates (tp : Templates) (i r : Nat) : Option (List CssGate) :=
  ((tp.sluice.filter fun t => (t.carSel == 0 || t.carSel == i) && t.role == r).mapM fun (t : SluiceTemplate) =>
    let st : Int := t.startBase + (i : Int) * t.startStride
    if st < 0 then none else some (t.ports.map fun p => ({ port := p, start := st.toNat, width := t.width } : CssGate))).map
      List.flatten

/-- The cold-start marks that instantiation keeps: the first 8 nodes in car order that a mark names. -/
def coldNodes (tp : Templates) (nodes : List NodeRec) : List (Nat × Nat) :=
  ((List.range 64).flatMap fun c =>
    (nodes.filter fun n => n.car == c && tp.cold.any fun m => (m.car == 0 || m.car == c) && m.role == n.role).map
      fun n => (n.car, n.role)).eraseDups.take 8

/-- Instantiation of the templates for car `i`, role `r` (R91); `none` is SCHED_NO_FIT. `pan` is pan_len in 10 ns units,
`mbps` the lowest speed configured on the node's BB ports. -/
def instantiate (tp : Templates) (nodes : List NodeRec) (cars i r pan mbps : Nat) : Option Instance :=
  match mkSlots tp i r, mkWindows tp nodes cars i r, mkGates tp i r with
  | some sl, some (ws, sk), some gs =>
    if sl.all (fun x => decide (x.offset < pan) && decide (x.phase < 2 ^ x.periodLog2) && x.slotId != 0xFFFF)
      && ws.all (fun w => decide (w.close < pan))
      && noPair (fun a b => a.slotId == b.slotId) sl
      && noPair (slotsOverlap mbps) sl
      && gs.all (fun g => decide (g.start + g.width ≤ pan))
      && noPair (fun a b => a.port == b.port && decide (a.start < b.start + b.width)
          && decide (b.start < a.start + a.width)) gs
      && decide (sl.length ≤ 1024) && decide (ws.length ≤ 4096) then
      some { slots := sl, windows := ws, gates := gs, skipped := sk
             capable := (coldNodes tp nodes).contains (i, r) }
    else none
  | _, _, _ => none

/-- The lowest speed configured on the node's BB ports, enabled or not (R91). -/
def minBbMbps (s : State) : Nat := [1, 2, 3].foldl (fun m p => min m (speedMbps s p)) (speedMbps s 0)

/-- The effective guard (R74, R363): the configured one with the allowance added; a change sets guard_changed. -/
def guardUpdate (s : State) : State :=
  let g := s.css.guardCfg + s.css.guardAllow
  setAlarmIf { s with css := { s.css with guardEff := g } } (g != s.css.guardEff) .css 10

/-- The image is instantiated for the present car numbering; a misfit leaves the node as `none` says. -/
def instantiateImage (s : State) (im : SchedImage) : Option State :=
  let cars := (s.ine.nodes.map NodeRec.car).foldl max 0
  if im.maxCars < cars then none
  else
    (instantiate im.templates s.ine.nodes cars s.ine.car s.ine.ident.role (im.panLen * 100) (minBbMbps s)).map fun x =>
      guardUpdate { unpoisonWhere s 5 (fun _ => true) with css := { s.css with
          image := some im, fits := true, slots := x.slots, windows := x.windows, gates := x.gates
          skipped := x.skipped, capable := x.capable, guardCfg := im.guard } }

end Sys2Proof.Machine
end

