-- ==== Sys2Proof/Machine/FabOps.lean ====
section
/-! DEFINITION. The fabric: Brine accounts, classes, sluices, lookup, queues and the discard of frames
(R115 to R145). -/

namespace Sys2Proof.Machine

/-! ## Sizes and accounts -/

/-- The largest frame a port accepts or sends (Table 7-6). -/
def maxFrame (s : State) (p : Nat) : Nat :=
  match portKind p with
  | .bb | .cp | .wl | .tw => (tget {} s.ports.cfg p).maxFrame.getD (if p = 94 then 1522 else 9216)
  | .sg => 1522
  | .can =>
    let c := tget {} s.ports.can (p - 80)
    16 + (if c.mode = 0 then 8 else if c.mode = 1 then 64 else c.xlMax)
  | _ => 9216

/-- The cells of a frame (R121). -/
def cellsOf (len : Nat) : Nat := (len + 191) / 192

/-- The default ingress guarantee of a port (Table 5-4). -/
def guardDefault (p : Nat) : Nat :=
  match portKind p with
  | .bb => 192 | .cp | .wl | .tw => 96 | .sg => 16 | .can | .mvb | .wtb => 8 | .reserved => 0 | _ => 128

/-- The ingress guarantee of a port. -/
def guardOf (c : BrineCfg) (p : Nat) : Nat := (tget none c.guards p).getD (guardDefault p)

/-- The size of the shared remainder: what the other accounts leave of 65,536 cells (R121). -/
def sharedTotal (c : BrineCfg) : Nat :=
  65536 - ((List.range 101).map (guardOf c)).sum - c.tc7 - c.tc6 - c.pool

/-- The free cells of the shared remainder. -/
def sharedFree (s : State) : Nat := sharedTotal s.fab.brine - s.fab.sharedUsed

/-- The cells of the admission pool that the device channels of the BB and TW0 egresses reserve (R121): by R157 with a D_hop
of up to one interval, the admission channel of 1 frame of 256 B (R159) and the inauguration channel of 8 frames of 1522 B
(R198). DESIGN CHOICE, log: no rule gives the channels' cells. -/
abbrev channelCells : Nat := 5 * (2 * cellsOf 256 + 16 * cellsOf 1522)

/-- The cells reserved in the admission pool by the channels, installed streams and holds. -/
def poolUsed (s : State) : Nat :=
  channelCells + (s.fab.streams.filterMap fun e => e.2.map Stream.cells).sum + (s.adm.holds.map Hold.cells).sum

/-- α of a class as 2^k (R123): the exponent k. -/
def alphaExp (c : ClassCfg) (cls : Nat) : Int :=
  (tget none c.alpha cls).getD (if 6 ≤ cls then 3 else if 4 ≤ cls then 1 else 0)

/-- The class settings in force at a port: those before the change until its next frame boundary (R126). -/
def clsAt (s : State) (p : Nat) : ClassCfg := (tget none s.fab.oldCls p).getD s.fab.cls

/-- A frame held in Brine. -/
def heldOf (s : State) (k : Nat) : Option Held := tget none s.fab.held k

/-- The queue set of the Far Window engine at port 97, beside the MGP's own (R7). -/
abbrev farSet : Nat := 101

/-- The queue set a frame goes to at port 97: far access responses to the Far Window engine's, others to the MGP's (R7);
at every other port its one set. -/
def queueSet (p : Nat) (f : Frame) : Nat :=
  if p = 97 ∧ f.etype = 0x88B6 ∧ f.subtype = 0x51 then farSet else p

/-- An egress queue. -/
def queueOf (s : State) (p cls : Nat) : List Nat := tget [] s.fab.queues (p * 8 + cls)

/-- The frames that wait at host port 96 in a class. -/
def waitingHost (s : State) (cls : Nat) : List Nat :=
  s.host.tenants.flatMap fun e => (e.2.waiting.filter fun i => i.cls == cls).filterMap RxItem.held

/-- The shared cells of an egress queue. -/
def queueShared (s : State) (p cls : Nat) : Nat :=
  ((if p = 96 then waitingHost s cls else queueOf s p cls).filterMap fun k => (heldOf s k).map Held.sharedCells).sum

/-- The dynamic threshold test (R123): shared cells below α × the free shared cells. -/
def thresholdOk (s : State) (p cls : Nat) : Bool :=
  let k := alphaExp (clsAt s p) cls
  if 0 ≤ k then decide (queueShared s p cls < 2 ^ k.toNat * sharedFree s)
  else decide (queueShared s p cls * 2 ^ (-k).toNat < sharedFree s)

/-- The lowest shared free count, and pool_low where the count falls below the low mark (Table 5-12). -/
def noteShared (s : State) (before : Nat) : State :=
  let f := sharedFree s
  let s := { s with fab := { s.fab with sharedMin := min s.fab.sharedMin f } }
  setAlarmIf s (decide (f < s.fab.brine.lowMark) && decide (s.fab.brine.lowMark ≤ before)) .fab 0

/-- The settings of a VLAN. VLAN 1, the PVID of every port, holds every port untagged until it is configured (DESIGN CHOICE,
log). No command sets the VLAN-to-tenant map: every entry stays at its default 0 (R116; log). -/
def vlanOf (s : State) (vid : Nat) : Vlan :=
  match tget none s.fab.vlans vid with
  | some v => v
  | none => if vid = 1 then { members := BitVec.allOnes 128, untagged := BitVec.allOnes 128 } else {}

/-- Cells returned to the accounts that supplied them (R122). -/
def returnCells (s : State) (h : Held) : State :=
  let f := s.fab
  let streams := match h.stream with
    | some i => tmod none f.streams i fun o => o.map fun x => { x with usedCells := x.usedCells - h.streamCells }
    | none => f.streams
  { s with fab := { f with
      streams := streams
      tc7Used := if h.cls = 7 then f.tc7Used - h.clsCells else f.tc7Used
      tc6Used := if h.cls = 6 then f.tc6Used - h.clsCells else f.tc6Used
      portUsed := tmod 0 f.portUsed h.ingress (· - h.portCells)
      sharedUsed := f.sharedUsed - h.sharedCells } }

/-- One egress queue no longer refers to frame `k`; the last one returns its cells (R122). -/
def releaseFrame (s : State) (k : Nat) : State :=
  match heldOf s k with
  | none => s
  | some h =>
    if h.refs ≤ 1 then returnCells { s with fab := { s.fab with held := tset none s.fab.held k none } } h
    else { s with fab := { s.fab with held := tset none s.fab.held k (some { h with refs := h.refs - 1 }) } }

/-! ## Sluices (R129 to R134) -/

/-- A sluice bank of a port. -/
def bankOf (x : Sluice) (b : Nat) : Option SluiceBank := if b = 0 then x.bank0 else x.bank1

/-- The start of a bank's cycles at TRT instant `t`: its activation, or the CSS origin for a bank with css entries (R130). -/
def cyclesFrom (s : State) (b : Option SluiceBank) (start t : Nat) : Nat :=
  if (b.any fun k => k.entries.any SluiceEntry.css) ∧ s.css.origin ≤ t then max start s.css.origin else start

/-- The TRT instant, linear ns, of an armed action; a WYT instant by the present difference of the scales. -/
def fireTrt (s : State) (r : TauRec) : Nat :=
  let f := r.fire / 2 ^ 16
  if r.wyt then trtNs s + f - wytNs s else f

/-- The armed SLUICE_BANK actions of a port (R132). -/
def bankActions (s : State) (p : Nat) : List TauRec :=
  (s.tau.units.map Prod.snd).filter fun r =>
    r.target == 7 && tauLive r && (r.arg.toNat % 256 == p || r.arg.toNat % 256 == 255)

/-- Such an action switches by the instant `t`: one that waits for its commit counts where it lies ahead. -/
def actsBy (s : State) (t : Nat) (r : TauRec) : Bool :=
  decide (fireTrt s r ≤ t) && (r.mode != .gated || r.state == .committed || decide (trtNs s < fireTrt s r))

/-- The bank in force at TRT instant `t`, by number, and the start of its cycles: a SLUICE_BANK action that is to fire by then
has switched it, the latest of several (R132). -/
def bankAt (s : State) (p t : Nat) : Nat × Nat :=
  let x := tget {} s.fab.sluices p
  let sw := ((bankActions s p).filter (actsBy s t)).foldl (fun o r => match o with
    | some q => if fireTrt s q ≤ fireTrt s r then some r else o
    | none => some r) (none : Option TauRec)
  match sw with
  | some r =>
    let b := b2n (bitAt r.arg 8)
    (b, cyclesFrom s (bankOf x b) (fireTrt s r) t)
  | none => (x.active, cyclesFrom s (bankOf x x.active) x.start t)

/-- The contents of the bank that `bankAt` names. -/
def bankIn (s : State) (p t : Nat) : Option SluiceBank := bankOf (tget {} s.fab.sluices p) (bankAt s p t).1

/-- The gates of an entry as the CSS state lets them act: a css entry of a STOPPED node opens TC0 to TC6 (R86). -/
def entryGates (cssOn : Bool) (e : SluiceEntry) : BitVec 8 :=
  if e.css then (if cssOn then 0x80 else 0x7F) else e.gates

/-- CSS is not STOPPED: css entries are exclusive windows (R86, R130). -/
def cssRuns (s : State) : Bool := s.css.state != .stopped

/-- Gate states in which a poisoned entry holds those of the entry before it (Table 1-5), the first those of the last. -/
def holdGates (bad : Nat → Bool) (l : List (BitVec 8)) : List (BitVec 8) :=
  let pass := fun (prev : BitVec 8) =>
    (((List.range l.length).zip l).foldl (fun (acc : List (BitVec 8) × BitVec 8) e =>
      let g := if bad e.1 then acc.2 else e.2
      (acc.1 ++ [g], g)) ([], prev))
  (pass (pass (l.getLast?.getD 0x7F)).2).1

/-- The steps of one cycle in ns: cut at the cycle time, the last held until it ends (R129). -/
def cutSteps (cycle : Nat) : List (BitVec 8 × Nat) → Nat → List (BitVec 8 × Nat)
  | [], _ => []
  | [g], o => if o < cycle then [(g.1, cycle - o)] else []
  | g :: r, o =>
    if o + g.2 < cycle then g :: cutSteps cycle r (o + g.2) else if o < cycle then [(g.1, cycle - o)] else []

/-- The steps of one cycle of bank `i` of a port with contents `k`: gate states and ns (R129, Table 1-5). -/
def bankSteps (s : State) (cssOn : Bool) (p i : Nat) (k : SluiceBank) : List (BitVec 8 × Nat) :=
  let gs := holdGates (fun e => entryPoisoned s 6 (p * 512 + i * 256 + e)) (k.entries.map (entryGates cssOn))
  cutSteps (k.cycleTime * 10) (gs.zip (k.entries.map fun e => e.interval * 10)) 0

/-- The step at offset `o` ns of a cycle and the ns until it ends. -/
def stepAt : List (BitVec 8 × Nat) → Nat → BitVec 8 × Nat
  | [], _ => (0x7F, 1)
  | g :: r, o => if o < g.2 then (g.1, g.2 - o) else stepAt r (o - g.2)

/-- The exclusive CSS windows of a port as the image gives them, while a pan runs on the node: whether TRT instant `t` lies
in one, and the ns until that changes (R78, R91). -/
def cssWindowAt (s : State) (p t : Nat) : Bool × Nat :=
  let pan := panNs s
  let gs := s.css.gates.filter fun g => g.port == p
  if !(integrated s || (s.css.state == .integrating && s.css.lastCs.isSome)) || pan == 0 || t < s.css.origin then (false, pan + 1)
  else
    let o := (t - s.css.origin) % pan
    match gs.find? fun g => decide (g.start * 10 ≤ o ∧ o < (g.start + g.width) * 10) with
    | some g => (true, (g.start + g.width) * 10 - o)
    | none =>
      (false, (gs.filterMap fun g => if o < g.start * 10 then some (g.start * 10 - o) else none).foldl min (pan - o))

/-- The ns from `t` until a port's next armed bank switch (R132). -/
def switchIn (s : State) (p t : Nat) : Nat :=
  ((bankActions s p).filterMap fun r => if t < fireTrt s r then some (fireTrt s r - t) else none).foldl min 1000000000

/-- The gates of a port at TRT instant `t` and the ns until they may change (R130). Without time service every gate of
TC0 to TC6 is open (R14). -/
def gatesAt (s : State) (p t : Nat) : BitVec 8 × Nat :=
  if !s.tms.tsValid then (0x7F, 1000000000)
  else
    let w := cssWindowAt s p t
    let n := min w.2 (switchIn s p t)
    if w.1 then (0x80, n)
    else
      let b := bankAt s p t
      match bankIn s p t with
      | none => (0x7F, n)
      | some k =>
        if k.cycleTime = 0 then (0x7F, n)
        else
          let g := stepAt (bankSteps s (cssRuns s) p b.1 k) ((t - b.2) % (k.cycleTime * 10))
          (g.1, min g.2 n)

/-- A class stays open at a port from `t` for `need` ns more (at most `fuel` changes, each at least 1 ns ahead). -/
def openFor (s : State) (p cls : Nat) : Nat → Nat → Nat → Bool
  | 0, _, need => need == 0
  | fuel + 1, t, need =>
    let g := gatesAt s p t
    bitAt g.1 cls && (decide (need ≤ g.2) || openFor s p cls fuel (t + g.2) (need - g.2))

/-- The bit rate at which a port sends, in kb/s: CAN its nominal rate, MVB 1.5 Mb/s and WTB 1.0 Mb/s (Tables 7-5 and 9-2,
R228). -/
def rateKbps (s : State) (p : Nat) : Nat :=
  match portKind p with
  | .can => (tget ({} : CanPort) s.ports.can (p - 80)).nominal / 1000
  | .mvb => 1500
  | .wtb => 1000
  | _ => speedMbps s p * 1000

/-- The wire time of a frame in ns: the frame with its FCS and the 12 B gap (R132). -/
def wireNs (s : State) (p len : Nat) : Nat :=
  let r := max 1 (rateKbps s p)
  ((len + 12) * 8000000 + r - 1) / r

/-- The fit test of R132: the frame and the gap end before the class gate next closes. -/
def fitsGate (s : State) (p cls len : Nat) : Bool :=
  openFor s p cls (wireNs s p len) (trtNs s) (wireNs s p len)

/-- The open and closed stretches of a class at a port over one cycle in ns, by a bank's steps or else by the exclusive CSS
windows of the image; empty where no list closes or opens it. -/
def classSteps (s : State) (cssOn : Bool) (p cls : Nat) (b : Option (Nat × SluiceBank)) : List (Bool × Nat) :=
  match b with
  | some (i, k) => (bankSteps s cssOn p i k).map fun e => (bitAt e.1 cls, e.2)
  | none =>
    let gs := (s.css.gates.filter fun g => cssOn && g.port == p).map fun g => (g.start * 10, g.width * 10)
    if gs.isEmpty then (if cls = 7 then [(false, 1)] else [])
    else
      let sorted := gs.mergeSort fun a b => decide (a.1 ≤ b.1)
      let r := sorted.foldl (fun (acc : List (Bool × Nat) × Nat) g =>
        (acc.1 ++ [(cls != 7, g.1 - acc.2), (cls == 7, g.2)], g.1 + g.2)) ([], 0)
      r.1 ++ [(cls != 7, panNs s - r.2)]

/-- Stretches of one kind in a row joined; those of 0 ns dropped. -/
def joinRuns : List (Bool × Nat) → List (Bool × Nat)
  | [] => []
  | (b, n) :: r =>
    if n = 0 then joinRuns r
    else
      match joinRuns r with
      | (c, m) :: t => if b = c then (b, n + m) :: t else (b, n) :: (c, m) :: t
      | [] => [(b, n)]

/-- The active bank of a port now, with its number. -/
def bankNow (s : State) (p : Nat) : Option (Nat × SluiceBank) :=
  (bankIn s p (trtNs s)).map fun k => ((bankAt s p (trtNs s)).1, k)

/-- The longest open interval of a class at a port in ns, taken across the cycle boundary; `none` = it never closes (R133). -/
def longestOpen (s : State) (p cls : Nat) : Option Nat :=
  if !s.tms.tsValid then (if cls = 7 then some 0 else none)
  else
    let steps := classSteps s (cssRuns s) p cls (bankNow s p)
    let win := if cls = 7 ∧ cssRuns s then ((s.css.gates.filter fun g => g.port == p).map fun g => g.width * 10).foldl max 0 else 0
    if steps.all Prod.fst then none
    else some (((joinRuns (steps ++ steps)).map fun e => if e.1 then e.2 else 0).foldl max win)

/-- A frame of a class can never be sent at a port (R133). -/
def neverFits (s : State) (p cls len : Nat) : Bool :=
  match longestOpen s p cls with
  | none => false
  | some n => decide (n < wireNs s p len)

/-! ## TC6 cycles (R158) -/

/-- The number of the sluice cycle at a port now. -/
def cycleNow (s : State) (p : Nat) : Nat :=
  match bankIn s p (trtNs s) with
  | some k => if k.cycleTime = 0 then 0 else (trtNs s - (bankAt s p (trtNs s)).2) / (k.cycleTime * 10)
  | none => if panNs s = 0 then 0 else (trtNs s - s.css.origin) / panNs s

/-- A new sluice cycle at a port begins its count of TC6 bytes, and tc6_over is that of the present cycle (R158). -/
def tc6Check (s : State) (p : Nat) : State :=
  let x := tget ({} : Sluice) s.fab.sluices p
  let c := cycleNow s p
  if c = x.cycle then s
  else { s with
    adm := { s.adm with tc6Over := sdel s.adm.tc6Over p }
    fab := { s.fab with sluices := tset {} s.fab.sluices p { x with cycle := c, tc6Bytes := 0 } } }

/-! ## Guarantee violations (R125, R137, R165) -/

/-- The entry that a copy of a frame of stream entry `i` at egress `p` is judged by: its own, or with frer that of the stream's
other line (R153). -/
def hopEntry (s : State) (i p : Nat) : Nat :=
  match tget none s.fab.streams i with
  | none => i
  | some x =>
    if x.egress = p then i
    else
      ((s.fab.streams.find? fun e => e.2.any fun y =>
        y.origin == x.origin && y.streamId == x.streamId && y.egress == p).map Prod.fst).getD i

/-- A guarantee violation of stream `i`: counted, gv set, a windrow, and a gv event at the origin or a notice to it.
`kind` 0 late, 1 dropped; `cause` 0 unexplained, 1 TC6 overload, 2 MEM_POISON; a discard before any egress (255) names the
stream's egress. -/
def violation (s : State) (i at_ kind reason residence : Nat) : State :=
  match tget none s.fab.streams i with
  | none => s
  | some x =>
    let port := if at_ = 255 then x.egress else at_
    let s := tc6Check s port
    let cause := if reason = 8 then 2 else if s.adm.tc6Over.contains port then 1 else 0
    let x' := { x with late := x.late + (1 - kind), dropped := x.dropped + kind }
    let s := setAlarm { s with fab := { s.fab with
        gvCount := s.fab.gvCount + 1, streams := tset none s.fab.streams i (some x') } } .fab 2
    let s := report s 0x5001 (leBytes 2 i ++ leBytes 1 kind ++ leBytes 1 reason ++ leBytes 1 cause ++ leBytes 1 port
      ++ leBytes 4 residence)
    if x.origin = s.otp.unitId then
      event s x.owner 3 (leBytes 2 x.streamId ++ leBytes 1 x.hop ++ leBytes 1 port ++ leBytes 1 kind ++ leBytes 1 reason
        ++ leBytes 4 residence ++ leBytes 4 x.bound ++ leBytes 1 cause)
    else mgpSends s x.port (.notice
      { name := { origin := x.origin, streamId := x.streamId, txn := x.txn }, hop := x.hop, port := port, kind := kind
        reason := reason, cause := cause, residence := residence, bound := x.bound })

/-- Stream table entry `i` written. -/
def putStream (s : State) (i : Nat) (x : Stream) : State :=
  { s with fab := { s.fab with streams := tset none s.fab.streams i (some x) } }

/-- The guarantee covers a conforming frame of stream `stream`: one that is ACTIVE, which a SUSPENDED one is not (R152, R161). -/
def covered (s : State) (stream : Option Nat) (conforming : Bool) : Bool :=
  conforming && (stream.any fun i => (tget none s.fab.streams i).any fun x => x.active && !x.suspended)

/-- The guarantee covers a held frame. -/
def admitted (s : State) (h : Held) : Bool := covered s h.stream h.conforming

/-- A frame that the guarantee covers is discarded: a guarantee violation (R125, R152). -/
def lose (s : State) (stream : Option Nat) (conforming : Bool) (egress reason : Nat) : State :=
  match stream with
  | none => s
  | some i => if covered s stream conforming then violation s (hopEntry s i egress) egress 1 reason 0 else s

/-- A copy of a held frame is discarded at `port`: counted, and a violation where its meter judged it conforming
(R125, R146). -/
def discardHeld (s : State) (h : Held) (port egress reason : Nat) : State :=
  let viol := admitted s h
  let s := discard s { port := port, reason := reason, ingress := h.ingress, egress := egress, tenant := h.tenant
                       cls := h.cls, stream := h.stream, violation := viol, len := h.frame.len }
  lose s h.stream h.conforming egress reason

/-- Frame `k` of a queue is discarded from it; MEM_POISON and FILTER_DENY are counted at the ingress port (Table 5-9). -/
def dropQueued (s : State) (p cls k reason : Nat) : State :=
  match heldOf s k with
  | none => s
  | some h =>
    let s := { s with fab := { s.fab with
        queues := tmod [] s.fab.queues (p * 8 + cls) fun q => q.filter (· != k) } }
    let e := if p = farSet then 97 else p
    releaseFrame (discardHeld s h (if reason = 8 ∨ reason = 4 then h.ingress else e) e reason) k

/-- What waits in the transmit buffers of a CAN port is discarded (R128, R182). -/
def drainCan (s : State) (p reason : Nat) : State :=
  if portKind p = .can then
    let c := tget ({} : CanPort) s.ports.can (p - 80)
    c.buffers.foldl (fun s k => match heldOf s k with
      | some h => releaseFrame (discardHeld s h p p reason) k
      | none => s) { s with ports := { s.ports with can := tset {} s.ports.can (p - 80) { c with buffers := [] } } }
  else s

/-- Every frame queued at a port is discarded (R128). -/
def drainPort (s : State) (p reason : Nat) : State :=
  drainCan ((List.range 8).foldl (fun s c => (queueOf s p c).foldl (fun s k => dropQueued s p c k reason) s) s) p reason

/-! ## Lookup (R141, R145) -/

/-- The bucket of an address under a salt. -/
def bucketOf (salt : Nat) (mac : Mac) (fid : Nat) : Nat := Config.fdbHash (Config.trng salt) mac.toNat fid % 8192

/-- The salt under which an entry lies: the new one for those a re-salt has placed. -/
def saltOf (f : Fdb) (e : FdbEntry) : Nat := if e.newGen then f.newSalt else f.salt

/-- The place of memory 0x02 that holds an entry: the way of its bucket, or 32,768 plus its place in the CAM. -/
def fdbKey (f : Fdb) (e : FdbEntry) : Nat :=
  if e.inCam then 32768 + e.slot else bucketOf (saltOf f e) e.mac e.fid * 4 + e.slot

/-- The stored entry of an address. -/
def fdbFind (s : State) (mac : Mac) (fid : Nat) : Option FdbEntry :=
  s.fab.fdb.entries.find? fun e => e.mac == mac && e.fid == fid

/-- A lookup of an address under both salts and in the CAM (R145); a poisoned entry is a miss (Table 1-5). -/
def fdbHit (s : State) (mac : Mac) (fid : Nat) : Option FdbEntry :=
  (fdbFind s mac fid).filter fun e => !entryPoisoned s 2 (fdbKey s.fab.fdb e)

/-- The entries in the ways of a bucket. -/
def bucketWays (f : Fdb) (b : Nat) : List FdbEntry :=
  f.entries.filter fun e => !e.inCam && bucketOf (saltOf f e) e.mac e.fid == b

/-- The ways taken of a bucket. -/
def bucketCount (f : Fdb) (b : Nat) : Nat := (bucketWays f b).length

/-- The first free way of a bucket. -/
def waySlot (f : Fdb) (b : Nat) : Nat :=
  ((List.range 4).find? fun i => !(bucketWays f b).any fun e => e.slot == i).getD 0

/-- The entries in the CAM. -/
def camCount (f : Fdb) : Nat := (f.entries.filter FdbEntry.inCam).length

/-- The first free place of the CAM. -/
def camSlot (f : Fdb) : Nat :=
  ((List.range 256).find? fun i => !f.entries.any fun e => e.inCam && e.slot == i).getD 0

/-- The salt that places new entries: the new one during a re-salt (R145). -/
def placingSalt (f : Fdb) : Nat := if f.resalt = .idle then f.salt else f.newSalt

/-- learn_fail + 1 (R141, R143). -/
def learnFail (s : State) : State :=
  let f := s.fab.fdb
  setAlarm { s with fab := { s.fab with fdb := { f with
      learnFail := f.learnFail + 1
      failTimes := s.mono :: f.failTimes.filter (fun t => decide (s.mono < t + 1000000000)) } } } .fab 4

/-- An entry written to its place, whole (R28). -/
def fdbWrite (s : State) (e : FdbEntry) : State :=
  let f := s.fab.fdb
  unpoisonEntry { s with fab := { s.fab with fdb := { f with entries := f.entries ++ [e] } } } 2 (fdbKey f e)

/-- A new entry is placed in its bucket, else in the CAM, else not stored. -/
def fdbPlace (s : State) (e : FdbEntry) : State :=
  let f := s.fab.fdb
  let ng := f.resalt != .idle
  let b := bucketOf (placingSalt f) e.mac e.fid
  if bucketCount f b < 4 then fdbWrite s { e with newGen := ng, inCam := false, slot := waySlot f b }
  else if camCount f < 256 then fdbWrite s { e with newGen := ng, inCam := true, slot := camSlot f }
  else learnFail s

/-- The learned entries of a port. -/
def learnedAt (f : Fdb) (port : Nat) : Nat := (f.entries.filter fun x => !x.isStatic && x.dest == .port port).length

/-- The FDB without the entry of an address. -/
def fdbDrop (s : State) (mac : Mac) (fid : Nat) : State :=
  { s with fab := { s.fab with fdb := { s.fab.fdb with
      entries := s.fab.fdb.entries.filter fun e => !(e.mac == mac && e.fid == fid) } } }

/-- Source learning (R143): a station move updates in place, a static entry stays, the port's limit holds for moves too; where
learning is off, traffic of a learned station on its port still counts against its ageing. A learned entry that reads poisoned
is relearned (Table 1-5). -/
def fdbLearn (s : State) (port : Nat) (mac : Mac) (fid tenant : Nat) : State :=
  let lost := (fdbFind s mac fid).any fun e => !e.isStatic && entryPoisoned s 2 (fdbKey s.fab.fdb e)
  let s := if lost then fdbDrop s mac fid else s
  let f := s.fab.fdb
  let put := fun (g : FdbEntry → FdbEntry) =>
    { s with fab := { s.fab with fdb := { f with
        entries := f.entries.map fun x => if x.mac == mac && x.fid == fid then g x else x } } }
  let full : Bool := decide ((tget none f.learnLimit port).getD 4096 ≤ learnedAt f port)
  if bitAt mac 40 then s
  else
    match fdbFind s mac fid with
    | some e =>
      if e.isStatic then s
      else if e.dest = .port port then put fun x => { x with tenant := tenant, seenAt := s.mono }
      else if f.noLearn.contains port then s
      else if full then learnFail s
      else put fun x => { x with dest := .port port, tenant := tenant, seenAt := s.mono }
    | none =>
      if f.noLearn.contains port then s
      else if full then learnFail s
      else fdbPlace s { mac := mac, fid := fid, dest := .port port, isStatic := false, tenant := tenant
                        seenAt := s.mono, newGen := false, inCam := false }

/-- The ports a destination names. -/
def destPorts (s : State) : FdbDest → List Nat
  | .port p => [p]
  | .mask i => (setOf (tget 0 s.fab.fdb.masks i)).filter (· ≤ 100)

/-- The ports that a frame of a VLAN floods to: its member Ethernet ports and the host (Table 0-4), up or down (R128). -/
def floodPorts (s : State) (vid ingress : Nat) : List Nat :=
  ((List.range 80) ++ [94, 95, 96]).filter fun p => p != ingress && bitAt (vlanOf s vid).members p && portMine s p

/-! ## Streams and meters (R136) -/

/-- The stream entry a frame hits: by source or destination MAC and VLAN, on a given port or any. -/
def streamHit (s : State) (port vid : Nat) (f : Frame) : Option (Nat × Stream) :=
  (s.fab.streams.filterMap fun e => e.2.map fun x => (e.1, x)).find? fun e =>
    (if e.2.bySource then e.2.mac == f.src else e.2.mac == f.dst) && e.2.vlan == vid && e.2.port.all (· == port)

/-- Tokens of a meter brought up to now, in bits × 10^9; with coupling what overflows the committed bucket fills the excess
one (R136). -/
def meterNow (x : Stream) (now : Nat) : Stream :=
  let full := x.cbs * 8 * 1000000000
  let c := x.ctok + x.cir * (now - x.at_)
  { x with
    ctok := min full c
    etok := min (x.ebs * 8 * 1000000000) (x.etok + x.eir * (now - x.at_) + (if x.coupled then c - full else 0)), at_ := now }

/-- The colour a meter gives a frame: 0 green, 1 yellow, 2 red (IEEE 802.1Qci, colour-blind). -/
def meterFrame (x : Stream) (len : Nat) : Nat × Stream :=
  let need := len * 8 * 1000000000
  if need ≤ x.ctok then (0, { x with ctok := x.ctok - need, green := x.green + 1 })
  else if need ≤ x.etok then (1, { x with etok := x.etok - need, yellow := x.yellow + 1 })
  else (2, { x with red := x.red + 1 })

/-! ## Classes and queues -/

/-- A frame of the inauguration or admission channel, a TC5 stream of every BB and TW0 port (R159, R198, Table 12-13). -/
def lineBound (port : Nat) (f : Frame) : Bool :=
  f.etype == 0x88B6 && (decide (port < 4) || port == 95)
    && (decide (0x38 ≤ f.subtype ∧ f.subtype ≤ 0x3D) || decide (0x40 ≤ f.subtype ∧ f.subtype ≤ 0x48))

/-- A frame that floods along its line: inauguration frames, PREPARE and INSTALL (R198, R307). -/
def floodsLine (port : Nat) (f : Frame) : Bool :=
  lineBound port f && (f.subtype == 0x38 || f.subtype == 0x3A || decide (0x40 < f.subtype))

/-- Such a frame may leave by a port: a coupler port lets inauguration frames only pass (R206). -/
def floodPort (s : State) (f : Frame) (p : Nat) : Bool :=
  if 0x40 < f.subtype then inaugPort s p
  else linkIsUp s p && (p == 95 || (tget ({} : HelloLink) s.ine.hello p).fabricUp)

/-- The class of a frame at stage 2 by Table 5-2, before the stream table; `none` is FILTER_DENY. -/
def etherClass (s : State) (port : Nat) (f : Frame) : Option (Option Nat) :=
  if f.etype = 0x88B5 then
    if port < 4 ∨ port = 100 ∨ (port = 94 ∧ f.subtype = 4 ∧ f.dst = 0x034256FFFF05) then some (some 7) else none
  else if lineBound port f then some (some 5)
  else if f.etype = 0x88B6 ∧ (f.subtype = 0x10 ∨ f.subtype = 0x11 ∨ f.subtype = 0x60) then some (some 6)
  else if f.etype = 0x88B6 ∧ (f.subtype = 0x30 ∨ f.subtype = 0x31 ∨ f.subtype = 0x32) then some (some s.fab.cls.remoteHcp)
  else some none

/-- The class a PCP gives (Table 5-2). -/
def pcpClass (pcp : Nat) : Nat := min 3 (pcp / 2)

/-- What Brine gives a frame: cells by account, class or stream account first, then the ingress guarantee, then the
shared remainder (R122). -/
structure Alloc where
  clsCells : Nat
  streamCells : Nat
  portCells : Nat
  sharedCells : Nat

/-- The cells a frame would draw from each account; `stream` is the reservation of a conforming frame, a downgraded one is best
effort (R135). -/
def allocOf (s : State) (cells port cls : Nat) (stream : Option Nat) : Alloc :=
  let c1 := if cls = 7 then min cells (s.fab.brine.tc7 - s.fab.tc7Used)
    else if cls = 6 then min cells (s.fab.brine.tc6 - s.fab.tc6Used) else 0
  let c2 := match stream with
    | some i => match tget none s.fab.streams i with
      | some x => min (cells - c1) (x.cells - x.usedCells)
      | none => 0
    | none => 0
  let c3 := min (cells - c1 - c2) (guardOf s.fab.brine port - tget 0 s.fab.portUsed port)
  { clsCells := c1, streamCells := c2, portCells := c3, sharedCells := cells - c1 - c2 - c3 }

/-- The cells of an allocation taken from their accounts. -/
def takeCells (s : State) (a : Alloc) (port cls : Nat) (stream : Option Nat) : State :=
  let f := s.fab
  let streams := match stream with
    | some i => tmod none f.streams i fun o => o.map fun x => { x with usedCells := x.usedCells + a.streamCells }
    | none => f.streams
  let before := sharedFree s
  noteShared { s with fab := { f with
      streams := streams
      tc7Used := if cls = 7 then f.tc7Used + a.clsCells else f.tc7Used
      tc6Used := if cls = 6 then f.tc6Used + a.clsCells else f.tc6Used
      portUsed := tmod 0 f.portUsed port (· + a.portCells)
      sharedUsed := f.sharedUsed + a.sharedCells } } before

end Sys2Proof.Machine
end

