-- ==== Sys2Proof/Machine/AdmOps.lean ====
section
/-! DEFINITION. The arithmetic of admission: per-hop bounds, rates and cells (R154 to R157, Table 6-2). -/

namespace Sys2Proof.Machine

/-- Declared burst b_s in bytes (R154). -/
def declaredBurst (n maxFrame : Nat) : Nat := n * (maxFrame + 20)

/-- Declared rate ρ_s in bit/s, rounded up (R154); the interval is in µs. -/
def declaredRate (n maxFrame interval : Nat) : Nat :=
  if interval = 0 then 0 else (declaredBurst n maxFrame * 8 * 1000000 + interval - 1) / interval

/-- b_k = b_s + ρ_s × the requested bound, rounded up to 1 B (Table 6-2); the bound is in ns. -/
def burstAt (n maxFrame interval bound : Nat) : Nat :=
  declaredBurst n maxFrame +
    (if interval = 0 then 0 else (declaredBurst n maxFrame * bound + interval * 1000 - 1) / (interval * 1000))

/-- The line rate of a port in bit/s. -/
def rateBps (s : State) (p : Nat) : Nat := speedMbps s p * 1000000

/-- Stretches of one cycle joined across its boundary: what ends it goes before what begins it where both are open or both
closed. -/
def wrapRuns (l : List (Bool × Nat)) : List (Bool × Nat) :=
  match joinRuns l with
  | (b, n) :: r =>
    match r.getLast? with
    | some (c, m) => if b = c then (b, n + m) :: r.dropLast else (b, n) :: r
    | none => [(b, n)]
  | [] => []

/-- Open intervals shorter than `need` count as closed (Table 6-2); that of a class which never closes has no end. -/
def closeShort (need : Nat) (l : List (Bool × Nat)) : List (Bool × Nat) :=
  if l.all Prod.fst then l else wrapRuns ((wrapRuns l).map fun e => (e.1 && decide (need ≤ e.2), e.2))

/-- The longest stretch of a kind. -/
def longestOf (kind : Bool) (l : List (Bool × Nat)) : Nat := (l.map fun e => if e.1 = kind then e.2 else 0).foldl max 0

/-- The PLCA cycle of a segment in ns (R176). -/
def plcaNs (s : State) (sg : Nat) : Nat :=
  let x := tget ({} : Segment) s.ports.segs sg
  (20 + x.nodeCount * x.toTimer + (x.nodeCount - 1) * (x.maxBc + 1) * (x.nodeFrame + 20) * 8) * 100

/-- The TC6 allowance of a port: burst in bytes and rate in bit/s (Table 6-2). -/
def tc6Burst (s : State) (p : Nat) : Nat := (tget none s.adm.tc6Burst p).getD 4096
/-- See `tc6Burst`. -/
def tc6Rate (s : State) (p : Nat) : Nat := (tget none s.adm.tc6Rate p).getD (rateBps s p / 50)

/-- The installed streams of an egress port. -/
def streamsAt (s : State) (p : Nat) : List Stream :=
  (s.fab.streams.filterMap Prod.snd).filter fun x => x.egress == p

/-- The figures of a class at an egress port. -/
structure ClassFigures where
  /-- open ns and cycle ns; 1 of 1 without a list -/
  openNs : Nat
  cycleNs : Nat
  /-- G_c in ns -/
  gap : Nat
  /-- the longest open interval in ns; none = always open -/
  longest : Option Nat

/-- f_c, G_c and the longest open interval of a class at a port for a frame of `len` (Table 6-2), with css entries as the
exclusive windows they are while CSS runs. -/
def classFigures (s : State) (p cls len : Nat) (b : Option (Nat × SluiceBank)) : ClassFigures :=
  let raw := classSteps s true p cls b
  let need := ((len + 20) * 8000 + speedMbps s p - 1) / speedMbps s p
  let runs := closeShort need raw
  let sg := if portKind p = .sg then plcaNs s (p - 16) else 0
  if raw.isEmpty then { openNs := 1, cycleNs := 1, gap := sg, longest := none }
  else
    { openNs := (runs.map fun e => if e.1 then e.2 else 0).sum, cycleNs := (raw.map Prod.snd).sum
      gap := longestOf false runs + sg
      longest := if raw.all Prod.fst then none else some (longestOf true (wrapRuns raw)) }

/-- The bank that is active at a port now, with its number. -/
def activeBank (s : State) (p : Nat) : Option (Nat × SluiceBank) := bankNow s p

/-- The ports that carry the admission and inauguration channels: BB and TW0 egresses (R159, R198). -/
def channelPort (p : Nat) : Bool := decide (p < 4) || p == 95

/-- The bursts b_s of the two channels in bytes: one frame of 256 B, and 8 of 1522 B; both are TC5 (R159, R198). -/
def channelBurst (p : Nat) : Nat := if channelPort p then 276 + 8 * 1542 else 0

/-- The rate of the two channels at a BB or TW0 egress: admission, one TC5 frame of 256 B per 250 µs (R159), and
inauguration, 8 frames of 1522 B per 1 ms (R198). -/
def channelRate (p : Nat) : Nat := if channelPort p then 8832000 + 98688000 else 0

/-- The sum of b_k of class at least `cls` at an egress: the channels, installed streams and holds (Table 6-2). -/
def burstSum (s : State) (p cls : Nat) : Nat :=
  channelBurst p + (((streamsAt s p).filter fun x => decide (cls ≤ x.cls)).map Stream.bk).sum +
    ((s.adm.holds.filter fun h => h.port == p && decide (cls ≤ (if h.prep.cls5 then 5 else 4))).map Hold.burst).sum

/-- The sum of ρ_s of TC5 at an egress. -/
def rate5Sum (s : State) (p : Nat) : Nat :=
  channelRate p + (((streamsAt s p).filter fun x => x.cls == 5).map Stream.rate).sum +
    ((s.adm.holds.filter fun h => h.port == p && h.prep.cls5).map Hold.rate).sum

/-- The sum of ρ_s of installed streams, holds and the admission channel at an egress (R156). -/
def rateSum (s : State) (p : Nat) : Nat :=
  ((streamsAt s p).map Stream.rate).sum + ((s.adm.holds.filter fun h => h.port == p).map Hold.rate).sum + channelRate p

/-- The load of an egress for class `cls` now, `extra` being b_k of a request that is not yet among the streams and holds (Table
6-2). -/
def egressLoad (s : State) (p cls extra : Nat) : HopLoad :=
  { burst := tc6Burst s p + burstSum s p cls + extra, rho := tc6Rate s p + (if cls = 4 then rate5Sum s p else 0) }

/-- D_hop in ns, rounded up, under a load (R155). `rin` is the ingress rate in bit/s, 0 for host port 96. `none` where the class
has no rate left. -/
def boundUnder (s : State) (p cls len rin : Nat) (l : HopLoad) (b : Option (Nat × SluiceBank)) : Option Nat :=
  let f := classFigures s p cls len b
  let rout := rateBps s p
  let lnp := maxFrame s p + 20 + (if p < 4 ∨ p = 95 then 204 else 0)
  let bits := (lnp + l.burst) * 8
  if rout * f.openNs ≤ l.rho * f.cycleNs then none
  else
    let den := rout * f.openNs - l.rho * f.cycleNs
    let num := bits * 1000000000 * f.cycleNs
    let r := if rin = 0 then 1 else rin
    let t := if rin = 0 then 0 else len * 8 * 1000000000
    some (550 + f.gap + (num * r + t * den + den * r - 1) / (den * r))

/-- D_hop under the load of the present streams and holds. -/
def hopBound (s : State) (p cls len rin extra : Nat) (b : Option (Nat × SluiceBank)) : Option Nat :=
  boundUnder s p cls len rin (egressLoad s p cls extra) b

/-- The cells a stream reserves at a hop (R157). -/
def hopCells (n dHop interval len : Nat) : Nat :=
  (n + (if interval = 0 then 0 else (n * dHop + interval * 1000 - 1) / (interval * 1000))) * cellsOf len

/-- The delay of the link at a port in ns: BB and TW0 the measured one rounded up to 10 ns, others cable_delay. -/
def linkDelayNs (s : State) (p : Nat) : Nat :=
  match linkOf p with
  | some l => ((linkDelayPs s l).toNat + 9999) / 10000 * 10
  | none => (tget none s.adm.cable p).getD 500

/-- A port honours received PAUSE (Table 7-1): CP on and WL0 off by default. -/
def pausesOn (s : State) (p : Nat) : Bool :=
  match portKind p with
  | .cp => (tget {} s.ports.cfg p).pauseRx.getD true
  | .wl => (tget {} s.ports.cfg p).pauseRx.getD false
  | _ => false

/-- No installed stream of a port would have its D_hop, under the load it was installed with, raised by a bank, or by the state
given (R156, R162). -/
def streamsHold (s : State) (p : Nat) (b : Option (Nat × SluiceBank)) : Bool :=
  (streamsAt s p).all fun x =>
    match boundUnder s p x.cls x.maxSdu (match x.port with | some q => if q = 96 then 0 else rateBps s q | none => 0) x.load b with
    | some d => decide (d ≤ x.bound)
    | none => false

end Sys2Proof.Machine
end

