-- ==== Sys2Proof/Machine/Fabric.lean ====
section
/-! DEFINITION. The commands of the Forwarding Fabric: frames, egress, sluices, re-salting, FRER, PRP, the FDB and
bittern (spec/05_forwarding_fabric.md). -/

namespace Sys2Proof.Machine

/-! ## Ingress -/

/-- The VID of a frame at a port: its tag, or the port's PVID (R138). -/
def frameVid (s : State) (port : Nat) (f : Frame) : Nat :=
  match f.vlan with
  | some v => if v.vid = 0 then (tget ({} : TagPort) s.fab.tags port).pvid else v.vid
  | none => (tget ({} : TagPort) s.fab.tags port).pvid

/-- The tenant of the remote HCP session a frame belongs to: byte 2 of the frame names it, and its source is the tenant's
(R116, R306). -/
def remoteTenant (s : State) (vid : Nat) (f : Frame) : Option Nat :=
  let t := (f.payload.getD 2 0).toNat
  let x := tenant s t
  if f.etype = 0x88B6 ∧ 0x30 ≤ f.subtype ∧ f.subtype ≤ 0x32 ∧ x.attach = .remote ∧ x.mac = f.src ∧ x.vlan = vid then some t
  else none

/-- The owner of the far target whose module sent a far access response (R241). -/
def farTenant (s : State) (port : Nat) (f : Frame) : Option Nat :=
  if f.etype = 0x88B6 ∧ f.subtype = 0x51 then
    (s.far.targets.findSome? fun e => e.2.cfg.bind fun c => if c.port = port ∧ c.mac = f.src then some c.owner else none)
  else none

/-- A MAC control frame (EtherType 0x8808) on an external Ethernet port. -/
def macControl (p : Nat) (f : Frame) : Bool := f.etype == 0x8808 && (p < 80 || p == 94 || p == 95)

/-- Frames that the receiving port consumes: link timing messages on BB and TW0, HELLO on BB (R115), and MAC control frames
(R184). -/
def consumedAtPort (p : Nat) (f : Frame) : Bool :=
  (f.etype == 0x88B5 && f.subtype == 0x20 && (p < 4 || p == 95)) || (f.etype == 0x88B6 && f.subtype == 0x40 && p < 4)
    || macControl p f

/-- A frame received without error, counted at its port (Table 7-7). -/
def countRx (s : State) (p : Nat) (f : Frame) : State :=
  countGot s p f.len (bitAt f.dst 40) (f.dst == BitVec.allOnes 48)

/-- A frame sent, counted at its port. -/
def countTx (s : State) (p : Nat) (f : Frame) : State :=
  countSent s p f.len (bitAt f.dst 40) (f.dst == BitVec.allOnes 48)

/-- A consumed frame is counted as received, and a MAC control frame that is no PAUSE (opcode 0x0001), as a priority flow
control frame is, also as an unsupported opcode (R184, Table 7-7). -/
def countConsumed (s : State) (p : Nat) (f : Frame) : State :=
  let s := countRx s p f
  if macControl p f ∧ beNum (bytesAt f.payload 0 2) ≠ 1 then countPort s p 15 1 else s

/-- The largest frame accepted at ingress: node_frame on a segment (R175), else the port's limit. -/
def ingressLimit (s : State) (p : Nat) : Nat :=
  if portKind p = .sg then (tget ({} : Segment) s.ports.segs (p - 16)).nodeFrame else maxFrame s p

/-- What stages 2 to 5 decide about a frame. -/
structure Routed where
  cls : Nat
  tenant : Nat
  stream : Option Nat
  conforming : Bool
  vid : Nat
  frame : Frame
  ports : List Nat

/-- What the stages say: the frame goes on, or a reason discards it, with the tenant and stream it is charged to, and whether the
stream's meter judged it conforming. -/
inductive Verdict where
  | pass (s : State) (r : Routed)
  | deny (s : State) (reason tenant cls : Nat) (stream : Option Nat) (green : Bool := false)

/-- PRP pair of a CP port: k for CPk and CP(k + 6) (R140). -/
def prpPair (p : Nat) : Nat := (p - 4) % 6

/-- A CP port of an enabled PRP pair. -/
def prpOn (s : State) (p : Nat) : Bool := portKind p == .cp && s.fab.prp.enabled.contains (prpPair p)

/-- PRP at ingress (R140): the node table, where a sender without RCT is entered too; wrong LAN; and whether the frame is a
duplicate within EntryForgetTime. -/
def prpIngress (s : State) (p : Nat) (f : Frame) : Bool × State :=
  let lanB := decide (10 ≤ p)
  let wrong := f.rct.any fun t => t.lanB != lanB
  let old := s.fab.prp.nodes.find? fun n => n.mac == f.src
  let n := old.getD { mac := f.src, seenA := 0, seenB := 0, wrongLan := 0, lastAt := 0 }
  let n' := { n with
    seenA := n.seenA + b2n (!lanB), seenB := n.seenB + b2n lanB, wrongLan := n.wrongLan + b2n wrong, lastAt := s.mono }
  let others := s.fab.prp.nodes.filter fun n => n.mac != f.src
  let dups := s.fab.prp.dups.filter fun d => decide (s.mono < d.at_ + 400000000)
  let dup := f.rct.any fun t => dups.any fun d => d.pair == prpPair p && d.mac == f.src && d.seq == t.seq
  let dups' := match f.rct with
    | some t => if dup then dups else ({ pair := prpPair p, mac := f.src, seq := t.seq, at_ := s.mono } : PrpDup) :: dups
    | none => dups
  let prp := { s.fab.prp with nodes := (n' :: others).take 1024, dups := dups' }
  (dup, setAlarmIf { s with fab := { s.fab with prp := prp } } wrong .fab 10)

/-- Vector recovery of IEEE 802.1CB with a history of 32 (R139): 0 passed, 1 duplicate, 2 rogue. A frame that passes starts the
reset timer again. -/
def recoverSeq (r : Recovery) (seq : BitVec 16) (now : Nat) : Nat × Recovery :=
  if r.takeAny then
    (0, { r with takeAny := false, seq := seq, history := 1, lastAt := now, passed := r.passed + 1 })
  else
    let d := (seq - r.seq).toNat
    if d < 32768 ∧ d ≠ 0 then
      if d < 32 then
        let shifted := r.history.toNat * 2 ^ d
        let lost := (List.range d).foldl (fun n i => n + b2n (!bitAt r.history (31 - i))) 0
        (0, { r with
          seq := seq, history := BitVec.ofNat 32 (shifted + 1), lastAt := now, passed := r.passed + 1
          lost := r.lost + lost, outOfOrder := r.outOfOrder + b2n (d != 1) })
      else (2, { r with rogue := r.rogue + 1, discarded := r.discarded + 1 })
    else
      let back := (r.seq - seq).toNat
      if 32 ≤ back then (2, { r with rogue := r.rogue + 1, discarded := r.discarded + 1 })
      else if bitAt r.history back then (1, { r with discarded := r.discarded + 1 })
      else (0, { r with
        history := setBit r.history back true, lastAt := now, passed := r.passed + 1, outOfOrder := r.outOfOrder + 1 })

/-- Recovery where a FRER stream leaves the backbone (R139); a frame without R-TAG passes and is counted (DESIGN CHOICE, log: R139
does not say what becomes of one). -/
def frerIngress (s : State) (fn : Nat) (f : Frame) : Nat × State :=
  let r := tget ({} : Recovery) s.fab.recovery fn
  match f.rtag with
  | none =>
    (0, { s with fab := { s.fab with recovery := tset {} s.fab.recovery fn { r with tagless := r.tagless + 1 } } })
  | some q =>
    let x := recoverSeq r q s.mono
    (x.1, { s with fab := { s.fab with recovery := tset {} s.fab.recovery fn x.2 } })

/-- The egress ports of a frame (stage 5): port 100 for a TC7 frame (a BB port hands the frames of R77 to CSS before), port 98
for a safety telegram of an assigned segment, the stream's port, with both lines for FRER, else the FDB, else the VLAN
(R77, R139, R141); inauguration frames go along their line (R198), and a twin sends on its own half only (R214). -/
def routePorts (s : State) (port : Nat) (f : Frame) (vid : Nat) (hit : Option Stream) : List Nat :=
  if f.etype = 0x88B5 then [100]
  else if f.etype = 0x88B6 ∧ f.subtype = 0x10 ∧ safetySegment s port then [98]
  else if floodsLine port f then (if port = 95 then [] else [otherPort port, 95]).filter (floodPort s f)
  else
    match hit with
    | some x =>
      if x.frer ∧ 4 ≤ port ∧ x.egress < 4 then [x.egress, (x.egress + 2) % 4].filter (portMine s) else [x.egress]
    | none =>
      let ps := match fdbHit s f.dst ((vlanOf s vid).fid.getD vid) with
        | some e => destPorts s e.dest
        | none => floodPorts s vid port
      ps.filter fun p => p != port && portMine s p

/-- An enabled PRP pair gets both copies of a frame from a non-PRP origin (R138, R140). -/
def prpPorts (s : State) (ingress : Nat) (ps : List Nat) : List Nat :=
  (ps.flatMap fun p =>
    if prpOn s p && !(prpOn s ingress && prpPair ingress == prpPair p) then [4 + prpPair p, 10 + prpPair p]
    else if prpOn s p && prpOn s ingress && prpPair ingress == prpPair p then []
    else [p]).eraseDups

/-- Stage 4 (R139, R140): PRP duplicate discard on an enabled CP pair, then FRER recovery where stream `hit` leaves the backbone
and sequence generation where it enters it. The reason of a discard, and the frame without its RCT and with or without its
R-TAG. -/
def eliminate (s : State) (port : Nat) (f : Frame) (hit : Option (Nat × Stream)) : Option Nat × State × Frame :=
  let d := if prpOn s port then prpIngress s port f else (false, s)
  let f := if prpOn s port ∧ f.rct.isSome then { f with rct := none, len := f.len - 6 } else f
  if d.1 then (some 5, d.2, f)
  else
    match hit with
    | none => (none, d.2, f)
    | some (i, x) =>
      if x.frer ∧ port < 4 ∧ 4 ≤ x.egress then
        let e := frerIngress d.2 x.fn f
        if e.1 = 1 then (some 5, e.2, f)
        else if e.1 = 2 then (some 12, e.2, f)
        else (none, e.2, { f with rtag := none, len := f.len - 6 * b2n f.rtag.isSome })
      else if x.frer ∧ 4 ≤ port ∧ x.egress < 4 then
        let g := tget 0 d.2.fab.frerGen i
        (none, { d.2 with fab := { d.2.fab with frerGen := tset 0 d.2.fab.frerGen i (g + 1) } }
        , { f with rtag := some g, len := f.len + 6 })
      else (none, d.2, f)

/-- Stages 2 to 5 (R115 to R145): class, stream, tenant, VLAN, meter, elimination and lookup. -/
def classify (s : State) (port : Nat) (f : Frame) (owner : Option Nat) : Verdict :=
  let vid := frameVid s port f
  let own := match owner with
    | some t => t
    | none => ((farTenant s port f).or (remoteTenant s vid f)).getD (vlanOf s vid).tenant
  if portKind port = .bb ∧ ¬ (tget ({} : HelloLink) s.ine.hello port).fabricUp
      ∧ ¬ (f.etype = 0x88B6 ∧ 0x40 ≤ f.subtype ∧ f.subtype ≤ 0x48) then .deny s 4 own 0 none
  else if f.gptpDomain.any (fun d => decide (1 < d)) then .deny s 4 own 0 none
  else
    match etherClass s port f with
    | none => .deny s 4 own 0 none
    | some (some 7) =>
      .pass s { cls := 7, tenant := own, stream := none, conforming := false, vid := vid, frame := f
                ports := routePorts s port f vid none }
    | some ec =>
      let tag := tget ({} : TagPort) s.fab.tags port
      if ¬ bitAt (vlanOf s vid).members port ∨ (f.vlan.isSome ∧ ¬ tag.acceptTagged)
          ∨ (f.vlan.isNone ∧ ¬ tag.acceptUntagged) then .deny s 11 own (ec.getD 0) none
      else
        let hit := if ec.isSome ∨ f.degraded then none else streamHit s port vid f
        match hit with
        | some (i, x0) =>
          let tn := owner.getD x0.owner
          if entryPoisoned s 3 i then .deny s 4 tn x0.cls (some i)
          else if x0.maxSdu < f.len then
            .deny (putStream s i { x0 with oversize := x0.oversize + 1 }) 4 tn x0.cls (some i)
          else
            let m := meterFrame (meterNow x0 s.mono) f.len
            let s := putStream s i m.2
            if m.1 = 2 ∨ (m.1 = 1 ∧ x0.yellowDiscard) then .deny s 2 tn x0.cls (some i)
            else
              let cls := if m.1 = 0 then x0.cls else 3
              match eliminate s port { f with degraded := m.1 != 0 } (some (i, x0)) with
              | (some c, s, _) => .deny s c tn cls (some i) (m.1 == 0)
              | (none, s, f) =>
                .pass s { cls := cls, tenant := tn, stream := some i, conforming := m.1 == 0, vid := vid, frame := f
                          ports := prpPorts s port (routePorts s port f vid (some x0)) }
        | none =>
          let cls := match ec with
            | some c => c
            | none => if f.degraded then 3 else pcpClass (match f.vlan with | some v => v.pcp | none => tag.pcp)
          let pol := if cls = 6 then policerFrame s port f.len else (true, tget {} s.fab.policers port)
          let s := if cls = 6 then
              { s with fab := { s.fab with policers := tset {} s.fab.policers port pol.2 } } else s
          if !pol.1 then .deny s 2 own cls none
          else
            match eliminate s port f none with
            | (some c, s, _) => .deny s c own cls none
            | (none, s, f) =>
              .pass s { cls := cls, tenant := own, stream := none, conforming := false, vid := vid, frame := f
                        ports := prpPorts s port (routePorts s port f vid none) }

/-- The queue of tenant `t` for a network frame of a class: the class's, else queue 0; none = discarded (R293). -/
def rxQueueFor (s : State) (t cls : Nat) : Option Nat :=
  let x := tenant s t
  if (tget ({} : HostQueue) x.rxq cls).enabled then some cls
  else if (tget ({} : HostQueue) x.rxq 0).enabled then some 0 else none

/-- The frame as it leaves a port: the VLAN tag by the VLAN's port sets, the R-TAG only on BB, the RCT of a PRP pair (R138,
R140). BB-to-BB forwarding and TC7 frames keep their tags, a drive command has none (R248); a slot frame of this node gets its tx_ns as it departs (R56). -/
def egressFrame (s : State) (p : Nat) (h : Held) : Frame :=
  let f := h.frame
  if f.etype = 0x88B5 then
    if h.ingress = 100 ∧ 3 ≤ f.subtype ∧ f.subtype ≤ 5 then
      { f with payload := f.payload.take 16 ++ beBytes 4 (stamp32 (txTrt s p)).toNat ++ f.payload.drop 20 } else f
  else if (h.ingress < 4 ∧ p < 4) ∨ h.ingress = 98 then f
  else
    let vid := frameVid s h.ingress f
    let f1 := if bitAt (vlanOf s vid).untagged p then { f with vlan := none, len := f.len - 4 * b2n f.vlan.isSome }
      else if f.vlan.isSome ∨ ¬ bitAt (vlanOf s vid).members p then f
      else { f with vlan := some { vid := vid, pcp := (tget ({} : TagPort) s.fab.tags h.ingress).pcp }, len := f.len + 4 }
    let f2 := if p < 4 then f1 else { f1 with rtag := none, len := f1.len - 6 * b2n f1.rtag.isSome }
    match h.rcts.find? fun e => prpOn s p && e.1 == prpPair p with
    | some e => { f2 with rct := some { seq := e.2, lanB := decide (10 ≤ p) }, len := f2.len + 6 }
    | none => f2

/-- What a waiting frame's descriptor writeback will say (R293). -/
def rxItem (s : State) (q port cls : Nat) (f : Frame) (k : Nat) : RxItem :=
  { queue := q, held := some k, ingress := port, cls := cls, css := false, index := 0, trt := stamp32 (rxTrt s port)
    wyt := wytStamp32 s port (rxWyt s port), pan := 0, epoch := s.tms.trtEpoch, data := f.payload, len := f.len }

/-- Stage 7 for one copy of a frame that would leave with `len` bytes, tags included: a reason to discard it at the egress, if any
(R128, R133, R138). -/
def egressReason (s : State) (p : Nat) (r : Routed) (len : Nat) : Option Nat :=
  if p = 96 then (if (rxQueueFor s r.tenant r.cls).isNone then some 13 else none)
  else if 96 < p then none
  else if ¬ linkIsUp s p ∨ ¬ portMine s p
      ∨ (p < 4 ∧ ¬ (tget ({} : HelloLink) s.ine.hello p).fabricUp ∧ ¬ (floodsLine p r.frame ∧ floodPort s r.frame p)) then some 13
  else if neverFits s p r.cls len then some 3
  else none

/-- The PRP pairs among a frame's egress ports, each with its next RCT number (R140); none for a frame that carries one. -/
def prpNumbers (s : State) (f : Frame) (ps : List Nat) : List (Nat × BitVec 16) :=
  if f.rct.isSome then []
  else ((ps.filter (prpOn s)).map prpPair).eraseDups.map fun k => (k, tget 0 s.fab.prp.seq k)

/-- The numbers given are used. -/
def prpNext (s : State) (rs : List (Nat × BitVec 16)) : State :=
  { s with fab := { s.fab with prp := { s.fab.prp with
      seq := rs.foldl (fun t e => tset 0 t e.1 (e.2 + 1)) s.fab.prp.seq } } }

/-- The cells a routed frame would draw: a conforming frame on its stream's reservation first (R122, R135). -/
def routedAlloc (s : State) (port : Nat) (r : Routed) : Alloc :=
  allocOf s (cellsOf r.frame.len) port r.cls (if r.conforming then r.stream else none)

/-- A copy of a routed frame is discarded: counted at `at_`, and a violation where it was conforming (R125, R146). -/
def dropRouted (s : State) (port : Nat) (r : Routed) (reason at_ egress : Nat) : State :=
  lose (discard s { port := at_, reason := reason, ingress := port, egress := egress, tenant := r.tenant
                    cls := r.cls, stream := r.stream, violation := covered s r.stream r.conforming, len := r.frame.len })
    r.stream r.conforming egress reason

/-- Stages 6 and 7: Brine, then the egress queues (R122 to R128); the threshold test takes the counts of `s0`, the start of
the fabric cycle (R123). `lost` says that the frame lost the contest for the last shared cells (R124). -/
def brineAndQueueAt (s0 s : State) (port : Nat) (r : Routed) (lost : Bool) : State :=
  let a := routedAlloc s port r
  if lost ∨ sharedFree s < a.sharedCells then dropRouted s port r 1 port 255
  else
    let above := if a.sharedCells = 0 then [] else r.ports.filter fun p => !thresholdOk s0 (queueSet p r.frame) r.cls
    let ok := r.ports.filter fun p => !above.contains p
    let rcts := prpNumbers s r.frame r.ports
    let h : Held :=
      { frame := r.frame, ingress := port, tenant := r.tenant, cls := r.cls, stream := r.stream
        conforming := r.conforming, stamp := rxTrt s port, epoch := s.tms.trtEpoch, clsCells := a.clsCells
        streamCells := a.streamCells, portCells := a.portCells, sharedCells := a.sharedCells, refs := 1
        txRef := none, rcts := rcts }
    let why := fun p => egressReason s p r (egressFrame s p h).len
    let bad := ok.filterMap fun p => (why p).map fun x => (p, x)
    let good := ok.filter fun p => (why p).isNone
    let s := above.foldl (fun s p => dropRouted s port r 14 p p) s
    let s := prpNext (bad.foldl (fun s e => dropRouted s port r e.2 e.1 e.1) s) rcts
    if good.isEmpty then s
    else
      let k := s.fab.nextId
      let h := { h with refs := good.length }
      let s := takeCells s a port r.cls r.stream
      let s := { s with fab := { s.fab with
          nextId := k + 1, held := tset none s.fab.held k (some h)
          queues := (good.filter (· != 96)).foldl
            (fun q p => tmod [] q (queueSet p r.frame * 8 + r.cls) (· ++ [k])) s.fab.queues } }
      let s := if good.contains 97 ∧ queueSet 97 r.frame = 97 then napEnd s else s
      if good.contains 96 then
        modTenant s r.tenant fun x =>
          { x with waiting :=
              x.waiting ++ [rxItem s ((rxQueueFor s r.tenant r.cls).getD 0) port r.cls (egressFrame s 96 h) k] }
      else s

/-- A frame that enters Brine and its egress queues in a fabric cycle of its own. -/
def brineAndQueue (s : State) (port : Nat) (r : Routed) (lost : Bool) : State := brineAndQueueAt s s port r lost

/-- Brine has a first cell for a frame on its way to an egress (R118, R122, R123). -/
def brineTakes (s : State) (port : Nat) (r : Routed) (p : Nat) : Bool :=
  (routedAlloc s port r).sharedCells == 0 || (decide (0 < sharedFree s) && thresholdOk s p r.cls)

/-- The conditions of cut-through (R118): one egress, a BB port of the same line, fabric-up and not faster than the ingress, nothing queued
ahead in the class, a gate that stays open for the ingress port's largest frame, and Brine. -/
def cutThrough (s : State) (port : Nat) (r : Routed) : Bool :=
  match r.ports with
  | [p] =>
    decide (port < 4 ∧ p < 4) && lineOf p == lineOf port && decide (speedMbps s p ≤ speedMbps s port)
      && (queueOf s p r.cls).isEmpty && cssPort s p && fitsGate s p r.cls (maxFrame s port) && brineTakes s port r p
  | _ => false

/-- A slot frame of this node leaves port `p` in an exclusive TC7 window that is open for it, else it is queued for one
(R78, R132 to R134); a copy whose one-step insertion does not complete ends with an invalid FCS (R56). -/
def slotCopy (s : State) (p own : Nat) (inserted : Bool) (f : CssFrame) : State :=
  let x := slotFrame f
  if (queueOf s p 7).isEmpty && fitsGate s p 7 x.len then
    emit (countTx s p x) (if inserted then .css p f else .spoiled p)
  else
    brineAndQueue s 100 { cls := 7, tenant := own, stream := none, conforming := false, vid := 0, frame := x, ports := [p] } false

/-- The cells of a frame on its way by cut-through: taken, and returned as it leaves. -/
def cutCells (s : State) (port : Nat) (r : Routed) : State :=
  let a := routedAlloc s port r
  returnCells (takeCells s a port r.cls r.stream)
    { frame := r.frame, ingress := port, tenant := r.tenant, cls := r.cls, stream := r.stream, conforming := r.conforming
      stamp := 0, epoch := 0, clsCells := a.clsCells, streamCells := a.streamCells, portCells := a.portCells
      sharedCells := a.sharedCells, refs := 1, txRef := none }

/-- The length of the sluice cycle at a port in ns: of its bank, else the pan; 0 where it has neither. -/
def cycleLen (s : State) (p : Nat) : Nat := match bankIn s p (trtNs s) with | some k => k.cycleTime * 10 | none => panNs s

/-- A frame sent at a port counts towards its TC6 load; above B6 + ρ6 × cycle_time the cycle sets tc6_over (R158). A port with no
sluice cycle has none to count over. -/
def countTc6 (s : State) (p cls len : Nat) : State :=
  if cls ≠ 6 ∨ 96 ≤ p ∨ cycleLen s p = 0 then s
  else
    let s := tc6Check s p
    let x := tget ({} : Sluice) s.fab.sluices p
    let x := { x with tc6Bytes := x.tc6Bytes + len }
    let above := decide (tc6Burst s p + tc6Rate s p * cycleLen s p / 8000000000 < x.tc6Bytes)
    { s with
      adm := { s.adm with tc6Over := if above then sadd s.adm.tc6Over p else s.adm.tc6Over }
      fab := { s.fab with sluices := tset {} s.fab.sluices p x } }

/-- The reason that makes a received frame bad at stage 1 (R114). -/
def stage1 (s : State) (port : Nat) (f : Frame) : Option Nat :=
  if !f.fcsOk then some 9 else if ingressLimit s port < f.len then some 10 else none

/-- One of the frame's cells reads poisoned (Table 1-5). -/
def cellPoisoned (x : Ingress) : Bool := x.finds.any fun e => e.mem == 1 && e.kind == .double

/-- The reason for which a frame on its way proves bad (R120). -/
def badReason (s : State) (x : Ingress) : Option Nat :=
  match stage1 s x.port x.frame with
  | some c => some c
  | none => if cellPoisoned x then some 8 else none

/-- What a read of a frame's passage finds in Brine, the FDB, the stream table or a sluice list (R27). -/
def readFinds (s : State) (x : Ingress) : State :=
  (x.finds.filter fun e => [1, 2, 3, 6].contains e.mem).foldl (fun s e => match e.kind with
    | .single => correctable s e.mem e.word
    | .double => uncorrectable s e.mem e.word) s

/-- A frame sent by cut-through: at once, and ended with an invalid FCS where it proves bad (R118, R120). -/
def sendCut (s : State) (x : Ingress) (r : Routed) (lost : Bool) : State :=
  let p := r.ports.head?.getD 0
  let reason := if lost ∨ sharedFree s < (routedAlloc s x.port r).sharedCells then some 1 else badReason s x
  match reason with
  | none =>
    let s := cutCells s x.port r
    let s := emit { s with fab := { s.fab with ctFrames := s.fab.ctFrames + 1 } } (.frame p r.frame false)
    countTc6 (countTx s p r.frame) p r.cls r.frame.len
  | some c =>
    let s := emit { s with fab := { s.fab with ctFrames := s.fab.ctFrames + 1, ctStomps := s.fab.ctStomps + 1 } }
      (.frame p r.frame true)
    let s := discard (setAlarm s .fab 3)
      { port := x.port, reason := c, ingress := x.port, egress := p, tenant := r.tenant, cls := r.cls, stream := r.stream
        violation := covered s r.stream (c != 9 && r.conforming), stomped := true, len := r.frame.len }
    lose s r.stream (c != 9 && r.conforming) p c

/-- Stage 1's counters for a bad frame (Table 7-7). -/
def countBad (s : State) (p reason : Nat) : State :=
  if reason = 9 then countPort s p 8 1 else if reason = 10 then countPort s p 10 1 else s

/-- A frame that stage 1 discards (R114). -/
def stage1Drop (s : State) (port : Nat) (f : Frame) (c : Nat) : State :=
  discard (countBad s port c)
    { port := port, reason := c, ingress := port, tenant := (vlanOf s (frameVid s port f)).tenant, len := f.len }

/-! ## CSS frames along a line (R77, R78, R118) -/

/-- A CSS frame on its way along its line. -/
def lineRoute (s : State) (port : Nat) (x : Frame) : Routed :=
  let vid := frameVid s port x
  { cls := 7, tenant := (vlanOf s vid).tenant, stream := none, conforming := false, vid := vid, frame := x
    ports := [otherPort port] }

/-- This device forwards on the line of a port, and the line's other port carries CSS frames (R77). -/
def lineOn (s : State) (port : Nat) : Bool := (ownLines s).contains (lineOf port) && cssPort s (otherPort port)

/-- A slot frame goes on by cut-through (R118). -/
def slotCut (s : State) (port : Nat) (r : Routed) : Bool := lineOn s port && cutThrough s port r

/-- A cycle-start or cold-start goes on by cut-through: no gate holds it (R78, R118). -/
def timingCut (s : State) (port : Nat) (r : Routed) : Bool :=
  let q := otherPort port
  lineOn s port && decide (speedMbps s q ≤ speedMbps s port) && (queueOf s q 7).isEmpty && brineTakes s port r q

/-- A slot frame received on a line goes on out of the line's other port, by cut-through or stored. -/
def forwardSlot (s : State) (port : Nat) (f : CssFrame) : State :=
  let r := lineRoute s port (slotFrame f)
  if !lineOn s port then s
  else if slotCut s port r then
    let s := cutCells s port r
    emit (countTx { s with fab := { s.fab with ctFrames := s.fab.ctFrames + 1 } } (otherPort port) r.frame)
      (.css (otherPort port) f)
  else brineAndQueue s port r false

/-- A cycle-start or cold-start goes on, by cut-through or at the next frame boundary; stored, Brine has its cells or discards it. -/
def forwardTiming (s : State) (r : Routed) (port : Nat) (x : Nat → Sent) : State :=
  let q := otherPort port
  let send := fun (s : State) => emit (countTx (cutCells s port r) q r.frame) (x q)
  if !lineOn s port then s
  else if timingCut s port r then send { s with fab := { s.fab with ctFrames := s.fab.ctFrames + 1 } }
  else if sharedFree s < (routedAlloc s port r).sharedCells then dropRouted s port r 1 port 255
  else if brineTakes s port r q then send s
  else dropRouted s port r 14 q q

/-- A CSS frame proves bad for reason `c`: discarded, and where it is being cut through its copy is ended with an invalid FCS
(R114, R120, R148). -/
def lineBad (s : State) (port : Nat) (r : Routed) (c : Nat) (cut : Bool) : State :=
  let s := if c = 8 then countRx s port r.frame else countBad s port c
  let d : Discard := { port := port, reason := c, ingress := port, tenant := r.tenant, len := r.frame.len }
  let q := otherPort port
  if cut then
    discard (emit (setAlarm { s with fab := { s.fab with
        ctFrames := s.fab.ctFrames + 1, ctStomps := s.fab.ctStomps + 1 } } .fab 3) (.frame q r.frame true))
      { d with egress := q, cls := 7, stomped := true }
  else discard s (if c = 8 then { d with cls := 7 } else d)

/-- A frame for the CSS engine on a port that carries none, by its link, its fabric state or its kind: stage 1, then FILTER_DENY
(R115, R206). -/
def cssDeny (s : State) (port : Nat) (r : Routed) (bad : Option Nat) : State :=
  if !linkIsUp s port then s
  else
    match bad with
    | some 9 => lineBad s port r 9 false
    | some 10 => lineBad s port r 10 false
    | _ => discard (countRx s port r.frame)
        { port := port, reason := 4, ingress := port, tenant := r.tenant, len := r.frame.len }

/-- A CSS frame on its BB port (R77, R206): denied, or bad for a reason, `cut` saying whether it is being cut through then, or
counted as received and taken. -/
def cssReceive (s : State) (port : Nat) (r : Routed) (bad : Option Nat) (cut : Bool) (take : State → State) : State :=
  if !(decide (port < 4) && cssPort s port && s.tms.tsValid) then cssDeny s port r bad
  else
    match bad with
    | some c => lineBad s port r c cut
    | none => take (countRx s port r.frame)

/-- A cycle-start or cold-start on its BB port. -/
def timingReceive (s : State) (port : Nat) (x : Frame) (bad : Option Nat) (take : State → State) : State :=
  let r := lineRoute s port x
  cssReceive s port r bad (timingCut s port r) take

/-- The source of a frame that passes is learned (R143). -/
def learnFrom (s : State) (port : Nat) (f : Frame) (r : Routed) : State :=
  if f.etype = 0x88B5 then s else fdbLearn s port f.src ((vlanOf s r.vid).fid.getD r.vid) r.tenant

/-- A counted frame that a stage before the cell claim discards: a conforming stream frame lost this way is a violation,
an eliminated duplicate is not (R125, R139; log 83, DEDUCED: its other copy was delivered). -/
def denied (s : State) (p : Nat) (f : Frame) (reason tn cls : Nat) (stream : Option Nat)
    (green : Bool) : State :=
  let lost := green && reason != 5
  lose (discard (countRx s p f)
    { port := p, reason := reason, ingress := p, tenant := tn, cls := cls, stream := stream
      violation := covered s stream lost, len := f.len }) stream lost 255 reason

/-- One frame through the stages of R114; `s0` is the start of its fabric cycle. A conforming frame that stage 4 discards is a
violation (R125), a duplicate excepted, whose other copy has been delivered (R153; DEDUCED, log). -/
def ingressOne (s0 s : State) (x : Ingress) (lost : Bool) : State :=
  let f := x.frame
  if !portReceives s x.port then s
  else
  let s := countPhy s x.port x.phy
  if f.len < 64 ∧ portKind x.port ≠ .can then countPort s x.port 11 1
  else
    let s := readFinds s x
    if consumedAtPort x.port f then
      match stage1 s x.port f with
      | some c => stage1Drop s x.port f c
      | none => countConsumed s x.port f
    else
      match classify s x.port f none with
      | .pass s' r =>
        if cutThrough s' x.port r then
          match stage1 s x.port f with
          | some c => sendCut (countBad s' x.port c) x r lost
          | none => sendCut (learnFrom (countRx s' x.port f) x.port f r) x r lost
        else
          match stage1 s x.port f with
          | some c => stage1Drop s x.port f c
          | none =>
            let s' := learnFrom (countRx s' x.port f) x.port f r
            if cellPoisoned x then dropRouted s' x.port r 8 x.port 255 else brineAndQueueAt s0 s' x.port r lost
      | .deny s' reason t cls stream green =>
        match stage1 s x.port f with
        | some c => stage1Drop s x.port f c
        | none =>
          denied s' x.port f reason t cls stream green

/-- What a frame would request from Brine, and the state its request and those before it leave (R124): nothing where an
earlier stage ends it, or where each of its queues fails the threshold test (R122, R123). -/
def requestOf (s0 s : State) (x : Ingress) : State × Nat × Nat :=
  let whole : Bool := 64 ≤ x.frame.len || portKind x.port == .can
  if whole ∧ stage1 s x.port x.frame = none ∧ ¬ consumedAtPort x.port x.frame ∧ ¬ cellPoisoned x ∧ portReceives s x.port then
    match classify s x.port x.frame none with
    | .pass s' r =>
      let a := routedAlloc s' x.port r
      let rank := if r.cls = 6 then 1 else if r.cls = 7 then 2 else if r.conforming then 3 else 4
      let tested := a.sharedCells != 0
      if r.ports.all fun p => tested && !thresholdOk s0 (queueSet p r.frame) r.cls then (s', rank, 0)
      else (takeCells s' a x.port r.cls r.stream, rank, a.sharedCells)
    | .deny s' .. => (s', 4, 0)
  else (s, 4, 0)

/-- A frame of the contest for shared cells: its place in the list, its ingress port, its rank (Table 1-4) and the cells it
still asks for and holds. -/
structure Claim where
  id   : Nat
  port : Nat
  rank : Nat
  want : Nat
  got  : Nat := 0
  deriving DecidableEq, Repr

/-- The claims of the frames of one cycle. -/
def claims (s0 : State) : State → List (Nat × Ingress) → List Claim
  | _, [] => []
  | s, (i, x) :: r =>
    let q := requestOf s0 s x
    { id := i, port := x.port, rank := q.2.1, want := q.2.2 } :: claims s0 q.1 r

/-- Claims in the order of service: by rank (R22), then in ascending port order from the rotating pointer, wrapping from 100
to 0 (R124). -/
def pointerOrder (ptr : Nat) (cs : List Claim) : List Claim :=
  let key := fun (c : Claim) => c.rank * 202 + (if ptr ≤ c.port then c.port else c.port + 101)
  cs.mergeSort fun a b => decide (key a ≤ key b)

/-- Cycle after cycle each claim asks for one cell (R124; DESIGN CHOICE, log: the frames ask in step). Where more ask than
are free, they are granted in the order of service, the others lose and return what they hold, and the pointer moves to the
port after the last winner. The claims that lost, and the pointer. -/
def contest : Nat → Nat → Nat → List Claim → List Nat × Nat
  | 0, _, ptr, _ => ([], ptr)
  | fuel + 1, free, ptr, cs =>
    let asking := pointerOrder ptr (cs.filter fun c => c.got < c.want)
    if asking.isEmpty then ([], ptr)
    else if asking.length ≤ free then
      contest fuel (free - asking.length) ptr (cs.map fun c => if c.got < c.want then { c with got := c.got + 1 } else c)
    else
      let won := (asking.take free).map Claim.id
      let lost := asking.drop free
      let ptr' := match (asking.take free).getLast? with
        | some c => (c.port + 1) % 101
        | none => ptr
      let back := (lost.map Claim.got).sum
      let rest := (cs.filter fun c => !(lost.any fun l => l.id == c.id)).map fun c =>
        if won.contains c.id then { c with got := c.got + 1 } else c
      let r := contest fuel (free - won.length + back) ptr' rest
      (lost.map Claim.id ++ r.1, r.2)

/-- FRAME_INGRESS: the frames of one fabric cycle pass the stages; where they ask for more shared cells than are free, the
rotating pointer decides (R114, R124). -/
def ingressEffect (fs : List Ingress) (s : State) : State :=
  let xs := (List.range fs.length).zip fs
  let cs := claims s s xs
  let c := contest ((cs.map Claim.want).sum + 1) (sharedFree s) s.fab.arbPtr cs
  let s' := xs.foldl (fun st e => ingressOne s st e.2 (c.1.contains e.1)) s
  { s' with fab := { s'.fab with arbPtr := c.2 } }

/-! ## Egress -/

/-- One visit of deficit round robin over `n` queues: `head i` is the length of the frame at the head of queue i. -/
def drrServe (n : Nat) (quantum : Nat → Nat) (head : Nat → Option Nat) : Nat → Dwrr → Option (Nat × Dwrr)
  | 0, _ => none
  | fuel + 1, d =>
    let i := d.pos % n
    let nxt := (i + 1) % n
    match head i with
    | some len =>
      if len ≤ tget 0 d.deficit i then
        some (i, { deficit := tset 0 d.deficit i (tget 0 d.deficit i - len), pos := i })
      else drrServe n quantum head fuel { deficit := tmod 0 d.deficit nxt (· + quantum nxt), pos := nxt }
    | none =>
      let t := tset 0 d.deficit i 0
      drrServe n quantum head fuel { deficit := tmod 0 t nxt (· + quantum nxt), pos := nxt }

/-- Weight of a class TC3 to TC0 (R126). -/
def classWeight (c : ClassCfg) (cls : Nat) : Nat :=
  (tget none c.weight cls).getD (match cls with | 3 => 64 | 2 => 32 | 1 => 16 | _ => 8)

/-- The lane of a tenant (R126). -/
def laneOf (c : ClassCfg) (t : Nat) : Nat := (tget none c.tenantLane t).getD (t % 16)

/-- The first frame of a lane in an egress queue. -/
def laneHead (s : State) (p cls lane : Nat) : Option Nat :=
  (queueOf s p cls).find? fun k => match heldOf s k with
    | some h => laneOf (clsAt s p) h.tenant == lane
    | none => false

/-- The length of a held frame as it would leave a port, tags included (R132, R138). -/
def outLen (s : State) (p k : Nat) : Nat := match heldOf s k with | some h => (egressFrame s p h).len | none => 0

/-- The frame a class of TC3 to TC0 would send: its lanes served by DWRR (R126). -/
def lanePick (s : State) (p cls : Nat) : Option (Nat × Dwrr) :=
  let d := tget ({} : Dwrr) s.fab.lanes (p * 8 + cls)
  match drrServe 16 (fun l => (tget none (clsAt s p).lane l).getD 1 * 256)
      (fun l => (laneHead s p cls l).map (outLen s p)) 700 d with
  | some (l, d') => (laneHead s p cls l).map fun k => (k, d')
  | none => none

/-- The classes served in strict order: 7 to 4 at an external port (R126), by rank at an internal one (R22). -/
def strictOrder (p : Nat) : List Nat := if p < 96 then [7, 6, 5, 4] else [6, 7, 5, 4]

/-- The strict classes: the head of the first one whose gate is open and fits (R126, R132). -/
def strictPick (s : State) (p : Nat) : Option (Nat × Nat) :=
  (strictOrder p).findSome? fun c =>
    match (queueOf s p c).head? with
    | some k => if p ≥ 96 ∨ fitsGate s p c (outLen s p k) then some (k, c) else none
    | none => none

/-- The frame the transmitter selects: its class, and the state with the deficits moved (R126). -/
def selectFrame (s : State) (p : Nat) : Option (Nat × Nat × State) :=
  match strictPick s p with
  | some (k, c) => some (k, c, s)
  | none =>
    let head := fun i =>
      match lanePick s p (3 - i) with
      | some (k, _) => if p ≥ 96 ∨ fitsGate s p (3 - i) (outLen s p k) then some (outLen s p k) else none
      | none => none
    match drrServe 4 (fun i => classWeight (clsAt s p) (3 - i) * 256) head 200 (tget ({} : Dwrr) s.fab.dwrr p) with
    | some (i, d) =>
      match lanePick s p (3 - i) with
      | some (k, dl) =>
        some (k, 3 - i, { s with fab := { s.fab with
          dwrr := tset {} s.fab.dwrr p d, lanes := tset {} s.fab.lanes (p * 8 + (3 - i)) dl } })
      | none => none
    | none => none

/-- The transmitter of a port may start a frame: link up, not halted by PAUSE, no wake burst under way (R179, R184). -/
def portSends (s : State) (p : Nat) : Bool :=
  (96 ≤ p || linkIsUp s p) && !txHalted s p && !(portKind p == .sg && segBursts s (p - 16))

/-- A host TX descriptor that waits for its stamp is written back at the first egress, with the stamp of that port; frames on MVB
and WTB are not stamped (R292, R54). -/
def stampTx (s : State) (p : Nat) (h : Held) : State :=
  match if portKind p = .mvb ∨ portKind p = .wtb then none else h.txRef with
  | none => s
  | some (t, q, i) =>
    modTenant s t fun x => { x with txWrites := x.txWrites.map fun w =>
      if w.queue == q && w.index == i && w.stamp == 0 then { w with stamp := stamp32 (txTrt s p) } else w }

/-- A conforming admitted frame's residence against the per-hop bound (R137, R162). -/
def checkResidence (s : State) (p : Nat) (h : Held) : State :=
  match h.stream with
  | none => s
  | some j =>
    let i := hopEntry s j p
    match tget none s.fab.streams i with
    | none => s
    | some x =>
      if !admitted s h || h.epoch != s.tms.trtEpoch then s
      else
        let res := (txTrt s p - h.stamp) / nsRaw
        let s := putStream s i { x with worst := max x.worst res }
        if x.bound < res then violation s i p 0 0 res else s

/-- Frame `k` leaves its queue and port; `set` is its queue set (R7). A slot frame of this node carries its departure (R56). -/
def transmit (s : State) (set cls k : Nat) : State :=
  let p := if set = farSet then 97 else set
  match heldOf s k with
  | none => s
  | some h =>
    let f := egressFrame s p h
    if maxFrame s p < f.len ∧ p < 96 then dropQueued s p cls k 10
    else
      let s := stampTx (checkResidence s p h) p h
      let s := { s with fab := { s.fab with
          queues := tmod [] s.fab.queues (set * 8 + cls) fun q => q.filter (· != k) } }
      let d := if h.ingress = 100 ∧ f.etype = 0x88B5 then oneStep s p (.frame p f false) else (.frame p f false, s)
      releaseFrame (countTc6 (countTx (emit d.2 d.1) p f) p cls f.len) k

/-- The heads of a port's queues that are longer than its maximum frame are discarded with OVERSIZE (R168). -/
def dropLong (s : State) (p : Nat) : State :=
  (List.range 8).foldl (fun s c => match (queueOf s p c).head? with
    | some k => if maxFrame s p < outLen s p k ∧ p < 96 then dropQueued s p c k 10 else s
    | none => s) s

/-- The identifier of a buffered CAN record: 29 bits, of XL the 11 bits of the priority identifier (R294). -/
def canId (s : State) (k : Nat) : Nat :=
  match heldOf s k with
  | some h => leAt h.frame.payload 0 4 % (if leAt h.frame.payload 4 1 % 4 = 2 then 2 ^ 11 else 2 ^ 29)
  | none => 0

/-- A CAN record's format is one that the port's mode sends and receives: XL also FD and classical, FD also classical
(Table 7-5). -/
def canFormatOk (c : CanPort) (format : Nat) : Bool := decide (format % 4 ≤ c.mode)

/-- A held frame is no CAN record that the port's mode can send. -/
def canMisfit (s : State) (p k : Nat) : Bool :=
  match heldOf s k with
  | some h => !canFormatOk (tget ({} : CanPort) s.ports.can (p - 80)) (leAt h.frame.payload 4 1)
  | none => false

/-- A CAN port: selected frames fill its 8 transmit buffers, and the one of lowest identifier is sent (R182). A record longer than the
port's max_frame is discarded with OVERSIZE, one in a format that the mode does not send with FILTER_DENY (DESIGN CHOICE, log). -/
def canFill : Nat → State → Nat → State
  | 0, s, _ => s
  | n + 1, s, p =>
    let c := tget ({} : CanPort) s.ports.can (p - 80)
    if 8 ≤ c.buffers.length then s
    else
      match selectFrame s p with
      | some (k, cls, s') =>
        if maxFrame s' p < outLen s' p k then canFill n (dropQueued s' p cls k 10) p
        else if canMisfit s' p k then canFill n (dropQueued s' p cls k 4) p
        else canFill n { s' with
          fab := { s'.fab with queues := tmod [] s'.fab.queues (p * 8 + cls) fun q => q.filter (· != k) }
          ports := { s'.ports with can := tset {} s'.ports.can (p - 80) { c with buffers := c.buffers ++ [k] } } } p
      | none => s

/-- The buffered frame of lowest identifier is sent; one that met an error or lost the arbitration stays buffered. -/
def canSend (s : State) (p : Nat) (phy : List PhyCount) : State :=
  let c := tget ({} : CanPort) s.ports.can (p - 80)
  if c.listenOnly ∨ phy.any (phyCounts s p) then s
  else
    match c.buffers.foldl (fun o k => match o with
      | none => some k
      | some j => if canId s k < canId s j then some k else some j) none with
    | none => s
    | some k =>
      match heldOf s k with
      | none => s
      | some h =>
        let s := { s with ports := { s.ports with
          can := tset {} s.ports.can (p - 80) { c with buffers := c.buffers.filter (· != k) } } }
        let pl := h.frame.payload
        let s := emit s (.can p { ident := word (leAt pl 0 4), format := leAt pl 4 1, vcid := leAt pl 5 1
                                  accept := word (leAt pl 8 4), data := pl.drop 16 })
        releaseFrame (countTx (stampTx s p h) p h.frame) k

/-- The frame a queue set selects is sent. -/
def sendSelected (s : State) (set : Nat) : State :=
  match selectFrame s set with
  | some (k, c, s') => transmit s' set c k
  | none => s

/-- The egress of a port at a frame boundary (R126). At port 97 the Far Window engine takes from its own queues, also while
the MGP is halted or paused, and the MGP from its (R7, R15). -/
def egressEffect (p : Nat) (phy : List PhyCount) (s : State) : State :=
  if !portSends s p then s
  else
    let s := countPhy s p phy
    let s := { s with fab := { s.fab with oldCls := tset none s.fab.oldCls p none } }
    let s := dropLong s p
    if portKind p = .can then canSend (canFill (8 + (List.range 8).foldl (fun n c => n + (queueOf s p c).length) 0) s p) p phy
    else if p = 97 then
      let s := sendSelected s farSet
      if s.fw.phase = .ready then sendSelected s 97 else s
    else sendSelected s p

/-- EGRESS_SELECT (R126); `phy` is what the medium reports of the transmission (Table 7-7). -/
def execEgressSelect (b : Boundary) (s : State) : Out := .next (egressEffect b.port b.phy s)

/-! ## Sluices -/

/-- A conforming frame of a deliver_in_window stream (R134); a downgraded one is best effort (R164). -/
def inWindowFrame (s : State) (k : Nat) : Bool :=
  match heldOf s k with
  | some h => h.conforming && h.stream.any fun i => (tget none s.fab.streams i).any fun x => x.deliverInWindow
  | none => false

/-- What closes at a gate change: queued TC7 frames, and frames of deliver_in_window streams of a class that closes, are
discarded with TTL_PAN_LATE (R134). -/
def closeGates (s : State) (p : Nat) (before after : BitVec 8) : State :=
  (List.range 8).foldl (fun s c =>
    if bitAt before c && !bitAt after c then
      (queueOf s p c).foldl (fun s k => if c = 7 ∨ inWindowFrame s k then dropQueued s p c k 6 else s) s
    else s) s

/-- The gates that take effect at a change (R130). -/
def applyGates (s : State) (p : Nat) : State :=
  let x := tget ({} : Sluice) s.fab.sluices p
  let g := (gatesAt s p (trtNs s)).1
  closeGates { s with fab := { s.fab with sluices := tset {} s.fab.sluices p { x with gates := g, entry := x.entry + 1 } } }
    p x.gates g

/-- A gate change of a port: time passes to the next boundary, then the next entry's states apply (R130); a change of this
instant that has not been applied yet, as those of several ports may fall together, applies at once. -/
def sluiceChange (port : Nat) (s : State) : State :=
  let listed := (bankIn s port (trtNs s)).isSome || s.css.gates.any fun g => g.port == port
  if !s.tms.tsValid || !listed || 96 ≤ port then s
  else
    let g := gatesAt s port (trtNs s)
    let due := (tget ({} : Sluice) s.fab.sluices port).gates != g.1
    applyGates (tc6Check (if due then s else untilNs s (trtNs s + g.2)) port) port

/-- SLUICE_GATE_CHANGE (R130). -/
def execSluiceGateChange (port : Nat) (s : State) : Out := .next (sluiceChange port s)

/-! ## The forwarding database -/

/-- The old-generation entries in the hash ways. -/
def oldWays (f : Fdb) : List FdbEntry := f.entries.filter fun e => !e.newGen && !e.inCam

/-- A re-salt starts (Table 5-8). -/
def startResalt (s : State) : State :=
  let f := s.fab.fdb
  let n := s.draws
  setAlarm { s with
    draws := n + 1
    fab := { s.fab with fdb := { f with
      newSalt := n, resalt := .migrating, pass := 1, lastResalt := some s.mono, heldTrigger := false, heldAuto := false
      entries := f.entries.map fun e => { e with newGen := false } } } } .fab 5

/-- The capacity condition of R144: fdb_full. -/
def fdbFull (s : State) : State :=
  setAlarm { s with fab := { s.fab with fdb := { s.fab.fdb with full := true } } } .fab 8

/-- A trigger of the overflow monitor (R144): held during a re-salt; an automatic one is barred within 60 s of the last
and while the FDB holds more than 28,672 entries. -/
def resaltOn (s : State) (automatic : Bool) : State :=
  let f := s.fab.fdb
  if f.resalt ≠ .idle then { s with fab := { s.fab with fdb := { f with
      heldTrigger := true, heldAuto := automatic && (!f.heldTrigger || f.heldAuto) } } }
  else if automatic && ((match f.lastResalt with | some t => decide (s.mono < t + 60000000000) | none => false)
      || decide (28672 < f.entries.length)) then fdbFull s
  else startResalt s

/-- The overflow monitor's automatic triggers (R144). -/
def resaltDue (s : State) : Bool :=
  let f := s.fab.fdb
  decide (192 ≤ camCount f) || decide (64 ≤ (f.failTimes.filter fun t => decide (s.mono < t + 1000000000)).length)

/-- RESALT_TRIGGER (R144). -/
def execResaltTrigger (s : State) : Out := .next (if resaltDue s then resaltOn s true else s)

/-- The entry of an address under the new salt, in a way of its bucket or in the CAM. -/
def fdbMove (f : Fdb) (e : FdbEntry) (cam : Bool) : Fdb :=
  let at_ := if cam then camSlot f else waySlot f (bucketOf f.newSalt e.mac e.fid)
  { f with entries := f.entries.map fun x =>
      if x.mac == e.mac && x.fid == e.fid then { x with newGen := true, inCam := cam, slot := at_ } else x }

/-- A way of an entry's new bucket is free. -/
def wayFree (f : Fdb) (e : FdbEntry) : Bool := decide (bucketCount f (bucketOf f.newSalt e.mac e.fid) < 4)

/-- One entry met by a walk moves to its new bucket where a way is free (R145). -/
def migrateOne (f : Fdb) (e : FdbEntry) : Fdb :=
  if !e.newGen && !e.inCam && wayFree f e then fdbMove f e false else f

/-- A walk of all buckets. -/
def migrateAll (f : Fdb) : Fdb := f.entries.foldl migrateOne f

/-- One CAM entry re-placed in a free way under the new salt, or left. -/
def sweepOne (f : Fdb) (e : FdbEntry) : Fdb :=
  if e.inCam && wayFree f e then fdbMove f e false
  else if e.inCam then { f with entries := f.entries.map fun x =>
      if x.mac == e.mac && x.fid == e.fid then { x with newGen := true } else x }
  else f

/-- Old-generation entries of the hash ways move into the CAM while it has room. -/
def intoCam (f : Fdb) (e : FdbEntry) : Fdb :=
  if !e.newGen && !e.inCam && decide (camCount f < 256) then fdbMove f e true else f

/-- The CAM sweep: done, or STUCK where old-generation entries remain and the CAM is full (Table 5-8). -/
def camSweep (s : State) : State :=
  let f := s.fab.fdb
  let f := f.entries.foldl sweepOne f
  let f := (oldWays f).foldl migrateOne f
  let f := (oldWays f).foldl intoCam f
  if (oldWays f).isEmpty then
    let s := setAlarm { s with fab := { s.fab with fdb := { f with
        salt := f.newSalt, resalt := .idle, saltGen := (f.saltGen + 1) % 16, resalts := f.resalts + 1, pass := 0
        entries := f.entries.map fun e => { e with newGen := false } } } } .fab 6
    if f.heldTrigger then
      resaltOn { s with fab := { s.fab with fdb := { s.fab.fdb with heldTrigger := false, heldAuto := false } } } f.heldAuto
    else s
  else setAlarm { s with fab := { s.fab with fdb := { f with resalt := .stuck } } } .fab 7

/-- Learned entries that a walk reads poisoned are misses, to be relearned (Table 1-5). -/
def shedPoisoned (s : State) : State :=
  let f := s.fab.fdb
  { s with fab := { s.fab with fdb := { f with
      entries := f.entries.filter fun e => e.isStatic || !entryPoisoned s 2 (fdbKey f e) } } }

/-- The entries that `s` holds elsewhere than `f` did have been written there whole (R28). -/
def movedClean (f : Fdb) (s : State) : State :=
  unpoisonWhere s 2 fun k => (s.fab.fdb.entries.any fun e => fdbKey s.fab.fdb e == k)
    && !(f.entries.any fun e => fdbKey f e == k)

/-- A walk ends, and the re-salt walks again, sweeps the CAM or completes. -/
def walkEnd (s : State) : State :=
  match s.fab.fdb.resalt with
  | .migrating =>
    let f := migrateAll s.fab.fdb
    if (oldWays f).isEmpty then { s with fab := { s.fab with fdb := { f with resalt := .camSweep } } }
    else if f.pass < 4 then { s with fab := { s.fab with fdb := { f with pass := f.pass + 1 } } }
    else { s with fab := { s.fab with fdb := { (oldWays f).foldl intoCam f with resalt := .camSweep } } }
  | .camSweep => camSweep s
  | _ => s

/-- RESALT_WALK_DONE (R145). -/
def walkDone (s : State) : State :=
  let s := shedPoisoned s
  movedClean s.fab.fdb (walkEnd s)

/-- See `walkDone`. -/
def execResaltWalkDone (s : State) : Out := .next (walkDone s)

/-- Ageing or deletion has freed room for a STUCK re-salt: a place in the CAM, a way in a new bucket of an old-generation entry,
or no such entry is left (R145). -/
def roomFreed (f : Fdb) : Bool :=
  decide (camCount f < 256) || (oldWays f).isEmpty
    || (oldWays f).any (wayFree f)

/-- RESALT_RESUME (R145): a STUCK re-salt resumes its CAM sweep when room is free. -/
def execResaltResume (s : State) : Out :=
  .next (if s.fab.fdb.resalt = .stuck ∧ roomFreed s.fab.fdb then
    { s with fab := { s.fab with fdb := { s.fab.fdb with resalt := .camSweep } } } else s)

/-- fdb_full ends where the FDB no longer holds more than 28,672 entries (R144, Table 5-11). -/
def fdbEased (s : State) : State :=
  { s with fab := { s.fab with fdb := { s.fab.fdb with
      full := s.fab.fdb.full && decide (28672 < s.fab.fdb.entries.length) } } }

/-- FDB_AGE_OUT (R143): a learned entry is removed at aging_time after its last traffic. -/
def ageOut (mac : Mac) (fid : Nat) (s : State) : State :=
  match fdbFind s mac fid with
  | some e =>
    if e.isStatic then s
    else
      let s := untilMono s (e.seenAt + s.fab.fdb.aging * 1000000000)
      { s with fab := { s.fab with fdb := { s.fab.fdb with
          entries := s.fab.fdb.entries.filter fun x => !(x.mac == mac && x.fid == fid) } } } |> fdbEased
  | none => s

/-- See `ageOut`. -/
def execFdbAgeOut (mac : Mac) (fid : Nat) (s : State) : Out := .next (ageOut mac fid s)

/-! ## FRER and PRP timers -/

/-- FRER_RESET_TIMEOUT (R139): after the reset timeout without frames the function resets. -/
def frerReset (fn : Nat) (s : State) : State :=
  let r := tget ({} : Recovery) s.fab.recovery fn
  if r.takeAny then s
  else
    let s := untilMono s (r.lastAt + r.timeoutMs * 1000000)
    let r' := { r with takeAny := true, history := 0, resets := r.resets + 1 }
    { s with fab := { s.fab with recovery := tset {} s.fab.recovery fn r' } }

/-- See `frerReset`. -/
def execFrerResetTimeout (fn : Nat) (s : State) : Out := .next (frerReset fn s)

/-- How far a function with two paths is from one discard for each frame passed (IEEE 802.1CB). -/
def latentGap (r : Recovery) : Int := (r.passed : Int) - r.discarded

/-- LATENT_ERROR_DETECTION (R139), by the default parameters of IEEE 802.1CB (PRESUMED, log): every 2 s, with two paths, a gap
that has moved from its base at all is a latent error, and every 30 s the gap becomes the base. -/
def latentError (fn : Nat) (s : State) : State :=
  let r := tget ({} : Recovery) s.fab.recovery fn
  if !r.latentOn then s
  else
    let s := untilMono s (r.testedAt + 2000000000)
    let bad := latentGap r != r.base
    let renew := decide (r.baseAt + 30000000000 ≤ s.mono)
    let r' := { r with
      testedAt := s.mono, latentErrors := r.latentErrors + b2n bad
      base := if renew then latentGap r else r.base, baseAt := if renew then s.mono else r.baseAt }
    setAlarmIf { s with fab := { s.fab with recovery := tset {} s.fab.recovery fn r' } } bad .fab 9

/-- See `latentError`. -/
def execLatentErrorDetection (fn : Nat) (s : State) : Out := .next (latentError fn s)

/-- PRP_SUPERVISION_SEND (R140): every LifeCheckInterval of 2 s an enabled pair sends a supervision frame on both its ports. -/
def prpSupervise (pair : Nat) (s : State) : State :=
  if pair < 6 ∧ s.fab.prp.enabled.contains pair then
    let at_ := nextBeat (tget none s.fab.prp.supAt pair) 2000000000 s.mono
    let s := untilMono s at_
    let q := tget 0 s.fab.prp.supSeq pair
    let s := { s with fab := { s.fab with prp := { s.fab.prp with
      supSeq := tset 0 s.fab.prp.supSeq pair (q + 1), supAt := tset none s.fab.prp.supAt pair (some at_) } } }
    ([4 + pair, 10 + pair].filter (linkIsUp s)).foldl (fun s p => emitPort s p (.prpSup p q)) s
  else s

/-- See `prpSupervise`. -/
def execPrpSupervisionSend (pair : Nat) (s : State) : Out := .next (prpSupervise pair s)

/-- PRP_NODE_FORGET (R140): the node is forgotten 60 s after its last frame, duplicate entries 400 ms after theirs. -/
def prpForget (mac : Mac) (s : State) : State :=
  match s.fab.prp.nodes.find? fun n => n.mac == mac with
  | none => s
  | some n =>
    let s := untilMono s (n.lastAt + 60000000000)
    { s with fab := { s.fab with prp := { s.fab.prp with
        nodes := s.fab.prp.nodes.filter fun x => x.mac != mac
        dups := s.fab.prp.dups.filter fun d => decide (s.mono < d.at_ + 400000000) } } }

/-- See `prpForget`. -/
def execPrpNodeForget (mac : Mac) (s : State) : Out := .next (prpForget mac s)

/-! ## Commands -/

/-- The Brine accounts after one record of BRINE_CONFIG: keys 1 to 5 the ingress guarantees by port type, 6 TC7, 7 TC6,
8 the admission pool, 9 the shared remainder (what remains, not settable), 10 the low mark (Table 5-4, R308). -/
def brineRec (s : State) (c : BrineCfg) (p : Param) : Option BrineCfg :=
  let setG := fun (ok : Nat → Bool) (lo hi : Nat) =>
    (recNat p lo hi).bind fun v =>
      let ps := (List.range 101).filter fun q => ok q && (p.port == 255 || p.port == q)
      if ps.isEmpty then none else some { c with guards := ps.foldl (fun t q => tset none t q (some v)) c.guards }
  match p.key with
  | 1 => setG (fun q => portKind q == .bb) 48 4096
  | 2 => setG (fun q => portKind q == .cp || portKind q == .wl || portKind q == .tw) 48 2048
  | 3 => setG (fun q => portKind q == .sg) 8 512
  | 4 => setG (fun q => portKind q == .can || portKind q == .mvb || portKind q == .wtb) 1 256
  | 5 => setG (fun q => 96 ≤ q && !portReserved s q) 48 4096
  | 6 => (recNat p 512 8192).map fun v => { c with tc7 := v }
  | 7 => (recNat p 512 8192).map fun v => { c with tc6 := v }
  | 8 => (recNat p 0 32768).map fun v => { c with pool := v }
  | 10 => (recNat p 0 65536).map fun v => { c with lowMark := v }
  | _ => none

/-- BRINE_CONFIG (R121): only with CSS STOPPED and no admitted stream; each guarantee must hold one maximum frame of its
port, and the accounts must fit. Accounts of more than 65,536 cells in all are REFUSED with BRINE_GUARANTEE (DESIGN CHOICE, log:
R121 gives no answer for them); a record that names a reserved port fails before the BUSY test (R8). -/
def execBrineConfig (h : Hcp) (recs : List Param) (s : State) : Out :=
  .next (runHcp { opcode := 0x0401, classC := true, owner := true } h s fun s =>
    match recs.findIdx? (recReserved s), applyRecs s (brineRec s) 0 s.fab.brine recs with
    | some i, _ => failsAt s i
    | none, r =>
      if s.css.state ≠ .stopped ∨ (s.fab.streams.any fun e => e.2.isSome) then fails s .busy 0
      else
      match r with
      | .error i => failsAt s i
      | .ok c =>
        if ((List.range 101).any fun q => decide (guardOf c q < cellsOf (maxFrame s q)) && !(88 ≤ q && q ≤ 93))
            || decide (65536 < ((List.range 101).map (guardOf c)).sum + c.tc7 + c.tc6 + c.pool)
            || decide (c.pool < poolUsed s) then fails s .refused 0x0301
        else
          let before := if sharedFree s < s.fab.brine.lowMark then 0 else c.lowMark
          okay (noteShared { s with fab := { s.fab with brine := c } } before))

/-- The class settings after one record of CLASS_CONFIG, element 0xFF naming all: 1 α exponent, 2 class weight, 3 lane weight, 4 tenant's lane
(R308). -/
def classRec (c : ClassCfg) (p : Param) : Option ClassCfg :=
  let all := fun (n : Nat) => if p.elem = 255 then List.range n else [p.elem]
  match p.key with
  | 1 => if 8 ≤ p.elem ∧ p.elem ≠ 255 then none
    else (recNum p (-6) 3).map fun v => { c with alpha := (all 8).foldl (fun t e => tset none t e (some v)) c.alpha }
  | 2 => if 4 ≤ p.elem ∧ p.elem ≠ 255 then none
    else (recNat p 1 255).map fun v => { c with weight := (all 4).foldl (fun t e => tset none t e (some v)) c.weight }
  | 3 => if 16 ≤ p.elem ∧ p.elem ≠ 255 then none
    else (recNat p 1 255).map fun v => { c with lane := (all 16).foldl (fun t e => tset none t e (some v)) c.lane }
  | 4 => if 256 ≤ p.elem then none
    else (recNat p 0 15).map fun v =>
      { c with tenantLane := (all 256).foldl (fun t e => tset none t e (some v)) c.tenantLane }
  | _ => none

/-- CLASS_CONFIG (R126): in force at each port from its next frame boundary. -/
def execClassConfig (h : Hcp) (recs : List Param) (s : State) : Out :=
  .next (runHcp { opcode := 0x0402, classC := true, owner := true } h s fun s =>
    match applyRecs s classRec 0 s.fab.cls recs with
    | .error i => failsAt s i
    | .ok c =>
      let old := (List.range 101).map fun p => (p, some (clsAt s p))
      okay { s with fab := { s.fab with cls := c, oldCls := old } })

/-- A bank is well formed: 1 to 256 entries, intervals in range, cycle_time at least 10 ns, css entries 0x80 and their
cycle equal to pan_len (R129, R130). -/
def bankOk (s : State) (b : SluiceBank) : Bool :=
  decide (1 ≤ b.entries.length ∧ b.entries.length ≤ 256 ∧ 1 ≤ b.cycleTime ∧ b.cycleTime < 2 ^ 32)
    && b.entries.all (fun e => decide (1 ≤ e.interval ∧ e.interval ≤ 16777215) && (!e.css || e.gates == 0x80))
    && (!(b.entries.any SluiceEntry.css) || s.css.image.isNone || b.cycleTime * 10 == panNs s)

/-- An armed SLUICE_BANK action will activate a bank of a port (R131). -/
def bankPending (s : State) (port bank : Nat) : Bool :=
  s.tau.units.any fun e => e.2.target == 7 && tauLive e.2 && b2n (bitAt e.2.arg 8) == bank
    && (e.2.arg.toNat % 256 == port || e.2.arg.toNat % 256 == 255)

/-- A bank is written whole: the poison of its words is cleared (R28). -/
def bankWritten (s : State) (port bank : Nat) : State := unpoisonWhere s 6 fun k => k / 256 == port * 2 + bank

/-- SLUICE_LOAD (R131, R162): into the inactive bank of a port. -/
def execSluiceLoad (h : Hcp) (port bank : Nat) (b : SluiceBank) (s : State) : Out :=
  .next (runHcp { opcode := 0x0403, classC := true, owner := true } h s fun s =>
    if 96 ≤ port ∨ 2 ≤ bank ∨ ¬ bankOk s b then fails s .invalidArgument 0
    else if bankPending s port bank then fails s .busy 0
    else
      let x := tget ({} : Sluice) s.fab.sluices port
      if x.active = bank then fails s .refused 0x0303
      else if !streamsHold s port (some (bank, b)) then fails s .refused 0x000F
      else
        let x' := if bank = 0 then { x with bank0 := some b } else { x with bank1 := some b }
        okay (bankWritten { s with fab := { s.fab with sluices := tset {} s.fab.sluices port x' } } port bank))

/-- The tag settings after one record of TAG_CONFIG: 1 PVID, 2 accept, 3 VLAN (VID, members, untagged), whose masks name no
reserved port (R8, R308). -/
def tagRec (s : State) (f : Fabric) (p : Param) : Option Fabric :=
  let ps := (List.range 101).filter fun q => !portReserved s q && (p.port == 255 || p.port == q)
  let each := fun (g : TagPort → TagPort) => { f with tags := ps.foldl (fun t q => tmod {} t q g) f.tags }
  match p.key with
  | 1 => if ps.isEmpty then none else (recNat p 1 4094).map fun v => each fun x => { x with pvid := v }
  | 2 => if ps.isEmpty then none
    else (recEnum p 3).map fun v => each fun x => { x with acceptTagged := v != 1, acceptUntagged := v != 0 }
  | 3 =>
    match p.val with
    | .bytes b =>
      let vid := leAt b 0 2
      let named := setOf (BitVec.ofNat 128 (leAt b 2 16)) ++ setOf (BitVec.ofNat 128 (leAt b 18 16))
      if b.length ≠ 34 ∨ vid = 0 ∨ 4095 ≤ vid ∨ named.any (portReserved s) then none
      else
        let old := (tget none f.vlans vid).getD {}
        let v := { old with
          members := BitVec.ofNat 128 (leAt b 2 16), untagged := BitVec.ofNat 128 (leAt b 18 16) }
        some { f with vlans := tset none f.vlans vid (some v) }
    | _ => none
  | _ => none

/-- TAG_CONFIG (R138). -/
def execTagConfig (h : Hcp) (recs : List Param) (s : State) : Out :=
  .next (runHcp { opcode := 0x0404, classC := true, owner := true } h s fun s =>
    match applyRecs s (tagRec s) 0 s.fab recs with
    | .error i => failsAt s i
    | .ok f => okay { s with fab := f })

/-- The PRP pairs after one record of PRP_CONFIG: 1 enable, the element names the pair (R308). -/
def prpRec (e : NatSet) (p : Param) : Option NatSet :=
  if p.key = 1 ∧ p.elem < 6 then (recEnum p 2).map fun v => if v = 1 then sadd e p.elem else sdel e p.elem else none

/-- PRP_CONFIG (R140). -/
def execPrpConfig (h : Hcp) (recs : List Param) (s : State) : Out :=
  .next (runHcp { opcode := 0x0405, classC := true, owner := true, features := [7] } h s fun s =>
    match applyRecs s prpRec 0 s.fab.prp.enabled recs with
    | .error i => failsAt s i
    | .ok e => okay { s with fab := { s.fab with prp := { s.fab.prp with enabled := e } } })

/-- FRER_STATUS (R139): the counters of a recovery function. -/
def execFrerStatus (h : Hcp) (fn : Nat) (s : State) : Out :=
  .next (runHcp { opcode := 0x0406, features := [6] } h s fun s =>
    if 4096 ≤ fn then fails s .invalidArgument 0
    else
      let r := tget ({} : Recovery) s.fab.recovery fn
      okWith s (leBytes 8 r.outOfOrder ++ leBytes 8 r.rogue ++ leBytes 8 r.passed ++ leBytes 8 r.discarded
        ++ leBytes 8 r.lost ++ leBytes 8 r.tagless ++ leBytes 8 r.resets ++ leBytes 8 r.latentErrors))

/-- FDB_ADD (R143): a static entry; it replaces what the address had. -/
def execFdbAdd (h : Hcp) (mac : Mac) (fid : Nat) (dest : FdbDest) (s : State) : Out :=
  .next (runHcp { opcode := 0x0407, classC := true, owner := true } h s fun s =>
    let bad : Bool := match dest with | .port p => portReserved s p | .mask i => decide (1024 ≤ i)
    if decide (4096 ≤ fid) || bad then fails s .invalidArgument 0
    else
      okay (fdbPlace (fdbDrop s mac fid)
        { mac := mac, fid := fid, dest := dest, isStatic := true, tenant := h.tenant, seenAt := s.mono, newGen := false
          inCam := false }))

/-- FDB_DELETE (R143). -/
def execFdbDelete (h : Hcp) (mac : Mac) (fid : Nat) (s : State) : Out :=
  .next (runHcp { opcode := 0x0408, classC := true, owner := true } h s fun s =>
    okay (fdbEased { s with fab := { s.fab with fdb := { s.fab.fdb with
        entries := s.fab.fdb.entries.filter fun e => !(e.isStatic && e.mac == mac && e.fid == fid) } } }))

/-- An entry that FDB_FLUSH removes. -/
def flushes (sel : FlushSel) (e : FdbEntry) : Bool :=
  match sel with
  | .all => true
  | .learned => !e.isStatic
  | .static => e.isStatic
  | .byPort p => e.dest == .port p
  | .byFid f => e.fid == f

/-- FDB_FLUSH (R143). -/
def execFdbFlush (h : Hcp) (sel : FlushSel) (s : State) : Out :=
  .next (runHcp { opcode := 0x0409, classC := true, owner := true } h s fun s =>
    if (match sel with | .byPort p => portReserved s p | _ => false) then fails s .invalidArgument 0
    else okay { s with fab := { s.fab with fdb := { s.fab.fdb with
        entries := s.fab.fdb.entries.filter fun e => !flushes sel e, full := false } } })

/-- FDB_RESALT (R144): triggers a re-salt. -/
def execFdbResalt (h : Hcp) (s : State) : Out :=
  .next (runHcp { opcode := 0x040A, classC := true, owner := true } h s fun s => okay (resaltOn s false))

/-- BITTERN_WATCH (R147): arms watch counter `k` at zero, also one that another tenant has armed (DESIGN CHOICE, log: R147 bars
only clearing it). -/
def execBitternWatch (h : Hcp) (k : Nat) (f : WatchFilter) (s : State) : Out :=
  .next (runHcp { opcode := 0x040B } h s fun s =>
    if 16 ≤ k ∨ f.port.any (portReserved s) then fails s .invalidArgument 0
    else
      let w : Watch := { filter := f, owner := h.tenant, frames := 0, bytes := 0 }
      okay { s with fab := { s.fab with bit := { s.fab.bit with watches := tset none s.fab.bit.watches k (some w) } } })

/-- Keys `a` to `a + 15` of a counter table zeroed. -/
def zeroRow (t : Table (BitVec 64)) (a : Nat) : Table (BitVec 64) :=
  (List.range 16).foldl (fun t r => tset 0 t (a + r) 0) t

/-- BITTERN_CLEAR (R147): tenant 0 zeroes any counter, another tenant its own and the watches it armed. -/
def execBitternClear (h : Hcp) (sel : BitternSel) (s : State) : Out :=
  .next (runHcp { opcode := 0x040C } h s fun s =>
    let b := s.fab.bit
    let put := fun (b : Bittern) => okay { s with fab := { s.fab with bit := b } }
    let zw := fun (w : Watch) => { w with frames := 0, bytes := 0 }
    match sel with
    | .port p =>
      if h.tenant ≠ 0 then fails s .notPermitted rRight
      else if portReserved s p then fails s .invalidArgument 0
      else put { b with ports := zeroRow b.ports (p * 16) }
    | .tenant t =>
      if h.tenant ≠ 0 ∧ t ≠ h.tenant then fails s .notPermitted rRight
      else if 256 ≤ t then fails s .invalidArgument 0
      else put { b with tenants := zeroRow b.tenants (t * 16) }
    | .watch k =>
      match tget none b.watches k with
      | some w =>
        if h.tenant ≠ 0 ∧ w.owner ≠ h.tenant then fails s .notPermitted rRight
        else put { b with watches := tset none b.watches k (some (zw w)) }
      | none => if 16 ≤ k then fails s .invalidArgument 0 else okay s
    | .all =>
      if h.tenant ≠ 0 then fails s .notPermitted rRight
      else put { b with ports := [], tenants := [], watches := tmap none b.watches fun _ o => o.map zw })

end Sys2Proof.Machine
end

