-- ==== Sys2Proof/Machine/SharedOps.lean ====
section
/-! DEFINITION. Operations more than one family uses: twin duties (R214, R217), the Process Data Store (R222 to R226) and
delivery through the steering table (R293). -/

namespace Sys2Proof.Machine

/-! ## Twin pair -/

/-- This device holds the duties of the Active role: it has no twin, or is ACTIVE or ALONE (R214, R217). -/
def twinDuties (s : State) : Bool :=
  s.ine.twin.partner.isNone || s.ine.twin.state == .active || s.ine.twin.state == .alone

/-- The twin state written. -/
def putTwin (s : State) (x : Twin) : State := { s with ine := { s.ine with twin := x } }

/-- A pan runs on this node, so that a pan boundary comes. -/
def panRuns (s : State) : Bool := s.css.slotsRun && s.tms.tsValid

/-- A twin event (R289, type 14): kind 0 twin_swap, 1 twin_takeover, 2 twin_partner_lost, with its INE_ALARM bit. -/
def twinEvent (s : State) (kind : Nat) : State := event (setAlarm s .ine (9 + kind)) 0 14 [BitVec.ofNat 8 kind]

/-- Something sent on TW0 between the devices of a pair: how many frames and octets it takes is not given, free values (R187). -/
def twinSend (s : State) (x : Sent) : State :=
  let n := draw s
  let o := draw n.2
  emit (countPort (countPort o.2 95 0 n.1) 95 1 o.1) x

/-- Something of the pair received on TW0. -/
def twinGot (s : State) : State :=
  let n := draw s
  let o := draw n.2
  countPort (countPort o.2 95 4 n.1) 95 5 o.1

/-- The commits that wait for the partner's acknowledgement become ready: a device alone decides itself (R215). -/
def mirrorsAlone (s : State) : State :=
  { s with css := { s.css with slots := s.css.slots.map fun x =>
      match x.mirrored with
      | some d => { x with dataSeq := x.prodSeq, data := d, ready := true, mirrored := none }
      | none => x } }

/-- A device enters a twin state; SYNCING requests the full transfer (Table 8-10). -/
def twinEnter (s : State) (st : TwinState) : State :=
  let x := { s.ine.twin with state := st, atBoundary := none, finalSent := false, imagesOn := true }
  match st with
  | .syncing => twinSend (putTwin s { x with requested := true, syncAt := s.mono }) .twinRequest
  | .standby => putTwin s { x with imageAt := s.mono, due := false }
  | .alone => mirrorsAlone (putTwin s { x with due := false })
  | _ => putTwin s { x with due := false }

/-- A device takes or drops the duties at the next pan boundary, or at once where no pan runs (Table 8-10; DESIGN
CHOICE, log: the table names the pan boundary only). -/
def twinMove (s : State) (st : TwinState) : State :=
  if panRuns s then putTwin s { s.ine.twin with atBoundary := some st } else twinEnter s st

/-! ## Manifest keys -/

/-- A signature by a manifest key with a usage bit (R313, R87, R257): the key index at end − 65, the signature at end − 64,
over every byte before the signature. -/
def manifestSigned (s : State) (b : Bytes) (usage : Nat) : Bool :=
  match s.fw.running with
  | none => false
  | some im =>
    match im.manifest[(b.getD (b.length - 65) 255).toNat]? with
    | none => false
    | some (use, key) =>
      bitAt use usage && ecdsaOk key (BitVec.ofNat 512 (beNum (b.drop (b.length - 64)))) (sha256 (b.take (b.length - 64)))

/-! ## Process Data Store -/

/-- Variable `v`. -/
def pdVar (s : State) (v : Nat) : PdVar := tget {} s.lgb.vars v

/-- Variable `v` replaced. -/
def putVar (s : State) (v : Nat) (x : PdVar) : State := { s with lgb := { s.lgb with vars := tset {} s.lgb.vars v x } }

/-- A write of variable `v` would find its last word poisoned, of which it writes only a part (R28, R29). -/
def pdBlocked (s : State) (v : Nat) : Bool := poisoned s 7 (Config.pdTail v) && (pdVar s v).len % 8 != 0

/-- The buffers of variable `v` are written whole (R28). -/
def pdClean (s : State) (v : Nat) : State := unpoison (unpoisonEntry s 7 (16384 + v)) 7 (Config.pdTail v)

/-- A writer of bus or network kind (Table 9-1). -/
def pdFed : Option Writer → Bool
  | some (.legacyBus _ _) | some (.trdp _ _) | some (.cssWindow _) => true
  | _ => false

/-- A value committed by the variable's writer (R225, R226); in degraded mode a bus- or network-fed variable stays stale
(DEDUCED, log). A write that meets a poisoned word is not performed (R29), one of whole words clears the poison (R28). -/
def pdCommit (s : State) (v : Nat) (value : Bytes) : State :=
  if pdBlocked s v then uncorrectable s 7 (Config.pdTail v)
  else
    let x := pdVar s v
    putVar (pdClean s v) v
      { x with value := value, seq := x.seq + 1, at_ := s.mono, stale := s.glob.degraded && pdFed x.writer, agePans := 0 }

/-- A variable goes stale; the map entries that name it count it (R226, Table 9-9). -/
def pdGoStale (s : State) (v : Nat) : State :=
  let x := pdVar s v
  if x.stale then s
  else
    let s := putVar s v { x with stale := true }
    { s with lgb := { s.lgb with
        map := tmap none s.lgb.map fun _ o => o.map fun r =>
          if r.entry.var == v then { r with staleCount := sat32 (r.staleCount + 1) } else r } }

/-- Degraded mode: every bus- and network-fed variable goes stale (R226). -/
def pdDegrade (s : State) : State :=
  (s.lgb.vars.map Prod.fst).foldl (fun s v =>
    if pdFed (pdVar s v).writer then pdGoStale s v else s) s

/-- The kind of a writer in the order of Table 9-1, and its identity in 4 B. -/
def writerKind : Writer → Nat × Nat
  | .tenant t => (0, t)
  | .mgp => (1, 0)
  | .legacyBus (.mvb n) e => (2, n * 65536 + e)
  | .legacyBus .wtb e => (2, 3 * 65536 + e)
  | .trdp c _ => (3, c.toNat)
  | .cssWindow w => (4, w)

/-- A write by a party that is not the writer: counted, and a PD_OWNER windrow (R223). -/
def pdMismatch (s : State) (v : Nat) (w : Writer) : State :=
  report { s with lgb := { s.lgb with mismatch := s.lgb.mismatch + 1 } } 0x9001
    (leBytes 2 v ++ leBytes 1 (writerKind w).1 ++ [0, 0, 0] ++ leBytes 4 (writerKind w).2)

/-- A variable's age: pans for one written by a CSS window, else ms, saturating (R226). -/
def pdAge (s : State) (x : PdVar) : Nat :=
  match x.writer with
  | some (.cssWindow _) => x.agePans
  | _ => sat32 ((s.mono - x.at_) / 1000000)

/-- A variable is stale, or a word of it is poisoned (R226, Table 1-5). -/
def pdStale (s : State) (v : Nat) : Bool := (pdVar s v).stale || entryPoisoned s 7 (16384 + v) || poisoned s 7 (Config.pdTail v)

/-- The variables 8g to 8g + 7 that window `w` writes, in ascending order (R73). -/
def groupVars (s : State) (w g : Nat) : List Nat :=
  (List.range 8).map (8 * g + ·) |>.filter fun v => (pdVar s v).writer == some (.cssWindow w) && (pdVar s v).len != 0

/-- The data of a valid copy laid into the variables of a group, each its configured length (R73). -/
def pdLay (s : State) : List Nat → Bytes → State
  | [], _ => s
  | v :: r, b =>
    let n := (pdVar s v).len
    let rest := b.drop n
    if b.length < n then s else pdLay (pdCommit s v (b.take n)) r rest

/-- The variables of a group whose bytes are not all present in a delivered copy (R73). -/
def pdShort (s : State) : List Nat → Bytes → List Nat
  | [], _ => []
  | v :: r, b =>
    let n := (pdVar s v).len
    if b.length < n then v :: r else pdShort s r (b.drop n)

/-- The variables of a window age by its pans (R80, R226). -/
def pdAgePans (s : State) (vs : List Nat) (pans : Nat) : State :=
  vs.foldl (fun s v =>
    let x := pdVar s v
    let age := min 4095 (x.agePans + pans)
    let late := match x.timeout with | some t => decide (t * 1000 < age * panUs s) | none => false
    let s := putVar s v { x with agePans := age }
    if late then pdGoStale s v else s) s

/-- A window of delivery 2 that names only variables of other writers is set to delivery 0, and a windrow records it
(R223). -/
def windowOwner (s : State) (w : Nat) (x : RxWin) : Bool :=
  let vs := (List.range 8).map (x.delivery % 1024 * 8 + ·)
  x.delivery / 1024 == 2 && vs.all (fun v => (pdVar s v).writer != some (.cssWindow w))
    && vs.any fun v => (pdVar s v).writer.isSome

/-- The windows after instantiation, checked against the writers of the store (R223). -/
def ownWindows (s : State) : State :=
  ((List.range s.css.windows.length).zip s.css.windows).foldl (fun s e =>
    if windowOwner s e.1 e.2 then
      report (modWin s e.1 fun x => { x with delivery := 0 }) 0x9001
        (leBytes 2 e.1 ++ leBytes 1 4 ++ [0, 0, 0] ++ leBytes 4 e.1)
    else s) s

/-! ## Steering (R293) -/

/-- A delivery through entry `e` of the steering table: into the tenant's RX queue it names, or discarded with PORT_DOWN
where the entry is empty or that queue is disabled. -/
def steerTo (s : State) (e ingress : Nat) (mk : Nat → RxItem) : State :=
  let drop := fun (t : Nat) =>
    discard s { port := 96, reason := 13, ingress := ingress, egress := 96, tenant := t, cls := (mk 0).cls, len := (mk 0).len }
  match tget none s.host.steering e with
  | none => drop 0
  | some (t, q) =>
    if (tget ({} : HostQueue) (tenant s t).rxq q).enabled then
      modTenant s t fun x => { x with waiting := x.waiting ++ [mk q] }
    else drop t

end Sys2Proof.Machine
end

