-- ==== Sys2Proof/Machine/Admission.lean ====
section
/-! DEFINITION. The commands of stream admission: the two-phase installation, suspension and withdrawal of streams
(spec/06_stream_admission.md). -/

namespace Sys2Proof.Machine

/-! ## Alias lookup and paths -/

/-- The active alias bank. -/
def aliasBank (s : State) (b : Nat) : Table (Option AliasEntry) := if b = 0 then s.ine.bank0 else s.ine.bank1

/-- A TFA with car 0 replaced by the node's own car (R208). -/
def tfaOf (s : State) (tfa : Nat) : Nat := if tfa / 1024 = 0 then s.ine.car * 1024 + tfa else tfa

/-- The entry of a TFA in the active bank; a poisoned entry is a miss (R208, Table 1-5). -/
def aliasLookup (s : State) (tfa : Nat) : Option AliasEntry :=
  ((aliasBank s s.ine.activeBank).find? fun e => (e.2.any fun a => a.tfa == tfaOf s tfa)
    && !entryPoisoned s 4 (s.ine.activeBank * 4096 + e.1)).bind Prod.snd

/-- The position of the node an entry resolves to: that of its source node; for a static entry the owner of a function
with its MAC, else the role 0 node of the car (DEDUCED, log). -/
def destPosition (s : State) (a : AliasEntry) : Option Nat :=
  if !a.isStatic then some a.source
  else
    let owner := s.ine.run.funcs.find? fun f => f.2.any fun e => e.mac == a.mac
    let node : Option NodeRec := match owner with
      | some f => s.ine.nodes.find? fun n => n.unit == f.1
      | none => s.ine.nodes.find? fun n => n.car == a.tfa / 1024 && n.role == 0
    node.map NodeRec.position

/-- The BB egress of a node on a line towards the rear or the front: BB0 and BB2 are dir 1, BB1 and BB3 dir 2 (R201). -/
def bbEgress (n : NodeRec) (lineB toRear : Bool) : Nat := b2n lineB * 2 + b2n (toRear != n.reversed)

/-- One BB hop of a path: the node at a position, with the port of the line towards the next one up; a twin pair stands for
both its devices (R153, Table 8-4). -/
def bbHop (s : State) (lineB rear : Bool) (k : Nat) : Option PathHop :=
  (s.ine.nodes.find? fun n => n.position == k).bind fun n =>
    let e := bbEgress n lineB rear
    let up := if k = s.ine.position then linkIsUp s e else bitAt n.lines e || n.twin
    if up then some { position := k, port := e } else none

/-- The BB hops of a path from position `p` to `q` on a line; none where no path exists on it. -/
def bbHops (s : State) (p q : Nat) (lineB : Bool) : Option (List PathHop) :=
  let rear := decide (p < q)
  let ps := if rear then (List.range (q - p)).map (p + ·) else (List.range (p - q)).map fun i => p - i
  ps.mapM (bbHop s lineB rear)

/-- The last hop: the egress port of the destination node. On this node it is that of the static FDB entry (R154); on another node no
message tells it, and it is a free value (log). -/
def lastHop (s : State) (q : Nat) (a : AliasEntry) : Option PathHop × State :=
  if q = s.ine.position then
    ((((fdbFind s a.mac ((vlanOf s a.vlan).fid.getD a.vlan)).filter FdbEntry.isStatic).bind fun e =>
      match destPorts s e.dest with
      | [p] => some { position := q, port := p }
      | _ => none), s)
  else
    let n := draw s
    (some { position := q, port := n.1 % 101 }, n.2)

/-! ## Hop checks -/

/-- A failure record (Table 6-5). -/
def failRec (reason hop port cls : Nat) (node : UnitId) (needed available unit : Nat) (lineB : Bool) (n : Nat) : FailRec :=
  { reason := reason, hop := hop, port := port, cls := cls, node := node, needed := needed, available := available
    unit := unit, held := false, lineB := lineB, hopCount := n }

/-- The class of a request. -/
def prepCls (p : Prepare) : Nat := if p.cls5 then 5 else 4

/-- The same stream: origin and stream_id (R154). -/
def sameStream (a b : StreamName) : Bool := a.origin == b.origin && a.streamId == b.streamId

/-- The same attempt of a stream, on either line. -/
def sameAttempt (a b : StreamName) : Bool := sameStream a b && a.txn == b.txn

/-- A hop at which a FRER stream receives its numbers: from no BB port into the backbone (R139). -/
def generates (frer : Bool) (inPort egress : Nat) : Bool := frer && decide (4 ≤ inPort ∧ egress < 4)

/-- A hop at which a FRER stream leaves the backbone (R139). -/
def recovers (frer : Bool) (egress : Nat) : Bool := frer && decide (4 ≤ egress)

/-- The FRER functions of a kind in use: 2048 streams may be generated and 4096 recovered (R139). Entries and holds of line A
stand for those of line B beside them. -/
def frerLeft (s : State) (gen : Bool) : Nat :=
  let is := fun (frer lineB : Bool) (inPort egress : Nat) =>
    !lineB && (if gen then generates frer inPort egress else recovers frer egress)
  let n := (s.fab.streams.filter fun e => e.2.any fun x => is x.frer x.lineB (x.port.getD 0) x.egress).length
    + (s.adm.holds.filter fun h => is h.prep.frer h.prep.lineB h.inPort h.port).length
  (if gen then 2048 else 4096) - n

/-- The checks of one hop at this node in the order of Table 6-6 and R185; its hold where they pass. At the last hop of a FRER
stream the figures of one line's hold serve the other too, since one copy leaves, and each line has its entry (R139, R153). -/
def hopCheck (s : State) (p : Prepare) (hop port inPort : Nat) : Except FailRec Hold :=
  let cls := prepCls p
  let no := fun (reason needed available unit : Nat) =>
    Except.error (failRec reason hop port cls s.otp.unitId needed available unit p.lineB p.hops.length)
  let b := activeBank s port
  let f := classFigures s port cls p.maxFrame b
  let rho := declaredRate p.n p.maxFrame p.interval
  let shared := p.frer && s.adm.holds.any fun h => sameAttempt h.name p.name && h.port == port
  let rho := if shared then 0 else rho
  let burst := if shared then 0 else burstAt p.n p.maxFrame p.interval p.bound
  let rin := if inPort = 96 then 0 else rateBps s inPort
  let capped := s.adm.cap * rateBps s port * f.openNs / (100 * f.cycleNs)
  match portKind port with
  | .bb | .cp | .sg | .wl | .tw | .host =>
    if pausesOn s port then no 4 0 0 0
    else if !s.fab.admitted then no 5 0 0 0
    else if maxFrame s port < p.maxFrame then no 6 p.maxFrame (maxFrame s port) 4
    else if f.openNs = 0 then no 7 (((p.maxFrame + 20) * 8000 + speedMbps s port - 1) / speedMbps s port) (f.longest.getD 0) 0
    else if capped < rateSum s port + rho then no 8 ((rateSum s port + rho) / 1000) (capped / 1000) 1
    else
      match hopBound s port cls p.maxFrame rin burst b with
      | none => no 8 ((rateSum s port + rho) / 1000) (capped / 1000) 1
      | some d =>
        let cells := if shared then 0 else hopCells p.n d p.interval p.maxFrame
        let free := s.fab.brine.pool - poolUsed s
        let entries := 8192 - (s.fab.streams.filter fun e => e.2.isSome).length - s.adm.holds.length
        let load := egressLoad s port cls burst
        let noFrer := (generates p.frer inPort port && frerLeft s true == 0) || (recovers p.frer port && frerLeft s false == 0)
        if free < cells then no 9 cells free 2
        else if entries == 0 || (!shared && noFrer) then no 10 1 0 3
        else if s.fab.streams.any fun e => e.2.any fun x =>
            x.bySource == p.identMode && x.mac == p.mac && x.vlan == p.vlan && x.egress == port
              && (x.origin != p.name.origin || x.streamId != p.name.streamId) then no 11 0 0 0
        else Except.ok { name := p.name, hop := hop, port := port, inPort := inPort, prep := p, dHop := d, load := load
                         burst := burst, rate := rho, cells := cells, at_ := s.mono, installAt := none }
  | _ => no 4 0 0 0

/-- A hop checked; a refusal that the holds of others alone cause sets held_capacity (R160). -/
def hopTry (s : State) (p : Prepare) (hop port inPort : Nat) : Except FailRec Hold :=
  match hopCheck s p hop port inPort with
  | .ok h => .ok h
  | .error f =>
    let own := s.adm.holds.filter fun h => sameAttempt h.name p.name
    match hopCheck { s with adm := { s.adm with holds := own } } p hop port inPort with
    | .ok _ => .error { f with held := true }
    | .error _ => .error f

/-- The hops of a path at this node, with their indexes from 1. -/
def ownHops (s : State) (p : Prepare) : List (Nat × PathHop) :=
  (((List.range p.hops.length).map (· + 1)).zip p.hops).filter fun e => e.2.position == s.ine.position

/-- This node's hops of a PREPARE served in path order (R160): holds placed, or the first refusal. -/
def serveHops (s : State) (p : Prepare) (inPort : Nat) : List (Nat × PathHop) → State × Option FailRec
  | [] => (s, none)
  | (i, h) :: r =>
    match hopTry s p i h.port inPort with
    | .error f => (s, some f)
    | .ok x => serveHops { s with adm := { s.adm with holds := s.adm.holds ++ [x] } } p inPort r

/-- The holds of an attempt at this node. -/
def holdsOf (s : State) (n : StreamName) : List Hold := s.adm.holds.filter fun h => h.name == n

/-- Every hold and entry of a stream at this node removed (R159). -/
def removeLocal (s : State) (n : StreamName) : State :=
  { s with
    adm := { s.adm with
      holds := s.adm.holds.filter fun h => !sameStream h.name n
      refusals := s.adm.refusals.filter fun e => !sameStream e.1 n }
    fab := { s.fab with
      streams := tmap none s.fab.streams fun _ o => o.filter fun x => !(x.origin == n.origin && x.streamId == n.streamId) } }

/-! ## The origin -/

/-- The name of an origin stream on a line. -/
def lineName (s : State) (o : OriginStream) (lineB : Bool) : StreamName :=
  { origin := s.otp.unitId, streamId := o.streamId, txn := o.txn, lineB := lineB }

/-- The lines of an origin stream: both with frer, else the preferred one (R153). -/
def linesOf (o : OriginStream) : List Bool := if o.req.frer then [false, true] else [o.req.lineB]

/-- The names of an origin stream, one a line. -/
def originNames (s : State) (o : OriginStream) : List StreamName := (linesOf o).map (lineName s o)

/-- The key of hop `i` on the line of a name. -/
def keyOf (o : OriginStream) (n : StreamName) (i : Nat) : Nat := b2n (o.req.frer && n.lineB) * 64 + i

/-- The hops of an origin stream with their keys, line A first. -/
def allHops (o : OriginStream) : List (Nat × PathHop) :=
  (((List.range o.path.length).map (· + 1)).zip o.path) ++ (((List.range o.pathB.length).map (· + 65)).zip o.pathB)

/-- The hop of a key. -/
def hopAt (o : OriginStream) (k : Nat) : Option PathHop := ((allHops o).find? fun e => e.1 == k).map Prod.snd

/-- The class of an origin stream. -/
def originCls (o : OriginStream) : Nat := if o.req.cls5 then 5 else 4

/-- An origin stream by identifier. -/
def originOf (s : State) (id : Nat) : Option OriginStream := s.adm.streams.find? fun o => o.streamId == id

/-- An origin stream replaced. -/
def putOrigin (s : State) (o : OriginStream) : State :=
  { s with adm := { s.adm with streams := s.adm.streams.map fun x => if x.streamId == o.streamId then o else x } }

/-- An origin stream removed, with its holds and entries here; RELEASE goes to the other hops. -/
def originDrop (s : State) (o : OriginStream) : State :=
  let s' := removeLocal { s with adm := { s.adm with streams := s.adm.streams.filter fun x => x.streamId != o.streamId } }
    (lineName s o false)
  emitAll s' ((originNames s o).map Sent.release)

/-- The refusal payload of Table 6-5. -/
def refusalBytes (f : FailRec) (computed : Option Nat) (requested : Nat) : Bytes :=
  leBytes 1 f.reason ++ leBytes 1 f.hop ++ leBytes 1 f.port ++ leBytes 1 f.cls ++ leBytes 8 f.node.toNat
    ++ leBytes 4 f.needed ++ leBytes 4 f.available ++ leBytes 1 f.unit ++ leBytes 1 (b2n f.held + 2 * b2n f.lineB)
    ++ leBytes 2 f.hopCount ++ leBytes 4 (computed.getD 0xFFFFFFFF) ++ leBytes 4 requested

/-- STREAM_ADMIT's opcode. -/
abbrev opAdmit : Nat := 0x0501

/-- A port on which the admission channel runs: a fabric-up BB port, or TW0 (R159, R206). -/
def channelUp (s : State) (p : Nat) : Bool := if p = 95 then linkIsUp s 95 else decide (p < 4) && cssPort s p

/-- The ports that an admission frame of this node leaves on: those of its line, and TW0 (R159, R307). -/
def channelPorts (s : State) (lineB : Bool) : List Nat :=
  ((if lineB then [2, 3] else [0, 1]) ++ [95]).filter (channelUp s)

/-- The waiting STREAM_ADMIT of an origin stream completes. -/
def completeAdmit (s : State) (o : OriginStream) (st : Status) (reason : Nat) (payload : Bytes) : State :=
  match o.hcp with
  | some h => respond s h opAdmit st reason payload
  | none => s

/-- The request is refused: RELEASE, then REFUSED with Table 6-5 (R161, R163). -/
def refuseStream (s : State) (o : OriginStream) (f : FailRec) (computed : Option Nat) : State :=
  completeAdmit (originDrop s o) o .refused f.reason (refusalBytes f computed o.req.bound)

/-- The end-to-end bound: the D_hops and link delays of the path (R155), with frer the larger of the two lines (R153). -/
def pathSum (o : OriginStream) : Nat :=
  let cost := fun (b : Bool) => (((allHops o).filter fun e => decide (64 < e.1) == b).map fun e => tget 0 o.dHops e.1).sum
  max (o.linkDelay + cost false) (o.linkDelayB + cost true)

/-- The key of the hop with the largest D_hop. -/
def worstHop (o : OriginStream) : Nat :=
  ((allHops o).map Prod.fst).foldl (fun b i => if tget 0 o.dHops b < tget 0 o.dHops i then i else b) 1

/-- The failure record of a hop by its key: 0 names the request itself. -/
def hopFail (s : State) (o : OriginStream) (reason k needed available : Nat) : FailRec :=
  let h := hopAt o k
  let node := match h with
    | none => 0
    | some h =>
      if h.position = s.ine.position then s.otp.unitId
      else match s.ine.nodes.find? fun n => n.position == h.position with
        | some n => n.unit
        | none => 0
  failRec reason (k % 64) ((h.map PathHop.port).getD 255) (originCls o) node needed available 0
    (if o.req.frer then decide (64 < k) else o.req.lineB) o.path.length

/-- Every hop has answered: INSTALL with T_act 1 ms ahead, or BOUND_EXCEEDED (R155, R159, R163). -/
def decideStream (s : State) (o : OriginStream) : State :=
  if o.dHops.length < (allHops o).length then putOrigin s o
  else
    let sum := pathSum o
    if o.req.bound < sum then refuseStream s o (hopFail s o 12 (worstHop o) sum o.req.bound) (some sum)
    else
      let t := trtNs s + 1000000
      let s' := putOrigin s { o with state := .installing, sum := sum, tAct := t }
      let s' := { s' with adm := { s'.adm with
          holds := s'.adm.holds.map fun h =>
            if sameAttempt h.name (lineName s o false) then { h with installAt := some t } else h } }
      (originNames s o).foldl
        (fun s n => emitVia s (channelPorts s n.lineB) (.install n (t / 1000000000) (t % 1000000000))) s'

/-- D_hops gathered into an origin stream, by key. -/
def addHops (o : OriginStream) (hs : List (Nat × Nat)) : OriginStream :=
  { o with dHops := hs.foldl (fun t e => tins t e.1 e.2) o.dHops }

/-- A request within the ranges of Table 6-1. -/
def reqOk (r : StreamReq) : Bool :=
  decide (r.ingressPort ≤ 96) && decide (64 ≤ r.maxFrame ∧ r.maxFrame ≤ 9216)
    && decide (125 ≤ r.interval ∧ r.interval ≤ 1000000) && decide (1 ≤ r.n ∧ r.n ≤ 255)
    && decide (1000 ≤ r.bound ∧ r.bound ≤ 1000000000) && decide (r.eir < 2 ^ 32) && decide (r.ebs < 2 ^ 24)

/-- The delay of the links between the hops of a line: the first as measured here, the others free values (log). -/
def drawDelays : Nat → State → Nat × State
  | 0, s => (0, s)
  | n + 1, s =>
    let d := draw s
    let r := drawDelays n d.2
    (d.1 + r.1, r.2)

/-- The PREPARE of a request on a line. -/
def prepareOf (s : State) (o : OriginStream) (a : AliasEntry) (lineB : Bool) : Prepare :=
  { name := lineName s o lineB, maxFrame := o.req.maxFrame, n := o.req.n, cls5 := o.req.cls5, interval := o.req.interval
    bound := o.req.bound, rho := declaredRate o.req.n o.req.maxFrame o.req.interval / 1000
    burst := declaredBurst o.req.n o.req.maxFrame, frer := o.req.frer, lineB := lineB
    deliverInWindow := o.req.deliverInWindow, identMode := o.req.identMode
    mac := if o.req.identMode then o.req.srcMac else a.mac, vlan := a.vlan
    hops := if o.req.frer && lineB then o.pathB else o.path }

/-- The own hops of several PREPAREs of one request served in turn: holds placed, or the first refusal. -/
def serveAll (s : State) (inPort : Nat) : List Prepare → State × Option FailRec
  | [] => (s, none)
  | p :: r =>
    match serveHops s p inPort (ownHops s p) with
    | (s, some f) => (s, some f)
    | (s, none) => serveAll s inPort r

/-- The next stream_id that names no stream of this origin: of one more candidate than there are streams one is free (R154). -/
def freshId (s : State) : Nat :=
  (((List.range (s.adm.streams.length + 1)).map fun i => (s.adm.nextId - 1 + i) % 65535 + 1).find? fun k =>
    !s.adm.streams.any fun o => o.streamId == k).getD s.adm.nextId

/-- A request with its path begins: this node's hops are served, PREPARE goes out on each line of the stream with that line's
hops, or the refusal of the first failing hop (R153, R159). -/
def beginStream (s : State) (o : OriginStream) (a : AliasEntry) : State :=
  let ps := (linesOf o).map (prepareOf s o a)
  let s := { s with adm := { s.adm with
      streams := s.adm.streams ++ [o], nextId := (o.streamId % 65535) + 1, nextTxn := (s.adm.nextTxn % 65535) + 1 } }
  let r := serveAll s o.req.ingressPort ps
  match r.2 with
  | some f => refuseStream r.1 o f none
  | none =>
    let o := addHops o ((r.1.adm.holds.filter fun h => sameAttempt h.name (lineName s o false)).map fun h =>
      (keyOf o h.name h.hop, h.dHop))
    let s := putOrigin r.1 o
    if (allHops o).all fun e => e.2.position == s.ine.position then decideStream s o
    else ps.foldl (fun s p => emitVia s (channelPorts s p.lineB) (.prepare p.lineB p)) s

/-- A refusal of the request itself (hop 0). -/
def refuseRequest (s : State) (r : StreamReq) (reason needed available hops : Nat) : Answer :=
  .done s .refused reason (refusalBytes
    (failRec reason 0 255 (if r.cls5 then 5 else 4) 0 needed available (if reason = 3 then 5 else 0) r.lineB hops) none r.bound)

/-- The paths of a request to position `q`: its own line's, or both with frer; none where one does not exist. -/
def pathsOf (s : State) (r : StreamReq) (q : Nat) : Option (List PathHop × List PathHop) :=
  if r.frer then
    (bbHops s s.ine.position q false).bind fun a => (bbHops s s.ine.position q true).map fun b => (a, b)
  else (bbHops s s.ine.position q r.lineB).map fun a => (a, [])

/-- The delay of the links of a path: the first as this node measures it, the others free values. -/
def pathDelay (s : State) (bb : List PathHop) : Nat × State :=
  let d := drawDelays (bb.length - 1) s
  ((match bb.head? with | some e => linkDelayNs s e.port | none => 0) + d.1, d.2)

/-- STREAM_ADMIT after its checks: a reserved port (R8), the right, then the tests of the request in the order of Table 6-6,
resolution and path (R154, R159, R163). -/
def admitBody (h : Hcp) (r : StreamReq) (s : State) : Answer :=
  if portReserved s r.ingressPort then fails s .invalidArgument 0
  else if !hasRight s h.tenant 2 || (r.ingressPort != 96 && !hasPort s h.tenant r.ingressPort) then fails s .notPermitted rRight
  else if !reqOk r then refuseRequest s r 1 0 0 0
  else
    match (aliasLookup s r.destTfa).bind fun a => (destPosition s a).map fun q => (a, q) with
    | none => refuseRequest s r 2 0 0 0
    | some (a, q) =>
      let l := lastHop s q a
      match l.1, pathsOf s r q with
      | some last, some bb =>
        let n := max bb.1.length bb.2.length + 1
        if 63 < n then refuseRequest l.2 r 3 n 63 n
        else if inaugurating s then refuseRequest l.2 r 14 0 0 n
        else
          let d := pathDelay l.2 bb.1
          let e := pathDelay d.2 bb.2
          let o : OriginStream :=
            { streamId := freshId s, txn := s.adm.nextTxn, req := r, owner := h.tenant, hcp := some h
              state := .preparing, path := bb.1 ++ [last], pathB := if r.frer then bb.2 ++ [last] else [], dHops := []
              linkDelay := d.1, linkDelayB := if r.frer then e.1 else 0, sum := 0, at_ := s.mono
              tAct := 0, confirmed := [], down := [], suspendedAt := 0 }
          .wait (beginStream (if r.frer then e.2 else d.2) o a)
      | _, _ => refuseRequest s r 2 0 0 0

/-- STREAM_ADMIT (R154 to R163). -/
def execStreamAdmit (h : Hcp) (r : StreamReq) (s : State) : Out :=
  .next (runHcp { opcode := opAdmit, classC := true, features := [5] } h s (admitBody h r))

/-! ## Hop nodes -/

/-- A frame on the admission channel is received; one of a BB port goes on along its line and to TW0, as inauguration frames do
(R198, R307). -/
def passOn (s : State) (port : Nat) (x : Sent) : State :=
  emitVia (gotSent s port x) ((if port = 95 then [] else [otherPort port, 95]).filter (channelUp s)) x

/-- A PREPARE or INSTALL at a port: taken where the channel runs; on a coupler port that is fabric-down, or another port, it is
counted and discarded with FILTER_DENY (R206, R307). It ends NAP (R333). -/
def channelTake (s : State) (port : Nat) (x : Sent) (take : State → State) : State :=
  if channelUp s port then take (napEnd (passOn s port x))
  else if linkIsUp s port then
    discard (gotSent s port x) { port := port, reason := 4, ingress := port, tenant := 0, len := sentLen x }
  else s

/-- The hop records of this node for an attempt. -/
def ownRecords (s : State) (n : StreamName) : List HopRec :=
  (holdsOf s n).map fun h => { hop := h.hop, reason := 0, dHop := h.dHop }

/-- PREPARE_RECEIVE (R159, R160): a paused MGP does not answer. The last hop node sends the REPLY (R307). -/
def prepareTake (port : Nat) (p : Prepare) (s : State) : State :=
  if s.fw.phase ≠ .ready ∨ p.name.origin = s.otp.unitId then s
  else
    let mine := ownHops s p
    if mine.isEmpty then s
    else
      let r := serveHops s p port mine
      let s := match r.2 with
        | some f => { r.1 with adm := { r.1.adm with refusals := r.1.adm.refusals ++ [(p.name, f)] } }
        | none => r.1
      if (p.hops.getLast?.map PathHop.position) = some s.ine.position then
        mgpSends s (some port) (.reply { name := p.name, fail := r.2, hops := ownRecords s p.name })
      else s

/-- See `prepareTake`. -/
def prepareEffect (port : Nat) (p : Prepare) (s : State) : State :=
  channelTake s port (.prepare p.lineB p) (prepareTake port p)

/-- See `prepareEffect`. -/
def execPrepareReceive (port : Nat) (p : Prepare) (s : State) : Out := .next (prepareEffect port p s)

/-- REPLY_RECEIVE (R307): on its way each node adds its records and its failure; at the origin it decides. -/
def replyEffect (r : Reply) (s : State) : State :=
  if r.name.origin ≠ s.otp.unitId then
    let own := s.adm.refusals.find? fun e => e.1 == r.name
    let fail := match own with | some e => some e.2 | none => r.fail
    let s' := { s with adm := { s.adm with refusals := s.adm.refusals.filter fun e => e.1 != r.name } }
    mgpSends (mgpTakes s' (.reply r)) ((holdsOf s r.name).head?.map Hold.inPort) (.reply { r with fail := fail, hops := ownRecords s r.name ++ r.hops })
  else
    let s := mgpTakes s (.reply r)
    match originOf s r.name.streamId with
    | none => s
    | some o =>
      if o.state ≠ .preparing ∨ o.txn ≠ r.name.txn then s
      else
        match r.fail with
        | some f => refuseStream s o f none
        | none => decideStream s (addHops o (r.hops.map fun h => (keyOf o r.name h.hop, h.dHop)))

/-- See `replyEffect`. -/
def execReplyReceive (r : Reply) (s : State) : Out := .next (replyEffect r s)

/-- ADMISSION_INSTALL_RECEIVE (R159): the entry write is scheduled for T_act. -/
def installEffect (port : Nat) (name : StreamName) (sec ns : Nat) (s : State) : State :=
  channelTake s port (.install name sec ns) fun s =>
    { s with adm := { s.adm with
        holds := s.adm.holds.map fun h => if h.name == name then { h with installAt := some (linNs sec ns) } else h } }

/-- See `installEffect`. -/
def execAdmissionInstallReceive (port : Nat) (name : StreamName) (sec ns : Nat) (s : State) : Out :=
  .next (installEffect port name sec ns s)

/-- The neighbour behind an egress port, as the HELLO exchange or the twin link names it; 0 elsewhere (R161). -/
def neighbourOf (s : State) (p : Nat) : UnitId :=
  if p < 4 then (tget ({} : HelloLink) s.ine.hello p).partner
  else match (tget ({} : LinkRec) s.ports.links p).partner with
    | some x => x.unit
    | none => 0

/-- The stream entry of a hold (R136, R159, R164): at the first hop CBS = b_s with the requested EIR and EBS, 0 of either
disabling yellow (Table 6-1), at later hops CBS = b_k. Where a FRER stream leaves the backbone each line has its entry and its
meter, since the guarantee holds for each copy on its own line (R153). -/
def entryOf (s : State) (h : Hold) : Stream :=
  let o := if h.name.origin = s.otp.unitId then originOf s h.name.streamId else none
  let first := h.hop == 1
  let cbs := if first then declaredBurst h.prep.n h.prep.maxFrame
    else burstAt h.prep.n h.prep.maxFrame h.prep.interval h.prep.bound
  let yellow := match o with
    | some o => if first ∧ o.req.eir ≠ 0 ∧ o.req.ebs ≠ 0 then (o.req.eir * 1000, o.req.ebs) else (0, 0)
    | none => (0, 0)
  { origin := h.name.origin, streamId := h.name.streamId, txn := h.name.txn, hop := h.hop, bySource := h.prep.identMode
    mac := h.prep.mac, vlan := h.prep.vlan, port := some h.inPort
    egress := h.port, maxSdu := h.prep.maxFrame, cir := declaredRate h.prep.n h.prep.maxFrame h.prep.interval, cbs := cbs
    eir := yellow.1, ebs := yellow.2
    yellowDiscard := match o with | some o => o.req.yellowDiscard | none => false
    cls := prepCls h.prep, owner := match o with | some o => o.owner | none => 0, bound := h.dHop, frer := h.prep.frer
    lineB := h.prep.lineB, deliverInWindow := h.prep.deliverInWindow, cells := h.cells, rate := h.rate, bk := h.burst, load := h.load
    neighbour := neighbourOf s h.port, ctok := cbs * 8000000000, etok := yellow.2 * 8000000000, at_ := s.mono }

/-- The first free index of the stream table. -/
def freeStream (t : Table (Option Stream)) : Nat :=
  ((List.range 8192).find? fun i => (tget none t i).isNone).getD 8192

/-! ## States of a stream -/

/-- A free sequence recovery function (R139). -/
def freeFn (s : State) : Nat :=
  ((List.range 4096).find? fun n => !s.fab.streams.any fun e => e.2.any fun x =>
    recovers x.frer x.egress && x.fn == n).getD 0

/-- A stream event (R289, type 4): kind 0 suspended, 1 resumed, 2 withdrawn; stream_id and reason of Table 6-6. -/
def streamEvent (s : State) (o : OriginStream) (kind reason : Nat) : State :=
  event s o.owner 4 (leBytes 1 kind ++ leBytes 1 reason ++ leBytes 2 o.streamId)

/-- The stream entries of this node take the ACTIVE or SUSPENDED state of their origin (R161). -/
def mirrorLocal (s : State) (n : StreamName) (b : Bool) : State :=
  { s with fab := { s.fab with
      streams := tmap none s.fab.streams fun _ o => o.map fun x =>
        if x.origin == n.origin && x.streamId == n.streamId then { x with active := true, suspended := b } else x } }

/-- The origin's state goes to its own entries and to the hop nodes, as a CONFIRM of hop 0 (R161; DESIGN CHOICE, log: no frame
of Table 12-13 is given for it). -/
def mirrorState (s : State) (o : OriginStream) (b : Bool) : State :=
  emitAll (mirrorLocal s (lineName s o false) b) ((originNames s o).map fun n => .confirm n 0 (b2n b))

/-- An ACTIVE stream loses path ports: SUSPENDED with its reservations kept (Table 6-4). -/
def suspend (s : State) (o : OriginStream) (down : List PathHop) : State :=
  streamEvent (mirrorState (putOrigin s { o with state := .suspended, down := down, suspendedAt := s.mono }) o true) o 0 0

/-- The stream is ACTIVE once every confirmation has come: STREAM_ADMIT completes OK, and the hops take its state; a path port that
went down meanwhile suspends it at once (R159, R161, R310). -/
def streamActive (s : State) (o : OriginStream) : State :=
  let keys := (allHops o).map Prod.fst
  if keys.all fun i => o.confirmed.contains i then
    let o' := { o with state := .active, hcp := none }
    let s := completeAdmit (putOrigin s o') o .ok 0
      (leBytes 2 o.streamId ++ leBytes 2 0 ++ leBytes 4 o.sum ++ leBytes 1 keys.length ++ leBytes 3 0
        ++ (keys.flatMap fun i => leBytes 4 (tget 0 o.dHops i)))
    if o.down.isEmpty then mirrorState s o' false else suspend s o' o.down
  else putOrigin s o

/-- The entry of the other line by which a FRER stream leaves the backbone at an egress (R139). -/
def recoveryEntry (s : State) (x : Stream) : Option Stream :=
  if recovers x.frer x.egress then
    (s.fab.streams.filterMap Prod.snd).find? fun y =>
      y.origin == x.origin && y.streamId == x.streamId && y.egress == x.egress
  else none

/-- A new stream entry: a write of the whole entry, which clears its poison (R28). Where the stream leaves the backbone its
recovery function starts, one for both lines, with latent error detection (R139; DESIGN CHOICE, log: on for every such stream). -/
def installEntry (s : State) (x : Stream) : State :=
  let i := freeStream s.fab.streams
  let put := fun (fn : Nat) => unpoisonEntry (putStream s i { x with fn := fn }) 3 i
  match recoveryEntry s x with
  | some y => put y.fn
  | none =>
    let fn := freeFn s
    let s' := put fn
    if recovers x.frer x.egress then
      { s' with fab := { s'.fab with
        recovery := tset {} s'.fab.recovery fn { latentOn := true, baseAt := s.mono, testedAt := s.mono } } }
    else s'

/-- One hold becomes a stream entry; the hop confirms. -/
def activateHold (s : State) (h : Hold) : State :=
  let s := installEntry s (entryOf s h)
  let s := { s with adm := { s.adm with holds := s.adm.holds.filter fun x => !(x.name == h.name && x.hop == h.hop) } }
  if h.name.origin ≠ s.otp.unitId then mgpSends s (some h.inPort) (.confirm h.name h.hop 0)
  else
    match originOf s h.name.streamId with
    | some o => streamActive s { o with confirmed := sadd o.confirmed (keyOf o h.name h.hop) }
    | none => s

/-- STREAM_ACTIVATION (R159): at T_act the holds of a stream are written as entries. -/
def activationEffect (name : StreamName) (s : State) : State :=
  let mine := fun (s : State) => s.adm.holds.filter fun h => sameAttempt h.name name && h.installAt.isSome
  match (mine s).findSome? Hold.installAt with
  | none => s
  | some t =>
    let s := untilNs s t
    (mine s).foldl activateHold s

/-- See `activationEffect`. -/
def execStreamActivation (name : StreamName) (s : State) : Out := .next (activationEffect name s)

/-! ## Suspension and removal -/

/-- The hop of a key of an origin stream is lost: an ACTIVE stream is SUSPENDED (Table 6-4), one that is INSTALLING when it becomes
ACTIVE. -/
def hopDown (s : State) (o : OriginStream) (k : Nat) : State :=
  match hopAt o k with
  | none => s
  | some h =>
    let down := if o.down.contains h then o.down else o.down ++ [h]
    match o.state with
    | .active => suspend s o down
    | .suspended | .installing => putOrigin s { o with down := down }
    | .preparing => s

/-- The hop of a key is back: with every path port up the stream is ACTIVE again (Table 6-4). -/
def hopUp (s : State) (o : OriginStream) (k : Nat) : State :=
  match hopAt o k with
  | none => s
  | some h =>
    let down := o.down.filter (· != h)
    if o.state = .suspended then
      if down.isEmpty then streamEvent (mirrorState (putOrigin s { o with state := .active, down := [] }) o false) o 1 0
      else putOrigin s { o with down := down }
    else if o.state = .installing then putOrigin s { o with down := down }
    else s

/-- The stream entries of an egress that is lost, or back to the same neighbour: SUSPENDED at once where lost, and their
origins are told, here or by a CONFIRM with status 1 (lost) or 0 (back) (R161; DEDUCED, log). -/
def markStreams (s : State) (port : Nat) (down : Bool) : State :=
  (s.fab.streams.filterMap fun e => e.2.map fun x => (e.1, x)).foldl (fun s e =>
    match tget none s.fab.streams e.1 with
    | none => s
    | some x =>
      if x.egress != port || x.lost == down || (!down && x.neighbour != neighbourOf s port) then s
      else
        let s := putStream s e.1 { x with lost := down, suspended := down || x.suspended }
        let n : StreamName := { origin := x.origin, streamId := x.streamId, txn := x.txn, lineB := x.lineB }
        if x.origin ≠ s.otp.unitId then mgpSends s x.port (.confirm n x.hop (b2n down))
        else
          match originOf s x.streamId with
          | some o => if down then hopDown s o (keyOf o n x.hop) else hopUp s o (keyOf o n x.hop)
          | none => s) s

/-- The streams of BB ports that carry frames again (R161, R206). -/
def streamsBack (s : State) : State :=
  [0, 1, 2, 3].foldl (fun s p => if cssPort s p then markStreams s p false else s) s

/-- An ACTIVE or SUSPENDED origin stream is withdrawn with an event and a reason (Table 6-4). -/
def withdraw (s : State) (o : OriginStream) (reason : Nat) : State := streamEvent (originDrop s o) o 2 reason

/-- Every origin stream of a tenant withdrawn; attempts in progress end with ABORTED_RESET (Table 6-4, R305). -/
def withdrawTenant (s : State) (t : Nat) : State :=
  (s.adm.streams.filter fun o => o.owner == t).foldl (fun s o =>
    match o.state with
    | .active | .suspended => withdraw s o 0
    | _ => originDrop s o) s

/-- Time service is lost (R14): admission is disabled and reservations are withdrawn; the origin of an entry here is told by a
CONFIRM with status 5, NO_TIME (Table 6-4; DESIGN CHOICE, log: the status codes of CONFIRM are not given). -/
def admissionLost (s : State) : State :=
  let s := s.adm.streams.foldl (fun s o =>
    match o.state with
    | .active | .suspended => withdraw s o 5
    | _ => refuseStream s o (hopFail s o 5 ((((allHops o).find? fun e => e.2.position == s.ine.position).map Prod.fst).getD 0) 0 0)
        none) s
  let s := emitAll s (s.fab.streams.filterMap fun e => e.2.bind fun x =>
    if x.origin = s.otp.unitId then none
    else some (.confirm { origin := x.origin, streamId := x.streamId, txn := x.txn, lineB := x.lineB } x.hop 5))
  { s with
    adm := { s.adm with holds := [], refusals := [] }
    fab := { s.fab with admitted := false, streams := [] } }

/-- The key of the first hop of a path that has not answered. -/
def firstSilent (o : OriginStream) (answered : Nat → Bool) : Nat :=
  (((allHops o).map Prod.fst).find? fun i => !answered i).getD 0

/-- A stream is refused with HOP_TIMEOUT, naming the hop of a key. -/
def hopTimeout (s : State) (o : OriginStream) (k : Nat) : State := refuseStream s o (hopFail s o 13 k 0 0) none

/-- CONFIRM_RECEIVE (R161): at the origin a hop has installed its entry, or is back (0), is lost (1), or has lost time service
(5); at a hop node hop 0 brings the origin's state. -/
def confirmEffect (name : StreamName) (hop status : Nat) (s : State) : State :=
  if name.origin ≠ s.otp.unitId then (if hop = 0 then mirrorLocal s name (status != 0) else s)
  else
    match originOf s name.streamId with
    | none => s
    | some o =>
      let k := keyOf o name hop
      match o.state with
      | .preparing => s
      | .installing =>
        if status = 0 then
          streamActive s { o with confirmed := sadd o.confirmed k, down := o.down.filter fun h => hopAt o k != some h }
        else if status = 5 then hopTimeout s o k
        else hopDown s o k
      | _ => if status = 0 then hopUp s o k else if status = 5 then withdraw s o 5 else hopDown s o k

/-- See `confirmEffect`. -/
def execConfirmReceive (name : StreamName) (hop status : Nat) (s : State) : Out :=
  .next (confirmEffect name hop status (mgpTakes s (.confirm name hop status)))

/-- CONFIRM_TIMEOUT (R161): a confirmation missing at T_act + 1 ms. -/
def confirmTimeoutEffect (id : Nat) (s : State) : State :=
  match originOf s id with
  | none => s
  | some o =>
    if o.state ≠ .installing then s
    else hopTimeout (untilNs s (o.tAct + 1000000)) o (firstSilent o fun i => o.confirmed.contains i)

/-- See `confirmTimeoutEffect`. -/
def execConfirmTimeout (id : Nat) (s : State) : Out := .next (confirmTimeoutEffect id s)

/-- PREPARE_TIMEOUT (R160): a hop has not answered within the 2.3 ms of Table 6-3. -/
def prepareTimeoutEffect (id : Nat) (s : State) : State :=
  match originOf s id with
  | none => s
  | some o =>
    if o.state ≠ .preparing then s
    else hopTimeout (untilMono s (o.at_ + 2300000)) o (firstSilent o fun i => o.dHops.any fun e => e.1 == i)

/-- See `prepareTimeoutEffect`. -/
def execPrepareTimeout (id : Nat) (s : State) : Out := .next (prepareTimeoutEffect id s)

/-- RELEASE_RECEIVE (R159): hold and entry go; at the origin (a withdrawal at another node, R166) the stream is withdrawn. -/
def releaseEffect (name : StreamName) (s : State) : State :=
  if name.origin = s.otp.unitId then
    match originOf s name.streamId with
    | some o => if o.state = .active ∨ o.state = .suspended then withdraw s o 0 else s
    | none => s
  else removeLocal s name

/-- See `releaseEffect`. -/
def execReleaseReceive (name : StreamName) (s : State) : Out := .next (releaseEffect name (mgpTakes s (.release name)))

/-- HOLD_LAPSE (R159): 10 ms after it was placed. -/
def holdLapseEffect (name : StreamName) (s : State) : State :=
  match (holdsOf s name).find? fun h => h.installAt.isNone with
  | none => s
  | some h =>
    let s := untilMono s (h.at_ + 10000000)
    { s with adm := { s.adm with holds := s.adm.holds.filter fun x => !(x.name == name && x.installAt.isNone) } }

/-- See `holdLapseEffect`. -/
def execHoldLapse (name : StreamName) (s : State) : Out := .next (holdLapseEffect name s)

/-- NOTICE_RECEIVE (R165). -/
def noticeEffect (n : Notice) (s : State) : State :=
  if n.name.origin ≠ s.otp.unitId then s
  else
    match originOf s n.name.streamId with
    | none => s
    | some o => event s o.owner 3 (leBytes 2 o.streamId ++ leBytes 1 n.hop ++ leBytes 1 n.port ++ leBytes 1 n.kind
        ++ leBytes 1 n.reason ++ leBytes 4 n.residence ++ leBytes 4 n.bound ++ leBytes 1 n.cause)

/-- See `noticeEffect`. -/
def execNoticeReceive (n : Notice) (s : State) : Out := .next (noticeEffect n (mgpTakes s (.notice n)))

/-- SUSPEND_HOLD_EXPIRY (R161): removed with PATH_LOST. -/
def suspendExpiry (id : Nat) (s : State) : State :=
  match originOf s id with
  | none => s
  | some o =>
    if o.state ≠ .suspended then s
    else withdraw (untilMono s (o.suspendedAt + s.adm.suspendHold * 1000000000)) o 0x10

/-- See `suspendExpiry`. -/
def execSuspendHoldExpiry (id : Nat) (s : State) : Out := .next (suspendExpiry id s)

/-! ## Commands -/

/-- The tenant may act on a stream of another node: tenant 0, or its owner. No frame tells a hop node the owner, which is an
uninterpreted function of the origin and the identifier (R166; DESIGN CHOICE, log). -/
def ownsRemote (t : Nat) (origin : UnitId) (id : Nat) : Bool := t == 0 || t == Config.streamOwner origin id

/-- The port on which a stream of another node arrives here. -/
def localPort (s : State) (n : StreamName) : Option Nat :=
  ((s.fab.streams.filterMap Prod.snd).find? fun x => x.origin == n.origin && x.streamId == n.streamId).bind Stream.port

/-- STREAM_WITHDRAW (R166): by the owner or tenant 0, on any node; on a node that is not the origin RELEASE goes to the origin
and the hops. -/
def execStreamWithdraw (h : Hcp) (origin : UnitId) (id : Nat) (s : State) : Out :=
  .next (runHcp { opcode := 0x0502, classC := true, features := [5] } h s fun s =>
    let n : StreamName := { origin := origin, streamId := id, txn := 0 }
    if origin = s.otp.unitId then
      match originOf s id with
      | none => fails s .invalidArgument 0
      | some o =>
        if h.tenant ≠ 0 ∧ h.tenant ≠ o.owner then fails s .notPermitted rRight
        else if o.state = .preparing ∨ o.state = .installing then fails s .busy 0
        else okay (withdraw s o 0)
    else if !ownsRemote h.tenant origin id then fails s .notPermitted rRight
    else okay (mgpSends (removeLocal s n) (localPort s n) (.release n)))

/-- The code of a stream state: 0 PREPARING, 1 INSTALLING, 2 ACTIVE, 3 SUSPENDED (order of Table 6-4). -/
def streamCode : StreamState → Nat
  | .preparing => 0 | .installing => 1 | .active => 2 | .suspended => 3

/-- The figures of one local hop, of entries `xs` of its stream (Table 6-8). Where a FRER stream enters the backbone one meter
judges the frames of both its hops there, and each shows its colours. -/
def streamFigures (xs : List Stream) (x : Stream) : Bytes :=
  let m := (xs.find? fun y => y.port == x.port).getD x
  leBytes 1 x.hop ++ leBytes 1 x.egress ++ leBytes 2 0 ++ leBytes 8 m.green ++ leBytes 8 m.yellow ++ leBytes 8 m.red
    ++ leBytes 8 m.oversize ++ leBytes 8 x.late ++ leBytes 8 x.dropped ++ leBytes 4 x.worst

/-- STREAM_STATUS (R166): by the owner or tenant 0, on any node. Off the path of a stream its state is not known here: a free
value. -/
def execStreamStatus (h : Hcp) (origin : UnitId) (id : Nat) (s : State) : Out :=
  .next (runHcp { opcode := 0x0503, features := [5] } h s fun s =>
    let local_ := s.fab.streams.filterMap fun e => e.2.bind fun x =>
      if x.origin == origin && x.streamId == id then some x else none
    let tell := fun (s : State) (st : Nat) => okWith s (leBytes 1 st ++ leBytes 3 0 ++ local_.flatMap (streamFigures local_))
    if origin = s.otp.unitId then
      match originOf s id with
      | none => fails s .invalidArgument 0
      | some o => if h.tenant ≠ 0 ∧ h.tenant ≠ o.owner then fails s .notPermitted rRight else tell s (streamCode o.state)
    else if !ownsRemote h.tenant origin id then fails s .notPermitted rRight
    else if local_.isEmpty then tell (draw s).2 ((draw s).1 % 4)
    else tell s (if local_.any Stream.suspended then 3 else 2))

/-- The ports a record's port half names, of those with a condition. -/
def recPorts' (p : Param) (ok : Nat → Bool) : List Nat :=
  (List.range 101).filter fun q => ok q && (p.port == 255 || p.port == q)

/-- The admission settings after one record of ADMISSION_CONFIG, a TC6 allowance also of host port 96 (R153): 1 cap, 2 TC6 burst, 3 TC6 rate in kb/s, 4 cable_delay,
5 suspend_hold (R308). -/
def admRec (a : Admission) (p : Param) : Option Admission :=
  let each := fun (lo hi scale : Nat) (f : List Nat → Nat → Admission) =>
    (recNat p lo hi).bind fun v =>
      let ps := recPorts' p fun q => isExternal q || (q == 96 && p.key != 4)
      if ps.isEmpty then none else some (f ps (v * scale))
  match p.key with
  | 1 => (recNat p 10 90).map fun v => { a with cap := v }
  | 2 => each 0 4294967295 1 fun ps v => { a with tc6Burst := ps.foldl (fun t q => tset none t q (some v)) a.tc6Burst }
  | 3 => each 0 4294967295 1000 fun ps v => { a with tc6Rate := ps.foldl (fun t q => tset none t q (some v)) a.tc6Rate }
  | 4 => each 0 4294967295 1 fun ps v => { a with cable := ps.foldl (fun t q => tset none t q (some v)) a.cable }
  | 5 => (recNat p 0 600).map fun v => { a with suspendHold := v }
  | _ => none

/-- The cap leaves room for the TC6 allowance at every port and class (R156). -/
def capFits (s : State) (cap : Nat) : Bool :=
  ((List.range 80) ++ [94, 95, 96]).all fun q => [4, 5].all fun c =>
    let f := classFigures s q c 64 (activeBank s q)
    decide (cap * rateBps s q * f.openNs + 100 * tc6Rate s q * f.cycleNs ≤ 100 * rateBps s q * f.openNs)

/-- ADMISSION_CONFIG (R156). -/
def execAdmissionConfig (h : Hcp) (recs : List Param) (s : State) : Out :=
  .next (runHcp { opcode := 0x0504, classC := true, owner := true, features := [5] } h s fun s =>
    match applyRecs s admRec 0 s.adm recs with
    | .error i => failsAt s i
    | .ok a =>
      let s' := { s with adm := a }
      match recs.findIdx? fun p => p.key == 1 with
      | some i => if capFits s' a.cap then okay s' else .done s .refused 0 (leBytes 2 i)
      | none => okay s')

end Sys2Proof.Machine
end

