-- ==== Sys2Proof/Machine/FarOps.lean ====
section
/-! DEFINITION. The Far Window: accesses, outcomes and locks of far targets (R232 to R242). -/

namespace Sys2Proof.Machine

/-- Far target `f`. -/
def farOf (s : State) (f : Nat) : FarTarget := tget {} s.far.targets f

/-- Far target `f` written. -/
def putFar (s : State) (f : Nat) (x : FarTarget) : State := { s with far := { s.far with targets := tset {} s.far.targets f x } }

/-- The chunk size of a port (R233). -/
def farChunk (p : Nat) : Nat :=
  match portKind p with
  | .sg => 64 | .can => 32 | _ => 16

/-- The port of a target can carry requests: link up, not in degraded mode (Table 9-5). -/
def farPortUp (s : State) (c : FarCfg) : Bool := linkIsUp s c.port && !s.glob.degraded

/-- far_timeout in ns: 1 ms where none is set (R232). -/
def farTimeoutNs (c : FarCfg) : Nat := c.timeoutUs.getD 1000 * 1000

/-- A bit of FW_ERR set. -/
def farErr (s : State) (f b : Nat) : State :=
  let x := farOf s f
  putFar s f { x with err := setBit x.err b true }

/-- A failure logged (R237): its bit, FW_ERR_ADDR, a far_error event to the owner, a windrow. -/
def farLog (s : State) (f bits : Nat) (addr : Nat) (status : Nat) : State :=
  let x := farOf s f
  let s := putFar s f { x with err := x.err ||| word bits, errAddr := word addr }
  let owner := match x.cfg with | some c => c.owner | none => 0
  let data := leBytes 1 f ++ leBytes 1 bits ++ leBytes 1 owner ++ leBytes 1 status ++ leBytes 4 addr
  let s := if x.cfg.isSome then event s owner 5 data else s
  report s 0x9002 data

/-- How an access ends (Table 9-5): with its data, with a far status of the module, or without one, which names the timeout
bit; or by a reset of the owner, after which a write already sent completes at the module (R237). -/
inductive FarEnd where
  | ok
  | status (st : Nat)
  | lost (timedOut : Bool)
  | reset
  deriving DecidableEq, Repr

/-- An access of a target ends (R237, R238). A host read completes; a host write that fails is logged; an HCP command completes,
with REFUSED and the far status where it failed (a free value where the module gave none). -/
def farEnd (s : State) (f : Nat) (a : FarAcc) (e : FarEnd) : State :=
  let remote := (match (farOf s f).cfg with | some c => c.base.toNat | none => 0) + a.addr
  let st := match e with | .status n => n | _ => 0
  let late := match e with | .lost true => true | _ => false
  match a.hcp with
  | some h =>
    let op := if a.isRead then 0x080A else 0x080B
    match e with
    | .ok => respond s h op .ok 0 (if a.isRead then a.got else [])
    | .status n => respond (if late then farErr s f 2 else s) h op .refused (0x0400 + n) []
    | _ =>
      let d := draw (if late then farErr s f 2 else s)
      respond d.2 h op .refused (0x0400 + d.1 % 256) []
  | none =>
    if a.isRead then
      let c := match e with | .ok => 0 | .status 1 => 1 | _ => 2
      let s := { s with far := { s.far with completions := (f, c, if c = 0 then a.got else []) :: s.far.completions } }
      let s := if c = 0 then s else farErr s f 1
      if late then farErr s f 2 else s
    else
      match e with
      | .ok => s
      | .reset => if a.len ≤ a.sent then s else farLog s f 1 remote st
      | _ => farLog s f (if late then 4 else 1) remote st

/-- A host read that is not taken completes at once with UR (1) or CA (2). -/
def farReject (s : State) (f c : Nat) : State :=
  farErr { s with far := { s.far with completions := (f, c, []) :: s.far.completions } } f 1

/-- The tag of an open transaction stays reserved for 2 × far_timeout (R236). -/
def farReserve (s : State) (f : Nat) : State :=
  let x := farOf s f
  match x.txn, x.cfg with
  | some t, some c =>
    putFar s f { x with txn := none, reserved := tset 0 x.reserved t.tag (s.mono + 2 * farTimeoutNs c + 1) }
  | _, _ => s

/-- The access at the head of a target's queue ends; an open transaction of it is given up. -/
def farHeadEnd (s : State) (f : Nat) (e : FarEnd) : State :=
  match (farOf s f).queue with
  | [] => s
  | a :: r =>
    let s := farReserve s f
    farEnd (putFar s f { farOf s f with queue := r }) f a e

/-- Every access of a target ends. -/
def farFlush : Nat → State → Nat → FarEnd → State
  | 0, s, _, _ => s
  | n + 1, s, f, e => if (farOf s f).queue.isEmpty then s else farFlush n (farHeadEnd s f e) f e

/-- Port `p` is down (Table 9-5): the accesses of its targets end at once. -/
def farPortDown (s : State) (p : Nat) : State :=
  (s.far.targets.map Prod.fst).foldl (fun s f =>
    if (farOf s f).cfg.any fun c => c.port == p then farFlush (farOf s f).queue.length s f (.lost false) else s) s

/-- Degraded mode (Table 9-5): every access ends. -/
def farDegraded (s : State) : State :=
  (s.far.targets.map Prod.fst).foldl (fun s f => farFlush (farOf s f).queue.length s f (.lost false)) s

/-! ## Locks (R239, R240) -/

/-- FAR_LOCK's opcode. -/
abbrev opFarLock : Nat := 0x080C

/-- A lock is granted; the HCP request completes with the lease, and with it those that wait for the same lock (R240). -/
def lockGrant (s : State) (f : Nat) (w : FarLockReq) : State :=
  let x := farOf s f
  let same := fun (v : FarLockReq) => v.path == w.path && v.token == w.token
  let s := putFar s f { x with
    lock := some { path := w.path, token := w.token, endAt := s.mono + w.lease }, waiters := x.waiters.filter fun v => !same v }
  ((w :: x.waiters.filter same).filterMap FarLockReq.hcp).foldl (fun s h =>
    respond s h opFarLock .ok 0 (leBytes 4 (w.lease / 10000))) s

/-- The lock of a target is free: the first that waits takes it. -/
def lockNext (s : State) (f : Nat) : State :=
  match (farOf s f).waiters with
  | [] => s
  | w :: r => lockGrant (putFar s f { farOf s f with waiters := r }) f w

/-- The lock is released. -/
def lockRelease (s : State) (f : Nat) : State :=
  let x := farOf s f
  match x.lock with
  | none => s
  | some l => lockNext (putFar s f { x with lock := none, released := some (l.path, l.token) }) f

/-- The remaining lease in 10 µs units. -/
def leaseLeft (s : State) (l : FarLockRec) : Nat := (l.endAt - s.mono) / 10000

/-- A lock request (R239, R240): granted if free; the holder's own token answers with what is left; else it waits. -/
def lockRequest (s : State) (f : Nat) (w : FarLockReq) : State :=
  let x := farOf s f
  match x.lock with
  | none => lockGrant s f w
  | some l =>
    if l.path = w.path ∧ l.token = w.token then
      match w.hcp with
      | some h => respond s h opFarLock .ok 0 (leBytes 4 (leaseLeft s l))
      | none => s
    else putFar s f { x with waiters := x.waiters ++ [w] }

/-- A tenant is reset (R237): its targets' reads complete with CA, unsent writes are discarded and logged, their locks are
released; its own commands and requests leave every target. -/
def farTenantReset (s : State) (t : Nat) : State :=
  (s.far.targets.map Prod.fst).foldl (fun s f =>
    let x := farOf s f
    let mine := fun (h : Option Hcp) => h.any fun h => h.tenant == t
    let s := putFar s f { x with
      queue := x.queue.filter (fun a => !mine a.hcp), waiters := x.waiters.filter (fun w => !mine w.hcp) }
    let s := if (x.queue.head?.any fun a => mine a.hcp) then farReserve s f else s
    if x.cfg.any fun c => c.owner == t then lockRelease (farFlush (farOf s f).queue.length s f .reset) f
    else if x.lock.any fun l => l.path == FarPath.tenant t then lockRelease s f
    else s) s

end Sys2Proof.Machine
end

