-- ==== Sys2Proof/Machine/InaugOps.lean ====
section
/-! DEFINITION. Inauguration: node tables, numbering, the alias banks, the phases of an inauguration, and the twin pair's state
image (R193 to R218). -/

namespace Sys2Proof.Machine

/-! ## Node tables (R198 to R201) -/

/-- The unit ID of this node in inauguration: for a twin pair that of the line A device (R214, Table 8-4). -/
def nodeUnit (s : State) : UnitId :=
  match s.ine.twin.partner with
  | some p => if s.ine.twin.lineB then p else s.otp.unitId
  | none => s.otp.unitId

/-- The unit ID of the second device of the pair, 0 = none (Table 8-4). -/
def pairPartner (s : State) : UnitId :=
  match s.ine.twin.partner with
  | some p => if s.ine.twin.lineB then s.otp.unitId else p
  | none => 0

/-- Bit `p` = BB port `p` is up (Table 8-4, line state): fabric-up, or a coupler port of this inauguration, so that a link that
waits for the inauguration to end does not count (DEDUCED, log: R206 and Table 8-7). -/
def lineBits (s : State) : BitVec 4 :=
  [0, 1, 2, 3].foldl (fun (v : BitVec 4) p => setBit v p (inaugPort s p)) 0

/-- This node's record (Table 8-4). -/
def selfRec (s : State) : NodeRec :=
  let d := s.ine.ident
  { unit := nodeUnit s, consistId := d.consistId, carIndex := d.carIndex, role := d.role
    twin := s.ine.twin.partner.isSome, capable := s.css.capable, cab1 := d.cab == 1, cab2 := d.cab == 2
    ref2 := d.refDir == 2, lead := s.ine.lead != 0, isLeader := s.tms.trtState == .leader
    position := s.ine.position, car := s.ine.car, consist := s.ine.consist, reversed := s.ine.reversed
    functions := d.functions.length, lines := lineBits s, partner := pairPartner s }

/-- The node table of this node's half, in position order; a node never numbered is a half of its own. -/
def ownTable (s : State) : List NodeRec :=
  if s.ine.nodes.isEmpty then [selfRec s]
  else s.ine.nodes.map fun n =>
    if n.unit == nodeUnit s then selfRec s else { n with isLeader := n.unit == s.tms.leaderId }

/-- A node record as bytes (Table 8-4). -/
def nodeBytes (n : NodeRec) : Bytes :=
  beBytes 8 n.unit.toNat ++ beBytes 4 n.consistId.toNat ++ beBytes 1 n.carIndex ++ beBytes 1 n.role
    ++ beBytes 1 (b2n n.twin + 2 * b2n n.capable + 4 * b2n n.cab1 + 8 * b2n n.cab2 + 16 * b2n n.ref2 + 32 * b2n n.lead
        + 64 * b2n n.isLeader)
    ++ beBytes 1 n.position ++ beBytes 1 n.car ++ beBytes 1 n.consist ++ beBytes 1 (b2n n.reversed)
    ++ beBytes 1 n.functions ++ beBytes 4 n.lines.toNat ++ beBytes 8 n.partner.toNat

/-- The CRC-32 of a node table (Table 8-3, DIGEST and INSTALL). -/
def tableCrc (l : List NodeRec) : Word := Config.crc32 (l.flatMap nodeBytes)

/-- A table seen from the other end: the order and every orientation are turned. -/
def flipTable (l : List NodeRec) : List NodeRec := (l.map fun n => { n with reversed := !n.reversed }).reverse

/-- Whether the node `u` of a half faces the coupler with the head of its table: by its place, or, alone in its half, by the
direction whose line is up. -/
def facesHead (l : List NodeRec) (u : UnitId) : Bool :=
  match l with
  | [n] => (bitAt n.lines 0 || bitAt n.lines 2) != n.reversed
  | [] => true
  | n :: _ => n.unit == u

/-- A node record before it is numbered (Table 8-4). -/
def unnumbered (n : NodeRec) : NodeRec := { n with position := 255, car := 0, consist := 0 }

/-- Two halves laid end to end: the own half keeps its order, the other lies beyond its front or its rear (R201). -/
def joinHalves (own other : List NodeRec) (front headFaces : Bool) : List NodeRec :=
  if front then (if headFaces then flipTable other else other) ++ own
  else own ++ (if headFaces then other else flipTable other)

/-- The head of the table is the end nearer the declared cab of node `i` of `n`; at equal distance the end its cab is at
(R200). -/
def headNearer (l : List NodeRec) (i : Nat) (r : NodeRec) : Bool :=
  let back := l.length - 1 - i
  if i < back then true else if back < i then false else (r.cab1 || !r.cab2) != r.reversed

/-- A table turned so that its head is train direction 1 (R200): the declared cab's end, of the surviving half where both
have declared one; else the direction kept from the half that held car 1, the surviving one first (DEDUCED, log); else
the direction of BB0 on the node of the lowest unit ID. -/
def orientTable (l : List NodeRec) (survives : NodeRec → Bool) (keptHead : Option Bool) : List NodeRec :=
  let leads := ((List.range l.length).zip l).filter fun e => e.2.lead
  match (leads.filter fun e => survives e.2) ++ leads with
  | e :: _ => if headNearer l e.1 e.2 then l else flipTable l
  | [] =>
    match keptHead with
    | some h => if h then l else flipTable l
    | none =>
      match l.foldl (fun (o : Option NodeRec) n => match o with
          | some m => if n.unit.toNat < m.unit.toNat then some n else some m
          | none => some n) none with
      | some n => if n.reversed then flipTable l else l
      | none => l

/-- What the numbering has come to (R201): the next position, the present car with its identity, the consists in order. -/
structure NumAcc where
  pos : Nat := 0
  car : Nat := 0
  key : Option (Word × Nat) := none
  consists : List Word := []
  out : List NodeRec := []

/-- One node numbered (R201). -/
def numberOne (a : NumAcc) (n : NodeRec) : NumAcc :=
  let key := (n.consistId, n.carIndex)
  let car := if a.key = some key then a.car else a.car + 1
  let consists := if a.consists.contains n.consistId then a.consists else a.consists ++ [n.consistId]
  { pos := a.pos + 1, car := car, key := some key, consists := consists
    out := a.out ++ [{ n with position := a.pos, car := car, consist := consists.idxOf n.consistId + 1 }] }

/-- The numbering of a table in backbone order (R201). -/
def numberTable (l : List NodeRec) : NumAcc := l.foldl numberOne {}

/-- The limits of R193: 63 nodes, 63 cars, 32 consists, 4 nodes a car. -/
def tableFits (l : List NodeRec) : Bool :=
  let a := numberTable l
  decide (l.length ≤ 63) && decide (a.car ≤ 63) && decide (a.consists.length ≤ 32)
    && a.out.all fun n => decide ((a.out.filter fun m => m.car == n.car).length ≤ 4)

/-! ## The alias banks (R208 to R212) -/

/-- The rows of bank `b` are written whole, which clears their poison (R28). -/
def bankClean (s : State) (b : Nat) : State := unpoisonWhere s 4 fun k => k / 4096 == b

/-- Bank `b` of the alias table written. -/
def putBank (s : State) (b : Nat) (t : Table (Option AliasEntry)) : State :=
  if b = 0 then { s with ine := { s.ine with bank0 := t, gen := s.ine.gen + 2 } }
  else { s with ine := { s.ine with bank1 := t, gen := s.ine.gen + 2 } }

/-- Bank `b` of the alias table. -/
def bankRead (s : State) (b : Nat) : Table (Option AliasEntry) := if b = 0 then s.ine.bank0 else s.ine.bank1

/-- The function list of a node: this node's own, or the one its FUNCS frame brought (R210). -/
def functionsOf (s : State) (u : UnitId) : List FuncEntry :=
  if u = nodeUnit s then s.ine.ident.functions
  else match s.ine.run.funcs.find? fun f => f.1 == u with
    | some f => f.2
    | none => []

/-- The entry of a function of car `c`; a reversed car exchanges sides 1 and 2 (R210). -/
def funcAlias (c pos : Nat) (rev : Bool) (e : FuncEntry) : AliasEntry :=
  let swap := rev && (e.side == 1 || e.side == 2)
  let side := if swap then 3 - e.side else e.side
  { tfa := c * 1024 + side * 256 + e.func, mac := e.mac, vlan := e.vlan
    stream := if e.stream < 8192 then some e.stream else none, isStatic := false, exchanged := swap, source := pos }

/-- The entries of car `c` (R210): the functions of its nodes, then function 0x00 for the role 0 node. -/
def carAliases (s : State) (nodes : List NodeRec) (vlan c : Nat) : List AliasEntry :=
  let mine := nodes.filter fun n => n.car == c
  let zero := mine.find? fun n => n.role == 0
  let rev := match zero with | some n => n.reversed | none => false
  (mine.flatMap fun n => (functionsOf s n.unit).map (funcAlias c n.position rev)) ++
    match zero with
    | some n => [{ tfa := c * 1024, mac := Config.nodeMac n.unit, vlan := vlan, stream := none, isStatic := false
                   exchanged := false, source := n.position }]
    | none => []

/-- A static entry as the table holds it (R212). -/
def staticAlias (s : State) (a : AliasArgs) : AliasEntry :=
  { tfa := a.tfa, mac := a.mac, vlan := a.vlan, stream := a.stream, isStatic := true, exchanged := false
    source := s.ine.position }

/-- The inactive bank built from the numbered table, in car order, static entries last; what lies beyond 4096 entries is
dropped with alias_overflow (R210). -/
def buildAlias (s : State) (nodes : List NodeRec) : State :=
  let v := draw s
  let s := v.2
  let cars := (nodes.map NodeRec.car).eraseDups
  let all := (cars.flatMap (carAliases s nodes (v.1 % 4096))) ++ s.ine.statics.map (staticAlias s)
  let s := putBank (bankClean s (1 - s.ine.activeBank)) (1 - s.ine.activeBank) ((List.range 4096).zip ((all.take 4096).map some))
  setAlarmIf s (decide (4096 < all.length)) .ine 5

/-- Lookups switch to bank `b` (Table 4-2); after an ALIAS_COMMIT the bank is copied to the other one (R212). -/
def aliasSwitch (s : State) (b : Nat) : State :=
  let s := { s with ine := { s.ine with activeBank := b } }
  if s.ine.copyAfter then
    let s := putBank (bankClean s (1 - b)) (1 - b) (bankRead s b)
    { s with ine := { s.ine with copyAfter := false } }
  else s

/-- TAU56 is armed (R212). -/
def tau56Armed (s : State) : Bool := tauLive (tauOf s 56)

/-- A device TAU armed one-shot at TRT instant `t` in linear ns. -/
def armDevice (s : State) (k target : Nat) (arg : Word) (t : Nat) : State :=
  putTau s k { state := .armed, target := target, arg := arg, fire := t * 65536, owner := some deviceOwner
               epoch := s.tms.trtEpoch }

/-! ## Links and HELLO (R199) -/

/-- The HELLO exchange of BB port `p`. -/
def helloOf (s : State) (p : Nat) : HelloLink := tget {} s.ine.hello p

/-- The HELLO exchange of a port written. -/
def putHello (s : State) (p : Nat) (x : HelloLink) : State :=
  { s with ine := { s.ine with hello := tset {} s.ine.hello p x } }

/-- The inauguration in progress written. -/
def putRun (s : State) (x : InaugRun) : State := { s with ine := { s.ine with run := x } }

/-- The INE_STATUS state written. -/
def putIne (s : State) (x : IneState) : State := { s with ine := { s.ine with state := x } }

/-- The coordinator (R202): the TRT leader of the surviving half; without a merge the leader of the half, or while there is
none and CSS is stopped, and where neither half has one, the node of the lowest unit ID (DEDUCED, log). -/
def coordinatorOf (s : State) : UnitId :=
  let r := s.ine.run
  let low := r.joint.foldl (fun (m : UnitId) n => if n.unit.toNat < m.toNat then n.unit else m)
    (match r.joint with | n :: _ => n.unit | [] => 0)
  if r.merge then (if r.survivor = 0 then low else r.survivor)
  else if r.joint.any fun n => n.unit == s.tms.leaderId then s.tms.leaderId
  else if s.css.state = .stopped then low else 0

/-- This node coordinates; of a twin pair the device with the duties speaks for it (R214). -/
def coordinates (s : State) : Bool := twinDuties s && coordinatorOf s == nodeUnit s

/-- The header of an inauguration frame (Table 8-3), version 0x01. -/
def inaugHdr (s : State) (lineB : Bool) : InaugHdr :=
  { lineB := lineB, coordinator := coordinates s, inaugSeq := s.ine.run.seq, senderId := nodeUnit s
    domainEpoch := s.tms.domainEpoch, topoCount := s.ine.topo }

/-- The ports an inauguration frame of this node leaves on: every BB port of its lines that carries them, and TW0. -/
def inaugPorts (s : State) : List Nat :=
  (((ownLines s).flatMap linePorts) ++ [95]).filter (inaugPort s)

/-- The ports a received inauguration frame is forwarded to: the other port of its line, and TW0; one that comes from TW0 is
consumed (R198). -/
def forwardPorts (s : State) (p : Nat) : List Nat :=
  (if p = 95 then [] else [otherPort p, 95]).filter (inaugPort s)

/-- The line a frame names that leaves by port `p`: that of the port, on TW0 this device's own. -/
def frameLine (s : State) (p : Nat) : Bool := if p = 95 then s.ine.twin.lineB else lineOf p == .b

/-- A frame received names the line of its port (R77, R198). -/
def lineAgrees (p : Nat) (lineB : Bool) : Bool := decide (4 ≤ p) || lineB == (lineOf p == .b)

/-- An inauguration frame of this node, sent on both lines and to TW0, each copy naming its line (R198); of a twin pair the
device with the duties sends it (R214). -/
def inaugSend (s : State) (mk : InaugHdr → Sent) : State :=
  if twinDuties s then
    (ownLines s).foldl (fun s l => emitVia s ((linePorts l ++ [95]).filter (inaugPort s)) (mk (inaugHdr s (l == .b)))) s
  else s

/-- The same, for a frame recorded with its port. -/
def inaugSendEach (s : State) (mk : Nat → InaugHdr → Sent) : State :=
  if twinDuties s then emitEach s (inaugPorts s) fun p => mk p (inaugHdr s (frameLine s p)) else s

/-- The parts of 40 records of a table (Table 8-3). -/
def tableParts (l : List NodeRec) : List (List NodeRec) :=
  (List.range ((l.length + 39) / 40)).map fun i => (l.drop (40 * i)).take 40

/-- A table sent on ports; of a twin pair the device with the duties sends it (R214). -/
def sendTable (s : State) (ports : List Nat) (l : List NodeRec) : State :=
  let ps := tableParts l
  if twinDuties s then
    ((List.range ps.length).zip ps).foldl (fun s e =>
      emitEach s ports fun p => .table p (inaugHdr s (frameLine s p)) e.1 ps.length e.2) s
  else s

/-- A part of a table kept; another sender's parts begin a new set. -/
def addPart (x : PartSet) (sender : UnitId) (part parts : Nat) (l : List NodeRec) : PartSet :=
  let x := if x.sender = sender ∧ x.count = parts then x else { sender := sender, count := parts }
  { x with got := tset [] x.got part l }

/-- All parts of a table are there: the table. -/
def allParts (x : PartSet) : Option (List NodeRec) :=
  if x.count ≠ 0 && (List.range x.count).all fun i => x.got.any fun e => e.1 == i then
    some ((List.range x.count).flatMap fun i => tget [] x.got i)
  else none

/-! ## Ends of an inauguration -/

/-- HELLO starts, or starts again, on a BB port. -/
def startHello (s : State) (p : Nat) : State :=
  let s := putHello s p { helloOf s p with
    running := true, confirmed := false, held := false, run := 0, echoed := 0, partner := 0, upAt := s.mono, sentAt := none }
  if s.ine.state = .idle then putIne s .hello else s

/-- The links held during an inauguration are handled as new events after it (Table 8-7). -/
def releaseHeld (s : State) : State :=
  [0, 1, 2, 3].foldl (fun s p => if (helloOf s p).held && linkIsUp s p then startHello s p else s) s

/-- The inauguration is complete (Table 8-5, phase 7): counted, its duration and result kept. -/
def inaugComplete (s : State) : State :=
  let r := s.ine.run
  let silent := if coordinates s then
      (r.joint.filter fun n => !(r.acks.any fun a => a.1 == n.unit && a.2.1 == 0x46)).length else 0
  let missing := max silent (b2n (s.css.state == .listen))
  let s := { s with ine := { s.ine with
      state := .idle, count := s.ine.count + 1, duration := sat32 ((s.mono - r.startAt) / 1000)
      result := if missing = 0 then 0 else 5, missing := missing
      run := { r with couplers := [], joint := [], acks := [], digests := [], otherParts := {}, ownParts := {}, other := [], own := [] } } }
  releaseHeld (setAlarm s .ine 2)

/-- The own numbering taken from a numbered table (INE_SELF). -/
def takeNumbers (s : State) (nodes : List NodeRec) : State :=
  match nodes.find? fun n => n.unit == nodeUnit s with
  | some n => { s with ine := { s.ine with
      nodes := nodes, position := n.position, car := n.car, consist := n.consist, reversed := n.reversed
      gen := s.ine.gen + 2 } }
  | none => { s with ine := { s.ine with nodes := nodes, gen := s.ine.gen + 2 } }

/-- The windows that a renumbering in an inauguration makes read stale; one for the slot and target of an earlier window goes on
with its age, its last pan, its line and its value (Table 8-8; DEDUCED, log). -/
def agesKept (old s : State) : State :=
  { s with css := { s.css with windows := s.css.windows.map fun w =>
      match old.css.windows.find? fun v => v.slotId == w.slotId && v.delivery == w.delivery with
      | some v => { w with stale := true, age := v.age, lastPan := v.lastPan, line := v.line, validEver := v.validEver, value := v.value }
      | none => { w with stale := true } } }

/-- The schedule image instantiated for the present numbering (R91); one that does not fit is kept, not instantiated.
stop_reason stays as it is: the spec names the codes 6 (schedule mismatch) and 7 (no fit) of R93 and no event that produces them in
a node that has stopped for its inauguration, so none of the model's does (DESIGN CHOICE, log 81). -/
def reinstantiate (s : State) : State :=
  match s.css.image with
  | none => s
  | some im =>
    match instantiateImage s im with
    | some s' => ownWindows (agesKept s s')
    | none => setAlarm { s with css := { s.css with fits := false, slots := [], windows := [], gates := [], capable := false } } .css 5

/-- A timed CSS start that the node issues itself (R88, Table 8-5): WAIT_START where the image permits timed restart, else LISTEN
at T_s. No delivery has come since this start (Table 3-9). stop_reason returns to 0, as at CSS_START (DESIGN CHOICE, log). -/
def selfTimedStart (s : State) (t : Nat) (leader : UnitId) : State :=
  if s.css.state = .stopped ∧ s.css.fits then
    let s := cssFresh (cssHalt s)
    if s.css.image.any fun i => i.timedRestart then
      { s with css := { s.css with state := .waitStart, tStart := t, followed := leader, stopReason := 0 } }
    else { s with css := { s.css with listenDue := true, tStart := t } }
  else s

/-- The numbering before the inauguration (Table 8-7); a node that had none has none again. -/
def restoreNumbers (s : State) : State :=
  if s.ine.oldNodes.isEmpty then
    { s with ine := { s.ine with nodes := [], position := 255, car := 0, consist := 0, reversed := false, gen := s.ine.gen + 2 } }
  else takeNumbers s s.ine.oldNodes

/-- The identity, mode and topology counter before the inauguration: nothing else has changed (Table 8-7, R193). -/
def restoreIdent (s : State) : State :=
  let r := s.ine.run
  { s with ine := { s.ine with ident := r.oldIdent, mode := r.oldMode, topo := r.oldTopo } }

/-- The inauguration aborts on this node (R205): before CSS was stopped nothing else changes; after it the numbering goes
back, a stepped half takes domain_epoch + 1 and its former leader leads again without a step, and CSS restarts by timed
start 6 ms from now. -/
def inaugAbort (s : State) (reason : Nat) : State :=
  let r := s.ine.run
  let late := s.ine.state == .stopping || s.ine.state == .merging || s.ine.state == .renumbering || s.ine.state == .installing
  let begun := late || s.ine.state == .topology
  let s := setAlarm { s with ine := { s.ine with result := reason, missing := 0 } } .ine 3
  let s := r.couplers.foldl (fun s p =>
    putHello s p { helloOf s p with running := false, confirmed := false, run := 0 }) s
  let s := if tau56Armed s ∧ (tauOf s 56).owner = some deviceOwner then putTau s 56 { tauOf s 56 with state := .idle } else s
  let s := if begun then restoreIdent s else s
  let s := putRun (putIne s .idle) { r with
    joint := [], acks := [], digests := [], otherParts := {}, ownParts := {}, other := [], own := []
    couplers := if reason = 2 then r.couplers else []
    holdUntil := if reason = 2 then some (s.mono + 1000000000) else none }
  if !late then releaseHeld s
  else
    let s := if r.merged ∧ r.stepping then
        { s with tms := { s.tms with domainEpoch := s.tms.domainEpoch + 1, mergeStep := false } } else s
    let s := if s.ine.nodes = s.ine.oldNodes then s else reinstantiate (restoreNumbers s)
    let s := if s.css.state = .stopped ∨ s.css.image.isNone then s else cssStopped s 5
    if r.formerLeader = s.otp.unitId then
      releaseHeld (selfTimedStart (leadTime s false) (trtNs s + 6000000) s.otp.unitId)
    else
      let s := followLeader s r.formerLeader
      releaseHeld (if s.css.fits ∧ s.css.state = .stopped then cssListen s else s)

/-- An abort that this node orders: ABORT floods (Table 8-3); of a twin pair the device with the duties sends it (R214). -/
def orderAbort (s : State) (reason : Nat) : State :=
  inaugAbort (inaugSend s fun h => .inaugAbort h reason) reason

/-! ## Phases (Table 8-5) -/

/-- An inauguration begins (phase 2): the identity of Table 8-1 takes effect. -/
def inaugBegin (s : State) (merge : Bool) (startAt : Nat) : State :=
  let id := s.ine.identNext
  setAlarm { s with ine := { s.ine with
      state := .topology, ident := id, mode := id.mode, oldNodes := s.ine.nodes
      run := { seq := s.ine.run.seq + 1, merge := merge, formerLeader := s.tms.leaderId, startAt := startAt
               phaseAt := s.mono, oldIdent := s.ine.ident, oldMode := s.ine.mode, oldTopo := s.ine.topo
               funcs := s.ine.run.funcs } } } .ine 1

/-- The leader of a table: its node flagged TRT leader, 0 = none. -/
def tableLeader (l : List NodeRec) : UnitId := match l.find? NodeRec.isLeader with | some n => n.unit | none => 0

/-- The own half steps (R203): fewer nodes; at equal counts the higher leader; a half with no leader always, none where
neither has one. -/
def ownSteps (own other : List NodeRec) : Bool :=
  let a := tableLeader own
  let b := tableLeader other
  if a = 0 ∧ b = 0 then false else if a = 0 then true else if b = 0 then false
  else if own.length < other.length then true
  else if other.length < own.length then false
  else decide (b.toNat < a.toNat)

/-- Of two halves without a leader the one with more nodes counts as the surviving one where R200 asks for it, at equal counts that of
the lowest unit ID (DESIGN CHOICE, log: R203 steps neither). -/
def ownSurvives (own other : List NodeRec) : Bool :=
  let lowest := fun (l : List NodeRec) => l.foldl (fun m n => min m n.unit.toNat) (2 ^ 64)
  if tableLeader own = 0 ∧ tableLeader other = 0 then
    (if own.length = other.length then decide (lowest own < lowest other) else decide (other.length < own.length))
  else !ownSteps own other

/-- A HELLO exchange runs on some port. -/
def helloOn (s : State) : Bool := [0, 1, 2, 3].any fun q => (helloOf s q).running

/-- A coupling exceeds a limit of R193: its ports stay fabric-down, train_too_large is set, all else goes on. -/
def refuseLarge (s : State) (ports : List Nat) : State :=
  let s := ports.foldl (fun s p => putHello s p { helloOf s p with running := false }) s
  setAlarm { s with ine := { s.ine with result := 3, missing := 0 } } .ine 6

/-- Phase 2 finds a limit of R193 exceeded: the half goes on as it was before. -/
def tooLarge (s : State) : State :=
  let s := restoreIdent (refuseLarge s s.ine.run.couplers)
  releaseHeld (putRun (putIne s .idle) { s.ine.run with
    couplers := [], joint := [], digests := [], otherParts := {}, ownParts := {}, other := [], own := [] })

/-- The joint table is known: the DIGEST of this node (phase 2). -/
def sendDigest (s : State) : State :=
  let r := s.ine.run
  let crc := tableCrc r.joint
  let s := putRun s { r with
    digests := (r.digests.filter fun d => d.1 != nodeUnit s) ++ [(nodeUnit s, crc, r.joint.length, r.stepping)] }
  inaugSendEach s fun p h => .digest p h crc r.joint.length r.stepping

/-- The joint table of a coupling computed from the two halves (R200 to R203). Two declared cabs: the declaration outside
the surviving half is cleared and lead_conflict set. -/
def proposeMerge (s : State) : State :=
  let r := s.ine.run
  let own := r.own
  let other := r.other
  let steps := ownSteps own other
  let stays := ownSurvives own other
  let survivor := if steps then tableLeader other else tableLeader own
  let mine := fun (n : NodeRec) => own.any fun m => m.unit == n.unit
  let survives := fun n => mine n == stays
  let faces := facesHead other r.otherUnit
  let otherKept := r.front != faces
  let ownHad := own.any fun n => n.car == 1
  let otherHad := other.any fun n => n.car == 1
  let kept : Option Bool :=
    if ownHad && (stays || !otherHad) then some true else if otherHad then some otherKept else none
  let conflict := own.any NodeRec.lead && other.any NodeRec.lead
  let joint := orientTable (joinHalves own other r.front faces) survives kept
  let joint := joint.map fun n => if conflict && n.lead && !survives n then { n with lead := false } else n
  if !tableFits joint then tooLarge s
  else
    let s := if conflict && !stays then { s with ine := { s.ine with lead := 0 } } else s
    sendDigest (putRun (setAlarmIf s conflict .ine 8)
      { r with joint := joint.map unnumbered, stepping := steps, survivor := survivor })

/-- Of several cabs declared in one train that of the foremost node stays in force (DESIGN CHOICE, log: R200 names two halves). -/
def oneLead (l : List NodeRec) : List NodeRec :=
  match l.find? NodeRec.lead with
  | some m => l.map fun n => { n with lead := n.lead && n.unit == m.unit }
  | none => l

/-- The table of a half that inaugurates without a merge (R207): the order kept, turned where a declared cab asks for it. A second
declaration is cleared, with lead_conflict (R200). -/
def proposeSingle (s : State) : State :=
  let l := oneLead s.ine.run.own
  let told := fun (n : NodeRec) => n.lead && n.unit == nodeUnit s
  let lost := s.ine.lead != 0 && !(l.any told) && l.any NodeRec.lead
  let conflict := lost || l != s.ine.run.own
  let s := setAlarmIf (if lost then { s with ine := { s.ine with lead := 0 } } else s) conflict .ine 8
  let keeps := decide (l.length < (ownTable s).length) && l.any fun n => n.car == 1
  let joint := if keeps then l else orientTable l (fun _ => true) (some true)
  let leader := if l.any fun n => n.unit == s.tms.leaderId then s.tms.leaderId else 0
  sendDigest (putRun s { s.ine.run with joint := joint.map unnumbered, stepping := false, survivor := leader, keeps := keeps })

/-- What is known of the tables proposed: the joint table, once both halves' are there; without a merge that of the own half. -/
def propose (s : State) : State :=
  let r := s.ine.run
  if r.own.isEmpty || (r.merge && r.other.isEmpty) then s
  else if r.merge then proposeMerge s
  else proposeSingle s

/-- The function lists of every node of the joint table have come (R202). -/
def funcsComplete (s : State) : Bool :=
  s.ine.run.joint.all fun n => n.unit == nodeUnit s || s.ine.run.funcsFrom.contains n.unit

/-- Renumbering (phase 5): positions, cars and consists, the inactive alias bank, the schedule for the new numbering. -/
def renumber (s : State) : State :=
  let nodes := (numberTable s.ine.run.joint).out
  let s := buildAlias (takeNumbers s nodes) nodes
  if s.ine.run.keeps then s else reinstantiate s

/-- An ACK of a node is kept; one of this node is sent (Table 8-3). -/
def keepAck (s : State) (u : UnitId) (sub status : Nat) : State :=
  let r := s.ine.run
  putRun s { r with acks := (r.acks.filter fun a => !(a.1 == u && a.2.1 == sub)) ++ [(u, sub, status)] }

/-- This node acknowledges a frame. -/
def sendAck (s : State) (sub status : Nat) : State :=
  inaugSend (keepAck s (nodeUnit s) sub status) fun h => .inaugAck h sub status

/-- Every node of the joint table has acknowledged with OK. -/
def allAcked (s : State) (sub : Nat) : Bool :=
  s.ine.run.joint.all fun n => s.ine.run.acks.any fun a => a.1 == n.unit && a.2.1 == sub && a.2.2 == 0

/-- The ports of the joined lines become fabric-up (R206), and streams that left by them resume (R161). -/
def couplersUp (s : State) : State :=
  streamsBack (s.ine.run.couplers.foldl (fun s p => putHello s p { helloOf s p with fabricUp := true, running := false }) s)

/-- T_s is reached: the bank switches and in the same tick the coupler ports become fabric-up (R206, R209); without a CSS
restart to wait for, or where this node has fallen to LISTEN, the inauguration is complete. -/
def aliasEpoch (s : State) (b : Nat) : State :=
  let s := aliasSwitch s b
  if s.ine.state = .installing then
    let s := couplersUp s
    let s := putRun s { s.ine.run with switched := true }
    if s.ine.run.keeps || s.css.state == .listen || s.css.state == .stopped && !(s.css.fits && s.css.image.isSome) then
      inaugComplete s
    else s
  else s

/-- INSTALL executed (phase 6): TAU56 with ALIAS_EPOCH at T_s, or the bank at once where neither half has a leader (R203);
a timed CSS start to T_s. -/
def installRun (s : State) (t : Nat) (topo : Word) : State :=
  let s := if s.ine.run.keeps then renumber s else s
  let s := { s with ine := { s.ine with state := .installing, topo := topo, run := { s.ine.run with tStart := t } } }
  let s := if s.ine.run.keeps then s else selfTimedStart s t (coordinatorOf s)
  let s := sendAck s 0x46 0
  let b := 1 - s.ine.activeBank
  if s.ine.run.merge ∧ s.ine.run.survivor = 0 then aliasEpoch s b else armDevice s 56 6 (word b) t

/-- A node that has had no INSTALL hears the cycle-starts that follow it (Table 8-7): it enters LISTEN instead of WAIT_START and
integrates later; its bank, which only TAU56 switches (R209), follows at once. -/
def missInstall (s : State) : State :=
  let topo := Config.topoCount (s.ine.nodes.flatMap nodeBytes)
  let s := { s with ine := { s.ine with state := .installing, topo := topo, run := { s.ine.run with tStart := trtNs s } } }
  cssListen (armDevice s 56 6 (word (1 - s.ine.activeBank)) (trtNs s))

/-- The coordinator sends INSTALL with T_s = now + 6 ms (Tables 8-5 and 8-6), with the topology counter and the CRC of the
numbered table (R211). -/
def sendInstall (s : State) : State :=
  let t := trtNs s + 6000000
  let nodes := (numberTable s.ine.run.joint).out
  let topo := Config.topoCount (nodes.flatMap nodeBytes)
  let s := inaugSend s fun h => .inaugInstall h (t / 1000000000) (t % 1000000000) topo (tableCrc nodes)
  installRun s t topo

/-- What an ACK of this node or another leads the coordinator to, once every node has sent it. -/
def afterRenumber (s : State) : State :=
  if coordinates s && s.ine.state == .renumbering && allAcked s 0x45 then sendInstall s else s

/-- This node's merge is over (Table 8-5, phase 4): it is LOCKED or LEADER, or no half has a leader to lock to (R203). -/
def mergeOver (s : State) : Bool :=
  s.tms.trtState == .locked || s.tms.trtState == .leader || s.tms.trtState == .none || s.ine.run.survivor == 0

/-- Phase 4 ends on this node once its merge is over, and the stop of phase 3 where there is no merge; with the function lists of
every node (R202) it renumbers and acknowledges. -/
def mergeSettle (s : State) : State :=
  if s.ine.state = .merging ∧ (¬ s.ine.run.merge ∨ (s.ine.run.merged ∧ mergeOver s)) ∧ funcsComplete s then
    afterRenumber (sendAck (renumber (putIne s .renumbering)) 0x45 0)
  else s

/-- MERGE executed (R203): every node takes the new domain_epoch; one of the stepping half takes the surviving leader and
steps on its first LTM; renumbering follows when the node is LOCKED or LEADER (Table 8-5). -/
def mergeRun (s : State) (epoch : Word) (leader : UnitId) : State :=
  let s := { s with
    tms := { s.tms with domainEpoch := epoch }
    ine := { s.ine with steppedLast := false, run := { s.ine.run with merged := true } } }
  let s := if s.ine.run.stepping then
      let s := unleadTime s leader
      selectUpstream { s with tms := { s.tms with
        trtState := if s.tms.trtState = .none then .none else .acquiring
        mergeStep := true, aligned := false, goodRun := 0, badRun := 0 } }
    else s
  mergeSettle s

/-- Every node is stopped: the coordinator sends MERGE with one more than the larger epoch (R203). -/
def afterStop (s : State) : State :=
  if coordinates s && s.ine.state == .merging && !s.ine.run.merged && allAcked s 0x44 then
    let r := s.ine.run
    let epoch := (if s.tms.domainEpoch.toNat < r.otherEpoch.toNat then r.otherEpoch else s.tms.domainEpoch) + 1
    let s := inaugSend s fun h => .merge h epoch r.survivor
    mergeRun s epoch r.survivor
  else s

/-- This node's CSS has stopped in phase 3: with a merge it says so and waits for MERGE; without one it renumbers (R207), once the function lists are there. -/
def stopped5 (s : State) : State :=
  if s.ine.run.merge then afterStop (sendAck (putIne s .merging) 0x44 0) else mergeSettle (putIne s .merging)

/-- PROCEED executed (phase 3): the CSS leader announces its next pan + 2 as stop_pan; a node whose pans do not run stops at
once; the function list is flooded (R202, R210). -/
def proceedRun (s : State) : State :=
  let s := putIne s .stopping
  let s := inaugSendEach s fun p h => .funcs p h (nodeUnit s) s.ine.ident.functions
  match s.css.state with
  | .leader => { s with css := { s.css with stopPan := some (s.css.pan + 3), stopWhy := 5 } }
  | .active | .integrating => { s with css := { s.css with stopWhy := 5 } }
  | .stopped => stopped5 s
  | _ => stopped5 (cssStopped s 5)

/-- The coordinator holds equal DIGESTs from every node: PROCEED, or, where the half keeps car 1, INSTALL at once. -/
def topologyAgreed (s : State) : State :=
  let r := s.ine.run
  let crc := tableCrc r.joint
  if s.ine.state = .topology ∧ coordinates s ∧ ¬ r.joint.isEmpty ∧
      (r.joint.all fun n => r.digests.any fun d => d.1 == n.unit && d.2.1 == crc && d.2.2.1 == r.joint.length) then
    if r.keeps then sendInstall s
    else proceedRun (inaugSend s .proceed)
  else s

/-- A DIGEST of this node may be the last one needed. -/
def afterDigest (s : State) : State := topologyAgreed s

/-- A pan boundary as the inauguration in progress sees it: a leader elected in it may coordinate (R207); the stop of phase 3 is
reached, or pan 2 of phase 7. -/
def inaugPan (s : State) : State :=
  if s.ine.state = .topology then topologyAgreed s
  else if s.ine.state = .stopping ∧ s.css.state = .stopped then stopped5 s
  else if s.ine.state = .installing ∧ s.ine.run.switched ∧ integrated s ∧ ¬ s.ine.run.keeps ∧ 2 ≤ s.css.pan.toNat then
    inaugComplete s
  else s

/-- A node that falls to LISTEN during phase 7 integrates later: its inauguration ends here (Table 8-7), or with the switch of
T_s where that comes after it (R206). -/
def inaugListen (s : State) : State :=
  if s.ine.state = .installing ∧ s.ine.run.switched ∧ s.css.state = .listen then inaugComplete s else s

/-- A backbone link of a numbered train down on every line in a direction splits it (R207). -/
def splitsTrain (s : State) (p : Nat) : Bool :=
  decide (1 < s.ine.nodes.length) && !(linkIsUp s ((p + 2) % 4) && (helloOf s ((p + 2) % 4)).fabricUp)

/-- BB port `p` points to train direction 1 (R201). -/
def towardsFront (s : State) (p : Nat) : Bool := (p % 2 == 0) != s.ine.reversed

/-- This node's place in its half's table. -/
def ownIndex (s : State) (l : List NodeRec) : Nat := l.findIdx fun n => n.unit == nodeUnit s

/-- An inauguration without a merge begins at this node: its table floods, and its DIGEST (R207). -/
def beginSingle (s : State) (l : List NodeRec) : State :=
  let s := inaugBegin s false s.mono
  let s := putRun s { s.ine.run with own := l, initiator := true }
  afterDigest (propose (sendTable s (inaugPorts s) l))

/-- The train is split at BB port `p`: the half of this node inaugurates without a merge (R207). -/
def uncouple (s : State) (p : Nat) : State :=
  let l := ownTable s
  let i := ownIndex s l
  let rest := if towardsFront s p then l.drop i else l.take (i + 1)
  beginSingle s rest

/-- An inauguration in standard mode begins where none is under way: the identity of Table 8-1 takes effect (R194). -/
def beginStandard (s : State) : State :=
  if s.ine.state = .standard ∧ ¬ s.ine.run.stable then s
  else
    { s with ine := { s.ine with
      state := .standard, mode := 1, ident := s.ine.identNext, run := { s.ine.run with stable := false } } }

/-- A node in auto mode whose last inauguration ended in standard mode starts the next in fast mode (R195). -/
def autoStable (s : State) : Bool := s.ine.state == .standard && s.ine.run.stable && s.ine.identNext.mode != 1

/-- A BB link comes up as the INE sees it (R199, Table 8-7): HELLO starts, or the link is held until the inauguration in
progress ends; a node in standard mode sends TTDP frames, and in auto mode, once its topology is stable, starts the next inauguration
in fast mode (R195). -/
def ineLinkUp (s : State) (p : Nat) : State :=
  if s.ine.identNext.mode = 1 ∨ (s.ine.state = .standard ∧ ¬ s.ine.run.stable) then
    emitEach (putHello (beginStandard s) p { upAt := s.mono }) [p] .ttdp
  else if s.ine.state = .standard then startHello (putIne s .idle) p
  else
    match s.ine.state with
    | .stopping | .merging | .renumbering | .installing => putHello s p { upAt := s.mono, held := true }
    | _ => startHello s p

/-- Phase 1 ends with LINK_LOST (Table 8-7); HELLO goes on where another link runs it. -/
def helloLost (s : State) : State :=
  let s := setAlarm { s with ine := { s.ine with result := 1, missing := 0 } } .ine 3
  if helloOn s then s else putIne s .idle

/-- A BB link that carried the train goes down while no inauguration runs: one that splits the train begins one (R207). -/
def splitAt (s : State) (p : Nat) (carried : Bool) : State := if carried && splitsTrain s p then uncouple s p else s

/-- A BB link goes down as the INE sees it (Table 8-7, R207). In phase 7, which Table 8-7 does not name, the inauguration ends
first (DESIGN CHOICE, log). In standard mode a change of the topology begins an inauguration, in auto mode a fast one (R195). -/
def ineLinkDown (s : State) (p : Nat) : State :=
  let x := helloOf s p
  let s := putHello s p {}
  match s.ine.state with
  | .topology | .stopping | .merging | .renumbering | .installing =>
    if s.ine.run.switched then splitAt (inaugComplete s) p x.fabricUp
    else if s.ine.run.couplers.contains p then
      let s := putRun s { s.ine.run with couplers := sdel s.ine.run.couplers p }
      if s.ine.run.couplers.isEmpty then orderAbort s 1 else s
    else if x.fabricUp then splitAt (orderAbort s 1) p true
    else s
  | .hello =>
    if x.fabricUp && splitsTrain s p then uncouple (helloLost s) p
    else if x.fabricUp || !(helloOn s) then helloLost s
    else s
  | .idle | .held => splitAt s p x.fabricUp
  | .standard =>
    if autoStable s then splitAt s p x.fabricUp
    else if x.fabricUp && splitsTrain s p then beginStandard s
    else s

/-- Time service is lost on this node (R205): as coordinator it aborts the inauguration with NO_TIME; any other node leaves
it. -/
def inaugTimeLost (s : State) : State :=
  match s.ine.state with
  | .topology | .stopping | .merging | .renumbering | .installing =>
    if coordinates s then orderAbort s 4 else putRun (putIne s .idle) { s.ine.run with couplers := [], joint := [] }
  | _ => s

/-! ## The twin pair (R214 to R218) -/

/-- A TAU's armed parameters as the state image carries them (Tables 4-9 and 8-9). -/
def armOf (k : Nat) (r : TauRec) : TauArm :=
  { tau := k, mode := match r.mode with | .oneShot => 0 | .periodic => 1 | .gated => 2
    timescale := b2n r.wyt, target := r.target, arg := r.arg
    fireSec := r.fire / 65536 / 1000000000, fireNs := r.fire / 65536 % 1000000000, fireFrac := r.fire % 65536
    keySlot := r.keySlot, period := r.period, count := r.count
    commitSec := r.commitAt / 1000000000, commitNs := r.commitAt % 1000000000, actionId := r.actionId
    issuerId := r.issuer, source := b2n r.wayside, survey := b2n r.survey, surveySlot := r.surveySlot
    surveySpan := r.surveySpan, expected := r.expected, twinShared := true }

/-- The record of a TAU armed with parameters by `owner`. -/
def recOfArm (s : State) (a : TauArm) (owner : Nat) : TauRec :=
  { state := .armed, mode := match a.mode with | 0 => .oneShot | 1 => .periodic | _ => .gated
    wyt := a.timescale == 1, target := a.target, arg := a.arg
    fire := linNs a.fireSec a.fireNs * 65536 + a.fireFrac, keySlot := a.keySlot, period := a.period, count := a.count
    commitAt := linNs a.commitSec a.commitNs, actionId := a.actionId, issuer := a.issuerId, wayside := a.source == 1
    survey := a.survey == 1, surveySlot := a.surveySlot
    surveySpan := if a.surveySpan = 0 then 8 else a.surveySpan, expected := a.expected, owner := some owner
    epoch := s.tms.trtEpoch, shared := a.twinShared }

/-- A TAU's record in a state image. -/
def sharedOf (k : Nat) (r : TauRec) : TauShared :=
  { arm := armOf k r, committed := r.state == .committed, k := r.k, owner := r.owner, epoch := r.epoch }

/-- The record of a TAU as a Standby device holds it: armed, and COMMITTED where it is; the frame buffer is this device's own. -/
def recOfShared (s : State) (a : TauShared) : TauRec :=
  { recOfArm s a.arm (a.owner.getD 0) with
    state := if a.committed then .committed else .armed, k := a.k, owner := a.owner, epoch := a.epoch
    buffer := (tauOf s a.arm.tau).buffer }

/-- Pans since the last commit of a slot (DESIGN CHOICE, log: Table 8-9 names the age and not its unit). -/
def slotAge (s : State) (x : TxSlot) : Nat := if panNs s = 0 then 0 else min 65535 ((s.mono - x.commitAt) / panNs s)

/-- The state image of this device (Table 8-9), as far as State holds what it carries. -/
def imageOf (s : State) : TwinImage :=
  { pan := s.css.pan, crcOk := true
    taus := (s.tau.units.filter fun e => e.2.shared && tauLive e.2).map fun e => sharedOf e.1 e.2
    sessions := (s.host.tenants.filter fun e => e.2.state != .free).map fun e =>
      { tenant := e.1, counter := e.2.counter, cmac4 := e.2.shortCmac, status := e.2.shortStatus, reason := e.2.shortReason }
    slots := (s.css.slots.filter TxSlot.shared).map fun x =>
      { slot := x.slotId, prodSeq := x.prodSeq, ready := x.ready, data := x.data, age := slotAge s x }
    nodes := s.ine.nodes, topo := s.ine.topo
    streams := ((s.adm.streams.filter fun o => o.state == .active || o.state == .suspended).take 128).map fun o =>
      { streamId := o.streamId, txn := o.txn, owner := o.owner, suspended := o.state == .suspended, req := o.req
        path := o.path, pathB := o.pathB }
    owners := (s.lgb.vars.filter fun e => e.2.len != 0).map fun e =>
      { var := e.1, writer := e.2.writer, stale := e.2.stale } }

/-! ### The swap (R218) -/

/-- A class C command is executing (R218). -/
def classCRuns (s : State) : Bool := s.host.tenants.any fun e => e.2.inflight.any fun i => i.classC

/-- A swap is permitted now (R218): no class C command, no inauguration, TW0 locked. -/
def swapPermitted (s : State) : Bool :=
  !classCRuns s && !inaugurating s && linkIsUp s 95 && (tget ({} : LinkTime) s.tms.links 4).qualified

/-- The next swap falls due one swap_interval later. -/
def swapLater (s : State) (from_ : Nat) : State :=
  putTwin s { s.ine.twin with due := false, dueAt := from_ + s.ine.twin.interval * 1000000000 }

/-- The swap instant (Table 8-10): the duties move at the next pan boundary. -/
def swapNow (s : State) : State :=
  let move := fun (s : State) (st : TwinState) =>
    let s := swapLater s s.ine.twin.dueAt
    putTwin s { s.ine.twin with swaps := s.ine.twin.swaps + 1, atBoundary := some st }
  match s.ine.twin.state with
  | .active => move (twinEvent s 0) .standby
  | .standby => move s .active
  | _ => s

/-- What a pan boundary does to the twin pair (Table 8-10, R218): a move that waits for it is made, the final image sent before the
duties are released; a due swap takes place at the first boundary within 1 s at which it is permitted. -/
def twinBoundary (s : State) : State :=
  let x := s.ine.twin
  match x.atBoundary with
  | some st =>
    let s := if x.state = .active ∧ st = .standby ∧ ¬ x.finalSent then twinSend s (.twinImage (imageOf s)) else s
    twinEnter s st
  | none => if x.due && decide (s.mono ≤ x.dueAt + 1000000000) && swapPermitted s then swapNow s else s

/-- The twin partner reports its state at TW0's link-up (Table 8-10): 0 UNPAIRED, 2 ACTIVE, 4 ALONE. -/
def twinLinkUp (s : State) (pt : Partner) : State :=
  let x := s.ine.twin
  if x.partner ≠ some pt.unit then s
  else
    match x.state, pt.twin with
    | .unpaired, 0 =>
      if x.lineB then twinEnter s .syncing
      else putTwin (twinEnter s .active) { (twinEnter s .active).ine.twin with dueAt := s.mono + x.interval * 1000000000 }
    | .unpaired, 2 | .unpaired, 4 => twinEnter s .syncing
    | .alone, 4 =>
      if x.lineB then twinMove s .syncing
      else twinEnter (twinSend s (.twinFull (imageOf s))) .active
    | .alone, 2 => twinMove s .syncing
    | _, _ => s

end Sys2Proof.Machine
end

