-- ==== Sys2Proof/Machine/Time.lean ====
section
/-! DEFINITION. The commands of Train Time and Wayside Time: link timing messages, servos, gPTP, PPS, the reference monitor,
segment beacons and the TIME commands (spec/02_train_time.md). -/

namespace Sys2Proof.Machine

/-! ## Link timing messages -/

/-- Link `l` of the time paths. -/
def linkTime (s : State) (l : Nat) : LinkTime := tget {} s.tms.links l

/-- Link `l` replaced. -/
def putLinkTime (s : State) (l : Nat) (x : LinkTime) : State :=
  { s with tms := { s.tms with links := tset {} s.tms.links l x } }

/-- The visible fraction of a raw time, in 2^-16 ns. -/
def fracOf (raw : Nat) : Nat := raw / 2 ^ 32 % 65536

/-- The LTM a port sends now (Table 2-4), with `seq` its number. -/
def ltmOf (s : State) (l : Nat) (seq : BitVec 16) : Ltm :=
  let e := (linkTime s l).echo.getD (0, 0, 0, 0, 0)
  let t := txTrt s (portOfLink l)
  { version := 1, isLeader := s.tms.trtState == .leader, inHoldover := s.tms.trtState == .holdover
    trtValid := trtValid s, seq := seq, hops := s.tms.hops, leaderId := s.tms.leaderId, senderId := s.otp.unitId
    tSec := t / nsRaw / 1000000000, tNs := t / nsRaw % 1000000000, tFrac := fracOf t
    echoT1 := e.2.1.toNat, echoT1Frac := e.2.2.1, echoT2 := e.2.2.2.1.toNat, echoT2Frac := e.2.2.2.2, echoSeq := e.1
    drift := s.tms.trtDrift, domainEpoch := s.tms.domainEpoch }

/-- One LTM leaves now (R40, R56): a link in low-power idle is woken for it; where the insertion of its time fields does
not complete, the frame ends with an invalid FCS. -/
def ltmNow (p l : Nat) (inserted : Bool) (s : State) : State :=
  let x := linkTime s l
  let m := ltmOf s l (x.txSeq + 1)
  let s := putLinkTime s l { x with txSeq := x.txSeq + 1, ltmAt := some s.mono }
  let s := if (tget ({} : LinkRec) s.ports.links p).lpiNow then emit s (.lpiWake p) else s
  emit (countSent s p 82) (if inserted then .ltm p m else .spoiled p)

/-- A BB port or TW0 with link up, while there is time service, sends an LTM at the next of its nominal instants, 125 µs
apart (R40). -/
def ltmSendEffect (p : Nat) (inserted : Bool) (s : State) : State :=
  match linkOf p with
  | none => s
  | some l =>
    if !linkIsUp s p || !s.tms.tsValid then s
    else ltmNow p l inserted (untilMono s (nextBeat (linkTime s l).ltmAt 125000 s.mono))

/-- LTM_SEND (R40). -/
def execLtmSend (d : Departure) (s : State) : Out := .next (ltmSendEffect d.at_ d.inserted s)

/-- The signed distance of two stamps, linear ns mod 2^32 with fractions, in units of 2^-16 ns. -/
def stampDiff (a : Word) (af : Nat) (b : Word) (bf : Nat) : Int :=
  (a - b).toInt * 65536 + ((af : Int) - bf)

/-- A rate as 2^48 plus a DRIFT. -/
def rate48 (d : Int) : Int := 2 ^ 48 + d

/-- One delay sample in ps (R41): ((t4 − t1) − ρ (t3 − t2)) / 2, ρ the ratio of the local TRT rate to the neighbour's, from
the phase tracker's ratio and the two DRIFTs (R42). -/
def delaySample (s : State) (l : Nat) (x : LinkTime) (m : Ltm) : Int :=
  let t4 := rxTrt s (portOfLink l)
  let away := stampDiff (stamp32 t4) (fracOf t4) (word m.echoT1) m.echoT1Frac
  let stay := stampDiff (word (linNs m.tSec m.tNs)) m.tFrac (word m.echoT2) m.echoT2Frac
  let scaled := stay * rate48 s.tms.trtDrift * 2 ^ 48 / (rate48 m.drift * rate48 x.ratio)
  (away - scaled) * 1000 / 131072

/-- An LTM carries a valid echo: that of the last LTM sent on the port (R41). -/
def echoValid (x : LinkTime) (m : Ltm) : Bool :=
  m.echoSeq == x.txSeq && !(m.echoSeq == 0 && m.echoT1 == 0 && m.echoT2 == 0)

/-- The offset of the local TRT from the neighbour's in ps (R41): t4 − (t3 + d + bb_asym). -/
def ltmOffsetPs (s : State) (l : Nat) (m : Ltm) : Int :=
  let t3 : Int := (linNs m.tSec m.tNs * 65536 + m.tFrac : Nat)
  let t4 : Int := (rxTrt s (portOfLink l) / 2 ^ 32 : Nat)
  (t4 - t3) * 1000 / 65536 - linkDelayPs s l - tget 0 s.tms.cfg.bbAsym l

/-- What an LTM says of its sender is kept with its echo and the phase tracker's reading (R40 to R43). -/
def ltmStore (s : State) (l : Nat) (m : Ltm) (ratio : Int) : State :=
  let x := { linkTime s l with ratio := ratio }
  let samples := if echoValid x m then (delaySample s l x m :: x.samples).take 16 else x.samples
  let t4 := rxTrt s (portOfLink l)
  putLinkTime s l { x with
    echo := some (m.seq, word (linNs m.tSec m.tNs), m.tFrac, stamp32 t4, fracOf t4)
    peer := some { leaderId := m.leaderId, senderId := m.senderId, epoch := m.domainEpoch, hops := m.hops
                   isLeader := m.isLeader, inHoldover := m.inHoldover, valid := m.trtValid, drift := m.drift, at_ := s.mono }
    samples := samples }

/-- Some link has brought an LTM with this node's leader_id within 500 µs, other than link `l`. -/
def leaderHeard (s : State) (l : Nat) : Bool :=
  [0, 1, 2, 3, 4].any fun k => k != l &&
    match (linkTime s k).peer with
    | some p => p.leaderId == s.tms.leaderId && p.epoch == s.tms.domainEpoch && decide (s.mono < p.at_ + 500000)
    | none => false

/-- A node takes its leader_id from an LTM (R46; DEDUCED, log): with no leader also the domain_epoch; within its domain
from the leader itself, from the leader CSS follows, or where its own leader is heard no more. A TRT leader whose CSS no
longer leads follows the leader that its domain names instead. -/
def ltmAdopt (s : State) (l : Nat) (m : Ltm) : State :=
  if s.tms.trtState == .none || m.leaderId == 0 || m.leaderId == s.otp.unitId then s
  else if s.tms.trtState == .leader then
    if s.css.state == .coldstart || s.css.state == .leader || m.domainEpoch != s.tms.domainEpoch then s
    else unleadTime s m.leaderId
  else if s.tms.leaderId == 0 then
    { s with tms := { s.tms with
        leaderId := m.leaderId, domainEpoch := m.domainEpoch, leaderSince := s.mono, goodRun := 0, badRun := 0
        aligned := false } }
  else if m.domainEpoch == s.tms.domainEpoch &&
      (m.isLeader || !leaderHeard s l || (s.css.state != .stopped && s.css.followed == m.leaderId)) then
    followLeader s m.leaderId
  else s

/-- The step to upstream time (Table 2-3): TRT less the offset; a step of a merge is kept in INE_LAST_STEP (R203). -/
def stepToUpstream (s : State) (offPs : Int) : State :=
  let new := ((s.tms.trt : Int) - offPs * nsRaw / 1000).toNat
  let merge := s.tms.mergeStep
  let s := trtStep s new
  let s := { s with tms := { s.tms with
      aligned := true, mergeStep := false, goodRun := 0, badRun := 0, offsets := [] } }
  if merge then
    setAlarm { s with ine := { s.ine with
        steppedLast := true, stepSec := s.tms.stepRec.sec, stepNs := s.tms.stepRec.ns } } .ine 4
  else s

/-- R44: 16 consecutive offsets within lock_window make the node LOCKED; 4 outside four times lock_window end it. -/
def lockRule (s : State) (offPs : Int) : State :=
  let w := s.tms.cfg.lockWindow * 1000
  let good := decide (offPs.natAbs ≤ w)
  let bad := decide (4 * w < offPs.natAbs)
  let g := if good then s.tms.goodRun + 1 else 0
  let b := if bad then s.tms.badRun + 1 else 0
  let s := { s with tms := { s.tms with goodRun := g, badRun := b } }
  match s.tms.trtState with
  | .acquiring =>
    if 16 ≤ g then { s with tms := { s.tms with trtState := .locked, lockedSince := s.mono, trtHoldSince := none } } else s
  | .locked =>
    if 4 ≤ b then setAlarm { s with tms := { s.tms with trtState := .acquiring, goodRun := 0, badRun := 0 } } .tms 2 else s
  | _ => s

/-- What the offset to the upstream does (R41, R44, Table 2-3). -/
def applyOffset (s : State) (offPs : Int) : State :=
  let shown := max (-2147483647) (min 2147483647 offPs)
  let s := { s with tms := { s.tms with upOffset := shown, offsets := offPs :: s.tms.offsets } }
  let s := if s.tms.trtState == .free || s.tms.trtState == .holdover then
      { s with tms := { s.tms with trtState := .acquiring, trtHoldSince := none, goodRun := 0, badRun := 0 } } else s
  if integrated s && decide (s.tms.cfg.stepThreshold * 1000 < offPs.natAbs) then
    let id := s.tms.leaderId
    stepToUpstream (cssStepped s id) offPs
  else if !integrated s && s.tms.trtState == .acquiring && !s.tms.aligned then
    if s.tms.cfg.lockWindow * 1000 < offPs.natAbs then stepToUpstream s offPs
    else lockRule { s with tms := { s.tms with aligned := true, mergeStep := false } } offPs
  else lockRule s offPs

/-- An LTM that carries this node's leader_id is remembered with its time (R45). -/
def ltmLed (s : State) (l : Nat) (m : Ltm) : State :=
  if m.leaderId == s.tms.leaderId then putLinkTime s l { linkTime s l with led := some (m.leaderId, s.mono) } else s

/-- A received LTM (R41 to R46). -/
def ltmReceiveEffect (p : Nat) (m : Ltm) (ratio : Int) (s : State) : State :=
  match linkOf p with
  | none => s
  | some l =>
    if !linkIsUp s p || !s.tms.tsValid then s
    else if m.version ≠ 1 then
      putLinkTime (countGot s p 82) l { linkTime s l with versionDiscards := (linkTime s l).versionDiscards + 1 }
    else
      let s := selectUpstream (ltmLed (ltmAdopt (ltmStore (countGot s p 82) l m ratio) l m) l m)
      if s.tms.trtState == .leader || s.tms.upstream != l || !upstreamOk s l then s
      else if upstreamHolds s then enterHoldover s
      else mergeSettle (applyOffset s (ltmOffsetPs s l m))

/-- LTM_RECEIVE (R41). -/
def execLtmReceive (p : Nat) (m : LtmArrival) (s : State) : Out := .next (ltmReceiveEffect p m.ltm m.ratio s)

/-- The model time at which 500 µs have passed since the last LTM with this node's leader_id on any port, or, with none
yet, since the node took that leader_id (R45). -/
def leaderSilentAt (s : State) : Nat :=
  ([0, 1, 2, 3, 4].map fun k => match (linkTime s k).led with
    | some e => if e.1 == s.tms.leaderId then e.2 + 500000 else 0
    | none => 0).foldl max (s.tms.leaderSince + 500000)

/-- TRT_HOLDOVER_ENTRY (R45): time passes until 500 µs without an LTM of the leader, unless the upstream's holdover is the
cause. -/
def holdoverEffect (s : State) : State :=
  if mayHold s then
    if upstreamHolds s then enterHoldover s else enterHoldover (untilMono s (leaderSilentAt s))
  else s

/-- See `holdoverEffect`. -/
def execTrtHoldoverEntry (s : State) : Out := .next (holdoverEffect s)

/-! ## Servos -/

/-- The feed-forward DRIFT of R42: 1 + D = (1 + ratio)(1 + D_up), in units of 2^-48. -/
def feedForward (ratio up : Int) : Int := ratio + up + ratio * up / 2 ^ 48

/-- The largest correction beyond feed-forward, in DRIFT units (R37, Table 2-2). -/
def slewMax (s : State) : Int := driftPpm * s.tms.cfg.slewLimit / 1000

/-- A value within ±slew_limit. -/
def slewed (s : State) (v : Int) : Int := max (-(slewMax s)) (min (slewMax s) v)

/-- The mean of a list, 0 for none. -/
def meanInt (l : List Int) : Int := if l.isEmpty then 0 else l.sum / l.length

/-- One update of a servo in automatic mode (R37, R39): feed-forward plus a proportional-integral correction within
slew_limit. The first update after manual mode keeps the present DRIFT and takes what it lies beyond feed-forward as its
integral term. The answer: the DRIFT asked for and the integral term. -/
def servoRun (s : State) (resume : Bool) (ff present integ offPs : Int) (bw span : Nat) : Int × Int :=
  if resume then (present, slewed s (present - ff))
  else
    let i := slewed s (integ + Config.servoI bw offPs span)
    (ff + slewed s (Config.servoP bw offPs + i), i)

/-- The TRT servo's update: from the upstream link's phase tracker, the neighbour's DRIFT and the averaged offset of R41;
none while the node leads, holds over or follows nothing (R37, R42, R46). The tracker compares continuously: `rate` is its
reading now where that differs from the one held since the last LTM, and the link holds it from then on. -/
def trtServo (rate : Option Int) (span : Nat) (s : State) : State :=
  if s.tms.cfg.manual then
    let s := { s with tms := { s.tms with trtStopped := true } }
    match s.tms.manualTrt with
    | some d => setTrtDrift { s with tms := { s.tms with manualTrt := none } } d
    | none => s
  else if s.tms.trtState = .locked ∨ s.tms.trtState = .acquiring then
    let x := linkTime s s.tms.upstream
    match x.peer with
    | some p =>
      let s := putLinkTime s s.tms.upstream { x with ratio := rate.getD x.ratio }
      let r := servoRun s s.tms.trtStopped (feedForward (rate.getD x.ratio) p.drift) s.tms.trtDrift s.tms.trtInteg
        (meanInt s.tms.offsets) s.tms.cfg.trtBw span
      setTrtDrift { s with tms := { s.tms with trtInteg := r.2, trtStopped := false, offsets := [] } } r.1
    | none => s
  else s

/-- The WYT servo's update: from the rate and the offset of the selected gPTP domain (R37). -/
def wytServo (span : Nat) (s : State) : State :=
  if s.tms.cfg.manual then
    let s := { s with tms := { s.tms with wytStopped := true } }
    match s.tms.manualWyt with
    | some d => setWytDrift { s with tms := { s.tms with manualWyt := none } } d
    | none => s
  else if s.tms.wytState = .locked ∨ s.tms.wytState = .acquiring then
    let x := tget ({} : GptpDomain) s.tms.domains s.tms.wytDom
    let r := servoRun s s.tms.wytStopped x.ratio s.tms.wytDrift s.tms.wytInteg (x.offset * 1000) s.tms.cfg.wytBw span
    setWytDrift { s with tms := { s.tms with wytInteg := r.2, wytStopped := false } } r.1
  else s

/-- A servo update (R36, R37, R39): changed parameters come into force, and the servo acts. `rate` is the phase tracker's
reading now, `span` the time in ns since the servo's last update. -/
def servoEffect (scale : Scale) (rate : Option Int) (span : Nat) (s : State) : State :=
  if !s.tms.tsValid then s
  else
    let s := { s with tms := { s.tms with cfg := s.tms.cfgNext } }
    match scale with
    | .trt => trtServo rate span s
    | .wyt => wytServo span s

/-- SERVO_UPDATE (R37). -/
def execServoUpdate (scale : Scale) (rate : Option Int) (span : Nat) (s : State) : Out := .next (servoEffect scale rate span s)

/-- A phase tracker loses lock (R42): phase_track_loss; its link is unusable as upstream, and another is selected. -/
def trackLoss (s : State) (l : Nat) : State :=
  let s := setAlarm (putLinkTime s l { linkTime s l with trackSince := none, qualified := false }) .tms 10
  if s.tms.upstream = l then
    match bestUpstream s with
    | some _ => selectUpstream s
    | none => setAlarm { s with tms := { s.tms with upstream := 15 } } .tms 3
  else s

/-- PHASE_TRACK_LOSS (R42). -/
def execPhaseTrackLoss (p : Nat) (s : State) : Out :=
  .next (match linkOf p with
    | some l => trackLoss s l
    | none => s)

/-- The tracker has held lock for 10 ms (R42). A tracker that had lost lock regains it now and holds it for that time
(DEDUCED, log: the table has no row for the regained lock). -/
def requalify (p : Nat) (s : State) : State :=
  match linkOf p with
  | none => s
  | some l =>
    if !linkIsUp s p || (linkTime s l).qualified then s
    else
      let since := (linkTime s l).trackSince.getD s.mono
      let s := untilMono s (since + 10000000)
      selectUpstream (putLinkTime s l { linkTime s l with qualified := true, trackSince := some since })

/-- PHASE_TRACK_REQUALIFY (R42). -/
def execPhaseTrackRequalify (p : Nat) (s : State) : Out := .next (requalify p s)

/-! ## Wayside time -/

/-- A gPTP domain. -/
def domainOf (s : State) (d : Nat) : GptpDomain := tget {} s.tms.domains d

/-- A gPTP domain replaced. -/
def putDomain (s : State) (d : Nat) (x : GptpDomain) : State :=
  { s with tms := { s.tms with domains := tset {} s.tms.domains d x } }

/-- WYT takes an offset in ns: stepped above wyt_step_limit, slewed otherwise (Table 2-6). -/
def wytJoin (s : State) (offsetNs : Int) : State :=
  if s.tms.cfg.wytStepLimit < offsetNs.natAbs then wytStep s ((s.tms.wyt : Int) - offsetNs * nsRaw).toNat else s

/-- The selected domain changes (R50): both are measured at all times, so no acquisition begins: from holdover WYT is LOCKED
again, otherwise its state stays. -/
def wytSelect (s : State) (d : Nat) : State :=
  let st := if s.tms.wytState = .holdover then .locked else s.tms.wytState
  let s := setAlarm { s with tms := { s.tms with wytDom := d, wytState := st, wytHoldSince := none } } .tms 4
  wytJoin s (domainOf s d).offset

/-- Both domains are lost (Table 2-6): WYT holds the mean DRIFT of the preceding 10 s. -/
def wytHoldover (s : State) : State :=
  let s := setWytDrift s (driftMean s.tms.wytHist s.tms.wytDrift s.mono 0 10000000000)
  setAlarm { s with tms := { s.tms with wytState := .holdover, wytHoldSince := some s.mono } } .tms 5

/-- The ports that run 802.1AS and have link up, other than `p` (R49). -/
def gptpOthers (s : State) (p : Nat) : List Nat :=
  s.tms.cfg.gptpPorts.filter fun q => q != p && linkIsUp s q

/-! ### Best master selection (R49; PRESUMED: the order of IEEE 802.1AS-2020, log) -/

/-- The parts of a rank in the order in which they are compared, the smaller the better. -/
def rankParts (r : GptpRank) : List Nat :=
  [r.priority1, r.clockClass, r.accuracy, r.variance, r.priority2, r.identity.toNat]

/-- One list of numbers comes before another of the same length. -/
def listBefore : List Nat → List Nat → Bool
  | a :: r, b :: q => decide (a < b) || (a == b && listBefore r q)
  | _, _ => false

/-- One Announce is better than another: by its rank, then by its steps removed. -/
def betterThan (a b : GptpRank × Nat) : Bool :=
  listBefore (rankParts a.1 ++ [a.2]) (rankParts b.1 ++ [b.2])

/-- This device's own rank in a domain. -/
def ownRank (s : State) (d : Nat) : GptpRank :=
  { priority1 := (domainOf s d).priority1, clockClass := 248, accuracy := 0xFE, variance := 0x436A, priority2 := 248
    identity := s.otp.unitId }

/-- An Announce counts until announceReceiptTimeout, 3 s after it came (PRESUMED, log: 3 announce intervals of 1 s). -/
def heardStill (now : Nat) (e : Option (GptpRank × Nat × Nat)) : Option (GptpRank × Nat) :=
  e.bind fun r => if now < r.2.2 + 3000000000 then some (r.1, r.2.1) else none

/-- The best of the Announces a domain's ports have brought, with its port: the lowest rank, then steps, then port. -/
def bestHeard (now : Nat) (x : GptpDomain) : Option (Nat × GptpRank × Nat) :=
  x.heard.foldl (fun o e => match o, heardStill now e.2 with
    | none, some r => some (e.1, r)
    | some b, some r => if betterThan r b.2 then some (e.1, r) else some b
    | o, none => o) none

/-- The slave port of a domain: that of the external port configuration where it is on, else the port of the best
Announce unless this device is grandmaster-capable and better (Table 2-5). -/
def slavePort (s : State) (d : Nat) : Option Nat :=
  let x := domainOf s d
  match x.ext with
  | some p => p
  | none =>
    match bestHeard s.mono x with
    | some b => if x.priority1 < 255 && betterThan (ownRank s d, 0) b.2 then none else some b.1
    | none => none

/-- This device is the grandmaster of a domain: it may be one, and no port is the slave port. -/
def isGrandmaster (s : State) (d : Nat) : Bool := decide ((domainOf s d).priority1 < 255) && (slavePort s d).isNone

/-- The grandmaster that best master selection names now; 0 with none. -/
def gmOf (s : State) (d : Nat) : UnitId :=
  match slavePort s d with
  | some p => match heardStill s.mono (tget none (domainOf s d).heard p) with | some r => r.1.identity | none => 0
  | none => if (domainOf s d).priority1 < 255 then s.otp.unitId else 0

/-- Best master selection runs anew (R49, Table 2-6). Where the selected domain changes its grandmaster, the other domain is
selected if it is synchronised; else the offset to the new grandmaster is taken from its first Sync. -/
def reselect (s : State) (d : Nat) : State :=
  let x := domainOf s d
  let gm := gmOf s d
  if gm = x.grandmaster then s
  else
    let s := putDomain s d { x with grandmaster := gm, gmNew := x.synced }
    if x.synced ∧ d = s.tms.wytDom ∧ (domainOf s (1 - d)).synced then wytSelect s (1 - d) else s

/-- An Announce (R49): kept for its port unless it names this device or has come too far; the best one is passed on from the
slave port with its steps removed raised by 1. -/
def announceReceive (s : State) (p d : Nat) (r : GptpRank) (steps : Nat) : State :=
  if r.identity = s.otp.unitId ∨ 255 ≤ steps then s
  else
    let x := domainOf s d
    let s := reselect (putDomain s d { x with heard := tset none x.heard p (some (r, steps, s.mono)) }) d
    if slavePort s d = some p then
      (gptpOthers s p).foldl (fun s k => emitPort s k (.announce k d r (steps + 1))) s
    else s

/-! ### Sync and peer delay (R49 to R51, R56) -/

/-- The other ports pass on a Sync: its origin time, with the path delay and its residence added to the correction. How long
it resides is not given, a free value; where the insertion does not complete, the frame ends with an invalid FCS (R49,
R56). -/
def relaySync (s : State) (p d : Nat) (sec ns : Nat) (correction : Int) : State :=
  let q := (domainOf s d).txSeq + 1
  let n := draw (putDomain s d { domainOf s d with txSeq := q })
  let c := correction + (tget ({} : PeerDelay) s.tms.peerDelay p).delay + n.1
  (gptpOthers s p).foldl (fun s k =>
    let o := oneStep s k (.sync k d q sec ns c)
    emitPort o.2 k o.1) n.2

/-- Local WYT less the time of the domain at a Sync's arrival, in ns: the origin time, the correction and the delay of the
link make up that time. -/
def syncOffset (s : State) (port sec ns : Nat) (correction : Int) : Int :=
  let t : Int := (linNs sec ns * 65536 : Nat) + correction + (tget ({} : PeerDelay) s.tms.peerDelay port).delay
  ((stamp16 (rxWyt s port) : Int) - t) / 65536

/-- WYT at a Sync of domain `d` whose measure is kept (R50, R51): the first synchronisation of any domain steps WYT; a
domain that is not selected is joined from holdover or, the first time, as the preferred one; a new grandmaster of the
selected one is stepped above wyt_step_limit (Table 2-6). The selected domain coming back from WYT holdover joins the same
way, without wyt_dom_switch (DESIGN CHOICE, log: Tables 2-3 and 2-6 name no such case). -/
def syncTake (s : State) (d : Nat) (before : GptpDomain) : State :=
  let x := domainOf s d
  if s.tms.wytState = .invalid then
    let s := wytStep s ((s.tms.wyt : Int) - x.offset * nsRaw).toNat
    { s with tms := { s.tms with wytState := .acquiring, wytDom := d } }
  else if d ≠ s.tms.wytDom then
    if s.tms.wytState = .holdover || (d == s.tms.cfg.domainPref && before.lastSync == 0 && !before.synced) then wytSelect s d
    else s
  else if before.gmNew then wytJoin s x.offset
  else
    match s.tms.wytState with
    | .holdover => wytJoin { s with tms := { s.tms with wytState := .acquiring, wytHoldSince := none } } x.offset
    | .acquiring =>
      let n := draw s
      if n.1 % 2 = 1 then { n.2 with tms := { n.2.tms with wytState := .locked } } else n.2
    | _ => s

/-- A Sync of a domain on its slave port (R49 to R51); on another port it has no effect. -/
def syncReceive (s : State) (port d sec ns : Nat) (correction rate logInterval : Int) : State :=
  if slavePort s d ≠ some port then s
  else
    let x := domainOf s d
    let y := { x with
      synced := true, offset := syncOffset s port sec ns correction, lastSync := s.mono, gmNew := false
      ratio := (rate + (tget ({} : PeerDelay) s.tms.peerDelay port).oscRatio) * 128
      logInterval := max (-7) (min 0 logInterval), since := if x.synced then x.since else s.mono }
    syncTake (relaySync (putDomain s d y) port d sec ns correction) d x

/-- The neighbour's rate over a local one, less 1, in units of 2^-41, from how far each went between two exchanges. -/
def rateOver (theirs : Int) (ours : Nat) (old : Int) : Int :=
  if 0 < ours then theirs * 2 ^ 41 / ours - 2 ^ 41 else old

/-- A peer delay response (R49; PRESUMED: the formulas of IEEE 802.1AS-2020, log): t1 and t4 are this port's WYT stamps, t2
and t3 the neighbour's. neighborRateRatio comes from two exchanges in a row, against WYT for the delay and against the
oscillator, which no servo steers, for the feed-forward of R37. -/
def pdelayTake (s : State) (port : Nat) (seq : BitVec 16) (t2 t3 : Nat) : State :=
  let x := tget ({} : PeerDelay) s.tms.peerDelay port
  match x.t1 with
  | none => s
  | some t1 =>
    if seq ≠ x.seq then s
    else
      let t4 := stamp16 (rxWyt s port)
      let step := fun (ours : Nat → Nat → Nat) (old : Int) => match x.last with
        | some e => rateOver ((t3 : Int) - e.1) (ours e.2.1 e.2.2) old
        | none => old
      let ratio := step (fun a _ => t4 - a) x.rateRatio
      let osc := step (fun _ a => (s.mono - a) * 65536) x.oscRatio
      let away : Int := ((t4 : Int) - t1) * (2 ^ 41 + ratio) / 2 ^ 41
      { s with tms := { s.tms with peerDelay := tset {} s.tms.peerDelay port { x with
          t1 := none, last := some (t3, t4, s.mono), rateRatio := ratio, oscRatio := osc
          delay := (away - ((t3 : Int) - t2)) / 2 } } }

/-- A gPTP message on a port that runs 802.1AS (R49). -/
def gptpEffect (port : Nat) (m : GptpMsg) (s : State) : State :=
  if !s.tms.cfg.gptpPorts.contains port || !linkIsUp s port || !s.tms.tsValid then s
  else
    let s := countGot s port 64
    if 1 < m.domain then
      discard s { port := port, reason := 4, ingress := port, tenant := (tget none s.fab.vlans 1).elim 0 Vlan.tenant, len := 64 }
    else
      let s := reselect s m.domain
      match m.kind with
      | .sync sec ns c r i => syncReceive s port m.domain sec ns c r i
      | .pdelayReq q => emitPort s port (.pdelayResp port q (rxWyt s port / nsRaw) 0)
      | .pdelayResp q t2 t3 => pdelayTake s port q t2 t3
      | .announce r k => announceReceive s port m.domain r k

/-- GPTP_MESSAGE_RECEIVE (R49). -/
def execGptpMessageReceive (port : Nat) (m : GptpMsg) (s : State) : Out := .next (gptpEffect port m s)

/-- The interval of 2^`k` s in ns, for k from −7 to 0. -/
def logIntervalNs (k : Int) : Nat := 1000000000 / 2 ^ (-k).toNat

/-- syncReceiptTimeout of a domain: 3 of its sync intervals after its last Sync (Table 2-5, R50). The Announce of the port
that fell silent is dropped. -/
def syncTimeout (dom : Nat) (s : State) : State :=
  if !(domainOf s dom).synced then s
  else
    let s := untilMono s ((domainOf s dom).lastSync + 3 * logIntervalNs (domainOf s dom).logInterval)
    let x := domainOf s dom
    let heard := match slavePort s dom with | some p => tset none x.heard p none | none => x.heard
    let s := putDomain s dom { x with synced := false, heard := heard }
    let s := putDomain s dom { domainOf s dom with grandmaster := gmOf s dom, gmNew := false }
    if dom ≠ s.tms.wytDom then s
    else if (domainOf s (1 - dom)).synced then wytSelect s (1 - dom)
    else wytHoldover s

/-- SYNC_RECEIPT_TIMEOUT (R50). -/
def execSyncReceiptTimeout (dom : Nat) (s : State) : Out := .next (syncTimeout dom s)

/-- The preferred domain has been synchronised for 10 s (R50). They count from the Sync that began its continuous sync, which
a switch away for a new grandmaster does not end (DESIGN CHOICE, log: Table 2-6 does not say from when). -/
def preferredReturn (s : State) : State :=
  let d := s.tms.cfg.domainPref
  if (domainOf s d).synced ∧ s.tms.wytDom ≠ d then
    wytSelect (untilMono s ((domainOf s d).since + 10000000000)) d
  else s

/-- PREFERRED_DOMAIN_RETURN (R50). -/
def execPreferredDomainReturn (s : State) : Out := .next (preferredReturn s)

/-- PDELAY_REQ_SEND (R49): at the next of its nominal instants, 1 s apart (Table 2-5: logPdelayReqInterval 0). -/
def pdelaySend (port : Nat) (s : State) : State :=
  if !s.tms.cfg.gptpPorts.contains port || !linkIsUp s port || !s.tms.tsValid then s
  else
    let x := tget ({} : PeerDelay) s.tms.peerDelay port
    let s := untilMono s (nextBeat x.reqAt 1000000000 s.mono)
    let y := { x with seq := x.seq + 1, t1 := none, reqAt := some s.mono }
    emitPort { s with tms := { s.tms with peerDelay := tset {} s.tms.peerDelay port y } } port (.pdelayReq port (x.seq + 1))

/-- See `pdelaySend`. -/
def execPdelayReqSend (port : Nat) (s : State) : Out := .next (pdelaySend port s)

/-- SYNC_TRANSMISSION (R49, R56): the grandmaster of a domain sends Sync on a master port at its nominal instants, with WYT
at departure, and an Announce before it; with priority1 255 it is none. -/
def syncSend (port dom : Nat) (inserted : Bool) (s : State) : State :=
  if dom < 2 && isGrandmaster s dom && s.tms.cfg.gptpPorts.contains port && linkIsUp s port && s.tms.tsValid then
    let x := domainOf s dom
    let s := untilMono s (nextBeat (tget none x.syncAt port) (logIntervalNs x.logInterval) s.mono)
    let q := x.txSeq + 1
    let t := txWyt s port
    let s := putDomain s dom { x with txSeq := q, syncAt := tset none x.syncAt port (some s.mono) }
    let s := emitPort s port (.announce port dom (ownRank s dom) 0)
    emitPort s port (if inserted then
        .sync port dom q (t / nsRaw / 1000000000) (t / nsRaw % 1000000000) (stamp16 t % 65536 : Nat)
      else .spoiled port)
  else s

/-- See `syncSend`. -/
def execSyncTransmission (d : Departure) (dom : Nat) (s : State) : Out := .next (syncSend d.at_ dom d.inserted s)

/-! ## PPS -/

/-- PPS_IN_EDGE (R62). -/
def ppsInEffect (s : State) : State :=
  { s with tms := { s.tms with
      ppsInTrt := stampNs s, ppsInWyt := word (wytNs s), ppsInCount := s.tms.ppsInCount + 1 } }

/-- See `ppsInEffect`. -/
def execPpsInEdge (s : State) : Out := .next (ppsInEffect s)

/-- PPS_OUT_SECOND (R62): time passes to the next whole second of the timescale and PPS_OUT rises for 100 ms, unless that
timescale is invalid. -/
def ppsOutEffect (s : State) : State :=
  let second := fun (raw : Nat) => (raw / (1000000000 * nsRaw) + 1) * (1000000000 * nsRaw)
  match s.tms.cfg.ppsSrc with
  | .off => s
  | .trt =>
    if trtValid s then
      let s := untilTrt s (second s.tms.trt)
      { s with tms := { s.tms with ppsFallAt := some (s.mono + 100000000) } }
    else s
  | .wyt =>
    if wytValid s then
      let s := untilWyt s (second s.tms.wyt)
      { s with tms := { s.tms with ppsFallAt := some (s.mono + 100000000) } }
    else s

/-- See `ppsOutEffect`. -/
def execPpsOutSecond (s : State) : Out := .next (ppsOutEffect s)

/-- PPS_OUT_FALL (R62). -/
def ppsFallEffect (s : State) : State :=
  match s.tms.ppsFallAt with
  | some t =>
    let s := untilMono s t
    { s with tms := { s.tms with ppsFallAt := none } }
  | none => s

/-- See `ppsFallEffect`. -/
def execPpsOutFall (s : State) : Out := .next (ppsFallEffect s)

/-! ## Reference monitor -/

/-- The candidates whose frequencies agree within 10 ppm with the one at `lo` and lie not below it. -/
def agreeFrom (ms : List RefMeas) (lo : Int) : List RefMeas := ms.filter fun m => decide (lo ≤ m.ppb ∧ m.ppb ≤ lo + 10000)

/-- The consensus: the largest set of candidates within 10 ppm of each other, of at least two (R63). -/
def consensus (ms : List RefMeas) : List RefMeas :=
  let best := ms.foldl (fun b m => if b.length < (agreeFrom ms m.ppb).length then agreeFrom ms m.ppb else b) []
  if 2 ≤ best.length then best else []

/-- The bit of a BB or CP port in the cand field. -/
def candBit (p : Nat) : Nat := p

/-- The source code of a BB or CP port (Table 2-11). -/
def sourceCode (p : Nat) : Nat := if p < 4 then 0x10 + p else 0x20 + (p - 4)

/-- The port preferred as PLL reference: the TRT upstream, the other BB ports, then the CP ports in order (R64). -/
def preferredRef (s : State) (cand : BitVec 16) : Option Nat :=
  if s.tms.upstream < 4 ∧ bitAt cand s.tms.upstream then some s.tms.upstream
  else (List.range 16).find? fun p => bitAt cand p

/-- The PLL reference moves to the preferred candidate, or holds its last control value with none (R64). A held PLL moves to
a candidate as soon as there is a consensus again (DESIGN CHOICE, log: R64 does not say what ends the hold). -/
def refMove (s : State) : State :=
  let src := match preferredRef s s.tms.refCand with | some p => sourceCode p | none => 0xF0
  if src = s.tms.refSource then s
  else setAlarm (setAlarm { s with tms := { s.tms with refSource := src } } .tms 7) .glob 4

/-- XIN is faulted: the reference moves, ref_alarm, clk_switch and ref_switch are set (R64). -/
def xinFaulted (s : State) : State :=
  let s := { s with tms := { s.tms with xinFault := true }, glob := { s.glob with refAlarm := true } }
  refMove s

/-- The PLL runs from XIN, a recovered clock or its held value: the monitor works (not in degraded mode, R20). -/
def monitorOn (s : State) : Bool := s.tms.tsValid && s.tms.refSource != 0xFF

/-- REF_MONITOR_WINDOW (R63, R64, R66): the window ends 100 ms after the one before it. -/
def refWindow (ms : List RefMeas) (s : State) : State :=
  if !monitorOn s then s
  else
    let s := untilMono s (s.tms.refAt + 100000000)
    let s := { s with tms := { s.tms with refAt := s.mono } }
    let up := ms.filter fun m => (portKind m.port == .bb || portKind m.port == .cp) && linkIsUp s m.port
    let c := consensus up
    let mask := c.foldl (fun (v : BitVec 16) m => setBit v (candBit m.port) true) 0
    if c.isEmpty then
      let s := { s with tms := { s.tms with refCand := 0, refPpb := none, refBad := 0, refGood := none } }
      if s.tms.refSource = 0 then s else refMove s
    else
      let ppb := (c.map RefMeas.ppb).sum / (c.length : Int)
      let bad := decide (s.tms.cfg.refThreshold < ppb.natAbs)
      let good := decide (ppb.natAbs * 2 ≤ s.tms.cfg.refThreshold)
      let s : State := { s with tms := { s.tms with
          refCand := mask, refPpb := some ppb, refBad := if bad then s.tms.refBad + 1 else 0
          refGood := if good then some (s.tms.refGood.getD s.mono) else none } }
      if s.tms.refSource = 0 then (if 3 ≤ s.tms.refBad then xinFaulted s else s)
      else
        let held := (List.range 16).any fun p => bitAt mask p && sourceCode p == s.tms.refSource
        if held then s else refMove s

/-- See `refWindow`. -/
def execRefMonitorWindow (ms : List RefMeas) (s : State) : Out := .next (refWindow ms s)

/-- REF_RETURN (R66). -/
def refReturnEffect (s : State) : State :=
  match s.tms.refGood with
  | some t =>
    if s.tms.cfg.refRevert && s.tms.refSource != 0 && monitorOn s then
      let s := untilMono s (t + 60000000000)
      setAlarm (setAlarm { s with
        tms := { s.tms with refSource := 0, xinFault := false, refBad := 0 }
        glob := { s.glob with refAlarm := false } } .tms 8) .glob 4
    else s
  | none => s

/-- See `refReturnEffect`. -/
def execRefReturn (s : State) : Out := .next (refReturnEffect s)

/-- XIN_STOP (R63, R64). -/
def xinStopEffect (s : State) : State :=
  if !monitorOn s then s
  else
    let s := { s with tms := { s.tms with refGood := none } }
    if s.tms.refSource = 0 then xinFaulted s else { s with tms := { s.tms with xinFault := true } }

/-- See `xinStopEffect`. -/
def execXinStop (s : State) : Out := .next (xinStopEffect s)

/-! ## Segment beacons -/

/-- One beacon leaves now (R53, R56): with the instant its SFD leaves the MDI, or ended with an invalid FCS where the
insertion does not complete. -/
def beaconNow (sg : Nat) (inserted : Bool) (s : State) : State :=
  let q := tget 0 s.tms.beaconSeq sg + 1
  let t := txTrt s (16 + sg)
  let s := { s with tms := { s.tms with
      beaconSeq := tset 0 s.tms.beaconSeq sg q, beaconAt := tset none s.tms.beaconAt sg (some s.mono) } }
  emit (countSent s (16 + sg) 64) (if inserted then
      .beacon (16 + sg) (s.tms.trtState == .locked) (s.tms.trtState == .holdover) q (t / nsRaw / 1000000000)
        (t / nsRaw % 1000000000) (fracOf t) s.tms.trtEpoch
    else .spoiled (16 + sg))

/-- SEGMENT_BEACON_SEND (R53): at the next of its nominal instants, 10 ms apart, on an enabled SG port whose transceiver sends
and has no wake burst under way (R179). -/
def beaconSend (sg : Nat) (inserted : Bool) (s : State) : State :=
  if 64 ≤ sg || !s.tms.tsValid || !(tget ({} : PortCfg) s.ports.cfg (16 + sg)).enabled
      || (tget ({} : Segment) s.ports.segs sg).state != .normal || segBursts s sg then s
  else beaconNow sg inserted (untilMono s (nextBeat (tget none s.tms.beaconAt sg) 10000000 s.mono))

/-- See `beaconSend`. -/
def execSegmentBeaconSend (d : Departure) (s : State) : Out := .next (beaconSend d.at_ d.inserted s)

/-! ## Time-read slots and latches (R59, R62, R70) -/

/-- A read of TMS_TIME_NS(s) latches the slot (R59). -/
def slotLatch (s : State) (k : Nat) : State :=
  let x := tget ({} : TimeSlot) s.tms.slots k
  let y : TimeSlot :=
    { trt := s.tms.trt, wyt := s.tms.wyt, trtValid := trtValid s, wytValid := wytValid s, epoch := s.tms.trtEpoch
      count := x.count + 1 }
  { s with tms := { s.tms with slots := tset {} s.tms.slots k y } }

/-- The low 32 bits of a signed number. -/
def lowWord (v : Int) : Word := wordI v

/-- The high half of a signed 40-bit DRIFT, sign-extended (Table 2-10). -/
def driftHi (d : Int) : Word := wordI (d / 4294967296)

/-! ## Commands -/

/-- TRT less WYT as seconds, ns and frac, the last two not negative (Table 2-10). -/
def offsetParts (trt wyt : Nat) : Int × Nat × Nat :=
  let d : Int := (trt / 2 ^ 32 : Nat) - (wyt / 2 ^ 32 : Nat)
  (d / 65536000000000, (d % 65536000000000).toNat / 65536, (d % 65536).toNat)

/-- TIME_READ (R59, R70): TRT, WYT and their offset, validity and trt_epoch; STALE while TRT is invalid. -/
def execTimeRead (h : Hcp) (s : State) : Out :=
  .next (runHcp { opcode := 0x0101 } h s fun s =>
    let o := offsetParts s.tms.trt s.tms.wyt
    let body := leBytes 6 (trtNs s / 1000000000) ++ leBytes 4 (trtNs s % 1000000000) ++ leBytes 2 (fracOf s.tms.trt)
      ++ leBytes 6 (wytNs s / 1000000000) ++ leBytes 4 (wytNs s % 1000000000) ++ leBytes 2 (fracOf s.tms.wyt)
      ++ leInt 6 o.1 ++ leBytes 4 o.2.1 ++ leBytes 2 o.2.2
      ++ leBytes 1 (b2n (trtValid s) + 2 * b2n (wytValid s)) ++ leBytes 1 s.tms.trtEpoch.toNat ++ leBytes 2 0
    .done s (if trtValid s then .ok else .stale) 0 body)

/-- The links a record's port names: BB0 to BB3 and TW0, or all. -/
def recLinks (p : Param) : List Nat :=
  if p.port = 255 then [0, 1, 2, 3, 4] else match linkOf p.port with | some l => [l] | none => []

/-- The CP numbers a record's port names. -/
def recCps (p : Param) : List Nat :=
  if p.port = 255 then List.range 12 else if portKind p.port = .cp then [p.port - 4] else []

/-- A value set for every key of a list that is not empty. -/
def setKeys {α β : Type} [DecidableEq α] (d : α) (ks : List Nat) (t : Table α) (v : α) (f : Table α → β) : Option β :=
  if ks.isEmpty then none else some (f (ks.foldl (fun t k => tset d t k v) t))

/-- The time parameters after one record of TIME_CONFIG, with the manual DRIFT values (Table 2-2, R308). wyt_domain_pref is
taken as a number and not as an enumeration (DESIGN CHOICE, log: R308 leaves which). -/
def timeRec (c : TimeCfg × Option Int × Option Int) (p : Param) : Option (TimeCfg × Option Int × Option Int) :=
  let put := fun (f : TimeCfg) => (f, c.2)
  match p.key with
  | 1 => (recEnum p 2).map fun v => put { c.1 with manual := v == 1 }
  | 2 => (recNat p 1000 200000).map fun v => put { c.1 with trtBw := v }
  | 3 => (recNat p 10 5000).map fun v => put { c.1 with wytBw := v }
  | 4 => (recNat p 1000 500000).map fun v => put { c.1 with slewLimit := v }
  | 5 => (recNat p 100 1000000).map fun v => put { c.1 with stepThreshold := v }
  | 6 => (recNat p 1 100).map fun v => put { c.1 with lockWindow := v }
  | 7 => (recNat p 0 1).map fun v => put { c.1 with domainPref := v }
  | 8 => (recNat p 10 1000000).map fun v => put { c.1 with wytStepLimit := v * 1000 }
  | 9 => (recNat p 10000 200000).map fun v => put { c.1 with refThreshold := v }
  | 10 => (recEnum p 2).map fun v => put { c.1 with refRevert := v == 0 }
  | 11 => (recNum p (-1000000) 1000000).bind fun v =>
    setKeys 0 (recLinks p) c.1.bbAsym v fun t => put { c.1 with bbAsym := t }
  | 12 => (recNat p 0 10000000).bind fun v => setKeys 0 (recCps p) c.1.cpLatTx v fun t => put { c.1 with cpLatTx := t }
  | 13 => (recNat p 0 10000000).bind fun v => setKeys 0 (recCps p) c.1.cpLatRx v fun t => put { c.1 with cpLatRx := t }
  | 14 => (recPorts p).bind fun m =>
    if (setOf m).all fun q => portKind q == .bb || portKind q == .cp || portKind q == .wl || portKind q == .tw then
      some (put { c.1 with gptpPorts := setOf m }) else none
  | 15 => (recEnum p 3).map fun v => put { c.1 with ppsSrc := match v with | 0 => .trt | 1 => .wyt | _ => .off }
  | 0x80 => (recNum p driftMin driftMax).map fun v => (c.1, some v, c.2.2)
  | 0x81 => (recNum p driftMin driftMax).map fun v => (c.1, c.2.1, some v)
  | _ => none

/-- TIME_CONFIG (R39): in force at the next servo update, the DRIFT values it gives in manual mode with it; outside manual
mode they are dropped. -/
def execTimeConfig (h : Hcp) (recs : List Param) (s : State) : Out :=
  .next (runHcp { opcode := 0x0102, classC := true } h s fun s =>
    match applyRecs s timeRec 0 (s.tms.cfgNext, s.tms.manualTrt, s.tms.manualWyt) recs with
    | .error i => failsAt s i
    | .ok (c, t, w) => okay { s with tms := { s.tms with
        cfgNext := c, manualTrt := if c.manual then t else none, manualWyt := if c.manual then w else none } })

/-- TIME_SET (R48): a step of TRT, on a node that leads or has no leader and has CSS stopped. -/
def execTimeSet (h : Hcp) (sec ns frac : Nat) (s : State) : Out :=
  .next (runHcp { opcode := 0x0103, classC := true } h s fun s =>
    if !s.tms.tsValid then fails s .refused rNoTime
    else if 1000000000 ≤ ns ∨ 2 ^ 48 ≤ sec ∨ 65536 ≤ frac then fails s .invalidArgument 0
    else if s.tms.trtState ≠ .leader ∧ s.tms.leaderId ≠ 0 then fails s .notPermitted 0
    else if s.css.state ≠ .stopped ∨ inaugurating s then fails s .busy 0
    else okay (trtStep s (linNs sec ns * nsRaw + frac * 2 ^ 32)))

end Sys2Proof.Machine
end

