-- ==== Sys2Proof/Machine/Ports.lean ====
section
/-! DEFINITION. The commands of the port complex: links, pause, segments, CAN, MDIO and harvests (spec/07_port_complex.md). -/

namespace Sys2Proof.Machine

/-! ## Links (R167 to R172, R390) -/

/-- The settings of port `p`. -/
def portCfg (s : State) (p : Nat) : PortCfg := tget {} s.ports.cfg p

/-- The settings of port `p` written. -/
def putCfg (s : State) (p : Nat) (c : PortCfg) : State := { s with ports := { s.ports with cfg := tset {} s.ports.cfg p c } }

/-- The link of port `p`. -/
def linkRec (s : State) (p : Nat) : LinkRec := tget {} s.ports.links p

/-- The link of port `p` written. -/
def putLink (s : State) (p : Nat) (l : LinkRec) : State :=
  { s with ports := { s.ports with links := tset {} s.ports.links p l } }

/-- The speed byte of a link event (Table 7-11). -/
def speedByte (s : State) (p : Nat) : Nat :=
  if !(linkRec s p).up then 0xFF
  else
    match portKind p with
    | .bb => (portCfg s p).speed.getD 0
    | .wl => (portCfg s p).speed.getD 3
    | .cp => (linkRec s p).speed
    | .tw => 2
    | _ => 0xFF

/-- A link event to tenant 0 (Table 7-11). -/
def linkEvent (s : State) (p flags reason : Nat) : State :=
  event s 0 7 (leBytes 1 p ++ leBytes 1 (b2n (linkRec s p).up) ++ leBytes 1 flags ++ leBytes 1 (speedByte s p)
    ++ leBytes 1 reason)

/-- In PENDING within 1 s before T_sleep a link that goes down starts no inauguration (R337). -/
def sleepNear (s : State) : Bool :=
  s.pwc.sleep == .pending && decide (trtNs s ≤ s.pwc.sleepAt) && decide (s.pwc.sleepAt ≤ trtNs s + 1000000000)

/-- The µs of the halt so far go to paused_time, counter 22. -/
def countPaused (s : State) (p : Nat) : State := countPort s p 22 ((s.mono - (linkRec s p).haltSince) / 1000)

/-- A port's link goes down (R170, R128, R161, R169): its queues and what a halt of the port holds are drained with PORT_DOWN, link_down_count counts, the
streams of the port are suspended, a phase tracker loses lock, far accesses through it end, tenant 0 and the INE are
told. -/
def portDown (s : State) (p flags reason : Nat) : State :=
  if !(linkRec s p).up then s
  else
    let x := linkRec s p
    let s := if txHalted s p then countPaused s p else s
    let s := (s.ports.heldOut.filter fun e => e.port == p).foldl
      (fun s e => discard s { port := p, reason := 13, ingress := 255, egress := p, tenant := 0, len := sentLen e.item })
      { s with ports := { s.ports with heldOut := s.ports.heldOut.filter fun e => e.port != p } }
    let s := putLink s p { x with up := false, partner := none, haltUntil := none, ignoring := false, lpiNow := false }
    let s := linkEvent (countPort (drainPort s p 13) p 20 1) p flags reason
    let s := farPortDown (markStreams s p true) p
    let s := match linkOf p with
      | some l => trackLoss s l
      | none => s
    if portKind p = .bb then (if sleepNear s then putHello s p {} else ineLinkDown s p) else s

/-- Every external port is held down: in degraded mode (R14, Table 1-3) and while the Recovery ROM runs (R329). -/
def portsHeld (s : State) : Bool := s.glob.degraded || inRecovery s

/-- The Standby device of a twin pair holds its BB ports down in standard mode (Table 8-2). -/
def bbHeld (s : State) (p : Nat) : Bool :=
  portKind p == .bb && s.ine.state == .standard && s.ine.twin.state == .standby && s.ine.twin.partner.isSome

/-- The BB ports that are up and have to be held down go down (Table 8-2). -/
def bbHold (s : State) : State := ([0, 1, 2, 3].filter (bbHeld s)).foldl (fun s p => portDown s p 2 0) s

/-- A port's link comes up (R170, R172, R177): streams of the port resume, tenant 0 and the INE are told; a BB link starts
HELLO, TW0 the pairing of twins. -/
def portUp (s : State) (p flags : Nat) (partner : Option Partner) : State :=
  if portsHeld s then s else
  let x := linkRec s p
  let s := putLink s p { x with up := true, halfDuplex := false, noSync := false, partner := partner, lpiNow := lpiOf s s.pwc.state p }
  let s := match linkOf p with
    | some l => putLinkTime s l { linkTime s l with trackSince := some s.mono, qualified := false, ltmAt := none }
    | none => s
  let s := linkEvent s p flags 0
  let s := if portKind p = .bb then s else markStreams s p false
  match portKind p, partner with
  | .bb, _ => bbHold (ineLinkUp s p)
  | .tw, some pt => twinLinkUp s pt
  | _, _ => s

/-- The speed a BB or WL0 port runs at, in the enumeration of R308: as set, else 10GBASE-R and 1000BASE-X (Table 7-1). -/
def speedSet (s : State) (p : Nat) : Nat := (portCfg s p).speed.getD (if portKind p = .wl then 3 else 0)

/-- The link auto-negotiates by clause 37: BB and WL0 at 1000BASE-X (R170). -/
def negotiates (s : State) (p : Nat) : Bool := (portKind p == .bb || portKind p == .wl) && speedSet s p == 3

/-- A port is held down for half duplex (R170, R172): where that hold begins while its link is down, or its speed has changed, a
link event tells tenant 0 (R390; which instants write one, DESIGN CHOICE, log 82). -/
def holdHalf (s : State) (p speed : Nat) (changed : Bool) : State :=
  let x := linkRec s p
  let s := putLink s p { x with halfDuplex := true, noSync := false, speed := speed }
  if x.up then portDown s p (2 + b2n changed) 1
  else if !x.halfDuplex || changed then linkEvent s p (2 + b2n changed) 1
  else s

/-- LINK_UP (R170) of a serial port that is enabled: once its PCS has held lock for link_holdoff; on 1000BASE-X a partner that
offers half duplex only is held down. -/
def linkUpEffect (p lockNs : Nat) (full : Bool) (partner : Option Partner) (s : State) : State :=
  match portKind p with
  | .bb | .wl | .tw =>
    if (linkRec s p).up || !(portCfg s p).enabled || bbHeld s p || decide (lockNs < (portCfg s p).holdoff * 1000000) then s
    else if negotiates s p && !full then holdHalf s p (linkRec s p).speed false
    else portUp s p 0 partner
  | _ => s

/-- See `linkUpEffect`. -/
def execLinkUp (port : Nat) (x : LinkOffer) (s : State) : Out :=
  .next (linkUpEffect port x.lockNs x.fullDuplex x.partner s)

/-- LINK_DOWN (R170): 10 µs without lock; a hold for half duplex ends with the partner. -/
def execLinkDown (port : Nat) (s : State) : Out :=
  .next (match portKind port with
    | .bb | .wl | .tw =>
      if (linkRec s port).up then portDown s port 0 0 else putLink s port { linkRec s port with halfDuplex := false }
    | _ => s)

/-- CP_INBAND_STATUS (R172): half duplex holds the port down; a change of speed sets cp_speed_change. -/
def inbandEffect (p : Nat) (up : Bool) (speed : Nat) (full : Bool) (s : State) : State :=
  if portKind p ≠ .cp ∨ ¬ (portCfg s p).enabled then s
  else
    let x := linkRec s p
    if up && !full then holdHalf s p speed (x.speed != speed)
    else if !up then
      let s := putLink s p { x with halfDuplex := false, noSync := false }
      portDown s p 0 0
    else
      let changed := b2n (x.speed != speed)
      let s := putLink s p { x with speed := speed, noSync := false }
      if !x.up then portUp s p changed none
      else if x.speed ≠ speed then linkEvent s p 1 0
      else s

/-- See `inbandEffect`. -/
def execCpInbandStatus (port : Nat) (up : Bool) (speed : Nat) (fullDuplex : Bool) (s : State) : Out :=
  .next (inbandEffect port up speed fullDuplex s)

/-- LANE_SYNC_LOSS (R172): the four ports of a QSGMII lane go down. -/
def laneLoss (lane : Nat) (s : State) : State :=
  if 3 ≤ lane then s
  else
    [0, 1, 2, 3].foldl (fun s i =>
      let p := 4 + 4 * lane + i
      portDown (putLink s p { linkRec s p with noSync := true }) p 0 0) s

/-- See `laneLoss`. -/
def execLaneSyncLoss (lane : Nat) (s : State) : Out := .next (laneLoss lane s)

/-! ## Pause (R184 to R186) -/

/-- The transmitter of a port is halted now. -/
def haltedNow (s : State) (p : Nat) : Bool :=
  match (linkRec s p).haltUntil with
  | some t => decide (s.mono < t)
  | none => false

/-- PAUSE_RECEIVE (R184, R186): counted; where it is honoured the halt lasts for the quanta of 512 bit times; zero quanta
end it. -/
def pauseEffect (p quanta : Nat) (src : Mac) (s : State) : State :=
  if !(linkRec s p).up then s
  else
    let s := countPort (countGot s p 64) p 13 1
    if !pausesOn s p then s
    else
      let x := linkRec s p
      let x := { x with pauseSrc := src, lastPause := if quanta = 0 then x.lastPause else s.mono }
      if x.ignoring then putLink s p x
      else if quanta = 0 then
        let s := if haltedNow s p then countPaused s p else s
        releasePort (putLink s p { x with haltUntil := none }) p
      else
        putLink s p { x with
          haltSince := if haltedNow s p then x.haltSince else s.mono
          haltUntil := some (s.mono + quanta * 512000 / speedMbps s p) }

/-- See `pauseEffect`. -/
def execPauseReceive (port quanta : Nat) (src : Mac) (s : State) : Out := .next (pauseEffect port quanta src s)

/-- PAUSE_EXPIRY (R184): the quanta elapse. -/
def pauseExpire (p : Nat) (s : State) : State :=
  match (linkRec s p).haltUntil with
  | none => s
  | some t =>
    let s := countPaused (untilMono s t) p
    releasePort (putLink s p { linkRec s p with haltUntil := none }) p

/-- See `pauseExpire`. -/
def execPauseExpiry (port : Nat) (s : State) : Out := .next (pauseExpire port s)

/-- PAUSE_WATCHDOG_TRIP (R186): an unbroken halt that reaches pause_wd_limit is released; PAUSE is ignored from then on. In the
event and the windrow a zero byte follows the port, then the source MAC, its first octet at the
lowest address (DESIGN CHOICE, log: the layout is not given). -/
def pauseTrip (p : Nat) (s : State) : State :=
  match (linkRec s p).haltUntil with
  | none => s
  | some t =>
    let due := (linkRec s p).haltSince + (portCfg s p).pauseLimit * 1000000
    if t < due then s
    else
      let s := countPort (countPaused (untilMono s due) p) p 21 1
      let s := releasePort (putLink s p { linkRec s p with haltUntil := none, ignoring := true }) p
      let mac := beBytes 6 (linkRec s p).pauseSrc.toNat
      report (event s 0 8 (leBytes 1 p ++ [0] ++ mac)) 0x7001 (leBytes 1 p ++ [0] ++ mac ++ [0, 0])

/-- See `pauseTrip`. -/
def execPauseWatchdogTrip (port : Nat) (s : State) : Out := .next (pauseTrip port s)

/-- PAUSE_IGNORE_END (R186): 1 s after the last PAUSE with non-zero quanta. -/
def pauseHonour (p : Nat) (s : State) : State :=
  if (linkRec s p).ignoring then
    let s := untilMono s ((linkRec s p).lastPause + 1000000000)
    putLink s p { linkRec s p with ignoring := false }
  else s

/-- See `pauseHonour`. -/
def execPauseIgnoreEnd (port : Nat) (s : State) : Out := .next (pauseHonour port s)

/-! ## PORT_CONFIG -/

/-- Records applied in order; the first that fails gives its index, status and reason (R308). -/
def applyChecked {α : Type} (f : α → Param → Except (Status × Nat) α) : Nat → α → List Param → Except (Nat × Status × Nat) α
  | _, a, [] => .ok a
  | i, a, p :: r =>
    match f a p with
    | .error e => .error (i, e)
    | .ok a' => applyChecked f (i + 1) a' r

/-- A record outside the form or range of its field. -/
def badRec {α : Type} : Except (Status × Nat) α := .error (.invalidArgument, 0)

/-- A value or a bad record. -/
def orBad {α β : Type} (o : Option α) (k : α → Except (Status × Nat) β) : Except (Status × Nat) β :=
  match o with
  | some a => k a
  | none => badRec

/-- A record that a rule refuses. -/
def refusedRec {α : Type} (reason : Nat) : Except (Status × Nat) α := .error (.refused, reason)

/-- The port under which a SerDes field is kept: a CPQ lane's first port (Table 7-1). -/
def lanePort (p : Nat) : Nat := if portKind p = .cp then 4 + (p - 4) / 4 * 4 else p

/-- The ports a key of Table 7-1 applies to. -/
def keyApplies (key p : Nat) : Bool :=
  match key, portKind p with
  | 1, k => k != .reserved && isExternal p
  | 2, .bb | 2, .wl => true
  | 3, .bb | 3, .cp | 3, .wl | 3, .tw => true
  | 4, .bb | 4, .cp | 4, .sg | 4, .wl | 4, .tw => true
  | 5, .bb | 5, .cp | 5, .sg | 5, .wl | 5, .tw => true
  | 6, .bb | 6, .cp | 6, .sg | 6, .wl | 6, .tw => true
  | 7, .cp | 7, .wl | 8, .cp | 8, .wl => true
  | 9, .bb | 9, .wl | 9, .tw => true
  | 10, .bb | 10, .cp | 10, .wl | 10, .tw => true
  | 17, .cp | 18, .cp => true
  | k, .bb | k, .cp | k, .wl | k, .tw => decide (11 ≤ k ∧ k ≤ 16)
  | _, _ => false

/-- One field of one port set (Table 7-1); keys 17 and 18 are MDC in kHz and preamble suppression of R173 (DESIGN CHOICE,
log: R308 numbers only the fields of the table). -/
def portField (s : State) (r : Param) (p : Nat) : Except (Status × Nat) State :=
  let c := portCfg s p
  let l := lanePort p
  let d := portCfg s l
  match r.key with
  | 1 => orBad (recFlag r 0) fun b => .ok (putCfg s p { c with enabled := b })
  | 2 => orBad (recEnum r 4) fun v =>
      if portKind p = .wl ∧ v < 2 then badRec else .ok (putCfg s p { c with speed := some v })
  | 3 => orBad (recNat r 1522 9216) fun v =>
      if v % 2 = 1 then badRec
      else if guardOf s.fab.brine p * 192 < v then refusedRec 0x0301
      else
        let s' := putCfg s p { c with maxFrame := some v }
        if streamsHold s' p (activeBank s' p) then .ok s' else refusedRec 0x000F
  | 4 => orBad (recNat r 0 7) fun v =>
      .ok { s with fab := { s.fab with tags := tmod {} s.fab.tags p fun t => { t with pcp := v } } }
  | 5 => orBad (recFlag r 0) fun b =>
      .ok { s with fab := { s.fab with fdb := { s.fab.fdb with
        noLearn := if b then sdel s.fab.fdb.noLearn p else sadd s.fab.fdb.noLearn p } } }
  | 6 => orBad (recNat r 0 32768) fun v =>
      .ok { s with fab := { s.fab with fdb := { s.fab.fdb with
        learnLimit := tset none s.fab.fdb.learnLimit p (if v = 4096 then none else some v) } } }
  | 7 => orBad (recFlag r 0) fun b =>
      if b && !(streamsAt s p).isEmpty then refusedRec 0x000F else .ok (putCfg s p { c with pauseRx := some b })
  | 8 => orBad (recNat r 1 1000) fun v => .ok (putCfg s p { c with pauseLimit := v })
  | 9 => orBad (recNat r 0 100) fun v => .ok (putCfg s p { c with holdoff := v })
  | 10 => orBad (recFlag r 0) fun b => .ok (putCfg s p { c with lpi := b })
  | 11 => orBad (recNat r 0 31) fun v => .ok (putCfg s l { d with txAmp := v })
  | 12 => orBad (recNat r 0 7) fun v => .ok (putCfg s l { d with txPre := v })
  | 13 => orBad (recNat r 0 15) fun v => .ok (putCfg s l { d with txPost := v })
  | 14 => orBad (recFlag r 1) fun b => .ok (putCfg s l { d with txInv := b })
  | 15 => orBad (recFlag r 1) fun b => .ok (putCfg s l { d with rxInv := b })
  | 16 => orBad (recFlag r 0) fun b => .ok (putCfg s l { d with eqAdapt := b })
  | 17 => orBad (recNat r 1000 12500) fun v => .ok { s with ports := { s.ports with mdcKhz := v } }
  | 18 => orBad (recFlag r 0) fun b => .ok { s with ports := { s.ports with mdioNoPreamble := b } }
  | _ => badRec

/-- A field set on a list of ports. -/
def overPorts (f : State → Nat → Except (Status × Nat) State) : List Nat → State → Except (Status × Nat) State
  | [], s => .ok s
  | p :: r, s =>
    match f s p with
    | .error e => .error e
    | .ok s' => overPorts f r s'

/-- One record of PORT_CONFIG: for one port, or for all ports its field applies to. -/
def portRec (s : State) (r : Param) : Except (Status × Nat) State :=
  let ps := if r.port = 255 then (List.range 96).filter (keyApplies r.key)
    else if keyApplies r.key r.port then [r.port] else []
  if ps.isEmpty then badRec else overPorts (fun s p => portField s r p) ps s

/-- A port counts as link up as soon as it is enabled: a segment in Normal, a CAN port that is not bus-off, MVB and WTB. -/
def upByEnable (s : State) (p : Nat) : Bool :=
  match portKind p with
  | .sg => (tget ({} : Segment) s.ports.segs (p - 16)).state == .normal
  | .can => !(tget ({} : CanPort) s.ports.can (p - 80)).busOff
  | .mvb | .wtb => true
  | _ => false

/-- The link effects of changed settings of port `p` (R167, R169), against the settings `old`. -/
def portApply (old : State) (s : State) (p : Nat) : State :=
  let a := portCfg old p
  let b := portCfg s p
  let la := portCfg old (lanePort p)
  let lb := portCfg s (lanePort p)
  let serial := portKind p == .bb || portKind p == .cp || portKind p == .wl || portKind p == .tw
  if a.enabled && !b.enabled then portDown s p 2 0
  else if serial && (speedSet old p != speedSet s p || la.txInv != lb.txInv || la.rxInv != lb.rxInv || la.eqAdapt != lb.eqAdapt) then
    portDown s p 0 0
  else if b.enabled && !a.enabled && upByEnable s p && !(linkRec s p).up then portUp s p 0 none
  else s

/-- PORT_CONFIG (R167 to R169, R185). -/
def execPortConfig (h : Hcp) (recs : List Param) (s : State) : Out :=
  .next (runHcp { opcode := 0x0601, classC := true, owner := true } h s fun s =>
    match applyChecked portRec 0 s recs with
    | .error (i, st, reason) => .done s st reason (leBytes 2 i)
    | .ok s' => okay ((List.range 96).foldl (portApply s) s'))

/-! ## Segments (R174 to R179) -/

/-- Segment `sg`. -/
def segOf (s : State) (sg : Nat) : Segment := tget {} s.ports.segs sg

/-- Segment `sg` written. -/
def putSeg (s : State) (sg : Nat) (x : Segment) : State :=
  { s with ports := { s.ports with segs := tset {} s.ports.segs sg x } }

/-- A segment takes a state: only Normal, on an enabled port, counts as link up (R177). -/
def segEnter (s : State) (sg : Nat) (st : SegState) : State :=
  let s := putSeg s sg { segOf s sg with state := st }
  let p := 16 + sg
  if st = .normal then (if (portCfg s p).enabled && !(linkRec s p).up then portUp s p 0 none else s)
  else portDown s p 0 0

/-- One record of SEG_CONFIG (Table 7-2). -/
def segField (s : State) (r : Param) (p : Nat) : Except (Status × Nat) State :=
  let x := segOf s (p - 16)
  let put := fun y => (.ok (putSeg s (p - 16) y) : Except (Status × Nat) State)
  if x.state = .normal then .error (.busy, 0)
  else
    match r.key with
    | 1 => orBad (recNat r 2 8) fun v => put { x with nodeCount := v }
    | 2 => orBad (recNat r 16 255) fun v => put { x with toTimer := v }
    | 3 => orBad (recNat r 0 7) fun v => put { x with maxBc := v }
    | 4 => orBad (recNat r 64 1522) fun v => put { x with nodeFrame := v }
    | 5 => orBad (recFlag r 0) fun b => put { x with wakeDet := b }
    | 6 => orBad (recFlag r 0) fun b => put { x with autoWake := b }
    | _ => badRec

/-- A record of SEG_CONFIG on its segments. -/
def segRec (s : State) (r : Param) : Except (Status × Nat) State :=
  if r.port = 255 then overPorts (fun s p => segField s r p) ((List.range 64).map (16 + ·)) s
  else if portKind r.port = .sg then segField s r r.port else badRec

/-- SEG_CONFIG (R174): BUSY on a port in Normal. -/
def execSegConfig (h : Hcp) (recs : List Param) (s : State) : Out :=
  .next (runHcp { opcode := 0x0602, classC := true, owner := true } h s fun s =>
    match applyChecked segRec 0 s recs with
    | .error (i, st, reason) => .done s st reason (leBytes 2 i)
    | .ok s' => okay s')

/-- The opcodes that wait (R177, R179). -/
abbrev opSegState : Nat := 0x0603
/-- See `opSegState`. -/
abbrev opSegWake : Nat := 0x0604

/-- What is under way on a segment gets one more entry. -/
def segWait (s : State) (sg : Nat) (w : SegPending) : State :=
  putSeg s sg { segOf s sg with pending := (segOf s sg).pending ++ [w] }

/-- A burst under way ends in the state commanded last (R179). -/
def segRetarget (s : State) (sg : Nat) (st : SegState) : State :=
  putSeg s sg { segOf s sg with pending := (segOf s sg).pending.map fun w => match w with
    | .burst since _ h => .burst since st h
    | w => w }

/-- SEG_STATE (R177): into the state by Table 7-4, whatever waits on the segment; Sleep waits for silence, leaving Sleep for the
PHY. -/
def execSegState (h : Hcp) (sg : Nat) (st : SegState) (s : State) : Out :=
  .next (runHcp { opcode := opSegState, classC := true } h s fun s =>
    if 64 ≤ sg then fails s .invalidArgument 0
    else if !hasRight s h.tenant 3 || !hasPort s h.tenant (16 + sg) then fails s .notPermitted rRight
    else if (segOf s sg).state = st then okay s
    else if st = .sleep then .wait (segWait s sg (.sleep s.mono h))
    else if (segOf s sg).state = .sleep then .wait (segWait s sg (.powerUp st h))
    else okay (segRetarget (segEnter s sg st) sg st))

/-- The Sleep commands that wait on a segment, with their starts. -/
def segSleeps (s : State) (sg : Nat) : List (Nat × Hcp) :=
  (segOf s sg).pending.filterMap fun w => match w with
    | .sleep since h => some (since, h)
    | _ => none

/-- What waits on a segment without the Sleep commands. -/
def segOthers (s : State) (sg : Nat) : List SegPending :=
  (segOf s sg).pending.filter fun w => match w with
    | .sleep .. => false
    | _ => true

/-- SEG_SLEEP_SILENCE (Table 7-4): 1 ms of silence within 100 ms; every Sleep command that waits completes. -/
def segSilence (sg : Nat) (s : State) : State :=
  match segSleeps s sg with
  | [] => s
  | (since, h) :: r =>
    if since + 100000000 < s.mono ∨ segBursts s sg then s
    else
      let s := untilMono s (since + 1000000)
      let s := segEnter (putSeg s sg { segOf s sg with pending := segOthers s sg }) sg .sleep
      ((since, h) :: r).foldl (fun s e => respond s e.2 opSegState .ok 0 []) s

/-- See `segSilence`. -/
def execSegSleepSilence (sg : Nat) (s : State) : Out := .next (segSilence sg s)

/-- SEG_SLEEP_TIMEOUT (Table 7-4): 100 ms without it. -/
def segSleepLate (sg : Nat) (s : State) : State :=
  match segSleeps s sg with
  | [] => s
  | (since, h) :: r =>
    let s := untilMono s (since + 100000000)
    respond (putSeg s sg { segOf s sg with
      pending := r.map (fun e => SegPending.sleep e.1 e.2) ++ segOthers s sg }) h opSegState .busy 0 []

/-- See `segSleepLate`. -/
def execSegSleepTimeout (sg : Nat) (s : State) : Out := .next (segSleepLate sg s)

/-- The wake rule (R178): at least 16 transitions of at least 200 mV, 40 ns to 400 ns apart, within 10 µs. -/
def wakeRule (p : SegPulse) : Bool :=
  decide (16 ≤ p.transitions) && decide (200 ≤ p.minMv) && decide (40 ≤ p.minGapNs) && decide (p.maxGapNs ≤ 400)
    && decide (p.spanNs ≤ 10000)

/-- A segment event to tenant 0: kind 0 seg_activity, 1 seg_wake (R289), then the port. -/
def segEvent (s : State) (sg kind : Nat) : State := event s 0 9 (leBytes 1 kind ++ leBytes 1 (16 + sg))

/-- SEG_ACTIVITY (Table 7-4): a Standby segment, to Normal with auto_wake. -/
def segActive (sg : Nat) (p : SegPulse) (s : State) : State :=
  if (segOf s sg).state = .standby ∧ wakeRule p then
    let s := segEvent s sg 0
    if (segOf s sg).autoWake then segEnter s sg .normal else s
  else s

/-- See `segActive`. -/
def execSegActivity (sg : Nat) (p : SegPulse) (s : State) : Out := .next (segActive sg p s)

/-- A wake burst begins on a segment (R179). -/
def segBurst (s : State) (sg : Nat) (after : SegState) (h : Hcp) : State :=
  emit (segWait s sg (.burst s.mono after h)) (.wakeBurst sg)

/-- SEG_WAKE (R179): a burst, through Standby from Sleep. In degraded mode the port is held down and sends nothing (R14,
Table 1-3): REFUSED (DESIGN CHOICE, log). -/
def execSegWake (h : Hcp) (sg : Nat) (s : State) : Out :=
  .next (runHcp { opcode := opSegWake } h s fun s =>
    if 64 ≤ sg then fails s .invalidArgument 0
    else if !hasRight s h.tenant 3 || !hasPort s h.tenant (16 + sg) then fails s .notPermitted rRight
    else if portsHeld s then fails s .refused 0
    else if (segOf s sg).state = .sleep then .wait (segWait s sg (.powerUpWake h))
    else .wait (segBurst s sg (segOf s sg).state h))

/-- SEG_WAKE_BURST_END (R179): after 1 ms the port takes its commanded state; after Sleep it stays in Standby (DEDUCED, log). -/
def segBurstEnd (sg : Nat) (s : State) : State :=
  match (segOf s sg).pending.findSome? fun w => match w with
      | .burst since after h => some (since, after, h)
      | _ => none with
  | some (since, after, h) =>
    let s := untilMono s (since + 1000000)
    let s := putSeg s sg { segOf s sg with pending := (segOf s sg).pending.erase (.burst since after h) }
    respond (segEnter s sg after) h opSegWake .ok 0 []
  | none => s

/-- See `segBurstEnd`. -/
def execSegWakeBurstEnd (sg : Nat) (s : State) : Out := .next (segBurstEnd sg s)

/-- What waited for the PHY of a segment goes on. -/
def segResume (sg : Nat) (s : State) (w : SegPending) : State :=
  match w with
  | .powerUp target h => respond (segEnter s sg target) h opSegState .ok 0 []
  | .powerUpWake h =>
    if portsHeld s then respond s h opSegWake .refused 0 [] else segBurst s sg (segOf s sg).state h
  | .wakeUp => s
  | w => segWait s sg w

/-- SEG_PHY_POWER_UP (R177): the PHY reaches Standby, and what waits goes on in the order it came. -/
def segPowerUp (sg : Nat) (s : State) : State :=
  let ws := (segOf s sg).pending
  if (segOf s sg).state = .sleep ∧ ¬ ws.isEmpty then
    ws.foldl (segResume sg) (segEnter (putSeg s sg { segOf s sg with pending := [] }) sg .standby)
  else s

/-- See `segPowerUp`. -/
def execSegPhyPowerUp (sg : Nat) (s : State) : Out := .next (segPowerUp sg s)

/-! ## CAN (R180 to R182) -/

/-- CAN port `n`. -/
def canOf (s : State) (n : Nat) : CanPort := tget {} s.ports.can n

/-- CAN port `n` written. -/
def putCan (s : State) (n : Nat) (x : CanPort) : State := { s with ports := { s.ports with can := tset {} s.ports.can n x } }

/-- 100 MHz divided by a rate is an integer from 10 to 800 (R180). -/
def canRate (r : Nat) : Bool := r != 0 && 100000000 % r == 0 && decide (10 ≤ 100000000 / r) && decide (100000000 / r ≤ 800)

/-- A rate record in kb/s, the smallest unit of its column (R308): settable (R180), and in range. -/
def canRateRec {α : Type} (r : Param) (lo hi : Nat) (k : Nat → Except (Status × Nat) α) : Except (Status × Nat) α :=
  orBad (recNat r 0 100000) fun v =>
    if !canRate (v * 1000) then refusedRec 0x0302 else if v * 1000 < lo ∨ hi < v * 1000 then badRec else k (v * 1000)

/-- An acceptance entry: identifier, mask, format, destination 0 steering entry, 1 port 97, 2 discard, and the steering
entry (DESIGN CHOICE, log: R182 gives the table and no key). -/
def canEntry (b : Bytes) : Option CanAccept :=
  if b.length ≠ 12 then none
  else
    let mk := fun d => some ({ ident := word (leAt b 0 4), mask := word (leAt b 4 4), format := leAt b 8 1, dest := d } : CanAccept)
    match leAt b 9 1 with
    | 0 => if leAt b 10 2 < 1024 then mk (.steer (leAt b 10 2)) else none
    | 1 => mk .farWindow
    | 2 => mk .discard
    | _ => none

/-- The largest data field of a mode (Table 7-6). -/
def canData (x : CanPort) : Nat := if x.mode = 0 then 8 else if x.mode = 1 then 64 else x.xlMax

/-- One field of one CAN port (Table 7-5); the record's maximum is held against the port's guarantee (R181). -/
def canField (s : State) (r : Param) (p : Nat) : Except (Status × Nat) State :=
  let x := canOf s (p - 80)
  let put := fun (y : CanPort) =>
    if guardOf s.fab.brine p * 192 < 16 + canData y then refusedRec 0x0301
    else (.ok (putCan s (p - 80) y) : Except (Status × Nat) State)
  match r.key with
  | 1 => orBad (recEnum r 3) fun v => put { x with mode := v }
  | 2 => canRateRec r 125000 1000000 fun v => put { x with nominal := v }
  | 3 => canRateRec r 125000 10000000 fun v => put { x with data := v }
  | 4 => orBad (recNat r 50 90) fun v => put { x with nominalSp := v }
  | 5 => orBad (recNat r 50 90) fun v => put { x with dataSp := v }
  | 6 => orBad (recFlag r 0) fun b => put { x with tdc := b }
  | 7 => orBad (recFlag r 0) fun b => put { x with pwm := b }
  | 8 => orBad (recNat r 1 2048) fun v => put { x with xlMax := v }
  | 9 => orBad (recFlag r 1) fun b => put { x with manual := b }
  | 10 => orBad (recFlag r 0) fun b => put { x with listenOnly := b }
  | 11 =>
    match r.val with
    | .bytes b => orBad (canEntry b) fun e =>
        if 256 ≤ r.elem then badRec else put { x with accept := tset none x.accept r.elem (some e) }
    | _ => badRec
  | _ => badRec

/-- A record of CAN_CONFIG on its ports. -/
def canRec (s : State) (r : Param) : Except (Status × Nat) State :=
  if r.port = 255 then overPorts (fun s p => canField s r p) ((List.range 8).map (80 + ·)) s
  else if portKind r.port = .can then canField s r r.port else badRec

/-- The data rate lies between the nominal rate and the mode's limit (Table 7-5). -/
def canRatesOk (x : CanPort) : Bool :=
  decide (x.nominal ≤ x.data) && decide (x.data ≤ (if x.mode = 2 then 10000000 else 5000000))

/-- The record that puts a port's data rate out of its range: the last one for it that sets a rate or the mode, of the data rate
first. -/
def canFailing (recs : List Param) (n : Nat) : Nat :=
  let last := fun (ok : Nat → Bool) =>
    (((List.range recs.length).zip recs).filter fun e => ok e.2.key && (e.2.port == 255 || e.2.port == 80 + n)).getLast?.map Prod.fst
  (last (· == 3)).getD ((last fun k => k == 1 || k == 2).getD 0)

/-- CAN_CONFIG (R180). -/
def execCanConfig (h : Hcp) (recs : List Param) (s : State) : Out :=
  .next (runHcp { opcode := 0x0605, classC := true, owner := true } h s fun s =>
    match applyChecked canRec 0 s recs with
    | .error (i, st, reason) => .done s st reason (leBytes 2 i)
    | .ok s' =>
      match (List.range 8).find? fun n => !canRatesOk (canOf s' n) with
      | some n => failsAt s (canFailing recs n)
      | none => okay s')

/-- CAN_RECOVER (R180): a bus-off port in manual recovery may rejoin. -/
def execCanRecover (h : Hcp) (port : Nat) (s : State) : Out :=
  .next (runHcp { opcode := 0x0606 } h s fun s =>
    if portKind port ≠ .can then fails s .invalidArgument 0
    else if !hasRight s h.tenant 3 || !hasPort s h.tenant port then fails s .notPermitted rRight
    else
      let x := canOf s (port - 80)
      if x.busOff then okay (putCan s (port - 80) { x with recovering := true }) else okay s)

/-- CAN_BUS_OFF (R182): counted, and as link down. -/
def canOff (p : Nat) (s : State) : State :=
  if portKind p = .can ∧ ¬ (canOf s (p - 80)).busOff then
    portDown (countPort (putCan s (p - 80) { canOf s (p - 80) with busOff := true, recovering := false }) p 38 1) p 0 0
  else s

/-- See `canOff`. -/
def execCanBusOff (port : Nat) (s : State) : Out := .next (canOff port s)

/-- CAN_AUTO_RECOVERY (Table 7-5): after 128 × 11 recessive bits the port rejoins, with auto recovery or after
CAN_RECOVER. -/
def canRejoin (p bits : Nat) (s : State) : State :=
  let x := canOf s (p - 80)
  if portKind p = .can ∧ x.busOff ∧ (¬ x.manual ∨ x.recovering) ∧ 1408 ≤ bits then
    let s := putCan s (p - 80) { x with busOff := false, recovering := false }
    if (portCfg s p).enabled && !(linkRec s p).up then portUp s p 0 none else s
  else s

/-- See `canRejoin`. -/
def execCanAutoRecovery (port bits : Nat) (s : State) : Out := .next (canRejoin port bits s)

/-! ## MDIO and PORT_STATUS -/

/-- What an MDIO operation answers: its data and mdio_noresp (R173). -/
def mdioAnswer (o : MdioOp) : Bytes :=
  if o.isWrite then leBytes 2 o.data.toNat ++ [0, 0]
  else
    match o.phyData with
    | some v => leBytes 2 v.toNat ++ [0, 0]
    | none => leBytes 2 0xFFFF ++ [1, 0]

/-- MDIO_ACCESS (R173): up to 16 operations in order. The port that an operation concerns is the one its PHY address serves on
the board, an uninterpreted function of the address (log). -/
def execMdioAccess (h : Hcp) (ops : List MdioOp) (s : State) : Out :=
  .next (runHcp { opcode := 0x0607 } h s fun s =>
    if !hasRight s h.tenant 3 || ops.any (fun o => !hasPort s h.tenant (Config.phyPort o.phy)) then
      fails s .notPermitted rRight
    else if ops.isEmpty ∨ 16 < ops.length then fails s .invalidArgument 0
    else okWith (emitAll s (ops.map fun o => .mdio o.clause45 o.isWrite o.phy o.reg o.data)) (ops.flatMap mdioAnswer))

/-- PORT_STATUS (R286): port, up, hold reason of Table 7-11, speed byte, enabled (the order is DESIGN CHOICE, log). -/
def execPortStatus (h : Hcp) (port : Nat) (s : State) : Out :=
  .next (runHcp { opcode := 0x0608 } h s fun s =>
    if portReserved s port then fails s .invalidArgument 0
    else if !hasRight s h.tenant 4 || !hasPort s h.tenant port then fails s .notPermitted rRight
    else
      let x := linkRec s port
      okWith s (leBytes 1 port ++ leBytes 1 (b2n x.up) ++ leBytes 1 (b2n x.halfDuplex) ++ leBytes 1 (speedByte s port)
        ++ leBytes 1 (b2n (portCfg s port).enabled) ++ [0, 0, 0]))

/-! ## Harvest (R189 to R192) -/

/-- A mask names a reserved port (R8). -/
def maskReserved (s : State) (m : BitVec 128) : Bool := (setOf m).any (portReserved s)

/-- HARVEST_TAKE (R189): a reserved port first (R8), then the right and the port set (R286). -/
def execHarvestTake (h : Hcp) (a : HarvestArgs) (s : State) : Out :=
  .next (runHcp { opcode := 0x0609, features := [16] } h s fun s =>
    let t := linNs a.sec a.ns
    let x := tget ({} : HarvestBank) s.ports.banks a.bank
    if maskReserved s a.mask then fails s .invalidArgument 0
    else if !hasRight s h.tenant 4 ∨ (setOf a.mask).any fun p => !hasPort s h.tenant p then fails s .notPermitted rRight
    else if 4 ≤ a.bank ∨ 1000000000 ≤ a.ns then fails s .invalidArgument 0
    else if x.state = .pending ∨ x.state = .filling then fails s .busy 0
    else if a.immediate then okay (harvestFill s a.bank h.tenant a (trtNs s) (!trtValid s))
    else if !s.tms.tsValid then fails s .refused rNoTime
    else if t < trtNs s + 100000 then fails s .refused 0x0101
    else if trtNs s + 3600000000000 < t then fails s .refused 0x0102
    else
      let s := { s with ports := { s.ports with
        banks := tset {} s.ports.banks a.bank { x with state := .pending, next := some (h.tenant, a) } } }
      okay (armDevice s (60 + a.bank) targetHarvest (word a.bank) t))

/-- HARVEST_FILL_DONE (R191, R192): VALID, seq even again, harvest_done to the tenant. -/
def fillDone (b : Nat) (s : State) : State :=
  let x := tget ({} : HarvestBank) s.ports.banks b
  if x.state = .filling then
    let s := { s with ports := { s.ports with
      banks := tset {} s.ports.banks b { x with state := .valid, seq := x.seq + 1 } } }
    event s x.tenant 6 (leBytes 1 b ++ leBytes 4 x.ident.toNat ++ leBytes 1 3)
  else s

/-- See `fillDone`. -/
def execHarvestFillDone (bank : Nat) (s : State) : Out := .next (fillDone bank s)

end Sys2Proof.Machine
end

