-- ==== Sys2Proof/Machine/Far.lean ====
section
/-! DEFINITION. The commands of the Far Window, and received CAN frames (R182, R232 to R243). -/

namespace Sys2Proof.Machine

/-- The features of the Far Window (Table 12-8). -/
def farFeatures : List Nat := [11]

/-- The first setting of FAR_TARGET_SET that is out of range, by its record in the order of R232 (R308). -/
def farCfgBad (s : State) (c : FarCfg) : Option Nat :=
  let port := match portKind c.port with
    | .sg | .mvb => true
    | .can => (tget ({} : CanPort) s.ports.can (c.port - 80)).mode != 0
    | _ => false
  ([port, true, true, true, decide (c.mvbAddr < 4096), true, decide (1 ≤ c.size ∧ c.size ≤ 0x7FC0),
    c.timeoutUs.all fun u => decide (10 ≤ u ∧ u ≤ 40000), true, decide (c.owner < 256)] : List Bool).findIdx? (!·)

/-- FAR_TARGET_SET (R232); what is open at the target ends as at a port that is down. -/
def execFarTargetSet (h : Hcp) (f : Nat) (c : Option FarCfg) (s : State) : Out :=
  .next (runHcp { opcode := 0x0809, classC := true, owner := true, features := farFeatures } h s fun s =>
    match c.bind (farCfgBad s) with
    | some i => failsAt s i
    | none =>
      if 256 ≤ f then fails s .invalidArgument 0
      else
        let s := farFlush (farOf s f).queue.length s f (.lost false)
        okay (putFar s f { farOf s f with cfg := c }))

/-- An access put at the end of its target's queue. -/
def farPut (s : State) (f : Nat) (path : FarPath) (isRead : Bool) (addr len : Nat) (data : Bytes) (h : Option Hcp) : State :=
  let x := farOf s f
  putFar { s with far := { s.far with arrivals := s.far.arrivals + 1 } } f { x with
    queue := x.queue ++ [{ path := path, isRead := isRead, addr := addr, len := len, data := data, at_ := s.mono, sent := 0
                           answered := 0, got := [], hcp := h, no := s.far.arrivals }] }

/-- A far command of a tenant: the right, the target, the range; outside the size is UNMAPPED (Table 9-5); at a port that is
down it ends at once. -/
def farCommand (h : Hcp) (f addr len : Nat) (isRead : Bool) (data : Bytes) (s : State) : Answer :=
  if !hasRight s h.tenant 7 then fails s .notPermitted rRight
  else if 256 ≤ f ∨ len = 0 then fails s .invalidArgument 0
  else
    match (farOf s f).cfg with
    | none => fails s .invalidArgument 0
    | some c =>
      if c.size < addr + len then fails s .refused 0x0401
      else if !farPortUp s c then
        let d := draw s
        fails d.2 .refused (0x0400 + d.1 % 256)
      else .wait (farPut s f (.tenant h.tenant) isRead addr len data (some h))

/-- FAR_READ (R238). -/
def execFarRead (h : Hcp) (f addr len : Nat) (s : State) : Out :=
  .next (runHcp { opcode := 0x080A, features := farFeatures } h s (farCommand h f addr len true []))

/-- FAR_WRITE (R238). -/
def execFarWrite (h : Hcp) (f addr : Nat) (data : Bytes) (s : State) : Out :=
  .next (runHcp { opcode := 0x080B, classC := true, features := farFeatures } h s (farCommand h f addr data.length false data))

/-- FAR_LOCK (R239, R240): the lease in 10 µs units, 1 to 1000. -/
def execFarLock (h : Hcp) (f token lease : Nat) (s : State) : Out :=
  .next (runHcp { opcode := opFarLock, features := farFeatures } h s fun s =>
    if !hasRight s h.tenant 7 then fails s .notPermitted rRight
    else if 256 ≤ f ∨ 65536 ≤ token ∨ lease = 0 ∨ 1000 < lease ∨ (farOf s f).cfg.isNone then fails s .invalidArgument 0
    else .wait (lockRequest s f
      { path := .tenant h.tenant, token := token, lease := lease * 10000, at_ := s.mono, hcp := some h }))

/-- FAR_UNLOCK (R240). -/
def execFarUnlock (h : Hcp) (f token : Nat) (s : State) : Out :=
  .next (runHcp { opcode := 0x080D, features := farFeatures } h s fun s =>
    if !hasRight s h.tenant 7 then fails s .notPermitted rRight
    else if 256 ≤ f then fails s .invalidArgument 0
    else
      let x := farOf s f
      let held := match x.lock with | some l => l.path == FarPath.tenant h.tenant && l.token == token | none => false
      if held then okay (lockRelease s f)
      else if x.released = some (FarPath.tenant h.tenant, token) then okay s
      else fails s .notPermitted 0)

/-- The host reads held across all targets (R235). -/
def heldReads (s : State) : Nat :=
  (s.far.targets.map fun e => (e.2.queue.filter fun a => a.isRead && a.hcp.isNone).length).sum

/-- FAR_HOST_READ (R235): one TLP of 4 to 64 B in a 64 B-aligned block; a bad one, an unconfigured target or one outside the size
completes with UR; the 25th held and one at a port that is down with CA. -/
def hostRead (f off len : Nat) (s : State) : State :=
  if 256 ≤ f then s
  else
    match (farOf s f).cfg with
    | none => farReject s f 1
    | some c =>
      if len < 4 ∨ 64 < len ∨ off / 64 ≠ (off + len - 1) / 64 ∨ c.size < off + len then farReject s f 1
      else if 24 ≤ heldReads s then farErr (farReject s f 2) f 5
      else if !farPortUp s c then farReject s f 2
      else farPut s f .bar0 true off len [] none

/-- See `hostRead`. -/
def execFarHostRead (f off len : Nat) (s : State) : Out := .next (hostRead f off len s)

/-- FAR_HOST_WRITE (R235, R237): posted; what cannot be carried is discarded and logged. -/
def hostWrite (f off : Nat) (data : Bytes) (s : State) : State :=
  if 256 ≤ f ∨ data.isEmpty then s
  else
    match (farOf s f).cfg with
    | none => farLog s f 1 off 0
    | some c =>
      if c.size < off + data.length then farLog s f 1 (c.base.toNat + off) 1
      else if !farPortUp s c then farLog s f 1 (c.base.toNat + off) 0
      else farPut s f .bar0 false off data.length data none

/-- See `hostWrite`. -/
def execFarHostWrite (f off : Nat) (data : Bytes) (s : State) : Out := .next (hostWrite f off data s)

/-- FW_LOCK_WRITE (R239, Table 9-7): the token and a lease of 1 to 1000 units of 10 µs request the BAR0 path's lock; 0 with
its token releases it. -/
def fwLock (f : Nat) (v : Word) (s : State) : State :=
  let lease := v.toNat % 65536
  let token := v.toNat / 65536
  if 256 ≤ f then s
  else if lease = 0 then
    if (farOf s f).lock.any fun l => l.path == FarPath.bar0 && l.token == token then lockRelease s f else s
  else if 1000 < lease then s
  else lockRequest s f { path := .bar0, token := token, lease := lease * 10000, at_ := s.mono, hcp := none }

/-- See `fwLock`. -/
def execFwLockWrite (f : Nat) (v : Word) (s : State) : Out := .next (fwLock f v s)

/-- The next tag of a target that is not reserved, within 256. -/
def freeTag (r : Table Nat) : Nat → Nat → Nat
  | 0, t => t % 256
  | n + 1, t => if tget 0 r (t % 256) = 0 then t % 256 else freeTag r n (t + 1)

/-- The lock lets an access go: free, or held by its path (R239). -/
def lockLets (x : FarTarget) (a : FarAcc) : Bool :=
  match x.lock with
  | none => true
  | some l => l.path == a.path

/-- The payload of a far access request, network order (Table 9-4). -/
def farPayload (t : FarTxn) : Bytes :=
  leBytes 1 (if t.isRead then 1 else 2) ++ leBytes 1 t.tag ++ [0] ++ leBytes 1 t.len ++ beBytes 4 t.addr ++ t.data

/-- The data of a CAN FD frame, filled up with zeros to the next length that FD has. -/
def fdFill (d : Bytes) : Bytes :=
  d ++ List.replicate ((([8, 12, 16, 20, 24, 32, 48].find? fun n => decide (d.length ≤ n)).getD 64) - d.length) 0

/-- The frame that carries a far request (R233): on SG an 0x88B6 frame of subtype 0x50, on CAN a record of the port's mode, on
MVB a record of one 32 B message frame. The octets around the payload are the model's (DESIGN CHOICE, log). -/
def farFrame (s : State) (c : FarCfg) (t : FarTxn) : Frame :=
  let pl := farPayload t
  let f : Frame :=
    { dst := c.mac, src := Config.portMac s.otp.unitId c.port, vlan := none, etype := 0x88B6, subtype := 0x50, rtag := none, rct := none
      len := max 64 (19 + pl.length), fcsOk := true, gptpDomain := none, payload := 0x50 :: pl }
  let record := fun (b : Bytes) => { f with src := 0, dst := 0, etype := 0, subtype := 0, len := b.length, payload := b }
  match portKind c.port with
  | .can =>
    let m := (tget ({} : CanPort) s.ports.can (c.port - 80)).mode
    let d := if m = 1 then fdFill pl else pl
    record (leBytes 4 c.canReq.toNat ++ leBytes 1 m ++ [0] ++ leBytes 2 d.length ++ List.replicate 8 0 ++ d)
  | .sg => f
  | _ => record (leBytes 2 c.mvbAddr ++ List.replicate 14 0 ++ pl ++ List.replicate (32 - pl.length) 0)

/-- A request of the engine: sent from its own queue of port 97 into the egress queue of the target's port, charged to the
target's owner, in the class of an untagged frame of port 97 (R241, Table 5-2). -/
def farIssue (s : State) (c : FarCfg) (t : FarTxn) : State :=
  let f := farFrame s c t
  brineAndQueue (countGot s 97 f.len) 97
    { cls := pcpClass (tget ({} : TagPort) s.fab.tags 97).pcp, tenant := c.owner, stream := none, conforming := false
      vid := frameVid s 97 f, frame := f, ports := [c.port] } false

/-- The access that goes next, and the others (R235, R239): the one under way, else the first in arrival order that the lock
lets go. -/
def farNext (x : FarTarget) : Option (FarAcc × List FarAcc) :=
  match x.queue with
  | [] => none
  | a :: r =>
    if a.sent ≠ 0 ∨ lockLets x a then some (a, r) else (x.queue.find? (lockLets x)).map fun b => (b, x.queue.erase b)

/-- What a response takes of the inbound buffer of its class (Table 9-4). -/
def respSize (isRead : Bool) (n : Nat) : Nat := 8 + if isRead then n else 0

/-- The targets of a class. -/
def classTargets (s : State) (maint : Bool) : List FarTarget :=
  (s.far.targets.map Prod.snd).filter fun x => x.cfg.any fun c => c.maint == maint

/-- What the inbound buffer of a class holds and has reserved: the complete response of each open transaction, and what was
answered of each access under way (R241). -/
def inboundUsed (s : State) (maint : Bool) : Nat :=
  ((classTargets s maint).map fun x =>
    (match x.txn with | some t => respSize t.isRead t.len | none => 0) + (x.queue.map fun a => a.got.length).sum).sum

/-- What the outbound buffer of a class holds of the accesses up to one in order of arrival: 8 B of request and the write data
of each (Table 9-6; the sizes are DEDUCED, log). -/
def outboundUpTo (s : State) (maint : Bool) (no : Nat) : Nat :=
  ((classTargets s maint).map fun x => ((x.queue.filter fun a => decide (a.no ≤ no)).map fun a => 8 + a.data.length).sum).sum

/-- The size of the buffers of a class, outbound and inbound alike (Table 9-6). -/
def farBuffer (maint : Bool) : Nat := if maint then 16384 else 49152

/-- A request of `n` bytes may be sent (R241): its access stands in the outbound buffer of its class, and the inbound buffer has
room for its complete response. -/
def farRoom (s : State) (c : FarCfg) (a : FarAcc) (n : Nat) : Bool :=
  decide (outboundUpTo s c.maint a.no ≤ farBuffer c.maint)
    && decide (inboundUsed s c.maint + respSize a.isRead n ≤ farBuffer c.maint)

/-- FAR_REQUEST_SEND (R233, R241): the next request of the access that goes next, which stands at the head of the queue from
then on, while none is open; a port that has gone down ends the head. -/
def requestSend (f : Nat) (s : State) : State :=
  let x := farOf s f
  match x.cfg, farNext x, x.txn with
  | some c, some (a, r), none =>
    if !farPortUp s c then farHeadEnd s f (.lost false)
    else if a.len ≤ a.sent || decide (a.at_ + farTimeoutNs c ≤ s.mono)
      || !farRoom s c a (min (farChunk c.port) (a.len - a.sent)) then s
    else
      let n := min (farChunk c.port) (a.len - a.sent)
      let tag := freeTag x.reserved 256 x.nextTag
      let addr := c.base.toNat + a.addr + a.sent
      let data := if a.isRead then [] else (a.data.drop a.sent).take n
      let t : FarTxn := { tag := tag, isRead := a.isRead, addr := addr, len := n, data := data, resends := 0, at_ := s.mono }
      farIssue (putFar s f { x with
        nextTag := (tag + 1) % 256, queue := { a with sent := a.sent + n } :: r, txn := some t }) c t
  | _, _, _ => s

/-- See `requestSend`. -/
def execFarRequestSend (f : Nat) (s : State) : Out := .next (requestSend f s)

/-- A response answers an open transaction (R236): its tag and its op, with bit 7 set; one that brings data names the length asked
for and brings that much (DEDUCED, log). -/
def answers (t : FarTxn) (r : FarResp) : Bool :=
  decide (t.tag = r.tag ∧ r.op = if t.isRead then 0x81 else 0x82)
    && (!t.isRead || r.status != 0 || decide (r.len = t.len ∧ t.len ≤ r.data.length))

/-- FAR_RESPONSE_RECEIVE (R233, R236): the answer of the open transaction completes its request; the last one, or a status other
than OK, ends the access; any other response is dropped with late_discard. -/
def responseReceive (f : Nat) (r : FarResp) (s : State) : State :=
  let x := farOf s f
  match x.txn, x.queue with
  | some t, a :: rest =>
    if !answers t r then farErr s f 3
    else
      let a := { a with answered := a.answered + t.len, got := a.got ++ (if t.isRead then r.data.take t.len else []) }
      let y := { x with lastStatus := r.status, txn := none, queue := a :: rest }
      if r.status ≠ 0 then farEnd (putFar s f { y with queue := rest }) f a (.status r.status)
      else if a.len ≤ a.answered then farEnd (putFar s f { y with queue := rest }) f a .ok
      else putFar s f y
  | _, _ => farErr s f 3

/-- See `responseReceive`. -/
def execFarResponseReceive (f : Nat) (r : FarResp) (s : State) : Out := .next (responseReceive f r s)

/-- FAR_RESEND (R234): far_timeout / 4, at least 10 µs, after the last sending, at most 3 times, with the same tag. -/
def resend (f : Nat) (s : State) : State :=
  let x := farOf s f
  match x.txn, x.cfg with
  | some t, some c =>
    if 3 ≤ t.resends then s
    else
      let s := untilMono s (t.at_ + max 10000 (farTimeoutNs c / 4))
      let s := putFar s f { x with txn := some { t with resends := t.resends + 1, at_ := s.mono } }
      if farPortUp s c then farIssue s c t else s
  | _, _ => s

/-- See `resend`. -/
def execFarResend (f : Nat) (s : State) : Out := .next (resend f s)

/-- FAR_TIMEOUT (R235 to R237): far_timeout after the oldest access arrived, be it under way or waiting. -/
def farLate (f : Nat) (s : State) : State :=
  match (farOf s f).cfg, (farOf s f).queue with
  | some c, a :: r =>
    let old := r.foldl (fun o b => if b.at_ < o.at_ then b else o) a
    let s := untilMono s (old.at_ + farTimeoutNs c)
    if old = a then farHeadEnd s f (.lost true)
    else farEnd (putFar s f { farOf s f with queue := (farOf s f).queue.erase old }) f old (.lost true)
  | _, _ => s

/-- See `farLate`. -/
def execFarTimeout (f : Nat) (s : State) : Out := .next (farLate f s)

/-- FAR_DISCARD_END (R236): the tag is free. -/
def discardEnd (f tag : Nat) (s : State) : State :=
  let t := tget 0 (farOf s f).reserved tag
  if t = 0 then s
  else
    let s := untilMono s (t - 1)
    putFar s f { farOf s f with reserved := tset 0 (farOf s f).reserved tag 0 }

/-- See `discardEnd`. -/
def execFarDiscardEnd (f tag : Nat) (s : State) : Out := .next (discardEnd f tag s)

/-- FAR_LEASE_EXPIRY (R239). -/
def leaseExpire (f : Nat) (s : State) : State :=
  match (farOf s f).lock with
  | none => s
  | some l => lockRelease (farErr (untilMono s l.endAt) f 4) f

/-- See `leaseExpire`. -/
def execFarLeaseExpiry (f : Nat) (s : State) : Out := .next (leaseExpire f s)

/-! ## Received CAN frames (R181, R182) -/

/-- An acceptance entry matches a record. -/
def canMatches (e : CanAccept) (r : CanRecord) : Bool :=
  (r.ident &&& e.mask) == (e.ident &&& e.mask) && e.format == r.format % 4

/-- A far access response in the data field of a CAN frame (Table 9-4). -/
def canFar (d : Bytes) : FarResp :=
  { op := leAt d 0 1, tag := leAt d 1 1, status := leAt d 2 1, len := leAt d 3 1, data := (d.drop 8).take (leAt d 3 1) }

/-- The record's 16 B header and data as the device carries them (R294), with the receive stamp. -/
def canBytes (r : CanRecord) (stamp : Word) : Bytes :=
  leBytes 4 r.ident.toNat ++ leBytes 1 r.format ++ leBytes 1 r.vcid ++ leBytes 2 r.data.length ++ leBytes 4 r.accept.toNat
    ++ leBytes 4 stamp.toNat ++ r.data

/-- What a CAN frame leaves for a tenant's queue: a CAN port gives no WYT stamp (R54). -/
def canItem (s : State) (p i : Nat) (r : CanRecord) (q : Nat) : RxItem :=
  { queue := q, held := none, ingress := p, cls := 0, css := false, index := i, trt := stampNs s
    wyt := 0, pan := 0, epoch := s.tms.trtEpoch, data := canBytes r (stampNs s)
    len := 16 + r.data.length }

/-- CAN_FRAME_RECEIVE (R182): the first matching entry decides; none is counted in can_filter_rejects; too long a record is
OVERSIZE (R183). A frame in which the controller detects an error is counted and not received; one in a format beyond the
port's mode is a form error (Table 7-5; DEDUCED, log). A frame for the Far Window is taken as the response of the target it names. -/
def canReceive (p : Nat) (r : CanRecord) (phy : List PhyCount) (s : State) : State :=
  if portKind p ≠ .can ∨ ¬ linkIsUp s p then s
  else
    let x := canOf s (p - 80)
    let s := countPhy s p phy
    if phy.any (phyCounts s p) then s
    else if !canFormatOk x r.format then countPhy s p [.canForm]
    else if canData x < r.data.length then
      countPort (discard s { port := p, reason := 10, ingress := p, tenant := 0, len := 16 + r.data.length }) p 10 1
    else
      let s := countPort (countPort s p 4 1) p 5 r.data.length
      match (x.accept.filterMap fun e => e.2.map fun a => (e.1, a)).find? fun e => canMatches e.2 r with
      | none => countPort s p 39 1
      | some (i, e) =>
        match e.dest with
        | .discard => s
        | .steer k => steerTo s k p fun q => canItem s p i r q
        | .farWindow =>
          match s.far.targets.find? fun t => t.2.cfg.any fun c => c.port == p && c.canResp == r.ident with
          | some t => responseReceive t.1 (canFar r.data) (countSent s 97 (16 + r.data.length) false)
          | none => s

/-- See `canReceive`. -/
def execCanFrameReceive (port : Nat) (x : CanArrival) (s : State) : Out := .next (canReceive port x.record x.phy s)

end Sys2Proof.Machine
end

