-- ==== Sys2Proof/Machine/IslandOps.lean ====
section
/-! DEFINITION. Safety island: channels, axes, inputs, outputs, the axis state machine, safe states and the mirror
(R244 to R280). -/

namespace Sys2Proof.Machine

/-! ## Channels and axes -/

/-- A channel of the island. -/
def chanOf (s : State) : Chan → Channel
  | .sfp => s.isl.sfp
  | .sla => s.isl.sla

/-- A channel written. -/
def putChan (s : State) (ch : Chan) (c : Channel) : State :=
  match ch with
  | .sfp => { s with isl := { s.isl with sfp := c } }
  | .sla => { s with isl := { s.isl with sla := c } }

/-- The other channel. -/
def otherChan : Chan → Chan
  | .sfp => .sla
  | .sla => .sfp

/-- Axis `k` as a channel keeps it. -/
def axisOf (s : State) (ch : Chan) (k : Nat) : Axis := tget {} (chanOf s ch).axes k

/-- An axis written. -/
def putAxis (s : State) (ch : Chan) (k : Nat) (a : Axis) : State :=
  putChan s ch { chanOf s ch with axes := tset {} (chanOf s ch).axes k a }

/-- The island's processors run: loaded and not in Recovery (R327, R329). -/
def islandRuns (s : State) : Bool :=
  s.otp.island && (s.fw.phase == .loaded || s.fw.phase == .ready || s.fw.phase == .paused)

/-- A channel runs: the SFP does not while it restarts (R322). -/
def chanRuns (s : State) (ch : Chan) : Bool := islandRuns s && (ch == .sla || s.isl.sfpRestart.isNone)

/-- The channel record of axis `k`, where it is enabled. -/
def chanPar (s : State) (k : Nat) : Option ChanPar :=
  (s.isl.par.bind fun p => p.chans[k]?).filter ChanPar.enabled

/-- The function block of axis `k`. -/
def funcPar (s : State) (k : Nat) : Option FuncPar := s.isl.par.bind fun p => p.funcs[k]?

/-- The output record of output `n`. -/
def outPar (s : State) (n : Nat) : Option OutPar := s.isl.par.bind fun p => p.outs[n]?

/-- The input record of input `i`. -/
def inPar (s : State) (i : Nat) : Option InPar := s.isl.par.bind fun p => p.ins[i]?

/-- The enabled axes. -/
def enabledAxes (s : State) : List Nat := (List.range 64).filter fun k => (chanPar s k).isSome

/-- The axes that gate output `n` (Table 10-6). -/
def gatingAxes (s : State) (n : Nat) : List Nat :=
  (List.range 64).filter fun k => (chanPar s k).any fun p => bitAt p.outputs n

/-- P × (m + 1) of an axis in ns (R249, R251). -/
def stalenessNs (s : State) (k : Nat) : Nat :=
  match s.isl.par with
  | none => 0
  | some p => (match chanPar s k with | some c => if c.period = 0 then p.period else c.period | none => p.period)
      * (p.miss + 1) * 1000000

/-- The code of a channel state (Table 11-4). -/
def AxState.code : AxState → Nat
  | .disabled => 0 | .safe => 1 | .guardOpenWait => 2 | .guardCloseWait => 3 | .locked => 4 | .released => 5 | .closing => 6

/-! ## Inputs (R255, R258) -/

/-- The value an input of a use reads while it has a fault (Table 10-11). -/
def safeValue (use : Nat) : Bool := use == 3 || use == 4

/-- A channel's half of an input after debounce; the B half of an antivalent pair is inverted. -/
def halfValue (s : State) (ch : Chan) (i : Nat) : Bool :=
  let v := (tget {} (chanOf s ch).inputs i).value
  if ch = .sla ∧ (inPar s i).any InPar.antivalent then !v else v

/-- The 16 filtered inputs of a channel (R245). -/
def inputVector (s : State) (ch : Chan) : BitVec 16 :=
  (List.range 16).foldl (fun v i => setBit v i (halfValue s ch i)) 0

/-- The pair value of input `i` as a channel sees it: while the halves differ, or the input has a latched fault, its safe value
(R255; DESIGN CHOICE, log, before the discrepancy time has passed). -/
def pairValue (s : State) (ch : Chan) (i : Nat) : Bool :=
  let sv := safeValue (match inPar s i with | some p => p.use | none => 0)
  match (chanOf s ch).received with
  | none => sv
  | some v => if bitAt s.isl.inFault i || bitAt v.ins i != halfValue s ch i then sv else halfValue s ch i

/-- A named input of an axis; none where it names none. -/
def namedInput (s : State) (ch : Chan) (i : Nat) : Option Bool := if i < 16 then some (pairValue s ch i) else none

/-! ## What an axis reports -/

/-- A status bit of the newest telegram since the channel reset. -/
def telBit (a : Axis) (b : Nat) : Bool := a.heard && a.newest.any fun t => bitAt t.status b

/-- The guard of an axis (R273); none before a telegram, or a first vector with the other half of its input, has told it. -/
def movementGuardOf (s : State) (ch : Chan) (k : Nat) : Option Bool :=
  match (chanPar s k).bind fun p => namedInput s ch p.guardIn with
  | some g => if (chanOf s ch).received.isSome then some g else none
  | none => if (axisOf s ch k).heard then some (telBit (axisOf s ch k) 0) else none

/-- Local release L of an axis; 0 where it names no input (DESIGN CHOICE, log). -/
def localOf (s : State) (ch : Chan) (k : Nat) : Bool :=
  ((chanPar s k).bind fun p => namedInput s ch p.localIn).getD false

/-- emergency_handle of the newest telegram (R274). -/
def handleOf (s : State) (ch : Chan) (k : Nat) : Bool := telBit (axisOf s ch k) 6

/-- The emergency stop input of an axis is active (R274). -/
def stopOf (s : State) (ch : Chan) (k : Nat) : Bool := ((funcPar s k).bind fun f => namedInput s ch f.stopIn).getD false

/-- An axis is isolated: by its input, or by its telegrams (R274). -/
def isolatedOf (s : State) (ch : Chan) (k : Nat) : Bool :=
  ((funcPar s k).bind fun f => namedInput s ch f.isoIn).getD false || telBit (axisOf s ch k) 7

/-- An axis is eligible for release (R276). -/
def eligible (s : State) (ch : Chan) (k : Nat) : Bool :=
  let st := (axisOf s ch k).state
  (st == .locked || st == .released || st == .closing) && !isolatedOf s ch k && !handleOf s ch k

/-- An axis is released by output `n`: S for it and L are both 1 (R277). -/
def releasedBy (s : State) (ch : Chan) (k n : Nat) : Bool :=
  eligible s ch k && localOf s ch k && !stopOf s ch k && bitAt (chanOf s ch).grants n
    && ((chanPar s k).any fun p => bitAt p.outputs n) && ((outPar s n).any fun o => o.kind == 2)

/-- An axis is released (R277). -/
def released (s : State) (ch : Chan) (k : Nat) : Bool := (List.range 8).any fun n => releasedBy s ch k n

/-- motor_enable and release_enable of a channel's drive command (Table 11-4, R274). -/
def enablesOf (s : State) (ch : Chan) (k : Nat) : Bool × Bool :=
  let a := axisOf s ch k
  let emergency := handleOf s ch k || stopOf s ch k
  let motor := match a.state with
    | .guardOpenWait => a.testAt.isSome
    | .guardCloseWait | .locked | .released | .closing => true
    | _ => false
  (motor && !emergency && !s.isl.deviceSafe,
   a.state == .released && !isolatedOf s ch k && !emergency && !s.isl.deviceSafe)

/-- The speed_limit a drive command carries (Table 11-4). -/
def speedLimit (s : State) (ch : Chan) (k : Nat) : Int :=
  match funcPar s k with
  | none => 0
  | some f =>
    match (axisOf s ch k).state with
    | .guardOpenWait | .guardCloseWait => f.slsCreep
    | .locked | .closing => f.slsClose
    | .released => f.slsOpen
    | _ => 0

/-- An axis reports closed_locked for DOORS_LOCKED (R253, R272). -/
def reportsLocked (s : State) (ch : Chan) (k : Nat) : Bool :=
  let a := axisOf s ch k
  (a.state == .locked || a.state == .released || a.state == .closing) && telBit a 0

/-! ## Outputs (R253, R254) -/

/-- An output's kind permits its half (Table 10-4). An output that no enabled axis gates is not energised, GENERIC apart
(DESIGN CHOICE, log). -/
def kindPermits (s : State) (ch : Chan) (n : Nat) (o : OutPar) : Bool :=
  let ks := gatingAxes s n
  let noneSafe := ks.all fun k => (axisOf s ch k).state != .safe && (axisOf s ch k).state != .disabled
  let motor := noneSafe && ks.all fun k => (enablesOf s ch k).1
  match o.kind with
  | 1 => motor && !ks.isEmpty
  | 2 => motor && ks.any fun k => releasedBy s ch k n
  | 3 => !ks.isEmpty && ks.all fun k => reportsLocked s ch k
  | 4 => noneSafe && (setOf o.gates).all fun i => pairValue s ch i && !bitAt s.isl.inFault i
  | _ => false

/-- VDDIO_A, a rail of group 2, is lost (R253, R373). -/
def ioLost (s : State) : Bool := (tget none s.pwc.pgLow 2).isSome

/-- A channel wants its half of output `n` high (R253, R322). -/
def wantHigh (s : State) (ch : Chan) (n : Nat) : Bool :=
  chanRuns s ch && !ioLost s && !s.isl.deviceSafe && s.isl.sfpRestart.isNone && !bitAt s.isl.outFault n
    && (outPar s n).any fun o => kindPermits s ch n o

/-- A channel's halves after an evaluation: a dark pulse holds a half low, and is abandoned where the half is wanted low. -/
def driveHalf (s : State) (ch : Chan) (n : Nat) : State :=
  let c := chanOf s ch
  let want := wantHigh s ch n
  let was := bitAt c.halves n || bitAt c.dark n
  putChan s ch { c with
    dark := setBit c.dark n (bitAt c.dark n && want)
    halves := setBit c.halves n (want && !bitAt c.dark n)
    changed := if want = was then c.changed else tset 0 c.changed n s.mono }

/-- S for output `n` is 1 while L of a gating, eligible axis is 0 (R278). -/
def handDisagrees (s : State) (ch : Chan) (n : Nat) : Bool :=
  bitAt (chanOf s ch).grants n && !bitAt s.isl.outFault n && ((outPar s n).any fun o => o.kind == 2)
    && (gatingAxes s n).any fun k => eligible s ch k && !localOf s ch k

/-- The start of a disagreement of output `n` kept, or dropped where there is none. -/
def handTimer (s : State) (ch : Chan) (n : Nat) : State :=
  let c := chanOf s ch
  let t := if handDisagrees s ch n then some ((tget none c.handSince n).getD s.mono) else none
  putChan s ch { c with handSince := tset none c.handSince n t }

/-- A channel's outputs and disagreement timers follow its state. -/
def settle (s : State) (ch : Chan) : State :=
  (List.range 8).foldl (fun s n => handTimer (driveHalf s ch n) ch n) s

/-- Both channels' outputs follow. -/
def settleBoth (s : State) : State := settle (settle s .sfp) .sla

/-- S cleared for the outputs of a mask. -/
def clearGrants (s : State) (ch : Chan) (m : BitVec 8) : State :=
  putChan s ch { chanOf s ch with grants := (chanOf s ch).grants &&& ~~~m }

/-- An output fault latched with its reason, both halves low, and an OUTPUT_FAULT windrow (R254, R278). -/
def outputFault (s : State) (n reason chan : Nat) : State :=
  if bitAt s.isl.outFault n then s
  else
    let s := { s with isl := { s.isl with outFault := setBit s.isl.outFault n true, outReason := tset 0 s.isl.outReason n reason } }
    settleBoth (report s 0xA003 (leBytes 1 n ++ leBytes 1 reason ++ leBytes 1 chan))

/-! ## Safe states (R260) -/

/-- An axis enters its safe state in a channel (R260, Table 11-5): the reason, a function code, and an AXIS_SAFE windrow. While it
is SAFE only a device safe state replaces its reason. -/
def axisSafe (s : State) (ch : Chan) (k reason func : Nat) : State :=
  let a := axisOf s ch k
  match a.state with
  | .disabled => s
  | .safe => putAxis s ch k { a with
      reason := if reason = 5 then 5 else a.reason, reasonAt := if reason = 5 then s.mono else a.reasonAt, pairsSince := none }
  | st =>
    let a' := { a with
      state := .safe, reason := reason, ceiling := none, allow := none, testAt := none, pairsSince := none
      func := if func = 0 then a.func else func, funcState := if func = 0 then a.funcState else st.code
      reasonAt := s.mono, funcAt := if func = 0 then a.funcAt else s.mono }
    let seq := match a.newest with | some t => t.seq.toNat | none => 0
    settle (report (putAxis s ch k a') 0xA002
      (leBytes 1 k ++ leBytes 1 reason ++ leBytes 1 func ++ leBytes 1 st.code ++ leBytes 4 seq)) ch

/-- The device's safe state (R260, Table 10-7): the cause latched, every axis safe, every half low, a DEVICE_SAFE windrow. -/
def deviceSafe (s : State) (cause : Nat) : State :=
  if !s.otp.island || (bitAt s.isl.fault cause && s.isl.deviceSafe) then s
  else
    let s := { s with isl := { s.isl with fault := setBit s.isl.fault cause true, deviceSafe := true, ready := false } }
    let s := report s 0xA001 (leBytes 4 s.isl.fault.toNat ++ leBytes 4 s.isl.sfp.cycle.toNat)
    settleBoth ((enabledAxes s).foldl (fun s k => axisSafe (axisSafe s .sfp k 5 0) .sla k 5 0) s)

/-- A channel reset of an axis (R275): S of its outputs, streaks and speed history cleared, GUARD_OPEN_WAIT, with its test where
auto_test is set; a CHANNEL_RESET windrow by the SFP. While the device is in its safe state the axis stays SAFE. -/
def axisReset (s : State) (ch : Chan) (k cause : Nat) : State :=
  match chanPar s k, funcPar s k with
  | some p, some f =>
    let a := axisOf s ch k
    let s := clearGrants s ch p.outputs
    let b : Axis :=
      { state := if s.isl.deviceSafe then .safe else .guardOpenWait, reason := if s.isl.deviceSafe then 5 else a.reason
        func := a.func, funcState := a.funcState, handover := if cause = 1 then 0 else a.handover, newest := a.newest
        singles := a.singles, mismatches := a.mismatches, rejects := a.rejects, cmdSeq := a.cmdSeq, cmdAt := a.cmdAt
        testAt := if f.autoTest && !s.isl.deviceSafe then some s.mono else none
        deadline := trtNs s + stalenessNs s k, reasonAt := a.reasonAt, funcAt := a.funcAt }
    let s := putAxis s ch k b
    if ch = .sfp then report s 0xA004 (leBytes 1 k ++ leBytes 1 cause) else s
  | _, _ => s

/-- Every enabled axis begins as after a channel reset in both channels (R261, R275). -/
def axesBegin (s : State) (cause : Nat) : State :=
  settleBoth ((enabledAxes s).foldl (fun s k => axisReset (axisReset s .sfp k cause) .sla k cause) s)

/-- The island may leave its safe state: no cause is latched, both channels are up with a parameter set, SEAL agrees and there is
time service (R256, R259, R261). -/
def canLeave (s : State) : Bool :=
  s.isl.fault == 0 && s.isl.sfp.ok && s.isl.sla.ok && s.isl.sfpRestart.isNone && s.tms.tsValid
    && s.isl.par.any fun p => s.isl.sfp.seals == p.seals && s.isl.sla.seals == p.seals

/-- The island leaves its safe state where it may, and else stays in it or goes back to it (R256); the axes begin in any case. -/
def leaveSafe (s : State) (cause : Nat) : State :=
  let may := canLeave s
  axesBegin { s with isl := { s.isl with deviceSafe := !may, ready := may } } cause

/-! ## The channel state machine (R273, Table 11-5) -/

/-- One more of a saturating counter of an axis. -/
def bumpAxis (t : Table Nat) (k : Nat) : Table Nat := tmod 0 t k fun n => sat32 (n + 1)

/-- An axis enters LOCKED from CLOSING: a door cycle is counted by the SFP if CLOSING was entered from RELEASED (R279). -/
def countCycle (s : State) (ch : Chan) (a : Axis) (k : Nat) : State :=
  if ch = .sfp ∧ a.fromReleased then
    { s with isl := { s.isl with cycles := bumpAxis s.isl.cycles k, since := tmod 0 s.isl.since k (· + 1) } }
  else s

/-- The rows of Table 11-5 that the guard and the emergency handle drive; GUARD_OPEN_WAIT is left at the first accepted telegram
at the earliest (R273). -/
def guardMove (s : State) (ch : Chan) (k : Nat) : State :=
  let a := axisOf s ch k
  let g := movementGuardOf s ch k
  let handle := handleOf s ch k
  match a.state with
  | .guardOpenWait => if a.heard ∧ g = some false then putAxis s ch k { a with state := .guardCloseWait } else s
  | .guardCloseWait =>
    if g = some true then putAxis s ch k { a with state := .locked, testAt := none, ceiling := none } else s
  | .locked =>
    if released s ch k then s
    else if g = some false ∧ !handle then axisSafe s ch k 4 8
    else if handle then putAxis s ch k { a with state := .closing, allow := none, fromReleased := false }
    else s
  | .closing =>
    if g = some true ∧ !handle then
      putAxis (countCycle s ch a k) ch k { a with state := .locked, allow := none, fromReleased := false }
    else s
  | _ => s

/-- The rows of Table 11-5 that the release drives. -/
def releaseMove (s : State) (ch : Chan) (k : Nat) : State :=
  let a := axisOf s ch k
  match a.state with
  | .locked | .closing => if released s ch k then putAxis s ch k { a with state := .released, allow := none } else s
  | .released =>
    if released s ch k then s else putAxis s ch k { a with state := .closing, allow := none, fromReleased := true }
  | _ => s

/-- Both for every enabled axis, then the outputs. -/
def moveAxes (s : State) (ch : Chan) : State :=
  settle ((enabledAxes s).foldl (fun s k => releaseMove (guardMove s ch k) ch k) s) ch

/-- The release rows for every enabled axis, then the outputs: after S has been cleared (R273, R275). -/
def releaseAll (s : State) (ch : Chan) : State :=
  settle ((enabledAxes s).foldl (fun s k => releaseMove s ch k) s) ch

/-- The release rows for the axes of output `n`, then the outputs. -/
def moveRelease (s : State) (ch : Chan) (n : Nat) : State :=
  settle ((gatingAxes s n).foldl (fun s k => releaseMove s ch k) s) ch

/-! ## Synchronous release (R106, R276, R277) -/

/-- A channel grants a request for output `n` (R276). -/
def chanGrants (s : State) (ch : Chan) (n : Nat) : Bool :=
  chanRuns s ch && !s.isl.deviceSafe && !bitAt s.isl.outFault n && ((outPar s n).any fun o => o.kind == 2)
    && (gatingAxes s n).all (fun k => !stopOf s ch k) && (gatingAxes s n).any fun k => eligible s ch k

/-- A withdraw: both channels always act on it (R106). -/
def releaseWithdraw (s : State) (n : Nat) : State :=
  let m := BitVec.twoPow 8 n
  let s := clearGrants (clearGrants s .sfp m) .sla m
  moveRelease (moveRelease s .sfp n) .sla n

/-- A grant: with both channels' leave S is set in both; else SAFETY_VETO and neither output is raised (R106). -/
def releaseGrant (s : State) (n : Nat) : Option State :=
  if chanGrants s .sfp n ∧ chanGrants s .sla n then
    let set := fun (s : State) (ch : Chan) => putChan s ch { chanOf s ch with grants := setBit (chanOf s ch).grants n true }
    let s := set (set s .sfp) .sla
    some (moveRelease (moveRelease s .sfp n) .sla n)
  else none

/-! ## Counters (R279) -/

/-- The number of the first COUNTER windrow of this tick, `first` without one (R348, R351). -/
def counterFirst (s : State) (first : Nat) : Nat :=
  match (s.evr.staging.filter fun w => w.code == 5 && w.at_ == s.mono && !w.written).getLast? with
  | some w => w.num
  | none => first

/-- All door counters written as counter windrows; a set of which none is lost is the newest complete one (R348). -/
def writeCounters (s : State) : State :=
  let first := s.evr.next
  let lost := s.evr.lost
  let s := (enabledAxes s).foldl (fun s k =>
    report s 0x0005 (leBytes 1 k ++ leBytes 4 (tget 0 s.isl.cycles k) ++ leBytes 4 (tget 0 s.isl.reversals k))) s
  { s with
    isl := { s.isl with since := [], counterAt := s.mono }
    evr := { s.evr with header := { s.evr.header with
      counterSet := if s.evr.lost = lost then counterFirst s first else s.evr.header.counterSet } } }

/-! ## The mirror (R262, R280) -/

/-- The mirror words of one axis (Tables 10-8 and 11-6); the last reason and function code are those recorded last in either
channel (R270). -/
def axisMirror (s : State) (k : Nat) : List (Nat × Word) :=
  let a := axisOf s .sfp k
  let b := axisOf s .sla k
  let mm := fun (v : Int) => (Int.tdiv v 1000).emod 65536
  let emergency := handleOf s .sfp k || stopOf s .sfp k || isolatedOf s .sfp k
  let why := if a.reasonAt < b.reasonAt then b else a
  let last := if a.funcAt < b.funcAt then b else a
  let pos := match a.newest with
    | some t => (mm t.posA).toNat * 65536 + (mm t.posB).toNat
    | none => 0
  [(0x100 + k * 16, word (a.state.code * 2 ^ 28 + b.state.code * 2 ^ 24 + why.reason * 65536 + min 255 a.streak * 256)),
   (0x104 + k * 16, match a.newest with | some t => t.seq | none => 0),
   (0x108 + k * 16, word (a.mismatches * 65536 + a.rejects)),
   (0x10C + k * 16, a.singles),
   (0x800 + k * 16, word (last.func * 2 ^ 24 + last.funcState * 65536 + (a.handover &&& s.isl.outFault).toNat * 256
      + b2n emergency)),
   (0x804 + k * 16, word (tget 0 s.isl.cycles k)),
   (0x808 + k * 16, word (tget 0 s.isl.reversals k)),
   (0x80C + k * 16, word pos)]

/-- SI_STATUS (Table 10-9). -/
def siStatus (s : State) : Nat :=
  let en := enabledAxes s
  let safe := (en.filter fun k => (axisOf s .sfp k).state == .safe).length
  let seals := s.isl.par.any fun p => s.isl.sfp.seals == p.seals && s.isl.sla.seals == p.seals
  safe * 2 ^ 24 + en.length * 65536 + b2n s.isl.vsafeOk * 64 + b2n s.isl.sla.ok * 32 + b2n s.isl.sfp.ok * 16
    + b2n s.isl.paramValid * 8 + b2n seals * 4 + b2n s.isl.deviceSafe * 2 + b2n s.isl.ready

/-- The mirror as the SFP writes it at the end of its cycle (R262). -/
def writeMirror (s : State) : State :=
  let p := s.isl.par
  let raw := fun (ch : Chan) =>
    (List.range 16).foldl (fun n i => n + b2n (tget {} (chanOf s ch).inputs i).value * 2 ^ i) 0
  let top : List (Nat × Word) :=
    [(0, word (siStatus s)), (4, s.isl.fault),
     (8, match p with | some p => p.ident | none => 0), (12, match p with | some p => p.crc | none => 0),
     (16, word ((match p with | some p => p.seals.toNat * 256 | none => 0) + s.isl.sfp.seals.toNat)),
     (20, word (s.isl.outFault.toNat * 2 ^ 24 + s.isl.sfp.feedback.toNat * 65536 + s.isl.sla.halves.toNat * 256
        + s.isl.sfp.halves.toNat)),
     (24, word (raw .sla * 65536 + raw .sfp)), (28, word s.isl.inFault.toNat), (32, s.isl.sfp.cycle),
     (36, word (s.isl.vsafe * 65536 + (s.isl.tj.emod 65536).toNat))]
  let axes := ((List.range 64).map fun k => (axisMirror s k).take 4).flatten
    ++ ((List.range 64).map fun k => (axisMirror s k).drop 4).flatten
  { s with isl := { s.isl with mirror := (top ++ axes).filter fun e => e.2 != 0 } }

/-! ## The parameter set (R257, R258, R266) -/

/-- A channel record of an image (Table 10-6). -/
def parChan (b : Bytes) (k : Nat) : ChanPar :=
  let o := 72 + 16 * k
  { enabled := leAt b o 1 % 2 == 1, segPair := leAt b (o + 1) 1, period := leAt b (o + 2) 1, tag := word (leAt b (o + 4) 4)
    outputs := BitVec.ofNat 8 (leAt b (o + 8) 1), localIn := leAt b (o + 9) 1, guardIn := leAt b (o + 10) 1 }

/-- An output record (Table 10-5). -/
def parOut (b : Bytes) (n : Nat) : OutPar :=
  let o := 1096 + 16 * n
  { kind := leAt b o 1, tDark := leAt b (o + 1) 1 * 10, interval := leAt b (o + 2) 2, settle := leAt b (o + 4) 2
    gates := BitVec.ofNat 16 (leAt b (o + 6) 2) }

/-- An input record (Table 10-5). -/
def parIn (b : Bytes) (i : Nat) : InPar :=
  let o := 1224 + 8 * i
  { antivalent := leAt b o 1 == 1, debounce := leAt b (o + 1) 1, discrepancy := leAt b (o + 2) 2, use := leAt b (o + 4) 1 }

/-- A function block (Table 11-1). -/
def parFunc (b : Bytes) (k : Nat) : FuncPar :=
  let o := 1352 + 64 * k
  let w := fun i n => (leAt b (o + i) n : Int)
  { travel := w 0 4, closedZone := w 4 4, slpMargin := w 8 4, posTol := w 12 4, reversal := w 16 4, testTravel := w 20 4
    slsOpen := w 24 2, slsClose := w 26 2, slsCreep := w 28 2, speedTol := w 30 2, sdiTol := w 32 2, xcheck := leAt b (o + 34) 1
    autoTest := leAt b (o + 35) 1 % 2 == 1, autoRecover := leAt b (o + 35) 1 / 2 % 2 == 1, stopIn := leAt b (o + 36) 1
    isoIn := leAt b (o + 37) 1 }

/-- The fields of a function block are in the ranges of Table 11-1. -/
def functionOk (f : FuncPar) : Bool :=
  decide (100000 ≤ f.travel ∧ f.travel ≤ 2000000 ∧ 1000 ≤ f.closedZone ∧ f.closedZone ≤ 50000
    ∧ f.slpMargin ≤ 50000 ∧ 500 ≤ f.posTol ∧ f.posTol ≤ 50000 ∧ f.reversal ≤ 500000
    ∧ 5000 ≤ f.testTravel ∧ f.testTravel ≤ 100000 ∧ 100 ≤ f.slsOpen ∧ f.slsOpen ≤ 20000)
  && decide (100 ≤ f.slsClose ∧ f.slsClose ≤ 20000 ∧ 50 ≤ f.slsCreep ∧ f.slsCreep ≤ 1000
    ∧ 50 ≤ f.speedTol ∧ f.speedTol ≤ 2000 ∧ 10 ≤ f.sdiTol ∧ f.sdiTol ≤ 500 ∧ 1 ≤ f.xcheck ∧ f.xcheck ≤ 4)

/-- An input is named in a role: 0xFF, or an input of that use (R258). -/
def roleOk (ins : List InPar) (i use : Nat) : Bool := i == 255 || (ins[i]?).any fun p => p.use == use

/-- The image as its records give it. -/
def parOf (b : Bytes) : SafetyPar :=
  { ident := word (leAt b 8 4), crc := word (leAt b 5448 4), seals := BitVec.ofNat 8 (leAt b 16 1), period := leAt b 17 1
    miss := leAt b 18 1, singleLimit := leAt b 19 1, window := leAt b 20 1, seed := word (leAt b 24 4)
    chans := (List.range 64).map (parChan b), outs := (List.range 8).map (parOut b), ins := (List.range 16).map (parIn b)
    funcs := (List.range 64).map (parFunc b) }

/-- The checks of the fields of a parameter set (Table 10-5, R252, R258, R266): every record is checked, whether in use or not. -/
def parFieldsOk (p : SafetyPar) : Bool :=
  decide (1 ≤ p.period ∧ p.period ≤ 10 ∧ 1 ≤ p.miss ∧ p.miss ≤ 7 ∧ 1 ≤ p.singleLimit ∧ p.singleLimit ≤ 7
    ∧ 1 ≤ p.window ∧ p.window ≤ 20 ∧ p.window < p.period * (p.miss + 1) ∧ p.period * (p.miss + 1) ≤ 40 ∧ p.ident ≠ 0)
  && (p.chans.zip p.funcs).all (fun e =>
    let q := if e.1.period = 0 then p.period else e.1.period
    decide (e.1.segPair ≤ 31 ∧ q * (p.miss + 1) ≤ 40 ∧ p.window < q * (p.miss + 1))
      && roleOk p.ins e.1.localIn 1 && roleOk p.ins e.1.guardIn 2 && functionOk e.2
      && roleOk p.ins e.2.stopIn 3 && roleOk p.ins e.2.isoIn 4)
  && p.outs.all (fun o => decide (o.kind ≤ 4 ∧ 100 ≤ o.tDark ∧ o.tDark ≤ 1000 ∧ 1 ≤ o.interval
      ∧ o.interval ≤ 3600 ∧ 100 ≤ o.settle ∧ o.settle ≤ 5000)
    && (o.gates == 0 || (o.kind == 4 && (setOf o.gates).all fun i => (p.ins[i]?).any fun x => x.use == 5)))
  && p.ins.all (fun i => decide (i.use ≤ 5 ∧ 1 ≤ i.debounce ∧ i.debounce ≤ 20 ∧ 5 ≤ i.discrepancy ∧ i.discrepancy ≤ 500))

/-- The fields and bits that Tables 10-5, 10-6 and 11-1 give as zero are zero, and each input's mode is one of the two. -/
def parZeros (b : Bytes) : Bool :=
  leAt b 6 2 == 0 && leAt b 21 3 == 0
  && (List.range 64).all (fun k =>
    decide (leAt b (72 + 16 * k) 1 < 2) && leAt b (75 + 16 * k) 1 == 0 && leAt b (83 + 16 * k) 5 == 0
      && decide (leAt b (1387 + 64 * k) 1 < 4) && leAt b (1390 + 64 * k) 26 == 0)
  && (List.range 8).all (fun n => leAt b (1104 + 16 * n) 8 == 0)
  && (List.range 16).all fun i => decide (leAt b (1224 + 8 * i) 1 < 2) && leAt b (1229 + 8 * i) 3 == 0

/-- An image passes every check of R257: form, fields, body_crc and the signature of a key for safety parameters. -/
def parCheck (s : State) (b : Bytes) : Option SafetyPar :=
  if b.length = 5517 ∧ leAt b 0 4 = 0x53504152 ∧ leAt b 4 2 = 1 ∧ leAt b 12 4 = 5517 ∧ parFieldsOk (parOf b) ∧ parZeros b
      ∧ crcSafety 0 (b.take 5448) = word (leAt b 5448 4) ∧ manifestSigned s b 1 then some (parOf b)
  else none

/-- The channels restart: of their axes only which latched HANDOVER faults they caused is kept (Table 11-6), of their inputs the
balls; with a parameter set its enabled axes are SAFE, the others DISABLED. -/
def chansRestart (s : State) (par : Option SafetyPar) : State :=
  let axes := fun (ch : Chan) => (match par with
    | none => []
    | some p => ((List.range 64).zip p.chans).filterMap fun e =>
        if e.2.enabled then some (e.1, { state := .safe, reason := 5, handover := (axisOf s ch e.1).handover }) else none : Table Axis)
  { s with isl := { s.isl with
      par := par, paramValid := par.isSome
      sfp := { ok := s.isl.sfp.ok, axes := axes .sfp, seals := s.isl.sfp.seals, inputs := s.isl.sfp.inputs,
               cycle := s.isl.sfp.cycle, cycleAt := s.isl.sfp.cycleAt }
      sla := { ok := s.isl.sla.ok, axes := axes .sla, seals := s.isl.sla.seals, inputs := s.isl.sla.inputs,
               cycle := s.isl.sla.cycle, cycleAt := s.isl.sla.cycleAt } } }

/-- Every enabled axis is SAFE in both channels (R259, R322). -/
def allSafe (s : State) : Bool :=
  (enabledAxes s).all fun k => (axisOf s .sfp k).state == .safe && (axisOf s .sla k).state == .safe

end Sys2Proof.Machine
end

