-- ==== Sys2Proof/Machine/EvrOps.lean ====
section
/-! DEFINITION. Event Recorder: windrow bytes, the ring, bursts, losses, the flush and the counter area (R346 to R360). -/

namespace Sys2Proof.Machine

/-! ## Windrows as bytes (R349, R350) -/

/-- N, the ring slots of a memory of `mib` MiB (R347). -/
def ringSlots (mib : Nat) : Nat := (mib * 1048576 - 65536) / 32

/-- N of the memory fitted. -/
def evrSlots (s : State) : Nat := ringSlots s.evr.header.sizeMiB

/-- The lap byte of record number `f` on `n` slots (Table 15-2). -/
def lapByte (n f : Nat) : BitVec 8 := BitVec.ofNat 8 (f / n % 255 + 1)

/-- The 32 bytes of a windrow (Table 15-2). -/
def windrowBytes (n : Nat) (w : Windrow) : Bytes :=
  let b := leBytes 4 w.num ++ leBytes 6 w.sec ++ leBytes 4 (w.ns + b2n w.timeValid * 2 ^ 30) ++ [w.epoch]
    ++ leBytes 1 (w.cls * 64) ++ leBytes 2 w.code ++ leBytes 2 w.repeats ++ bytesAt w.data 0 10
  b ++ [crc8 b, lapByte n w.num]

/-- The record number a seq names, against the newest record number `head` (R350). -/
def resolveSeq (head : Nat) (seq : Word) : Int := (head : Int) - ((word head - seq).toNat : Int)

/-- The bytes of a slot hold the windrow of record number `f` (R350). -/
def slotHolds (n f : Nat) (b : Bytes) : Bool :=
  b.length == 32 && leAt b 0 4 == f % 2 ^ 32 && b.getD 31 0 == lapByte n f && b.getD 30 0 == crc8 (b.take 30)

/-- The newest record number admitted (EVR_HEAD_SEQ). -/
def evrHead (s : State) : Nat := s.evr.next - 1

/-- The oldest record number held (R350); without a formatted memory, the oldest in staging. -/
def evrOldest (s : State) : Nat :=
  s.evr.next - if evrSlots s = 0 then s.evr.staging.length else evrSlots s

/-- The recorder writes its memory: it is ready, answers and is this device's own (R346, R348). -/
def evrWritable (s : State) : Bool :=
  s.evr.ready && !s.evr.memFault && !s.evr.unformatted && !s.evr.foreign

/-! ## Writing -/

/-- A windrow written into its slot (R350). -/
def writeWindrow (s : State) (w : Windrow) : State :=
  { s with evr := { s.evr with
      mem := tset [] s.evr.mem (w.num % evrSlots s) (windrowBytes (evrSlots s) w)
      staging := s.evr.staging.map fun x => if x.num == w.num then { x with written := true } else x
      sinceCheck := s.evr.sinceCheck + 1 } }

/-- The windrows of a list written in order. -/
def writeWindrows (s : State) (ws : List Windrow) : State := ws.foldl writeWindrow s

/-- The final windrows not yet written, oldest first. -/
def dirtyFinal (s : State) : List Windrow := (s.evr.staging.filter fun w => !w.written && w.final).reverse

/-- The first windrows of a list with consecutive record numbers, at most `n`. -/
def consecutive : Nat → List Windrow → List Windrow
  | 0, _ => []
  | _, [] => []
  | _, [w] => [w]
  | n + 1, w :: x :: r => if x.num = w.num + 1 then w :: consecutive n (x :: r) else [w]

/-- The newest record number known to be written (R348). -/
def writtenHead (s : State) : Nat :=
  match (s.evr.staging.filter fun w => !w.written).getLast? with
  | some w => w.num - 1
  | none => s.evr.next - 1

/-- Operating hours now: the header's and those since it held. -/
def hoursNow (s : State) : Nat := s.evr.header.hours + (s.mono - s.evr.hoursAt) / 3600000000000

/-- A header checkpoint written (R348). -/
def writeCheckpoint (s : State) : State :=
  let h := hoursNow s
  { s with evr := { s.evr with
      header := { s.evr.header with checkpoint := writtenHead s, hours := h }
      hoursAt := s.evr.hoursAt + (h - s.evr.header.hours) * 3600000000000
      checkpointDue := false, sinceCheck := 0, checkAt := s.mono } }

/-- One LOSS windrow with the counts, as soon as room returns (R353). -/
def tellLoss (s : State) : State :=
  if s.evr.lossNow != 0 && !evrStopped s && (stagingRoom s 1).isSome then
    newWindrow { s with evr := { s.evr with lossNow := 0, lossSafety := 0 } } 0x0001
      (leBytes 4 s.evr.lossNow ++ leBytes 4 s.evr.lossSafety)
  else s

/-- The memory does not answer, or a read-back differs (R346). -/
def evrMemFault (s : State) : State :=
  setAlarm { s with
    evr := { s.evr with memFault := true, ready := false }, host := { s.host with counterOk := false } } .evr 3

/-! ## The counter area (R357) -/

/-- The generation of a copy; 0 for one that is not valid. -/
def copyGen : Option CounterCopy → Nat
  | some c => c.gen
  | none => 0

/-- The place of the newest copy of tenant `t`. -/
def newestCopy (s : State) (t : Nat) : Nat :=
  if copyGen (tget none s.evr.area (2 * t)) < copyGen (tget none s.evr.area (2 * t + 1)) then 2 * t + 1 else 2 * t

/-- A counter and CMAC accepted: written into the copy with the older generation (R357). -/
def areaAccept (s : State) (t : Nat) (counter : BitVec 64) (cmac : Word) : State :=
  let k := newestCopy s t
  let other := 4 * t + 1 - k
  let c : CounterCopy := { counter := counter, cmac := cmac, status := 0, reason := 0, gen := copyGen (tget none s.evr.area k) + 1 }
  { s with evr := { s.evr with area := tset none s.evr.area other (some c) } }

/-- The status and reason of the last completion written into the same copy (R357). -/
def areaComplete (s : State) (t : Nat) : State :=
  let x := tenant s t
  { s with evr := { s.evr with
      counterWrites := sdel s.evr.counterWrites t
      area := tmod none s.evr.area (newestCopy s t) fun o => o.map fun c =>
        if c.counter = x.counter then { c with status := x.shortStatus, reason := x.shortReason } else c } }

/-- The counter of tenant `t` as the counter area gives it, or the floor where no copy is valid (R301, R357). -/
def counterOf (s : State) (t : Nat) (x : Tenant) : Tenant :=
  match tget none s.evr.area (newestCopy s t) with
  | some c => { x with counter := c.counter, shortCmac := c.cmac, shortStatus := c.status, shortReason := c.reason }
  | none => { x with counter := s.evr.header.floor, shortCmac := 0, shortStatus := 0, shortReason := 0 }

/-- The counters of the tenants restored: of those that have a record or a copy, or of all 256 where there is a floor. -/
def countersRestore (s : State) : State :=
  let all := if s.evr.header.floor = 0 then (s.host.tenants.map Prod.fst) ++ s.evr.area.map (fun e => e.1 / 2)
    else List.range 256
  all.foldl (fun x t => modTenant x t (counterOf s t)) s

/-! ## Bursts (R355) -/

/-- One burst that serves every kind: a counter-area write, else safety windrows, else a checkpoint, else other windrows. -/
def burstAny (s : State) : State :=
  let d := dirtyFinal s
  match s.evr.counterWrites, d.filter (·.cls == 3) with
  | t :: _, _ => areaComplete s t
  | [], w :: r => writeWindrows s (consecutive 8 (w :: r))
  | [], [] => if s.evr.checkpointDue then writeCheckpoint s else writeWindrows s (consecutive 8 d)

/-- One burst of the frame of four: the first serves only safety windrows (R24, R355; DESIGN CHOICE, log: which of the
four it is). A memory that does not answer sets mem_fault. -/
def evrBurst (s : State) (answers : Bool) : State :=
  if !evrWritable s || s.evr.flushing || s.evr.pfailDone then s
  else
    let n := s.evr.burst
    let s := { s with evr := { s.evr with burst := (n + 1) % 4 } }
    if !answers then evrMemFault s
    else if n = 0 then tellLoss (writeWindrows s (consecutive 8 ((dirtyFinal s).filter (·.cls == 3))))
    else tellLoss (burstAny s)

/-! ## The flush (R356) -/

/-- The newest windrow becomes final (R352). -/
def stagingFinal (s : State) : State :=
  { s with evr := { s.evr with staging := modAt s.evr.staging 0 fun w => { w with final := true } } }

/-- A windrow of the power-fail share: staged without the budget of the others (Table 15-4). -/
def shareWindrow (s : State) (code : Nat) (data : Bytes) : State := stageWindrow s (mkWindrow s code data) s.evr.staging

/-- The counter set, one COUNTER windrow per enabled channel (R279, R356). -/
def counterSet (s : State) : State :=
  let first := s.evr.next
  let s := (enabledAxes s).foldl (fun s k =>
    shareWindrow s 0x0005 (leBytes 1 k ++ leBytes 4 (tget 0 s.isl.cycles k) ++ leBytes 4 (tget 0 s.isl.reversals k))) s
  { s with
    isl := { s.isl with since := [], counterAt := s.mono }
    evr := { s.evr with header := { s.evr.header with counterSet := counterFirst s first } } }

/-- Step 3 of R356: the dirty safety windrows, the other dirty windrows, the counter set, POWER_FAIL and a checkpoint. -/
def flushWrite (s : State) : State :=
  let n := dirtyCount s
  let s := stagingFinal s
  let d := dirtyFinal s
  let s := writeWindrows (writeWindrows s (d.filter (·.cls == 3))) (d.filter (·.cls != 3))
  let s := stagingFinal (shareWindrow (counterSet s) 0x0004 (leBytes 2 n))
  writeCheckpoint (writeWindrows s (dirtyFinal s))

/-- The flush of R356: nothing is written after it until the next start. -/
def evrFlush (s : State) : State :=
  let s := if evrWritable s && !s.evr.pfailDone then flushWrite s else s
  { s with evr := { s.evr with pfailDone := true, pfailRose := none } }

/-! ## Reading (R360) -/

/-- The bytes of record number `f`, from staging or the memory; none where neither holds it. -/
def windrowAt (s : State) (f : Nat) : Option Bytes :=
  match s.evr.staging.find? fun w => w.num == f with
  | some w => some (windrowBytes (evrSlots s) w)
  | none =>
    let b := tget [] s.evr.mem (f % evrSlots s)
    if slotHolds (evrSlots s) f b then some b else none

/-- Windrows from record number `f` on, at most `n`: the skipped count, and the bytes, zeros for one that is invalid. -/
def windrowsFrom (s : State) : Nat → Nat → Nat × Bytes
  | _, 0 => (0, [])
  | f, n + 1 =>
    if f < s.evr.next then
      let r := windrowsFrom s (f + 1) n
      match windrowAt s f with
      | some b => (r.1, b ++ r.2)
      | none => (r.1 + 1, List.replicate 32 0 ++ r.2)
    else (0, [])

end Sys2Proof.Machine
end

