-- ==== Sys2Proof/Machine/PowerOps.lean ====
section
/-! DEFINITION. Power and Wake Controller: the device reset, the limits of the power state, keep reasons, the sleep
agreement, entry to STANDBY and the wake sequence (R331 to R342, R374, R375). -/

namespace Sys2Proof.Machine

/-! ## The device reset (R325, R374) -/

/-- What a reset leaves of the PWC: the VAON registers and balls, and the parameters kept in flash (R338, R345). -/
def pwcReset (s : State) (x : Pwc) : Pwc :=
  { x with
    phaseAt := s.mono, state := 0, permitted := 0, limiter := 0, dozeSince := none, napSince := none, stateAt := s.mono
    res := [], sleep := .awake, kaSending := false, alarm := 0, alarmEn := 0, keepers := [], graceOn := false
    lastKa := 0, sleepAt := 0, kaAt := 0, noticeAt := 0, kaSeq := 0, keepSince := none, senders := [], sleepHi := 0
    sleepNs := 0, keeperHi := 0, keeperInfo := 0, entryWaits := false, rstoutLow := true, pgLow := [] }

/-- What a reset leaves of the firmware's state: the flash (R316, R317, R325). -/
def fwReset (x : Fw) : Fw :=
  { slotA := x.slotA, slotB := x.slotB, activeB := x.activeB, trial := x.trial, failed := x.failed
    failedSlot := x.failedSlot, featureMask := x.featureMask, bootSeq := x.bootSeq, confSeq := x.confSeq
    noStrap := x.noStrap, bootCause := x.bootCause }

/-- What a reset leaves of the recorder: the memory (R347, R348, R357). -/
def evrReset (s : State) : Evr :=
  { header := s.evr.header, mem := s.evr.mem, area := s.evr.area, hoursAt := s.mono }

/-- What a reset leaves of the tenants: their keys (R301, R325). -/
def tenantsReset (t : Table Tenant) : Table Tenant :=
  tmod {} (tmap {} t fun _ x => { key := x.key }) 0 fun x => { x with state := .configured }

/-- A full reset of the device (R325, R374): everything but OTP, flash, recorder memory, VAON and balls; pins and ports
fall silent, every SFO half is low. The model's own records go on. -/
def mainReset (s : State) (phase : PowerPhase) : State :=
  { glob := { startAt := s.mono }, otp := s.otp, fw := fwReset s.fw, tau := { keys := s.tau.keys }
    host := { tenants := tenantsReset s.host.tenants }, pwc := { pwcReset s s.pwc with phase := phase }
    evr := evrReset s, wire := s.wire, mono := s.mono, draws := s.draws, pending := s.pending }

/-- The causes of the island's safe state that only a power cycle clears (Table 10-7). -/
def lastingCauses : Word := 0x00000C9F

/-- A full reset with the rails up, as PORST# and a restart give it: the island's safe state holds where its cause is one that
only a power cycle clears, and sla_clk_fault with it (R21, Table 10-7). -/
def warmReset (s : State) (phase : PowerPhase) : State :=
  let f := s.isl.fault &&& lastingCauses
  let t := mainReset s phase
  { t with
    glob := { t.glob with slaFault := s.glob.slaFault }
    isl := { t.isl with fault := f } }

/-! ## Keep reasons (Table 14-3) -/

/-- An enabled safety channel is in a state other than LOCKED or SAFE. -/
def doorsOpen (s : State) : Bool :=
  (enabledAxes s).any fun k => (axisOf s .sfp k).state != .locked && (axisOf s .sfp k).state != .safe

/-- A firmware slot is LOADING, or a schedule or safety parameter load is in progress. -/
def updating (s : State) : Bool :=
  s.fw.slotA.state == .loading || s.fw.slotB.state == .loading || !s.css.loads.isEmpty || !s.isl.loads.isEmpty

/-- This node's car holds the cab declared by INAUG_LEAD. -/
def cabHere (s : State) : Bool :=
  s.ine.lead != 0 || (s.ine.car != 0 && s.ine.nodes.any fun n => n.car == s.ine.car && n.lead)

/-- The local keep reasons that hold (Table 14-3). -/
def keepReasons (s : State) : BitVec 16 :=
  BitVec.ofNat 16 (b2n (!s.pwc.keepers.isEmpty) + 2 * b2n s.pwc.wakeSw + 4 * b2n (doorsOpen s)
    + 8 * b2n (inaugurating s) + 16 * b2n (updating s) + 32 * b2n s.pwc.graceOn + 64 * b2n (cabHere s)
    + 128 * b2n s.pwc.cfg.alwaysAwake)

/-- A local keep reason holds. -/
def keeps (s : State) : Bool := keepReasons s != 0

/-- The MGP serves: it runs, and no control-plane pause is on (Table 13-8). -/
def mgpRuns (s : State) : Bool := s.fw.phase == .ready

/-- The run of keep-alives ends with the last reason. -/
def kaSettle (s : State) : State := if keeps s then s else { s with pwc := { s.pwc with kaSending := false } }

/-! ## The power state permitted (R332, Table 14-2) -/

/-- Exit latencies of RUN, IDLE, DOZE and NAP in ns (Table 14-1). -/
def exitLatency (n : Nat) : Nat := if n = 0 then 0 else if n = 1 then 1000 else if n = 2 then 30000 else 2000000

/-- The deepest state whose exit latency is at most `ns`. -/
def deepestWithin (ns : Nat) : Nat :=
  if exitLatency 3 ≤ ns then 3 else if exitLatency 2 ≤ ns then 2 else if exitLatency 1 ≤ ns then 1 else 0

/-- The OPEN tenant with the smallest max_wake_latency, and that latency in µs; none = no limit. -/
def latencyLimit (s : State) : Option (Nat × Nat) :=
  s.host.tenants.foldl (fun m e =>
    if e.2.state != .opened || e.2.maxWake == 4294967295 then m
    else match m with
      | some (_, us) => if e.2.maxWake < us then some (e.1, e.2.maxWake) else m
      | none => some (e.1, e.2.maxWake)) none

/-- A command is fetched, executing or waiting in a ring. -/
def mgpWork (s : State) : Bool :=
  s.host.tenants.any fun e => !e.2.inflight.isEmpty || ((e.2.state == .opened || e.2.state == .configured) && bitAt e.2.ctrl 0 && e.2.cmdProd != e.2.cmdCons)

/-- ns to the next instant of an armed TAU. -/
def nextTau (s : State) : Option Nat :=
  s.tau.units.foldl (fun m e =>
    if !tauLive e.2 then m
    else
      let d := e.2.fire / 65536 - scaleNs s e.2.wyt
      match m with
      | some x => some (min x d)
      | none => some d) none

/-- The deepest state each limiter of Table 14-11 permits, by its code. -/
def powerLimits (s : State) : List Nat :=
  [s.pwc.cfg.deepest,
   match latencyLimit s with | some (_, us) => deepestWithin (us * 1000) | none => 3,
   if s.css.state == .stopped then 3 else 1,
   if s.fab.streams.isEmpty then 3 else 1,
   if inaugurating s then 1 else 3,
   if mgpWork s then 2 else 3,
   match nextTau s with | some d => if 10000 < d then deepestWithin (d - 10000) else 0 | none => 3,
   if s.glob.degraded then 0 else 3]

/-- The deepest state permitted, and the first limiter that holds it there. -/
def permitted (s : State) : Nat × Nat :=
  let l := powerLimits s
  let m := l.foldl min 3
  (m, l.findIdx (· == m))

/-- The PWC evaluates its conditions (R332, R333): a state no longer permitted is left at once, IDLE is entered at once,
DOZE and NAP after their holds. While the MGP does not run normally the state is RUN, or waits (Table 13-8). -/
def powerEval (s : State) : State :=
  let r := permitted s
  let since := fun (c : Bool) (o : Option Nat) => if c then some (o.getD s.mono) else none
  let s' := { s with pwc := { s.pwc with
      permitted := r.1, limiter := r.2
      dozeSince := since (decide (2 ≤ r.1)) s.pwc.dozeSince
      napSince := since (decide (3 ≤ r.1)) s.pwc.napSince } }
  if s.fw.phase == .paused then s'
  else if !mgpRuns s then setPower s' 0
  else if r.1 < s.pwc.state then setPower s' r.1
  else if s.pwc.state = 0 then setPower s' (min 1 r.1)
  else s'

/-- A hold has passed with its conditions: the state `n` is entered. -/
def powerHold (s : State) (n : Nat) (since : Option Nat) (hold : Nat) : State :=
  match since with
  | some t =>
    let s := powerEval (untilMono s (t + hold))
    if mgpRuns s && decide (s.pwc.state < n) && decide (n ≤ s.pwc.permitted) then setPower s n else s
  | none => s

/-! ## Keep-alives and notices (R334 to R337) -/

/-- The lowest tenant that holds POWER_KEEP, 0xFF = none. -/
def keepTenant (s : State) : Nat := match s.pwc.keepers with | t :: _ => t | [] => 255

/-- Seconds this node has kept reasons. -/
def awakeFor (s : State) : Nat :=
  match s.pwc.keepSince with
  | some t => sat32 ((s.mono - t) / 1000000000)
  | none => 0

/-- A frame of Table 14-4 with the sender's fields. -/
def kaFrame (s : State) (notice : Bool) : KeepAlive :=
  { lineB := false, sender := nodeUnit s, sec := trtNs s / 1000000000, ns := trtNs s % 1000000000
    domainEpoch := s.tms.domainEpoch, reasons := if notice then 0 else keepReasons s, car := s.ine.car
    tenant := keepTenant s, seq := s.pwc.kaSeq, awakeFor := awakeFor s
    sleepSec := if notice then s.pwc.sleepAt / 1000000000 else 0, sleepNs := if notice then s.pwc.sleepAt % 1000000000 else 0 }

/-- A frame sent on both lines and to TW0, each copy naming its line (R334, R335). -/
def kaEmit (s : State) (k : KeepAlive) (mk : KeepAlive → Sent) : State :=
  (ownLines s).foldl (fun s l =>
    emitVia s (((linePorts l) ++ [95]).filter (inaugPort s)) (mk { k with lineB := l == .b }))
    { s with pwc := { s.pwc with kaSeq := s.pwc.kaSeq + 1 } }

/-- A sleep notice with a proposed T_sleep (R336). -/
def sendNotice (s : State) (at_ : Nat) : State :=
  let f := kaFrame { s with pwc := { s.pwc with sleepAt := at_ } } true
  kaEmit { s with pwc := { s.pwc with noticeAt := s.mono } } f .sleepNotice

/-- A sender tracked (R337): at each further keep_max of its awake_for a windrow, an event and the alarm. -/
def trackKeeper (s : State) (k : KeepAlive) : State :=
  let old := s.pwc.senders.find? fun x => x.unit == k.sender
  if old.isNone && decide (128 ≤ s.pwc.senders.length) then s
  else
    let n := (k.awakeFor - 1) / s.pwc.cfg.keepMax
    let told := match old with | some x => x.told | none => 0
    let x : Keeper :=
      { unit := k.sender, reasons := k.reasons, car := k.car, tenant := k.tenant, awakeFor := k.awakeFor, told := n }
    let s := { s with pwc := { s.pwc with
        senders := if old.isSome then s.pwc.senders.map fun y => if y.unit == k.sender then x else y
          else s.pwc.senders ++ [x] } }
    if told < n then
      let s := report s 0xC001 (leBytes 8 k.sender.toNat ++ leBytes 1 k.car ++ leBytes 1 k.reasons.toNat)
      let s := event s 0 13 (leBytes 8 k.sender.toNat ++ leBytes 1 k.car ++ leBytes 1 k.tenant ++ leBytes 2 k.reasons.toNat
        ++ leBytes 4 k.awakeFor)
      setAlarm s .pwc 2
    else s

/-- A keep-alive, built now; its stamp counts for the sender (R334, R336), which is itself one of the senders tracked (R337;
DEDUCED, log). -/
def sendKeepAlive (s : State) : State :=
  let s := { s with pwc := { s.pwc with
      keepSince := if s.pwc.keepSince.isSome && decide (s.mono ≤ s.pwc.kaAt + 3000000000) then s.pwc.keepSince else some s.mono
      kaAt := s.mono, kaSending := true, lastKa := max s.pwc.lastKa (trtNs s) } }
  trackKeeper (kaEmit s (kaFrame s false) .keepAlive) (kaFrame s false)

/-- The sleep agreement runs: time service, and sleep_agree on (R336). -/
def agreeing (s : State) : Bool := s.tms.tsValid && s.pwc.cfg.agree

/-- T_cand: last_ka + T_quiet + sleep_grace, in TRT linear ns (R336). -/
def sleepCand (s : State) : Nat := s.pwc.lastKa + (s.pwc.cfg.quiet + s.pwc.cfg.grace) * 1000000000

/-- A power event to every OPEN tenant: kind 0 power_pending, 1 power_cancelled, 2 power_entering (R289, type 12). -/
def powerEvent (s : State) (kind : Nat) : State :=
  (s.host.tenants.map Prod.fst).foldl (fun s t =>
    if (tenant s t).state = .opened then event s t 12 [BitVec.ofNat 8 kind] else s) s

/-- TAU57 of the device armed for T_sleep (R336). -/
def armSleep (s : State) (at_ : Nat) : State :=
  armDevice { s with pwc := { s.pwc with sleepAt := at_ } } 57 targetStandby 0 at_

/-- PENDING ends: TAU57 is cancelled, and the tenants are told (Table 14-5a). -/
def sleepCancel (s : State) : State :=
  if s.pwc.sleep = .pending then
    let s := if (tauOf s 57).owner = some deviceOwner then putTau s 57 { tauOf s 57 with state := .idle } else s
    setAlarm (powerEvent { s with pwc := { s.pwc with sleep := .awake, entryWaits := false } } 1) .pwc 1
  else s

/-- The state PENDING is entered (Table 14-5a, first row). -/
def sleepPend (s : State) : State :=
  let at_ := sleepCand s
  let s := sendNotice (armSleep { s with pwc := { s.pwc with sleep := .pending } } at_) at_
  setAlarm (powerEvent s 0) .pwc 0

/-- A keep-alive's stamp as last_ka counts it: its own time, or its arrival where its epoch differs (R336). -/
def kaStamp (s : State) (k : KeepAlive) : Nat :=
  if k.domainEpoch = s.tms.domainEpoch then linNs k.sec k.ns else trtNs s

/-! ## Entry to STANDBY (R338) -/

/-- Commands not past their commit point complete with BUSY. -/
def busyAll (s : State) (p : Nat → Bool) : State :=
  (s.host.tenants.map Prod.fst).foldl (fun s t =>
    if !p t then s
    else
      ((tenant s t).inflight.filter fun i => !i.committed).foldl
        (fun s i => respond s { tenant := t, classC := i.classC, tag := i.tag } i.opcode .busy 0 []) s) s

/-- The segments whose wake detector is on (Table 7-4). -/
def armedSegs (s : State) : NatSet :=
  (List.range 64).filter fun g => (segOf s g).wakeDet

/-- Entry to STANDBY with a cause of PWC_VAON_ENTRY: 1 agreement, 2 POWER_STANDBY, 3 forced (R338). An armed TAU whose
instant lies within the exit latency of STANDBY does not bar it (DESIGN CHOICE, log: R112 speaks of a state of the power
controller, R338 names its own conditions and no TAU). -/
def enterStandby (s : State) (cause : Nat) : State :=
  let s := busyAll (powerEvent s 2) fun _ => true
  let s := evrFlush s
  let armed := armedSegs s
  let s := mainReset s .standby
  { s with
    fw := { s.fw with bootCause := 3 }
    pwc := { s.pwc with
      armed := armed, entry := cause, count := s.pwc.count + 1, inh := 0, entryAt := s.mono, timer := s.pwc.cfg.timer
      fromStandby := true } }

/-- TAU57 fires at T_sleep (Table 14-5a, R337): entry, a keep-alive where a local reason has come, or entry once the
control-plane pause ends. -/
def sleepFire (s : State) : State :=
  if s.pwc.sleep ≠ .pending then s
  else if s.fw.phase == .paused then { s with pwc := { s.pwc with entryWaits := true } }
  else if keeps s then setAlarm (sendKeepAlive { s with pwc := { s.pwc with sleep := .awake } }) .pwc 1
  else enterStandby s 1

/-! ## The wake sequence (R340 to R342) -/

/-- The wait for PGn begins: INHn is asserted; a PG that is high already passes at once (R340, R374). -/
def enterPg : Nat → State → Nat → State
  | 0, s, _ => { s with pwc := { s.pwc with phase := .xin, phaseAt := s.mono } }
  | k + 1, s, n =>
    if 3 ≤ n then { s with pwc := { s.pwc with phase := .xin, phaseAt := s.mono } }
    else
      let s := { s with pwc := { s.pwc with phase := .pg n, phaseAt := s.mono, inh := setBit s.pwc.inh n true } }
      if bitAt s.pwc.pgs n then enterPg k s (n + 1) else s

/-- The first attempt of a wake sequence: one 50 ms pulse on WAKE_OUT (R342). -/
def wakeFirst (s : State) : State :=
  enterPg 4 { s with pwc := { s.pwc with
    attempts := 1, wakeOut := some (s.mono + 50000000), wakeOutFail := none, heldWake := none } } 0

/-- A wake event starts the sequence with a source of Table 14-13. -/
def startWake (s : State) (source seg : Nat) : State :=
  let slept := if s.pwc.phase = .standby then word ((s.mono - s.pwc.entryAt) / 1000000000) else s.pwc.standbyS
  wakeFirst { s with pwc := { s.pwc with source := source, segment := seg, standbyS := slept, vaonFresh := false } }

/-- A wake event (R338, R339): in STANDBY it starts the sequence, but within 100 ms of the release of INH0, or while entry
waits for the end of a pause, it is held. -/
def wakeEvent (s : State) (source seg : Nat) : State :=
  let hold := { s with pwc := { s.pwc with heldWake := some (s.pwc.heldWake.getD (source, seg)) } }
  if s.pwc.phase ≠ .standby then (if s.pwc.entryWaits then hold else s)
  else if s.mono < s.pwc.phaseAt + 100000000 then hold
  else startWake s source seg

/-- A wake attempt fails with a code of Table 14-7 (R341): INH is released, the next attempt follows, or after the fourth
wake_fail is latched and WAKE_OUT signals the code. -/
def attemptFail (s : State) (code : Nat) : State :=
  let last := decide (4 ≤ s.pwc.attempts)
  let s := mainReset s (if last then .standby else .retry)
  let s := { s with pwc := { s.pwc with fails := s.pwc.fails + 1, inh := 0 } }
  if last then
    { s with pwc := { s.pwc with wakeFail := true, failCode := code, wakeOut := none, wakeOutFail := some s.mono } }
  else s

/-- The next attempt of a wake sequence (R341). -/
def nextAttempt (s : State) : State :=
  if s.pwc.attempts = 0 then wakeFirst s
  else enterPg 4 { s with pwc := { s.pwc with attempts := s.pwc.attempts + 1 } } 0

/-- The level of WAKE_OUT (R342): the pulse of a first attempt, or the code of a latched failure, code × (200 ms high,
200 ms low) every 5 s for 10 min. -/
def wakeOutHigh (s : State) : Bool :=
  match s.pwc.wakeOut, s.pwc.wakeOutFail with
  | some t, _ => decide (s.mono < t)
  | none, some t =>
    let d := s.mono - t
    let r := d % 5000000000
    decide (d < 600000000000) && decide (r < s.pwc.failCode * 400000000) && decide (r % 400000000 < 200000000)
  | none, none => false

end Sys2Proof.Machine
end

