-- ==== Sys2Proof/Machine/Recorder.lean ====
section
/-! DEFINITION. Event Recorder and Ageing Monitor: reports, bursts, the recorder's commands, measurements, voltage steps and
the projection (R346 to R367). -/

namespace Sys2Proof.Machine

/-! ## Reports and writing (R352 to R355) -/

/-- The codes of Table 15-3 other than MARK. -/
def windrowCodes : List Nat :=
  [0x0001, 0x0002, 0x0003, 0x0004, 0x0005, 0x0006, 0x1001, 0x4001, 0x5001, 0x5002, 0x7001, 0x9001, 0x9002, 0xA001,
   0xA002, 0xA003, 0xA004, 0xB001, 0xC001, 0xD001, 0xD002]

/-- A code of Table 15-3; the others are reserved (R351). -/
def windrowListed (code : Nat) : Bool := windrowCodes.contains code || (0xE000 ≤ code && code ≤ 0xE0FF)

/-- EVR_REPORT (R352): see `report`; a reserved code has no effect. -/
def execEvrReport (code : Nat) (data : Bytes) (s : State) : Out :=
  .next (if windrowListed code then report s code data else s)

/-- The SUMMARY windrows of a second: one for each two codes with suppressions (R353), under R352 and R356 like every report. -/
def summaries : List (Nat × Nat) → State → State
  | [], s => s
  | [(c, n)], s => report s 0x0002 (leBytes 2 c ++ leBytes 3 n)
  | (c, n) :: (d, m) :: r, s => summaries r (report s 0x0002 (leBytes 2 c ++ leBytes 3 n ++ leBytes 2 d ++ leBytes 3 m))

/-- EVR_SECOND_SUMMARY (R353): at the next whole TRT second, or second since start without time service. -/
def secondSummary (s : State) : State :=
  let s := if s.tms.tsValid then untilNs s ((trtNs s / 1000000000 + 1) * 1000000000)
    else untilMono s (s.glob.startAt + ((s.mono - s.glob.startAt) / 1000000000 + 1) * 1000000000)
  let l := s.evr.supNow
  tellLoss (summaries l { s with evr := { s.evr with supNow := [] } })

/-- See `secondSummary`. -/
def execEvrSecondSummary (s : State) : Out := .next (secondSummary s)

/-- EVR_WRITE_BURST (R355): see `evrBurst`. -/
def execEvrWriteBurst (answers : Bool) (s : State) : Out := .next (evrBurst s answers)

/-- EVR_CHECKPOINT (R348): after 4,096 windrows or 1 s the checkpoint falls due; a burst writes it (R355). -/
def checkpointFalls (s : State) : State :=
  if !evrWritable s then s
  else
    let s := if s.evr.sinceCheck < 4096 then untilMono s (s.evr.checkAt + 1000000000) else s
    { s with evr := { s.evr with checkpointDue := true } }

/-- See `checkpointFalls`. -/
def execEvrCheckpoint (s : State) : Out := .next (checkpointFalls s)

/-- EVR_STAGING_FINAL (R352): 1 s after its time. -/
def stagingAges (s : State) : State :=
  match s.evr.staging with
  | w :: _ => if w.final then s else stagingFinal (untilMono s (w.at_ + 1000000000))
  | [] => s

/-- See `stagingAges`. -/
def execEvrStagingFinal (s : State) : Out := .next (stagingAges s)

/-! ## The recorder's commands (Table 15-6) -/

/-- A token bucket with a rate and a burst; it holds no more than the burst (R352). -/
def bucketSet (s : State) (code rate burst : Nat) : State :=
  let b := bucketNow (tget {} s.evr.buckets code) (evrClock s)
  { s with evr := { s.evr with
      buckets := tset {} s.evr.buckets code { b with rate := rate, burst := burst, taken := min b.taken (burst * 1000000000) } } }

/-- An entry of EVR_CONFIG is within R366. -/
def bucketOk (e : BucketCfg) : Bool :=
  decide (e.rate ≤ 1000) && decide (1 ≤ e.burst ∧ e.burst ≤ 1000) && (e.code == 0xFFFF || !windrowExempt e.code)

/-- An entry of EVR_CONFIG applied; code 0xFFFF sets every code. -/
def bucketApply (s : State) (e : BucketCfg) : State :=
  if e.code = 0xFFFF then
    ((windrowCodes.filter fun c => !windrowExempt c) ++ (List.range 256).map (0xE000 + ·)).foldl
      (fun s c => bucketSet s c e.rate e.burst) s
  else bucketSet s e.code e.rate e.burst

/-- EVR_CONFIG (R366). -/
def execEvrConfig (h : Hcp) (entries : List BucketCfg) (s : State) : Out :=
  .next (runHcp { opcode := 0x0C01, classC := true, owner := true } h s fun s =>
    if entries.all bucketOk then okay (entries.foldl bucketApply s) else fails s .invalidArgument 0)

/-- EVR_READ (R360). -/
def execEvrRead (h : Hcp) (first count : Nat) (s : State) : Out :=
  .next (runHcp { opcode := 0x0C02 } h s fun s =>
    if count = 0 ∨ 32 < count ∨ 2 ^ 32 ≤ first then fails s .invalidArgument 0
    else if s.evr.memFault then fails s .refused 0x0902
    else
      let f := resolveSeq (evrHead s) (word first)
      if f < evrOldest s then fails s .refused 0x0903
      else
        let r := windrowsFrom s f.toNat count
        okWith s (leBytes 2 r.1 ++ [0, 0] ++ r.2))

/-- EVR_MARK (Table 15-6): a MARK windrow of the caller under R352. -/
def execEvrMark (h : Hcp) (data : Bytes) (s : State) : Out :=
  .next (runHcp { opcode := 0x0C03 } h s fun s =>
    if s.evr.memFault || s.evr.unformatted || s.evr.foreign then fails s .refused 0x0902
    else okay (report s (0xE000 + h.tenant) data))

/-- The highest last accepted counter held. -/
def topCounter (s : State) : BitVec 64 :=
  s.host.tenants.foldl (fun m e => if m.toNat < e.2.counter.toNat then e.2.counter else m) 0

/-- The format (R358): the ring cleared, every counter at the floor, the header written, a FORMAT windrow. -/
def evrFormat (s : State) (floor : BitVec 64) (size : Nat) : State :=
  let owned := !s.evr.unformatted && !s.evr.foreign
  let fl := if owned && decide (floor.toNat < (topCounter s).toNat) then topCounter s else floor
  let old := s.evr.header
  let s := { s with
    evr := { s.evr with
      mem := [], area := [], counterWrites := [], unformatted := false, foreign := false, ready := true, hoursAt := s.mono
      header := if owned then { old with sizeMiB := size, floor := fl, hours := hoursNow s }
        else { sizeMiB := size, floor := fl } }
    host := { s.host with counterOk := true } }
  let s := countersRestore s
  writeCheckpoint (newWindrow s 0x0006 (leBytes 8 fl.toNat ++ leBytes 1 size))

/-- EVR_FORMAT (R358): on a memory that is not its own, only with this start's format_nonce. -/
def execEvrFormat (h : Hcp) (nonce floor : BitVec 64) (size : Nat) (s : State) : Out :=
  .next (runHcp { opcode := 0x0C04, classC := true, owner := true } h s fun s =>
    if size = 0 ∨ 16 < size then fails s .invalidArgument 0
    else if s.evr.memFault then fails s .refused 0x0902
    else if (s.evr.unformatted || s.evr.foreign) && nonce != Config.trng s.evr.nonce then fails s .refused 0x0901
    else okay (evrFormat s floor size))

/-- EVR_STATUS register (Table 15-8). -/
def evrStatusReg (s : State) : Word :=
  word (b2n s.evr.ready + 2 * b2n s.evr.memFault + 4 * b2n s.evr.unformatted + 8 * b2n s.evr.foreign
    + 16 * b2n s.evr.flushing + 32 * b2n s.evr.pfailDone)

/-- The registers of the EVR block from 0x000 to 0x040 in order (Table 15-7). -/
def evrRegs (s : State) : List Word :=
  [evrStatusReg s, s.evr.alarm, s.evr.alarmEn, word s.evr.header.sizeMiB, word (evrSlots s), word (evrHead s),
   word (writtenHead s), word (evrOldest s), s.evr.lost, s.evr.suppressed, s.evr.merged,
   word (dirtyCount s + s.evr.dirtyMax * 65536), s.evr.winBase, s.evr.latchTag, word s.evr.header.boots,
   word (hoursNow s), word (evrHead s / 2 ^ 32 % 65536)]

/-- Words as little-endian bytes. -/
def wordsLe (l : List Word) : Bytes := l.flatMap fun w => leBytes 4 w.toNat

/-- EVR_STATUS (Table 15-6). -/
def execEvrStatus (h : Hcp) (s : State) : Out :=
  .next (runHcp { opcode := 0x0C05 } h s fun s =>
    okWith s (wordsLe (evrRegs s) ++ leBytes 8 (Config.trng s.evr.nonce).toNat))

/-! ## Ageing: corrections (R362, R363) -/

/-- The uncorrected excess of a latency change beyond ±2 ns, in ps (R362). -/
def latExcess (v : Int) : Nat := v.natAbs - 2000

/-- The correction applied: at most ±2 ns (R362). -/
def latClamp (v : Int) : Int := max (-2000) (min 2000 v)

/-- The largest uncorrected excess of the lanes `js`, numbered as AGM_LAT: BB0 to BB3, WL0, TW0, CPQ0 to CPQ2. -/
def worstExcess (m : AgmMeas) (js : List Nat) : Nat :=
  js.foldl (fun x j => max x (max (latExcess (m.latTx.getD j 0)) (latExcess (m.latRx.getD j 0)))) 0

/-- The guard allowance changed (R363): guard_widened here, guard_changed in CSS_ALARM with the effective guard, which
follows at the next pan boundary while CSS runs (R74). -/
def guardAdd (s : State) (ns : Nat) : State :=
  if s.agm.guardAdd = ns then s
  else
    let s := setAlarm { s with
      agm := { s.agm with guardAdd := ns }, css := { s.css with guardAllow := ns } } .agm 5
    if s.css.state = .stopped then
      setAlarm { s with css := { s.css with guardEff := s.css.guardCfg + ns } } .css 10
    else s

/-- The corrections in force now, in ps by lane: a calibration update starts from them (R57). -/
def lanesNow (s : State) (tx : Bool) : Table Int :=
  (List.range 9).foldl (fun t j => tset 0 t j (laneLatency s tx j)) []

/-- What a measurement applies: latencies, which the stamps reach by 10 ps each LTM period (R57), cal_range, the guard allowance and the T1S figures (R362, R363). -/
def agmApply (s : State) (m : AgmMeas) : State :=
  let range := decide (0 < worstExcess m (List.range 9))
  let add := min 200 (10 * ((worstExcess m [0, 1, 2, 3, 5] + 999) / 1000))
  let amp := m.t1s.any fun e => (e.2.1 == 0 || e.2.1 == 255)
    && (decide (e.2.2 * 10 < m.factoryT1s * 9) || decide (m.factoryT1s * 11 < e.2.2 * 10))
  let s := { s with
    agm := { s.agm with
      calRange := range, latTx := m.latTx.map latClamp, latRx := m.latRx.map latClamp
      t1s := m.t1s.foldl (fun t e => tset (0, 0) t e.1 e.2) s.agm.t1s }
    tms := { s.tms with latTx := lanesNow s true, latRx := lanesNow s false, latAt := s.mono } }
  let s := setAlarmIf (setAlarmIf s range .agm 3) amp .agm 4
  if s.agm.guardAdd < add then guardAdd s add else s

/-! ## Adaptive voltage (R364) -/

/-- The AGM regulates VDD_CORE: avs_en, a linear regulator, no fault. -/
def avsOn (s : State) : Bool := s.agm.cfg.avs && Config.voutLinear && s.agm.avsState != 4

/-- avs_state (Table 15-8). -/
def avsCode (s : State) : Nat :=
  if s.agm.avsState = 4 then 4 else if !Config.voutLinear then 5 else if !s.agm.cfg.avs then 0
  else if s.agm.cfg.vmax ≤ s.agm.vcore then 2 else if s.agm.vcore ≤ s.agm.cfg.vmin then 3 else 1

/-- The measurement ends: margin_low where the margin is below its floor and VDD_CORE cannot be raised (R364). -/
def agmFinish (s : State) : State :=
  let low := decide (s.agm.margin < s.agm.cfg.floor) && !(avsOn s && decide (s.agm.vcore < s.agm.cfg.vmax))
  let s := { s with agm := { s.agm with measuring := false, settling := false, retried := false, avsState := avsCode s } }
  if low then report (setAlarm s .agm 0) 0xD002 ([0, 0] ++ leInt 4 s.agm.margin) else s

/-- A number put into an ascending list. -/
def insertInt (x : Int) : List Int → List Int
  | [] => [x]
  | y :: r => if x ≤ y then x :: y :: r else y :: insertInt x r

/-- The slope in force in fs per mV: the median of the last 16 AVS steps, the factory slope until then (R365; DESIGN CHOICE, log:
the mean of the two in the middle). -/
def slopeNow (a : Agm) : Int :=
  let l := a.slopes.foldr insertInt []
  if l.length < 16 then Config.factorySlope else Int.tdiv (l.getD 7 0 + l.getD 8 0) 2

/-- margin_at_max: margin_now projected to vcore_max and Tj 125 °C (R365). -/
def atMax (a : Agm) (margin : Int) (vout : Nat) (tj : Int) : Int :=
  margin + Int.tdiv (slopeNow a * ((a.cfg.vmax : Int) - vout)) 1000 + Config.tempShift tj

/-- A settled step with the new margin: its slope is seen, and margin_at_max follows (R365). -/
def stepSeen (a : Agm) (margin : Int) : Agm :=
  let d : Int := (a.vcore : Int) - a.stepFrom
  let a := if d = 0 then a else { a with slopes := (Int.tdiv ((margin - a.margin) * 1000) d :: a.slopes).take 16 }
  { a with margin := margin, marginMax := atMax a margin a.vout a.tj }

/-- VOUT_COMMAND written; the step settles for 1 ms (R364). -/
def writeVcore (s : State) (mv : Nat) (lower : Bool) : State :=
  { s with agm := { s.agm with
      vcore := mv, stepFrom := s.agm.vcore, settling := true, stepAt := s.mono, lowering := lower, retried := false
      steps := s.agm.steps + 1 } }

/-- What the present margin_now asks for: a step up, for up to 4 steps, or as the only step one down (R364). -/
def avsDecide (s : State) : State :=
  let c := s.agm.cfg
  if avsOn s && decide (s.agm.margin < c.target) && decide (s.agm.vcore < c.vmax) && decide (s.agm.steps < 4) then
    writeVcore s (min c.vmax (s.agm.vcore + c.step)) false
  else if avsOn s && s.agm.steps == 0 && decide (c.target + c.hyst < s.agm.margin) && decide (c.vmin < s.agm.vcore) then
    writeVcore s (max c.vmin (s.agm.vcore - c.step)) true
  else agmFinish s

/-! ## Measurements (R361) -/

/-- The smallest replica slack. -/
def minSlack (l : List (Nat × Int)) : Int :=
  match l with
  | [] => 0
  | e :: r => r.foldl (fun m x => min m x.2) e.2

/-- The day's figures with this measurement (Table 15-3, AGM_DAY). -/
def agmDay (s : State) (m : AgmMeas) : State :=
  let a := s.agm
  let first := a.dayCount == 0
  { s with agm := { a with
      dayLow := if first then a.margin else min a.dayLow a.margin
      daySum := a.daySum + a.marginMax, dayVcore := a.dayVcore + m.readVout, dayCount := a.dayCount + 1
      dayTj := if first then m.tj else max a.dayTj m.tj
      dayExcess := max a.dayExcess (worstExcess m (List.range 9)) } }

/-- AGM_MEASUREMENT (R361): when one is ordered, else 10 min after the start of the last one; it wakes the MGP from NAP. -/
def agmMeasureNow (m : AgmMeas) (s : State) : State :=
  if !mgpRuns s || s.agm.settling then s
  else
    let s := match s.agm.lastAt with
      | some t => if s.agm.measuring then s else untilMono s (t + 600000000000)
      | none => s
    let s := napEnd s
    let s := { s with agm := { s.agm with
        count := s.agm.count + 1, measuring := true, lastAt := some s.mono, lastNs := stampNs s, replicas := m.replicas.take 48
        margin := minSlack m.replicas, marginMax := atMax s.agm (minSlack m.replicas) m.readVout m.tj, tj := m.tj
        vout := m.readVout, steps := 0 } }
    avsDecide (agmDay (agmApply s m) m)

/-- See `agmMeasureNow`. -/
def execAgmMeasurement (m : AgmMeas) (s : State) : Out := .next (agmMeasureNow m s)

/-- AVS_STEP_SETTLE (R364): 1 ms after the write, READ_VOUT within 10 mV of the command, else one retry, then avs_fault; after a step up the new
margin decides again. -/
def avsSettle (margin : Int) (readVout : Nat) (s : State) : State :=
  if !s.agm.settling then s
  else
    let s := untilMono s (s.agm.stepAt + 1000000)
    let s := { s with agm := { s.agm with vout := readVout } }
    let bad := decide (readVout + 10 < s.agm.vcore) || decide (s.agm.vcore + 10 < readVout)
    if bad && !s.agm.retried then { s with agm := { s.agm with retried := true, stepAt := s.mono } }
    else if bad then agmFinish (setAlarm { s with agm := { s.agm with avsState := 4 } } .agm 2)
    else
      let s := { s with agm := { stepSeen s.agm margin with settling := false } }
      if s.agm.lowering then agmFinish s else avsDecide s

/-- See `avsSettle`. -/
def execAvsStepSettle (margin : Int) (readVout : Nat) (s : State) : Out := .next (avsSettle margin readVout s)

/-! ## The projection (R365) -/

/-- A day's data added to the least-squares sums, x = log10 of the operating hours in units of 2^-32. -/
def sumsAdd (h : EvrHeader) (hours : Nat) (y : Int) : EvrHeader :=
  let x := Config.log10 hours
  { h with days := h.days + 1, sx := h.sx + x, sy := h.sy + y, sxx := h.sxx + x * x, sxy := h.sxy + x * y }

/-- AGM_EOM_HOURS (R365): the solution of y = a + b x at margin_floor less the operating hours; 0xFFFFFFFF before 30 days,
0xFFFFFFFE where b ≥ 0 or the result exceeds 1,000,000 h. -/
def eomOf (h : EvrHeader) (floor : Int) (hours : Nat) : Nat :=
  if h.days < 30 then 0xFFFFFFFF
  else
    let n := (h.days : Int)
    let num := n * h.sxy - h.sx * h.sy
    let den := n * h.sxx - h.sx * h.sx
    if 0 ≤ num * den ∨ den = 0 then 0xFFFFFFFE
    else
      let x := ((floor * n - h.sy) * den + num * h.sx) / (n * num)
      let left := (Config.pow10 x - hours).toNat
      if 1000000 < left then 0xFFFFFFFE else left

/-- The signed quotient that rounds to zero, 0 for an empty day. -/
def meanOf (sum : Int) (n : Nat) : Int := Int.tdiv sum n

/-- AGM_DAILY (R365): once a day of operating hours: AGM_DAY, the sums, the projection. A day without a measurement has no
figures of its own; what its windrow shows is a free value. -/
def agmDaily (s : State) : State :=
  if !mgpRuns s then s
  else
    let due := (s.agm.dayAt / 24 + 1) * 24
    let s := untilMono s (s.evr.hoursAt + (due - s.evr.header.hours) * 3600000000000)
    let hours := hoursNow s
    let a := s.agm
    let (data, s) :=
      if a.dayCount = 0 then (let d := draw s; (leBytes 10 d.1, d.2))
      else (leInt 2 a.dayLow ++ leInt 2 (meanOf a.daySum a.dayCount) ++ leBytes 2 (a.dayVcore / a.dayCount) ++ leInt 2 a.dayTj
        ++ leBytes 2 a.dayExcess, s)
    let s := report s 0xD001 data
    let hd := if a.dayCount = 0 then s.evr.header else sumsAdd s.evr.header hours (meanOf a.daySum a.dayCount)
    let eom := eomOf hd a.cfg.floor hours
    let s := { s with
      evr := { s.evr with header := hd }
      agm := { s.agm with
        dayAt := due, dayLow := 0, daySum := 0, dayVcore := 0, dayCount := 0, dayTj := 0, dayExcess := 0
        eomHours := word eom
        eomSec := if eom < 0xFFFFFFFE then trtNs s / 1000000000 + eom * 3600 else s.agm.eomSec } }
    setAlarmIf s (decide (eom < 8760)) .agm 1

/-- See `agmDaily`. -/
def execAgmDaily (s : State) : Out := .next (agmDaily s)

/-! ## Ageing commands (Table 15-6) -/

/-- A setting of AGM_CONFIG (Table 15-5). -/
def agmPut (s : State) (c : AgmCfg) : Except (Status × Nat) State :=
  .ok { s with agm := { s.agm with cfg := c } }

/-- One parameter record of AGM_CONFIG (Table 15-5). -/
def agmRec (s : State) (p : Param) : Except (Status × Nat) State :=
  let c := s.agm.cfg
  let num := fun (lo hi : Int) (f : Int → AgmCfg) => orBad (recNum p lo hi) fun v => agmPut s (f v)
  match p.key with
  | 1 => orBad (recFlag p 0) fun on =>
      if on && !Config.voutLinear then refusedRec 0x0904 else agmPut s { c with avs := on }
  | 2 => num 8 119 fun v => { c with addr := v.toNat }
  | 3 => num 40 300 fun v => { c with target := v }
  | 4 => num 10 200 fun v => { c with hyst := v }
  | 5 => num 0 100 fun v => { c with floor := v }
  | 6 => num 1 10 fun v => { c with step := v.toNat }
  | 7 => num 700 850 fun v => { c with vmin := v.toNat }
  | 8 => num 700 850 fun v => { c with vmax := v.toNat }
  | 9 => if s.css.state = .stopped then .ok (guardAdd s 0) else refusedRec 0
  | _ => badRec

/-- The record named where a list of records leaves vcore_max below vcore_min: the first of either (R308; DESIGN CHOICE, log). -/
def vcoreFailing (recs : List Param) : Nat := recs.findIdx fun p => p.key == 7 || p.key == 8

/-- AGM_CONFIG (R366): vcore_max is at least vcore_min. -/
def execAgmConfig (h : Hcp) (recs : List Param) (s : State) : Out :=
  .next (runHcp { opcode := 0x0C06, classC := true, owner := true } h s fun s =>
    match applyChecked agmRec 0 s recs with
    | .error (i, st, reason) => .done s st reason (leBytes 2 i)
    | .ok s' =>
      if s'.agm.cfg.vmax < s'.agm.cfg.vmin then failsAt s (vcoreFailing recs)
      else okay { s' with agm := { s'.agm with avsState := avsCode s' } })

/-- AGM_STATUS register (Table 15-8). -/
def agmStatusReg (s : State) : Word :=
  word (s.agm.avsState + 8 * b2n s.agm.calRange + 16 * b2n s.agm.measuring + s.agm.count.toNat * 65536)

/-- A signed number of 16 bits. -/
def low16 (v : Int) : Nat := (v.emod 65536).toNat

/-- The registers of the AGM block from 0x1000 to 0x1024 in order (Table 15-7). -/
def agmRegs (s : State) : List Word :=
  [agmStatusReg s, s.agm.alarm, s.agm.alarmEn, word (s.agm.vout * 65536 + s.agm.vcore),
   word (low16 s.agm.marginMax * 65536 + low16 s.agm.margin), s.agm.eomHours, word s.agm.eomSec, s.agm.eomHi,
   word s.agm.guardAdd, s.agm.lastNs]

/-- AGM_REPLICA(r). -/
def agmReplica (s : State) (r : Nat) : Word :=
  let e := s.agm.replicas.getD r (0, 0)
  word (e.1 % 256 * 65536 + low16 e.2)

/-- AGM_STATUS (Table 15-6). -/
def execAgmStatus (h : Hcp) (s : State) : Out :=
  .next (runHcp { opcode := 0x0C07 } h s fun s =>
    okWith s (wordsLe (agmRegs s) ++ wordsLe ((List.range 48).map (agmReplica s))
      ++ wordsLe ((List.range 9).flatMap fun j => [wordI (s.agm.latTx.getD j 0), wordI (s.agm.latRx.getD j 0)])))

/-- AGM_MEASURE (Table 15-6): a measurement now, unless one runs. -/
def execAgmMeasure (h : Hcp) (s : State) : Out :=
  .next (runHcp { opcode := 0x0C08, classC := true, owner := true } h s fun s =>
    if s.agm.measuring then fails s .busy 0 else okay { s with agm := { s.agm with measuring := true } })

end Sys2Proof.Machine
end

