-- ==== Sys2Proof/Machine/Firmware.lean ====
section
/-! DEFINITION. Firmware, keys and update: images, slots, activation, start-up, the Recovery ROM (R312 to R330). -/

namespace Sys2Proof.Machine

/-! ## Images (R318, R319) -/

/-- An entry of a component directory (Table 13-4). -/
structure Component where
  typ : Nat
  idx : Nat
  off : Nat
  len : Nat
  hash : BitVec 256

/-- Entry `i` of the directory of an image. -/
def componentAt (b : Bytes) (i : Nat) : Component :=
  let o := 128 + 48 * i
  { typ := leAt b o 1, idx := leAt b (o + 1) 1, off := leAt b (o + 4) 4, len := leAt b (o + 8) 4
    hash := BitVec.ofNat 256 (beNum (bytesAt b (o + 16) 32)) }

/-- The directory of an image. -/
def directory (b : Bytes) : List Component := (List.range (leAt b 21 1)).map (componentAt b)

/-- The largest component of a type (Table 13-6); 0 for a type that is none. -/
def componentMax (t : Nat) : Nat :=
  if t = 1 then 6 * 1048576 else if t = 2 then 786432 else if t = 3 then 65536 else if t = 4 then 131072
  else if t = 5 then 65536 else if t = 6 then 1152 else 0

/-- The directory is complete and within the image (R318, Table 13-6). -/
def directoryOk (b : Bytes) : Bool :=
  let d := directory b
  let n := leAt b 21 1
  decide (17 ≤ n ∧ n ≤ 32)
    && d.all (fun c => decide (c.len ≤ componentMax c.typ ∧ 0 < c.len ∧ 128 + 48 * n ≤ c.off ∧ c.off + c.len + 64 ≤ b.length))
    && [1, 2, 4, 5, 6].all (fun t => (d.filter fun c => c.typ == t).length == 1)
    && (List.range 12).all (fun i => (d.filter fun c => c.typ == 3 && c.idx == i).length == 1)
    && d.all fun c => c.typ != 3 || decide (c.idx < 12)

/-- The bytes of a component. -/
def componentBytes (b : Bytes) (c : Component) : Bytes := (b.drop c.off).take c.len

/-- The 16 entries of a key manifest (R313): usage and public key. -/
def manifestOf (m : Bytes) : List (BitVec 8 × BitVec 512) :=
  (List.range 16).map fun i => (m.getD (72 * i) 0, BitVec.ofNat 512 (beNum (bytesAt m (72 * i + 8) 64)))

/-- The SHA-256 of the root public key of an image. -/
def rootHashOf (b : Bytes) : BitVec 256 := sha256 (bytesAt b 32 64)

/-- A hash is that of an unrevoked root (Table 13-7, check 4). -/
def rootGood (s : State) (h : BitVec 256) : Bool :=
  (List.range 4).any fun i => s.otp.roots[i]? == some h && !bitAt s.otp.revoked i

/-- What an image says of itself. -/
def infoOf (b : Bytes) : ImageInfo :=
  let d := directory b
  { imageId := word (leAt b 8 4), secVersion := leAt b 20 1, rootHash := rootHashOf b
    hashes := d.map fun c => (c.typ, c.idx, c.hash)
    manifest := match d.find? fun c => c.typ == 6 with
      | some c => manifestOf (componentBytes b c)
      | none => [] }

/-- The checks of Table 13-7 in order: the image, or the reason of the first that fails. -/
def imageCheck (s : State) (b : Bytes) : Except Nat ImageInfo :=
  if b.length < 192 ∨ leAt b 0 4 ≠ 0x48584657 ∨ leAt b 4 2 ≠ 1 ∨ 2 ≤ leAt b 6 2 ∨ leAt b 8 4 = 0 ∨ 14680064 < b.length
      ∨ leAt b 12 4 ≠ b.length ∨ 64 < leAt b 20 1 ∨ ¬ directoryOk b then .error 0x0601
  else if leAt b 16 2 ≠ 0x9664 ∨ 0xB0 < leAt b 18 1 ∨ leAt b 19 1 < 0xB0 then .error 0x0602
  else if leAt b 6 2 = 1 ∧ leAt b 24 8 ≠ s.otp.unitId.toNat then .error 0x0602
  else if !rootGood s (rootHashOf b) then .error 0x0603
  else if !ecdsaOk (BitVec.ofNat 512 (beNum (bytesAt b 32 64))) (BitVec.ofNat 512 (beNum (b.drop (b.length - 64))))
      (sha256 (b.take (b.length - 64))) then .error 0x0604
  else if (directory b).any fun c => sha256 (componentBytes b c) != c.hash then .error 0x0605
  else if leAt b 20 1 < s.otp.rollback then .error 0x0606
  else .ok (infoOf b)

/-- The hash of a component an image gives. -/
def hashOf (im : Option ImageInfo) (t i : Nat) : Option (BitVec 256) :=
  im.bind fun x => (x.hashes.find? fun e => e.1 == t && e.2.1 == i).map fun e => e.2.2

/-! ## Slots (Table 13-5) -/

/-- Slot B, or slot A. -/
def fwSlot (s : State) (b : Bool) : FwSlot := if b then s.fw.slotB else s.fw.slotA

/-- A slot written. -/
def putSlot (s : State) (b : Bool) (x : FwSlot) : State :=
  if b then { s with fw := { s.fw with slotB := x } } else { s with fw := { s.fw with slotA := x } }

/-- The slot an image is loaded into: the inactive one; in the Recovery ROM the one that failed last, or slot A (R320,
R329). -/
def loadSlot (s : State) : Bool := if inRecovery s then s.fw.failedSlot.getD false else !s.fw.activeB

/-- Slot `b` becomes the active one, the other VERIFIED (Table 13-5); the boot record is written (R317). -/
def makeActive (s : State) (b trial : Bool) : State :=
  let old := fwSlot s s.fw.activeB
  let s := if old.state = .active then putSlot s s.fw.activeB { old with state := .verified } else s
  let s := putSlot s b { fwSlot s b with state := .active }
  { s with fw := { s.fw with activeB := b, trial := trial, bootSeq := s.fw.bootSeq + 1 } }

/-- A full reset into the active slot, rails up (R325, R326). -/
def restartDevice (s : State) (noStrap : Bool) (cause : Nat) : State :=
  let s := { s with fw := { s.fw with noStrap := noStrap, bootCause := cause } }
  warmReset s .xin

/-- A boot fails (R326): the device restarts itself. -/
def bootFail (s : State) : State :=
  restartDevice { s with fw := { s.fw with failedSlot := some s.fw.activeB } } false 2

/-! ## Loading (R309, R320) -/

/-- IMAGE_BEGIN (R309, R320). -/
def imageBegin (h : Hcp) (len : Nat) (ident : Word) (s : State) : State :=
  runHcp { opcode := 0x0A01, classC := true, owner := true, recovery := true } h s fun s =>
    if 14680064 < len then fails s .refused 0x060D
    else if len = 0 then fails s .invalidArgument 0
    else if s.fw.trial && !inRecovery s then fails s .refused 0x060E
    else
      let b := loadSlot s
      okay (putSlot s b { state := .loading, imageId := ident, len := len, tenant := h.tenant, par := (fwSlot s b).par })

/-- See `imageBegin`. -/
def execImageBegin (h : Hcp) (len : Nat) (ident : Word) (s : State) : Out := .next (imageBegin h len ident s)

/-- The slot takes blocks: LOADING or VERIFIED (R309). -/
def slotLoads (x : FwSlot) : Bool := x.state == .loading || x.state == .verified

/-- The 64 KiB sectors a block touches. -/
def sectorsOf (off len : Nat) : List Nat := (List.range ((off + len + 65535) / 65536 - off / 65536)).map (off / 65536 + ·)

/-- IMAGE_BLOCK (R309, R320): a read-back that differs is a FLASH_ERROR, and the slot stays LOADING. -/
def imageBlock (h : Hcp) (off : Nat) (data : Bytes) (readbackOk : Bool) (s : State) : State :=
  runHcp { opcode := 0x0A02, classC := true, owner := true, recovery := true } h s fun s =>
    let b := loadSlot s
    let x := fwSlot s b
    if !slotLoads x || !blockOk { len := x.len, ident := x.imageId, tenant := x.tenant, blocks := [] } off data then
      fails s .invalidArgument 0
    else
      let x := { x with state := .loading, erased := (sectorsOf off data.length).foldl sadd x.erased }
      if !readbackOk then fails (putSlot s b x) .refused 0x060C
      else okay (putSlot s b { x with blocks := x.blocks ++ [(off, data)] })

/-- See `imageBlock`. -/
def execImageBlock (h : Hcp) (off : Nat) (data : Bytes) (readbackOk : Bool) (s : State) : Out :=
  .next (imageBlock h off data readbackOk s)

/-- IMAGE_VERIFY (R319, R320). -/
def imageVerify (h : Hcp) (s : State) : State :=
  runHcp { opcode := 0x0A03, classC := true, owner := true, recovery := true } h s fun s =>
    let b := loadSlot s
    let x := fwSlot s b
    if !slotLoads x then fails s .invalidArgument 0
    else
      match loadBytes x.blocks x.len with
      | none => fails s .invalidArgument 0
      | some bytes =>
        match imageCheck s bytes with
        | .error reason => fails (putSlot s b { x with state := .invalid }) .refused reason
        | .ok im => okay (putSlot s b { x with state := .verified, secVersion := im.secVersion, info := some im })

/-- See `imageVerify`. -/
def execImageVerify (h : Hcp) (s : State) : Out := .next (imageVerify h s)

/-! ## Activation (R321 to R325) -/

/-- What Table 13-7 can find anew in a verified image: its root and the anti-rollback counter. -/
def recheck (s : State) (x : FwSlot) : Option Nat :=
  match x.info with
  | none => some 0x0607
  | some im =>
    if !rootGood s im.rootHash then some 0x0603 else if im.secVersion < s.otp.rollback then some 0x0606 else none

/-- The SFP component of an image differs from the running one (R322). -/
def sfpChanges (s : State) (x : FwSlot) : Bool :=
  s.otp.island && (hashOf x.info 2 0 != hashOf s.fw.running 2 0)

/-- A component of types 0x03, 0x04 or 0x05 differs from the running one (R323). -/
def engineChanges (s : State) (x : FwSlot) : Bool :=
  ((List.range 12).map fun i => (3, i)).append [(4, 0), (5, 0)] |>.any fun e =>
    hashOf x.info e.1 e.2 != hashOf s.fw.running e.1 e.2

/-- The SFP restarts from here on (R322): the island is not ready, and the SLA holds every SFO_nB low. -/
def sfpRestarts (s : State) : State :=
  settleBoth { s with isl := { s.isl with sfpRestart := some s.mono, ready := false } }

/-- An activation is turned away by the state of the train: an inauguration, or a twin swap due (R321). -/
def activateBusy (s : State) : Bool :=
  inaugurating s || s.ine.twin.atBoundary.isSome || s.ine.twin.due || s.fw.activation.isSome

/-- IMAGE_ACTIVATE (R321 to R323, R325, R329). -/
def imageActivate (h : Hcp) (live : Bool) (ident : Word) (s : State) : State :=
  runHcp { opcode := 0x0A04, classC := true, owner := true, recovery := true } h s fun s =>
    let b := loadSlot s
    let x := fwSlot s b
    if activateBusy s then fails s .busy 0
    else if x.state ≠ .verified then fails s .refused 0x0607
    else if x.imageId ≠ ident then fails s .refused 0x0608
    else
      match recheck s x with
      | some reason => fails s .refused reason
      | none =>
        if !inRecovery s && sfpChanges s x && !allSafe s then fails s .safeStateRequired 0
        else if !inRecovery s && live && engineChanges s x then fails s .refused 0x0609
        else
          let s := if b = s.fw.activeB then s else putSlot s b { x with par := (fwSlot s s.fw.activeB).par }
          let s := respond s h 0x0A04 .ok 0 []
          if inRecovery s then
            let s := makeActive s b true
            .wait (restartDevice { s with fw := { s.fw with failed := 0 } } true 4)
          else if live then
            let sfp := sfpChanges s x
            let s := { s with fw := { s.fw with activation := some { live := true, at_ := s.mono, sfp := sfp } } }
            .wait (if sfp then sfpRestarts s else s)
          else .wait (restartDevice (makeActive s b true) true 2)

/-- See `imageActivate`. -/
def execImageActivate (h : Hcp) (live : Bool) (ident : Word) (s : State) : Out := .next (imageActivate h live ident s)

/-- ACTIVATION_DRAIN_END (R323): 20 ms after the commit point: what is not past its commit point completes with BUSY, fw_ready
falls, the boot record names the new slot, the pause begins. -/
def drainEnd (s : State) : State :=
  match s.fw.activation with
  | some a =>
    if s.fw.phase ≠ .ready then s
    else
      let s := makeActive (busyAll (untilMono s (a.at_ + 20000000)) fun _ => true) (!s.fw.activeB) true
      { s with
        glob := { s.glob with fwReady := false }
        fw := { s.fw with phase := .paused, activation := some { a with at_ := s.mono } } }
  | none => s

/-- See `drainEnd`. -/
def execActivationDrainEnd (s : State) : Out := .next (drainEnd s)

/-- The IMAGE_FALLBACK windrow (R323, R326). -/
def fallbackWindrow (s : State) (old new : Word) : State :=
  report s 0xB001 (leBytes 4 old.toNat ++ leBytes 4 new.toNat)

/-- ACTIVATION_FALLBACK (R323): 250 ms without fw_ready: the previous slot is active again, the new one VERIFIED, the
failed-boot count raised. -/
def activationLate (s : State) : State :=
  match s.fw.activation with
  | some a =>
    if s.fw.phase ≠ .paused ∨ a.fellBack then s
    else
      let s := untilMono s (a.at_ + 250000000)
      let old := (fwSlot s s.fw.activeB).imageId
      let s := makeActive s (!s.fw.activeB) false
      let s := { s with fw := { s.fw with
          failed := s.fw.failed + 1, failedSlot := some (!s.fw.activeB), activation := some { a with fellBack := true, loaded := false } } }
      fallbackWindrow s old (fwSlot s s.fw.activeB).imageId
  | none => s

/-- See `activationLate`. -/
def execActivationFallback (s : State) : Out := .next (activationLate s)

/-- The inactive slot after a burn (Table 13-5): INVALID where check 7 fails. -/
def slotAfterBurn (s : State) : State :=
  let x := fwSlot s (!s.fw.activeB)
  if x.state = .verified ∧ x.secVersion < s.otp.rollback then putSlot s (!s.fw.activeB) { x with state := .invalid } else s

/-- IMAGE_COMMIT (R328): the trial flag cleared, fuses burned until the counter equals the active image's
security_version. -/
def imageCommit (h : Hcp) (s : State) : State :=
  runHcp { opcode := 0x0A05, classC := true, owner := true } h s fun s =>
    if s.fw.activation.isSome then fails s .busy 0
    else
      let v := (fwSlot s s.fw.activeB).secVersion
      okay (slotAfterBurn { s with
        otp := { s.otp with rollback := max s.otp.rollback (min 64 v) }
        fw := { s.fw with trial := false, bootSeq := s.fw.bootSeq + 1 } })

/-- See `imageCommit`. -/
def execImageCommit (h : Hcp) (s : State) : Out := .next (imageCommit h s)

/-- The code of a slot state. -/
def slotCode : SlotState → Nat
  | .empty => 0 | .loading => 1 | .verified => 2 | .active => 3 | .invalid => 4

/-- A slot as IMAGE_STATUS gives it. -/
def slotBytes (x : FwSlot) : Bytes := leBytes 1 (slotCode x.state) ++ leBytes 1 x.secVersion ++ [0, 0] ++ leBytes 4 x.imageId.toNat

/-- IMAGE_STATUS (Table 13-10). -/
def imageStatus (h : Hcp) (s : State) : State :=
  runHcp { opcode := 0x0A06, recovery := true } h s fun s =>
    okWith s (slotBytes s.fw.slotA ++ slotBytes s.fw.slotB ++ leBytes 1 (b2n s.fw.activeB) ++ leBytes 1 (b2n s.fw.trial)
      ++ leBytes 1 s.fw.failed ++ leBytes 1 s.otp.rollback ++ leBytes 4 s.otp.revoked.toNat
      ++ (List.range 4).flatMap fun i => beBytes 32 (s.otp.roots.getD i 0).toNat)

/-- See `imageStatus`. -/
def execImageStatus (h : Hcp) (s : State) : Out := .next (imageStatus h s)

/-- Root `i` signed the image in either slot. -/
def rootInUse (s : State) (i : Nat) : Bool :=
  [s.fw.slotA, s.fw.slotB].any fun x => x.info.any fun im => s.otp.roots[i]? == some im.rootHash

/-- ROOT_REVOKE (R315). -/
def execRootRevoke (h : Hcp) (i : Nat) (s : State) : Out :=
  .next (runHcp { opcode := 0x0A07, classC := true, owner := true } h s fun s =>
    if 4 ≤ i then fails s .invalidArgument 0
    else if rootInUse s i then fails s .refused 0x060A
    else if (List.range 4).all fun j => j == i || bitAt s.otp.revoked j then fails s .refused 0x060B
    else okay { s with otp := { s.otp with revoked := setBit s.otp.revoked i true } })

/-- KEY_WIPE (R314): in the Recovery ROM entered by BOOTSEL0 only. -/
def keyWipe (h : Hcp) (s : State) : State :=
  runHcp { opcode := 0x0A08, owner := true, recovery := true } h s fun s =>
    if s.fw.phase ≠ .recovery true then fails s .notPermitted 0
    else okay { s with
      host := { s.host with tenants := tmap {} s.host.tenants fun _ x =>
        { x with key := none, counter := 0, shortCmac := 0, shortStatus := 0, shortReason := 0, cache := none } }
      tau := { s.tau with keys := [] }
      evr := { s.evr with area := [], counterWrites := [], header := { s.evr.header with floor := 0 } }
      fw := { s.fw with confSeq := s.fw.confSeq + 1 } }

/-- See `keyWipe`. -/
def execKeyWipe (h : Hcp) (s : State) : Out := .next (keyWipe h s)

/-! ## Start-up (R326, R327) -/

/-- The Recovery ROM is entered (R329). -/
def enterRecovery (s : State) (strap : Bool) : State :=
  { s with fw := { s.fw with phase := .recovery strap, leftRom := s.mono }, glob := { s.glob with recovery := true } }

/-- The active slot boots. -/
def bootActive (s : State) : State := { s with fw := { s.fw with phase := .booting, leftRom := s.mono } }

/-- The other slot becomes active and boots, with an IMAGE_FALLBACK windrow. -/
def bootOther (s : State) (failed : Nat) : State :=
  let old := (fwSlot s s.fw.activeB).imageId
  let s := makeActive { s with fw := { s.fw with failed := failed, failedSlot := some s.fw.activeB } } (!s.fw.activeB) false
  bootActive (fallbackWindrow s old (fwSlot s s.fw.activeB).imageId)

/-- BOOT_DECISION (Table 13-9), by the first row that matches. -/
def bootDecide (bootsel : Bool) (fl : FlashView) (s : State) : State :=
  if s.fw.phase ≠ .rom then s
  else
    let strap := bootsel && !s.fw.noStrap
    let s := { s with fw := { s.fw with noStrap := false } }
    let active := if s.fw.activeB then fl.okB else fl.okA
    let other := if s.fw.activeB then fl.okA else fl.okB
    if strap then enterRecovery s true
    else if s.fw.trial && decide (1 ≤ s.fw.failed) && other then bootOther s 0
    else if 3 ≤ s.fw.failed then enterRecovery s false
    else if active then bootActive { s with fw := { s.fw with failed := s.fw.failed + 1, bootSeq := s.fw.bootSeq + 1 } }
    else if s.fw.trial || other then bootOther s s.fw.failed
    else enterRecovery { s with fw := { s.fw with failedSlot := some s.fw.activeB } } false

/-- See `bootDecide`. -/
def execBootDecision (bootsel : Bool) (fl : FlashView) (s : State) : Out := .next (bootDecide bootsel fl s)

/-- The number of windrows in staging taken on from record number `base` (R348). -/
def renumberStaging (base : Nat) (l : List Windrow) : List Windrow :=
  ((List.range l.length).zip l).map fun e => { e.2 with num := base + (l.length - 1 - e.1) }

/-- The recorder numbers on after the last record found (R348). -/
def evrNumber (s : State) (base : Nat) : State :=
  { s with evr := { s.evr with staging := renumberStaging base s.evr.staging, next := base + s.evr.staging.length } }

/-- The newest COUNTER windrows of the ring give the door counters (R279). -/
def countersFromRing (s : State) : State :=
  let n := evrSlots s
  let found := s.evr.mem.filterMap fun e =>
    let f := resolveSeq (evrHead s) (word (leAt e.2 0 4))
    if 0 ≤ f ∧ slotHolds n f.toNat e.2 ∧ f.toNat % n = e.1 ∧ leAt e.2 16 2 = 5 then
      some (leAt e.2 20 1, f.toNat, leAt e.2 21 4, leAt e.2 25 4) else none
  let newest := fun (k : Nat) => (found.filter fun r => r.1 == k).foldl
    (fun m r => match m with
      | some x => if x.2.1 < r.2.1 then some r else m
      | none => some r) (none : Option (Nat × Nat × Nat × Nat))
  (List.range 64).foldl (fun s k =>
    match newest k with
    | some r => { s with isl := { s.isl with
        cycles := tset 0 s.isl.cycles k r.2.2.1, reversals := tset 0 s.isl.reversals k r.2.2.2 } }
    | none => s) s

/-- The start of the recorder (R346, R348, R349): the memory as found, the counters of tenants and doors, a BOOT windrow. -/
def evrStart (s : State) (scan : EvrScan) : State :=
  let s := { s with
    evr := { s.evr with nonce := s.draws, hoursAt := s.mono, checkAt := s.mono, lossNow := s.evr.lossNow }
    draws := s.draws + 1 }
  let s := match scan with
    | .none => evrMemFault s
    | .unformatted => { s with evr := { s.evr with unformatted := true } }
    | .foreign size last ring =>
      evrNumber { s with evr := { s.evr with
        foreign := true, header := { sizeMiB := size }, mem := ring.foldl (fun t e => tset [] t e.1 e.2) [], area := [] } }
        (last + 1)
    | .valid size last boots hours floor =>
      let s := evrNumber { s with
        evr := { s.evr with
          ready := true
          header := { s.evr.header with sizeMiB := size, checkpoint := last, boots := boots + 1, hours := hours, floor := floor } }
        host := { s.host with counterOk := true } } (last + 1)
      countersFromRing (countersRestore s)
  let id := match s.fw.running with | some im => im.imageId | none => 0
  report s 0x0003 (leBytes 4 s.evr.header.boots ++ leBytes 4 id.toNat ++ leBytes 1 s.fw.bootCause)

/-- The stored safety parameter set handed to both channels; one that fails leaves the island safe, PARAM (R257, R327). -/
def islandStart (s : State) : State :=
  if !s.otp.island then s
  else
    match (fwSlot s s.fw.activeB).par.bind (parCheck s) with
    | some p => chansRestart { s with isl := { s.isl with fault := setBit s.isl.fault 6 false } } (some p)
    | none => deviceSafe (chansRestart s none) 6

/-- COMPONENT_LOAD (R327): the components' hashes are checked, one that fails fails the boot; the manifest and the SFP with its
parameter set come from the active slot; the recorder, the ageing monitor and the FDB salt start. In a live activation the
new firmware loads its components (R323), and where the SFP restarts, the set again. -/
def componentLoad (checks : List LoadCheck) (scan : EvrScan) (info : Option ImageInfo) (s : State) : State :=
  let bad := checks.any fun c => !c.ok && (c.typ != 2 || s.otp.island)
  let slot := fwSlot s s.fw.activeB
  let im := match info with | some x => some x | none => slot.info
  let loaded := putSlot { s with fw := { s.fw with running := im } } s.fw.activeB
    { slot with info := im, secVersion := match im with | some x => x.secVersion | none => slot.secVersion }
  match s.fw.phase with
  | .booting =>
    if bad then bootFail s
    else
      let s := evrStart loaded scan
      let s := { s with
        fw := { s.fw with phase := .loaded }
        agm := { s.agm with avsState := avsCode s, dayAt := s.evr.header.hours }
        fab := { s.fab with fdb := { s.fab.fdb with salt := s.draws } }
        draws := s.draws + 1 }
      islandStart s
  | .paused =>
    match s.fw.activation with
    | some a =>
      if bad then s
      else
        let s := { loaded with fw := { loaded.fw with activation := some { a with loaded := true } } }
        if a.sfp then islandStart s else s
    | none => s
  | _ => s

/-- See `componentLoad`. -/
def execComponentLoad (checks : List LoadCheck) (scan : EvrScan) (info : Option ImageInfo) (s : State) : Out :=
  .next (componentLoad checks scan info s)

/-- FEATURES_OFFERED (R32, R295): bits 17 up are reserved, bit 13 needs the island. -/
def featuresOffered (s : State) : BitVec 128 :=
  setBit (Config.features &&& 0x1FFFF#128) 13 (bitAt Config.features 13 && s.otp.island)

/-- FEATURES_ACCEPTED (R295): what is offered, under feature_mask. -/
def featuresAccepted (s : State) : BitVec 128 := featuresOffered s &&& s.fw.featureMask

/-- FW_READY (R323, R326, R327): FEATURES_ACCEPTED, fw_ready, the failed-boot count cleared; after a live activation cached
responses are gone, and a sleep that fell due in the pause begins. A boot of more than 2 s, or a pause of more than 250 ms before
its fallback, has failed. -/
def fwIsReady (s : State) : State :=
  let up := { s with
    glob := { s.glob with fwReady := true, featAccepted := featuresAccepted s }
    fw := { s.fw with phase := .ready, failed := 0, readyAt := s.mono, activation := none } }
  match s.fw.phase with
  | .loaded =>
    if s.fw.leftRom + 2000000000 < s.mono then s
    else { up with pwc := { up.pwc with graceOn := s.pwc.fromStandby && s.pwc.cfg.awakeMin != 0, fromStandby := false } }
  | .paused =>
    if s.fw.activation.all fun a => a.loaded && (a.fellBack || decide (s.mono ≤ a.at_ + 250000000)) then
      let up := { up with
        fw := { up.fw with readyAt := s.fw.readyAt }
        host := { up.host with tenants := tmap {} up.host.tenants fun _ x => { x with cache := none } } }
      let up := eventsAfterPause up
      if up.pwc.entryWaits then sleepFire { up with pwc := { up.pwc with entryWaits := false } } else up
    else s
  | _ => s

/-- See `fwIsReady`. -/
def execFwReady (s : State) : Out := .next (fwIsReady s)

/-- BOOT_TIMEOUT (R326): 2 s after the boot ROM was left. -/
def bootLate (s : State) : State :=
  match s.fw.phase with
  | .booting | .loaded => bootFail (untilMono s (s.fw.leftRom + 2000000000))
  | _ => s

/-- See `bootLate`. -/
def execBootTimeout (s : State) : Out := .next (bootLate s)

/-! ## The recovery UART (R329) -/

/-- A framed message: length, message, CRC-32 over both. -/
def uartFrame (m : Bytes) : Bytes :=
  let b := leBytes 2 m.length ++ m
  b ++ leBytes 4 (Config.crc32 b).toNat

/-- The recovery command of a message (Table 13-10), run for tenant 0: an opcode of the catalogue that is not of the recovery set
is not permitted, a malformed message is an invalid argument, as on the ring (R298, R329). -/
def recoveryRun (m : Bytes) (s : State) : State :=
  let h : Hcp := { tenant := 0, classC := bitAt (m.getD 3 0) 0, tag := word (leAt m 4 4) }
  let op := leAt m 0 2
  let p := m.drop 40
  let bad := respond s h op .invalidArgument 0 []
  if !opcodeKnown op then respond s h op .unknownOpcode 0 []
  else if leAt m 2 1 ≠ 1 ∨ p.length ≠ leAt m 16 4 ∨ 8192 < p.length then bad
  else if op = 0x0A01 then
    (if p.length = 8 then imageBegin { h with classC := true } (leAt p 0 4) (word (leAt p 4 4)) s else bad)
  else if op = 0x0A02 then
    (if 8 ≤ p.length ∧ p.length = 8 + leAt p 4 2 then imageBlock { h with classC := true } (leAt p 0 4) (p.drop 8) true s else bad)
  else if op = 0x0A03 then (if p = [] then imageVerify { h with classC := true } s else bad)
  else if op = 0x0A04 then
    (if p.length = 8 ∧ leAt p 0 1 < 2 then imageActivate { h with classC := true } (leAt p 0 1 == 0) (word (leAt p 4 4)) s else bad)
  else if op = 0x0A06 then (if p = [] then imageStatus h s else bad)
  else if op = 0x0A08 then (if p = [] then keyWipe h s else bad)
  else respond s h op .notPermitted 0 []

/-- What left the device after its first `n` outputs, the responses to tenant 0 sent on the UART instead. -/
def uartAnswers (s : State) (n : Nat) : State :=
  { s with wire := s.wire.take n ++ (s.wire.drop n).map fun x =>
      match x with
      | .remoteResponse 0 b => .uart (uartFrame b)
      | y => y }

/-- The command of a message as it is in flight: its response leaves by the way it came. -/
def uartFlight (m : Bytes) : Inflight :=
  { opcode := leAt m 0 2, tag := word (leAt m 4 4), classC := false, auth := false, counter := 0, cmac := 0, room := 8192, respAddr := 0
    held := [], remote := true, committed := false, unit := 0 }

/-- UART_FRAME_RECEIVE (R329): in the Recovery ROM, a frame with a good CRC-32 is an HCP message; a bad one is dropped. -/
def uartReceive (data : Bytes) (s : State) : State :=
  let n := leAt data 0 2
  if !inRecovery s || data.length != n + 6 || decide (n < 40) then s
  else if Config.crc32 (data.take (n + 2)) ≠ word (leAt data (n + 2) 4) then s
  else
    let m := (data.drop 2).take n
    uartAnswers (recoveryRun m (modTenant s 0 fun x => { x with inflight := x.inflight ++ [uartFlight m] })) s.wire.length

/-- See `uartReceive`. -/
def execUartFrameReceive (data : Bytes) (s : State) : Out := .next (uartReceive data s)

end Sys2Proof.Machine
end

