-- ==== Sys2Proof/Machine/HostOps.lean ====
section
/-! DEFINITION. Host interface: bad accesses, doorbell pages, resets of tenants, authentication and the counter rule
(R31, R284 to R306). -/

namespace Sys2Proof.Machine

/-! ## Bad accesses (R31) -/

/-- GLOBAL_BAD_ACCESS_ADDR captures the first offending offset after rsv_access and narrow_access were last clear. -/
def badAccess (s : State) (bit off : Nat) : State :=
  let s := if bitAt s.glob.err 2 || bitAt s.glob.err 3 then s
    else { s with glob := { s.glob with badAddr := BitVec.ofNat 24 off } }
  setAlarm s .glob bit

/-- An access to a reserved offset. -/
def rsvAccess (s : State) (off : Nat) : State := badAccess s 2 off

/-! ## Resets of tenants (R305) -/

/-- A reset is requested: merged with one in progress. -/
def requestReset (s : State) (t : Nat) : State :=
  match (tenant s t).state with
  | .free => s
  | _ => modTenant s t fun x => { x with state := .resetting, resetDue := true }

/-- Descriptors of the TX queues that have not been consumed. -/
def txUnsent (x : Tenant) : Nat := (x.txq.map fun e => if e.2.enabled then (e.2.prod - e.2.cons).toNat else 0).sum

/-- `n` frames of TX queues that are not yet in the fabric are discarded with TENANT_RESET at port 96; their lengths are
not known to the device: free values. -/
def dropUnsent : Nat → State → Nat → State
  | 0, s, _ => s
  | n + 1, s, t =>
    let d := draw s
    dropUnsent n (discard d.2 { port := 96, reason := 7, ingress := 96, egress := 96, tenant := t, len := d.1 }) t

/-- What waits at port 96 for a tenant is discarded there; a conforming frame of an admitted stream is a violation (R125). -/
def dropItem (s : State) (t reason : Nat) (i : RxItem) : State :=
  match i.held.bind fun k => (heldOf s k).map fun h => (k, h) with
  | some (k, h) => releaseFrame (discardHeld s h (if reason = 8 then h.ingress else 96) 96 reason) k
  | none => discard s { port := 96, reason := reason, ingress := i.ingress, egress := 96, tenant := t, cls := i.cls, len := i.len }

/-- The frames that wait in the port 96 queues of a tenant are discarded with TENANT_RESET. -/
def dropWaiting (s : State) (t : Nat) : State :=
  let w := (tenant s t).waiting
  w.foldl (fun s i => dropItem s t 7 i) (modTenant s t fun x => { x with waiting := [] })

/-- The harvests of a tenant abort (R192). -/
def harvestsAbort (s : State) (t : Nat) : State :=
  [0, 1, 2, 3].foldl (fun s b =>
    if (tget ({} : HarvestBank) s.ports.banks b).next.any fun n => n.1 == t then
      (if tauLive (tauOf s (60 + b)) then tauAbort s (60 + b) 8 else harvestAbort s b 8)
    else s) s

/-- A tenant after its reset (R305, step 5): queues disabled, indexes 0; ring bases, ring indexes, key, rights, counter and
cached response kept. -/
def tenantAfterReset (x : Tenant) : Tenant :=
  irqSettle { x with
    txq := x.txq.map fun e => (e.1, { e.2 with enabled := false, prod := 0, cons := 0 })
    rxq := x.rxq.map fun e => (e.1, { e.2 with enabled := false, prod := 0, cons := 0 })
    faultWhere := 0, faultCode := 0, features := 0, maxWake := 4294967295, resetDue := false, state := .configured
    abortLeft := (x.cmdProd - x.cmdCons).toNat }

/-- The reset of a tenant carried out (R305); a removed tenant then loses rights and key and is FREE, and keeps the rest
(Table 12-2). -/
def resetTenant (s : State) (t : Nat) : State :=
  let s := ((tenant s t).inflight.filter fun i => !i.committed).foldl
    (fun s i => respond s { tenant := t, classC := i.classC, tag := i.tag } i.opcode .abortedReset 0 []) s
  let s := tausAbort s (fun _ r => r.owner == some t && decide (scale16 s r.wyt + 1000 * 65536 ≤ r.fire)) 8
  let s := farTenantReset (withdrawTenant (harvestsAbort s t) t) t
  let s := { s with pwc := { s.pwc with keepers := sdel s.pwc.keepers t } }
  let s := dropWaiting (dropUnsent (txUnsent (tenant s t)) s t) t
  let s := modTenant s t tenantAfterReset
  let s := kaSettle (event s t 10 [])
  if (tenant s t).removing then
    modTenant s t fun x => { x with state := .free, rights := 0, key := none, removing := false }
  else s

/-! ## Doorbell pages (Tables 12-4 and 12-6) -/

/-- The code of a tenant state. -/
def tenantCode : TenantState → Nat
  | .free => 0 | .configured => 1 | .opened => 2 | .faulted => 3 | .resetting => 4

/-- The code of an attachment. -/
def attachCode : Attach → Nat
  | .none => 0 | .pcie => 1 | .spi => 2 | .remote => 3

/-- The page of a tenant answers on a path: every tenant's does, but for tenant 0's on the path that is not its attachment once
it has one (R285). -/
def pageOn (x : Tenant) (t : Nat) (path : Attach) : Bool := t != 0 || x.attach == .none || x.attach == path

/-- Half `hi` of a 64-bit base. -/
def halfOf (v : BitVec 64) (hi : Bool) : Word := if hi then (v >>> 32).truncate 32 else v.truncate 32

/-- A 64-bit base with one half written; the low `k` bits are zero. -/
def putHalf (v : BitVec 64) (hi : Bool) (w : Word) (k : Nat) : BitVec 64 :=
  if hi then BitVec.ofNat 64 (w.toNat * 2 ^ 32 + v.toNat % 2 ^ 32)
  else BitVec.ofNat 64 (v.toNat / 2 ^ 32 * 2 ^ 32 + w.toNat / 2 ^ k * 2 ^ k)

/-- A queue register read: 0 base low, 1 base high, 2 configuration, 3 producer, 4 consumer. -/
def queueReg (x : HostQueue) (r : Nat) : Word :=
  if r = 0 then halfOf x.base false else if r = 1 then halfOf x.base true
  else if r = 2 then word (b2n x.enabled * 2 ^ 31 + x.log2) else if r = 3 then x.prod else x.cons

/-- The queue register an offset of a doorbell page names: RX, queue and register. -/
def queueAt (off : Nat) : Option (Bool × Nat × Nat) :=
  if 0x100 ≤ off ∧ off < 0x300 ∧ off % 32 < 20 then some (decide (0x200 ≤ off), off % 256 / 32, off % 32 / 4) else none

/-- A queue of a tenant. -/
def queueRead (x : Tenant) (isRx : Bool) (q : Nat) : HostQueue := tget {} (if isRx then x.rxq else x.txq) q

/-- A queue of a tenant written. -/
def queuePut (x : Tenant) (isRx : Bool) (q : Nat) (v : HostQueue) : Tenant :=
  if isRx then { x with rxq := tset {} x.rxq q v } else { x with txq := tset {} x.txq q v }

/-- The base register an offset names: which ring, high half, and its alignment in bits. -/
def baseAt (off : Nat) : Option (Nat × Bool × Nat) :=
  match off with
  | 0x010 => some (0, false, 6) | 0x014 => some (0, true, 6)
  | 0x018 => some (1, false, 6) | 0x01C => some (1, true, 6)
  | 0x020 => some (2, false, 5) | 0x024 => some (2, true, 5)
  | _ => none

/-- The base of a ring as it reads; an SPI tenant's rings lie at fixed offsets (R284). -/
def ringBase (x : Tenant) (r : Nat) : BitVec 64 :=
  if x.attach = .spi then BitVec.ofNat 64 (0x1000 * (r + 1))
  else if r = 0 then x.cmdBase else if r = 1 then x.rspBase else x.evtBase

/-- A register of a doorbell page read; none where the offset is not listed. -/
def pageRead (s : State) (t off : Nat) (spi : Bool) : Option Word :=
  let x := tenant s t
  match baseAt off, queueAt off with
  | some (r, hi, _), _ => some (halfOf (ringBase x r) hi)
  | _, some (isRx, q, r) => some (if spi || x.attach == .spi then 0 else queueReg (queueRead x isRx q) r)
  | none, none =>
    match off with
    | 0x000 => some (word (tenantCode x.state + attachCode x.attach * 8 + b2n s.host.counterOk * 32))
    | 0x004 => some (word (x.faultCode + x.faultWhere * 256))
    | 0x008 => some x.ctrl
    | 0x00C => some 0
    | 0x028 => some (word (if x.attach = .spi then 7 else x.evtSize))
    | 0x02C => some x.authFail
    | 0x040 => some x.cmdProd
    | 0x044 => some x.cmdCons
    | 0x048 => some x.rspProd
    | 0x04C => some x.rspCons
    | 0x050 => some x.evtProd
    | 0x054 => some x.evtCons
    | 0x058 => some x.evtLost
    | _ => none

/-- A command producer more than 64 entries ahead faults a tenant whose ring is served with RING_OVERRUN (R288). -/
def ringCheck (s : State) (t : Nat) : State :=
  if 64 < ((tenant s t).cmdProd - (tenant s t).cmdCons).toNat then faultTenant s t 0x20 2 else s

/-- MBX_T_CMD_PROD written: the doorbell (R288); NAP ends (R333). -/
def doorbell (s : State) (t : Nat) (prod : Word) : State :=
  ringCheck (napEnd (modTenant s t fun x => { x with cmdProd := prod })) t

/-- MBX_T_EVT_CONS written; where events have been lost and there is room, one events_lost event carries the count (R289). -/
def eventRoom (s : State) (t : Nat) (cons : Word) : State :=
  let s := modTenant s t fun x => irqSettle { x with evtCons := cons }
  let x := tenant s t
  if x.lostNow ≠ 0 ∧ bitAt x.ctrl 1 ∧ (x.evtProd - x.evtCons).toNat < eventRing x then
    event (modTenant s t fun x => { x with lostNow := 0 }) t 11 (leBytes 4 x.lostNow)
  else s

/-- MBX_T_RESET written. -/
def resetWrite (s : State) (t : Nat) (v : Word) : State := if bitAt v 0 then requestReset s t else s

/-- MBX_T_CTRL written on a path: tenant 0's attachment is the path on which its command ring is first enabled (R285). The
line of an SPI tenant follows its enables (R284). -/
def ctrlWrite (s : State) (t : Nat) (v : Word) (path : Attach) : State :=
  let s := modTenant s t fun x =>
    let x := irqSettle { x with ctrl := v &&& 0xFF3F }
    if t = 0 ∧ x.attach = .none ∧ bitAt v 0 then { x with attach := path } else x
  let x := tenant s t
  if x.attach = .spi ∧ irqPending x ∧ ¬ x.irqSpi then raiseTenant s t else s

/-- An enabled queue's producer more than the queue's size ahead is RING_OVERRUN (Table 12-5). -/
def queueCheck (s : State) (t : Nat) (isRx : Bool) (q : Nat) : State :=
  let x := queueRead (tenant s t) isRx q
  if x.enabled ∧ 2 ^ x.log2 < (x.prod - x.cons).toNat then faultTenant s t (q + 16 * b2n isRx) 2 else s

/-- A queue producer written. -/
def queueProd (s : State) (t : Nat) (isRx : Bool) (q : Nat) (prod : Word) : State :=
  let x := queueRead (tenant s t) isRx q
  queueCheck (modTenant s t fun y => queuePut y isRx q { x with prod := prod }) t isRx q

/-- A queue's base or configuration written: only while it is disabled (R287). -/
def queueConfig (s : State) (t : Nat) (isRx : Bool) (q r : Nat) (v : Word) (off : Nat) : State :=
  let x := queueRead (tenant s t) isRx q
  if x.enabled then rsvAccess s off
  else
    let y := if r = 0 then { x with base := putHalf x.base false v 5 }
      else if r = 1 then { x with base := putHalf x.base true v 5 }
      else if 4 ≤ v.toNat % 16 ∧ v.toNat % 16 ≤ 12 then { x with enabled := bitAt v 31, log2 := v.toNat % 16 }
      else x
    queueCheck (modTenant s t fun z => queuePut z isRx q y) t isRx q

/-- A ring's base written: only while the ring is disabled; an SPI tenant's stays where it is (R284, R287). -/
def baseWrite (s : State) (t r : Nat) (hi : Bool) (k : Nat) (v : Word) (off : Nat) : State :=
  let x := tenant s t
  if bitAt x.ctrl (if r = 2 then 1 else 0) then rsvAccess s off
  else if x.attach = .spi then s
  else modTenant s t fun x =>
    if r = 0 then { x with cmdBase := putHalf x.cmdBase hi v k }
    else if r = 1 then { x with rspBase := putHalf x.rspBase hi v k }
    else { x with evtBase := putHalf x.evtBase hi v k }

/-- MBX_T_EVT_SIZE written: 6 to 12, while the event ring is disabled. -/
def evtSizeWrite (s : State) (t : Nat) (v : Word) (off : Nat) : State :=
  if bitAt (tenant s t).ctrl 1 then rsvAccess s off
  else if 6 ≤ v.toNat % 16 ∧ v.toNat % 16 ≤ 12 then modTenant s t fun x => { x with evtSize := v.toNat % 16 }
  else s

/-- A register of a doorbell page written (Table 12-4): read-only ones ignore the value; none where the offset is not
listed. `full` is the BAR0 offset an ignored write captures. -/
def pageWrite (s : State) (t off : Nat) (v : Word) (path : Attach) (full : Nat) : Option State :=
  match baseAt off, queueAt off with
  | some (r, hi, k), _ => some (baseWrite s t r hi k v full)
  | _, some (isRx, q, r) =>
    some (if path = .spi ∨ (tenant s t).attach = .spi then s else if r = 3 then queueProd s t isRx q v
      else if r = 4 then s else queueConfig s t isRx q r v full)
  | none, none =>
    match off with
    | 0x008 => some (ctrlWrite s t v path)
    | 0x00C => some (resetWrite s t v)
    | 0x028 => some (evtSizeWrite s t v full)
    | 0x040 => some (doorbell s t v)
    | 0x04C => some (modTenant s t fun x => irqSettle { x with rspCons := v })
    | 0x054 => some (eventRoom s t v)
    | 0x000 | 0x004 | 0x02C | 0x044 | 0x048 | 0x050 | 0x058 => some s
    | _ => none

/-! ## The catalogue (Table 12-14) -/

/-- An opcode the Recovery ROM accepts (R329). -/
def opcodeRecovery (op : Nat) : Bool := [0x0A01, 0x0A02, 0x0A03, 0x0A04, 0x0A06, 0x0A08].contains op

/-! ## Authentication (R301 to R303, Table 12-12) -/

/-- The CMAC of a command addressed to unit `u` verifies under the tenant's key (R302). -/
def cmacGood (s : State) (t : Nat) (e : CmdEntry) (u : UnitId) : Bool :=
  (tenant s t).key.any fun k =>
    cmac96 k (leBytes 8 u.toNat ++ leBytes 8 e.counter.toNat ++ leBytes 2 e.opcode ++ e.payload) == e.cmac

/-- The first 4 B of a CMAC, in the order the CMAC produces them. -/
def cmacHead (c : BitVec 96) : Word := BitVec.ofNat 32 (c.toNat / 2 ^ 64)

/-- A command answered without being executed. -/
def turnAway (s : State) (t : Nat) (e : CmdEntry) (st : Status) (reason flags : Nat) (u : UnitId) (remote : Bool) : State :=
  putResponse s t
    { opcode := e.opcode ||| 0x8000, flags := b2n e.classC + flags, tag := e.tag, counter := e.counter, status := st.code
      reason := reason, payload := [], cmac := responseCmac (tenant s t).key u e.counter e.opcode st reason [] } remote

/-- A status code read back from the short record. -/
def statusOf (n : Nat) : Status :=
  match n with
  | 0 => .ok | 1 => .busy | 2 => .refused | 3 => .authFail | 4 => .replay | 5 => .notPermitted | 6 => .abortedReset
  | 7 => .ownerMismatch | 8 => .stale | 9 => .poisoned | 10 => .safeStateRequired | 11 => .invalidArgument
  | _ => .unknownOpcode

/-- A command addressed to unit `u` enters execution (R299). A remote message answers inline up to 1408 B (R306), an entry of a
ring up to 24 B, or into the response buffer of an indirect one (R297). -/
def takeUp (s : State) (t : Nat) (e : CmdEntry) (u : UnitId) (auth remote : Bool) : State :=
  modTenant s t fun x => { x with
    inflight := x.inflight ++ [{ opcode := e.opcode, tag := e.tag, classC := e.classC, auth := auth, counter := e.counter
                                 cmac := e.cmac, room := if remote then 1408 else if e.indirect then e.respSize else 0, respAddr := e.respAddr, held := [], remote := remote
                                 committed := false, unit := u }] }

/-- A resend of the command accepted last, by Table 12-12. -/
def resendRule (s : State) (t : Nat) (e : CmdEntry) (u : UnitId) (remote : Bool) : State :=
  let x := tenant s t
  let same := fun (i : Inflight) => i.auth && i.counter == e.counter && i.cmac == e.cmac
  if x.inflight.any same then
    let mark := fun (i : Inflight) => if same i then { i with held := i.held ++ [e.tag] } else i
    modTenant s t fun x => { x with inflight := x.inflight.map mark }
  else
    match x.cache with
    | some r =>
      if x.cacheCmac = e.cmac then putResponse s t { r with tag := e.tag, flags := r.flags ||| 4 } remote
      else turnAway s t e .replay 0 0 u remote
    | none =>
      if x.shortCmac = cmacHead e.cmac then turnAway s t e (statusOf x.shortStatus) x.shortReason 20 u remote
      else turnAway s t e .replay 0 0 u remote

/-- A command whose CMAC verifies, by Table 12-12: a higher counter is accepted, written to the counter area (R301, R357) and
executed. -/
def counterRule (s : State) (t : Nat) (e : CmdEntry) (u : UnitId) (remote : Bool) : State :=
  let x := tenant s t
  if x.counter.toNat < e.counter.toNat then
    let s := modTenant s t fun x => { x with
      counter := e.counter, cacheCmac := e.cmac, cache := none, shortCmac := cmacHead e.cmac, shortStatus := 0, shortReason := 0 }
    takeUp (areaAccept s t e.counter (cmacHead e.cmac)) t e u true remote
  else if x.counter = e.counter then resendRule s t e u remote
  else turnAway s t e .replay 0 0 u remote

/-- An EVR_FORMAT that needs no counter store: on a memory that is unformatted or foreign (R358). -/
def formatExempt (s : State) (t : Nat) (e : CmdEntry) : Bool :=
  e.opcode == 0x0C04 && t == 0 && (s.evr.unformatted || s.evr.foreign)

/-- An authenticated command (R301, R303); one that fails authentication is counted, and answered unless it came from
remote (R306). -/
def authenticate (s : State) (t : Nat) (e : CmdEntry) (u : UnitId) (remote : Bool) : State :=
  if !cmacGood s t e u then
    let s := modTenant s t fun x => { x with authFail := x.authFail + 1 }
    if remote then s else turnAway s t e .authFail 0 0 u false
  else if formatExempt s t e then takeUp s t e u true remote
  else if !s.host.counterOk then turnAway s t e .notPermitted 0x0701 0 u remote
  else counterRule s t e u remote

/-- TENANT_KEY_SET for tenant 0 while it has no key, from its local attachment (R314). -/
def firstKey (s : State) (t : Nat) (op : Nat) : Bool := op == 0x0003 && t == 0 && (tenant s 0).key.isNone

/-- A fetched command (R297, R298, R329): a malformed one completes at once; class C is authenticated; the rest are taken
up. -/
def admitCommand (s : State) (t : Nat) (e : CmdEntry) : State :=
  let plain := fun (st : Status) (reason : Nat) =>
    putResponse s t
      { opcode := e.opcode ||| 0x8000, flags := b2n e.classC, tag := e.tag, counter := e.counter, status := st.code
        reason := reason, payload := [], cmac := 0 } false
  if !opcodeKnown e.opcode then plain .unknownOpcode 0
  else if e.version ≠ 1 ∨ 8192 < e.payloadLen ∨ e.payload.length ≠ e.payloadLen ∨ (¬ e.indirect ∧ 24 < e.payloadLen) then
    plain .invalidArgument 0
  else if inRecovery s then (if opcodeRecovery e.opcode then takeUp s t e s.otp.unitId false false else plain .notPermitted 0)
  else if e.classC && !firstKey s t e.opcode then authenticate s t e s.otp.unitId false
  else takeUp s t e s.otp.unitId false false

end Sys2Proof.Machine
end

