-- ==== Sys2Proof/Machine/Host.lean ====
section
/-! DEFINITION. Host interface and tenants: fetch, queues, interrupts, remote tenants and the Session commands
(R283 to R306, R311). -/

namespace Sys2Proof.Machine

/-- A write of a doorbell page's register by a row of its own: an SPI tenant writes it by SPI, every other by a posted host write
(R29, R285). -/
def pageRow (s : State) (t off : Nat) (f : State → State) : State :=
  if 256 ≤ t then s
  else if (tenant s t).attach = .spi then f s
  else posted s (0x100000 + t * 0x1000 + off) f

/-- COMMAND_DOORBELL: MBX_T_CMD_PROD written (R288). -/
def execCommandDoorbell (t : Nat) (prod : Word) (s : State) : Out :=
  .next (pageRow s t 0x040 fun s => doorbell s t prod)

/-- MBX_T_RESET_WRITE (R305). -/
def execMbxTResetWrite (t : Nat) (v : Word) (s : State) : Out :=
  .next (pageRow s t 0x00C fun s => resetWrite s t v)

/-- TENANT_RESET_EXECUTE: a requested reset is carried out (R305). A command ring that is still overrun faults the tenant
again (R288). -/
def execTenantResetExecute (t : Nat) (s : State) : Out :=
  .next (if (tenant s t).resetDue then ringCheck (resetTenant s t) t else s)

/-- EVENT_RING_ROOM (R289). -/
def execEventRingRoom (t : Nat) (cons : Word) (s : State) : Out :=
  .next (pageRow s t 0x054 fun s => eventRoom s t cons)

/-- QUEUE_PRODUCER_WRITE (Tables 12-4, 12-5); SPI tenants have no queues (R284). -/
def execQueueProducerWrite (t : Nat) (isRx : Bool) (q : Nat) (prod : Word) (s : State) : Out :=
  .next (if q < 8 ∧ (tenant s t).attach ≠ .spi then
    pageRow s t (0x10C + 0x100 * b2n isRx + 0x20 * q) fun s => queueProd s t isRx q prod else s)

/-- The `where` code of a ring or queue (Table 12-6). -/
def ringCode : RingRef → Nat
  | .txq q => q % 8 | .rxq q => 0x10 + q % 8 | .cmd => 0x20 | .rsp => 0x21 | .evt => 0x22

/-- DMA_COMPLETION_TIMEOUT: a read begun at this instant stays unanswered for the completion timeout of Device Control 2, then
DMA_ERROR for the tenant concerned (R283). -/
def execDmaCompletionTimeout (t : Nat) (ring : RingRef) (s : State) : Out :=
  .next (faultTenant (untilMono s (s.mono + s.host.completionUs * 1000)) t (ringCode ring) 1)

/-- The holdoff of a tenant's vector ends: a condition that arose meanwhile raises it (R290). -/
def irqHoldoffEnd (t : Nat) (s : State) : State :=
  let x := tenant s t
  match x.raisedAt, x.irqWait with
  | some r, true => raiseTenant (untilMono s (r + holdoffTicks x)) t
  | _, _ => s

/-- INTERRUPT_HOLDOFF_END (R290). -/
def execInterruptHoldoffEnd (t : Nat) (s : State) : Out := .next (irqHoldoffEnd t s)

/-! ## Fetching commands (R288, R299) -/

/-- The MGP fetches commands: fw_ready and no pause, or the Recovery ROM for tenant 0 (R15, R299, R329). -/
def fetches (s : State) (t : Nat) : Bool :=
  (s.fw.phase == .ready && s.glob.fwReady) || (inRecovery s && t == 0)

/-- The response entries reserved for commands fetched and not answered, copies held for them included (R288, R303). -/
def reserved (x : Tenant) : Nat := (x.inflight.map fun i => if i.remote then 0 else 1 + i.held.length).sum

/-- A tenant has a command to fetch, and a response entry can be reserved for it. -/
def fetchable (s : State) (t : Nat) : Bool :=
  let x := tenant s t
  fetches s t && (x.attach == .pcie || x.attach == .spi) && (x.state == .configured || x.state == .opened)
    && bitAt x.ctrl 0 && x.cmdProd != x.cmdCons && decide ((x.rspProd - x.rspCons).toNat + reserved x < 64)

/-- The tenant whose turn it is: the first after the one served last, in rotation (R299). -/
def nextTurn (s : State) : Option Nat :=
  let ready := (s.host.tenants.map Prod.fst).filter fun t => fetchable s t && (tenant s t).inflight.isEmpty
  match ready.find? fun t => decide (s.host.served < t) with
  | some t => some t
  | none => ready.head?

/-- A fetched entry repeats the command that still executes (Table 12-12, fifth row). -/
def repeats (x : Tenant) (e : CmdEntry) : Bool :=
  x.inflight.any fun i => i.auth && i.counter == e.counter && i.cmac == e.cmac

/-- Commands taken up since `n` were in flight complete with ABORTED_RESET: they had not been fetched when the tenant was
reset (R305). -/
def abortFetched (s : State) (t n : Nat) : State :=
  ((tenant s t).inflight.drop n).foldl
    (fun s i => respond s { tenant := t, classC := i.classC, tag := i.tag } i.opcode .abortedReset 0 []) s

/-- One command entry fetched by DMA (R283, R288, R299, R305). -/
def fetchOne (t : Nat) (e : CmdEntry) (s : State) : State :=
  let n := (tenant s t).inflight.length
  let late := (tenant s t).abortLeft
  let s := modTenant { s with host := { s.host with served := t } } t fun x =>
    { x with cmdCons := x.cmdCons + 1, abortLeft := x.abortLeft - 1 }
  let s := admitCommand s t e
  if late = 0 then s else abortFetched s t n

/-- Bytes of an SPI tenant's rings and staging area (R284). -/
def spiLoad (x : Tenant) (off n : Nat) : Bytes :=
  (List.range n).map fun i => BitVec.ofNat 8 ((tget 0 x.spi ((off + i) / 4)).toNat / 256 ^ ((off + i) % 4))

/-- The entry at the consumer index of an SPI tenant's command ring (Table 12-9, R284, R297). -/
def spiEntry (x : Tenant) : CmdEntry :=
  let b := spiLoad x (0x1000 + x.cmdCons.toNat % 64 * 64) 64
  let flags := leAt b 3 1
  let n := leAt b 16 4
  let far := flags / 2 % 2 == 1
  { opcode := leAt b 0 2, version := leAt b 2 1, classC := flags % 2 == 1, indirect := far, tag := word (leAt b 4 4)
    counter := BitVec.ofNat 64 (leAt b 8 8), payloadLen := n, cmac := BitVec.ofNat 96 (beNum (bytesAt b 24 12))
    payload := if far then spiLoad x (0x4000 + leAt b 40 8 % 0x4000) (min n 8193) else bytesAt b 40 (min n 24)
    respAddr := if far then leAt b 48 8 % 0x4000 else 0, respSize := if far then leAt b 56 4 else 0 }

/-- What a fetch brings: the rings of an SPI tenant lie inside the device, so its entry stands there and no DMA fails. -/
def fetched (s : State) (t : Nat) (e : Dma CmdEntry) : Dma CmdEntry :=
  if (tenant s t).attach = .spi then .ok (spiEntry (tenant s t)) else e

/-- COMMAND_FETCH: the next command of the tenant whose turn it is; a command of a tenant waits while its earlier one
executes, but for a resend of that one. -/
def execCommandFetch (t : Nat) (e : Dma CmdEntry) (s : State) : Out :=
  .next (
    let e := fetched s t e
    let rep : Bool := match e with | .ok e => fetchable s t && repeats (tenant s t) e | .failed => false
    if nextTurn s = some t ∨ rep then
      match e with
      | .ok e => fetchOne t e s
      | .failed => faultTenant s t 0x20 1
    else s)

/-! ## TX queues (R292) -/

/-- A TX queue that works: its tenant is OPEN and has the right, and a descriptor waits. -/
def txReady (s : State) (t q : Nat) : Bool :=
  let x := queueRead (tenant s t) false q
  (tenant s t).state == .opened && hasRight s t 8 && x.enabled && x.prod != x.cons

/-- The descriptor at the consumer index completes: status and stamp written back, done last; the vector raised where its
flag and irq_tx ask for it (R290, R292). -/
def txComplete (s : State) (t q : Nat) (irq : Bool) (st : Status) (stamp : Word) : State :=
  let x := queueRead (tenant s t) false q
  let s := modTenant s t fun y =>
    queuePut { y with txWrites := y.txWrites ++ [{ queue := q, index := x.cons, status := st.code, stamp := stamp }] } false q
      { x with cons := x.cons + 1 }
  if irq && bitAt (tenant s t).ctrl 4 then raiseTenant s t else s

/-- The held frame that `k` numbers waits to stamp a descriptor (R292). -/
def markStamp (s : State) (k : Nat) (want : Bool) (r : Nat × Nat × Word) : State :=
  match heldOf s k with
  | some h => if want then { s with fab := { s.fab with held := tset none s.fab.held k (some { h with txRef := some r }) } } else s
  | none => s

/-- A frame of a TX queue enters the fabric at port 96 (R114 to R128); `force` names the port of kinds 1 and 4. -/
def txInject (s : State) (t q : Nat) (f : Frame) (force : Option Nat) (stamp : Bool) : State :=
  let idx := (queueRead (tenant s t) false q).cons
  match classify s 96 f (some t) with
  | .deny s reason tn cls stream green => denied s 96 f reason tn cls stream green
  | .pass s r =>
    let s := fdbLearn (countRx s 96 f) 96 f.src ((vlanOf s r.vid).fid.getD r.vid) r.tenant
    let k := s.fab.nextId
    let r := match force with | some p => { r with ports := prpPorts s 96 [p] } | none => r
    markStamp (brineAndQueue s 96 r false) k stamp (t, q, idx)

/-- A frame addressed to an alias entry: its MAC and VLAN (R208). -/
def toAlias (f : Frame) (a : AliasEntry) : Frame :=
  { f with dst := a.mac, vlan := some { vid := a.vlan, pcp := match f.vlan with | some v => v.pcp | none => 0 }
           len := f.len + (if f.vlan.isNone then 4 else 0) }

/-- A descriptor of a kind within range (Table 12-7). -/
def txKind (s : State) (t q : Nat) (d : TxDesc) : State :=
  let f := { d.frame with len := d.length, fcsOk := true }
  match d.kind with
  | 0 => txComplete (txInject s t q f none d.stamp) t q d.irq .ok 0
  | 1 =>
    if 96 ≤ d.port then txComplete s t q d.irq .invalidArgument 0
    else if !hasPort s t d.port then txComplete s t q d.irq .notPermitted 0
    else txComplete (txInject s t q f (some d.port) d.stamp) t q d.irq .ok 0
  | 2 =>
    match aliasLookup s d.dest with
    | none =>
      txComplete (discard s { port := 96, reason := 4, ingress := 96, tenant := t, len := d.length }) t q d.irq .ok 0
    | some a => txComplete (txInject s t q (toAlias f a) none d.stamp) t q d.irq .ok 0
  | 3 =>
    let c := commitSlot s d.dest t (d.data.take d.length)
    let seq : Word := match slotIndex c.2 d.dest with
      | some i => if c.1 = .ok then ((c.2.css.slots[i]?).map TxSlot.prodSeq).getD 0 else 0
      | none => 0
    txComplete c.2 t q d.irq c.1 seq
  | _ =>
    if portKind d.port ≠ .can then txComplete s t q d.irq .invalidArgument 0
    else if !hasPort s t d.port then txComplete s t q d.irq .notPermitted 0
    else
      txComplete (txInject s t q { f with etype := 0, vlan := none, payload := d.data.take d.length } (some d.port) d.stamp)
        t q d.irq .ok 0

/-- TX_DESCRIPTOR (R292): the next descriptor of a TX queue; a bad one, or a failed read, faults the tenant (Table 12-5). -/
def execTxDescriptor (t q : Nat) (d : Dma TxDesc) (s : State) : Out :=
  .next (
    if q < 8 ∧ txReady s t q then
      match d with
      | .failed => faultTenant s t q 1
      | .ok d => if 4 < d.kind ∨ d.length < 1 ∨ 9216 < d.length then faultTenant s t q 3 else txKind s t q d
    else s)

/-! ## RX queues (R293) -/

/-- An RX queue that works, with a descriptor. -/
def rxReady (s : State) (t q : Nat) : Bool :=
  let x := queueRead (tenant s t) true q
  (tenant s t).state == .opened && hasRight s t 8 && x.enabled && x.prod != x.cons

/-- The rank of what waits for a tenant (Table 1-4). -/
def itemRank (i : RxItem) : Nat :=
  if i.cls = 6 then 1 else if i.cls = 7 ∨ i.css then 2 else if 4 ≤ i.cls then 3 else 4

/-- The item a queue delivers next: the oldest of the highest rank (R22, R293). -/
def nextItem (q : Nat) (l : List RxItem) : Option RxItem :=
  [1, 2, 3, 4].findSome? fun r => l.find? fun i => i.queue == q && itemRank i == r

/-- A delivered frame leaves by port 96: its residence is compared with its bound (R137), it is counted as sent there (R187),
and its cells return. -/
def freeItem (s : State) (i : RxItem) : State :=
  match i.held.bind fun k => (heldOf s k).map fun h => (k, h) with
  | some (k, h) => releaseFrame (countTx (checkResidence s 96 h) 96 (egressFrame s 96 h)) k
  | none => s

/-- An item written into the buffer of the descriptor at the consumer index (R293, R290). -/
def rxWriteBack (s : State) (t q : Nat) (i : RxItem) : State :=
  let x := queueRead (tenant s t) true q
  let w : RxWrite :=
    { queue := q, index := x.cons, len := i.len, ingress := i.ingress, flags := 128 + 64 * b2n i.css + i.cls
      window := i.index, trt := i.trt, wyt := i.wyt, pan := i.pan, epoch := i.epoch, data := i.data }
  let s := modTenant s t fun y =>
    queuePut { y with rxWrites := y.rxWrites ++ [w], waiting := y.waiting.erase i } true q { x with cons := x.cons + 1 }
  let s := freeItem s i
  if bitAt (tenant s t).ctrl 5 then raiseTenant s t else s

/-- RX_DELIVERY (R293): the frame a queue delivers next goes into its next descriptor; one longer than the buffer is discarded
at egress 96 and the descriptor kept. -/
def execRxDelivery (t q : Nat) (d : Dma RxDesc) (s : State) : Out :=
  .next (
    if q < 8 ∧ rxReady s t q then
      match nextItem q (tenant s t).waiting, d with
      | none, _ => s
      | some _, .failed => faultTenant s t (0x10 + q) 1
      | some i, .ok d =>
        if d.size < i.len then
          dropItem (modTenant s t fun y => { y with waiting := y.waiting.erase i }) t 10 i
        else rxWriteBack s t q i
    else s)

/-! ## Remote tenants (R306) -/

/-- The unit ID of a remote command addresses this device; what is addressed to a twin pair the device with the duties answers
(R214). -/
def unitHere (s : State) (u : UnitId) : Bool := if u = nodeUnit s then twinDuties s else u == s.otp.unitId

/-- A remote command is the tenant's own. -/
def remoteMatches (s : State) (c : RemoteHcp) : Bool :=
  let x := tenant s c.tenant
  x.attach == .remote && x.mac == c.src && x.vlan == c.vlan && c.subtype == 0x30 && c.version == 1 && unitHere s c.unit

/-- What is wrong with the message of an authenticated remote command, if anything (R298, R306). -/
def remoteFault (e : CmdEntry) : Option Status :=
  if !opcodeKnown e.opcode then some .unknownOpcode
  else if e.version ≠ 1 ∨ e.indirect ∨ 1408 < e.payloadLen ∨ e.payload.length ≠ e.payloadLen then some .invalidArgument
  else none

/-- An authenticated remote command: a malformed one completes at once. -/
def remoteTake (s : State) (t : Nat) (e : CmdEntry) (u : UnitId) : State :=
  let n := (tenant s t).inflight.length
  let s := authenticate s t e u true
  match remoteFault e with
  | none => s
  | some st =>
    ((tenant s t).inflight.drop n).foldl
      (fun s i => respond s { tenant := t, classC := i.classC, tag := i.tag } i.opcode st 0 []) s

/-- A remote HCP command (R306): served while the MGP serves and the tenant is not FAULTED or RESETTING. -/
def remoteIn (c : RemoteHcp) (s : State) : State :=
  let s := napEnd s
  let n := 70 + c.entry.payload.length + (if c.vlan = 0 then 0 else 4)
  if !fetches s 1 then s
  else if !remoteMatches s c then
    discard s { port := 97, reason := 4, ingress := 97, egress := 97, tenant := c.tenant, len := n }
  else
    let s := countSent s 97 n false
    if (tenant s c.tenant).state = .configured ∨ (tenant s c.tenant).state = .opened then remoteTake s c.tenant c.entry c.unit
    else s

/-- REMOTE_HCP_RECEIVE (R306). -/
def execRemoteHcpReceive (c : RemoteHcp) (s : State) : Out := .next (remoteIn c s)

/-! ## Session commands (R296, R285, R301, R305, R295, R293, R304) -/

/-- SESSION_OPEN (R296): a CONFIGURED tenant becomes OPEN with the features both sides have. -/
def execSessionOpen (h : Hcp) (version : Nat) (mask : BitVec 128) (maxWake : Nat) (s : State) : Out :=
  .next (runHcp { opcode := 0x0001, features := [] } h s fun s =>
    let x := tenant s h.tenant
    if version ≠ 1 then fails s .invalidArgument 0
    else if x.state ≠ .configured ∧ x.state ≠ .opened then fails s .refused 0
    else
      let f := mask &&& s.glob.featAccepted
      okWith (kaSettle (modTenant s h.tenant fun x => { x with state := .opened, features := f, maxWake := maxWake }))
        (leBytes 16 f.toNat ++ leBytes 8 x.counter.toNat))

/-- A configuration of a tenant is well formed (R284, R286): a FREE tenant, SPI only for 0 to 15, rights and ports as the
tables give them. -/
def tenantCfgOk (s : State) (t : Nat) (a : Attach) (rights : Word) (ports : BitVec 128) (vlan : Nat) : Bool :=
  decide (t < 256) && (tenant s t).state == .free && a != .none && (a != .spi || decide (t ≤ 15))
    && decide (rights.toNat < 512) && decide (ports.toNat < 2 ^ 96) && decide (vlan < 4096)

/-- TENANT_CONFIG (R285, R286, R306). -/
def execTenantConfig (h : Hcp) (c : TenantCfg) (s : State) : Out :=
  .next (runHcp { opcode := 0x0002, classC := true, owner := true } h s fun s =>
    match c with
    | .configure t a rights ports key mac vlan ev =>
      if tenantCfgOk s t a rights ports vlan then
        okay (ringCheck (modTenant s t fun x => { x with
          state := .configured, attach := a, rights := rights, ports := ports, key := key, mac := mac, vlan := vlan
          eventMac := ev, removing := false }) t)
      else fails s .invalidArgument 0
    | .remove t =>
      if t = 0 ∨ (tenant s t).state = .free then fails s .invalidArgument 0
      else okay (requestReset (modTenant s t fun x => { x with removing := true }) t))

/-- The key of a tenant set; keys are stored wrapped in the flash configuration area. -/
def putKey (s : State) (t : Nat) (key : BitVec 128) : State :=
  let s := modTenant s t fun x => { x with key := some key }
  { s with fw := { s.fw with confSeq := s.fw.confSeq + 1 } }

/-- TENANT_KEY_SET (R301, R314): the first key of tenant 0 needs no authentication and comes from its local attachment. -/
def execTenantKeySet (h : Hcp) (t : Nat) (key : BitVec 128) (s : State) : Out :=
  .next (runHcp { opcode := 0x0003 } h s fun s =>
    if h.tenant ≠ t ∧ h.tenant ≠ 0 then fails s .notPermitted rRight
    else if 256 ≤ t ∨ (tenant s t).state = .free then fails s .invalidArgument 0
    else if t = 0 ∧ (tenant s 0).key.isNone then
      (if (tenant s 0).attach = .remote then fails s .notPermitted 0 else okay (putKey s 0 key))
    else if !h.classC then fails s .notPermitted (if t = 0 then 0x060F else 0)
    else okay (putKey s t key))

/-- TENANT_RESET (R305): of the caller itself, or from tenant 0 of any tenant (R311). -/
def execTenantReset (h : Hcp) (t : Nat) (s : State) : Out :=
  .next (runHcp { opcode := 0x0004, classC := true } h s fun s =>
    if h.tenant ≠ t ∧ h.tenant ≠ 0 then fails s .notPermitted rRight
    else if (tenant s t).state = .free then fails s .invalidArgument 0
    else okay (requestReset s t))

/-- FEATURES_SET (R295): feature_mask of the flash configuration, in effect at the next start. -/
def execFeaturesSet (h : Hcp) (mask : BitVec 128) (s : State) : Out :=
  .next (runHcp { opcode := 0x0005, classC := true, owner := true } h s fun s =>
    okay { s with fw := { s.fw with featureMask := mask, confSeq := s.fw.confSeq + 1 } })

/-- QUEUE_STEER (R293): one entry of the steering table. -/
def execQueueSteer (h : Hcp) (entry tenantId queue : Nat) (s : State) : Out :=
  .next (runHcp { opcode := 0x0006, classC := true, owner := true } h s fun s =>
    if 1024 ≤ entry ∨ 256 ≤ tenantId ∨ 8 ≤ queue then fails s .invalidArgument 0
    else okay { s with host := { s.host with steering := tset none s.host.steering entry (some (tenantId, queue)) } })

/-- AUTH_ECHO (R304): no effect; its payload comes back. -/
def execAuthEcho (h : Hcp) (payload : Bytes) (s : State) : Out :=
  .next (runHcp { opcode := 0x2DAE, classC := true, features := [] } h s fun s =>
    if 24 < payload.length then fails s .invalidArgument 0
    else okWith s payload)

end Sys2Proof.Machine
end

