-- ==== Sys2Proof/Machine/Inaug.lean ====
section
/-! DEFINITION. The commands of inauguration, addressing and the twin pair (spec/08_inauguration_and_twins.md). -/

namespace Sys2Proof.Machine

/-! ## HELLO and standard mode (R195, R196, R199) -/

/-- A confirmed link is a coupling (R202, Table 8-7): phase 2 begins, or the link is included in the one under way between
the same two halves, or held. -/
def couple (s : State) (p : Nat) : State :=
  let x := helloOf s p
  if 63 < (ownTable s).length + x.nodes then
    let s := refuseLarge s [p]
    if s.ine.state = .hello ∧ ¬ helloOn s then putIne s .idle else s
  else if s.ine.inhibited then (if s.ine.state = .topology then putHello s p { x with held := true } else putIne s .held)
  else if s.ine.state == .idle || s.ine.state == .hello || s.ine.state == .held || autoStable s then
    let s := inaugBegin s true x.upAt
    let s := putRun s { s.ine.run with couplers := [p], otherEpoch := x.epoch }
    let s := putRun s { s.ine.run with own := ownTable s }
    sendTable s [p] s.ine.run.own
  else if s.ine.state == .topology && s.ine.run.merge && s.ine.run.otherEpoch == x.epoch then
    let s := putRun s { s.ine.run with couplers := sadd s.ine.run.couplers p }
    let s := putRun s { s.ine.run with own := ownTable s }
    afterDigest (propose (sendTable s [p] s.ine.run.own))
  else putHello s p { x with held := true }

/-- A link is confirmed (R199): within one train a line completion, which joins at once, or after an inauguration in progress (Table
8-7); otherwise a coupling. -/
def helloConfirmed (s : State) (p : Nat) : State :=
  let x := { helloOf s p with confirmed := true, running := false }
  let s := putHello s p x
  if x.leader == s.tms.leaderId && x.epoch == s.tms.domainEpoch && x.topo == s.ine.topo then
    if inaugurating s && s.ine.state != .hello then putHello s p { x with held := true }
    else
      let s := streamsBack (setAlarm (putHello s p { x with fabricUp := true }) .ine 0)
      if s.ine.state = .hello && !(helloOn s) then putIne s .idle else s
  else couple s p

/-- Each end has received 3 HELLOs of the other whose echo matches (R199): this end its own, and the other those this end has
sent it (DEDUCED, log). -/
def bothHeard (x : HelloLink) : Bool := decide (3 ≤ x.run ∧ 3 ≤ x.echoed)

/-- HELLO_SEND (R199): on a link that has come up and is not confirmed, at the next of its instants, 100 µs apart. -/
def helloSendEffect (p : Nat) (s : State) : State :=
  let x := helloOf s p
  if 4 ≤ p || !linkIsUp s p || !x.running || x.confirmed || x.fabricUp then s
  else
    let s := untilMono s (nextBeat x.sentAt 100000 s.mono)
    let seq := x.seq + 1
    let y := { x with seq := seq, sentAt := some s.mono, echoed := if x.partner = 0 then 0 else x.echoed + 1 }
    let s := emit (countSent (putHello s p y) p 64)
      (.hello { hdr := inaugHdr s (lineOf p == .b), fast := true, standard := s.ine.identNext.mode == 2, port := p
                nodeCount := (ownTable s).length, leaderId := s.tms.leaderId, seq := seq
                echo := BitVec.ofNat 16 x.rxSeq.toNat })
    if bothHeard y then helloConfirmed s p else s

/-- See `helloSendEffect`. -/
def execHelloSend (port : Nat) (s : State) : Out := .next (helloSendEffect port s)

/-- HELLO_RECEIVE (R199): 3 consecutive HELLOs of one partner whose echo matches this node's hello_seq, each way, confirm the
link. -/
def helloReceiveEffect (p : Nat) (m : Hello) (s : State) : State :=
  let x := helloOf s p
  if 4 ≤ p || !linkIsUp s p then s
  else
  let s := gotSent s p (.hello m)
  if x.fabricUp || !x.running || m.hdr.version != 1 then s
  else
    let same := x.partner == m.hdr.senderId
    let echoes := m.echo == BitVec.ofNat 16 x.seq.toNat && x.seq != 0
    let run := if echoes then (if same then x.run + 1 else 1) else 0
    let y := { x with
      partner := m.hdr.senderId, rxSeq := m.seq, run := run, nodes := m.nodeCount, leader := m.leaderId
      epoch := m.hdr.domainEpoch, topo := m.hdr.topoCount, ttdp := false
      echoed := if !same then 0 else if echoes then x.echoed else x.echoed - 1 }
    let s := putHello s p y
    if bothHeard y then helloConfirmed s p else s

/-- See `helloReceiveEffect`. -/
def execHelloReceive (port : Nat) (m : Hello) (s : State) : Out := .next (helloReceiveEffect port m s)

/-- The node inaugurates in standard mode from now on (R195, result MIXED); the Standby device of a twin pair holds its BB ports
down (Table 8-2). -/
def goStandard (s : State) : State :=
  let s := [0, 1, 2, 3].foldl (fun s p => putHello s p { helloOf s p with running := false, confirmed := false }) s
  let s := { s with ine := { s.ine with
    state := .standard, mode := 1, result := 6, missing := 0, ident := s.ine.identNext
    run := { s.ine.run with couplers := [], joint := [], otherParts := {}, ownParts := {}, other := [], own := [], stable := false } } }
  bbHold (emitEach s ([0, 1, 2, 3].filter (linkIsUp s)) .ttdp)

/-- TTDP_FALLBACK (R195): a neighbour has answered with TTDP HELLO and no fast HELLO has come within 2 ms: in auto mode the
node changes to standard mode and floods the decision; in fast mode the port stays fabric-down and mixed_train is set. -/
def fallbackEffect (p : Nat) (s : State) : State :=
  let x := helloOf s p
  if 4 ≤ p || !linkIsUp s p || !x.running || x.partner != 0 then s
  else
    let s := untilMono s (x.upAt + 2000000)
    if s.ine.identNext.mode = 2 then
      goStandard (inaugSend s fun h => .inaugAbort h 6)
    else setAlarm s .ine 7

/-- See `fallbackEffect`. -/
def execTtdpFallback (port : Nat) (s : State) : Out := .next (fallbackEffect port s)

/-- A stable topology of standard mode (R196): the train is numbered and every BB port joins. Lookups switch by TAU56 6 ms later,
without a leader at once (R209, R203; the 6 ms, DESIGN CHOICE, log). A topology that follows a stable one is another inauguration, for which
the identity of Table 8-1 is taken (R194). -/
def ttdpStable (s : State) (nodes : List NodeRec) (topo : Word) : State :=
  let s := beginStandard s
  let s := takeNumbers (putRun s { s.ine.run with stable := true }) nodes
  let s := buildAlias { s with ine := { s.ine with topo := topo } } nodes
  let b := 1 - s.ine.activeBank
  let s := if s.tms.tsValid ∧ s.tms.trtState ≠ .none then armDevice s 56 6 (word b) (trtNs s + 6000000) else aliasSwitch s b
  let s := streamsBack ([0, 1, 2, 3].foldl
    (fun s q => if linkIsUp s q then putHello s q { helloOf s q with fabricUp := true } else s) s)
  let s := if s.css.state = .stopped then reinstantiate s else s
  setAlarm { s with ine := { s.ine with count := s.ine.count + 1 } } .ine 2

/-- TTDP_FRAME_RECEIVE (R196): in standard mode, by the MGP, unless INAUG_INHIBIT holds a new topology (Table 8-2). A neighbour that
sends TTDP frames is noted (R197). -/
def ttdpEffect (p : Nat) (r : TtdpResult) (s : State) : State :=
  if !linkIsUp s p || s.fw.phase != .ready then s
  else
  let s := gotSent s p (.ttdp p)
  if s.ine.state ≠ .standard then
    match r with
    | .hello => if s.ine.identNext.mode = 0 && (helloOf s p).running then setAlarm s .ine 7 else s
    | _ => s
  else
    match r with
    | .hello | .topology => emitEach (putHello s p { helloOf s p with ttdp := true }) [p] .ttdp
    | .stable nodes topo => if s.ine.inhibited then s else ttdpStable s nodes topo

/-- See `ttdpEffect`. -/
def execTtdpFrameReceive (port : Nat) (r : TtdpResult) (s : State) : Out := .next (ttdpEffect port r s)

/-! ## Phases (R202 to R207) -/

/-- A frame of this kind is received: version 0x01, on the line it names, the link is up, the port carries it, and the node is in fast
mode, or in auto mode with no inauguration in standard mode under way (R195). -/
def inaugHears (s : State) (p : Nat) (h : InaugHdr) : Bool :=
  inaugPort s p && (s.ine.state != .standard || autoStable s) && lineAgrees p h.lineB && h.version == 1

/-- A part of the other half's table (R202): flooded into the own half; once it is whole the coupler node floods its own half's
behind it. -/
def otherTable (p : Nat) (hdr : InaugHdr) (part parts : Nat) (records : List NodeRec) (s : State) : State :=
  let r := s.ine.run
  let inner := fun (s : State) (l : List Nat) => l.filter fun q => !s.ine.run.couplers.contains q
  let s := emitEach s (inner s (forwardPorts s p)) fun q => .table q hdr part parts records
  let s := putRun s { r with
    otherParts := addPart r.otherParts hdr.senderId part parts records, otherUnit := hdr.senderId
    otherEpoch := hdr.domainEpoch, front := if p < 4 then towardsFront s p else r.front }
  match allParts s.ine.run.otherParts with
  | none => s
  | some l =>
    let s := putRun s { s.ine.run with other := l }
    let s := if s.ine.run.couplers.contains p then sendTable s (inner s (inaugPorts s)) s.ine.run.own else s
    afterDigest (propose s)

/-- A part of the own half's table: that of a coupler node, or of the node that begins without a merge, is taken whole; of a later one
its sender's record. A node whose record there is not the present one floods the table with its own (DESIGN CHOICE, log: R194, R202). -/
def ownTableTake (p : Nat) (hdr : InaugHdr) (part parts : Nat) (records : List NodeRec) (s : State) : State :=
  let r := s.ine.run
  let out := (forwardPorts s p ++ s.ine.run.couplers.filter fun q => q != p && inaugPort s q).eraseDups
  let s := emitEach s out fun q => .table q hdr part parts records
  let s := putRun s { r with ownParts := addPart r.ownParts hdr.senderId part parts records }
  match allParts s.ine.run.ownParts with
  | none => s
  | some l =>
    let taken := if r.own.isEmpty then l
      else r.own.map fun n => if n.unit = hdr.senderId then (l.find? fun m => m.unit == n.unit).getD n else n
    let me := selfRec s
    let mine := taken.map fun n =>
      if n.unit = me.unit then { me with position := n.position, car := n.car, consist := n.consist } else n
    let s := putRun s { s.ine.run with own := mine }
    let s := if r.own.isEmpty ∧ mine ≠ taken then sendTable s (inaugPorts s) mine else s
    afterDigest (propose s)

/-- TABLE_RECEIVE (R202, R207): the records of the other half, of this one, or of what is left of it; flooded; when complete, the
joint table and the DIGEST follow. -/
def tableEffect (p : Nat) (hdr : InaugHdr) (part parts : Nat) (records : List NodeRec) (s : State) : State :=
  if !inaugHears s p hdr then s
  else
    let s := gotSent s p (.table p hdr part parts records)
    let known := (ownTable s).map NodeRec.unit
    let single := records.all fun n => known.contains n.unit
    let fresh := s.ine.state == .idle || s.ine.state == .hello || s.ine.state == .held || autoStable s
    let s := if fresh then inaugBegin s (!single) s.mono else s
    if s.ine.state ≠ .topology then s
    else if single then ownTableTake p hdr part parts records s
    else otherTable p hdr part parts records (putRun s { s.ine.run with merge := true })

/-- See `tableEffect`. -/
def execTableReceive (port : Nat) (hdr : InaugHdr) (part parts : Nat) (records : List NodeRec) (s : State) : Out :=
  .next (tableEffect port hdr part parts records s)

/-- FUNCS_RECEIVE (R202): kept and flooded; phase 5 begins when every node's are there. -/
def funcsEffect (p : Nat) (hdr : InaugHdr) (owner : UnitId) (es : List FuncEntry) (s : State) : State :=
  if !inaugHears s p hdr then s
  else
    let s := gotSent s p (.funcs p hdr owner es)
    let s := emitEach s (forwardPorts s p) fun q => .funcs q hdr owner es
    if inaugurating s then
      mergeSettle (putRun s { s.ine.run with
        funcs := (s.ine.run.funcs.filter fun f => f.1 != owner) ++ [(owner, es)], funcsFrom := s.ine.run.funcsFrom ++ [owner] })
    else s

/-- See `funcsEffect`. -/
def execFuncsReceive (port : Nat) (hdr : InaugHdr) (owner : UnitId) (entries : List FuncEntry) (s : State) : Out :=
  .next (funcsEffect port hdr owner entries s)

/-- DIGEST_RECEIVE (R202): kept and passed on, across the coupler too; the coordinator sends PROCEED when all are equal. -/
def digestEffect (p : Nat) (hdr : InaugHdr) (crc : Word) (count : Nat) (steps : Bool) (s : State) : State :=
  if !inaugHears s p hdr then s
  else
    let out := (forwardPorts s p ++ s.ine.run.couplers.filter fun q => q != p && inaugPort s q).eraseDups
    let s := emitEach (gotSent s p (.digest p hdr crc count steps)) out fun q => .digest q hdr crc count steps
    if s.ine.state ≠ .topology then s
    else
      let r := s.ine.run
      afterDigest (putRun s { r with
        digests := (r.digests.filter fun d => d.1 != hdr.senderId) ++ [(hdr.senderId, crc, count, steps)] })

/-- See `digestEffect`. -/
def execDigestReceive (port : Nat) (hdr : InaugHdr) (crc : Word) (count : Nat) (steps : Bool) (s : State) : Out :=
  .next (digestEffect port hdr crc count steps s)

/-- TOPOLOGY_TIMEOUT (R205): 11 ms after phase 2 began without agreement it repeats once, the tables sent again; then DISAGREE. -/
def topologyLate (s : State) : State :=
  if s.ine.state ≠ .topology then s
  else
    let s := topologyAgreed (untilMono s (s.ine.run.phaseAt + 11000000))
    if s.ine.state ≠ .topology then s
    else if s.ine.run.repeated then orderAbort s 2
    else
      let own := if s.ine.run.couplers.isEmpty ∧ ¬ s.ine.run.initiator then [] else s.ine.run.own
      let s := putRun s { s.ine.run with
        repeated := true, phaseAt := s.mono, digests := [], joint := [], otherParts := {}, ownParts := {}, other := [], own := own }
      if s.ine.run.initiator then afterDigest (propose (sendTable s (inaugPorts s) own))
      else sendTable s s.ine.run.couplers own

/-- See `topologyLate`. -/
def execTopologyTimeout (s : State) : Out := .next (topologyLate s)

/-- DISAGREE_HOLDOFF_END (R205): 1 s after the abort HELLO starts again on the coupler ports. -/
def holdoffEnd (s : State) : State :=
  match s.ine.run.holdUntil with
  | none => s
  | some t =>
    let s := untilMono s t
    let ports := s.ine.run.couplers
    let s := putRun s { s.ine.run with holdUntil := none, couplers := [] }
    ports.foldl (fun s p => if linkIsUp s p then startHello s p else s) s

/-- See `holdoffEnd`. -/
def execDisagreeHoldoffEnd (s : State) : Out := .next (holdoffEnd s)

/-- The ports a frame of the coordinator goes on to. -/
def relayPorts (s : State) (p : Nat) : List Nat := forwardPorts s p

/-- A frame is from the coordinator. -/
def fromCoordinator (s : State) (hdr : InaugHdr) : Bool := hdr.coordinator && hdr.senderId == coordinatorOf s

/-- PROCEED_RECEIVE (R202). -/
def proceedEffect (p : Nat) (hdr : InaugHdr) (s : State) : State :=
  if !inaugHears s p hdr then s
  else
    let s := emitVia (gotSent s p (.proceed hdr)) (relayPorts s p) (.proceed hdr)
    if s.ine.state = .topology && fromCoordinator s hdr then proceedRun s else s

/-- See `proceedEffect`. -/
def execProceedReceive (port : Nat) (hdr : InaugHdr) (s : State) : Out := .next (proceedEffect port hdr s)

/-- MERGE_RECEIVE (R203), with the renumbering of R201. The step happens only while CSS is stopped. -/
def mergeEffect (p : Nat) (hdr : InaugHdr) (epoch : Word) (leader : UnitId) (s : State) : State :=
  if !inaugHears s p hdr then s
  else
    let s := emitVia (gotSent s p (.merge hdr epoch leader)) (relayPorts s p) (.merge hdr epoch leader)
    if s.ine.state = .merging && !s.ine.run.merged && fromCoordinator s hdr then mergeRun s epoch leader else s

/-- See `mergeEffect`. -/
def execMergeReceive (port : Nat) (hdr : InaugHdr) (epoch : Word) (leader : UnitId) (s : State) : Out :=
  .next (mergeEffect port hdr epoch leader s)

/-- INAUG_INSTALL_RECEIVE (R202, R209, R211): the numbered table must be the coordinator's; a node whose table differs
acknowledges DISAGREE and does not install. -/
def installReceive (p : Nat) (hdr : InaugHdr) (sec ns : Nat) (topo crc : Word) (s : State) : State :=
  if !inaugHears s p hdr then s
  else
    let s := emitVia (gotSent s p (.inaugInstall hdr sec ns topo crc)) (relayPorts s p) (.inaugInstall hdr sec ns topo crc)
    let ready := s.ine.state == .renumbering || (s.ine.state == .topology && s.ine.run.keeps)
    if !ready || !fromCoordinator s hdr then s
    else if tableCrc (numberTable s.ine.run.joint).out ≠ crc then sendAck s 0x46 2
    else installRun s (linNs sec ns) topo

/-- See `installReceive`. -/
def execInaugInstallReceive (port : Nat) (hdr : InaugHdr) (sec ns : Nat) (topo crc : Word) (s : State) : Out :=
  .next (installReceive port hdr sec ns topo crc s)

/-- INAUG_ACK_RECEIVE (R202): the coordinator's next phase begins when every node has acknowledged. -/
def ackEffect (p : Nat) (hdr : InaugHdr) (sub status : Nat) (s : State) : State :=
  if !inaugHears s p hdr then s
  else
    let s := emitVia (gotSent s p (.inaugAck hdr sub status)) (relayPorts s p) (.inaugAck hdr sub status)
    if inaugurating s && coordinates s then afterRenumber (afterStop (keepAck s hdr.senderId sub status)) else s

/-- See `ackEffect`. -/
def execInaugAckReceive (port : Nat) (hdr : InaugHdr) (subtype status : Nat) (s : State) : Out :=
  .next (ackEffect port hdr subtype status s)

/-- INAUG_ABORT_RECEIVE (R205); reason MIXED carries the decision for standard mode (R195). -/
def abortEffect (p : Nat) (hdr : InaugHdr) (reason : Nat) (s : State) : State :=
  if !inaugHears s p hdr then s
  else
    let s := emitVia (gotSent s p (.inaugAbort hdr reason)) (relayPorts s p) (.inaugAbort hdr reason)
    if reason = 6 then (if s.ine.identNext.mode = 0 then setAlarm s .ine 7 else goStandard s)
    else if s.ine.state == .hello || !inaugurating s then s
    else inaugAbort s reason

/-- See `abortEffect`. -/
def execInaugAbortReceive (port : Nat) (hdr : InaugHdr) (reason : Nat) (s : State) : Out :=
  .next (abortEffect port hdr reason s)

/-! ## Commands (R220, R212) -/

/-- The features of inauguration (Table 12-8): fast or standard. -/
def inaugFeatures : List Nat := [3, 4]

/-- One record of INAUG_CONFIG (Table 8-1); the function entries, one record each (R308), come beside these, and a record of key 7 with
no value empties the list (DESIGN CHOICE, log). -/
def identRec (d : Identity) (r : Param) : Option Identity :=
  match r.key with
  | 1 => (recEnum r 3).map fun v => { d with mode := if v = 0 then 2 else v - 1 }
  | 2 => (recNat r 1 4294967295).map fun v => { d with consistId := word v }
  | 3 => (recNat r 1 63).map fun v => { d with carIndex := v }
  | 4 => (recNat r 0 3).map fun v => { d with role := v }
  | 5 => (recEnum r 2).map fun v => { d with refDir := v + 1 }
  | 6 => (recEnum r 3).map fun v => { d with cab := v }
  | 7 => if r.val = .bytes [] then some { d with functions := [] } else none
  | _ => none

/-- A function entry is in range (Table 8-1). -/
def funcOk (e : FuncEntry) : Bool :=
  decide (1 ≤ e.func) && decide (e.func ≤ 255) && decide (e.side ≤ 3) && decide (e.vlan ≤ 4095)

/-- INAUG_CONFIG (R194): the identity of the next inauguration. -/
def execInaugConfig (h : Hcp) (recs : List Param) (functions : List FuncEntry) (s : State) : Out :=
  .next (runHcp { opcode := 0x0701, classC := true, owner := true, features := inaugFeatures } h s fun s =>
    match applyRecs s identRec 0 s.ine.identNext recs with
    | .error i => failsAt s i
    | .ok d =>
      if 64 < functions.length ∨ ¬ functions.all funcOk then failsAt s recs.length
      else
        let d := if functions.isEmpty then d else { d with functions := functions }
        okay { s with ine := { s.ine with identNext := d } })

/-- INAUG_LEAD (R200, R207): declares the cab of this node, or withdraws; a front end that moves renumbers the train. Where another
node's declaration is in force, this one is cleared with lead_conflict (DESIGN CHOICE, log: R200 names two halves). -/
def execInaugLead (h : Hcp) (cab : Nat) (s : State) : Out :=
  .next (runHcp { opcode := 0x0702, classC := true, owner := true, features := inaugFeatures } h s fun s =>
    if inaugurating s then fails s .busy 0
    else if cab ≠ 0 ∧ cab ≠ s.ine.ident.cab ∧ cab ≠ s.ine.identNext.cab then fails s .invalidArgument 0
    else
      let there := (ownTable s).any fun n => n.lead && n.unit != nodeUnit s
      if cab ≠ 0 ∧ there then okay (setAlarm { s with ine := { s.ine with lead := 0 } } .ine 8)
      else
        let s := { s with ine := { s.ine with lead := cab } }
        let l := ownTable s
        if s.ine.nodes.isEmpty || orientTable l (fun _ => true) (some true) == l then okay s
        else okay (beginSingle s l))

/-- INAUG_INHIBIT (R220): new couplings are held at HELLO until released. -/
def execInaugInhibit (h : Hcp) (on : Bool) (s : State) : Out :=
  .next (runHcp { opcode := 0x0703, classC := true, owner := true, features := inaugFeatures } h s fun s =>
    let s := { s with ine := { s.ine with inhibited := on } }
    if on then okay s
    else
      let s := if s.ine.state = .held then putIne s .hello else s
      okay ([0, 1, 2, 3].foldl (fun s p =>
        if (helloOf s p).confirmed && !(helloOf s p).fabricUp && linkIsUp s p then couple s p else s) s))

/-- INE_STATUS state code (Table 8-14). -/
def ineCode : IneState → Nat
  | .idle => 0 | .hello => 1 | .topology => 2 | .stopping => 3 | .merging => 4 | .renumbering => 5 | .installing => 6
  | .standard => 7 | .held => 8

/-- INE_STATUS (Table 8-14). -/
def ineStatus (s : State) : Word :=
  word (ineCode s.ine.state + 16 * s.ine.mode + 128 * s.ine.activeBank + 256 * b2n s.ine.steppedLast
    + 512 * b2n s.ine.inhibited)

/-- INE_SELF (Table 8-13). -/
def ineSelf (s : State) : Word :=
  word (s.ine.car * 2 ^ 24 + s.ine.consist * 2 ^ 16 + s.ine.position * 256 + 2 * b2n s.ine.reversed)

/-- INE_TRAIN (Table 8-13). -/
def ineTrain (s : State) : Word :=
  word (s.ine.nodes.length * 65536 + (s.ine.nodes.map NodeRec.car).foldl max 0 * 256
    + (s.ine.nodes.map NodeRec.consist).foldl max 0)

/-- INE_LAST_RESULT (Table 8-13). -/
def ineResult (s : State) : Word := word (s.ine.result * 2 ^ 24 + s.ine.missing * 2 ^ 16)

/-- INAUG_STATUS (R220): the state words of Table 8-13 and the last result (the order is DESIGN CHOICE, log). -/
def execInaugStatus (h : Hcp) (s : State) : Out :=
  .next (runHcp { opcode := 0x0704, features := inaugFeatures } h s fun s =>
    okWith s ([ineStatus s, ineSelf s, ineTrain s, s.ine.topo, s.ine.count, word s.ine.duration, ineResult s].flatMap
      fun w => leBytes 4 w.toNat))

/-- The alias commands are BUSY during an inauguration and while TAU56 is armed (R212). -/
def aliasBusy (s : State) : Bool := inaugurating s || tau56Armed s

/-- The first entry of a bank that holds nothing. -/
def aliasFree (t : Table (Option AliasEntry)) : Nat :=
  ((List.range 4096).find? fun k => (tget none t k).isNone).getD 4096

/-- Where a static entry of a TFA stands in a bank. -/
def staticAt (t : Table (Option AliasEntry)) (tfa : Nat) : Option Nat :=
  (t.find? fun e => e.2.any fun a => a.isStatic && a.tfa == tfa).map Prod.fst

/-- ALIAS_SET (R212): into the inactive bank and the kept list. The read of a poisoned word of the entry ends it with
POISONED (R29, Table 1-6). -/
def execAliasSet (h : Hcp) (a : AliasArgs) (s : State) : Out :=
  .next (runHcp { opcode := 0x0705, classC := true, owner := true, features := inaugFeatures } h s fun s =>
    if aliasBusy s then fails s .busy 0
    else if 65536 ≤ a.tfa ∨ 4096 ≤ a.vlan ∨ (a.stream.any fun i => decide (8192 ≤ i)) then fails s .invalidArgument 0
    else
      let b := 1 - s.ine.activeBank
      let t := bankRead s b
      let k := (staticAt t a.tfa).getD (aliasFree t)
      match if k < 4096 then poisonedWord s 4 (b * 4096 + k) else none with
      | some w => fails (uncorrectable s 4 w) .poisoned 0
      | none =>
        let s := { s with ine := { s.ine with statics := (s.ine.statics.filter fun x => x.tfa != a.tfa) ++ [a] } }
        if 4096 ≤ k then okay (setAlarm s .ine 5)
        else okay (putBank s b (tset none t k (some (staticAlias s a)))))

/-- ALIAS_CLEAR (R212). -/
def execAliasClear (h : Hcp) (tfa : Nat) (s : State) : Out :=
  .next (runHcp { opcode := 0x0706, classC := true, owner := true, features := inaugFeatures } h s fun s =>
    if aliasBusy s then fails s .busy 0
    else if !(s.ine.statics.any fun x => x.tfa == tfa) then fails s .invalidArgument 0
    else
      let b := 1 - s.ine.activeBank
      let s := { s with ine := { s.ine with statics := s.ine.statics.filter fun x => x.tfa != tfa } }
      match staticAt (bankRead s b) tfa with
      | some k => okay (putBank (unpoisonEntry s 4 (b * 4096 + k)) b (tset none (bankRead s b) k none))
      | none => okay s)

/-- ALIAS_COMMIT (R212): TAU56 under the lead times of R99; after the switch the bank is copied to the other one. -/
def execAliasCommit (h : Hcp) (sec ns : Nat) (s : State) : Out :=
  .next (runHcp { opcode := 0x0707, classC := true, owner := true, features := inaugFeatures } h s fun s =>
    let t := linNs sec ns
    if aliasBusy s then fails s .busy 0
    else if 1000000000 ≤ ns then fails s .invalidArgument 0
    else if !s.tms.tsValid then fails s .refused rNoTime
    else if t < trtNs s + 20000 then fails s .refused 0x0101
    else if trtNs s + 3600000000000 < t then fails s .refused 0x0102
    else
      let s := { s with ine := { s.ine with copyAfter := true } }
      okay (armDevice s 56 6 (word (1 - s.ine.activeBank)) t))

/-! ## The twin pair (R214 to R218) -/

/-- One record of TWIN_CONFIG (R308). -/
def twinRec (x : Twin) (r : Param) : Option Twin :=
  match r.key with
  | 1 => match r.val with
    | .num v => some { x with partner := if BitVec.ofInt 64 v = 0 then none else some (BitVec.ofInt 64 v) }
    | _ => none
  | 2 => (recEnum r 2).map fun v => { x with lineB := v == 1 }
  | 3 => (recNat r 3600 2592000).map fun v => { x with interval := v }
  | _ => none

/-- TWIN_CONFIG (R214): where TW0 is up already, the pair forms by Table 8-10. -/
def execTwinConfig (h : Hcp) (recs : List Param) (s : State) : Out :=
  .next (runHcp { opcode := 0x0708, classC := true, owner := true, features := [14] } h s fun s =>
    match applyRecs s twinRec 0 s.ine.twin recs with
    | .error i => failsAt s i
    | .ok x =>
      let s := putTwin s { x with dueAt := s.mono + x.interval * 1000000000 }
      match (tget ({} : LinkRec) s.ports.links 95).partner with
      | some pt => okay (if linkIsUp s 95 then twinLinkUp s pt else s)
      | none => okay s)

/-- TWIN_SWAP (R218): a swap falls due now. A device that is not in the pair's ACTIVE or STANDBY state has no role to swap:
REFUSED (DESIGN CHOICE, log). -/
def execTwinSwap (h : Hcp) (s : State) : Out :=
  .next (runHcp { opcode := 0x0709, classC := true, owner := true, features := [14] } h s fun s =>
    if inaugurating s then fails s .busy 0
    else
      match s.ine.twin.state with
      | .active | .standby => okay (putTwin s { s.ine.twin with due := true, dueAt := s.mono })
      | _ => fails s .refused 0)

/-- TWIN_IMAGE_SEND (R216): at the end of a pan, or of every second pan shorter than 150 µs, the Active device sends its
state image; the final one, of the pan after the swap instant, always (Table 8-10). -/
def imageSend (s : State) : State :=
  let x := s.ine.twin
  let final := x.atBoundary == some .standby
  if x.state != .active || !linkIsUp s 95 || x.finalSent || !x.imagesOn then s
  else if panUs s < 150 ∧ ¬ x.oddPan ∧ ¬ final then putTwin s { x with oddPan := true }
  else twinSend (putTwin s { x with oddPan := false, finalSent := final }) (.twinImage (imageOf s))

/-- See `imageSend`. -/
def execTwinImageSend (s : State) : Out := .next (imageSend s)

/-- A slot of the image taken into the shared slot of this device. -/
def takeSlot (s : State) (r : SlotRec) : State :=
  match slotIndex s r.slot with
  | none => s
  | some i => modSlot s i fun x =>
      if x.shared then { x with
        prodSeq := r.prodSeq, dataSeq := r.prodSeq, ready := r.ready, data := if r.data.isEmpty then x.data else r.data
        commitAt := s.mono - r.age * panNs s }
      else x

/-- A session of the image: the counter and the short record of a tenant (R301, R217). -/
def takeSession (s : State) (r : SessionRec) : State :=
  modTenant s r.tenant fun x => { x with counter := r.counter, shortCmac := r.cmac4, shortStatus := r.status, shortReason := r.reason }

/-- A stream origin record as this device keeps it. -/
def takeOrigin (r : OriginRec) : OriginStream :=
  { streamId := r.streamId, txn := r.txn, req := r.req, owner := r.owner, hcp := none
    state := if r.suspended then .suspended else .active, path := r.path, pathB := r.pathB, dHops := [], linkDelay := 0
    sum := 0, at_ := 0, tAct := 0, confirmed := [], down := [], suspendedAt := 0 }

/-- Ownership and freshness of a variable taken. -/
def takeOwner (s : State) (r : PdRec) : State :=
  if (pdVar s r.var).len = 0 then s else putVar s r.var { pdVar s r.var with writer := r.writer, stale := r.stale }

/-- The records of a state image held by this device (R216): its twin-shared TAUs armed, sessions, shared slots, nodes and
topology, stream origins, ownership and freshness of the Process Data Store. -/
def takeImage (s : State) (im : TwinImage) : State :=
  let gone := s.tau.units.filter fun e => e.2.shared && tauLive e.2 && !(im.taus.any fun a => a.arm.tau == e.1)
  let s := gone.foldl (fun s e => putTau s e.1 { e.2 with state := .idle }) s
  let s := im.taus.foldl (fun s a => putTau s a.arm.tau (recOfShared s a)) s
  let s := im.slots.foldl takeSlot (im.sessions.foldl takeSession s)
  let s := if im.nodes.isEmpty then s else takeNumbers s im.nodes
  let s := im.owners.foldl takeOwner { s with
    ine := { s.ine with topo := im.topo }, adm := { s.adm with streams := im.streams.map takeOrigin } }
  putTwin s { s.ine.twin with image := some im, imageAt := s.mono }

/-- TWIN_IMAGE_RECEIVE (R216): a Standby device takes an image whose CRC-32 verifies; one that is not received when due is
counted. -/
def imageReceive (im : Option TwinImage) (s : State) : State :=
  if s.ine.twin.state ≠ .standby then s
  else
    let s := if im.isSome then twinGot s else s
    match im with
    | some i => if i.crcOk then takeImage s i else putTwin s { s.ine.twin with misses := s.ine.twin.misses + 1 }
    | none => putTwin s { s.ine.twin with misses := s.ine.twin.misses + 1 }

/-- See `imageReceive`. -/
def execTwinImageReceive (im : Option TwinImage) (s : State) : Out := .next (imageReceive im s)

/-- TWIN_FULL_TRANSFER_DONE (R217): verified within 2 s, the SYNCING device is STANDBY; at the ACTIVE device that has sent it the
state images begin. -/
def fullDone (im : TwinImage) (s : State) : State :=
  if s.ine.twin.state = .active then putTwin s { s.ine.twin with imagesOn := true }
  else
  let s := twinGot s
  if s.ine.twin.state = .syncing ∧ im.crcOk ∧ s.mono ≤ s.ine.twin.syncAt + 2000000000 then
    let s := twinEnter (takeImage s im) .standby
    bbHold (putTwin s { s.ine.twin with requested := false })
  else s

/-- See `fullDone`. -/
def execTwinFullTransferDone (im : TwinImage) (s : State) : Out := .next (fullDone im s)

/-- The instant at which TW0 has brought no LTM for 500 µs. -/
def ltmSilentAt (s : State) : Nat :=
  match (linkTime s 4).peer with
  | some p => p.at_ + 500000
  | none => 0

/-- TWIN_SYNC_TIMEOUT (R217): after 2 s, with LTMs still arriving, the full transfer is requested again. -/
def syncLate (s : State) : State :=
  if s.ine.twin.state ≠ .syncing then s
  else
    let s := untilMono s (s.ine.twin.syncAt + 2000000000)
    if s.mono < ltmSilentAt s then twinEnter s .syncing else s

/-- See `syncLate`. -/
def execTwinSyncTimeout (s : State) : Out := .next (syncLate s)

/-- The period of state images in ns (R216). -/
def imagePeriod (s : State) : Nat := if panUs s < 150 then 2 * panNs s else panNs s

/-- TWIN_PARTNER_TIMEOUT (R217): no LTM on TW0 for 500 µs, and for a Standby device an image overdue. -/
def partnerLost (s : State) : State :=
  match s.ine.twin.state with
  | .syncing => twinMove (twinEvent (untilMono s (ltmSilentAt s)) 2) .alone
  | .standby => twinMove (twinEvent (untilMono s (max (ltmSilentAt s) (s.ine.twin.imageAt + imagePeriod s))) 1) .alone
  | .active => twinEnter (twinEvent (untilMono s (ltmSilentAt s)) 2) .alone
  | _ => s

/-- See `partnerLost`. -/
def execTwinPartnerTimeout (s : State) : Out := .next (partnerLost s)

/-- TWIN_UNPAIRED_TIMEOUT (R217): 2 s after fw_ready without TW0 up to the configured partner. -/
def unpairedLate (s : State) : State :=
  let matched : Bool := match (tget ({} : LinkRec) s.ports.links 95).partner with
    | some pt => linkIsUp s 95 && s.ine.twin.partner == some pt.unit
    | none => false
  if s.ine.twin.state == .unpaired && s.ine.twin.partner.isSome && s.glob.fwReady && !matched then
    twinEnter (twinEvent (untilMono s (s.fw.readyAt + 2000000000)) 2) .alone
  else s

/-- See `unpairedLate`. -/
def execTwinUnpairedTimeout (s : State) : Out := .next (unpairedLate s)

/-- TWIN_SWAP_DUE (R218): the swap falls due; it takes place at the first permitted boundary within 1 s (`twinBoundary`). -/
def swapDue (s : State) : State :=
  match s.ine.twin.state with
  | .active | .standby =>
    let s := untilMono s s.ine.twin.dueAt
    putTwin s { s.ine.twin with due := true }
  | _ => s

/-- See `swapDue`. -/
def execTwinSwapDue (s : State) : Out := .next (swapDue s)

/-- TWIN_SWAP_SKIP (R218): a swap that has fallen due has found no permitted boundary within 1 s. -/
def swapSkip (s : State) : State :=
  let x := s.ine.twin
  match x.state with
  | .active | .standby =>
    if x.due then swapLater (setAlarm (untilMono s (x.dueAt + 1000000000)) .ine 12) x.dueAt else s
  | _ => s

/-- See `swapSkip`. -/
def execTwinSwapSkip (s : State) : Out := .next (swapSkip s)

/-- TWIN_MIRROR_RECEIVE (R215): a mirrored commit is stored, made ready and acknowledged; an acknowledgement within 10 µs of the
commit makes the own commit ready. -/
def mirrorReceive (slot : Nat) (seq : Word) (data : Option Bytes) (s : State) : State :=
  match slotIndex s slot with
  | none => s
  | some i =>
    let s := twinGot s
    match data with
    | some d =>
      if (s.css.slots[i]?.any TxSlot.shared) then
        twinSend (modSlot s i fun x =>
            { x with prodSeq := seq, dataSeq := seq, data := d, ready := true, commitAt := s.mono }) (.twinMirrorAck slot)
      else s
    | none => modSlot s i fun x =>
        match x.mirrored with
        | some d =>
          if x.prodSeq = seq ∧ s.mono ≤ x.commitAt + 10000 then { x with dataSeq := seq, data := d, ready := true, mirrored := none }
          else x
        | none => x

/-- See `mirrorReceive`. -/
def execTwinMirrorReceive (slot : Nat) (seq : Word) (data : Option Bytes) (s : State) : Out :=
  .next (mirrorReceive slot seq data s)

/-- FULL_TRANSFER_REQUEST (R217): an ALONE device keeps its duties, sends the full transfer and becomes ACTIVE, with no state images
until that is verified; an Active device sends it again. -/
def transferAsked (s : State) : State :=
  let s := if linkIsUp s 95 then twinGot s else s
  let send := fun (s : State) => twinSend s (.twinFull (imageOf s))
  match s.ine.twin.state with
  | .alone =>
    let s := twinEnter (send s) .active
    putTwin s { s.ine.twin with imagesOn := false }
  | .active => send s
  | _ => s

/-- See `transferAsked`. -/
def execFullTransferRequest (s : State) : Out := .next (transferAsked s)

end Sys2Proof.Machine
end

