-- ==== Sys2Proof/Machine/Power.lean ====
section
/-! DEFINITION. Power states, sleep and wake: the commands of chapter 14 and the power events of chapter 16 (R331 to R345,
R374, R375). -/

namespace Sys2Proof.Machine

/-! ## Commands (Table 14-8) -/

/-- One parameter record of POWER_CONFIG (Table 14-5). -/
def powerRec (c : PowerCfg) (p : Param) : Option PowerCfg :=
  match p.key with
  | 1 => (recEnum p 4).map fun v => { c with deepest := v }
  | 2 => (recNat p 10 100000).map fun v => { c with dozeHold := v }
  | 3 => (recNat p 1 10000).map fun v => { c with napHold := v }
  | 4 => (recFlag p 0).map fun v => { c with agree := v }
  | 5 => (recFlag p 0).map fun v => { c with alwaysAwake := v }
  | 6 => (recNat p 2 3600).map fun v => { c with quiet := v }
  | 7 => (recNat p 1 10).map fun v => { c with grace := v }
  | 8 => (recNat p 600 604800).map fun v => { c with keepMax := v }
  | 9 => (recNat p 0 3600).map fun v => { c with awakeMin := v }
  | 10 => (recFlag p 0).map fun v => { c with wakeSw := v }
  | 11 => (recNat p 0 604800).map fun v => { c with timer := v }
  | _ => none

/-- POWER_CONFIG (R344): at once, stored in flash; with sleep_agree off the node stays AWAKE (R336). -/
def execPowerConfig (h : Hcp) (recs : List Param) (s : State) : Out :=
  .next (runHcp { opcode := 0x0B01, classC := true, owner := true } h s fun s =>
    match applyRecs s powerRec 0 s.pwc.cfg recs with
    | .error i => failsAt s i
    | .ok c =>
      let s := { s with pwc := { s.pwc with cfg := c, timer := c.timer }, fw := { s.fw with confSeq := s.fw.confSeq + 1 } }
      okay (kaSettle (if c.agree then s else sleepCancel s)))

/-- POWER_KEEP (Table 14-8). -/
def execPowerKeep (h : Hcp) (on : Bool) (s : State) : Out :=
  .next (runHcp { opcode := 0x0B02 } h s fun s =>
    let k := if on then sadd s.pwc.keepers h.tenant else sdel s.pwc.keepers h.tenant
    okay (kaSettle { s with pwc := { s.pwc with keepers := k } }))

/-- POWER_LATENCY (Table 14-8): it replaces the SESSION_OPEN value. -/
def execPowerLatency (h : Hcp) (us : Nat) (s : State) : Out :=
  .next (runHcp { opcode := 0x0B03 } h s fun s =>
    okay (modTenant s h.tenant fun x => { x with maxWake := sat32 us }))

/-- The local reasons other than TENANT of the caller. -/
def othersKeep (s : State) (t : Nat) : Bool :=
  keepReasons { s with pwc := { s.pwc with keepers := sdel s.pwc.keepers t } } != 0

/-- POWER_STANDBY (Table 14-8): refused for keep reasons or a held wake; else the response is written, and entry starts. -/
def execPowerStandby (h : Hcp) (force : Bool) (s : State) : Out :=
  .next (runHcp { opcode := 0x0B04, classC := true, owner := true } h s fun s =>
    if !force && othersKeep s h.tenant then fails s .refused 0x0801
    else if !force && s.pwc.heldWake.isSome then fails s .refused 0x0802
    else .wait (enterStandby (respond s h 0x0B04 .ok 0 []) (if force then 3 else 2)))

/-- PWC_STATUS (Table 14-11). DEDUCED (log): sleep_state holds its reset value 0 until fw_ready, and DISABLED shows from
then on. -/
def pwcStatus (s : State) : Word :=
  let sleep := if !agreeing s then 3 * b2n s.glob.fwReady else match s.pwc.sleep with | .awake => 0 | .pending => 1 | .entering => 2
  word (s.pwc.state + s.pwc.permitted * 16 + s.pwc.limiter * 256 + sleep * 4096 + b2n (keeps s && mgpRuns s) * 32768)

/-- PWC_LIMIT (Table 14-10). -/
def pwcLimit (s : State) : Word :=
  match latencyLimit s with
  | some (t, us) => word (t * 2 ^ 24 + min us 0xFFFFFF)
  | none => word 0xFFFFFF

/-- POWER_STATUS (Table 14-8). -/
def execPowerStatus (h : Hcp) (s : State) : Out :=
  .next (runHcp { opcode := 0x0B05 } h s fun s =>
    okWith s (leBytes 4 (pwcStatus s).toNat ++ leBytes 4 (keepReasons s).toNat ++ leBytes 4 (pwcLimit s).toNat
      ++ (s.pwc.senders.take 16).flatMap fun k =>
        leBytes 8 k.unit.toNat ++ leBytes 2 k.reasons.toNat ++ [0, 0] ++ leBytes 4 k.awakeFor))

/-! ## The power state (R332, R333) -/

/-- POWER_STATE_EVAL (R332): see `powerEval`. -/
def execPowerStateEval (s : State) : Out := .next (powerEval s)

/-- DOZE_HOLD_EXPIRY (R333). -/
def execDozeHoldExpiry (s : State) : Out := .next (powerHold s 2 s.pwc.dozeSince (s.pwc.cfg.dozeHold * 1000))

/-- NAP_HOLD_EXPIRY (R333). -/
def execNapHoldExpiry (s : State) : Out := .next (powerHold s 3 s.pwc.napSince (s.pwc.cfg.napHold * 1000000))

/-! ## Sleep agreement (R334 to R337) -/

/-- KEEPALIVE_SEND (R334): at once with the first reason, then every 1 s; a pending sleep is cancelled (Table 14-5a). -/
def keepaliveDue (s : State) : State :=
  if !mgpRuns s || !keeps s || !s.tms.tsValid then s
  else
    let s := if s.pwc.kaSending then untilMono s (s.pwc.kaAt + 1000000000) else s
    sendKeepAlive (sleepCancel (napEnd s))

/-- See `keepaliveDue`. -/
def execKeepaliveSend (s : State) : Out := .next (keepaliveDue s)

/-- A keep-alive that its policer lets pass: forwarded along its line, its stamp counted, its sender tracked. -/
def keepaliveTake (port : Nat) (k : KeepAlive) (s : State) : State :=
  let s := emitVia s (forwardPorts s port) (.keepAlive k)
  if !mgpRuns s then s
  else
    let at_ := kaStamp s k
    let raises := decide (s.pwc.lastKa < at_)
    let s := napEnd s
    let s := { s with pwc := { s.pwc with lastKa := max s.pwc.lastKa at_ } }
    trackKeeper (if raises then sleepCancel s else s) k

/-- KEEPALIVE_RECEIVE (R334, R336, R337): a TC6 frame (Table 5-2), policed (R117). -/
def keepaliveEffect (port : Nat) (k : KeepAlive) (s : State) : State :=
  if !inaugPort s port || !lineAgrees port k.lineB || k.sender == nodeUnit s then s
  else policed s port (sentLen (.keepAlive k)) (keepaliveTake port k)

/-- See `keepaliveEffect`. -/
def execKeepaliveReceive (port : Nat) (k : KeepAlive) (s : State) : Out := .next (keepaliveEffect port k s)

/-- SLEEP_NOTICE_RECEIVE (Table 14-5a). -/
def sleepNoticeEffect (port : Nat) (k : KeepAlive) (s : State) : State :=
  if !inaugPort s port || !lineAgrees port k.lineB || k.sender == nodeUnit s then s
  else
    let s := emitVia (gotSent s port (.sleepNotice k)) (forwardPorts s port) (.sleepNotice k)
    let t := linNs k.sleepSec k.sleepNs
    if !mgpRuns s then s
    else
    let s := napEnd s
    if !agreeing s then s
    else if s.pwc.sleep = .pending then
      if s.pwc.sleepAt < t then armSleep s t
      else if t < s.pwc.sleepAt then sendNotice s s.pwc.sleepAt else s
    else if keeps s then sendKeepAlive s
    else sendNotice s (sleepCand s)

/-- See `sleepNoticeEffect`. -/
def execSleepNoticeReceive (port : Nat) (k : KeepAlive) (s : State) : Out := .next (sleepNoticeEffect port k s)

/-- QUIET_EXPIRY (Table 14-5a): AWAKE, no local reason, T_quiet since last_ka. -/
def quietEffect (s : State) : State :=
  if !mgpRuns s || !agreeing s || keeps s || s.pwc.sleep != .awake then s
  else sleepPend (untilNs s (s.pwc.lastKa + s.pwc.cfg.quiet * 1000000000))

/-- See `quietEffect`. -/
def execQuietExpiry (s : State) : Out := .next (quietEffect s)

/-- SLEEP_NOTICE_REPEAT (Table 14-5a): every 250 ms in PENDING. -/
def noticeRepeat (s : State) : State :=
  if s.pwc.sleep ≠ .pending ∨ ¬ mgpRuns s then s
  else sendNotice (untilMono s (s.pwc.noticeAt + 250000000)) s.pwc.sleepAt

/-- See `noticeRepeat`. -/
def execSleepNoticeRepeat (s : State) : Out := .next (noticeRepeat s)

/-! ## Wake sources (R339) -/

/-- WAKE_SW_DEBOUNCE (R339): held active for 10 ms; a keep reason on a running device (Table 14-3). -/
def wakeSwOn (s : State) : State :=
  let s := { s with pwc := { s.pwc with wakeSw := true } }
  if s.pwc.cfg.wakeSw then wakeEvent s 2 0 else s

/-- See `wakeSwOn`. -/
def execWakeSwDebounce (s : State) : Out := .next (wakeSwOn s)

/-- WAKE_SW_RELEASE (Table 14-3): the reason clears. -/
def execWakeSwRelease (s : State) : Out := .next (kaSettle { s with pwc := { s.pwc with wakeSw := false } })

/-- EXTERNAL_INH_WAKE (Table 14-6): PG0 rises without an INH0 request. -/
def externalInh (s : State) : State :=
  if bitAt s.pwc.inh 0 ∨ s.pwc.phase ≠ .standby then s
  else wakeEvent { s with pwc := { s.pwc with pgs := setBit s.pwc.pgs 0 true } } 4 0

/-- See `externalInh`. -/
def execExternalInhWake (s : State) : Out := .next (externalInh s)

/-- WAKE_TIMER_EXPIRY (Table 14-6): wake_timer seconds after entry. -/
def wakeTimer (s : State) : State :=
  if s.pwc.phase = .standby ∧ s.pwc.timer ≠ 0 then
    wakeEvent (untilMono s (s.pwc.entryAt + s.pwc.timer * 1000000000)) 5 0
  else s

/-- See `wakeTimer`. -/
def execWakeTimerExpiry (s : State) : Out := .next (wakeTimer s)

/-- SEG_WAKE_PATTERN (R178, Table 7-4, Table 14-6): in STANDBY an armed segment wakes the device; on a running device a
segment in Sleep with its detector on powers its PHY up towards Standby, with event seg_wake. It is counted in
seg_wake_rx (Table 7-7). -/
def wakePattern (sg : Nat) (p : SegPulse) (s : State) : State :=
  if !wakeRule p then s
  else if s.pwc.phase = .standby then (if s.pwc.armed.contains sg then wakeEvent s 3 sg else s)
  else
    let x := segOf s sg
    if x.state == .sleep && x.wakeDet && s.pwc.phase == .running then
      segEvent (putSeg (countPort s (16 + sg) 19 1) sg { x with
        pending := if x.pending.isEmpty then [.wakeUp] else x.pending }) sg 1
    else s

/-- See `wakePattern`. -/
def execSegWakePattern (sg : Nat) (p : SegPulse) (s : State) : Out := .next (wakePattern sg p s)

/-- HELD_WAKE_START (R338): 100 ms after INH0 was released. -/
def heldWake (s : State) : State :=
  match s.pwc.heldWake with
  | some (source, seg) =>
    if s.pwc.phase = .standby then startWake (untilMono s (s.pwc.phaseAt + 100000000)) source seg else s
  | none => s

/-- See `heldWake`. -/
def execHeldWakeStart (s : State) : Out := .next (heldWake s)

/-! ## The wake sequence (R340 to R342) -/

/-- PG_RISE (R340): the awaited one moves the sequence on; one that fell while the device ran ends that fall (R375). -/
def pgRise (n : Nat) (s : State) : State :=
  if 3 ≤ n then s
  else
    let fell := (tget none s.pwc.pgLow n).isSome
    let s := { s with pwc := { s.pwc with pgs := setBit s.pwc.pgs n true, pgLow := tset none s.pwc.pgLow n none } }
    let s := if fell && s.evr.pfailDone then { s with evr := { s.evr with pfailRose := some s.mono } } else s
    if s.pwc.phase = .pg n then enterPg 4 s (n + 1) else s

/-- See `pgRise`. -/
def execPgRise (n : Nat) (s : State) : Out := .next (pgRise n s)

/-- PG_TIMEOUT (Table 14-7): 20 ms without PGn. -/
def execPgTimeout (n : Nat) (s : State) : Out :=
  .next (if s.pwc.phase = .pg n then attemptFail (untilMono s (s.pwc.phaseAt + 20000000)) (n + 1) else s)

/-- XIN_VALID (R340). -/
def execXinValid (s : State) : Out :=
  .next (if s.pwc.phase = .xin then { s with pwc := { s.pwc with phase := .lock false false, phaseAt := s.mono } } else s)

/-- Time service is lost (R14, Table 1-3): reservations are withdrawn, an inauguration in progress loses this node, far
accesses end and bus- and network-fed variables go stale (R205, R226, Table 9-5). -/
def timeGone (s : State) : State := pdDegrade (farDegraded (admissionLost (inaugTimeLost s)))

/-- XIN_TIMEOUT (R20, Table 14-7): 10 ms without a valid clock: the PLL locks to the internal RC (source 0xFF of Table 2-11), in degraded mode. -/
def xinLate (s : State) : State :=
  if s.pwc.phase = .xin then
    let s := untilMono s (s.pwc.phaseAt + 10000000)
    setAlarm (timeGone { s with
      pwc := { s.pwc with phase := .lock false true, phaseAt := s.mono }
      glob := { s.glob with degraded := true }, tms := { s.tms with tsValid := false, refSource := 0xFF } }) .pwc 4
  else s

/-- See `xinLate`. -/
def execXinTimeout (s : State) : Out := .next (xinLate s)

/-- PLL_LOCK (R340, R374): the release of PORST#: the boot ROM runs, the time bases count unless the device is degraded,
the fabric runs; a latched wake failure is told. -/
def pllLock (s : State) : State :=
  match s.pwc.phase with
  | .lock _ _ =>
    let s := { s with
      pwc := { s.pwc with phase := .running, phaseAt := s.mono, lockAt := s.mono }
      fw := { s.fw with phase := .rom }
      tms := { s.tms with tsValid := !s.glob.degraded, refAt := s.mono }
      fab := { s.fab with ready := true, admitted := !s.glob.degraded } }
    setAlarmIf s s.pwc.wakeFail .pwc 3
  | _ => s

/-- See `pllLock`. -/
def execPllLock (s : State) : Out := .next (pllLock s)

/-- PLL_LOCK_TIMEOUT (Table 14-7): 1 ms without lock: one further attempt, on the internal RC none. -/
def pllLate (s : State) : State :=
  match s.pwc.phase with
  | .lock again rc =>
    let s := untilMono s (s.pwc.phaseAt + 1000000)
    if again || rc then attemptFail s 4 else { s with pwc := { s.pwc with phase := .lock true false, phaseAt := s.mono } }
  | _ => s

/-- See `pllLate`. -/
def execPllLockTimeout (s : State) : Out := .next (pllLate s)

/-- WAKE_RETRY (R341): 100 ms after the release of INH0. -/
def execWakeRetry (s : State) : Out :=
  .next (if s.pwc.phase = .retry then nextAttempt (untilMono s (s.pwc.phaseAt + 100000000)) else s)

/-- WAKE_OUT_SIGNAL (R342): the 50 ms pulse ends, or the next repetition of a latched code begins; after 10 min it ends. -/
def wakeOutStep (s : State) : State :=
  match s.pwc.wakeOut, s.pwc.wakeOutFail with
  | some t, _ => let s := untilMono s t; { s with pwc := { s.pwc with wakeOut := none } }
  | none, some t =>
    let s := untilMono s (t + ((s.mono - t) / 5000000000 + 1) * 5000000000)
    if t + 600000000000 ≤ s.mono then { s with pwc := { s.pwc with wakeOutFail := none } } else s
  | none, none => s

/-- See `wakeOutStep`. -/
def execWakeOutSignal (s : State) : Out := .next (wakeOutStep s)

/-! ## Power-good, VAON, PORST# and PFAIL# (R356, R374, R375) -/

/-- The wake sequence is past step `n` of its PGs: PGn must stay high (Table 14-7). -/
def pgNeeded (s : State) (n : Nat) : Bool :=
  match s.pwc.phase with
  | .pg k => decide (n < k)
  | .xin | .lock _ _ => true
  | _ => false

/-- PG_FALL (R375, Table 14-7): while the device runs it acts as PFAIL# falling; in the wake sequence the attempt fails. -/
def pgFall (n : Nat) (s : State) : State :=
  if 3 ≤ n then s
  else
    let s := { s with pwc := { s.pwc with pgs := setBit s.pwc.pgs n false } }
    if s.pwc.phase = .running then
      settleBoth (evrFlush { s with pwc := { s.pwc with pgLow := tset none s.pwc.pgLow n (some s.mono) } })
    else if pgNeeded s n then attemptFail s (n + 1)
    else s

/-- See `pgFall`. -/
def execPgFall (n : Nat) (s : State) : Out := .next (pgFall n s)

/-- PG_LOW_TIMEOUT (R375): still low 2 ms later: INH is released, the sequence runs again 100 ms later. -/
def pgLow (n : Nat) (s : State) : State :=
  match tget none s.pwc.pgLow n with
  | some t =>
    if s.pwc.phase = .running then
      let s := mainReset (untilMono s (t + 2000000)) .retry
      { s with pwc := { s.pwc with inh := 0, attempts := 0, fromStandby := false }, fw := { s.fw with bootCause := 0 } }
    else s
  | none => s

/-- See `pgLow`. -/
def execPgLowTimeout (n : Nat) (s : State) : Out := .next (pgLow n s)

/-- VAON_POWER_ON (R374, R345): VAON in range for 1 ms: the VAON registers are reset, and without PORST# the sequence runs
with source 0x00. -/
def vaonOn (s : State) : State :=
  if s.pwc.vaonOk then s
  else
    let s := { s with
      pwc := { s.pwc with
        vaonOk := true, vaonFresh := true, wakeFail := false, failCode := 0, attempts := 0, source := 0, segment := 0
        count := 0, entry := 0, standbyS := 0, fails := 0, timer := 0, armed := [], heldWake := none
        fromStandby := false, phaseAt := s.mono }
      fw := { s.fw with bootCause := 0 } }
    if s.pwc.porstLow then s else startWake s 0 0

/-- See `vaonOn`. -/
def execVaonPowerOn (s : State) : Out := .next (vaonOn s)

/-- VAON_LOSS (R374): the device is reset as by PORST#; every VAON output is low. -/
def vaonOff (s : State) : State :=
  let s := mainReset s .held
  { s with pwc := { s.pwc with vaonOk := false, inh := 0, wakeOut := none, wakeOutFail := none } }

/-- See `vaonOff`. -/
def execVaonLoss (s : State) : Out := .next (vaonOff s)

/-- PORST_ASSERT (R374): the device is held in reset; rails that are up stay up. -/
def porstLow (s : State) : State :=
  let s := warmReset s .held
  { s with pwc := { s.pwc with porstLow := true, fromStandby := false }, fw := { s.fw with noStrap := false } }

/-- See `porstLow`. -/
def execPorstAssert (s : State) : Out := .next (porstLow s)

/-- PORST_RELEASE (R374): the wake sequence, with source 0x01, or 0x00 where VAON has powered up since the last one. -/
def porstHigh (s : State) : State :=
  if !s.pwc.porstLow then s
  else
    let s := { s with pwc := { s.pwc with porstLow := false } }
    let src := if s.pwc.vaonFresh then 0 else 1
    if s.pwc.vaonOk then startWake { s with fw := { s.fw with bootCause := src } } src 0 else s

/-- See `porstHigh`. -/
def execPorstRelease (s : State) : Out := .next (porstHigh s)

/-- PFAIL_FALL (R356): low for 10 µs: the flush. -/
def pfailLow (s : State) : State :=
  let s := { s with pwc := { s.pwc with pfail := true } }
  if s.pwc.phase = .running then evrFlush s else s

/-- See `pfailLow`. -/
def execPfailFall (s : State) : Out := .next (pfailLow s)

/-- PFAIL_RISE (R356): admission resumes 10 ms later. -/
def pfailHigh (s : State) : State :=
  if !s.pwc.pfail then s
  else
    let s := { s with pwc := { s.pwc with pfail := false } }
    if s.evr.pfailDone then { s with evr := { s.evr with pfailRose := some s.mono } } else s

/-- See `pfailHigh`. -/
def execPfailRise (s : State) : Out := .next (pfailHigh s)

/-- WAKE_GRACE_EXPIRY (Table 14-3): awake_min since fw_ready. -/
def graceEnd (s : State) : State :=
  if s.pwc.graceOn then
    let s := untilMono s (s.fw.readyAt + s.pwc.cfg.awakeMin * 1000000000)
    kaSettle { s with pwc := { s.pwc with graceOn := false } }
  else s

/-- See `graceEnd`. -/
def execWakeGraceExpiry (s : State) : Out := .next (graceEnd s)

/-- RSTOUT_RELEASE (Table 16-10): 10 ms after PLL lock. -/
def rstoutHigh (s : State) : State :=
  if s.pwc.rstoutLow ∧ s.pwc.phase = .running then
    let s := untilMono s (s.pwc.lockAt + 10000000)
    { s with pwc := { s.pwc with rstoutLow := false } }
  else s

/-- See `rstoutHigh`. -/
def execRstoutRelease (s : State) : Out := .next (rstoutHigh s)

end Sys2Proof.Machine
end

