-- ==== Sys2Proof/Machine/Regs.lean ====
section
/-! DEFINITION. What every register of BAR0 reads as: GLOBAL, MBX control, the doorbell pages, FF, TMS, CSS, INE, the island's
mirror, EVR, PWC and the far control words (Tables 1-8, 2-10, 3-8, 5-10, 7-8, 8-13, 9-7, 10-8, 11-6, 12-4, 14-10, 15-7;
R291). `none` is a reserved offset (R31). -/

namespace Sys2Proof.Machine

/-- Word `i` of a 128-bit value. -/
def wordOf128 (v : BitVec 128) (i : Nat) : Word := (v >>> (32 * i)).truncate 32

/-- The register at an offset of a list of offsets and values. -/
def regList (l : List (Nat × Word)) (off : Nat) : Option Word := (l.find? fun e => e.1 == off).map Prod.snd

/-- A signed number of 32 bits that saturates at ±(2^31 − 1). -/
def satI32 (v : Int) : Word := wordI (max (-2147483647) (min 2147483647 v))

/-- The part of an element of an array of registers: element and offset within it, where both are in range. -/
def elemAt (off base size count : Nat) : Option (Nat × Nat) :=
  if base ≤ off ∧ (off - base) / size < count then some ((off - base) / size, (off - base) % size) else none

/-! ## GLOBAL and MBX control (Table 1-8, R291) -/

/-- GLOBAL_ID (Table 0-2): hardware type 0x9664, stepping B0, bit 0 of the S part. -/
def globalId (s : State) : Word := word (0x9664B000 + b2n s.otp.island)

/-- FEATURES_OFFERED (R32, R295): fixed by the firmware, bits 17 up reserved, bit 13 only with the island. -/
def featOffered (s : State) : BitVec 128 := featuresOffered s

/-- GLOBAL_ECC_LAST (Table 1-11). -/
def eccLast (g : Global) : Word :=
  word (b2n g.eccValid * 2 ^ 31 + b2n g.eccUe * 2 ^ 30 + g.eccMem.toNat * 2 ^ 24 + g.eccWord.toNat)

/-- A register of the GLOBAL block. -/
def globReg (s : State) (off : Nat) : Option Word :=
  match elemAt off 0x020 4 8 with
  | some (i, 0) => some (if i < 4 then wordOf128 (featOffered s) i else wordOf128 s.glob.featAccepted (i - 4))
  | some _ => none
  | none => regList
      [(0x000, globalId s), (0x004, halfOf s.otp.unitId false), (0x008, halfOf s.otp.unitId true), (0x00C, globalStatus s),
       (0x014, s.glob.err), (0x018, s.glob.errEn), (0x040, word s.glob.ceCount), (0x044, word s.glob.ueCount), (0x048, 0),
       (0x04C, eccLast s.glob), (0x050, word s.glob.badAddr.toNat)] off

/-- The number of tenants in a state. -/
def tenantsIn (s : State) (st : TenantState) : Nat := (s.host.tenants.filter fun e => e.2.state == st).length

/-- Word `i` of the map of tenants in a state. -/
def tenantMap (s : State) (st : TenantState) (i : Nat) : Word :=
  word ((s.host.tenants.map fun e => if e.1 / 32 = i ∧ e.2.state = st then 2 ^ (e.1 % 32) else 0).sum)

/-- A register of MBX control. -/
def mbxReg (s : State) (off : Nat) : Option Word :=
  match elemAt off 0x020 4 16 with
  | some (i, 0) => some (if i < 8 then tenantMap s .faulted i else tenantMap s .opened (i - 8))
  | some _ => none
  | none =>
    if off = 0 then some (word (tenantsIn s .faulted * 65536 + tenantsIn s .opened))
    else if off = 0x060 then some (word (s.host.spiIgnored * 65536 + b2n s.host.spiUsed))
    else none

/-! ## Doorbell pages -/

/-- A register of the doorbell page of tenant `t` through BAR0: a page on another path reads 0 (R285). -/
def pageReg (s : State) (t off : Nat) : Option Word :=
  (pageRead s t off false).map fun v => if pageOn (tenant s t) t .pcie then v else 0

/-! ## TMS (Tables 2-10 and 2-11) -/

/-- The code of trt_state; in degraded mode NONE (R70). -/
def trtCode (s : State) : Nat :=
  if s.glob.degraded then 5
  else match s.tms.trtState with
    | .free => 0 | .acquiring => 1 | .locked => 2 | .holdover => 3 | .leader => 4 | .none => 5

/-- The code of wyt_state; in degraded mode INVALID (R70). -/
def wytCode (s : State) : Nat :=
  if s.glob.degraded then 0
  else match s.tms.wytState with
    | .invalid => 0 | .acquiring => 1 | .locked => 2 | .holdover => 3

/-- TMS_STATUS. -/
def tmsStatus (s : State) : Word :=
  word (s.tms.trtEpoch.toNat * 2 ^ 24 + s.tms.hops * 2 ^ 16 + s.tms.upstream * 2 ^ 12 + s.tms.wytDom * 2 ^ 11
    + wytCode s * 2 ^ 8 + trtCode s * 16 + b2n s.tms.cfg.manual * 4 + b2n (skewOk s) * 2 + b2n s.tms.tsValid)

/-- Microseconds since a model time, saturating; 0 without one. -/
def ageUs (s : State) : Option Nat → Word
  | some t => word (sat32 ((s.mono - t) / 1000))
  | none => 0

/-- TMS_WYT_DOMn_OFFSET. -/
def domOffset (s : State) (d : Nat) : Word :=
  let x := tget ({} : GptpDomain) s.tms.domains d
  if x.synced then satI32 x.offset else word 0x80000000

/-- TMS_REF_STATUS. -/
def refStatus (s : State) : Word :=
  word (s.tms.refCand.toNat * 65536 + s.tms.refSource * 256 + b2n s.tms.xinFault * 2 + b2n s.tms.refPpb.isSome)

/-- TMS_LINK_DELAY of a link. -/
def linkDelayReg (s : State) (l : Nat) : Word :=
  if (tget ({} : LinkTime) s.tms.links l).samples.isEmpty then word 0xFFFFFFFF else wordI (linkDelayPs s l)

/-- The high 16 bits of a signed 48-bit number of seconds. -/
def secHi (v : Int) : Word := word ((v.emod (2 ^ 48)).toNat / 2 ^ 32)

/-- TMS_SLOT_STAT: the validity bits read 0 in degraded mode (R70). -/
def slotStat (s : State) (x : TimeSlot) : Word :=
  word (b2n (x.trtValid && !s.glob.degraded) * 2 ^ 31 + b2n (x.wytValid && !s.glob.degraded) * 2 ^ 30
    + x.epoch.toNat * 65536 + x.count.toNat)

/-- A register of time-read slot `k` (R59): TRT ns as it stands, and the shadows. -/
def slotReg (s : State) (k off : Nat) : Option Word :=
  let x := tget ({} : TimeSlot) s.tms.slots k
  let sec := fun (raw : Nat) => raw / nsRaw / 1000000000
  let o := offsetParts x.trt x.wyt
  regList
    [(0x00, word (trtNs s % 1000000000)), (0x04, word (sec x.trt)), (0x08, secHi (sec x.trt)), (0x0C, word (fracOf x.trt)),
     (0x10, word (x.wyt / nsRaw % 1000000000)), (0x14, word (sec x.wyt)), (0x18, secHi (sec x.wyt)),
     (0x1C, word (fracOf x.wyt)), (0x20, wordI o.1), (0x24, secHi o.1), (0x28, word o.2.1), (0x2C, word o.2.2),
     (0x30, slotStat s x)] off

/-- A register of the TMS block. -/
def tmsReg (s : State) (off : Nat) : Option Word :=
  match elemAt off 0x100 0x40 8 with
  | some (k, o) => slotReg s k o
  | none => regList
      [(0x000, tmsStatus s), (0x004, s.tms.alarm), (0x008, s.tms.alarmEn), (0x010, lowWord s.tms.trtDrift),
       (0x014, s.tms.trtDriftHi), (0x018, lowWord s.tms.wytDrift), (0x01C, s.tms.wytDriftHi),
       (0x020, halfOf s.tms.leaderId false), (0x024, s.tms.leaderHi), (0x028, satI32 s.tms.upOffset),
       (0x02C, ageUs s s.tms.trtHoldSince), (0x030, ageUs s s.tms.wytHoldSince), (0x034, domOffset s 0), (0x038, domOffset s 1),
       (0x040, refStatus s), (0x044, match s.tms.refPpb with | some v => wordI v | none => word 0x80000000),
       (0x050, linkDelayReg s 0), (0x054, linkDelayReg s 1), (0x058, linkDelayReg s 2), (0x05C, linkDelayReg s 3),
       (0x060, linkDelayReg s 4), (0x070, s.tms.ppsInTrt), (0x074, s.tms.ppsInWyt), (0x078, s.tms.ppsInCount),
       (0x080, wordI s.tms.stepRec.sec), (0x084, secHi s.tms.stepLatch.sec), (0x088, word s.tms.stepLatch.ns),
       (0x08C, word s.tms.stepLatch.epoch.toNat)] off

/-! ## CSS (Tables 3-8 and 3-9) -/

/-- The code of a CSS state. -/
def cssCode : CssState → Nat
  | .stopped => 0 | .listen => 1 | .coldstart => 2 | .integrating => 3 | .active => 4 | .leader => 5 | .waitStart => 6

/-- CSS_STATUS. -/
def cssStatus (s : State) : Word :=
  word (s.css.stopReason * 2 ^ 16 + s.css.missed * 2 ^ 8 + b2n s.css.leaderless * 128 + b2n s.css.stopPan.isSome * 64
    + b2n s.css.fits * 32 + b2n s.css.capable * 16 + cssCode s.css.state)

/-- CSS_PAN_NUM. -/
def cssPan (s : State) : Word :=
  match s.css.state with
  | .active | .leader => s.css.pan
  | .integrating => s.css.lastCs.getD 0
  | _ => 0

/-- A word of a receive window's registers; windows not instantiated read 0. -/
def winReg (s : State) (w i : Nat) : Word :=
  match s.css.windows[w]? with
  | none => 0
  | some x =>
    if i = 0 then word (x.lastPan.toNat * 65536 + b2n x.stale * 2 ^ 15 + b2n x.line * 2 ^ 14 + b2n x.rejected * 2 ^ 13
      + b2n x.validEver * 2 ^ 12 + x.age)
    else if i = 1 then word (x.dup * 65536 + x.empty)
    else if i = 2 then word (x.missB * 65536 + x.missA)
    else word x.rej

/-- A word of a transmit slot's registers; slots not instantiated read 0. -/
def txReg (s : State) (i k : Nat) : Word :=
  match s.css.slots[i]? with
  | none => 0
  | some x => if k = 0 then word (b2n x.ready * 2 ^ 31 + x.notReady) else x.sentSeq

/-- A register of the CSS block. -/
def cssReg (s : State) (off : Nat) : Option Word :=
  match elemAt off 0x10000 0x10 4096, elemAt off 0x20000 8 1024 with
  | some (w, o), _ => if o % 4 = 0 then some (winReg s w (o / 4)) else none
  | _, some (i, o) => if o % 4 = 0 then some (txReg s i (o / 4)) else none
  | none, none => regList
      [(0x000, cssStatus s), (0x004, s.css.alarm), (0x008, s.css.alarmEn), (0x00C, schedId s),
       (0x010, match s.css.image with | some i => word i.panLen | none => 0), (0x014, cssPan s),
       (0x018, halfOf s.css.leader false), (0x01C, s.css.leaderHi), (0x020, word (s.css.origin / 1000000000)),
       (0x024, s.css.originHi), (0x028, s.css.originNs), (0x030, word (s.css.guardEff * 65536 + s.css.guardCfg)),
       (0x034, word (s.css.windows.length * 65536 + s.css.slots.length)), (0x038, word s.css.skipped),
       (0x040, s.css.missTotal), (0x044, s.css.rejectTotal), (0x048, s.css.integrations), (0x04C, s.css.clearPan)] off

/-! ## FF (Tables 5-10, 5-11, 7-8 and 7-9) -/

/-- The code of a re-salt state. -/
def resaltCode : Resalt → Nat
  | .idle => 0 | .migrating => 1 | .camSweep => 2 | .stuck => 3

/-- FF_STATUS: the sluice lists are applied while there is time service (R14). -/
def ffStatus (s : State) : Word :=
  word (s.fab.fdb.saltGen * 256 + resaltCode s.fab.fdb.resalt * 64 + b2n s.tms.tsValid * 32 + b2n s.fab.admitted * 16
    + b2n (sharedFree s == 0) * 8 + b2n s.fab.fdb.full * 4 + b2n s.fab.ready)

/-- FF_BRINE_FREE: the cells that no frame holds. -/
def brineFree (s : State) : Nat :=
  65536 - ((s.fab.held.map fun e => match e.2 with | some h => cellsOf h.frame.len | none => 0).sum)

/-- A 64-bit counter of the FF block by the offset of its _LO word: bittern per port and per tenant, whose reasons 0x00 and
0x0F read 0 (R147), watch counters, and the live port counters. -/
def ffCounter (s : State) (off : Nat) : Option (BitVec 64) :=
  let bitt := fun (t : Table (BitVec 64)) (k : Nat) => if k % 16 = 0 ∨ k % 16 = 15 then 0 else tget 0 t k
  match elemAt off 0x10000 8 (101 * 16), elemAt off 0x20000 8 (256 * 16), elemAt off 0x30000 0x20 16,
      elemAt off 0xC0000 8 (101 * 64) with
  | some (k, 0), _, _, _ => some (bitt s.fab.bit.ports k)
  | _, some (k, 0), _, _ => some (bitt s.fab.bit.tenants k)
  | _, _, some (k, 0x08), _ => some (match tget none s.fab.bit.watches k with | some w => w.frames | none => 0)
  | _, _, some (k, 0x10), _ => some (match tget none s.fab.bit.watches k with | some w => w.bytes | none => 0)
  | _, _, _, some (k, 0) => some (tget 0 (portCounters s) k)
  | _, _, _, _ => none

/-- FF_WATCH_FILTER(k); a counter that is not armed reads 0. -/
def watchFilter (s : State) (k : Nat) : Word :=
  match tget none s.fab.bit.watches k with
  | none => 0
  | some w => word (w.filter.reason.getD 255 * 2 ^ 24 + w.filter.port.getD 255 * 2 ^ 16 + w.filter.tenant.getD 0 * 256
      + b2n w.filter.tenant.isNone)

/-- Word `i` of a tenant's last-discard record (R148). -/
def lastReg (s : State) (t i : Nat) : Word :=
  let r := tget ({} : LastDiscard) s.fab.bit.last t
  if i = 0 then r.w0 else if i = 1 then r.l1 else if i = 2 then r.l2 else r.l3

/-- The code of a harvest bank's state. -/
def bankCode : BankState → Nat
  | .empty => 0 | .pending => 1 | .filling => 2 | .valid => 3 | .aborted => 4

/-- A register of harvest bank `b` (Table 7-8); its reads latch nothing (R191). -/
def bankReg (s : State) (b off : Nat) : Option Word :=
  let x := tget ({} : HarvestBank) s.ports.banks b
  match elemAt off 0 8 (101 * 64), elemAt off 0xF020 4 4 with
  | some (k, o), _ => if o % 4 = 0 then some (halfOf (tget 0 x.counts k) (o == 4)) else none
  | _, some (i, 0) => some (wordOf128 x.mask i)
  | _, _ => regList
      [(0xF000, x.seq),
       (0xF004, word (x.epoch.toNat * 2 ^ 24 + x.tenant * 65536 + b2n x.invalid * 256 + x.abort * 16 + bankCode x.state)),
       (0xF008, word (x.at_ / 1000000000)), (0xF00C, secHi (x.at_ / 1000000000 : Nat)), (0xF010, word (x.at_ % 1000000000)),
       (0xF014, x.ident)] off

/-- A register of the FF block: a counter's _LO word, a _HI word as the block latched it last, and the rest. -/
def ffReg (s : State) (off : Nat) : Option Word :=
  match ffCounter s off, elemAt off 0x30000 0x20 16, elemAt off 0x40000 0x10 256, elemAt off 0x80000 0x10000 4 with
  | some c, _, _, _ => some (halfOf c false)
  | _, some (k, 0), _, _ => some (watchFilter s k)
  | _, _, some (t, o), _ => if o % 4 = 0 then some (lastReg s t (o / 4)) else none
  | _, _, _, some (b, o) => bankReg s b o
  | none, _, none, none =>
    if 4 ≤ off ∧ (ffCounter s (off - 4)).isSome then some s.fab.bit.latchHi
    else
      let cam := camCount s.fab.fdb
      regList
        [(0x000, ffStatus s), (0x004, s.fab.alarm), (0x008, s.fab.alarmEn), (0x010, word (brineFree s)),
         (0x014, word (sharedFree s)), (0x018, word s.fab.sharedMin), (0x01C, 0),
         (0x020, word ((s.fab.fdb.entries.length - cam) * 65536 + cam)), (0x024, s.fab.fdb.learnFail),
         (0x028, s.fab.fdb.resalts), (0x030, s.fab.ctFrames), (0x034, s.fab.ctStomps), (0x038, s.fab.gvCount),
         (0x03C, s.fab.bit.latchTag), (0x040, word s.fab.arbPtr)] off

/-! ## INE (Table 8-13) -/

/-- The code of a twin state. -/
def twinCode : TwinState → Nat
  | .unpaired => 0 | .syncing => 1 | .active => 2 | .standby => 3 | .alone => 4

/-- INE_TWIN_STATUS; TW0 is LOCKED while its phase tracker holds lock (DEDUCED, log). -/
def twinStatus (s : State) : Word :=
  word (twinCode s.ine.twin.state + b2n s.ine.twin.lineB * 8
    + b2n (tget ({} : LinkTime) s.tms.links 4).trackSince.isSome * 16)

/-- Word `k` of INE_NODE(i); positions beyond the table read 0. -/
def nodeReg (s : State) (i k : Nat) : Word :=
  match s.ine.nodes[i]? with
  | some n => word (beNum (bytesAt (nodeBytes n) (4 * k) 4))
  | none => 0

/-- Word `k` of INE_ALIAS(b, e). -/
def aliasReg (s : State) (b e k : Nat) : Word :=
  match tget none (bankRead s b) e with
  | none => 0
  | some a =>
    if k = 0 then word (2 ^ 31 + b2n a.isStatic * 2 ^ 30 + b2n (bitAt a.mac 40) * 2 ^ 29 + b2n a.exchanged * 2 ^ 28
      + a.vlan % 4096 * 65536 + a.tfa % 65536)
    else if k = 1 then word (a.mac.toNat / 65536)
    else if k = 2 then word (a.mac.toNat % 65536 * 65536 + b2n a.stream.isSome * 2 ^ 15 + a.stream.getD 0 % 8192)
    else word (a.source % 256)

/-- A register of the INE block. -/
def ineReg (s : State) (off : Nat) : Option Word :=
  match elemAt off 0x1000 0x20 63, elemAt off 0x10000 0x10 8192 with
  | some (i, o), _ => if o % 4 = 0 then some (nodeReg s i (o / 4)) else none
  | _, some (e, o) => if o % 4 = 0 then some (aliasReg s (e / 4096) (e % 4096) (o / 4)) else none
  | none, none => regList
      [(0x000, ineStatus s), (0x004, s.ine.alarm), (0x008, s.ine.alarmEn), (0x00C, s.ine.gen), (0x010, s.ine.topo),
       (0x014, ineSelf s), (0x018, ineTrain s), (0x01C, s.ine.count), (0x020, word (sat32 s.ine.duration)), (0x024, ineResult s),
       (0x028, wordI s.ine.stepSec), (0x02C, s.ine.stepLatch), (0x030, twinStatus s), (0x034, s.ine.twin.swaps),
       (0x038, s.ine.twin.misses)] off

/-! ## The island's mirror (Tables 10-8 and 11-6) -/

/-- An offset of the mirror that names a register: 0x000 to 0x024, and four words of each of 64 axes at 0x100 and 0x800. -/
def mirrorHas (off : Nat) : Bool :=
  off % 4 == 0 && (decide (off ≤ 0x024) || decide (0x100 ≤ off ∧ off < 0x500) || decide (0x800 ≤ off ∧ off < 0xC00))

/-- A register of the mirror; a BV-9664-N has no island and its mirror reads 0. -/
def mirrorReg (s : State) (off : Nat) : Option Word :=
  if mirrorHas off then some (if s.otp.island then tget 0 s.isl.mirror off else 0) else none

/-! ## EVR and AGM (Table 15-7) -/

/-- The bytes of EVR_WIN(i): the windrow of seq EVR_WIN_BASE + i while it is in staging (R359). -/
def winBytes (s : State) (i : Nat) : Bytes :=
  match s.evr.staging.find? fun w => word w.num == s.evr.winBase + word i with
  | some w => windrowBytes (evrSlots s) w
  | none => []

/-- The 8 words of EVR_WIN(i), 0 where it shows no windrow. -/
def winWords (s : State) (i : Nat) : List Word := (List.range 8).map fun k => word (leAt (winBytes s i) (4 * k) 4)

/-- A register of the EVR block. -/
def evrReg (s : State) (off : Nat) : Option Word :=
  match elemAt off 0x10000 0x20 4096, elemAt off 0x1100 4 48, elemAt off 0x1200 8 9, elemAt off 0x1300 4 64 with
  | some (i, o), _, _, _ =>
    if o = 0 then some ((winWords s i).getD 0 0)
    else if o % 4 = 0 then some (s.evr.latch.getD (o / 4) 0) else none
  | _, some (r, 0), _, _ => some (agmReplica s r)
  | _, _, some (j, 0), _ => some (wordI (s.agm.latTx.getD j 0))
  | _, _, some (j, 4), _ => some (wordI (s.agm.latRx.getD j 0))
  | _, _, _, some (g, 0) => some (let x := tget (0, 0) s.agm.t1s g; word (x.1 % 256 * 65536 + x.2 % 65536))
  | _, _, _, _ =>
    if off % 4 = 0 then (if 0x1000 ≤ off then (agmRegs s)[(off - 0x1000) / 4]? else (evrRegs s)[off / 4]?) else none

/-! ## PWC (Tables 14-10 and 14-13) -/

/-- PWC_VAON_WAKE. -/
def vaonWake (p : Pwc) : Word :=
  word (b2n p.wakeFail * 2 ^ 31 + p.failCode * 2 ^ 28 + p.attempts * 2 ^ 24 + p.segment * 256 + p.source)

/-- The sender kept awake for longest (PWC_KEEPER): unit ID, seconds and reasons; zeros with none. -/
def longestKeeper (s : State) : UnitId × Nat × Nat :=
  match s.pwc.senders.foldl (fun (m : Option Keeper) k =>
      if m.all fun x => decide (x.awakeFor < k.awakeFor) then some k else m) none with
  | some k => (k.unit, k.awakeFor, k.reasons.toNat)
  | none => (0, 0, 0)

/-- PWC_RES(n): ms spent in state `n`, the present stay included. -/
def residency (s : State) (n : Nat) : Word :=
  word ((tget 0 s.pwc.res n + if s.pwc.state = n then s.mono - s.pwc.stateAt else 0) / 1000000)

/-- A register of the PWC block. -/
def pwcReg (s : State) (off : Nat) : Option Word :=
  match elemAt off 0x040 4 4 with
  | some (n, 0) => some (residency s n)
  | some _ => none
  | none => regList
      [(0x000, pwcStatus s), (0x004, s.pwc.alarm), (0x008, s.pwc.alarmEn), (0x00C, word ((keepReasons s).toNat % 256)),
       (0x010, pwcLimit s), (0x014, word s.pwc.lastKa), (0x018, word (s.pwc.sleepAt / 1000000000)), (0x01C, s.pwc.sleepHi),
       (0x020, s.pwc.sleepNs), (0x028, halfOf (longestKeeper s).1 false), (0x02C, s.pwc.keeperHi), (0x030, s.pwc.keeperInfo),
       (0x100, vaonWake s.pwc), (0x104, s.pwc.count), (0x108, word s.pwc.entry), (0x10C, s.pwc.standbyS),
       (0x110, word s.pwc.timer), (0x114, s.pwc.fails)] off

/-! ## Far control words (Tables 9-7 and 9-8) -/

/-- FW_STATUS of target `f`. -/
def farStatus (s : State) (f : Nat) : Word :=
  let x := farOf s f
  let lock := match x.lock with
    | none => 0
    | some l => if l.path = .bar0 then 1 else 2
  word (x.lastStatus * 2 ^ 24 + b2n x.txn.isSome * 65536 + b2n (x.cfg.any FarCfg.maint) * 128 + b2n x.cfg.isSome * 64
    + b2n (x.cfg.any fun c => farPortUp s c) * 32 + lock * 8)

/-- FW_LOCK_STAT of target `f`. -/
def farLockStat (s : State) (f : Nat) : Word :=
  match (farOf s f).lock with
  | none => 0
  | some l => word (2 ^ 31 + b2n (l.path == .bar0) * 2 ^ 30 + l.token % 16384 * 65536 + leaseLeft s l % 65536)

/-- A control word of target `f`; the other offsets from 0x7FC0 on read 0. -/
def farWord (s : State) (f off : Nat) : Word :=
  (regList [(0x7FC0, farStatus s f), (0x7FC4, (farOf s f).err), (0x7FC8, (farOf s f).errAddr), (0x7FD0, farLockStat s f)]
    off).getD 0

/-! ## The map (Table 1-7) -/

/-- What the BAR0 offset reads as; none where it is reserved (R31). -/
def readReg (s : State) (off : Nat) : Option Word :=
  if off < 0x010000 then globReg s off
  else if off < 0x020000 then mbxReg s (off - 0x010000)
  else if off < 0x100000 then none
  else if off < 0x200000 then pageReg s (off / 0x1000 - 0x100) (off % 0x1000)
  else if off < 0x300000 then ffReg s (off - 0x200000)
  else if off < 0x340000 then tmsReg s (off - 0x300000)
  else if off < 0x380000 then cssReg s (off - 0x340000)
  else if off < 0x400000 then ineReg s (off - 0x380000)
  else if off < 0x440000 then mirrorReg s (off - 0x400000)
  else if off < 0x480000 then evrReg s (off - 0x440000)
  else if off < 0x4C0000 then pwcReg s (off - 0x480000)
  else none

end Sys2Proof.Machine
end

