-- ==== Sys2Proof/Machine/Bar0.lean ====
section
/-! DEFINITION. Host accesses: register writes (R9, R31), reads with their latches (R59, R62, R92, R148, R151, R221, R345,
R359, R367), the memories' scrubber and the restoring of poisoned entries (R25 to R29), and the SPI target (R284). -/

namespace Sys2Proof.Machine

/-! ## What an uncorrectable read brings about (Table 1-5) -/

/-- A frame of Brine lies in a poisoned word: every queued copy is discarded with MEM_POISON. -/
def brinePoison (s : State) (w : Nat) : State :=
  let hit := fun (k : Nat) => Config.entryOf 1 w == k
  let s := s.fab.queues.foldl (fun s q =>
    (q.2.filter hit).foldl (fun s k => dropQueued s (q.1 / 8) (q.1 % 8) k 8) s) s
  s.host.tenants.foldl (fun s t =>
    (t.2.waiting.filter fun i => i.held.any hit).foldl (fun s i =>
      dropItem (modTenant s t.1 fun x => { x with waiting := x.waiting.erase i }) t.1 8 i) s) s

/-- EVR staging holds 32,768 windrows of four words: the one in the word is gone, and lost unless it has been written. -/
def stagingPoison (s : State) (w : Nat) : State :=
  match s.evr.staging.find? fun x => x.num % 32768 == w / 4 with
  | none => s
  | some x =>
    let s := { s with evr := { s.evr with staging := s.evr.staging.filter fun y => y.num != x.num } }
    if x.written then s else windrowLost s (x.cls == 3)

/-- A port microengine halts: its ports go down, until the MGP has reloaded it and their links come up again. -/
def enginePoison (s : State) (w : Nat) : State :=
  ((List.range 96).filter fun p => Config.engineOf p == w / 8192).foldl (fun s p => portDown s p 0 0) s

/-- The CSS sequencer halts: CSS stops with stop_reason 9; after the reload the node reintegrates from LISTEN (DEDUCED,
log). -/
def sequencerPoison (s : State) : State :=
  if s.css.state = .stopped then s
  else
    let s := cssStopped s 9
    if mgpRuns s && s.tms.tsValid then cssListen s else s

/-- A Far Window buffer: the open transaction of the target it serves completes with CA. -/
def farPoison (s : State) (w : Nat) : State :=
  s.far.targets.foldl (fun s e =>
    if Config.entryOf 0xE w = e.1 ∧ e.2.txn.isSome then farHeadEnd s e.1 (.lost false) else s) s

/-- Counters in the word restart at 0, which writes the word: live counters k, bittern per port 65536 + k and per tenant
131072 + k, watch counters 196608 + 2 k and the next, harvest bank b 262144 + 8192 b + k. The MEM_ERROR windrow that names the
word records it (R187). -/
def counterPoison (s : State) (w : Nat) : State :=
  let keep := fun (base : Nat) (k : Nat) (v : BitVec 64) =>
    if Config.entryOf 0xF w = base + k then (0 : BitVec 64) else v
  let s := unpoison s 0xF w
  { s with
    host := { s.host with
      remoteOut := (keep 0 (97 * 64 + 4) s.host.remoteOut.1, keep 0 (97 * 64 + 5) s.host.remoteOut.2) }
    ports := { s.ports with
      counters := tmap 0 s.ports.counters (keep 0)
      banks := tmap {} s.ports.banks fun b x => { x with counts := tmap 0 x.counts (keep (262144 + 8192 * b)) } }
    fab := { s.fab with
      bit := { s.fab.bit with
        ports := tmap 0 s.fab.bit.ports (keep 65536), tenants := tmap 0 s.fab.bit.tenants (keep 131072)
        watches := tmap none s.fab.bit.watches fun k o => o.map fun x =>
          { x with frames := keep 196608 (2 * k) x.frames, bytes := keep 196608 (2 * k + 1) x.bytes } } } }

/-- The control plane restarts (Table 1-5, R15): commands not past their commit point complete with BUSY, and the MGP serves
none until FW_READY. -/
def controlRestart (s : State) : State :=
  if s.fw.phase ≠ .ready then s
  else
    let s := busyAll s fun _ => true
    { s with glob := { s.glob with fwReady := false }, fw := { s.fw with phase := .paused, activation := none } }

/-- The reaction of Table 1-5 to an uncorrectable read of word `w` of memory `m`. Entries of the tables 0x02 to 0x07 react
when they are looked up; a bus error from the MGP's SRAM 0x08 that its firmware cannot recover from is `controlRestart`. -/
def memReact (s : State) (m w : Nat) : State :=
  match m with
  | 0x01 => brinePoison s w
  | 0x09 => deviceSafe s 4
  | 0x0A => stagingPoison s w
  | 0x0B => putTwin s { s.ine.twin with image := none }
  | 0x0C => enginePoison s w
  | 0x0D => sequencerPoison s
  | 0x0E => farPoison s w
  | 0x0F => counterPoison s w
  | 0x10 => deviceSafe s 11
  | _ => s

/-! ## The scrubber and the MGP's shadow copies (R26, R27) -/

/-- What the scrubber does with one word: a correctable error is written back, unless a functional write has come between;
an uncorrectable word is poisoned and reported, and a functional write in between stands and clears the poison (R28). -/
def scrubOne (s : State) (e : EccFind) : State :=
  match e.kind with
  | .single => correctable s e.mem e.word
  | .double =>
    let s := memReact (uncorrectable s e.mem e.word) e.mem e.word
    let s := if e.mem = 8 ∧ e.fatal then controlRestart s else s
    if e.raced then unpoison s e.mem e.word else s

/-- PATROL_SCRUB: the errors that a pass over the memories 0x01 to 0x10 finds, or that reads of cores and engines meet, those of
their read-modify-writes among them: the word stays poisoned, and the engine reacts as to a read error (R29, Table 1-6). -/
def execPatrolScrub (finds : List EccFind) (s : State) : Out :=
  .next ((finds.filter fun e => decide (1 ≤ e.mem ∧ e.mem ≤ 16)).foldl scrubOne s)

/-- SHADOW_RESTORE: the MGP, while it runs, rewrites a poisoned entry of the memories 0x02 to 0x07; a learned FDB
entry is gone and is relearned. -/
def restoreWord (mem w : Nat) (s : State) : State :=
  if 2 ≤ mem ∧ mem ≤ 7 ∧ poisoned s mem w ∧ mgpRuns s then
    let s := unpoisonEntry s mem (Config.entryOf mem w)
    if mem = 2 then
      let gone := fun (e : FdbEntry) => !e.isStatic && fdbKey s.fab.fdb e == Config.entryOf 2 w
      { s with fab := { s.fab with fdb := { s.fab.fdb with entries := s.fab.fdb.entries.filter fun e => !gone e } } }
    else s
  else s

/-- See `restoreWord`. -/
def execShadowRestore (mem word : Nat) (s : State) : Out := .next (restoreWord mem word s)

/-! ## Reads -/

/-- The most recent _LO read of the FF block latches the counter's high half and names the word (R151). -/
def ffLatch (s : State) (off : Nat) (c : BitVec 64) : State :=
  { s with fab := { s.fab with bit := { s.fab.bit with latchHi := halfOf c true, latchTag := word (off % 2 ^ 20) } } }

/-- A read of word 0 of a last-discard record latches words 1 to 3 and clears the live count (R148). -/
def lastLatch (s : State) (t : Nat) : State :=
  let f := fun (r : LastDiscard) => { r with l1 := r.w1, l2 := r.w2, l3 := word r.live, live := 0 }
  { s with fab := { s.fab with bit := { s.fab.bit with last := tmod {} s.fab.bit.last t f } } }

/-- A read of word 0 of EVR_WIN(i) latches its 8 words and sets EVR_LATCH_TAG (R359). -/
def winLatch (s : State) (i : Nat) : State :=
  { s with evr := { s.evr with latch := winWords s i, latchTag := word i } }

/-- A read of CSS_ORIGIN_SEC_LO latches the next two words (R92). -/
def originLatch (s : State) : State :=
  { s with css := { s.css with
      originHi := secHi (s.css.origin / 1000000000 : Nat), originNs := word (s.css.origin % 1000000000) } }

/-- A read of PWC_SLEEP_AT_SEC_LO latches the next two words (R345). -/
def sleepLatch (s : State) : State :=
  { s with pwc := { s.pwc with
      sleepHi := secHi (s.pwc.sleepAt / 1000000000 : Nat), sleepNs := word (s.pwc.sleepAt % 1000000000) } }

/-- A read of PWC_KEEPER_LO latches the next two words (R345). -/
def keeperLatch (s : State) : State :=
  let k := longestKeeper s
  { s with pwc := { s.pwc with
      keeperHi := halfOf k.1 true, keeperInfo := word (min k.2.1 0xFFFFFF * 256 + k.2.2 % 256) } }

/-- What a read of the BAR0 offset latches; most reads have no side effect. -/
def readEffect (s : State) (off : Nat) : State :=
  match off with
  | 0x300010 => { s with tms := { s.tms with trtDriftHi := driftHi s.tms.trtDrift } }
  | 0x300018 => { s with tms := { s.tms with wytDriftHi := driftHi s.tms.wytDrift } }
  | 0x300020 => { s with tms := { s.tms with leaderHi := halfOf s.tms.leaderId true } }
  | 0x300080 => { s with tms := { s.tms with stepLatch := s.tms.stepRec } }
  | 0x340018 => { s with css := { s.css with leaderHi := halfOf s.css.leader true } }
  | 0x340020 => originLatch s
  | 0x380028 => { s with ine := { s.ine with stepLatch := word s.ine.stepNs } }
  | 0x480018 => sleepLatch s
  | 0x480028 => keeperLatch s
  | 0x441018 => { s with agm := { s.agm with eomHi := secHi s.agm.eomSec } }
  | _ =>
    match elemAt off 0x300100 0x40 8, elemAt off 0x240000 0x10 256, elemAt off 0x450000 0x20 4096 with
    | some (k, 0), _, _ => slotLatch s k
    | _, some (t, 0), _ => lastLatch s t
    | _, _, some (i, 0) => winLatch s i
    | _, _, _ =>
      if 0x200000 ≤ off then
        match ffCounter s (off - 0x200000) with
        | some c => ffLatch s (off - 0x200000) c
        | none => s
      else s

/-- What the host's read returned. -/
def returned (s : State) (ws : List Word) (ep : Bool) : State :=
  { s with glob := { s.glob with readData := ws, readPoisoned := ep } }

/-- A host read of a word of BAR0 below the Far Window (R31): a reserved offset returns 0 and sets rsv_access; a word backed by
a poisoned one completes with the EP bit and a free value (Table 1-6); any other returns its value, and has its side effect. -/
def busRead (s : State) (off : Nat) : State :=
  match readReg s off with
  | none => rsvAccess (returned s [0] false) off
  | some v =>
    match poisonedBacking s off with
    | some (m, w) =>
      let d := draw s
      memReact (uncorrectable (returned d.2 [word d.1] true) m w) m w
    | none => readEffect (returned s [v] false) off

/-- A host read of a word of the Far Window (R232, Table 9-7): a control word at once, else a read of the module. -/
def farBusRead (s : State) (off : Nat) : State :=
  let f := (off - 0x800000) / 0x8000
  let o := off % 0x8000
  if 0x7FC0 ≤ o then returned s [farWord s f o] false else hostRead f o 4 s

/-- TIME_SLOT_LATCH: a read of TMS_TIME_NS(slot). -/
def execTimeSlotLatch (slot : Nat) (s : State) : Out :=
  .next (if slot < 8 then busRead s (0x300100 + slot * 0x40) else s)

/-- DRIFT_LATCH: a read of TMS_TRT_DRIFT_LO or TMS_WYT_DRIFT_LO. -/
def execDriftLatch (scale : Scale) (s : State) : Out :=
  .next (busRead s (match scale with | .trt => 0x300010 | .wyt => 0x300018))

/-- LEADER_ID_LATCH: a read of TMS_TRT_LEADER_LO. -/
def execLeaderIdLatch (s : State) : Out := .next (busRead s 0x300020)

/-- TRT_STEP_RECORD_LATCH: a read of TMS_TRT_STEP_SEC_LO. -/
def execTrtStepRecordLatch (s : State) : Out := .next (busRead s 0x300080)

/-- CSS_LEADER_LATCH: a read of CSS_LEADER_LO. -/
def execCssLeaderLatch (s : State) : Out := .next (busRead s 0x340018)

/-- CSS_ORIGIN_LATCH: a read of CSS_ORIGIN_SEC_LO. -/
def execCssOriginLatch (s : State) : Out := .next (busRead s 0x340020)

/-- FF_COUNTER_LATCH: a read of the _LO word of a 64-bit counter at an offset of the FF block. -/
def execFfCounterLatch (off : Nat) (s : State) : Out :=
  .next (if off < 0x100000 ∧ (ffCounter s off).isSome then busRead s (0x200000 + off) else s)

/-- LAST_DISCARD_LATCH: a read of word 0 of FF_LAST_DISCARD(t). -/
def execLastDiscardLatch (t : Nat) (s : State) : Out := .next (if t < 256 then busRead s (0x240000 + t * 0x10) else s)

/-- INE_STEP_LATCH: a read of INE_LAST_STEP_SEC. -/
def execIneStepLatch (s : State) : Out := .next (busRead s 0x380028)

/-- SLEEP_AT_LATCH: a read of PWC_SLEEP_AT_SEC_LO. -/
def execSleepAtLatch (s : State) : Out := .next (busRead s 0x480018)

/-- KEEPER_LATCH: a read of PWC_KEEPER_LO. -/
def execKeeperLatch (s : State) : Out := .next (busRead s 0x480028)

/-- EOM_SEC_LATCH: a read of AGM_EOM_SEC_LO. -/
def execEomSecLatch (s : State) : Out := .next (busRead s 0x441018)

/-- EVR_WIN_LATCH: a read of word 0 of EVR_WIN(i). -/
def execEvrWinLatch (i : Nat) (s : State) : Out := .next (if i < 4096 then busRead s (0x450000 + i * 0x20) else s)

/-! ## Writes -/

/-- The ALARM registers with the widths of their fields; each ALARM_EN lies 4 B above. -/
def alarmRegs : List (Nat × AlarmReg × Word) :=
  [(0x000014, .glob, 0x1F), (0x200004, .fab, 0xFFF), (0x300004, .tms, 0x7FF), (0x340004, .css, 0x7FF), (0x380004, .ine, 0x1FFF),
   (0x440004, .evr, 0x1F), (0x441004, .agm, 0x3F), (0x480004, .pwc, 0x1F)]

/-- GLOBAL_ECC_CLEAR (R33): bit 0 clears both counts; increments that coincide are counted after the clear. -/
def eccClear (s : State) (v : Word) (ceNow ueNow : Bool) : State :=
  let g := if bitAt v 0 then { s.glob with ceCount := 0, ueCount := 0 } else s.glob
  { s with glob := { g with ceCount := sat32 (g.ceCount + b2n ceNow), ueCount := sat32 (g.ueCount + b2n ueNow) } }

/-- See `eccClear`. -/
def execGlobalEccClear (v : Word) (ceNow ueNow : Bool) (s : State) : Out :=
  .next (posted s 0x000048 fun s => eccClear s v ceNow ueNow)

/-- GLOBAL_ECC_LAST written (R33, Table 1-11): 1 in valid releases the capture; the other fields are read-only. -/
def eccRelease (s : State) (v : Word) : State :=
  if bitAt v 31 then { s with glob := { s.glob with eccValid := false } } else s

/-- See `eccRelease`. A capture that falls at the instant of the write leaves the bit set (R9). -/
def execEccCaptureRelease (w : CaptureWrite) (s : State) : Out :=
  .next (posted s 0x00004C fun s => if w.setNow then s else eccRelease s w.v)

/-- FF_BRINE_CLEAR (R150): bit 0 sets FF_BRINE_SHARED_MIN to the present free count. -/
def brineClear (s : State) (v : Word) : State :=
  if bitAt v 0 then { s with fab := { s.fab with sharedMin := sharedFree s } } else s

/-- See `brineClear`. -/
def execFfBrineClear (v : Word) (s : State) : Out := .next (posted s 0x20001C fun s => brineClear s v)

/-- PWC_VAON_WAKE written (R345): 1 in wake_fail clears it. -/
def wakeClear (s : State) (v : Word) : State :=
  if bitAt v 31 then { s with pwc := { s.pwc with wakeFail := false } } else s

/-- A register of BAR0 that is not reserved written by its access code (R9): read-only ones ignore the value; a W1C bit for
which a set event coincides (`now`) stays set. -/
def regPut (s : State) (off : Nat) (v now : Word) : State :=
  match alarmRegs.find? fun e => e.1 == off, alarmRegs.find? fun e => e.1 + 4 == off with
  | some (_, r, _), _ => clearAlarm s r (v &&& ~~~now)
  | _, some (_, r, m) => putAlarmEn s r (v &&& m)
  | none, none =>
    match off with
    | 0x000048 => eccClear s v false false
    | 0x00004C => eccRelease s (v &&& ~~~now)
    | 0x20001C => brineClear s v
    | 0x440030 => { s with evr := { s.evr with winBase := v } }
    | 0x480100 => wakeClear s (v &&& ~~~now)
    | _ =>
      if 0x100000 ≤ off ∧ off < 0x200000 then
        let t := off / 0x1000 - 0x100
        if pageOn (tenant s t) t .pcie then (pageWrite s t (off % 0x1000) v .pcie off).getD s else s
      else s

/-- A host write of a word to BAR0 (R9, R31): a reserved offset ignores it and sets rsv_access. A register's word is half of a
64-bit one, so its write is a read-modify-write (R28): a single-bit error is corrected and counted (R29). -/
def busWrite (s : State) (off : Nat) (x : HostWrite) : State :=
  match readReg s off with
  | none => rsvAccess s off
  | some _ => posted s off fun s =>
      let s := if x.single then correctable s (Config.backing off).1 (Config.backing off).2 else s
      regPut s off x.v x.setNow

/-- A host write of a word to the Far Window: FW_ERR clears ones, FW_LOCK requests or releases the lock, and the offsets below
the control words go to the module. -/
def farBusWrite (s : State) (off : Nat) (v now : Word) : State :=
  let f := (off - 0x800000) / 0x8000
  let o := off % 0x8000
  if o < 0x7FC0 then hostWrite f o (leBytes 4 v.toNat) s
  else if o = 0x7FC4 then putFar s f { farOf s f with err := (farOf s f).err &&& ~~~(v &&& ~~~now) }
  else if o = 0x7FCC then fwLock f v s
  else s

/-- A host write of a word of BAR2 (R34): the MSI-X table; unmasking a vector sends its pending message. The Pending Bit Array
and reserved offsets ignore it. -/
def bar2Write (s : State) (off : Nat) (v : Word) : State :=
  let i := off / 4
  if off % 4 ≠ 0 ∨ 257 * 4 ≤ i then s
  else
    let s := { s with host := { s.host with msix := tset none s.host.msix i (some v) } }
    let n := i / 4
    if i % 4 = 3 ∧ ¬ bitAt v 0 ∧ s.host.pba.contains n then
      { s with host := { s.host with pba := sdel s.host.pba n, sent := s.host.sent ++ [n] } }
    else s

/-- A host read of a word of BAR2 (R34): the MSI-X table, whose vector control reads masked until written, and the Pending Bit
Array at 0x8000 to 0x8027; a reserved offset reads 0. -/
def bar2Word (s : State) (off : Nat) : Word :=
  let i := off / 4
  if i < 257 * 4 then (tget none s.host.msix i).getD (if i % 4 = 3 then 1 else 0)
  else if 0x2000 ≤ i ∧ i < 0x200A then
    word ((s.host.pba.map fun n => if n / 32 = i - 0x2000 then 2 ^ (n % 32) else 0).sum)
  else 0

/-- What Table 12-1 gives of a word of configuration space, at the places PCI gives it (PRESUMED, log): the bits it gives and their
values. IDs, revision of stepping B0 and class code; two 64-bit non-prefetchable BARs of 16 MiB and 64 KiB and no other; no INTx;
an endpoint of Gen3 x2 with 256 B payloads and extended tags; MSI-X with 257 vectors in BAR2 (R34); AER; PTM requester. -/
def configGiven (s : State) (off : Nat) : Word × Word :=
  let all : Word := 0xFFFFFFFF
  let cap := Config.devCtl2 - 0x28
  match off with
  | 0x00 => (all, 0x96641F8A)
  | 0x04 => (0x00100000, 0x00100000)
  | 0x08 => (all, 0x028000B0)
  | 0x10 => (all, halfOf s.host.bar0 false &&& 0xFF000000 ||| 4)
  | 0x14 => (all, halfOf s.host.bar0 true)
  | 0x18 => (all, halfOf s.host.bar2 false &&& 0xFFFF0000 ||| 4)
  | 0x1C => (all, halfOf s.host.bar2 true)
  | 0x20 => (all, 0)
  | 0x24 => (all, 0)
  | 0x2C => (all, 0x96641F8A)
  | 0x3C => (0xFF00, 0)
  | _ =>
    ((([(cap, 0x00F000FF, 0x00000010), (cap + 4, 0x27, 0x21), (cap + 8, 0xFFFF, s.host.devCtl), (cap + 0xC, 0x3FF, 0x23),
      (Config.msixCap, 0x07FF00FF, 0x01000011), (Config.msixCap + 4, all, 0x00000002), (Config.msixCap + 8, all, 0x00008002),
      (Config.aerCap, 0xFFFF, 0x0001), (Config.ptmCap, 0xFFFF, 0x001F), (Config.ptmCap + 4, 0x7, 0x1)]
      : List (Nat × Word × Word)).find? fun e => e.1 == off).map Prod.snd).getD (0, 0)

/-- A read of configuration space: the bits the spec does not give are free. -/
def configRead (s : State) (off : Nat) : Word × State :=
  let g := configGiven s off
  if g.1 = 0xFFFFFFFF then (g.2, s)
  else
    let d := draw s
    (g.2 &&& g.1 ||| (word d.1 &&& ~~~g.1), d.2)

/-- The completion timeouts in µs that Device Control 2 encodes, the upper bound of each range (PRESUMED, log). -/
def completionCode (n : Nat) : Nat :=
  match n with
  | 1 => 100 | 2 => 10000 | 5 => 55000 | 6 => 210000 | 9 => 900000 | 10 => 3500000 | 13 => 13000000 | 14 => 64000000
  | _ => 50000

/-- A word of configuration space written: Device Control 2 sets the completion timeout (R283), Device Control the max read
request, and the BARs their bases (Table 12-1); what else the host programs there is not the device's behaviour. -/
def configWrite (s : State) (off : Nat) (v : Word) : State :=
  let h := s.host
  let h : HostIf :=
    if off = 0x10 then { h with bar0 := putHalf h.bar0 false v 24 }
    else if off = 0x14 then { h with bar0 := putHalf h.bar0 true v 0 }
    else if off = 0x18 then { h with bar2 := putHalf h.bar2 false v 16 }
    else if off = 0x1C then { h with bar2 := putHalf h.bar2 true v 0 }
    else if off = Config.devCtl2 then { h with completionUs := completionCode (v.toNat % 16) }
    else if off = Config.devCtl2 - 0x20 then { h with devCtl := v &&& 0xFFFF }
    else h
  { s with host := h }

/-- One word of a host write. -/
def wordWrite (bar : Bar) (s : State) (off : Nat) (x : HostWrite) : State :=
  match bar with
  | .config => configWrite s off x.v
  | .bar2 => bar2Write s off x.v
  | .bar0 =>
    if off < 0x800000 then busWrite s off x else if off < 0x1000000 then farBusWrite s off x.v x.setNow else s

/-- The 32-bit accesses of a write, the lower address first (R31). -/
def wordWrites (bar : Bar) : State → Nat → List HostWrite → State
  | s, _, [] => s
  | s, off, x :: r => wordWrites bar (wordWrite bar s off x) (off + 4) r


/-- The 64-bit access lies below the control words of a far target, where it is one access of 8 B (R31, R235). -/
def farWide (bar : Bar) (off : Nat) : Bool :=
  bar == .bar0 && decide (0x800000 ≤ off ∧ off < 0x1000000 ∧ off % 0x8000 < 0x7FC0)

/-- REGISTER_WRITE: a write of one word, or of two, which a 64-bit access is split into (R31); to a remote module it is one write
of 8 B (R235). -/
def execRegisterWrite (bar : Bar) (off : Nat) (ws : List HostWrite) (s : State) : Out :=
  .next (match ws with
    | [x, y] =>
      if farWide bar off then
        hostWrite ((off - 0x800000) / 0x8000) (off % 0x8000) (leBytes 4 x.v.toNat ++ leBytes 4 y.v.toNat) s
      else wordWrites bar s off ws
    | _ => wordWrites bar s off ws)

/-- One word of a host read. -/
def wordRead (bar : Bar) (s : State) (off : Nat) : State :=
  match bar with
  | .config => (let r := configRead s off; returned r.2 [r.1] false)
  | .bar2 => returned s [bar2Word s (off / 4 * 4)] false
  | .bar0 => if off < 0x800000 then busRead s off else if off < 0x1000000 then farBusRead s off else s

/-- A 64-bit read: two reads of 32 bits, the lower address first (R31); of a remote module one read of 8 B (R235). -/
def wideRead (bar : Bar) (s : State) (off : Nat) : State :=
  if farWide bar off then hostRead ((off - 0x800000) / 0x8000) (off % 0x8000) 8 s
  else
  let a := wordRead bar s off
  let b := wordRead bar a (off + 4)
  returned b (a.glob.readData ++ b.glob.readData) (a.glob.readPoisoned || b.glob.readPoisoned)

/-- RESERVED_ACCESS (R31). An offset that is not reserved is read as the register it is; BAR2 and configuration space have no
side effects. A PTM dialogue that completes relates the host's time to the local time, TRT linear ns (R61). -/
def execReservedAccess (acc : Access) (a : HostAddr) (s : State) : Out :=
  .next (match acc with
    | .read => wordRead a.bar s a.off
    | .read64 => wideRead a.bar s a.off
    | .ptm host => { s with host := { s.host with ptm := some (host, trtNs s) } }
    | .write => match a.bar with
      | .bar0 => if a.off < 0x800000 ∧ (readReg s a.off).isNone then rsvAccess s a.off else s
      | _ => s)

/-- The runs of enabled bytes of a word, from byte `i` on: first byte and length of each. -/
def byteRuns (be : BitVec 4) : Nat → Nat → List (Nat × Nat)
  | 0, _ => []
  | n + 1, i =>
    if !be.getLsbD i then byteRuns be n (i + 1)
    else
      match byteRuns be n (i + 1) with
      | (j, k) :: r => if j = i + 1 then (i, k + 1) :: r else (i, 1) :: (j, k) :: r
      | [] => [(i, 1)]

/-- A narrow write in the Far Window: the control words follow R31, none of them reserved (R242); below them the enabled bytes
go to the module, each run as one write (R232, R235). -/
def farNarrow (s : State) (off : Nat) (be : BitVec 4) (v : Word) : State :=
  let o := off % 0x8000
  if 0x7FC0 ≤ o then badAccess s 3 off
  else (byteRuns be 4 0).foldl
    (fun s r => hostWrite ((off - 0x800000) / 0x8000) (o + r.1) (bytesAt (leBytes 4 v.toNat) r.1 r.2) s) s

/-- NARROW_WRITE (R31): a write with fewer than four byte enables is ignored and sets narrow_access; at a reserved offset it
sets rsv_access too. With all four enabled it is an ordinary write. The Far Window keeps its own rules. -/
def execNarrowWrite (off : Nat) (be : BitVec 4) (v : Word) (s : State) : Out :=
  .next (
    if be = 15 then wordWrite .bar0 s off { v := v, setNow := 0, single := false }
    else if 0x800000 ≤ off then (if off < 0x1000000 then farNarrow s off be v else s)
    else badAccess (if (readReg s off).isNone then rsvAccess s off else s) 3 off)

/-! ## The SPI target (R284) -/

/-- A word of the SPI map read: tenant pages, rings and staging areas; GLOBAL; all other addresses read 0. -/
def spiReadWord (s : State) (a : Nat) : Word :=
  let t := a / 0x8000
  let o := a % 0x8000 / 4 * 4
  if t < 16 then
    if pageOn (tenant s t) t .spi then
      (if o < 0x1000 then (pageRead s t o true).getD 0 else tget 0 (tenant s t).spi (o / 4))
    else 0
  else if a < 0x90000 then (globReg s (a % 0x10000 / 4 * 4)).getD 0
  else 0

/-- A word of the SPI map written; GLOBAL and other addresses ignore it. -/
def spiWriteWord (s : State) (a : Nat) (v : Word) : State :=
  let t := a / 0x8000
  let o := a % 0x8000 / 4 * 4
  if t < 16 ∧ pageOn (tenant s t) t .spi then
    if o < 0x1000 then (pageWrite s t o v .spi (0x100000 + t * 0x1000 + o)).getD s
    else modTenant s t fun x => { x with spi := tset 0 x.spi (o / 4) v }
  else s

/-- Words written from an address on, 4 B further each, within 24 bits. -/
def spiWrites : State → Nat → List Word → State
  | s, _, [] => s
  | s, a, v :: r => spiWrites (spiWriteWord s a v) ((a + 4) % 2 ^ 24) r

/-- SPI_TRANSACTION: 0x02 writes, 0x0B reads; another instruction is ignored and counted. -/
def spiEffect (instr : Byte) (addr : Nat) (data : List Word) (words : Nat) (s : State) : State :=
  let used := fun (s : State) => { s with host := { s.host with spiUsed := true } }
  if instr = 0x02 then spiWrites (used s) (addr % 2 ^ 24) data
  else if instr = 0x0B then
    let out := (List.range words).map fun i => spiReadWord s ((addr + 4 * i) % 2 ^ 24)
    let s := used s
    { s with host := { s.host with spiOut := out } }
  else { s with host := { s.host with spiIgnored := sat16 (s.host.spiIgnored + 1) } }

/-- See `spiEffect`. -/
def execSpiTransaction (instr : Byte) (addr : Nat) (data : List Word) (words : Nat) (s : State) : Out :=
  .next (spiEffect instr addr data words s)

end Sys2Proof.Machine
end

