-- ==== Sys2Proof/Machine/Css.lean ====
section
/-! DEFINITION. The commands of the Cyclic Slot Service but for received slot frames: pans, slots, windows, the node state
machine and the schedule (spec/03_cyclic_slot_service.md). -/

namespace Sys2Proof.Machine

/-! ## Pan boundaries -/

/-- Queued frames tested again where gates change (R133): those that can never fit are discarded with GATE_CLOSED. -/
def retestPort (s : State) (p : Nat) : State :=
  (List.range 8).foldl (fun s c => (queueOf s p c).foldl (fun s k =>
    if neverFits s p c (outLen s p k) then dropQueued s p c k 3 else s) s) s

/-- Every port whose gates CSS moves is tested again. -/
def retestCss (s : State) : State := (s.css.gates.map CssGate.port).eraseDups.foldl retestPort s

/-- Whether pan `n` is judged missing (R82): no valid cycle-start of it has come. -/
def csMissing (s : State) (n : Word) : Bool := s.css.lastCs != some n && s.css.prevCs != some n

/-- An ACTIVE node judges pan `n` at the start of the next (R82, Table 3-6). -/
def judgePan (s : State) (n : Word) : State :=
  if csMissing s n then
    let s := { s with css := { s.css with
        missTotal := s.css.missTotal + 1, missed := min 255 (s.css.missed + 1), missRun := s.css.missRun + 1 } }
    if 2 ≤ s.css.missRun ∧ ¬ s.css.leaderless then
      setAlarm { s with css := { s.css with leaderless := true, reelectSent := false } } .css 0
    else s
  else { s with css := { s.css with missed := 0, missRun := 0 } }

/-- A window is active in a pan (Table 3-2). -/
def winActive (w : RxWin) (pan : Word) : Bool := pan.toNat % 2 ^ w.periodLog2 == w.phase

/-- What a new pan resets in its windows: `rejected` is of the latest active pan (Table 3-9). -/
def winStart (s : State) : State :=
  { s with css := { s.css with
      windows := s.css.windows.map fun w => if winActive w s.css.pan then { w with rejected := false } else w } }

/-- A deferred clear at the boundary of pan `n`, and the counts brought up to date after it (R92, R93). -/
def boundaryCounts (s : State) (n : Word) : State :=
  if s.css.clearDue then
    let t := cssZero s n
    cssSettle { t with css := { t.css with
      slots := t.css.slots.zipWith (fun x y => { x with notReadyNow := y.notReadyNow }) s.css.slots
      windows := t.css.windows.zipWith (fun x y => { x with rejNow := y.rejNow }) s.css.windows } }
  else cssSettle s

/-- The start of pan `n` of a running node: counts and deferred clears (R92, R93), numbers, and the guard. -/
def panBegin (s : State) (n : Word) (start : Nat) : State :=
  let s := boundaryCounts s n
  winStart (guardUpdate { s with css := { s.css with pan := n, panStart := start } })

/-- A capable leaderless node at a pan boundary (Table 3-6): LEADER where it has sent its re-election cold-start and heard no
lower unit ID, else that frame is due in this pan. -/
def reelect (s : State) : State :=
  if s.css.leaderless && s.css.capable then
    if s.css.reelectSent then cssLead s else { s with css := { s.css with reelectDue := true } }
  else s

/-- The next pan of an ACTIVE or LEADER node, after stops. -/
def panNext (s : State) : State :=
  let old := s.css.pan
  let start := s.css.panStart + panNs s
  let next := old + 1
  if s.css.localStop then retestCss (cssStopped (boundaryCounts s next) 1)
  else if s.css.stopPan = some next then retestCss (cssStopped (boundaryCounts s next) s.css.stopWhy)
  else
    let s := if s.css.state = .active then judgePan s old else s
    let s := panBegin s next start
    if s.css.state = .leader then sendCycleStart s else reelect s

/-- The next boundary of the leader's pans for a node that integrates. -/
def nextBoundary (s : State) : Nat :=
  let p := panNs s
  if p = 0 then s.css.panStart else s.css.panStart + ((trtNs s - s.css.panStart) / p + 1) * p

/-- An INTEGRATING node at the boundary `start`, whose pan counts from the last cycle-start it heard: it stops where a
CSS_STOP waits for it or a stop_pan was announced for that pan (R85), and starts its slots after the second counting cycle-start (Table 3-6). -/
def panIntegrate (s : State) (start : Nat) : State :=
  let n := s.css.pan + BitVec.ofNat 32 (if panNs s = 0 then 0 else (start - s.css.panStart) / panNs s)
  if s.css.localStop then retestCss (cssStopped (boundaryCounts s n) 1)
  else if s.css.stopPan = some n then retestCss (cssStopped (boundaryCounts s n) s.css.stopWhy)
  else if s.css.startNext then retestCss (panBegin (cssIntegrated s .active) n start)
  else guardUpdate (boundaryCounts s n)

/-- A pan boundary of the twin pair; a device that becomes Standby in standard mode holds its BB ports down (Table 8-2). -/
def twinPan (s : State) : State := bbHold (twinBoundary s)

/-- PAN_BOUNDARY (R71): time passes to the next pan start. -/
def panBoundaryEffect (s : State) : State :=
  if !s.tms.tsValid || s.css.image.isNone then s
  else
    match s.css.state with
    | .active | .leader => inaugPan (twinPan (panNext (untilNs s (s.css.panStart + panNs s))))
    | .integrating => inaugPan (twinPan (panIntegrate (untilNs s (nextBoundary s)) (nextBoundary s)))
    | _ => s

/-- See `panBoundaryEffect`. -/
def execPanBoundary (s : State) : Out := .next (panBoundaryEffect s)

/-! ## Slots -/

/-- The fetch lead of 5 µs (R75). -/
abbrev fetchNs : Nat := 5000

/-- The pan a fetch of slot `x` serves next and its transmit instant in linear ns: this pan, or the next where the fetch
instant lies before this pan's start. -/
def slotPan (s : State) (x : TxSlot) : Word × Nat :=
  if x.offset * 10 < fetchNs then (s.css.pan + 1, s.css.panStart + panNs s + x.offset * 10)
  else (s.css.pan, s.css.panStart + x.offset * 10)

/-- A slot is active in a pan (Table 3-1). -/
def slotActive (x : TxSlot) (pan : Word) : Bool := pan.toNat % 2 ^ x.periodLog2 == x.phase

/-- The survey report a slot sends next: the first in the queue for it whose T_fire lies before the transmit instant, both
in TRT (R108). -/
def surveyFor (s : State) (id tx : Nat) : Option SurveyWait :=
  s.tau.surveyQueue.find? fun e => e.slot == id && decide (surveyFire s e < tx)

/-- The frame a slot would carry: its prod_seq and body (R75, R105, R108). -/
def slotBody (s : State) (x : TxSlot) (tx : Nat) : Option (Word × CssBody) :=
  match x.kind with
  | 0 => if x.ready then some (x.dataSeq, .data x.dataSeq x.data) else none
  | 1 => x.waiting.bind fun b =>
    match b with
    | .token t => if tx < commitTrt s t then some (x.prodSeq, b) else none
    | _ => none
  | _ => (surveyFor s x.slotId tx).map fun e => (x.prodSeq, .survey e.report)

/-- SLOT_FETCH (R75): at 5 µs before the offset of an active pan the ready mark is sampled once. -/
def slotFetchEffect (i : Nat) (s : State) : State :=
  match s.css.slots[i]? with
  | none => s
  | some x =>
    let p := slotPan s x
    if !s.tms.tsValid || !s.css.slotsRun || !slotActive x p.1 then s
    else
      let s := untilNs s (p.2 - fetchNs)
      if entryPoisoned s 5 i then modSlot s i fun x => { x with built := none }
      else
        match slotBody s x p.2 with
        | some b => modSlot s i fun x => { x with built := some b }
        | none =>
          if x.kind = 0 then
            setAlarm (modSlot s i fun x => { x with built := none, notReadyNow := x.notReadyNow + 1 }) .css 9
          else modSlot s i fun x => { x with built := none }

/-- See `slotFetchEffect`. -/
def execSlotFetch (i : Nat) (s : State) : Out := .next (slotFetchEffect i s)

/-- A survey report leaves: its entry leaves the queue and its TAU SURVEY_WAIT (Table 4-4, R108). -/
def surveySent (s : State) (id : Nat) (r : Survey) : State :=
  match s.tau.surveyQueue.find? fun e => e.slot == id && e.report == r with
  | none => s
  | some e =>
    let k := e.tau
    let s := { s with tau := { s.tau with surveyQueue := s.tau.surveyQueue.erase e } }
    if (tauOf s k).state = .surveyWait then putTau s k { tauOf s k with state := .idle } else s

/-- What a sent frame leaves in its slot: ready is cleared unless repeat is set or a later commit made it so (R75); a token
stays while a later active pan of the slot lies before T_commit (R105). -/
def slotSent (s : State) (i : Nat) (x : TxSlot) (seq : Word) (b : CssBody) : State :=
  match b with
  | .data .. => modSlot s i fun x =>
      { x with built := none, sentSeq := seq, ready := x.ready && (x.repeatOn || x.dataSeq != seq) }
  | .token t =>
    let next := s.css.panStart + 2 ^ x.periodLog2 * panNs s + x.offset * 10
    modSlot s i fun x =>
      { x with built := none, sentSeq := seq, waiting := if next < commitTrt s t then x.waiting else none }
  | .survey r => surveySent (modSlot s i fun x => { x with built := none, sentSeq := seq }) x.slotId r
  | _ => modSlot s i fun x => { x with built := none, waiting := none, sentSeq := seq }

/-- A survey report at its transmit instant, which is later than T_fire: the fields of T_fire stand, also where T_fire came
after the fetch (R108). -/
def surveyAt (s : State) (id tx : Nat) (body : CssBody) : State × CssBody :=
  match body with
  | .survey r =>
    match surveyFor s id tx with
    | none => (s, body)
    | some e =>
      let s := surveySeal s e.tau
      (s, .survey (((surveyFor s id tx).map SurveyWait.report).getD r))
  | _ => (s, body)

/-- SLOT_TRANSMIT (R77, R78): at its offset the built frame is sent on both lines, each copy in an exclusive TC7 window that
the sluice opens for it. A copy whose one-step insertion does not complete ends with an invalid FCS (R56). -/
def slotTransmitEffect (i : Nat) (inserted : Bool) (s : State) : State :=
  match s.css.slots[i]? with
  | none => s
  | some x =>
    match x.built with
    | none => s
    | some (seq, body) =>
      if !s.tms.tsValid || !s.css.slotsRun || !slotActive x s.css.pan then s
      else
        let s := untilNs s (s.css.panStart + x.offset * 10)
        let (s, body) := surveyAt s x.slotId (s.css.panStart + x.offset * 10) body
        let s := countGot s 100 (slotFrame { hdr := cssHdr s 0 s.css.pan x.slotId, body := body }).len
        let own := if x.producer < 256 then x.producer else 0
        let s := (copyPorts s).foldl (fun s p =>
          slotCopy s p own inserted { hdr := cssHdr s p s.css.pan x.slotId, body := body }) s
        slotSent s i x seq body

/-- See `slotTransmitEffect`. -/
def execSlotTransmit (d : Departure) (s : State) : Out := .next (slotTransmitEffect d.at_ d.inserted s)

/-- The counts of a window at its close, with both, one or no line, and the rejects so far (R79, R80, R92). -/
def winCount (w : RxWin) : RxWin :=
  let done := { winSettle w with gotA := false, gotB := false }
  match w.gotA, w.gotB with
  | true, true => { done with dup := sat16 (w.dup + 1) }
  | true, false => { done with missB := sat16 (w.missB + 1) }
  | false, true => { done with missA := sat16 (w.missA + 1) }
  | false, false => { done with
      empty := sat16 (w.empty + 1), age := min 4095 (w.age + 2 ^ w.periodLog2), stale := true }

/-- WINDOW_CLOSE (R79, R80): time passes to the close of window `w` in this pan, if it is active in it. -/
def windowCloseEffect (k : Nat) (s : State) : State :=
  match s.css.windows[k]? with
  | none => s
  | some w =>
    if !s.tms.tsValid || !integrated s || !winActive w s.css.pan || entryPoisoned s 5 (1024 + k) then s
    else
      let s := untilNs s (s.css.panStart + w.close * 10)
      let s := modWin s k fun _ => winCount w
      let vars := if w.delivery / 1024 = 2 then groupVars s k (w.delivery % 1024) else []
      if w.gotA || w.gotB then
        let s := pdAgePans s (pdShort s vars w.value) (2 ^ w.periodLog2)
        setAlarmIf s (!(w.gotA && w.gotB)) .css 8
      else pdAgePans (setAlarm s .css 7) vars (2 ^ w.periodLog2)

/-- See `windowCloseEffect`. -/
def execWindowClose (w : Nat) (s : State) : Out := .next (windowCloseEffect w s)

/-! ## Cycle-starts and cold-starts -/

/-- A cycle-start or cold-start is taken from the line it names (R77). -/
def lineMatches (port : Nat) (h : CssHdr) : Bool := (lineOf port == .b) == h.lineB

/-- A frame whose FCS fails is bad by stage 1 (R114). -/
def fcsBad (h : CssHdr) : Option Nat := if h.fcsOk then none else some 9

/-- Version and schedule_id match (R82); another schedule_id sets sched_mismatch (R89). -/
def hdrValid (s : State) (h : CssHdr) : Bool := h.version == 1 && s.css.fits && h.scheduleId == schedId s

/-- A frame that is not valid is counted; a different schedule_id sets sched_mismatch for cycle-starts. On a node that holds no
image no schedule_id differs, and none is set (DESIGN CHOICE, log: R89 does not speak of such a node). -/
def hdrReject (s : State) (h : CssHdr) (cycleStart : Bool) : State :=
  setAlarmIf (rejectTotal s) (cycleStart && h.version == 1 && s.css.image.isSome && h.scheduleId != schedId s) .css 4

/-- Scheduled start S of the pan a cycle-start carries, linear ns. -/
def csStart (f : CycleStart) : Nat := linNs f.startSec f.startNs

/-- The instant `t` is the start of pan `n` of the running origin. -/
def sameOrigin (s : State) (t : Nat) (n : Word) : Bool :=
  let p := panNs s
  p != 0 && decide (s.css.origin ≤ t) && (t - s.css.origin) % p == 0 && BitVec.ofNat 32 ((t - s.css.origin) / p) == n

/-- A cycle-start counts towards integration (R82). -/
def csCounts (s : State) (f : CycleStart) : Bool :=
  let t := csStart f
  let g := s.css.guardEff
  s.tms.trtState == .locked && f.panLenUs == panUs s && decide ((f.hdr.txNs - word t).toInt.natAbs ≤ g)
    && decide (t - g < trtNs s) && decide (trtNs s < t + panNs s)

/-- The node follows a sender into INTEGRATING (Table 3-6). -/
def follow (s : State) (id : UnitId) : State := setLeader (cssIntegrate s id) id

/-- A cycle-start of the leader followed, while INTEGRATING (Table 3-6, R82). -/
def integrateCount (s : State) (f : CycleStart) : State :=
  let p := panNs s
  let s := { s with css := { s.css with
      pan := f.hdr.pan, panStart := csStart f, origin := csStart f - f.hdr.pan.toNat * p, lastCs := some f.hdr.pan
      prevCs := s.css.lastCs, stopPan := if f.stop then some f.stopPan else s.css.stopPan } }
  if csCounts s f then
    let c := if s.css.count ≠ 0 ∧ s.css.countPan = f.hdr.pan then s.css.count
      else if s.css.count ≠ 0 ∧ s.css.countPan + 1 = f.hdr.pan then s.css.count + 1 else 1
    { s with css := { s.css with
        count := c, countPan := f.hdr.pan, countAt := s.mono, startNext := s.css.startNext || decide (2 ≤ c) } }
  else s

/-- A valid cycle-start of this node's pans noted as arrived (R82), with a stop it announces (R85). -/
def csNote (s : State) (f : CycleStart) : State :=
  let s := if s.css.lastCs = some f.hdr.pan then s
    else { s with css := { s.css with lastCs := some f.hdr.pan, prevCs := s.css.lastCs } }
  if f.stop then { s with css := { s.css with stopPan := some f.stopPan } } else s

/-- A leaderless node follows another leader (Table 3-6). -/
def followAgain (s : State) (id : UnitId) : State :=
  let s := { s with css := { s.css with
      leaderless := false, reelectSent := false, reelectDue := false, missRun := 0, followed := id } }
  setLeader (followLeader s id) id

/-- A LEADER gives way to a lower unit ID: it enters ACTIVE (Tables 3-6, 3-8 and 3-10). A stop_pan that it announced itself is
dropped with its leadership (DESIGN CHOICE, log: R85 binds the nodes that have received the announcement, and says nothing of
its sender). -/
def giveWay (s : State) (id : UnitId) : State :=
  let s := setAlarm { s with css := { s.css with
    state := .active, followed := id, missed := 0, missRun := 0, stopPan := none, integrations := s.css.integrations + 1 } } .css 2
  setLeader (unleadTime s id) id

/-- A frame of the running origin from another node's unit ID, at an ACTIVE or LEADER node (Table 3-6). `note` is what a
frame that is not ignored leaves. A LEADER that hears a higher unit ID ignores and counts it in CSS_REJECT_TOTAL (DESIGN
CHOICE, log: Table 3-6 has no row for it). -/
def hearLeader (s : State) (id : UnitId) (note : State → State) : State :=
  let own := s.otp.unitId
  if s.css.state = .leader then
    if id.toNat < own.toNat then note (giveWay s id) else rejectTotal s
  else if s.css.leaderless then
    if !s.css.capable || decide (id.toNat < own.toNat) then note (followAgain s id) else s
  else note s

/-- A valid cycle-start, by the node's state (Table 3-6). -/
def cycleStartState (s : State) (f : CycleStart) : State :=
  match s.css.state with
  | .stopped => s
  | .listen => integrateCount (follow s f.leaderId) f
  | .coldstart => integrateCount (follow (setAlarm s .css 3) f.leaderId) f
  | .waitStart =>
    if f.hdr.pan = 0 ∧ f.leaderId = s.css.followed then
      let s := integrateCount (follow s f.leaderId) f
      { s with css := { s.css with count := 1, countPan := 0, countAt := s.mono } }
    else s
  | .integrating => if f.leaderId = s.css.followed then integrateCount s f else rejectTotal s
  | .active | .leader =>
    if sameOrigin s (csStart f) f.hdr.pan then
      hearLeader s f.leaderId fun s =>
        let s := csNote s f
        if s.css.leader = f.leaderId then s else setLeader (followLeader s f.leaderId) f.leaderId
    else rejectTotal s

/-- CYCLE_START_RECEIVE (R82), of a frame that is whole. A node that has renumbered and is still without an INSTALL enters LISTEN at the
coordinator's (Table 8-7; DEDUCED, log). -/
def cycleStartTake (port : Nat) (f : CycleStart) (s : State) : State :=
  if !lineMatches port f.hdr then rejectTotal s
  else
    let s := forwardTiming s (lineRoute s port (cycleStartFrame f)) port fun p => .cycleStart p f
    if s.css.state = .stopped ∧ s.ine.state = .renumbering ∧ s.css.fits ∧ hdrValid s f.hdr ∧ f.leaderId = coordinatorOf s then
      cycleStartState (missInstall s) f
    else if s.css.state = .stopped then hdrReject s f.hdr true
    else if hdrValid s f.hdr then cycleStartState s f
    else hdrReject s f.hdr true

/-- See `cycleStartTake`; `bad` is the reason for which the frame proves bad (R114, R120). -/
def cycleStartEffect (port : Nat) (f : CycleStart) (bad : Option Nat) (s : State) : State :=
  timingReceive s port (cycleStartFrame f) bad (cycleStartTake port f)

/-- See `cycleStartEffect`. -/
def execCycleStartReceive (port : Nat) (f : CycleStart) (s : State) : Out :=
  .next (cycleStartEffect port f (fcsBad f.hdr) s)

/-- A valid cold-start, by the node's state (Table 3-6). An INTEGRATING node that hears one from a lower unit ID than the followed
after more than 2 pans ignores and counts it, as it does one from a higher (DESIGN CHOICE, log: Table 3-6 has no row for it). -/
def coldStartState (s : State) (f : ColdStart) : State :=
  let lower := fun (a b : UnitId) => decide (a.toNat < b.toNat)
  match s.css.state with
  | .stopped | .waitStart => s
  | .listen => follow s f.senderId
  | .coldstart =>
    if trtNs s < s.css.origin then
      let s := setAlarm s .css 3
      if lower f.senderId s.otp.unitId then follow s f.senderId else s
    else s
  | .integrating =>
    if f.senderId = s.css.followed then s
    else if lower f.senderId s.css.followed && decide (s.mono < s.css.integSince + 2 * panNs s) then
      follow s f.senderId
    else rejectTotal s
  | .active | .leader =>
    if linNs f.originSec f.originNs = s.css.origin then
      if s.css.state = .active ∧ ¬ s.css.leaderless then s else hearLeader s f.senderId id
    else rejectTotal s

/-- COLD_START_RECEIVE (R82), of a frame that is whole. -/
def coldStartTake (port : Nat) (f : ColdStart) (s : State) : State :=
  if !lineMatches port f.hdr then rejectTotal s
  else
    let s := forwardTiming s (lineRoute s port (coldStartFrame f)) port fun p => .coldStart p f
    if s.css.state = .stopped then rejectTotal s
    else if hdrValid s f.hdr then coldStartState s f
    else hdrReject s f.hdr false

/-- See `coldStartTake`; `bad` is the reason for which the frame proves bad (R114, R120). -/
def coldStartEffect (port : Nat) (f : ColdStart) (bad : Option Nat) (s : State) : State :=
  timingReceive s port (coldStartFrame f) bad (coldStartTake port f)

/-- See `coldStartEffect`. -/
def execColdStartReceive (port : Nat) (f : ColdStart) (s : State) : Out :=
  .next (coldStartEffect port f (fcsBad f.hdr) s)

/-! ## Timeouts and instants of Table 3-6 -/

/-- TRT before a cold start (R47): set equal to WYT where WYT is LOCKED or in HOLDOVER. -/
def coldTime (s : State) : State :=
  if s.tms.wytState = .locked ∨ s.tms.wytState = .holdover then trtStep s s.tms.wyt else s

/-- LISTEN_TIMEOUT (R81, R82): 2 pans and the listen offset after LISTEN began, a capable node sends its cold-start. -/
def listenEffect (s : State) : State :=
  if s.css.state = .listen ∧ s.css.capable ∧ s.tms.tsValid then
    let s := coldTime (untilMono s (s.css.listenSince + 2 * panNs s + listenOffset s))
    let origin := (trtNs s + panNs s + 999) / 1000 * 1000
    let s := leadTime s true
    let s := { s with css := { s.css with state := .coldstart, origin := origin, followed := s.otp.unitId } }
    sendColdStart (setLeader s s.otp.unitId) origin
  else s

/-- See `listenEffect`. -/
def execListenTimeout (s : State) : Out := .next (listenEffect s)

/-- The node leads from `origin`: pan 0, its cycle-start, its slots (Table 3-6). -/
def leadFrom (s : State) (origin : Nat) : State :=
  let s := { s with css := { s.css with origin := origin, pan := 0, panStart := origin } }
  retestCss (cssLead (winStart (guardUpdate s)))

/-- ORIGIN_REACHED (R82). -/
def originEffect (s : State) : State :=
  if s.css.state = .coldstart then leadFrom (untilNs s s.css.origin) s.css.origin else s

/-- See `originEffect`. -/
def execOriginReached (s : State) : Out := .next (originEffect s)

/-- TIMED_START_REACHED (R88): at T_s the designated leader leads; a node whose image does not permit timed restart enters
LISTEN at the T_s of a start that it would issue itself, and so does one that is not LOCKED then (Table 8-7). -/
def timedStartEffect (s : State) : State :=
  match s.css.state with
  | .waitStart =>
    let t := s.css.tStart
    let s := untilNs s t
    if s.css.followed = s.otp.unitId then leadFrom s t
    else if inaugurating s && s.tms.trtState != .locked then inaugListen (cssListen s)
    else s
  | .stopped => if s.css.listenDue then inaugListen (cssListen (untilNs s s.css.tStart)) else s
  | _ => s

/-- See `timedStartEffect`. -/
def execTimedStartReached (s : State) : Out := .next (timedStartEffect s)

/-- WAIT_START_TIMEOUT (R82). -/
def waitStartEffect (s : State) : State :=
  if s.css.state = .waitStart then inaugListen (cssListen (untilNs s (s.css.tStart + 2 * panNs s))) else s

/-- See `waitStartEffect`. -/
def execWaitStartTimeout (s : State) : Out := .next (waitStartEffect s)

/-- INTEGRATING_TIMEOUT (R82). -/
def integratingEffect (s : State) : State :=
  if s.css.state = .integrating then cssListen (untilMono s (s.css.countAt + 4 * panNs s)) else s

/-- See `integratingEffect`. -/
def execIntegratingTimeout (s : State) : Out := .next (integratingEffect s)

/-- REELECTION_COLD_START (R82): at pan start + listen offset, with the running origin. -/
def reelectionEffect (s : State) : State :=
  if s.css.state = .active ∧ s.css.leaderless ∧ s.css.capable ∧ s.css.reelectDue then
    let s := untilNs s (s.css.panStart + listenOffset s)
    let s := { s with css := { s.css with reelectDue := false, reelectSent := true } }
    sendColdStart s s.css.origin
  else s

/-- See `reelectionEffect`. -/
def execReelectionColdStart (s : State) : Out := .next (reelectionEffect s)

/-- LEADERLESS_TIMEOUT (R82): 8 pans without a cycle-start. -/
def leaderlessEffect (s : State) : State :=
  if s.css.state = .active ∧ s.css.leaderless ∧ 8 ≤ s.css.missed then
    let s := cssListen s
    retestCss { s with css := { s.css with stopReason := 3 } }
  else s

/-- See `leaderlessEffect`. -/
def execLeaderlessTimeout (s : State) : Out := .next (leaderlessEffect s)

/-! ## The schedule -/

/-- Reasons of Table 12-11. -/
abbrev rSchedAuth : Nat := 0x0201
/-- See `rSchedAuth`. -/
abbrev rSchedNoFit : Nat := 0x0202
/-- See `rSchedAuth`. -/
abbrev rSchedFormat : Nat := 0x0207

/-- SCHED_LOAD_BEGIN (R84, R87, R309). -/
def execSchedLoadBegin (h : Hcp) (len : Nat) (ident : Word) (s : State) : Out :=
  .next (runHcp { opcode := 0x0201, classC := true } h s fun s =>
    if s.css.state ≠ .stopped ∨ inaugurating s ∨ loadBusy s.css.loads h.tenant then fails s .busy 0
    else if len = 0 ∨ 1048576 < len then fails s .invalidArgument 0
    else okay { s with css := { s.css with loads := loadBegin s.css.loads h.tenant len ident } })

/-- SCHED_LOAD_BLOCK (R87, R309): into the staging copy, in any CSS state. -/
def execSchedLoadBlock (h : Hcp) (off : Nat) (data : Bytes) (s : State) : Out :=
  .next (runHcp { opcode := 0x0202, classC := true } h s fun s =>
    match loadOf s.css.loads h.tenant with
    | none => fails s (if loadBusy s.css.loads h.tenant then .busy else .invalidArgument) 0
    | some l =>
      if blockOk l off data then okay { s with css := { s.css with loads := loadPut s.css.loads h.tenant off data } }
      else fails s .invalidArgument 0)

/-- The template tables of an image: with every count of the header 0 they are empty (R90). -/
def templatesOf (b : Bytes) : Option Templates :=
  if leAt b 22 2 = 0 ∧ leAt b 24 2 = 0 ∧ leAt b 26 2 = 0 ∧ leAt b 28 1 = 0 then some ⟨[], [], [], []⟩
  else Config.templateTables b

/-- The header of a schedule image and its template tables pass the format check (R87, Table 3-7): the tables are read from
the bytes of the image and their numbers are those of the header. -/
def schedFormat (l : LoadStage) (b : Bytes) : Option SchedImage :=
  match templatesOf b with
  | none => none
  | some t =>
    if leAt b 0 4 = 0x48585343 ∧ leAt b 4 2 = 1 ∧ leAt b 12 4 = b.length ∧ b.length ≤ 1048576 ∧ 129 ≤ b.length
        ∧ leAt b 8 4 ≠ 0 ∧ leAt b 8 4 = l.ident.toNat ∧ 1 ≤ leAt b 20 2 ∧ leAt b 20 2 ≤ 63
        ∧ 125 ≤ leAt b 16 2 ∧ leAt b 16 2 ≤ 64000 ∧ 50 ≤ leAt b 18 2 ∧ leAt b 18 2 ≤ 10000
        ∧ leAt b 28 1 ≤ 8 ∧ t.tx.length = leAt b 22 2 ∧ t.rx.length = leAt b 24 2 ∧ t.sluice.length = leAt b 26 2
        ∧ t.cold.length = leAt b 28 1 ∧ templatesFormed t then
      some { timedRestart := leAt b 6 2 % 2 == 1, schedId := word (leAt b 8 4), panLen := leAt b 16 2
             guard := leAt b 18 2, maxCars := leAt b 20 2, templates := t }
    else none

/-- A loaded schedule image verified and instantiated (R87): format, signature, then the fit for the present numbering. -/
def schedVerify (s : State) (l : LoadStage) (b : Bytes) : Answer :=
  match schedFormat l b with
  | none => fails s .refused rSchedFormat
  | some im =>
    if !manifestSigned s b 0 then fails s .refused rSchedAuth
    else
      match instantiateImage s im with
      | some s' => okay (ownWindows s')
      | none => fails (setAlarm s .css 5) .refused rSchedNoFit

/-- SCHED_LOAD_END (R84, R87). Where no load was begun or bytes are missing it completes with INVALID_ARGUMENT before the
node's state is looked at (DESIGN CHOICE, log: R84 and R309 give no order). `met` are the words of the MGP's SRAM, which
holds the staged image, in which the reads of the verification find single-bit errors: they are corrected and counted, and
the image is as it was written (R27). -/
def execSchedLoadEnd (h : Hcp) (met : List Nat) (s : State) : Out :=
  .next (runHcp { opcode := 0x0203, classC := true } h s fun s =>
    match loadOf s.css.loads h.tenant with
    | none => fails s (if loadBusy s.css.loads h.tenant then .busy else .invalidArgument) 0
    | some l =>
      match loadBytes l.blocks l.len with
      | none => fails s .invalidArgument 0
      | some b =>
        if s.css.state ≠ .stopped then fails s .busy 0
        else schedVerify (readsCorrected { s with css := { s.css with loads := loadDrop s.css.loads h.tenant } } 8 met) l b)

/-- CSS_START (R88). stop_reason returns to 0, "none" (DESIGN CHOICE, log: no rule says when it does). -/
def execCssStart (h : Hcp) (mode : StartMode) (s : State) : Out :=
  .next (runHcp { opcode := 0x0204, classC := true } h s fun s =>
    if s.css.state ≠ .stopped ∨ inaugurating s then fails s .busy 0
    else if !s.tms.tsValid then fails s .refused rNoTime
    else if !s.css.fits then fails s .refused 0x0203
    else
      match mode with
      | .cold =>
        let s := cssListen (cssFresh s)
        okay { s with css := { s.css with stopReason := 0 } }
      | .timed sec ns leader =>
        let t := linNs sec ns
        if s.css.image.any fun i => !i.timedRestart then fails s .refused 0x0208
        else if t < trtNs s + 1000000 ∨ trtNs s + 10000000000 < t then fails s .refused 0x0206
        else if s.tms.trtState ≠ .locked ∧ s.tms.trtState ≠ .leader then fails s .refused 0x0205
        else
          let s := cssHalt (cssFresh s)
          okay { s with css := { s.css with state := .waitStart, tStart := t, followed := leader, stopReason := 0 } })

/-- CSS_STOP (R85). -/
def execCssStop (h : Hcp) (scope : StopScope) (pan : Word) (s : State) : Out :=
  .next (runHcp { opcode := 0x0205, classC := true } h s fun s =>
    if inaugurating s then fails s .busy 0
    else
      match scope with
      | .train =>
        if s.css.state ≠ .leader then fails s .notPermitted 0
        else if (pan - s.css.pan).toInt < 2 then fails s .refused 0x0204
        else okay { s with css := { s.css with stopPan := some pan, stopWhy := 2 } }
      | .localOnly =>
        match s.css.state with
        | .stopped => okay s
        | .active | .leader => okay { s with css := { s.css with localStop := true } }
        | _ => okay (cssStopped s 1))

/-- CSS_COUNTERS_CLEAR (R93). -/
def execCssCountersClear (h : Hcp) (s : State) : Out :=
  .next (runHcp { opcode := 0x0206 } h s fun s =>
    match s.css.state with
    | .active | .leader | .integrating => okay { s with css := { s.css with clearDue := true } }
    | _ => okay (cssZero s 0))

end Sys2Proof.Machine
end

