-- ==== Sys2Proof/Machine/Island.lean ====
section
/-! DEFINITION. Safety island: its cycles, telegrams, deadlines and pulses, and the host commands of chapters 10 and 11. -/

namespace Sys2Proof.Machine

/-! ## The safety cycle (R245 to R247, R255, R256) -/

/-- The decision vector of a channel (R245). -/
def mkVector (s : State) (ch : Chan) : Vector98 :=
  let c := chanOf s ch
  { states := (List.range 64).map fun k => (axisOf s ch k).state, outs := c.halves, ins := inputVector s ch, seals := c.seals
    ident := match s.isl.par with | some p => p.ident | none => 0, crc := match s.isl.par with | some p => p.crc | none => 0
    cycle := c.cycle }

/-- The fields in which two vectors differ: axes 0 to 63, outputs from 64, inputs from 72, SEAL 88, set and CRC 89. The cycle
counts, which are each channel's own, are not compared (DEDUCED, log). -/
def vectorDiff (a b : Vector98) : List Nat :=
  ((List.range 64).filter fun k => a.states[k]? != b.states[k]?)
    ++ ((List.range 8).filter fun n => bitAt a.outs n != bitAt b.outs n).map (64 + ·)
    ++ ((List.range 16).filter fun i => bitAt a.ins i != bitAt b.ins i).map (72 + ·)
    ++ (if a.seals != b.seals then [88] else []) ++ (if a.ident != b.ident || a.crc != b.crc then [89] else [])

/-- One comparison with the latest vector of the other channel: the fields that differ count on, the others start again; a
vector missing for 3 cycles differs in every field (R246). -/
def compareVectors (s : State) (ch : Chan) : State :=
  let c := chanOf s ch
  let diff := if 3 ≤ c.missed then List.range 90 else
    match c.received with
    | some v => vectorDiff (mkVector s ch) v
    | none => []
  let t : Table Nat := diff.map fun f => (f, tget 0 c.discrepant f + 1)
  let s := putChan s ch { c with discrepant := t }
  if t.any fun e => decide (3 ≤ e.2) then deviceSafe s 0 else s

/-- One sample of an input ball through the debounce of its record: the value follows after that many cycles (R255). -/
def debounce (h : InHalf) (ball : Bool) (n : Nat) : InHalf :=
  if ball = h.value then { h with count := 0 }
  else if n ≤ h.count + 1 then { value := ball, count := 0 }
  else { h with count := h.count + 1 }

/-- The balls of a channel sampled: inputs, SEAL and feedback. -/
def sampleBalls (s : State) (ch : Chan) (m : CycleMeas) : State :=
  let c := chanOf s ch
  let ins : Table InHalf := (List.range 16).foldl (fun t i =>
    tset {} t i (debounce (tget {} c.inputs i) (bitAt m.inputs i) (match inPar s i with | some p => p.debounce | none => 1))) []
  putChan s ch { c with
    inputs := ins, seals := m.seals, feedback := m.feedback, cycle := c.cycle + 1, cycleAt := some s.mono
    cycleFrom := c.cycleAt }

/-- The halves of input `i` disagree, as a channel sees them. -/
def halvesDiffer (s : State) (ch : Chan) (i : Nat) : Bool :=
  ((inPar s i).any fun p => p.use != 0) && (chanOf s ch).received.any fun v => bitAt v.ins i != halfValue s ch i

/-- The disagreement of each input timed; a latched fault ends where both halves read the safe value (R255). -/
def inputTimers (s : State) (ch : Chan) : State :=
  (List.range 16).foldl (fun s i =>
    let c := chanOf s ch
    let t := if halvesDiffer s ch i then some ((tget none c.disagree i).getD s.mono) else none
    let s := putChan s ch { c with disagree := tset none c.disagree i t }
    let sv := safeValue (match inPar s i with | some p => p.use | none => 0)
    if bitAt s.isl.inFault i && t.isNone && c.received.isSome && halfValue s ch i == sv then
      { s with isl := { s.isl with inFault := setBit s.isl.inFault i false } }
    else s) s

/-- Both halves of output `n` are commanded high, as a channel knows it (R254). -/
def bothHigh (s : State) (ch : Chan) (n : Nat) : Bool :=
  bitAt (chanOf s ch).halves n && (chanOf s ch).received.any fun v => bitAt v.outs n

/-- The disagreement of each output's feedback timed; during a dark pulse the pulse's own check judges it (R254). -/
def feedbackTimers (s : State) (ch : Chan) : State :=
  (List.range 8).foldl (fun s n =>
    let c := chanOf s ch
    let skip := bitAt s.isl.outFault n || bitAt s.isl.sfp.dark n || bitAt s.isl.sla.dark n
    let t := if !skip && bitAt c.feedback n != bothHigh s ch n then some ((tget none c.fbSince n).getD s.mono) else none
    putChan s ch { c with fbSince := tset none c.fbSince n t }) s

/-- What a fall of L and an emergency stop clear (R274, R277): the axes whose L was 1 lose S of their outputs. -/
def clearFallen (s : State) (ch : Chan) (before : List Nat) : State :=
  (enabledAxes s).foldl (fun s k =>
    if (before.contains k && !localOf s ch k) || stopOf s ch k then
      match chanPar s k with
      | some p => clearGrants s ch p.outputs
      | none => s
    else s) s

/-- By how much the TRT that elapsed over a channel's cycle differs from its own measure of that cycle of 1 ms, in ppm of it (ns),
less a step that the record announces within the cycle (R247). -/
def trtOff (s : State) (ch : Chan) (m : CycleMeas) : Int :=
  let r := s.tms.stepRec
  let stepped := r.at_.any fun a => (chanOf s ch).cycleFrom.any fun b => decide (b ≤ a)
  m.trtPpm - (if stepped then r.sec * 1000000000 + r.ns else 0)

/-- The causes of Table 10-7 that a channel's cycle finds. -/
def cycleCauses (s : State) (ch : Chan) (m : CycleMeas) : List Nat :=
  let c := chanOf s ch
  (if 60000 < m.clockPpm.natAbs || (s.tms.tsValid && decide (60000 < (trtOff s ch m).natAbs)) then [1] else [])
    ++ (if m.vsafeBad then [2] else [])
    ++ (if ch == .sfp && !m.lockstepOk then [3] else [])
    ++ (if ch == .sfp && !m.memOk then [4] else [])
    ++ (if s.isl.ready && decide (2 ≤ c.sealBad) then [5] else [])
    ++ (if s.isl.par.isNone then [6] else [])
    ++ (if !m.selfTestOk then [7] else [])
    ++ (if 1350 < m.tj then [8] else [])
    ++ (if !s.tms.tsValid then [9] else [])
    ++ (if ch == .sla && !m.memOk then [11] else [])

/-- The counted SEAL mismatches and what a cycle measures taken over. -/
def cycleMeasure (s : State) (ch : Chan) (m : CycleMeas) : State :=
  let c := chanOf s ch
  let bad := s.isl.par.any fun p => p.seals != m.seals
  let s := putChan s ch { c with sealBad := if bad then c.sealBad + 1 else 0, ok := c.ok || m.selfTestOk }
  let s := { s with isl := { s.isl with vsafe := m.vsafeMv, vsafeOk := decide (760 ≤ m.vsafeMv ∧ m.vsafeMv ≤ 840), tj := m.tj } }
  if 60000 < m.clockPpm.natAbs then { s with glob := { s.glob with slaFault := true } } else s

/-- The vectors exchanged and compared; the comparison is suspended while the SFP restarts (R246, R322). -/
def cycleVectors (s : State) (ch : Chan) (vectorIn : Bool) : State :=
  if s.isl.sfpRestart.isSome || !(s.isl.sfp.ok && s.isl.sla.ok) then s
  else
    let c := chanOf s ch
    let s := putChan s ch (if vectorIn then { c with received := (chanOf s (otherChan ch)).posted, missed := 0 }
      else { c with missed := c.missed + 1 })
    compareVectors s ch

/-- The instant of a channel's next safety cycle, 1 ms after its last (R245): of its own clock, within its tolerance, as of model
time (log). -/
def cycleDue (s : State) (ch : Chan) : Nat :=
  match (chanOf s ch).cycleAt with
  | some a => a + 1000000
  | none => s.mono

/-- A channel's safety cycle of 1 ms (R245); the island leaves its safe state where nothing keeps it there. -/
def cycleEffect (s : State) (ch : Chan) (m : CycleMeas) : State :=
  let s := untilMono s (cycleDue s ch)
  let before := (enabledAxes s).filter fun k => localOf s ch k
  let s := cycleMeasure (sampleBalls s ch m) ch m
  let s := cycleVectors s ch m.vectorIn
  let s := (cycleCauses s ch m).foldl deviceSafe s
  let s := clearFallen (inputTimers s ch) ch before
  let s := feedbackTimers (moveAxes s ch) ch
  let s := putChan s ch { chanOf s ch with posted := some (mkVector s ch) }
  let s := if s.isl.deviceSafe && canLeave s then leaveSafe s 0 else s
  if ch = .sfp then writeMirror s else s

/-- SAFETY_CYCLE (R245): no effect while the channel does not run. -/
def execSafetyCycle (ch : Chan) (m : CycleMeas) (s : State) : Out :=
  .next (if chanRuns s ch then cycleEffect s ch m else s)

/-! ## Telegrams (R248 to R251, R264 to R276) -/

/-- Body bytes 0 to 27 of a telegram (Table 10-2). -/
def telegramBytes (t : Telegram) : Bytes :=
  beBytes 1 t.channel ++ [t.epoch] ++ beBytes 4 t.seq.toNat ++ beBytes 4 t.trtNs.toNat ++ beInt 4 t.posA ++ beInt 4 t.posB
    ++ beInt 2 t.speed ++ beBytes 2 t.status.toNat ++ beBytes 2 t.cmdEcho.toNat ++ beBytes 4 t.tag.toNat

/-- seed_c (R248). -/
def seedOf (p : SafetyPar) (k : Nat) : Word := p.seed ^^^ word (k * 0x01010101)

/-- The trt_ns of a telegram, corrected by a TRT step of the last 40 ms where its epoch is one less (R249); none where the
epoch check fails. -/
def epochTrt (s : State) (t : Telegram) : Option Word :=
  if t.epoch = s.tms.trtEpoch then some t.trtNs
  else if t.epoch + 1 = s.tms.trtEpoch ∧ (s.tms.stepRec.at_.any fun a => decide (s.mono ≤ a + 40000000)) then
    some (t.trtNs + wordI (s.tms.stepRec.sec * 1000000000 + s.tms.stepRec.ns))
  else none

/-- How long ago an instant of 32 bits was, in ns; negative = ahead. -/
def agoNs (s : State) (t : Word) : Int := toSigned 32 (stampNs s - t).toNat

/-- A seq lies after the last of a segment (R249). -/
def seqAfter (seq : Word) (last : Option Word) : Bool :=
  match last with
  | none => true
  | some l => decide (0 < toSigned 32 (seq - l).toNat)

/-- A copy passes every check of R249 for axis `k`; gives its corrected trt_ns. -/
def telegramOk (s : State) (ch : Chan) (k port : Nat) (t : Telegram) : Option Word :=
  match s.isl.par, chanPar s k with
  | some p, some c =>
    let a := axisOf s ch k
    if (port = 16 + 2 * c.segPair ∨ port = 17 + 2 * c.segPair)
        ∧ crcSafety (seedOf p k) (telegramBytes t) = t.code ∧ t.channel = k ∧ t.tag = c.tag
        ∧ seqAfter t.seq (if port % 2 = 1 then a.lastB else a.lastA) ∧ s.tms.tsValid then
      match epochTrt s t with
      | none => none
      | some x => if -200000 ≤ agoNs s x ∧ agoNs s x < stalenessNs s k then some x else none
    else none
  | _, _ => none

/-- The limits of a channel state (Table 11-2): opening, closing, position ceiling, opening forbidden. -/
def limitsOf (f : FuncPar) (a : Axis) : Int × Int × Option Int × Bool :=
  match a.state with
  | .guardOpenWait | .guardCloseWait => (f.slsCreep, f.slsCreep, some (a.ceiling.getD f.testTravel), a.ceiling.isSome)
  | .locked => (f.sdiTol, f.slsClose, some f.closedZone, true)
  | .released => (f.slsOpen, f.slsClose, none, false)
  | _ => (f.slsOpen, f.slsClose, none, a.allow.isNone)

/-- The function code of the first islandViolation of Table 11-3 that a telegram shows, 0 = none (R267 to R270); a speed is a
numerator and a denominator. -/
def islandViolation (f : FuncPar) (a : Axis) (p : Int) (v : Option (Int × Nat)) (handle : Bool) : Nat :=
  let l := limitsOf f a
  if v.any fun v => decide (l.1 * v.2 < v.1 ∨ l.2.1 * v.2 < -v.1) then 1
  else if p < -f.slpMargin ∨ f.travel + f.slpMargin < p then 2
  else if !handle && l.2.2.1.any fun c => decide (c < p) then 3
  else if !handle && l.2.2.2 && v.any fun v => decide (f.sdiTol * v.2 < v.1) then 4
  else if f.xcheck ≤ a.xPos then 5
  else if f.xcheck ≤ a.xSpeed then 6
  else 0

/-- Both cross-checks (R269): consecutive failures of each. -/
def crossChecks (f : FuncPar) (a : Axis) (t : Telegram) : Axis :=
  { a with
    xPos := if f.posTol < (t.posA - t.posB).natAbs then a.xPos + 1 else 0
    xSpeed := match a.vB with
      | some v => if f.speedTol * v.2 < (t.speed * v.2 - v.1).natAbs then a.xSpeed + 1 else 0
      | none => 0 }

/-- The two newest samples of an axis after one more, by trt_ns (R264). -/
def newSamples (a : Axis) (x : Int × Word) : Option (Int × Word) × Option (Int × Word) :=
  match a.prev with
  | none => (some x, none)
  | some p =>
    if 0 ≤ toSigned 32 (x.2 - p.2).toNat then (some x, some p)
    else if a.prev2.all fun q => decide (0 < toSigned 32 (x.2 - q.2).toNat) then (some p, some x)
    else (a.prev, a.prev2)

/-- The speed vB of the two newest telegrams (R264): µm per ns are 10^7 of 0.1 mm/s. -/
def speedB : Option (Int × Word) × Option (Int × Word) → Option (Int × Nat)
  | (some p, some q) =>
    let dt := toSigned 32 (p.2 - q.2).toNat
    if 0 < dt then some ((p.1 - q.1) * 10000000, dt.toNat) else none
  | _ => none

/-- The raised ceiling of R273 at a telegram with own position `p`. -/
def raiseCeiling (f : FuncPar) (a : Axis) (first : Bool) (open_ : Bool) (p : Int) : Axis :=
  if first && a.state == .guardOpenWait && open_ && decide (f.testTravel < p) then { a with ceiling := some (p + f.slpMargin) }
  else { a with ceiling := a.ceiling.map fun c => max f.testTravel (min c (p + f.slpMargin)) }

/-- The obstacle allowance of R276: opened or restarted by a telegram with obstacle = 1, ended where it is used up. -/
def obstacleMove (s : State) (ch : Chan) (k : Nat) (f : FuncPar) (t : Telegram) (p : Int) : State :=
  let a := axisOf s ch k
  if a.state = .closing ∧ bitAt t.status 3 then
    let s := if ch = .sfp ∧ a.allow.isNone then { s with isl := { s.isl with reversals := bumpAxis s.isl.reversals k } } else s
    putAxis s ch k { a with allow := some (p + f.reversal) }
  else putAxis s ch k { a with allow := a.allow.filter fun l => decide (p ≤ l) }

/-- A first accepted copy is evaluated (R264): the new sample and the deadline taken over, then the state machine, then the
functions under the limits of the state it leads to (DEDUCED, log). A copy sampled before the newest one leaves the newest and
its deadline (R251); vB is over the two newest samples (R264). -/
def evaluateTel (s : State) (ch : Chan) (k : Nat) (t : Telegram) (trt : Word) : State :=
  match funcPar s k with
  | none => s
  | some f =>
    let a := axisOf s ch k
    let first := !a.heard
    let p := if ch = .sfp then t.posA else t.posB
    let due := ((trtNs s : Int) - agoNs s trt + stalenessNs s k).toNat
    let older := a.heard && a.prev.any fun e => decide (toSigned 32 (trt - e.2).toNat < 0)
    let ss := newSamples a (t.posB, trt)
    let vB := speedB ss
    let a := { a with
      newest := if older then a.newest else some t, heard := true, vB := vB, prev := ss.1, prev2 := ss.2
      deadline := if first then due else max due a.deadline }
    let s := putAxis s ch k a
    if a.state = .safe then s
    else
      let s := putAxis s ch k (raiseCeiling f (crossChecks f a t) first (movementGuardOf s ch k == some false) p)
      let s := releaseMove (guardMove s ch k) ch k
      if (axisOf s ch k).state = .safe then s
      else
        let s := obstacleMove s ch k f t p
        let v := if ch = .sfp then some (t.speed, 1) else vB
        let code := islandViolation f (axisOf s ch k) p v (handleOf s ch k)
        if code = 0 then settle s ch else axisSafe s ch k 4 code

/-- A complete pair (R250, R275): the streak ends; seqs that follow one another keep the second of auto_recover running. -/
def pairDone (a : Axis) (seq : Word) (now : Nat) : Axis :=
  { a with
    streak := 0, lastPair := some seq
    pairsSince := if a.pairsSince.isSome && a.lastPair == some (seq - 1) then a.pairsSince else some now }

/-- A seq counts as single-copy (R250). -/
def singleCopy (s : State) (ch : Chan) (k : Nat) : State :=
  let a := axisOf s ch k
  let s := putAxis s ch k { a with streak := a.streak + 1, singles := a.singles + 1, pairsSince := none }
  if s.isl.par.any fun p => decide (p.singleLimit < a.streak + 1) then axisSafe s ch k 3 0 else s

/-- compare_window in ns. -/
def windowNs (s : State) : Nat := match s.isl.par with | some p => p.window * 1000000 | none => 0

/-- A channel takes an accepted copy (R250): the second copy of a seq completes or fails its pair, or is late; any other is the
first of its seq. -/
def takeCopy (s : State) (ch : Chan) (k : Nat) (segB : Bool) (t : Telegram) (trt : Word) : State :=
  let a := axisOf s ch k
  let a := if segB then { a with lastB := some t.seq } else { a with lastA := some t.seq }
  match a.waiting.find? fun w => w.tel.seq == t.seq && w.segB != segB with
  | some w =>
    let rest := a.waiting.filter fun w => w.tel.seq != t.seq
    if w.late then putAxis s ch k a
    else if w.at_ + windowNs s < s.mono then
      singleCopy (putAxis s ch k { a with waiting := { w with late := true } :: rest }) ch k
    else if telegramBytes w.tel = telegramBytes t then putAxis s ch k (pairDone { a with waiting := rest } t.seq s.mono)
    else axisSafe (putAxis s ch k { a with waiting := rest, mismatches := sat16 (a.mismatches + 1) }) ch k 2 0
  | none =>
    let w : PairWait := { tel := t, segB := segB, at_ := s.mono, late := false }
    evaluateTel (putAxis s ch k { a with waiting := (w :: a.waiting).take 64 }) ch k t trt

/-- One channel receives a telegram copy (R244, R249): accepted, or counted in SI_CH_ERR of the axis it names. -/
def chanTelegram (s : State) (ch : Chan) (port : Nat) (t : Telegram) : State :=
  if !chanRuns s ch || decide (64 ≤ t.channel) then s
  else
    match telegramOk s ch t.channel port t with
    | some x => takeCopy s ch t.channel (port % 2 == 1) t x
    | none =>
      let a := axisOf s ch t.channel
      putAxis s ch t.channel { a with rejects := sat16 (a.rejects + 1) }

/-- TELEGRAM_RECEIVE (R244, R248): a copy from a segment assigned in the parameter set is counted at its port and goes to both
channels unless its policer discards it (R117); on another port it is no telegram of the island's and goes as FRAME_INGRESS
says. -/
def execTelegramReceive (port : Nat) (t : Telegram) (s : State) : Out :=
  .next (if safetySegment s port && portReceives s port then
    policed s port 64 fun s => chanTelegram (chanTelegram s .sfp port t) .sla port t
  else s)

/-! ## Deadlines, commands and pulses -/

/-- COMPARE_WINDOW_EXPIRY (R250): the oldest first copy that still waits. -/
def compareExpire (ch : Chan) (k : Nat) (s : State) : State :=
  if !chanRuns s ch then s
  else
    match (axisOf s ch k).waiting.reverse.find? fun w => !w.late with
    | none => s
    | some w =>
      let s := untilMono s (w.at_ + windowNs s)
      let a := axisOf s ch k
      singleCopy (putAxis s ch k { a with
        waiting := a.waiting.map fun x => if x.tel.seq == w.tel.seq then { x with late := true } else x }) ch k

/-- See `compareExpire`. -/
def execCompareWindowExpiry (ch : Chan) (c : Nat) (s : State) : Out := .next (compareExpire ch c s)

/-- STALENESS_DEADLINE (R251). -/
def staleness (ch : Chan) (k : Nat) (s : State) : State :=
  let a := axisOf s ch k
  if !chanRuns s ch || !s.tms.tsValid || a.state == .disabled || a.state == .safe then s
  else axisSafe (untilNs s a.deadline) ch k 1 0

/-- See `staleness`. -/
def execStalenessDeadline (ch : Chan) (c : Nat) (s : State) : Out := .next (staleness ch c s)

/-- Body bytes 0 to 27 of a channel's drive command (Table 10-3). -/
def driveBytes (s : State) (ch : Chan) (k : Nat) : Bytes :=
  let a := axisOf s ch k
  let en := enablesOf s ch k
  let echo := match a.newest with | some t => t.seq.toNat % 65536 | none => 0
  beBytes 1 k ++ [s.tms.trtEpoch] ++ beBytes 4 (a.cmdSeq + 1).toNat ++ beBytes 4 (stampNs s).toNat
    ++ beBytes 1 (b2n en.1 + 2 * b2n en.2) ++ beBytes 1 a.state.code ++ beInt 2 (speedLimit s ch k) ++ beBytes 2 echo
    ++ List.replicate 12 0

/-- The instant of a channel's next drive command to an axis: a period after its last (R248). -/
def driveDue (s : State) (ch : Chan) (k : Nat) : Nat :=
  match (axisOf s ch k).cmdAt, s.isl.par, chanPar s k with
  | some a, some p, some c => a + (if c.period = 0 then p.period else c.period) * 1000000
  | _, _, _ => s.mono

/-- The frame of a drive command (R248): 64 B, untagged, its body of 32 B between the version byte and 12 zeros. -/
def driveFrame (s : State) (body : Bytes) : Frame :=
  { dst := 0x034256FFFF09, src := Config.portMac s.otp.unitId 98, vlan := none, etype := 0x88B6, subtype := 0x11, rtag := none
    rct := none, len := 64, fcsOk := true, gptpDomain := none, payload := [0x11, 0x01] ++ body ++ List.replicate 12 0 }

/-- A drive command enters the fabric at port 98, in TC6, for one segment (R248, Table 5-2). -/
def driveQueue (s : State) (port : Nat) (f : Frame) : State :=
  brineAndQueue (countGot s 98 f.len) 98
    { cls := 6, tenant := 0, stream := none, conforming := false, vid := frameVid s 98 f, frame := f, ports := [port] } false

/-- DRIVE_COMMAND_SEND (R248, R271): the SFP's copy for segment A, the SLA's for segment B, one each period; none in DISABLED. -/
def driveSend (ch : Chan) (k : Nat) (s : State) : State :=
  match s.isl.par, chanPar s k with
  | some p, some c =>
    let port := 16 + 2 * c.segPair + (if ch = .sfp then 0 else 1)
    if !chanRuns s ch || (axisOf s ch k).state == .disabled then s
    else
      let s := untilMono s (driveDue s ch k)
      let b := driveBytes s ch k
      let code := crcSafety (seedOf p k ^^^ 0x80000000) b
      let s := putAxis s ch k { axisOf s ch k with cmdSeq := (axisOf s ch k).cmdSeq + 1, cmdAt := some s.mono }
      driveQueue s port (driveFrame s (b ++ beBytes 4 code.toNat))
  | _, _ => s

/-- See `driveSend`. -/
def execDriveCommandSend (ch : Chan) (c : Nat) (s : State) : Out := .next (driveSend ch c s)

/-- The model time of a channel's next dark pulse of output `n` (R254): the SFP once per test_interval, from the instant the
output energised, the SLA half an interval later; not within 2 ms of a commanded change. -/
def darkDue (s : State) (ch : Chan) (n : Nat) (o : OutPar) : Nat :=
  let t := fun (c : Channel) => tget 0 c.changed n
  let on := max (t s.isl.sfp) (t s.isl.sla)
  let last := tget 0 (chanOf s ch).pulsed n
  let iv := o.interval * 1000000000
  let first := on + iv + (if ch = .sfp then 0 else iv / 2)
  max (on + 2000000) (if last ≤ on then first else last + iv)

/-- DARK_PULSE_START (R254): of an energised output. -/
def darkStart (ch : Chan) (n : Nat) (s : State) : State :=
  match outPar s n with
  | none => s
  | some o =>
    if !chanRuns s ch || 8 ≤ n || !(bitAt s.isl.sfp.halves n && bitAt s.isl.sla.halves n) then s
    else
      let s := untilMono s (darkDue s ch n o)
      let c := chanOf s ch
      settle (putChan s ch { c with dark := setBit c.dark n true, pulsed := tset 0 c.pulsed n s.mono }) ch

/-- See `darkStart`. -/
def execDarkPulseStart (ch : Chan) (n : Nat) (s : State) : Out := .next (darkStart ch n s)

/-- DARK_PULSE_END (R254): t_dark after its start; the half returns, which is no commanded change; a feedback not low latches
DARK_TEST. -/
def darkEnd (ch : Chan) (n : Nat) (feedback : Bool) (s : State) : State :=
  if 8 ≤ n || !bitAt (chanOf s ch).dark n then s
  else
    let s := untilMono s (tget 0 (chanOf s ch).pulsed n + (match outPar s n with | some o => o.tDark * 1000 | none => 0))
    let c := chanOf s ch
    let s := settle (putChan s ch { c with dark := setBit c.dark n false, halves := setBit c.halves n (wantHigh s ch n) }) ch
    if feedback then outputFault s n 2 255 else s

/-- See `darkEnd`. -/
def execDarkPulseEnd (ch : Chan) (n : Nat) (feedback : Bool) (s : State) : Out := .next (darkEnd ch n feedback s)

/-- FEEDBACK_DISAGREE_TIMEOUT (R254). -/
def feedbackLate (ch : Chan) (n : Nat) (s : State) : State :=
  match tget none (chanOf s ch).fbSince n, outPar s n with
  | some t, some o => if chanRuns s ch then outputFault (untilMono s (t + o.settle * 1000 + 1)) n 1 255 else s
  | _, _ => s

/-- See `feedbackLate`. -/
def execFeedbackDisagreeTimeout (ch : Chan) (n : Nat) (s : State) : Out := .next (feedbackLate ch n s)

/-- INPUT_DISCREPANCY_TIMEOUT (R255): the fault is latched and the axes follow the safe value. -/
def inputLate (ch : Chan) (i : Nat) (s : State) : State :=
  match tget none (chanOf s ch).disagree i, inPar s i with
  | some t, some p =>
    if !chanRuns s ch then s
    else
      let s := untilMono s (t + p.discrepancy * 1000000 + 1)
      let s := { s with isl := { s.isl with inFault := setBit s.isl.inFault i true } }
      moveAxes (moveAxes (clearFallen (clearFallen s .sfp []) .sla []) .sfp) .sla
  | _, _ => s

/-- See `inputLate`. -/
def execInputDiscrepancyTimeout (ch : Chan) (i : Nat) (s : State) : Out := .next (inputLate ch i s)

/-- The axes whose L is 0 while S of output `n` is 1. -/
def handAxes (s : State) (n : Nat) : List Nat :=
  (gatingAxes s n).filter fun k => (eligible s .sfp k && !localOf s .sfp k) || (eligible s .sla k && !localOf s .sla k)

/-- The earlier of two instants. -/
def firstOf : Option Nat → Option Nat → Option Nat
  | some a, some b => some (min a b)
  | a, none => a
  | none, b => b

/-- HANDOVER_TIMEOUT (R278): more than 20 ms of disagreement in a channel. -/
def handLate (n : Nat) (s : State) : State :=
  match firstOf (tget none s.isl.sfp.handSince n) (tget none s.isl.sla.handSince n) with
  | none => s
  | some t =>
    if !islandRuns s then s
    else
    let s := untilMono s (t + 20000001)
    let ks := handAxes s n
    let m := BitVec.twoPow 8 n
    let mark := fun (s : State) (ch : Chan) (k : Nat) =>
      let a := axisOf s ch k
      putAxis s ch k { a with handover := a.handover ||| m }
    let s := ks.foldl (fun s k => mark (mark s .sfp k) .sla k) s
    let s := outputFault s n 3 (ks.headD 255)
    let s := clearGrants (clearGrants s .sfp m) .sla m
    moveRelease (moveRelease s .sfp n) .sla n

/-- See `handLate`. -/
def execHandoverTimeout (n : Nat) (s : State) : Out := .next (handLate n s)

/-- GUARD_TEST_TIMEOUT (R273): 10 s after the start of the test. -/
def guardLate (ch : Chan) (k : Nat) (s : State) : State :=
  let a := axisOf s ch k
  match a.testAt with
  | none => s
  | some t =>
    if chanRuns s ch && (a.state == .guardOpenWait || a.state == .guardCloseWait) then
      axisSafe (untilMono s (t + 10000000000)) ch k 4 7
    else s

/-- See `guardLate`. -/
def execGuardTestTimeout (ch : Chan) (c : Nat) (s : State) : Out := .next (guardLate ch c s)

/-- AUTO_RECOVER (R275): 1 s of complete pairs after a safe state of reason STALE or SINGLE_NET; suspended while the SFP restarts
(R322). -/
def recover (ch : Chan) (k : Nat) (s : State) : State :=
  let a := axisOf s ch k
  match a.pairsSince, funcPar s k with
  | some t, some f =>
    if a.state == .safe && (a.reason == 1 || a.reason == 3) && f.autoRecover && chanRuns s ch && s.isl.sfpRestart.isNone
        && !s.isl.deviceSafe then
      let s := untilMono s (t + 1000000000)
      if trtNs s < a.deadline then releaseAll (axisReset s ch k 4) ch else s
    else s
  | _, _ => s

/-- See `recover`. -/
def execAutoRecover (ch : Chan) (c : Nat) (s : State) : Out := .next (recover ch c s)

/-- ISLAND_STARTUP_TIMEOUT (R260, R322): 500 ms after fw_ready without both channels, or 600 ms after a commit point without the
SFP's first vector. -/
def startupLate (s : State) : State :=
  if !islandRuns s then s
  else
    match s.isl.sfpRestart with
    | some t => deviceSafe (untilMono s (t + 600000000)) 10
    | none =>
      if s.fw.phase == .ready && !(s.isl.sfp.ok && s.isl.sla.ok) then deviceSafe (untilMono s (s.fw.readyAt + 500000000)) 10
      else s

/-- See `startupLate`. -/
def execIslandStartupTimeout (s : State) : Out := .next (startupLate s)

/-- SFP_FIRST_VECTOR (R322): the restarted SFP's first vector, in time, lets every axis begin as after power-up. -/
def firstVector (m : CycleMeas) (s : State) : State :=
  match s.isl.sfpRestart with
  | none => s
  | some t =>
    if !islandRuns s || decide (t + 600000000 < s.mono) || !(s.fw.activation.all (·.loaded)) then s
    else
      let s := { s with isl := { s.isl with sfpRestart := none, sfp := { s.isl.sfp with ok := m.selfTestOk } } }
      let s := cycleMeasure (sampleBalls s .sfp m) .sfp m
      let s := putChan s .sfp { s.isl.sfp with posted := some (mkVector s .sfp) }
      writeMirror (leaveSafe ((cycleCauses s .sfp m).foldl deviceSafe s) 0)

/-- See `firstVector`. -/
def execSfpFirstVector (m : CycleMeas) (s : State) : Out := .next (firstVector m s)

/-! ## Host commands (R259, R261, R281) -/

/-- The feature of the island (Table 12-8). -/
def islandFeatures : List Nat := [13]

/-- On a BV-9664-N every safety command completes with NOT_PERMITTED (R3, R281). -/
def onIsland (f : State → Answer) (s : State) : Answer := if s.otp.island then f s else fails s .notPermitted rFeature

/-- SAFETY_PARAM_BEGIN (R259, R309). -/
def execSafetyParamBegin (h : Hcp) (len : Nat) (ident : Word) (s : State) : Out :=
  .next (runHcp { opcode := 0x0901, classC := true, features := islandFeatures } h s <| onIsland fun s =>
    if !allSafe s then fails s .safeStateRequired 0
    else if loadBusy s.isl.loads h.tenant then fails s .busy 0
    else if len ≠ 5517 then fails s .invalidArgument 0
    else okay { s with isl := { s.isl with loads := loadBegin s.isl.loads h.tenant len ident } })

/-- SAFETY_PARAM_BLOCK (R259, R309). -/
def execSafetyParamBlock (h : Hcp) (off : Nat) (data : Bytes) (s : State) : Out :=
  .next (runHcp { opcode := 0x0902, classC := true, features := islandFeatures } h s <| onIsland fun s =>
    if !allSafe s then fails s .safeStateRequired 0
    else
      match loadOf s.isl.loads h.tenant with
      | none => fails s (if loadBusy s.isl.loads h.tenant then .busy else .invalidArgument) 0
      | some l =>
        if blockOk l off data then okay { s with isl := { s.isl with loads := loadPut s.isl.loads h.tenant off data } }
        else fails s .invalidArgument 0)

/-- A parameter set written to the area of the active slot (R259, R325). -/
def storePar (s : State) (b : Bytes) : State :=
  if s.fw.activeB then { s with fw := { s.fw with slotB := { s.fw.slotB with par := some b } } }
  else { s with fw := { s.fw with slotA := { s.fw.slotA with par := some b } } }

/-- A verified set handed to both channels, which restart on it (R259): the PARAM cause ends. -/
def handPar (s : State) (p : SafetyPar) : State :=
  let s := chansRestart s (some p)
  leaveSafe { s with isl := { s.isl with fault := setBit s.isl.fault 6 false, deviceSafe := true, ready := false } } 2

/-- SAFETY_PARAM_END (R257, R259): a set that fails a check completes with REFUSED and changes nothing (DESIGN CHOICE, log: the
spec gives no status). A load whose END is turned away for want of the safe state is over (R309). -/
def execSafetyParamEnd (h : Hcp) (s : State) : Out :=
  .next (runHcp { opcode := 0x0903, classC := true, features := islandFeatures } h s <| onIsland fun s =>
    if !allSafe s then
      fails { s with isl := { s.isl with loads := loadDrop s.isl.loads h.tenant } } .safeStateRequired 0
    else
      match loadOf s.isl.loads h.tenant with
      | none => fails s (if loadBusy s.isl.loads h.tenant then .busy else .invalidArgument) 0
      | some l =>
        match loadBytes l.blocks l.len with
        | none => fails s .invalidArgument 0
        | some b =>
          let s := { s with isl := { s.isl with loads := loadDrop s.isl.loads h.tenant } }
          match parCheck s b with
          | none => fails s .refused 0
          | some p => if p.ident = l.ident then okay (handPar (storePar s b) p) else fails s .refused 0)

/-- A cause that SAFETY_RESUME clears is present (R261, Table 10-7): above 135 °C, and not below 125 °C once OVERTEMP is latched. -/
def causePresent (s : State) : Bool :=
  let seals := s.isl.par.any fun p => s.isl.sfp.seals != p.seals || s.isl.sla.seals != p.seals
  seals || decide (1350 < s.isl.tj) || (bitAt s.isl.fault 8 && decide (1250 ≤ s.isl.tj)) || !s.tms.tsValid

/-- SAFETY_RESUME (R261). -/
def execSafetyResume (h : Hcp) (s : State) : Out :=
  .next (runHcp { opcode := 0x0904, classC := true, features := islandFeatures } h s <| onIsland fun s =>
    if !hasRight s h.tenant 5 then fails s .notPermitted rRight
    else if causePresent s then fails s .refused 0x0502
    else
      okay (leaveSafe { s with isl := { s.isl with
        fault := setBit (setBit (setBit s.isl.fault 5 false) 8 false) 9 false
        deviceSafe := true, outFault := 0, outReason := [] } } 1))

/-- The axes of a mask that are enabled. -/
def maskAxes (s : State) (m : BitVec 64) : List Nat := (setOf m).filter fun k => (chanPar s k).isSome

/-- SAFETY_CHANNEL_RESET (R275, R281). -/
def execSafetyChannelReset (h : Hcp) (mask : BitVec 64) (s : State) : Out :=
  .next (runHcp { opcode := 0x0905, classC := true, features := islandFeatures } h s <| onIsland fun s =>
    if !hasRight s h.tenant 5 then fails s .notPermitted rRight
    else if !s.isl.ready then fails s .refused 0x0501
    else
      let s := (maskAxes s mask).foldl (fun s k => axisReset (axisReset s .sfp k 3) .sla k 3) s
      okay (releaseAll (releaseAll s .sfp) .sla))

/-- A guard test started in a channel that is in GUARD_OPEN_WAIT (R281); one that runs keeps its timer. -/
def guardTest (s : State) (ch : Chan) (k : Nat) : State :=
  let a := axisOf s ch k
  if a.state = .guardOpenWait ∧ a.testAt.isNone then putAxis s ch k { a with testAt := some s.mono } else s

/-- SAFETY_GUARD_TEST (R281). -/
def execSafetyGuardTest (h : Hcp) (mask : BitVec 64) (s : State) : Out :=
  .next (runHcp { opcode := 0x0906, classC := true, features := islandFeatures } h s <| onIsland fun s =>
    if !hasRight s h.tenant 5 then fails s .notPermitted rRight
    else if !s.isl.ready then fails s .refused 0x0501
    else okay (settleBoth ((maskAxes s mask).foldl (fun s k => guardTest (guardTest s .sfp k) .sla k) s)))

/-- AXIS_COUNTER_SET (R279, R281). -/
def execAxisCounterSet (h : Hcp) (c : Nat) (cycles reversals : Word) (s : State) : Out :=
  .next (runHcp { opcode := 0x0907, classC := true, owner := true, features := islandFeatures } h s <| onIsland fun s =>
    if !s.isl.ready then fails s .refused 0x0501
    else if 64 ≤ c then fails s .invalidArgument 0
    else okay { s with isl := { s.isl with
      cycles := tset 0 s.isl.cycles c cycles.toNat, reversals := tset 0 s.isl.reversals c reversals.toNat } })

/-- AXIS_STATUS (R281): both states and enables, the function code, the counters and the latest positions. -/
def execAxisStatus (h : Hcp) (c : Nat) (s : State) : Out :=
  .next (runHcp { opcode := 0x0908, features := islandFeatures } h s <| onIsland fun s =>
    if !s.isl.ready then fails s .refused 0x0501
    else if 64 ≤ c then fails s .invalidArgument 0
    else
      let a := axisOf s .sfp c
      let en := fun (ch : Chan) => b2n (enablesOf s ch c).1 + 2 * b2n (enablesOf s ch c).2
      let pos := match a.newest with | some t => leInt 4 t.posA ++ leInt 4 t.posB | none => leBytes 8 0
      okWith s (leBytes 1 a.state.code ++ leBytes 1 (axisOf s .sla c).state.code ++ leBytes 1 (en .sfp) ++ leBytes 1 (en .sla)
        ++ leBytes 4 a.func ++ leBytes 4 (tget 0 s.isl.cycles c) ++ leBytes 4 (tget 0 s.isl.reversals c) ++ pos))

/-- COUNTER_WINDROW_WRITE (R279): every hour, or at once where an axis has counted 1024 cycles; written by the MGP. -/
def counterWrite (s : State) : State :=
  if !s.otp.island || !s.glob.fwReady then s
  else
    let s := if s.isl.since.any fun e => decide (1024 ≤ e.2) then s else untilMono s (s.isl.counterAt + 3600000000000)
    writeCounters s

/-- See `counterWrite`. -/
def execCounterWindrowWrite (s : State) : Out := .next (counterWrite s)

end Sys2Proof.Machine
end

