-- ==== Sys2Proof/Machine/TauFire.lean ====
section
/-! DEFINITION. What a timed action unit drives when it fires (R96, R100, R106, R107, R130). -/

namespace Sys2Proof.Machine

/-! ## Instants -/

/-- The counter of a timescale in units of 2^-48 ns. -/
def scaleRaw (s : State) (wyt : Bool) : Nat := if wyt then s.tms.wyt else s.tms.trt

/-- A TAU that fires at its instant: armed one-shot or periodic, or committed (Table 4-4). -/
def willFire (r : TauRec) : Bool := (r.state == .armed && r.mode != .gated) || (r.state == .committed && r.mode == .gated)

/-- The instant of a TAU that will fire is reached. -/
def dueNow (s : State) (r : TauRec) : Bool := willFire r && decide (r.fire * 2 ^ 32 ≤ scaleRaw s r.wyt)

/-- Time passes until a TAU's timescale reaches `t16`, in units of 2^-16 ns. -/
def untilScale (s : State) (wyt : Bool) (t16 : Nat) : State :=
  if wyt then untilWyt s (t16 * 2 ^ 32) else untilTrt s (t16 * 2 ^ 32)

/-- The other TAUs that act at this tick and satisfy `p`. -/
def othersDue (s : State) (k : Nat) (p : TauRec → Bool) : Bool :=
  s.tau.units.any fun e => e.1 != k && p e.2 && dueNow s e.2

/-! ## Firing -/

/-- A TAU fires: event FIRED; then the next instant, SURVEY_WAIT or IDLE (Table 4-4). -/
def tauFired (s : State) (k : Nat) (collision : Bool) : State :=
  let r := tauOf s k
  let s := tauEvent s k 1 0 (b2n collision) (r.fire / 2 ^ 16)
  if r.mode = .periodic then tauNext (tauReason s k 0) k else tauFinish s k true 0 collision (r.fire / 2 ^ 16)

/-- A TAU's action fails at its instant: ABORTED with COMMIT_FAILED; a periodic one goes on (R96). -/
def tauFailed (s : State) (k : Nat) : State :=
  if (tauOf s k).mode = .periodic then
    tauNext (tauReason (tauEvent s k 2 9 0 ((tauOf s k).fire / 2 ^ 16)) k 9) k
  else tauAbort s k 9

/-- A shared TAU of a twin pair drives on the device that has the duties (R215). -/
def tauDrives (s : State) (r : TauRec) : Bool := !r.shared || twinDuties s

/-! ## Pins (R96, R107) -/

/-- The pin after one action of a given operation and pulse width: 0 low, 1 high, 2 toggle, 3 pulse. -/
def pinOp (now : Nat) (op width : Nat) (x : TaPin) : TaPin :=
  match op with
  | 0 => { x with level := false }
  | 1 => { x with level := true }
  | 2 => { x with level := !x.level }
  | _ => { x with level := !x.level, pulse := some (now + width * 10, x.level) }

/-- The pulse width of a PIN action, in units of 10 ns. -/
def pinWidth (s : State) (k : Nat) : Nat := (tauOf s k).arg.toNat / 256

/-- The actions at one tick by ascending TAU index. -/
def pinOrder (ops : List (Nat × Nat)) : List (Nat × Nat) := ops.mergeSort fun a b => decide (a.1 ≤ b.1)

/-- TAU `k` acts on its pin: the actions of this tick apply in ascending TAU index from the level before it (R107). -/
def firePin (s : State) (k : Nat) : State :=
  let arg := (tauOf s k).arg.toNat
  let x := tget ({} : TaPin) s.tau.ta (arg % 8)
  let again : Bool := x.tick == s.mono && !x.ops.isEmpty
  let ops := (if again then x.ops else []) ++ [(k, arg / 16 % 4)]
  let base := if again then x.base else x.level
  let y := (pinOrder ops).foldl (fun y o => pinOp s.mono o.2 (pinWidth s o.1) y) { x with level := base }
  { s with tau := { s.tau with ta := tset {} s.tau.ta (arg % 8) { y with tick := s.mono, base := base, ops := ops } } }

/-- Another TAU acts on the same pin at this tick (R107). -/
def pinCollides (s : State) (k : Nat) : Bool :=
  let arg := (tauOf s k).arg.toNat
  let x := tget ({} : TaPin) s.tau.ta (arg % 8)
  (x.tick == s.mono && !x.ops.isEmpty) || othersDue s k fun r => r.target == 1 && r.arg.toNat % 8 == arg % 8

/-! ## Frames and slots -/

/-- The bytes of a frame buffer as a frame: MACs, an optional tag, EtherType, and what follows. -/
def frameOf (b : Bytes) : Frame :=
  let tagged : Bool := beNum (bytesAt b 12 2) == 0x8100
  let o := if tagged then 16 else 12
  { dst := BitVec.ofNat 48 (beNum (bytesAt b 0 6)), src := BitVec.ofNat 48 (beNum (bytesAt b 6 6))
    vlan := if tagged then some { vid := beNum (bytesAt b 14 2) % 4096, pcp := beNum (bytesAt b 14 2) / 8192 } else none
    etype := beNum (bytesAt b o 2), subtype := (b.getD (o + 2) 0).toNat, rtag := none, rct := none, len := max 64 b.length
    fcsOk := true, gptpDomain := none, payload := b.drop (o + 2) }

/-- A frame buffer's frame enters the head of a class queue (Table 4-1), from port 100; on a CAN port it is a record. -/
def launchFrame (s : State) (p cls owner : Nat) (b : Bytes) : State :=
  let f := if portKind p = .can then { frameOf [] with etype := 0, len := b.length, payload := b } else frameOf b
  let k := s.fab.nextId
  let s := brineAndQueue s 100 { cls := cls, tenant := owner, stream := none, conforming := false, vid := frameVid s 100 f
                                 frame := f, ports := [p] } false
  let q := queueOf s p cls
  if q.contains k then
    { s with fab := { s.fab with queues := tset [] s.fab.queues (p * 8 + cls) (k :: q.filter (· != k)) } }
  else s

/-- FRAME. -/
def fireFrame (s : State) (r : TauRec) : State :=
  launchFrame s (r.arg.toNat % 256) (r.arg.toNat / 256 % 8) (r.owner.getD 0) (r.buffer.getD [])

/-- CAPTURE: a window opens on the TC pin; one still open there ends. -/
def fireCapture (s : State) (k : Nat) (r : TauRec) : State :=
  let pin := r.arg.toNat % 8
  let w : CapWin := { tau := k, edges := r.arg.toNat / 16 % 4, endAt := s.mono + r.arg.toNat / 256 * 1000, wyt := r.wyt, stamps := [] }
  let old := tget none s.tau.caps pin
  { s with tau := { s.tau with
      caps := tset none s.tau.caps pin (some w)
      captured := if old.isSome then tset none s.tau.captured pin old else s.tau.captured } }

/-! ## Sluice banks (R130, R133) -/

/-- The css windows of a bank that may be empty: the stretches of its cycle under css entries and not, as the list runs: cut at
cycle_time, its last entry held until the cycle ends, and adjacent entries of one kind joined (R129). -/
def bankWindows (b : Option SluiceBank) : List (Bool × Nat) :=
  match b with
  | some k =>
    let runs := joinRuns ((cutSteps k.cycleTime (k.entries.map fun e => ((if e.css then 0x80 else 0), e.interval)) 0).map
      fun e => (bitAt e.1 7, e.2))
    if runs.any Prod.fst then runs else []
  | none => []

/-- Activating bank `b` of a port at TRT instant `t` would move its TC7 windows while CSS is not STOPPED (R130). -/
def bankMoves (s : State) (p b t : Nat) : Bool :=
  let x := tget ({} : Sluice) s.fab.sluices p
  let a := bankWindows (bankOf x x.active)
  let n := bankWindows (bankOf x b)
  s.css.state != .stopped && (!a.isEmpty || !n.isEmpty)
    && (a != n || (t - s.css.origin) % (max 1 (panNs s)) != 0 || decide (t < s.css.origin))

/-- A bank becomes active at TRT instant `t`: its first entry starts, queued frames are tested again. -/
def bankSwitch (s : State) (p b t : Nat) : State :=
  let x := tget ({} : Sluice) s.fab.sluices p
  let s := { s with fab := { s.fab with
      sluices := tset {} s.fab.sluices p { x with active := b, start := t, cycle := 0, entry := 0, tc6Bytes := 0 } } }
  retestPort (applyGates s p) p

/-- The ports a SLUICE_BANK action names. -/
def bankPorts (arg : Word) : List Nat := if arg.toNat % 256 = 255 then List.range 96 else [arg.toNat % 256]

/-- SLUICE_BANK: all its ports, or none. -/
def fireBank (s : State) (k : Nat) (r : TauRec) : State :=
  let b := b2n (bitAt r.arg 8)
  let t := if r.wyt then trtNs s else r.fire / 2 ^ 16
  if (bankPorts r.arg).any fun p => bankMoves s p b t then tauAbort s k 7
  else tauFired ((bankPorts r.arg).foldl (fun s p => bankSwitch s p b t) s) k false

/-! ## Safe outputs (R106, R107) -/

/-- A withdraw for output `n` acts at this tick: it has, or its TAU is due. -/
def withdrawnNow (s : State) (k n : Nat) : Bool :=
  (match tget none s.tau.lastRelease n with
    | some (m, _, grant) => m == s.mono && !grant
    | none => false)
  || othersDue s k fun r => r.target == 5 && r.arg.toNat % 8 == n && !bitAt r.arg 8

/-- What was presented to the safety channels last for an output. -/
def presented (s : State) (k n : Nat) (grant : Bool) : State :=
  { s with tau := { s.tau with lastRelease := tset none s.tau.lastRelease n (some (s.mono, k, grant)) } }

/-- SAFE_RELEASE. Where a channel refuses, a half that the other raised before is withdrawn too (R106). -/
def fireRelease (s : State) (k : Nat) (r : TauRec) : State :=
  let n := r.arg.toNat % 8
  if !bitAt r.arg 8 then tauFired (releaseWithdraw (presented s k n false) n) k false
  else if withdrawnNow s k n then tauAbort s k 10
  else
    match releaseGrant (presented s k n true) n with
    | some s => tauFired s k false
    | none => tauAbort (releaseWithdraw (presented s k n true) n) k 6

/-! ## The instant -/

/-- HARVEST of the device: the bank is filled with the counters at T_h (R190). -/
def fireHarvest (s : State) (k : Nat) : State :=
  let b := k - 60
  match (tget ({} : HarvestBank) s.ports.banks b).next with
  | none => tauFinish s k true 0 false 0
  | some (t, a) => tauFinish (harvestFill s b t a (trtNs s) (!trtValid s)) k true 0 false 0

/-- SLOT_COMMIT: a commit of producer 0x102 (R75, R96). -/
def fireSlot (s : State) (k : Nat) (r : TauRec) : State :=
  let c := commitSlot s (r.arg.toNat % 65536) prodTau (r.buffer.getD [])
  if c.1 = .ok then tauFired c.2 k false else tauFailed s k

/-- The target of a TAU driven at its instant (Table 4-1). -/
def driveTau (s : State) (k : Nat) : State :=
  let r := tauOf s k
  match r.target with
  | 1 =>
    let c := pinCollides s k
    tauFired (firePin s k) k c
  | 2 => tauFired (fireFrame s r) k false
  | 3 => fireSlot s k r
  | 4 => tauFired (fireCapture s k r) k false
  | 5 => fireRelease s k r
  | 6 => aliasEpoch (tauFired s k false) (b2n (bitAt r.arg 0))
  | 7 => fireBank s k r
  | _ =>
    if r.target = targetHarvest then fireHarvest s k
    else sleepFire (tauFinish s k true 0 false 0)

/-- A commit-gated TAU that has aborted, and whose report waits for T_fire (R108). -/
def sealDue (s : State) (k : Nat) : Bool := s.tau.surveyQueue.any fun e => e.tau == k && !e.sealed

/-- TAU_FIRE: time passes to T_fire; a WYT action whose WYT is invalid aborts with NO_TIME (R100, R113). The report of an
action that aborted before takes its fields then (R108). -/
def fireTau (k : Nat) (s : State) : State :=
  let r := tauOf s k
  if !s.tms.tsValid then s
  else if !willFire r then if sealDue s k then surveySeal (untilScale s r.wyt r.fire) k else s
  else
    let s := untilScale s r.wyt r.fire
    if r.wyt && !wytValid s then tauAbort s k 5
    else if tauDrives s r then driveTau s k
    else tauFired s k false

end Sys2Proof.Machine
end

