-- ==== Sys2Proof/Machine/Tau.lean ====
section
/-! DEFINITION. The commands of the timed action units, commit tokens, surveys and the reception of slot frames (R74,
R79, R94 to R113). -/

namespace Sys2Proof.Machine

/-- TAU_FIRE (R100). -/
def execTauFire (tau : Nat) (s : State) : Out := .next (fireTau tau s)

/-! ## Pins -/

/-- PIN_PULSE_END (R96): time passes to the end of the pulse; the pin returns to the level it held before it. -/
def pulseEnd (pin : Nat) (s : State) : State :=
  let x := tget ({} : TaPin) s.tau.ta pin
  match x.pulse with
  | none => s
  | some (t, lvl) =>
    let s := untilMono s t
    { s with tau := { s.tau with ta := tset {} s.tau.ta pin { x with level := lvl, pulse := none } } }

/-- See `pulseEnd`. -/
def execPinPulseEnd (pin : Nat) (s : State) : Out := .next (pulseEnd pin s)

/-- CAPTURE_EDGE (R96): an edge inside an open window is stamped, up to 16. -/
def captureStamp (pin : Nat) (rising : Bool) (s : State) : State :=
  match tget none s.tau.caps pin with
  | none => s
  | some w =>
    if s.mono < w.endAt ∧ w.stamps.length < 16 ∧ (w.edges = 3 ∨ w.edges = (if rising then 1 else 2)) then
      let w' := { w with stamps := w.stamps ++ [(word (scaleNs s w.wyt), rising)] }
      { s with tau := { s.tau with caps := tset none s.tau.caps pin (some w') } }
    else s

/-- See `captureStamp`. -/
def execCaptureEdge (pin : Nat) (rising : Bool) (s : State) : Out := .next (captureStamp pin rising s)

/-- CAPTURE_WINDOW_END (R96): time passes to its end; no further edges are stamped. -/
def captureEnd (pin : Nat) (s : State) : State :=
  match tget none s.tau.caps pin with
  | none => s
  | some w =>
    let s := untilMono s w.endAt
    { s with tau := { s.tau with
        caps := tset none s.tau.caps pin none, captured := tset none s.tau.captured pin (some w) } }

/-- See `captureEnd`. -/
def execCaptureWindowEnd (pin : Nat) (s : State) : Out := .next (captureEnd pin s)

/-! ## Tokens (R102 to R105) -/

/-- COMMIT_DEADLINE (R100): time passes to T_commit; a TAU still ARMED aborts with NO_COMMIT. -/
def deadline (k : Nat) (s : State) : State :=
  let r := tauOf s k
  if s.tms.tsValid && r.state == .armed && r.mode == .gated then tauAbort (untilScale s r.wyt (r.commitAt * 65536)) k 1 else s

/-- See `deadline`. -/
def execCommitDeadline (tau : Nat) (s : State) : Out := .next (deadline tau s)

/-- The CMAC of a token verifies under the key slot armed with the action (R102, R104). -/
def tokenSigned (s : State) (r : TauRec) (t : Token) : Bool :=
  t.keySlot == r.keySlot && (tget none s.tau.keys r.keySlot).isSome
    && tauCmac s r.keySlot (cmacPrefix s r.wayside ++ tokenBytes t) == t.cmac

/-- A token names the armed issuer and the seconds and ns of the armed instants, each exactly (R102). -/
def tokenMatches (r : TauRec) (t : Token) : Bool :=
  t.fireSec == r.fire / 2 ^ 16 / 1000000000 && t.fireNs == r.fire / 2 ^ 16 % 1000000000
    && t.commitSec == r.commitAt / 1000000000 && t.commitNs == r.commitAt % 1000000000 && t.issuerId == r.issuer

/-- The tests of R102 but for delivery; T_commit still lies ahead. -/
def tokenOk (s : State) (r : TauRec) (t : Token) : Bool :=
  tokenSigned s r t && (t.decision == 1 || t.decision == 2) && t.actionId == r.actionId && tokenMatches r t
    && decide (scaleRaw s r.wyt < r.commitAt * nsRaw)

/-- A token that fails a test: counted, and noticed where its CMAC and action_id are right and its instants or issuer are
not (R102). -/
def tokenReject (s : State) (k : Nat) (t : Token) : State :=
  let r := tauOf s k
  let s := putTau s k { r with rejects := sat32 (r.rejects + 1) }
  if tokenSigned s r t && t.actionId == r.actionId && !tokenMatches r t then tauEvent s k 3 0 2 (scaleNs s r.wyt) else s

/-- The first accepted token decides: COMMITTED, or ABORTED with CANCELLED; a later opposite one is ignored and
recorded (R100, R102). -/
def tokenAccept (s : State) (k : Nat) (t : Token) (line : Nat) : State :=
  let r := tauOf s k
  let r := { r with lines := setBit r.lines line true
                    tokenAt := if r.tokenAt.isNone then some (word (scaleNs s r.wyt)) else r.tokenAt }
  if r.verdict = 0 ∧ r.state = .armed then
    let s := putTau s k { r with verdict := t.decision }
    if t.decision = 1 then putTau s k { r with verdict := 1, state := .committed } else tauAbort s k 2
  else
    let s := putTau s k r
    if r.verdict ≠ 0 ∧ r.verdict ≠ t.decision then
      report s 0x4001 (leBytes 1 k ++ leBytes 1 r.verdict ++ leBytes 4 r.actionId.toNat)
    else s

/-- A token delivered to TAU `k` on line 0 A, 1 B or 2 wayside (R102). One that a window delivers to a TAU armed with a
wayside source fails the delivery test. -/
def tokenIn (s : State) (k : Nat) (t : Token) (line : Nat) : State :=
  let r := tauOf s k
  if r.mode ≠ .gated ∨ r.state = .idle ∨ (line = 2 ∧ ¬ r.wayside) then s
  else if line ≠ 2 ∧ r.wayside then tokenReject s k t
  else if tokenOk s r t then tokenAccept s k t line
  else tokenReject s k t

/-- A second copy of a token, from the other line: only its line is noted (Table 4-7). -/
def tokenLine (s : State) (k : Nat) (t : Token) (line : Nat) : State :=
  let r := tauOf s k
  if r.mode = .gated ∧ r.state ≠ .idle ∧ ¬ r.wayside ∧ tokenOk s r t then
    putTau s k { r with lines := setBit r.lines line true }
  else s

/-- A wayside token on WL0: offered to every TAU armed with a wayside source. -/
def waysideIn (s : State) (t : Token) : State :=
  (s.tau.units.map Prod.fst).foldl (fun s k => tokenIn s k t 2) s

/-! ## Surveys (R108, R109) -/

/-- The CMAC of a report verifies under the key slot armed with the action. -/
def surveySigned (s : State) (r : TauRec) (x : Survey) : Bool :=
  tauCmac s r.keySlot (cmacPrefix s false ++ surveyBytes x) == x.cmac && (tget none s.tau.keys r.keySlot).isSome

/-- A report delivered to the issuer's TAU while its survey is open: kept once per reporter. -/
def surveyIn (s : State) (k : Nat) (x : Survey) : State :=
  let r := tauOf s k
  if r.surveyOpen && x.actionId == r.actionId && surveySigned s r x && !(r.reports.any fun y => y.reporterId == x.reporterId) then
    putTau s k { r with reports := r.reports ++ [x] }
  else s

/-- Counts of a survey: fired, aborted, missing, extra (R109). -/
def surveyCounts (r : TauRec) : Nat × Nat × Nat × Nat :=
  let n := r.reports.length
  ((r.reports.filter fun x => x.outcome == 1).length, (r.reports.filter fun x => x.outcome == 2).length
  , r.expected - n, n - r.expected)

/-- The outcome of a survey (R109): 0 COMPLETE, 1 NONE, 2 PARTIAL. The spec names the outcomes and numbers none: the codes are the
model's (DESIGN CHOICE, log 16). -/
def surveyOutcome (r : TauRec) : Nat :=
  let c := surveyCounts r
  if c.1 = r.expected then 0 else if c.1 = 0 ∧ c.2.2.1 = 0 then 1 else 2

/-- SURVEY_CLOSE (R109): time passes to T_fire + survey_span pans; the issuer's tenant receives survey_closed. -/
def surveyEnd (k : Nat) (s : State) : State :=
  let r := tauOf s k
  if s.tms.tsValid && r.surveyOpen then
    let s := untilScale s r.wyt (r.fire + r.surveySpan * panNs s * 65536)
    let r := tauOf s k
    let s := putTau s k { r with surveyOpen := false }
    let c := surveyCounts r
    match r.owner with
    | some o =>
      event s o 2 (leBytes 1 k ++ leBytes 1 (surveyOutcome r) ++ leBytes 2 c.1 ++ leBytes 2 c.2.1 ++ leBytes 2 c.2.2.1
        ++ leBytes 2 c.2.2.2 ++ leBytes 4 r.actionId.toNat)
    | none => s
  else s

/-- See `surveyEnd`. -/
def execSurveyClose (tau : Nat) (s : State) : Out := .next (surveyEnd tau s)

/-! ## Slot frames (R74, R77, R79) -/

/-- The pan start a received frame's pan has, where it is this pan or the next. -/
def panStartOf (s : State) (pan : Word) : Option Nat :=
  if pan = s.css.pan then some s.css.panStart
  else if pan = s.css.pan + 1 then some (s.css.panStart + panNs s) else none

/-- A copy of window `w` is valid (R74). -/
def copyValid (s : State) (w : RxWin) (f : CssHdr) : Bool :=
  match panStartOf s f.pan with
  | none => false
  | some start =>
    let g := s.css.guardEff
    let sched := start + w.offset * 10
    f.fcsOk && hdrValid s f && f.domainEpoch == s.tms.domainEpoch && winActive w f.pan
      && decide (sched * nsRaw < s.tms.trt + g * nsRaw) && decide (s.tms.trt < (start + w.close * 10) * nsRaw)
      && decide ((f.txNs - word sched).toInt.natAbs ≤ g)

/-- The first valid copy goes to the window's delivery target (R73, R79, R293, R102, R109). -/
def winDeliver (s : State) (i : Nat) (w : RxWin) (port : Nat) (f : CssFrame) : State :=
  let d := bodyBytes f.body
  match w.delivery / 1024 with
  | 1 => steerTo s (w.delivery % 1024) port fun q =>
      { queue := q, held := none, ingress := port, cls := 7, css := true, index := i, trt := stamp32 (rxTrt s port)
        wyt := wytStamp32 s port (rxWyt s port), pan := f.hdr.pan, epoch := s.tms.trtEpoch, data := d, len := d.length }
  | 2 => match f.body with
    | .data .. => pdLay s (groupVars s i (w.delivery % 1024)) d
    | _ => s
  | 3 => match f.body with
    | .token t => tokenIn s (w.delivery % 1024) t (b2n f.hdr.lineB)
    | .survey r => surveyIn s (w.delivery % 1024) r
    | _ => s
  | _ => s

/-- A valid copy at window `i`: the first is delivered, a later one discarded (R79, R80). -/
def winTake (s : State) (i : Nat) (w : RxWin) (port : Nat) (f : CssFrame) : State :=
  let first := !w.gotA && !w.gotB
  let s := modWin s i fun x => { x with gotA := x.gotA || !f.hdr.lineB, gotB := x.gotB || f.hdr.lineB }
  if first then
    let s := modWin s i fun x => { x with
      lastPan := f.hdr.pan.truncate 16, stale := false, line := f.hdr.lineB, validEver := true, age := 0
      value := bodyBytes f.body }
    winDeliver s i w port f
  else
    match w.delivery / 1024, f.body with
    | 3, .token t => tokenLine s (w.delivery % 1024) t (b2n f.hdr.lineB)
    | _, _ => s

/-- A copy that fails: the window's reject count (R74), which shows it from its close on (R92). -/
def winReject (s : State) (i : Nat) : State := modWin s i fun x => { x with rejNow := x.rejNow + 1 }

/-- The windows of a slot. -/
def windowsOf (s : State) (id : Nat) : List Nat :=
  (List.range s.css.windows.length).filter fun i => (s.css.windows[i]?).any fun w => w.slotId == id && !entryPoisoned s 5 (1024 + i)

/-- A slot frame at one of its windows. -/
def winCopy (port : Nat) (f : CssFrame) (s : State) (i : Nat) : State :=
  match s.css.windows[i]? with
  | none => s
  | some w => if copyValid s w f.hdr then winTake s i w port f else winReject s i

/-- A slot frame delivered on this node through port 100: while CSS runs here, to the windows of its slot; else counted. -/
def slotDeliver (s : State) (port : Nat) (f : CssFrame) : State :=
  let s := countSent s 100 (slotFrame f).len
  let ws := windowsOf s f.hdr.slotId
  if !integrated s || ws.isEmpty then rejectTotal s else ws.foldl (winCopy port f) s

/-- A whole slot frame on a BB port (R74, R77): forwarded along its line and delivered; a STOPPED node discards it, since its
TC7 gates are closed (R86, Table 3-6), and a subtype that is no slot frame is never forwarded. -/
def slotTake (port : Nat) (f : CssFrame) (s : State) : State :=
  match f.body with
  | .other _ => rejectTotal s
  | _ =>
    if !lineMatches port f.hdr ∨ s.css.state = .stopped then rejectTotal s
    else slotDeliver (forwardSlot s port f) port f

/-- A slot frame received: counted, and taken on a BB port; a wayside token comes on WL0 (R105). `bad` is the reason for which the
frame proves bad (R114, R120). -/
def cssFrameIn (port : Nat) (f : CssFrame) (bad : Option Nat) (s : State) : State :=
  let r := lineRoute s port (slotFrame f)
  match port, f.body with
  | 94, .token t =>
    if !(linkIsUp s 94 && s.tms.tsValid) then s
    else
      match bad with
      | some c => lineBad s port r c false
      | none => waysideIn (countRx s port r.frame) t
  | _, .other _ => cssReceive s port r bad false (slotTake port f)
  | _, _ => cssReceive s port r bad (slotCut s port r) (slotTake port f)

/-- CSS_FRAME_RECEIVE (R74). -/
def execCssFrameReceive (port : Nat) (f : CssFrame) (s : State) : Out := .next (cssFrameIn port f (fcsBad f.hdr) s)

/-- COMMIT_TOKEN_RECEIVE (R102). -/
def execCommitTokenReceive (port : Nat) (f : CssFrame) (s : State) : Out := .next (cssFrameIn port f (fcsBad f.hdr) s)

/-- SURVEY_REPORT_RECEIVE (R109). -/
def execSurveyReportReceive (port : Nat) (f : CssFrame) (s : State) : Out := .next (cssFrameIn port f (fcsBad f.hdr) s)

/-! ## TAU_ARM (R94, R96, R98, R99) -/

/-- A FRAME or SLUICE_BANK target names a reserved logical port (R8). -/
def armReserved (s : State) (a : TauArm) : Bool :=
  let p := a.arg.toNat % 256
  (a.target == 2 || (a.target == 7 && p != 255)) && portReserved s p

/-- The fields of the payload are within their forms (Table 4-9); the key slot is tested with the target (R99). -/
def armFormed (s : State) (a : TauArm) : Bool :=
  let issuerHere := a.issuerId == nodeUnit s
  decide (a.tau < 64 ∧ a.mode ≤ 2 ∧ a.timescale ≤ 1 ∧ a.fireNs < 1000000000 ∧ a.fireFrac < 65536
    ∧ a.commitNs < 1000000000 ∧ a.source ≤ 1 ∧ a.survey ≤ 1)
    && (a.mode != 1 || decide (1000 ≤ a.period ∧ a.period ≤ 4294967295))
    && (a.mode != 2 || a.survey == 0 || a.surveySpan == 0 || decide (2 ≤ a.surveySpan ∧ a.surveySpan ≤ 64))
    && (a.mode != 2 || a.survey == 0 ||
      (if issuerHere then decide (1 ≤ a.expected ∧ a.expected ≤ 256) else a.expected == 0))

/-- The target argument is in range and sets no reserved bit (Table 4-1). -/
def argOk (target arg : Nat) : Bool :=
  match target with
  | 1 => arg / 8 % 2 == 0 && arg / 64 % 4 == 0 && (arg / 16 % 4 != 3 || decide (1 ≤ arg / 256))
  | 2 => decide (arg < 2048 ∧ arg % 256 < 96 ∧ arg / 256 < 7)
  | 3 => decide (arg < 65536)
  | 4 => arg / 8 % 2 == 0 && arg / 64 % 4 == 0 && arg / 16 % 4 != 0
  | 5 => decide (arg < 512) && arg / 8 % 32 == 0
  | 6 => decide (arg < 2)
  | 7 => decide (arg < 512) && (decide (arg % 256 < 96) || arg % 256 == 255)
  | _ => false

/-- TAU_BAD_TARGET of R99. -/
def badTarget (s : State) (a : TauArm) : Bool :=
  let arg := a.arg.toNat
  !argOk a.target arg || (a.mode == 2 && (if a.source = 0 then decide (2 ≤ a.keySlot) else decide (a.keySlot < 2 ∨ 4 ≤ a.keySlot)))
    || (a.target == 1 && arg / 16 % 4 == 3 && a.mode == 1 && decide (a.period ≤ arg / 256 * 10))
    || ((a.target == 2 || a.target == 3) && (tauOf s a.tau).buffer.isNone)

/-- The right a target requires (Table 4-1): none where the caller has it. -/
def armDenied (s : State) (h : Hcp) (a : TauArm) : Option Nat :=
  if (56 ≤ a.tau ∧ a.tau < 64) ∨ (a.target = 5 ∧ ¬ s.otp.island) then some 0
  else if 5 ≤ a.target ∧ a.target ≤ 7 ∧ ¬ h.classC then some 0
  else if 6 ≤ a.target ∧ a.target ≤ 7 ∧ h.tenant ≠ 0 then some rRight
  else if a.target = 5 then (if hasRight s h.tenant 1 then none else some rRight)
  else if !hasRight s h.tenant 0 then some rRight
  else if a.target = 2 ∧ a.arg.toNat % 256 < 96 ∧ ¬ hasPort s h.tenant (a.arg.toNat % 256) then some rRight
  else none

/-- m = T_fire − T_commit outside its range (R99). -/
def badMargin (a : TauArm) : Bool :=
  let f := linNs a.fireSec a.fireNs * 65536 + a.fireFrac
  let c := linNs a.commitSec a.commitNs * 65536
  let lo := if a.source = 0 then 10000 * 65536 else 1000000 * 65536
  a.mode == 2 && (decide (f < c + lo) || decide (c + 1000000000 * 65536 < f))

/-- The first reason of R99 that applies. -/
def armRefused (s : State) (a : TauArm) : Option Nat :=
  let wyt := a.timescale == 1
  let now := scale16 s wyt
  let f := linNs a.fireSec a.fireNs * 65536 + a.fireFrac
  let c := linNs a.commitSec a.commitNs * 65536
  let late : Bool :=
    if a.mode ≠ 2 then decide (f < now + 20000 * 65536)
    else if a.source = 0 then decide (f < now + 2 * panNs s * 65536 + (f - c)) else decide (c < now + 5000000 * 65536)
  if badTarget s a then some 0x0105
  else if badMargin a then some 0x0103
  else if a.mode = 2 ∧ a.source = 0 ∧ ¬ (s.css.windows.any fun w => w.delivery == 3072 + a.tau) then some 0x0104
  else if wyt && !wytValid s then some 0x0109
  else if late then some 0x0101
  else if now + 3600000000000 * 65536 < f then some 0x0102
  else if (tauOf s a.tau).state ≠ .idle then some 0x0106
  else none

/-- TAU_ARM (R94 to R99): the NOT_PERMITTED cases come before every other test of its payload. -/
def execTauArm (h : Hcp) (a : TauArm) (s : State) : Out :=
  .next (runHcp { opcode := 0x0301 } h s fun s =>
    match armDenied s h a with
    | some r => fails s .notPermitted r
    | none =>
      if armReserved s a || !armFormed s a then fails s .invalidArgument 0
      else
        if !s.tms.tsValid then fails s .refused rNoTime
        else
          match armRefused s a with
          | some r => fails s .refused r
          | none =>
            let old := tauOf s a.tau
            let r := recOfArm s a h.tenant
            okay (putTau s a.tau { r with
              buffer := old.buffer, surveyOpen := r.mode == .gated && r.survey && a.issuerId == nodeUnit s }))

/-! ## The other commands of Table 4-8 -/

/-- TAU_CANCEL (R111). -/
def execTauCancel (h : Hcp) (tau : Nat) (s : State) : Out :=
  .next (runHcp { opcode := 0x0302 } h s fun s =>
    let r := tauOf s tau
    if 64 ≤ tau then fails s .invalidArgument 0
    else if 56 ≤ tau ∨ ¬ tauReadable s h.tenant tau then fails s .notPermitted rRight
    else if tauLive r ∧ 5 ≤ r.target ∧ ¬ h.classC then fails s .notPermitted 0
    else if !tauLive r then fails s .refused 0x0107
    else if r.state = .committed then fails s .refused 0x0108
    else if r.fire < scale16 s r.wyt + 1000 * 65536 then fails s .refused 0x0107
    else okay (tauAbort s tau 2))

/-- TAU_FRAME_LOAD (R96). -/
def execTauFrameLoad (h : Hcp) (tau : Nat) (data : Bytes) (s : State) : Out :=
  .next (runHcp { opcode := 0x0303 } h s fun s =>
    if 64 ≤ tau ∨ data.length = 0 ∨ 1522 < data.length then fails s .invalidArgument 0
    else if 56 ≤ tau then fails s .notPermitted rRight
    else if (tauOf s tau).state ≠ .idle then fails s .busy 0
    else okay (putTau s tau { tauOf s tau with buffer := some data }))

/-- The instant of the next fetch of slot `x`, linear ns (R75). -/
def nextFetch (s : State) (x : TxSlot) : Nat :=
  let first := s.css.panStart + x.offset * 10 - fetchNs
  let n := (List.range 130).find? fun n =>
    slotActive x (s.css.pan + BitVec.ofNat 32 n) && decide (trtNs s < first + n * panNs s)
  first + (n.getD 130) * panNs s

/-- The slot still carries a token whose T_commit lies ahead (R105). -/
def slotCarries (s : State) (x : TxSlot) : Bool :=
  match x.waiting with
  | some (.token t) => decide (trtNs s < commitTrt s t)
  | _ => false

/-- The first test of R105 that fails: status and reason. -/
def decideFault (s : State) (h : Hcp) (tau source keySlot slotId : Nat) : Option (Status × Nat) :=
  let r := tauOf s tau
  if r.mode ≠ .gated ∨ r.owner ≠ some h.tenant ∨ r.issuer ≠ nodeUnit s then some (.refused, 0x0105)
  else if r.state ≠ .armed ∨ r.decided ∨ r.commitAt * nsRaw ≤ scaleRaw s r.wyt then some (.refused, 0x0108)
  else if source ≠ b2n r.wayside ∨ keySlot ≠ r.keySlot ∨ (tget none s.tau.keys keySlot).isNone then some (.refused, 0x0105)
  else if r.wayside then none
  else
    match s.css.slots.find? fun x => x.slotId == slotId && x.kind == 1 with
    | none => some (.refused, 0x0105)
    | some x =>
      let c := if r.wyt then trtNs s + r.commitAt - wytNs s else r.commitAt
      if !integrated s || decide (c < nextFetch s x + panNs s) then some (.refused, 0x0101)
      else if slotCarries s x then some (.busy, 0)
      else none

/-- The token of a decision (Table 4-6). -/
def mkToken (s : State) (r : TauRec) (decision : Nat) : Token :=
  let t : Token :=
    { actionId := r.actionId, decision := decision, keySlot := r.keySlot
      fireSec := r.fire / 2 ^ 16 / 1000000000, fireNs := r.fire / 2 ^ 16 % 1000000000
      commitSec := r.commitAt / 1000000000, commitNs := r.commitAt % 1000000000, issuerId := r.issuer, cmac := 0 }
  { t with cmac := tauCmac s r.keySlot (cmacPrefix s r.wayside ++ tokenBytes t) }

/-- A decision accepted (R105): the token goes to its slot or the wayside store, and the decision applies to the issuer's
own TAU at once. -/
def decideTau (s : State) (tau slotId decision : Nat) : State :=
  let r := tauOf s tau
  let t := mkToken s r decision
  let s := if r.wayside then
      let w : WaysideTok := { token := t, commitAt := r.commitAt, wyt := r.wyt, nextAt := s.mono }
      { s with tau := { s.tau with tokens := tset none s.tau.tokens tau (some w) } }
    else
      match s.css.slots.findIdx? fun x => x.slotId == slotId && x.kind == 1 with
      | some i => modSlot s i fun x => { x with waiting := some (.token t) }
      | none => s
  let r := { r with decided := true, verdict := decision }
  if decision = 1 then putTau s tau { r with state := .committed } else tauAbort (putTau s tau r) tau 2

/-- A decision command (R105). -/
def decideCmd (h : Hcp) (tau source keySlot slotId decision : Nat) (s : State) : Answer :=
  if 64 ≤ tau then fails s .invalidArgument 0
  else
    match decideFault s h tau source keySlot slotId with
    | some e => fails s e.1 e.2
    | none => okay (decideTau s tau slotId decision)

/-- TAU_COMMIT (R105). -/
def execTauCommit (h : Hcp) (tau source keySlot slotId : Nat) (s : State) : Out :=
  .next (runHcp { opcode := 0x0304, classC := true } h s (decideCmd h tau source keySlot slotId 1))

/-- TAU_ABORT (R105). -/
def execTauAbort (h : Hcp) (tau source keySlot slotId : Nat) (s : State) : Out :=
  .next (runHcp { opcode := 0x0305, classC := true } h s (decideCmd h tau source keySlot slotId 2))

/-- WAYSIDE_TOKEN_REPEAT (R105): every 1 ms until T_commit − 1 ms the stored token is sent on WL0. -/
def waysideRepeat (tau : Nat) (s : State) : State :=
  match tget none s.tau.tokens tau with
  | none => s
  | some w =>
    let s := untilMono s w.nextAt
    if s.tms.tsValid && decide (scaleNs s w.wyt + 1000000 ≤ w.commitAt) then
      let s := if linkIsUp s 94 then emitPort s 94 (.wayside w.token) else s
      { s with tau := { s.tau with tokens := tset none s.tau.tokens tau (some { w with nextAt := s.mono + 1000000 }) } }
    else { s with tau := { s.tau with tokens := tset none s.tau.tokens tau none } }

/-- See `waysideRepeat`. -/
def execWaysideTokenRepeat (tau : Nat) (s : State) : Out := .next (waysideRepeat tau s)

/-- TAU_KEY_SET (R110). -/
def execTauKeySet (h : Hcp) (slot : Nat) (key : BitVec 128) (s : State) : Out :=
  .next (runHcp { opcode := 0x0306, classC := true, owner := true } h s fun s =>
    if 4 ≤ slot then fails s .invalidArgument 0
    else okay { s with
      tau := { s.tau with keys := tset none s.tau.keys slot (some key) }
      fw := { s.fw with confSeq := s.fw.confSeq + 1 } })

/-- The code of a TAU state: 0 IDLE, 1 ARMED, 2 COMMITTED, 3 SURVEY_WAIT. The spec gives no numbers: the model takes the order of
Table 4-4 (DESIGN CHOICE, log 16). -/
def tauCode : TauState → Nat
  | .idle => 0 | .armed => 1 | .committed => 2 | .surveyWait => 3

/-- The code of a TAU mode (Table 4-9). -/
def modeCode : TauMode → Nat
  | .oneShot => 0 | .periodic => 1 | .gated => 2

/-- TAU_STATUS (R95, R110). -/
def execTauStatus (h : Hcp) (tau : Nat) (s : State) : Out :=
  .next (runHcp { opcode := 0x0307 } h s fun s =>
    let r := tauOf s tau
    if 64 ≤ tau then fails s .invalidArgument 0
    else if !tauReadable s h.tenant tau then fails s .notPermitted rRight
    else okWith s (leBytes 1 (tauCode r.state) ++ leBytes 1 (modeCode r.mode) ++ leBytes 1 r.reason ++ [0]
      ++ leBytes 4 r.rejects ++ leBytes 8 (r.fire / 65536 / 1000000000) ++ leBytes 4 (r.fire / 65536 % 1000000000)
      ++ leBytes 2 (r.fire % 65536)))

/-- One reporter entry of TAU_SURVEY_READ. -/
def surveyEntry (x : Survey) : Bytes :=
  leBytes 8 x.reporterId.toNat ++ leBytes 1 x.outcome ++ leBytes 1 x.reason ++ leBytes 1 x.lines ++ leBytes 1 x.flags
    ++ leBytes 4 x.eventNs.toNat ++ leBytes 4 x.tokenNs.toNat ++ leBytes 1 x.car ++ leBytes 1 x.role ++ leBytes 1 x.hops ++ [0]

/-- TAU_SURVEY_READ (R95, R109). -/
def execTauSurveyRead (h : Hcp) (tau first : Nat) (s : State) : Out :=
  .next (runHcp { opcode := 0x0308 } h s fun s =>
    let r := tauOf s tau
    let c := surveyCounts r
    if 64 ≤ tau then fails s .invalidArgument 0
    else if !tauReadable s h.tenant tau then fails s .notPermitted rRight
    else okWith s (leBytes 2 c.1 ++ leBytes 2 c.2.1 ++ leBytes 2 c.2.2.1 ++ leBytes 2 c.2.2.2
      ++ leBytes 1 (surveyOutcome r) ++ [0, 0, 0] ++ ((r.reports.drop first).take 16).flatMap surveyEntry))

end Sys2Proof.Machine
end

