-- ==== Sys2Proof/Machine/Ingress.lean ====
section
/-! DEFINITION. FRAME_INGRESS: the frames of a fabric cycle as they arrive, those of the Cyclic Slot Service handed to it
(R76, R77, R105, R114). -/

namespace Sys2Proof.Machine

/-- A frame for the CSS engine: EtherType 0x88B5 on a BB port but for a link timing message, or a wayside commit token on
WL0 (R76, R115). -/
def cssKind (x : Ingress) : Bool :=
  x.frame.etype == 0x88B5
    && ((decide (x.port < 4) && x.frame.subtype != 0x20)
      || (x.port == 94 && x.frame.subtype == 4 && x.frame.dst == 0x034256FFFF05))

/-- A header with the source address of its frame. -/
def fromFrame (h : CssHdr) (f : Frame) : CssHdr := { h with src := f.src }

/-- A frame for the CSS engine, read from its bytes (Tables 3-3 to 3-5, 4-6 and 4-7): cycle-starts and cold-starts outside
sluice control, slot frames, and other subtypes, which are counted and discarded and never forwarded. -/
def cssIngress (s : State) (x : Ingress) : State :=
  let f := x.frame
  if !portReceives s x.port then s
  else
  let s := countPhy s x.port x.phy
  if f.len < 64 then countPort s x.port 11 1
  else
    let s := readFinds s x
    let bad := badReason s x
    match f.subtype with
    | 1 =>
      let c := readCycleStart f.fcsOk f.payload
      cycleStartEffect x.port { c with hdr := fromFrame c.hdr f } bad s
    | 2 =>
      let c := readColdStart f.fcsOk f.payload
      coldStartEffect x.port { c with hdr := fromFrame c.hdr f } bad s
    | n =>
      let c := readSlot f.fcsOk n f.payload
      cssFrameIn x.port { c with hdr := fromFrame c.hdr f } bad s

/-- FRAME_INGRESS (R114). -/
def execFrameIngress (fs : List Ingress) (s : State) : Out :=
  .next (ingressEffect (fs.filter fun x => !cssKind x) ((fs.filter cssKind).foldl cssIngress s))

end Sys2Proof.Machine
end

