-- ==== Sys2Proof/Machine/Legacy.lean ====
section
/-! DEFINITION. Legacy bridge and Process Data Store: the MVB, WTB and TRDP commands and the host commands of Table 9-9
(R222 to R231, R243). -/

namespace Sys2Proof.Machine

/-! ## Bit fields of a bus port -/

/-- The bits of a string of bytes, most significant first (DESIGN CHOICE, log). -/
def bitsOf (b : Bytes) : List Bool := b.flatMap fun x => (List.range 8).map fun i => x.getLsbD (7 - i)

/-- Bits packed into bytes, most significant first, the last byte filled with zeros. -/
def packBits (l : List Bool) : Bytes :=
  (List.range ((l.length + 7) / 8)).map fun k =>
    BitVec.ofNat 8 ((List.range 8).foldl (fun a i => 2 * a + b2n (l.getD (8 * k + i) false)) 0)

/-- The field of `n` bits at bit `o` of a bus port; none where the port is shorter. -/
def fieldGet (d : Bytes) (o n : Nat) : Option Bytes :=
  if 8 * d.length < o + n then none else some (packBits (((bitsOf d).drop o).take n))

/-- A bus port's data with the field of `n` bits at bit `o` replaced. -/
def fieldPut (d : Bytes) (o n : Nat) (v : Bytes) : Bytes :=
  let b := bitsOf d
  packBits (b.take o ++ (List.range n).map (fun i => (bitsOf v).getD i false) ++ b.drop (o + n))

/-! ## Map entries (R230, Table 9-3) -/

/-- The table of a bus: MVB0 to MVB3, WTB with MVB3's table (R228). -/
def busTable : Bus → Nat
  | .mvb n => n
  | .wtb => 3

/-- The key of a map entry. -/
def mapKey (b : Bus) (idx : Nat) : Nat := busTable b * 4096 + idx

/-- A bus the device has. -/
def busOk : Bus → Bool
  | .mvb n => decide (n < 4)
  | .wtb => true

/-- The map entries in force: applied, their word not poisoned (Table 1-5), with their keys. -/
def liveMap (s : State) : List (Nat × MapRec) :=
  (s.lgb.map.filterMap fun e => e.2.map fun r => (e.1, r)).filter fun e => e.2.applied && !entryPoisoned s 7 e.1

/-- A map entry changed. -/
def modMap (s : State) (k : Nat) (f : MapRec → MapRec) : State :=
  { s with lgb := { s.lgb with map := tmod none s.lgb.map k fun o => o.map f } }

/-- The period of a map entry's bus port in ns. -/
def busNs (s : State) (e : MapEntry) : Nat :=
  match e.bus with
  | .mvb _ => e.busPeriod * 1000000
  | .wtb => s.lgb.wtb.inForce * 1000000

/-- The period of a CSS slot in ns. -/
def slotNs (s : State) (id : Nat) : Nat :=
  match (slotIndex s id).bind fun i => s.css.slots[i]? with
  | some x => panNs s * 2 ^ x.periodLog2
  | none => panNs s

/-- The period of an entry's Ethernet side in ns. -/
def ethNs (s : State) (e : MapEntry) : Nat :=
  match e.ethKind with
  | .none => 0
  | .trdp => e.ethPeriod * 1000000
  | .cssSlot => slotNs s e.slotId

/-- The period at which a variable is written in ns, as far as the spec gives its writer one: that of the bus entry or of
the window that writes it (R231; DESIGN CHOICE, log, for the others). -/
def writerNs (s : State) (v : Nat) : Nat :=
  match (pdVar s v).writer with
  | some (.legacyBus b i) =>
    match tget none s.lgb.map (mapKey b i) with
    | some r => busNs s r.entry
    | none => 0
  | some (.cssWindow w) => match s.css.windows[w]? with | some x => panNs s * 2 ^ x.periodLog2 | none => 0
  | _ => 0

/-- The effective period of an entry's Ethernet destination (R231). -/
def ethEff (s : State) (e : MapEntry) : Nat := max (writerNs s e.var) (ethNs s e)

/-- The effective period of a sink entry's bus port (R231). -/
def busEff (s : State) (e : MapEntry) : Nat := max (writerNs s e.var) (busNs s e)

/-- stale_timeout in ms: as given, or 3 times the slower side's period (Table 9-3). -/
def staleMs (s : State) (e : MapEntry) : Nat :=
  if e.staleTimeout ≠ 0 then e.staleTimeout else (3 * max (busNs s e) (ethNs s e) + 999999) / 1000000

/-- The timeout of a variable: the shortest its map entries in force set (DESIGN CHOICE, log, where they differ). -/
def setTimeout (s : State) (v : Nat) : State :=
  let ts := ((s.lgb.map.filterMap Prod.snd).filter fun r => r.applied && r.entry.var == v).map fun r => staleMs s r.entry
  putVar s v { pdVar s v with timeout := ts.foldl (fun a t => some (match a with | none => t | some b => min b t)) none }

/-- A map entry after the macrocycle of bus `b`: one set for it since comes into force with counts of its own (R230). -/
def mapApplied (s : State) (b : Bus) (r : MapRec) : MapRec :=
  match r.next with
  | some e =>
    if e.bus == b then
      { entry := e, applied := true, superseded := 0, staleCount := 0, mismatch := 0, carried := (pdVar s e.var).seq
        pubAt := s.mono, busAt := s.mono }
    else r
  | none => if r.entry.bus == b && !r.applied then { r with applied := true, pubAt := s.mono, busAt := s.mono } else r

/-- The entries of a bus come into force at its macrocycle, and with them their stale timeouts (R230). -/
def applyMap (s : State) (b : Bus) : State :=
  let rs := (s.lgb.map.filterMap Prod.snd).filter fun r => decide (mapApplied s b r ≠ r)
  let vs := rs.map (fun r => r.entry.var) ++ rs.map (fun r => (mapApplied s b r).entry.var)
  vs.foldl setTimeout { s with lgb := { s.lgb with map := tmap none s.lgb.map fun _ o => o.map (mapApplied s b) } }

/-! ## Values from a bus -/

/-- One source entry takes its field from a bus port: to its variable if the entry is the writer, else discarded and
counted (R223). -/
def takeField (s : State) (d : Bytes) (k : Nat) (e : MapEntry) : State :=
  match fieldGet d e.bitOffset e.bitLen with
  | none => s
  | some v =>
    let w := Writer.legacyBus e.bus (k % 4096)
    if (pdVar s e.var).writer = some w then pdCommit s e.var (bytesAt v 0 (pdVar s e.var).len)
    else
      let s := modMap s k fun r => { r with mismatch := sat32 (r.mismatch + 1) }
      let s := match e.bus with
        | .mvb n => { s with lgb := { s.lgb with
            mvb := tmod {} s.lgb.mvb n fun p => { p with mismatch := sat32 (p.mismatch + 1) } } }
        | .wtb => s
      pdMismatch s e.var w

/-- Process data of a bus address reaches the source entries that name it. -/
def busData (s : State) (b : Bus) (x : BusData) : State :=
  (liveMap s).foldl (fun s e =>
    if e.2.entry.bus == b && e.2.entry.source && e.2.entry.busAddr == x.addr then takeField s x.data e.1 e.2.entry else s) s

/-- MVB port `n`. -/
def mvbOf (s : State) (n : Nat) : MvbPort := tget {} s.lgb.mvb n

/-- MVB port `n` written. -/
def putMvb (s : State) (n : Nat) (x : MvbPort) : State := { s with lgb := { s.lgb with mvb := tset {} s.lgb.mvb n x } }

/-- MVB port `n` is there and its bus runs. -/
def mvbRuns (s : State) (n : Nat) : Bool := decide (n < 4) && linkIsUp s (88 + n)

/-- A receiver that listens to one of two lines hears a frame that arrived well on that line. -/
def lineHears (lineB : Bool) (x : BusData) : Bool := if lineB then x.onB else x.onA

/-- The line listened to after a frame: the other one where the frame arrived well on that only (Table 9-2: switch-over as the
standard defines; PRESUMED, log). -/
def lineAfter (lineB : Bool) (x : BusData) : Bool := if !lineHears lineB x && (x.onA || x.onB) then !lineB else lineB

/-- Process data seen on MVB port `n`, from the line it listens to. -/
def mvbData (n : Nat) (s : State) (x : BusData) : State :=
  let b := (mvbOf s n).lineB
  let s := putMvb s n { mvbOf s n with lineB := lineAfter b x }
  if lineHears b x then busData (countGot s (88 + n) x.data.length false) (.mvb n) x else s

/-- The master frames of basic period `c`: each address every 2^log2 ms, at least every basic period (Table 9-2; their place in
the macrocycle is the model's, DESIGN CHOICE, log). -/
def mvbDue (p : MvbPort) (c : Nat) : List MasterFrame := p.list.filter fun f => c % max 1 (2 ^ f.log2 * 1000 / p.basicUs) == 0

/-- The administrator to whom mastership goes next: the one after this device among the others, in their order (Table 9-2). -/
def nextAdmin (p : MvbPort) : Option Nat :=
  let others := p.admins.filter (· ≠ p.device)
  match others.find? fun a => decide (p.device < a) with
  | some a => some a
  | none => others.head?

/-- A number of one-line frames of 2 B sent on MVB port `n`: each counted (R187). -/
def mvbSends (s : State) (n : Nat) (xs : List Sent) : State :=
  xs.foldl (fun s x => emit (countSent s (88 + n) 2 false) x) s

/-- MVB_MACROCYCLE (R227, R230): a basic period after the last; new map entries come into force, the administrator that holds
the mastership polls what is due and at the macrocycle's end (1024 ms) offers it to the next; one that finds the bus silent
takes it (PRESUMED from the standard, log). The process data seen on the bus is taken. -/
def macrocycle (n : Nat) (polled : List BusData) (s : State) : State :=
  if !mvbRuns s n then s
  else
    let s := untilMono s ((mvbOf s n).at_ + (mvbOf s n).basicUs * 1000)
    let p := mvbOf s n
    let s := applyMap (putMvb s n { p with
      cycle := p.cycle + 1, at_ := s.mono, master := p.administrator && (p.master || polled.isEmpty) }) (.mvb n)
    let last := decide ((p.cycle + 1) * p.basicUs % 1024000 = 0)
    let offer := if last then (nextAdmin p).toList.map fun a => .mvbOffer (88 + n) a else []
    let s := if p.administrator && p.master then
        mvbSends s n ((mvbDue p p.cycle).map (fun f => .mvbPoll (88 + n) f.addr) ++ offer) else s
    polled.foldl (mvbData n) s

/-- See `macrocycle`. -/
def execMvbMacrocycle (port : Nat) (polled : List BusData) (s : State) : Out := .next (macrocycle port polled s)

/-- MVB_FRAME_RECEIVE (R227, R233): process data, the answer of a far target's module, a device status; a status request for
this device is answered, with a word the spec does not give; an administrator takes the mastership offered to it, and one whose
offer is accepted gives it up. -/
def mvbReceive (n : Nat) (f : MvbFrame) (s : State) : State :=
  if !mvbRuns s n then s
  else
    let p := mvbOf s n
    match f with
    | .process x => mvbData n s x
    | .far t r => if (farOf s t).cfg.any fun c => c.port == 88 + n then responseReceive t r s else s
    | .status a v => putMvb s n { p with devStatus := tset 0 p.devStatus a v }
    | .statusRequest d =>
      if d = p.device then
        let v := draw s
        mvbSends v.2 n [.mvbStatus (88 + n) d (BitVec.ofNat 16 v.1)]
      else s
    | .offer d =>
      if d = p.device ∧ p.administrator then mvbSends (putMvb s n { p with master := true }) n [.mvbAccept (88 + n) d] else s
    | .accept d => if d ≠ p.device then putMvb s n { p with master := false } else s

/-- See `mvbReceive`. -/
def execMvbFrameReceive (port : Nat) (f : MvbFrame) (s : State) : Out := .next (mvbReceive port f s)

/-- The WTB node written. -/
def putWtb (s : State) (x : WtbNode) : State := { s with lgb := { s.lgb with wtb := x } }

/-- The port on whose side of this node a node lies: WTB0, direction 1, for the negative positions, else WTB1 (PRESUMED from
the standard, log). -/
def wtbPort (node : Int) : Nat := if node < 0 then 92 else 93

/-- WTB_INAUGURATION (R228): run by MGP firmware, it waits while that does not run; the nodes then present are named by their
positions relative to this one, −31 to +31, and nothing has come from them yet. A slave is never master, a weak node not beside a
strong one; a node that is not master takes the period its master sets. -/
def wtbInaug (o : WtbOutcome) (nodes : List Int) (s : State) : State :=
  let w := s.lgb.wtb
  let master := o.master && w.role != .slave && !(w.role == .weak && o.strong)
  if !s.glob.fwReady || !(linkIsUp s 92 || linkIsUp s 93) then s
  else putWtb s { w with
    inaugurated := true, master := master, inForce := if master || o.periodMs == 0 then w.periodMs else o.periodMs, rx := []
    nodes := nodes.filter fun n => decide (-31 ≤ n ∧ n ≤ 31) }

/-- See `wtbInaug`. -/
def execWtbInauguration (o : WtbOutcome) (nodes : List Int) (s : State) : Out := .next (wtbInaug o nodes s)

/-- WTB_DATA_RECEIVE (R228): up to 128 B of a node of the present inauguration, heard on the line its side listens to, reach the
entries of its position. -/
def wtbReceive (s : State) (x : BusData) : State :=
  let w := s.lgb.wtb
  let p := wtbPort x.addr
  let b := if x.addr < 0 then w.lineB1 else w.lineB2
  if w.inaugurated && w.nodes.contains x.addr && decide (x.data.length ≤ 128) && linkIsUp s p then
    let w := if x.addr < 0 then { w with lineB1 := lineAfter b x } else { w with lineB2 := lineAfter b x }
    if !lineHears b x then putWtb s w
    else
      busData (putWtb (countGot s p x.data.length false)
        { w with rx := (x.addr, x.data) :: w.rx.filter fun e => e.1 != x.addr }) .wtb x
  else s

/-- See `wtbReceive`. -/
def execWtbDataReceive (node : Int) (x : BusData) (s : State) : Out := .next (wtbReceive s { x with addr := node })

/-- WTB_PROCESS_DATA_PERIOD (R228): a period after the last; new map entries come into force, the node sends its process data
on the sides whose link is up, and takes what the others sent. -/
def wtbPeriod (rx : List BusData) (s : State) : State :=
  let ups := [92, 93].filter (linkIsUp s)
  if !s.lgb.wtb.inaugurated || ups.isEmpty then s
  else
    let s := untilMono s (s.lgb.wtb.at_ + s.lgb.wtb.inForce * 1000000)
    let s := applyMap (putWtb s { s.lgb.wtb with at_ := s.mono }) .wtb
    let s := emit (ups.foldl (fun s p => countSent s p s.lgb.wtb.tx.length false) s) (.wtb s.lgb.wtb.tx)
    rx.foldl wtbReceive s

/-- See `wtbPeriod`. -/
def execWtbProcessDataPeriod (rx : List BusData) (s : State) : Out := .next (wtbPeriod rx s)

/-! ## Publication (R229, R231) -/

/-- What a destination receives of an entry's variable: its value, zeros, or nothing while it is stale (Table 9-3). -/
def published (s : State) (e : MapEntry) : Option Bytes :=
  let v := bytesAt (pdVar s e.var).value 0 ((e.bitLen + 7) / 8)
  if !pdStale s e.var then some v
  else
    match e.onStale with
    | .hold => some v
    | .zero => some (v.map fun _ => 0)
    | .suppress => none

/-- The freshness word of a variable: stale in bit 15, age in ms in bits 14 to 0 (Table 9-3). -/
def freshness (s : State) (v : Nat) : Nat :=
  let x := pdVar s v
  let ms := match x.writer with
    | some (.cssWindow _) => x.agePans * panUs s / 1000
    | _ => pdAge s x
  b2n (pdStale s v) * 32768 + min 32767 ms

/-- Bytes laid over a string at an offset. -/
def overlay (b : Bytes) (o : Nat) (v : Bytes) : Bytes :=
  (List.range (max b.length (o + v.length))).map fun i =>
    if o ≤ i ∧ i < o + v.length then v.getD (i - o) 0 else b.getD i 0

/-- The entries that fill the dataset of a ComID (R231). -/
def dataset (s : State) (comid : Word) : List (Nat × MapRec) :=
  (liveMap s).filter fun e => e.2.entry.ethKind == .trdp && e.2.entry.comid == comid

/-- The dataset of a ComID, at most 1432 B; none while one of its entries suppresses it (R229, R231). -/
def datasetBytes (s : State) (comid : Word) : Option Bytes :=
  ((dataset s comid).foldl (fun a e =>
    match a, published s e.2.entry with
    | some b, some v =>
      let b := overlay b e.2.entry.dsOffset v
      some (if e.2.entry.ageOffset = 0xFFFF then b else overlay b e.2.entry.ageOffset (beBytes 2 (freshness s e.2.entry.var)))
    | _, _ => none) (some [])).map fun b => b.take 1432

/-- The values overwritten since the one an entry carried last (R231). -/
def missedValues (s : State) (r : MapRec) : Nat := ((pdVar s r.entry.var).seq - r.carried).toNat - 1

/-- An entry's value is carried now. -/
def carry (s : State) (k : Nat) : State :=
  modMap s k fun r =>
    { r with superseded := sat32 (r.superseded + missedValues s r), carried := (pdVar s r.entry.var).seq }

/-- The length of the frame of a dataset: Ethernet, IPv4 and UDP headers, the standard header of 40 B (PRESUMED, log), FCS. -/
def trdpLen (n : Nat) : Nat := max 64 (86 + n)

/-- The UDP port of process data, and its message types Pd and Pp (R229; the types' codes as the standard has them, PRESUMED,
log). -/
abbrev trdpPort : Nat := 17224

/-- A TRDP telegram of a ComID sent through port 99 (R229): its sequence counter, INE_TOPO_COUNT and opTrnTopoCnt 0; a push to
the ComID's destination, or the answer to the requester `req`. -/
def sendTrdp (s : State) (comid : Word) (req : Option Word) : State :=
  match datasetBytes s comid with
  | none => s
  | some b =>
    let n := ((s.lgb.pubSeq.find? fun e => e.1 == comid).map Prod.snd).getD 0
    let s := (dataset s comid).foldl (fun s e => carry s e.1) (countGot s 99 (trdpLen b.length) false)
    emit { s with lgb := { s.lgb with pubSeq := (comid, n + 1) :: s.lgb.pubSeq.filter fun e => e.1 != comid } }
      (.trdp
        { src := s.lgb.src, dst := req.getD (Config.trdpDest comid), udp := trdpPort, msg := if req.isSome then 0x5070 else 0x5064
          comid := comid, seq := n, etbTopo := s.ine.topo, opTopo := 0, data := b })

/-- The model time at which an entry's Ethernet destination is written next; a dataset goes by the longest period of its
entries (R231). -/
def ethDue (s : State) (r : MapRec) : Option Nat :=
  match r.entry.ethKind with
  | .none => none
  | .trdp => some (r.pubAt + ((dataset s r.entry.comid).map fun e => ethEff s e.2.entry).foldl max 0)
  | .cssSlot => some (r.pubAt + ethEff s r.entry)

/-- The Ethernet destination of an entry written: its TRDP dataset, or its CSS slot under producer 0x101 (R75, R231). -/
def publishEth (s : State) (k : Nat) (r : MapRec) : State :=
  match r.entry.ethKind with
  | .none => s
  | .trdp =>
    let s := (dataset s r.entry.comid).foldl (fun s e => modMap s e.1 fun r => { r with pubAt := s.mono }) s
    sendTrdp s r.entry.comid none
  | .cssSlot =>
    let s := modMap s k fun r => { r with pubAt := s.mono }
    match published s r.entry with
    | none => s
    | some v => (commitSlot (carry s k) r.entry.slotId prodBridge v).2

/-- The sizes of MVB ports (Table 9-2). -/
def mvbSize (n : Nat) : Nat := ([2, 4, 8, 16].find? fun k => decide (n ≤ k)).getD 32

/-- The data of an MVB port this device is the source of: the fields of every sink entry of its address; none while one of
them suppresses it. -/
def mvbPortData (s : State) (b : Bus) (a : Int) : Option Bytes :=
  let es := (liveMap s).filter fun e => e.2.entry.bus == b && !e.2.entry.source && e.2.entry.busAddr == a
  let n := mvbSize ((es.map fun e => (e.2.entry.bitOffset + e.2.entry.bitLen + 7) / 8).foldl max 0)
  es.foldl (fun d e =>
    match d, published s e.2.entry with
    | some d, some v => some (fieldPut d e.2.entry.bitOffset e.2.entry.bitLen v)
    | _, _ => none) (some (List.replicate n 0))

/-- The bus destination of a sink entry written (R231): the MVB port, on both its lines while its bus runs, or the node's own
WTB process data. -/
def publishBus (s : State) (k : Nat) (r : MapRec) : State :=
  let s := modMap s k fun r => { r with busAt := s.mono }
  match r.entry.bus with
  | .mvb n =>
    match mvbPortData s r.entry.bus r.entry.busAddr with
    | none => s
    | some d =>
      if mvbRuns s n then emit (countSent (carry s k) (88 + n) d.length false) (.mvb (88 + n) r.entry.busAddr d) else s
  | .wtb =>
    match published s r.entry with
    | none => s
    | some v =>
      let s := carry s k
      putWtb s { s.lgb.wtb with tx := (fieldPut (bytesAt s.lgb.wtb.tx 0 128) r.entry.bitOffset r.entry.bitLen v) }

/-- The model time at which a sink entry's bus port is written next. -/
def busDue (s : State) (r : MapRec) : Option Nat := if r.entry.source then none else some (r.busAt + busEff s r.entry)

/-- The earlier of two instants. -/
def sooner : Option Nat → Option Nat → Option Nat
  | some a, some b => some (min a b)
  | a, none => a
  | none, b => b

/-- PD_PUBLISH (R231): the next destination of a map entry is written when it is due, with the value held then. -/
def publish (b : Bus) (idx : Nat) (s : State) : State :=
  match (liveMap s).find? fun e => e.1 == mapKey b idx && e.2.entry.bus == b with
  | none => s
  | some (k, r) =>
    match sooner (ethDue s r) (busDue s r) with
    | none => s
    | some due =>
      let s := untilMono s due
      let s := if (ethDue s r).any fun d => decide (d ≤ s.mono) then publishEth s k r else s
      if (busDue s r).any fun d => decide (d ≤ s.mono) then publishBus s k r else s

/-- See `publish`. -/
def execPdPublish (bus : Bus) (idx : Nat) (s : State) : Out := .next (publish bus idx s)

/-- VARIABLE_STALE (R226): the age of a variable passes its stale_timeout. A variable of a CSS window ages at the close of
that window. -/
def variableLate (v : Nat) (s : State) : State :=
  let x := pdVar s v
  match x.timeout, x.writer with
  | _, some (.cssWindow _) => s
  | none, _ => s
  | some t, _ => if x.stale || x.len == 0 then s else pdGoStale (untilMono s (x.at_ + t * 1000000 + 1)) v

/-- See `variableLate`. -/
def execVariableStale (v : Nat) (s : State) : Out := .next (variableLate v s)

/-- A subscription takes its bytes from a dataset: to its variable if the frame is from its writer, else discarded and
counted (R223). -/
def takeSub (s : State) (f : TrdpFrame) (x : TrdpSub) : State :=
  let w := Writer.trdp f.comid f.src
  if x.src == f.src && decide ((pdVar s x.var).writer = some w) then
    let n := (pdVar s x.var).len
    if f.data.length < x.offset + n then s else pdCommit s x.var (bytesAt f.data x.offset n)
  else pdMismatch s x.var w

/-- The subscriptions that a frame of process data is for: those of its ComID and source, else those of its ComID. -/
def subsFor (s : State) (f : TrdpFrame) : List TrdpSub :=
  let same := s.lgb.subs.filter fun x => x.comid == f.comid
  let mine := same.filter fun x => x.src == f.src
  if mine.isEmpty then same else mine

/-- TRDP_RECEIVE (R229): a frame whose non-zero etbTopoCnt differs from INE_TOPO_COUNT is discarded and counted; a request is
answered with the dataset it names; process data goes to the subscriptions of its ComID. -/
def trdpIn (f : TrdpFrame) (s : State) : State :=
  let s := countSent s 99 (trdpLen f.data.length) false
  if f.etbTopo ≠ 0 ∧ f.etbTopo ≠ s.ine.topo then
    { s with lgb := { s.lgb with topoDiscards := sat32 (s.lgb.topoDiscards + 1) } }
  else if f.isRequest then (if (dataset s f.comid).isEmpty then s else sendTrdp s f.comid (some f.src))
  else if 1432 < f.data.length then s
  else (subsFor s f).foldl (fun s x => takeSub s f x) s

/-- See `trdpIn`. -/
def execTrdpReceive (f : TrdpFrame) (s : State) : Out := .next (trdpIn f s)

/-! ## Host commands (R243) -/

/-- The feature of a bus (Table 12-8). -/
def busFeature : Bus → List Nat
  | .mvb _ => [9]
  | .wtb => [10]

/-- The bus an LGB_CONFIG is for. -/
def lgbBus : LgbConfig → Bus
  | .mvb p _ _ _ _ _ => .mvb p
  | .wtb _ _ => .wtb

/-- The first setting of an LGB_CONFIG outside the limits of Table 9-2, by its record in the order of Table 9-9 (R308). -/
def lgbBad : LgbConfig → Option Nat
  | .mvb p _ dev basic list admins =>
    ([decide (p < 4), decide (dev < 4096), decide (basic = 1000 ∨ basic = 2000),
      decide (list.length ≤ 4096) && list.all (fun a => decide (a.addr < 4096 ∧ a.log2 ≤ 10)) && decide (admins.length ≤ 16)
        && admins.all (fun a => decide (a < 4096))] : List Bool).findIdx? (!·)
  | .wtb _ ms => if ms = 0 then some 4 else none

/-- LGB_CONFIG applied: a sole administrator holds the mastership at once; the node's own period is in force where no other
master set one. -/
def lgbApply (s : State) : LgbConfig → State
  | .mvb p adm dev basic list admins =>
    let x := mvbOf s p
    putMvb s p { x with
      administrator := adm, device := dev, basicUs := basic, list := list, admins := admins
      master := adm && (x.master || (admins.filter (· ≠ dev)).isEmpty) }
  | .wtb role ms =>
    let w := s.lgb.wtb
    putWtb s { w with role := role, periodMs := ms, inForce := if w.inaugurated && !w.master then w.inForce else ms }

/-- LGB_CONFIG (R227, R228). -/
def execLgbConfig (h : Hcp) (c : LgbConfig) (s : State) : Out :=
  .next (runHcp { opcode := 0x0801, classC := true, owner := true, features := busFeature (lgbBus c) } h s fun s =>
    match lgbBad c with
    | some i => failsAt s i
    | none => okay (lgbApply s c))

/-- The first field of a map entry that is out of the range of Table 9-3, by its record (R308): the variable must hold bit_len
bits (R230), and the field must lie in its bus port (DEDUCED, log). -/
def entryBad (s : State) (e : MapEntry) : Option Nat :=
  let wide := match e.bus with | .mvb _ => 256 | .wtb => 1024
  let addr := match e.bus with
    | .mvb _ => decide (0 ≤ e.busAddr ∧ e.busAddr ≤ 4095)
    | .wtb => decide (-31 ≤ e.busAddr ∧ e.busAddr ≤ 31)
  let period := match e.bus with
    | .mvb _ => ((List.range 11).map (2 ^ ·)).contains e.busPeriod
    | .wtb => true
  ([busOk e.bus, addr, true, decide (e.bitOffset ≤ 1023),
    decide (1 ≤ e.bitLen ∧ e.bitLen ≤ 1024 ∧ e.bitOffset + e.bitLen ≤ wide),
    decide (e.var < 8192 ∧ e.bitLen ≤ 8 * (pdVar s e.var).len), true, true, decide (e.ethKind = .trdp → e.dsOffset ≤ 1431),
    decide (e.ethKind = .trdp → 1 ≤ e.ethPeriod ∧ e.ethPeriod ≤ 10000), decide (e.ethKind = .cssSlot → e.slotId < 65536),
    decide (e.staleTimeout ≤ 65535), true, decide (e.ageOffset ≤ 1430 ∨ e.ageOffset = 0xFFFF), period] : List Bool).findIdx? (!·)

/-- A map entry put into its table, to come into force at the next macrocycle; the one it replaces stays in force until then
(R230). The whole entry is written, which clears its poison (R28). -/
def putEntry (s : State) (k : Nat) (e : MapEntry) : State :=
  let s := unpoisonEntry s 7 k
  let new : MapRec :=
    { entry := e, applied := false, superseded := 0, staleCount := 0, mismatch := 0, carried := (pdVar s e.var).seq
      pubAt := 0, busAt := 0 }
  let r := match tget none s.lgb.map k with
    | some r => if r.applied then { r with next := some e } else new
    | none => new
  { s with lgb := { s.lgb with map := tset none s.lgb.map k (some r) } }

/-- LGB_MAP_SET (R223, R230): the first failing record is named (R308); a source entry must be its variable's writer. -/
def execLgbMapSet (h : Hcp) (idx : Nat) (e : MapEntry) (s : State) : Out :=
  .next (runHcp { opcode := 0x0802, classC := true, owner := true, features := busFeature e.bus } h s fun s =>
    match entryBad s e with
    | some i => failsAt s i
    | none =>
      if 4096 ≤ idx then fails s .invalidArgument 0
      else if e.source && (pdVar s e.var).writer != some (.legacyBus e.bus idx) then fails s .ownerMismatch 0
      else okay (putEntry s (mapKey e.bus idx) e))

/-- LGB_MAP_CLEAR (R243): the entry, and one set to replace it, leaves the table. -/
def execLgbMapClear (h : Hcp) (bus : Bus) (idx : Nat) (s : State) : Out :=
  .next (runHcp { opcode := 0x0803, classC := true, owner := true, features := busFeature bus } h s fun s =>
    match tget none s.lgb.map (mapKey bus idx) with
    | some r =>
      if !busOk bus || 4096 ≤ idx || (r.next.getD r.entry).bus != bus then fails s .invalidArgument 0
      else okay (setTimeout (unpoisonEntry { s with lgb := { s.lgb with map := tset none s.lgb.map (mapKey bus idx) none } }
          7 (mapKey bus idx)) r.entry.var)
    | none => fails s .invalidArgument 0)

/-- TRDP_CONFIG (R229): the source address and the subscriptions with their writers; the first failing record is named, the
source address being record 0 (R308). -/
def execTrdpConfig (h : Hcp) (src : Word) (subs : List TrdpSub) (s : State) : Out :=
  .next (runHcp { opcode := 0x0804, classC := true, owner := true } h s fun s =>
    match subs.findIdx? fun x => decide (8192 ≤ x.var ∨ 1432 ≤ x.offset) with
    | some i => failsAt s (i + 1)
    | none => okay { s with lgb := { s.lgb with src := src, subs := subs } })

/-- What a variable of `n` bytes takes of the store (R222). -/
def pdBytes (n : Nat) : Nat := if n = 0 then 0 else 2 * ((n + 7) / 8 * 8) + 16

/-- The bytes the configured variables take. -/
def pdUsed (s : State) : Nat := (s.lgb.vars.map fun e => pdBytes e.2.len).sum

/-- A writer that exists (Table 9-1). -/
def writerOk : Writer → Bool
  | .tenant t => decide (t < 256)
  | .legacyBus b e => busOk b && decide (e < 4096)
  | .cssWindow w => decide (w < 4096)
  | _ => true

/-- PD_OWNER_SET (R222 to R224): length and writer take effect at completion; a change of length clears the value and marks
the variable stale; past 512 KiB it changes nothing. The age of a variable that a window now writes is the window's (R226). -/
def execPdOwnerSet (h : Hcp) (v len : Nat) (writer : Writer) (s : State) : Out :=
  .next (runHcp { opcode := 0x0805, classC := true, owner := true } h s fun s =>
    let x := pdVar s v
    if 8192 ≤ v ∨ len = 0 ∨ 128 < len ∨ !writerOk writer then fails s .invalidArgument 0
    else if 524288 < pdUsed s - pdBytes x.len + pdBytes len then fails s .refused 0x0304
    else
      let age := match writer with
        | .cssWindow w => match s.css.windows[w]? with | some y => y.age | none => x.agePans
        | _ => x.agePans
      let stale := x.stale || (s.glob.degraded && pdFed (some writer))
      if x.len = len then okay (putVar s v { x with writer := some writer, agePans := age, stale := stale })
      else okay (putVar (pdClean s v) v { x with
        len := len, writer := some writer, value := List.replicate len 0, agePans := age, stale := true }))

/-- PD_WRITE (R223, R225). -/
def execPdWrite (h : Hcp) (v : Nat) (data : Bytes) (s : State) : Out :=
  .next (runHcp { opcode := 0x0806 } h s fun s =>
    if !hasRight s h.tenant 6 then fails s .notPermitted rRight
    else if 8192 ≤ v ∨ (pdVar s v).len = 0 then fails s .invalidArgument 0
    else if (pdVar s v).writer ≠ some (.tenant h.tenant) then fails s .ownerMismatch 0
    else if data.length ≠ (pdVar s v).len then fails s .invalidArgument 0
    else if pdBlocked s v then fails (uncorrectable s 7 (Config.pdTail v)) .poisoned 0
    else okay (pdCommit s v data))

/-- PD_READ (R225): the value with its sequence, age and stale flag; a stale value completes with STALE (Table 12-10). -/
def execPdRead (h : Hcp) (v : Nat) (s : State) : Out :=
  .next (runHcp { opcode := 0x0807 } h s fun s =>
    if !hasRight s h.tenant 6 then fails s .notPermitted rRight
    else if 8192 ≤ v ∨ (pdVar s v).len = 0 then fails s .invalidArgument 0
    else
      let x := pdVar s v
      .done s (if pdStale s v then .stale else .ok) 0
        (leBytes 4 x.seq.toNat ++ leBytes 4 (pdAge s x) ++ leBytes 4 (b2n (pdStale s v)) ++ x.value))

/-- LGB_STATUS (R243): superseded, stale and pd_owner_mismatch, of the port and of the map entry. -/
def execLgbStatus (h : Hcp) (bus : Bus) (idx : Nat) (s : State) : Out :=
  .next (runHcp { opcode := 0x0808, features := busFeature bus } h s fun s =>
    if !busOk bus || 4096 ≤ idx then fails s .invalidArgument 0
    else
      let rs := (s.lgb.map.filterMap Prod.snd).filter fun r => r.entry.bus == bus
      let sup := fun r => sat32 (r.superseded + missedValues s r)
      let one := match tget none s.lgb.map (mapKey bus idx) with
        | some r => if r.entry.bus == bus then [sup r, r.staleCount, r.mismatch] else [0, 0, 0]
        | none => [0, 0, 0]
      okWith s (([sat32 (rs.map sup).sum, sat32 (rs.map MapRec.staleCount).sum, sat32 (rs.map MapRec.mismatch).sum] ++ one).flatMap
        (leBytes 4)))

end Sys2Proof.Machine
end

