-- ==== Sys2Proof/Machine/Dispatch.lean ====
section
/-! DEFINITION. Dispatch: one arm per command, each one direct call of its meaning. -/

namespace Sys2Proof.Machine

/-- The effect of a command on everything but the queue. -/
def exec (i : Instr) (s : State) : Host.Outcome State Fault Refusal :=
  match i with
  | .registerWrite bar off ws => Sys2Proof.Machine.execRegisterWrite bar off ws s
  | .reservedAccess acc at_ => Sys2Proof.Machine.execReservedAccess acc at_ s
  | .narrowWrite off be v => Sys2Proof.Machine.execNarrowWrite off be v s
  | .globalEccClear v ceNow ueNow => Sys2Proof.Machine.execGlobalEccClear v ceNow ueNow s
  | .eccCaptureRelease w => Sys2Proof.Machine.execEccCaptureRelease w s
  | .patrolScrub finds => Sys2Proof.Machine.execPatrolScrub finds s
  | .shadowRestore mem word => Sys2Proof.Machine.execShadowRestore mem word s
  | .timeSlotLatch slot => Sys2Proof.Machine.execTimeSlotLatch slot s
  | .driftLatch scale => Sys2Proof.Machine.execDriftLatch scale s
  | .leaderIdLatch => Sys2Proof.Machine.execLeaderIdLatch s
  | .trtStepRecordLatch => Sys2Proof.Machine.execTrtStepRecordLatch s
  | .cssLeaderLatch => Sys2Proof.Machine.execCssLeaderLatch s
  | .cssOriginLatch => Sys2Proof.Machine.execCssOriginLatch s
  | .ffCounterLatch off => Sys2Proof.Machine.execFfCounterLatch off s
  | .lastDiscardLatch t => Sys2Proof.Machine.execLastDiscardLatch t s
  | .ffBrineClear v => Sys2Proof.Machine.execFfBrineClear v s
  | .ineStepLatch => Sys2Proof.Machine.execIneStepLatch s
  | .sleepAtLatch => Sys2Proof.Machine.execSleepAtLatch s
  | .keeperLatch => Sys2Proof.Machine.execKeeperLatch s
  | .eomSecLatch => Sys2Proof.Machine.execEomSecLatch s
  | .evrWinLatch ix => Sys2Proof.Machine.execEvrWinLatch ix s
  | .commandDoorbell t prod => Sys2Proof.Machine.execCommandDoorbell t prod s
  | .commandFetch t e => Sys2Proof.Machine.execCommandFetch t e s
  | .mbxTResetWrite t v => Sys2Proof.Machine.execMbxTResetWrite t v s
  | .tenantResetExecute t => Sys2Proof.Machine.execTenantResetExecute t s
  | .spiTransaction instr addr data words => Sys2Proof.Machine.execSpiTransaction instr addr data words s
  | .txDescriptor t q d => Sys2Proof.Machine.execTxDescriptor t q d s
  | .rxDelivery t q d => Sys2Proof.Machine.execRxDelivery t q d s
  | .interruptHoldoffEnd t => Sys2Proof.Machine.execInterruptHoldoffEnd t s
  | .eventRingRoom t cons => Sys2Proof.Machine.execEventRingRoom t cons s
  | .remoteHcpReceive c => Sys2Proof.Machine.execRemoteHcpReceive c s
  | .sessionOpen h version mask maxWake => Sys2Proof.Machine.execSessionOpen h version mask maxWake s
  | .tenantConfig h c => Sys2Proof.Machine.execTenantConfig h c s
  | .tenantKeySet h t key => Sys2Proof.Machine.execTenantKeySet h t key s
  | .tenantReset h t => Sys2Proof.Machine.execTenantReset h t s
  | .featuresSet h mask => Sys2Proof.Machine.execFeaturesSet h mask s
  | .queueSteer h entry tenant queue => Sys2Proof.Machine.execQueueSteer h entry tenant queue s
  | .authEcho h payload => Sys2Proof.Machine.execAuthEcho h payload s
  | .timeRead h => Sys2Proof.Machine.execTimeRead h s
  | .timeConfig h recs => Sys2Proof.Machine.execTimeConfig h recs s
  | .timeSet h sec ns frac => Sys2Proof.Machine.execTimeSet h sec ns frac s
  | .ltmSend d => Sys2Proof.Machine.execLtmSend d s
  | .ltmReceive p m => Sys2Proof.Machine.execLtmReceive p m s
  | .trtHoldoverEntry => Sys2Proof.Machine.execTrtHoldoverEntry s
  | .servoUpdate scale rate span => Sys2Proof.Machine.execServoUpdate scale rate span s
  | .phaseTrackLoss p => Sys2Proof.Machine.execPhaseTrackLoss p s
  | .phaseTrackRequalify p => Sys2Proof.Machine.execPhaseTrackRequalify p s
  | .gptpMessageReceive port m => Sys2Proof.Machine.execGptpMessageReceive port m s
  | .syncReceiptTimeout dom => Sys2Proof.Machine.execSyncReceiptTimeout dom s
  | .preferredDomainReturn => Sys2Proof.Machine.execPreferredDomainReturn s
  | .ppsInEdge => Sys2Proof.Machine.execPpsInEdge s
  | .ppsOutSecond => Sys2Proof.Machine.execPpsOutSecond s
  | .refMonitorWindow ms => Sys2Proof.Machine.execRefMonitorWindow ms s
  | .refReturn => Sys2Proof.Machine.execRefReturn s
  | .xinStop => Sys2Proof.Machine.execXinStop s
  | .segmentBeaconSend d => Sys2Proof.Machine.execSegmentBeaconSend d s
  | .panBoundary => Sys2Proof.Machine.execPanBoundary s
  | .slotFetch ix => Sys2Proof.Machine.execSlotFetch ix s
  | .slotTransmit d => Sys2Proof.Machine.execSlotTransmit d s
  | .cssFrameReceive port f => Sys2Proof.Machine.execCssFrameReceive port f s
  | .windowClose w => Sys2Proof.Machine.execWindowClose w s
  | .cycleStartReceive port f => Sys2Proof.Machine.execCycleStartReceive port f s
  | .coldStartReceive port f => Sys2Proof.Machine.execColdStartReceive port f s
  | .listenTimeout => Sys2Proof.Machine.execListenTimeout s
  | .originReached => Sys2Proof.Machine.execOriginReached s
  | .timedStartReached => Sys2Proof.Machine.execTimedStartReached s
  | .waitStartTimeout => Sys2Proof.Machine.execWaitStartTimeout s
  | .integratingTimeout => Sys2Proof.Machine.execIntegratingTimeout s
  | .reelectionColdStart => Sys2Proof.Machine.execReelectionColdStart s
  | .leaderlessTimeout => Sys2Proof.Machine.execLeaderlessTimeout s
  | .schedLoadBegin h len ident => Sys2Proof.Machine.execSchedLoadBegin h len ident s
  | .schedLoadBlock h off data => Sys2Proof.Machine.execSchedLoadBlock h off data s
  | .schedLoadEnd h met => Sys2Proof.Machine.execSchedLoadEnd h met s
  | .cssStart h mode => Sys2Proof.Machine.execCssStart h mode s
  | .cssStop h scope pan => Sys2Proof.Machine.execCssStop h scope pan s
  | .cssCountersClear h => Sys2Proof.Machine.execCssCountersClear h s
  | .tauArm h a => Sys2Proof.Machine.execTauArm h a s
  | .tauCancel h tau => Sys2Proof.Machine.execTauCancel h tau s
  | .tauFrameLoad h tau data => Sys2Proof.Machine.execTauFrameLoad h tau data s
  | .tauCommit h tau source keySlot slotId => Sys2Proof.Machine.execTauCommit h tau source keySlot slotId s
  | .tauAbort h tau source keySlot slotId => Sys2Proof.Machine.execTauAbort h tau source keySlot slotId s
  | .tauKeySet h slot key => Sys2Proof.Machine.execTauKeySet h slot key s
  | .tauStatus h tau => Sys2Proof.Machine.execTauStatus h tau s
  | .tauSurveyRead h tau first => Sys2Proof.Machine.execTauSurveyRead h tau first s
  | .tauFire tau => Sys2Proof.Machine.execTauFire tau s
  | .pinPulseEnd pin => Sys2Proof.Machine.execPinPulseEnd pin s
  | .captureEdge pin rising => Sys2Proof.Machine.execCaptureEdge pin rising s
  | .captureWindowEnd pin => Sys2Proof.Machine.execCaptureWindowEnd pin s
  | .commitDeadline tau => Sys2Proof.Machine.execCommitDeadline tau s
  | .commitTokenReceive port f => Sys2Proof.Machine.execCommitTokenReceive port f s
  | .waysideTokenRepeat tau => Sys2Proof.Machine.execWaysideTokenRepeat tau s
  | .surveyReportReceive port f => Sys2Proof.Machine.execSurveyReportReceive port f s
  | .surveyClose tau => Sys2Proof.Machine.execSurveyClose tau s
  | .frameIngress fs => Sys2Proof.Machine.execFrameIngress fs s
  | .egressSelect b => Sys2Proof.Machine.execEgressSelect b s
  | .sluiceGateChange port => Sys2Proof.Machine.execSluiceGateChange port s
  | .fdbAgeOut mac fid => Sys2Proof.Machine.execFdbAgeOut mac fid s
  | .resaltTrigger => Sys2Proof.Machine.execResaltTrigger s
  | .resaltWalkDone => Sys2Proof.Machine.execResaltWalkDone s
  | .resaltResume => Sys2Proof.Machine.execResaltResume s
  | .frerResetTimeout fn => Sys2Proof.Machine.execFrerResetTimeout fn s
  | .prpSupervisionSend pair => Sys2Proof.Machine.execPrpSupervisionSend pair s
  | .prpNodeForget mac => Sys2Proof.Machine.execPrpNodeForget mac s
  | .brineConfig h recs => Sys2Proof.Machine.execBrineConfig h recs s
  | .classConfig h recs => Sys2Proof.Machine.execClassConfig h recs s
  | .sluiceLoad h port bank b => Sys2Proof.Machine.execSluiceLoad h port bank b s
  | .tagConfig h recs => Sys2Proof.Machine.execTagConfig h recs s
  | .prpConfig h recs => Sys2Proof.Machine.execPrpConfig h recs s
  | .frerStatus h fn => Sys2Proof.Machine.execFrerStatus h fn s
  | .fdbAdd h mac fid dest => Sys2Proof.Machine.execFdbAdd h mac fid dest s
  | .fdbDelete h mac fid => Sys2Proof.Machine.execFdbDelete h mac fid s
  | .fdbFlush h sel => Sys2Proof.Machine.execFdbFlush h sel s
  | .fdbResalt h => Sys2Proof.Machine.execFdbResalt h s
  | .bitternWatch h k f => Sys2Proof.Machine.execBitternWatch h k f s
  | .bitternClear h sel => Sys2Proof.Machine.execBitternClear h sel s
  | .streamAdmit h r => Sys2Proof.Machine.execStreamAdmit h r s
  | .streamWithdraw h origin id => Sys2Proof.Machine.execStreamWithdraw h origin id s
  | .streamStatus h origin id => Sys2Proof.Machine.execStreamStatus h origin id s
  | .admissionConfig h recs => Sys2Proof.Machine.execAdmissionConfig h recs s
  | .prepareReceive port p => Sys2Proof.Machine.execPrepareReceive port p s
  | .replyReceive r => Sys2Proof.Machine.execReplyReceive r s
  | .admissionInstallReceive port name sec ns => Sys2Proof.Machine.execAdmissionInstallReceive port name sec ns s
  | .streamActivation name => Sys2Proof.Machine.execStreamActivation name s
  | .confirmReceive name hop status => Sys2Proof.Machine.execConfirmReceive name hop status s
  | .confirmTimeout id => Sys2Proof.Machine.execConfirmTimeout id s
  | .prepareTimeout id => Sys2Proof.Machine.execPrepareTimeout id s
  | .releaseReceive name => Sys2Proof.Machine.execReleaseReceive name s
  | .holdLapse name => Sys2Proof.Machine.execHoldLapse name s
  | .noticeReceive n => Sys2Proof.Machine.execNoticeReceive n s
  | .suspendHoldExpiry id => Sys2Proof.Machine.execSuspendHoldExpiry id s
  | .linkUp port offer => Sys2Proof.Machine.execLinkUp port offer s
  | .linkDown port => Sys2Proof.Machine.execLinkDown port s
  | .cpInbandStatus port up speed fullDuplex => Sys2Proof.Machine.execCpInbandStatus port up speed fullDuplex s
  | .laneSyncLoss lane => Sys2Proof.Machine.execLaneSyncLoss lane s
  | .pauseReceive port quanta src => Sys2Proof.Machine.execPauseReceive port quanta src s
  | .pauseExpiry port => Sys2Proof.Machine.execPauseExpiry port s
  | .pauseWatchdogTrip port => Sys2Proof.Machine.execPauseWatchdogTrip port s
  | .pauseIgnoreEnd port => Sys2Proof.Machine.execPauseIgnoreEnd port s
  | .portConfig h recs => Sys2Proof.Machine.execPortConfig h recs s
  | .segConfig h recs => Sys2Proof.Machine.execSegConfig h recs s
  | .segState h sg st => Sys2Proof.Machine.execSegState h sg st s
  | .segSleepSilence sg => Sys2Proof.Machine.execSegSleepSilence sg s
  | .segSleepTimeout sg => Sys2Proof.Machine.execSegSleepTimeout sg s
  | .segActivity sg p => Sys2Proof.Machine.execSegActivity sg p s
  | .segWakePattern sg p => Sys2Proof.Machine.execSegWakePattern sg p s
  | .segWake h sg => Sys2Proof.Machine.execSegWake h sg s
  | .segWakeBurstEnd sg => Sys2Proof.Machine.execSegWakeBurstEnd sg s
  | .canConfig h recs => Sys2Proof.Machine.execCanConfig h recs s
  | .canRecover h port => Sys2Proof.Machine.execCanRecover h port s
  | .canBusOff port => Sys2Proof.Machine.execCanBusOff port s
  | .canAutoRecovery port bits => Sys2Proof.Machine.execCanAutoRecovery port bits s
  | .canFrameReceive port x => Sys2Proof.Machine.execCanFrameReceive port x s
  | .mdioAccess h ops => Sys2Proof.Machine.execMdioAccess h ops s
  | .portStatus h port => Sys2Proof.Machine.execPortStatus h port s
  | .harvestTake h a => Sys2Proof.Machine.execHarvestTake h a s
  | .harvestFillDone bank => Sys2Proof.Machine.execHarvestFillDone bank s
  | .helloSend port => Sys2Proof.Machine.execHelloSend port s
  | .helloReceive port m => Sys2Proof.Machine.execHelloReceive port m s
  | .ttdpFallback port => Sys2Proof.Machine.execTtdpFallback port s
  | .ttdpFrameReceive port r => Sys2Proof.Machine.execTtdpFrameReceive port r s
  | .tableReceive port hdr part parts records => Sys2Proof.Machine.execTableReceive port hdr part parts records s
  | .funcsReceive port hdr owner entries => Sys2Proof.Machine.execFuncsReceive port hdr owner entries s
  | .digestReceive port hdr crc count steps => Sys2Proof.Machine.execDigestReceive port hdr crc count steps s
  | .topologyTimeout => Sys2Proof.Machine.execTopologyTimeout s
  | .disagreeHoldoffEnd => Sys2Proof.Machine.execDisagreeHoldoffEnd s
  | .proceedReceive port hdr => Sys2Proof.Machine.execProceedReceive port hdr s
  | .mergeReceive port hdr epoch leader => Sys2Proof.Machine.execMergeReceive port hdr epoch leader s
  | .inaugInstallReceive port hdr sec ns topo crc => Sys2Proof.Machine.execInaugInstallReceive port hdr sec ns topo crc s
  | .inaugAckReceive port hdr subtype status => Sys2Proof.Machine.execInaugAckReceive port hdr subtype status s
  | .inaugAbortReceive port hdr reason => Sys2Proof.Machine.execInaugAbortReceive port hdr reason s
  | .inaugConfig h recs functions => Sys2Proof.Machine.execInaugConfig h recs functions s
  | .inaugLead h cab => Sys2Proof.Machine.execInaugLead h cab s
  | .inaugInhibit h on => Sys2Proof.Machine.execInaugInhibit h on s
  | .inaugStatus h => Sys2Proof.Machine.execInaugStatus h s
  | .aliasSet h a => Sys2Proof.Machine.execAliasSet h a s
  | .aliasClear h tfa => Sys2Proof.Machine.execAliasClear h tfa s
  | .aliasCommit h sec ns => Sys2Proof.Machine.execAliasCommit h sec ns s
  | .twinConfig h recs => Sys2Proof.Machine.execTwinConfig h recs s
  | .twinSwap h => Sys2Proof.Machine.execTwinSwap h s
  | .twinImageSend => Sys2Proof.Machine.execTwinImageSend s
  | .twinImageReceive im => Sys2Proof.Machine.execTwinImageReceive im s
  | .twinFullTransferDone im => Sys2Proof.Machine.execTwinFullTransferDone im s
  | .twinSyncTimeout => Sys2Proof.Machine.execTwinSyncTimeout s
  | .twinPartnerTimeout => Sys2Proof.Machine.execTwinPartnerTimeout s
  | .twinUnpairedTimeout => Sys2Proof.Machine.execTwinUnpairedTimeout s
  | .twinSwapDue => Sys2Proof.Machine.execTwinSwapDue s
  | .twinSwapSkip => Sys2Proof.Machine.execTwinSwapSkip s
  | .twinMirrorReceive slot seq data => Sys2Proof.Machine.execTwinMirrorReceive slot seq data s
  | .mvbMacrocycle port polled => Sys2Proof.Machine.execMvbMacrocycle port polled s
  | .mvbFrameReceive port f => Sys2Proof.Machine.execMvbFrameReceive port f s
  | .wtbInauguration o nodes => Sys2Proof.Machine.execWtbInauguration o nodes s
  | .wtbDataReceive node x => Sys2Proof.Machine.execWtbDataReceive node x s
  | .trdpReceive f => Sys2Proof.Machine.execTrdpReceive f s
  | .pdPublish bus idx => Sys2Proof.Machine.execPdPublish bus idx s
  | .variableStale v => Sys2Proof.Machine.execVariableStale v s
  | .lgbConfig h c => Sys2Proof.Machine.execLgbConfig h c s
  | .lgbMapSet h idx e => Sys2Proof.Machine.execLgbMapSet h idx e s
  | .lgbMapClear h bus idx => Sys2Proof.Machine.execLgbMapClear h bus idx s
  | .trdpConfig h src subs => Sys2Proof.Machine.execTrdpConfig h src subs s
  | .pdOwnerSet h v len writer => Sys2Proof.Machine.execPdOwnerSet h v len writer s
  | .pdWrite h v data => Sys2Proof.Machine.execPdWrite h v data s
  | .pdRead h v => Sys2Proof.Machine.execPdRead h v s
  | .lgbStatus h bus idx => Sys2Proof.Machine.execLgbStatus h bus idx s
  | .farTargetSet h f c => Sys2Proof.Machine.execFarTargetSet h f c s
  | .farRead h f addr len => Sys2Proof.Machine.execFarRead h f addr len s
  | .farWrite h f addr data => Sys2Proof.Machine.execFarWrite h f addr data s
  | .farLock h f token lease => Sys2Proof.Machine.execFarLock h f token lease s
  | .farUnlock h f token => Sys2Proof.Machine.execFarUnlock h f token s
  | .farHostRead f off len => Sys2Proof.Machine.execFarHostRead f off len s
  | .farHostWrite f off data => Sys2Proof.Machine.execFarHostWrite f off data s
  | .fwLockWrite f v => Sys2Proof.Machine.execFwLockWrite f v s
  | .farRequestSend f => Sys2Proof.Machine.execFarRequestSend f s
  | .farResponseReceive f r => Sys2Proof.Machine.execFarResponseReceive f r s
  | .farResend f => Sys2Proof.Machine.execFarResend f s
  | .farTimeout f => Sys2Proof.Machine.execFarTimeout f s
  | .farDiscardEnd f tag => Sys2Proof.Machine.execFarDiscardEnd f tag s
  | .farLeaseExpiry f => Sys2Proof.Machine.execFarLeaseExpiry f s
  | .safetyCycle ch m => Sys2Proof.Machine.execSafetyCycle ch m s
  | .telegramReceive port t => Sys2Proof.Machine.execTelegramReceive port t s
  | .compareWindowExpiry ch c => Sys2Proof.Machine.execCompareWindowExpiry ch c s
  | .stalenessDeadline ch c => Sys2Proof.Machine.execStalenessDeadline ch c s
  | .driveCommandSend ch c => Sys2Proof.Machine.execDriveCommandSend ch c s
  | .darkPulseStart ch n => Sys2Proof.Machine.execDarkPulseStart ch n s
  | .darkPulseEnd ch n feedback => Sys2Proof.Machine.execDarkPulseEnd ch n feedback s
  | .feedbackDisagreeTimeout ch n => Sys2Proof.Machine.execFeedbackDisagreeTimeout ch n s
  | .inputDiscrepancyTimeout ch ix => Sys2Proof.Machine.execInputDiscrepancyTimeout ch ix s
  | .handoverTimeout n => Sys2Proof.Machine.execHandoverTimeout n s
  | .guardTestTimeout ch c => Sys2Proof.Machine.execGuardTestTimeout ch c s
  | .autoRecover ch c => Sys2Proof.Machine.execAutoRecover ch c s
  | .islandStartupTimeout => Sys2Proof.Machine.execIslandStartupTimeout s
  | .sfpFirstVector m => Sys2Proof.Machine.execSfpFirstVector m s
  | .safetyParamBegin h len ident => Sys2Proof.Machine.execSafetyParamBegin h len ident s
  | .safetyParamBlock h off data => Sys2Proof.Machine.execSafetyParamBlock h off data s
  | .safetyParamEnd h => Sys2Proof.Machine.execSafetyParamEnd h s
  | .safetyResume h => Sys2Proof.Machine.execSafetyResume h s
  | .safetyChannelReset h mask => Sys2Proof.Machine.execSafetyChannelReset h mask s
  | .safetyGuardTest h mask => Sys2Proof.Machine.execSafetyGuardTest h mask s
  | .axisCounterSet h c cycles reversals => Sys2Proof.Machine.execAxisCounterSet h c cycles reversals s
  | .axisStatus h c => Sys2Proof.Machine.execAxisStatus h c s
  | .counterWindrowWrite => Sys2Proof.Machine.execCounterWindrowWrite s
  | .imageBegin h len ident => Sys2Proof.Machine.execImageBegin h len ident s
  | .imageBlock h off data readbackOk => Sys2Proof.Machine.execImageBlock h off data readbackOk s
  | .imageVerify h => Sys2Proof.Machine.execImageVerify h s
  | .imageActivate h live ident => Sys2Proof.Machine.execImageActivate h live ident s
  | .activationDrainEnd => Sys2Proof.Machine.execActivationDrainEnd s
  | .activationFallback => Sys2Proof.Machine.execActivationFallback s
  | .imageCommit h => Sys2Proof.Machine.execImageCommit h s
  | .imageStatus h => Sys2Proof.Machine.execImageStatus h s
  | .rootRevoke h ix => Sys2Proof.Machine.execRootRevoke h ix s
  | .keyWipe h => Sys2Proof.Machine.execKeyWipe h s
  | .bootDecision bootsel fl => Sys2Proof.Machine.execBootDecision bootsel fl s
  | .componentLoad checks scan info => Sys2Proof.Machine.execComponentLoad checks scan info s
  | .fwReady => Sys2Proof.Machine.execFwReady s
  | .bootTimeout => Sys2Proof.Machine.execBootTimeout s
  | .uartFrameReceive data => Sys2Proof.Machine.execUartFrameReceive data s
  | .powerConfig h recs => Sys2Proof.Machine.execPowerConfig h recs s
  | .powerKeep h on => Sys2Proof.Machine.execPowerKeep h on s
  | .powerLatency h us => Sys2Proof.Machine.execPowerLatency h us s
  | .powerStandby h force => Sys2Proof.Machine.execPowerStandby h force s
  | .powerStatus h => Sys2Proof.Machine.execPowerStatus h s
  | .powerStateEval => Sys2Proof.Machine.execPowerStateEval s
  | .dozeHoldExpiry => Sys2Proof.Machine.execDozeHoldExpiry s
  | .napHoldExpiry => Sys2Proof.Machine.execNapHoldExpiry s
  | .keepaliveSend => Sys2Proof.Machine.execKeepaliveSend s
  | .keepaliveReceive port k => Sys2Proof.Machine.execKeepaliveReceive port k s
  | .sleepNoticeReceive port k => Sys2Proof.Machine.execSleepNoticeReceive port k s
  | .quietExpiry => Sys2Proof.Machine.execQuietExpiry s
  | .sleepNoticeRepeat => Sys2Proof.Machine.execSleepNoticeRepeat s
  | .wakeSwDebounce => Sys2Proof.Machine.execWakeSwDebounce s
  | .externalInhWake => Sys2Proof.Machine.execExternalInhWake s
  | .wakeTimerExpiry => Sys2Proof.Machine.execWakeTimerExpiry s
  | .heldWakeStart => Sys2Proof.Machine.execHeldWakeStart s
  | .pgRise n => Sys2Proof.Machine.execPgRise n s
  | .pgTimeout n => Sys2Proof.Machine.execPgTimeout n s
  | .xinValid => Sys2Proof.Machine.execXinValid s
  | .xinTimeout => Sys2Proof.Machine.execXinTimeout s
  | .pllLock => Sys2Proof.Machine.execPllLock s
  | .pllLockTimeout => Sys2Proof.Machine.execPllLockTimeout s
  | .wakeRetry => Sys2Proof.Machine.execWakeRetry s
  | .wakeOutSignal => Sys2Proof.Machine.execWakeOutSignal s
  | .pgFall n => Sys2Proof.Machine.execPgFall n s
  | .pgLowTimeout n => Sys2Proof.Machine.execPgLowTimeout n s
  | .vaonPowerOn => Sys2Proof.Machine.execVaonPowerOn s
  | .vaonLoss => Sys2Proof.Machine.execVaonLoss s
  | .porstAssert => Sys2Proof.Machine.execPorstAssert s
  | .porstRelease => Sys2Proof.Machine.execPorstRelease s
  | .pfailFall => Sys2Proof.Machine.execPfailFall s
  | .pfailRise => Sys2Proof.Machine.execPfailRise s
  | .evrReport code data => Sys2Proof.Machine.execEvrReport code data s
  | .evrSecondSummary => Sys2Proof.Machine.execEvrSecondSummary s
  | .evrWriteBurst answers => Sys2Proof.Machine.execEvrWriteBurst answers s
  | .evrCheckpoint => Sys2Proof.Machine.execEvrCheckpoint s
  | .evrStagingFinal => Sys2Proof.Machine.execEvrStagingFinal s
  | .evrConfig h entries => Sys2Proof.Machine.execEvrConfig h entries s
  | .evrRead h first count => Sys2Proof.Machine.execEvrRead h first count s
  | .evrMark h data => Sys2Proof.Machine.execEvrMark h data s
  | .evrFormat h nonce floor size => Sys2Proof.Machine.execEvrFormat h nonce floor size s
  | .evrStatus h => Sys2Proof.Machine.execEvrStatus h s
  | .agmMeasurement m => Sys2Proof.Machine.execAgmMeasurement m s
  | .avsStepSettle margin readVout => Sys2Proof.Machine.execAvsStepSettle margin readVout s
  | .agmDaily => Sys2Proof.Machine.execAgmDaily s
  | .agmConfig h recs => Sys2Proof.Machine.execAgmConfig h recs s
  | .agmStatus h => Sys2Proof.Machine.execAgmStatus h s
  | .agmMeasure h => Sys2Proof.Machine.execAgmMeasure h s
  | .queueProducerWrite t isRx q prod => Sys2Proof.Machine.execQueueProducerWrite t isRx q prod s
  | .dmaCompletionTimeout t ring => Sys2Proof.Machine.execDmaCompletionTimeout t ring s
  | .pdelayReqSend port => Sys2Proof.Machine.execPdelayReqSend port s
  | .syncTransmission d dom => Sys2Proof.Machine.execSyncTransmission d dom s
  | .latentErrorDetection fn => Sys2Proof.Machine.execLatentErrorDetection fn s
  | .fullTransferRequest => Sys2Proof.Machine.execFullTransferRequest s
  | .wtbProcessDataPeriod rx => Sys2Proof.Machine.execWtbProcessDataPeriod rx s
  | .wakeGraceExpiry => Sys2Proof.Machine.execWakeGraceExpiry s
  | .wakeSwRelease => Sys2Proof.Machine.execWakeSwRelease s
  | .segPhyPowerUp sg => Sys2Proof.Machine.execSegPhyPowerUp sg s
  | .rstoutRelease => Sys2Proof.Machine.execRstoutRelease s
  | .ppsOutFall => Sys2Proof.Machine.execPpsOutFall s

end Sys2Proof.Machine
end

