-- ==== Sys2Proof/Machine/Step.lean ====
section
/-! DEFINITION. One step: the command at the front of the queue, or, on an empty queue, one tick of the 1 GHz time
domain. -/

namespace Sys2Proof.Machine

/-- One step. On an empty queue one tick passes (DESIGN CHOICE, log: what happens at a tick is R36's advance of the two
time bases; every other event is a command). -/
def step (s : State) : Host.Outcome State Fault Refusal :=
  match s.pending with
  | [] => .next (s.ticks 1)
  | c :: rest => exec c { s with pending := rest }

/-- The state with the command that a table word spells put in front of the queue; no row of the table gives bits, so no
word spells one. -/
def State.withFetchWord (s : State) (nbits w : Nat) : State :=
  match Sys2Proof.decodeTableWord nbits w with
  | some c => { s with pending := c :: s.pending }
  | none => s

end Sys2Proof.Machine
end

