-- ==== Sys2Proof/Safety.lean ====
section
/-! DEFINITION. The terms in which the statements speak of what is kept. -/

namespace Sys2Proof.Machine

/-- The fuses of `b` hold everything that those of `a` hold (R312, R315, R328): what was fused at manufacture is the same, a
revoked root stays revoked, and no rollback fuse comes back. -/
def Otp.keptIn (a b : Otp) : Prop :=
  b.unitId = a.unitId ∧ b.roots = a.roots ∧ b.island = a.island ∧ a.rollback ≤ b.rollback
    ∧ ∀ i, bitAt a.revoked i = true → bitAt b.revoked i = true

/-- The addressed memories of the model are in canonical form: the Process Data Store by variable (R222), the recorder's
ring by slot (R350) and its counter area (R357). Keys rise strictly and no entry is what an unlisted one reads as. -/
def State.buffersWf (s : State) : Bool :=
  twf {} s.lgb.vars && twf [] s.evr.mem && twf none s.evr.area

end Sys2Proof.Machine
end

