-- ==== Sys2Proof/Certificates/Slice0/Obligations.lean ====
section
/-! DEFINITION. The statements for the provers. -/

open Sys2Proof Sys2Proof.Machine

/-- A host write acts by the register's access code, in every space it can address: REGISTER_WRITE completes. In each of the eight blocks ones written to an ALARM register clear their bits and no other, but for a bit whose set event falls at that instant; a write to ALARM_EN sets its defined bits; EVR_WIN_BASE takes the value; the clears of the error counts, the capture, FF_BRINE and wake_fail act on ones; every other register below the Far Window outside the doorbell pages stays as it is; a doorbell page on its tenant's path takes the write, a page on another path ignores it; a reserved offset is ignored and sets rsv_access; a write that meets a poisoned word is dropped with ecc_ue and the AER status set; one whose word has a single-bit error corrects and counts it. In the Far Window FW_ERR clears ones, FW_LOCK and the module's words act as their own commands, other control words ignore it. In BAR2 a table word takes the value, unmasking a vector sends its pending message, and the rest ignores it. In configuration space the BARs take their bases, Device Control 2 sets the completion timeout, Device Control is kept (its place and the codes are the model's choice, log) and no other word has an effect. A 64-bit write is its two halves, the lower address first; to a remote module it is one write of 8 B. -/
def Obligations.RegisterWriteActsByAccessCode : Prop :=
  (∀ s off r m v n, (off, r, m) ∈ alarmRegs → poisonedBacking s off = none →
    exec (.registerWrite .bar0 off [⟨v, n, false⟩]) s = .next (putAlarm s r (alarmOf s r &&& ~~~(v &&& ~~~n))))
  ∧ (∀ s off r m v n, (off, r, m) ∈ alarmRegs → poisonedBacking s (off + 4) = none →
    exec (.registerWrite .bar0 (off + 4) [⟨v, n, false⟩]) s = .next (putAlarmEn s r (v &&& m)))
  ∧ (∀ s v n, poisonedBacking s 0x440030 = none →
    exec (.registerWrite .bar0 0x440030 [⟨v, n, false⟩]) s = .next { s with evr := { s.evr with winBase := v } })
  ∧ (∀ s off v n, off < 0x800000 → (readReg s off).isSome = true → poisonedBacking s off = none →
    (off < 0x100000 ∨ 0x200000 ≤ off) → off ∉ [0x48, 0x4C, 0x20001C, 0x440030, 0x480100] →
    (∀ e ∈ alarmRegs, off ≠ e.1 ∧ off ≠ e.1 + 4) → exec (.registerWrite .bar0 off [⟨v, n, false⟩]) s = .next s)
  ∧ (∀ s off x, off < 0x800000 → readReg s off = none →
    exec (.registerWrite .bar0 off [x]) s = .next (rsvAccess s off))
  ∧ (∀ s off x m w, off < 0x800000 → (readReg s off).isSome = true → poisonedBacking s off = some (m, w) →
    ∃ t, exec (.registerWrite .bar0 off [x]) s = .next t ∧ t.glob.aer = true ∧ bitAt t.glob.err 1 = true
      ∧ t.glob.ueCount = sat32 (s.glob.ueCount + 1))
  ∧ (∀ s n x, n < 257 → bitAt x.v 0 = false → s.host.pba.contains n = true →
    exec (.registerWrite .bar2 (n * 16 + 12) [x]) s
      = .next { s with host := { s.host with
          msix := tset none s.host.msix (4 * n + 3) (some x.v), pba := sdel s.host.pba n, sent := s.host.sent ++ [n] } })
  ∧ (∀ s n x, n < 257 → bitAt x.v 0 = true ∨ s.host.pba.contains n = false →
    exec (.registerWrite .bar2 (n * 16 + 12) [x]) s
      = .next { s with host := { s.host with msix := tset none s.host.msix (4 * n + 3) (some x.v) } })
  ∧ (∀ s n k x, n < 257 → k < 3 → exec (.registerWrite .bar2 (n * 16 + 4 * k) [x]) s
      = .next { s with host := { s.host with msix := tset none s.host.msix (4 * n + k) (some x.v) } })
  ∧ (∀ s off x, 0x1010 ≤ off → exec (.registerWrite .bar2 off [x]) s = .next s)
  ∧ (∀ s v n, poisonedBacking s 0x48 = none → exec (.registerWrite .bar0 0x48 [⟨v, n, false⟩]) s
      = exec (.globalEccClear v false false) s)
  ∧ (∀ s v n, poisonedBacking s 0x4C = none → exec (.registerWrite .bar0 0x4C [⟨v, n, false⟩]) s
      = exec (.eccCaptureRelease ⟨v, (bitAt n 31)⟩) s)
  ∧ (∀ s v n, poisonedBacking s 0x20001C = none → exec (.registerWrite .bar0 0x20001C [⟨v, n, false⟩]) s
      = exec (.ffBrineClear v) s)
  ∧ (∀ s v n, poisonedBacking s 0x480100 = none → bitAt v 31 = true → bitAt n 31 = false →
    exec (.registerWrite .bar0 0x480100 [⟨v, n, false⟩]) s = .next { s with pwc := { s.pwc with wakeFail := false } })
  ∧ (∀ s t o v n, t < 256 → o < 0x1000 → (pageReg s t o).isSome = true →
    poisonedBacking s (0x100000 + t * 0x1000 + o) = none →
    exec (.registerWrite .bar0 (0x100000 + t * 0x1000 + o) [⟨v, n, false⟩]) s
      = .next (if pageOn (tenant s t) t .pcie then (pageWrite s t o v .pcie (0x100000 + t * 0x1000 + o)).getD s else s))
  ∧ (∀ s off (x : HostWrite) m w, off < 0x800000 → (readReg s off).isSome = true → poisonedBacking s off = none →
    Config.backing off = (m, w) → (readReg (correctable s m w) off).isSome = true →
    exec (.registerWrite .bar0 off [{ x with single := true }]) s
      = exec (.registerWrite .bar0 off [{ x with single := false }]) (correctable s m w))
  ∧ (∀ s f o x, f < 256 → o < 0x7FC0 → exec (.registerWrite .bar0 (0x800000 + f * 0x8000 + o) [x]) s
      = exec (.farHostWrite f o (leBytes 4 x.v.toNat)) s)
  ∧ (∀ s f x, f < 256 → exec (.registerWrite .bar0 (0x800000 + f * 0x8000 + 0x7FC4) [x]) s
      = .next { s with far := { s.far with
          targets := tset {} s.far.targets f { farOf s f with err := (farOf s f).err &&& ~~~(x.v &&& ~~~x.setNow) } } })
  ∧ (∀ s f x, f < 256 → exec (.registerWrite .bar0 (0x800000 + f * 0x8000 + 0x7FCC) [x]) s = exec (.fwLockWrite f x.v) s)
  ∧ (∀ s f o x, f < 256 → 0x7FC0 ≤ o → o < 0x8000 → o ≠ 0x7FC4 → o ≠ 0x7FCC →
    exec (.registerWrite .bar0 (0x800000 + f * 0x8000 + o) [x]) s = .next s)
  ∧ (∀ s x, exec (.registerWrite .config 0x10 [x]) s
        = .next { s with host := { s.host with bar0 := putHalf s.host.bar0 false x.v 24 } }
      ∧ exec (.registerWrite .config 0x14 [x]) s
        = .next { s with host := { s.host with bar0 := putHalf s.host.bar0 true x.v 0 } }
      ∧ exec (.registerWrite .config 0x18 [x]) s
        = .next { s with host := { s.host with bar2 := putHalf s.host.bar2 false x.v 16 } }
      ∧ exec (.registerWrite .config 0x1C [x]) s
        = .next { s with host := { s.host with bar2 := putHalf s.host.bar2 true x.v 0 } })
  ∧ (∀ s off x, off ∉ [0x10, 0x14, 0x18, 0x1C] → exec (.registerWrite .config off [x]) s
      = .next { s with host :=
          if off = Config.devCtl2 then { s.host with completionUs := completionCode (x.v.toNat % 16) }
          else if off = Config.devCtl2 - 0x20 then { s.host with devCtl := x.v &&& 0xFFFF } else s.host })
  ∧ (∀ s f o x y, f < 256 → o < 0x7FC0 → exec (.registerWrite .bar0 (0x800000 + f * 0x8000 + o) [x, y]) s
      = exec (.farHostWrite f o (leBytes 4 x.v.toNat ++ leBytes 4 y.v.toNat)) s)
  ∧ (∀ bar off x y s, (bar = .bar0 → off < 0x800000 ∨ 0x1000000 ≤ off ∨ 0x7FC0 ≤ off % 0x8000) → ∃ t, exec (.registerWrite bar off [x]) s = .next t
      ∧ exec (.registerWrite bar off [x, y]) s = exec (.registerWrite bar (off + 4) [y]) t)

/-- Host reads, PTM dialogues, and accesses to reserved offsets or with too few byte enables: RESERVED_ACCESS and NARROW_WRITE complete. Below the Far Window a read of a reserved offset returns 0, a write to one is ignored, and both set rsv_access; a read of any other offset whose word is not poisoned returns its value and has its side effect; a narrow write is ignored and sets narrow_access, and rsv_access too at a reserved offset; GLOBAL_BAD_ACCESS_ADDR captures the offset only if both bits were clear; nothing but GLOBAL_ERR, the captured address, the returned data and the interrupt vector changes. A read of a poisoned word completes with the EP bit, a free value and the error counted. In the Far Window a control word is read at once and another word is a far read; a narrow write to a control word sets narrow_access and one below them sends the enabled bytes. BAR2 reads as its table and Pending Bit Array, else 0; configuration space returns the bits the spec gives (their places are the model's choice, log), the others free: IDs, revision and class, and the bases of the two 64-bit BARs among them. A 64-bit read is two reads, the lower address first; of a remote module it is one read of 8 B. A PTM dialogue records the host's time with TRT. With all four bytes enabled a narrow write is a register write. -/
def Obligations.ReservedAndNarrowAccessesCapture : Prop :=
  (∀ s off, off < 0x800000 → readReg s off = none → ∃ t, exec (.reservedAccess .read ⟨.bar0, off⟩) s = .next t
    ∧ t.glob.readData = [0] ∧ t.glob.readPoisoned = false ∧ t.glob.err = setBit s.glob.err 2 true
    ∧ t.glob.badAddr = (if bitAt s.glob.err 2 || bitAt s.glob.err 3 then s.glob.badAddr else BitVec.ofNat 24 off)
    ∧ { t with glob := s.glob, host := s.host } = s)
  ∧ (∀ s off, off < 0x800000 → readReg s off = none → ∃ t, exec (.reservedAccess .write ⟨.bar0, off⟩) s = .next t
    ∧ t.glob.readData = s.glob.readData ∧ t.glob.err = setBit s.glob.err 2 true
    ∧ t.glob.badAddr = (if bitAt s.glob.err 2 || bitAt s.glob.err 3 then s.glob.badAddr else BitVec.ofNat 24 off)
    ∧ { t with glob := s.glob, host := s.host } = s)
  ∧ (∀ s off be v, off < 0x800000 → be ≠ 15 → ∃ t, exec (.narrowWrite off be v) s = .next t
    ∧ t.glob.err = setBit (if (readReg s off).isNone then setBit s.glob.err 2 true else s.glob.err) 3 true
    ∧ t.glob.badAddr = (if bitAt s.glob.err 2 || bitAt s.glob.err 3 then s.glob.badAddr else BitVec.ofNat 24 off)
    ∧ { t with glob := s.glob, host := s.host } = s)
  ∧ (∀ s off, off < 0x800000 → (readReg s off).isSome = true → exec (.reservedAccess .write ⟨.bar0, off⟩) s = .next s)
  ∧ (∀ s off v, off < 0x800000 → readReg s off = some v → poisonedBacking s off = none →
    exec (.reservedAccess .read ⟨.bar0, off⟩) s
      = .next (readEffect { s with glob := { s.glob with readData := [v], readPoisoned := false } } off))
  ∧ (∀ s off v m w, off < 0x800000 → readReg s off = some v → poisonedBacking s off = some (m, w) →
    ∃ t, exec (.reservedAccess .read ⟨.bar0, off⟩) s = .next (memReact t m w)
      ∧ t.glob.readData = [word (Config.free s.draws)] ∧ t.glob.readPoisoned = true
      ∧ t.glob.ueCount = sat32 (s.glob.ueCount + 1) ∧ bitAt t.glob.err 1 = true)
  ∧ (∀ s f o, f < 256 → 0x7FC0 ≤ o → o < 0x8000 → exec (.reservedAccess .read ⟨.bar0, (0x800000 + f * 0x8000 + o)⟩) s
      = .next { s with glob := { s.glob with readData := [farWord s f o], readPoisoned := false } })
  ∧ (∀ s f o, f < 256 → o < 0x7FC0 → exec (.reservedAccess .read ⟨.bar0, (0x800000 + f * 0x8000 + o)⟩) s
      = exec (.farHostRead f o 4) s)
  ∧ (∀ s off, exec (.reservedAccess .read ⟨.bar2, off⟩) s
      = .next { s with glob := { s.glob with readData := [bar2Word s (off / 4 * 4)], readPoisoned := false } })
  ∧ (∀ s off, ∃ t r, exec (.reservedAccess .read ⟨.config, off⟩) s = .next t ∧ t.glob.readData = [r]
      ∧ t.glob.readPoisoned = false ∧ r &&& (configGiven s off).1 = (configGiven s off).2 &&& (configGiven s off).1
      ∧ { t with glob := s.glob, draws := s.draws } = s)
  ∧ (∀ s, (configGiven s 0).2 = 0x96641F8A ∧ (configGiven s 8).2 = 0x028000B0 ∧ (configGiven s 0x2C).2 = 0x96641F8A
      ∧ (configGiven s 0x10).2 = halfOf s.host.bar0 false &&& 0xFF000000 ||| 4
      ∧ (configGiven s 0x18).2 = halfOf s.host.bar2 false &&& 0xFFFF0000 ||| 4
      ∧ ∀ off, off ∈ [0, 8, 0x2C, 0x10, 0x18] → (configGiven s off).1 = 0xFFFFFFFF)
  ∧ (∀ s f o, f < 256 → o < 0x7FC0 → exec (.reservedAccess .read64 ⟨.bar0, (0x800000 + f * 0x8000 + o)⟩) s
      = exec (.farHostRead f o 8) s)
  ∧ (∀ bar off s, (bar = .bar0 → off < 0x800000 ∨ 0x1000000 ≤ off ∨ 0x7FC0 ≤ off % 0x8000) → ∃ t u, exec (.reservedAccess .read ⟨bar, off⟩) s = .next t
      ∧ exec (.reservedAccess .read ⟨bar, (off + 4)⟩) t = .next u
      ∧ exec (.reservedAccess .read64 ⟨bar, off⟩) s = .next { u with glob := { u.glob with
          readData := t.glob.readData ++ u.glob.readData, readPoisoned := t.glob.readPoisoned || u.glob.readPoisoned } })
  ∧ (∀ bar off h s, exec (.reservedAccess (.ptm h) ⟨bar, off⟩) s
      = .next { s with host := { s.host with ptm := some (h, trtNs s) } })
  ∧ (∀ off v s, exec (.narrowWrite off 15 v) s = exec (.registerWrite .bar0 off [⟨v, 0, false⟩]) s)
  ∧ (∀ s f o be v, f < 256 → 0x7FC0 ≤ o → o < 0x8000 → be ≠ 15 →
    ∃ t, exec (.narrowWrite (0x800000 + f * 0x8000 + o) be v) s = .next t ∧ t.glob.err = setBit s.glob.err 3 true
      ∧ { t with glob := s.glob, host := s.host } = s)
  ∧ (∀ s f o v, f < 256 → o < 0x7FC0 → exec (.narrowWrite (0x800000 + f * 0x8000 + o) 6 v) s
      = exec (.farHostWrite f (o + 1) [BitVec.ofNat 8 (v.toNat / 256), BitVec.ofNat 8 (v.toNat / 65536)]) s)

/-- GLOBAL_ECC_LAST and the error counts: From every state: an error found while no capture is held is captured with its kind, memory and word; an uncorrectable one replaces a held correctable capture; none replaces a held uncorrectable one and a correctable one replaces nothing; a release clears valid alone, and a capture that falls at the instant of the release leaves it set; a clear that meets an increment counts it after the clear, so that the count reads 1; either write is dropped where its word is poisoned, which is counted and sets ecc_ue and the AER status. For an uncorrectable error the clauses speak of the state to which the reaction of Table 1-5 is then applied. An error that a functional write meets in between leaves no poison; one of the MGP's SRAM that its firmware cannot recover from also restarts the control plane. The finds of one pass act in their order. -/
def Obligations.EccLastCapturesFirstError : Prop :=
  (∀ s m w r f, 1 ≤ m → m ≤ 16 → ∃ t, exec (.patrolScrub [⟨m, w, .single, r, f⟩]) s = .next t
    ∧ t.glob.ceCount = sat32 (s.glob.ceCount + 1) ∧ t.glob.eccValid = true
    ∧ (t.glob.eccUe, t.glob.eccMem, t.glob.eccWord)
      = if s.glob.eccValid then (s.glob.eccUe, s.glob.eccMem, s.glob.eccWord)
        else (false, BitVec.ofNat 6 m, BitVec.ofNat 24 w))
  ∧ (∀ s m w f, 1 ≤ m → m ≤ 16 → m ≠ 8 ∨ f = false →
    ∃ u, exec (.patrolScrub [⟨m, w, .double, false, f⟩]) s = .next (memReact u m w)
    ∧ u.glob.ueCount = sat32 (s.glob.ueCount + 1) ∧ poisoned u m w = true ∧ u.glob.eccValid = true
    ∧ (u.glob.eccUe, u.glob.eccMem, u.glob.eccWord)
      = if s.glob.eccValid ∧ s.glob.eccUe then (true, s.glob.eccMem, s.glob.eccWord)
        else (true, BitVec.ofNat 6 m, BitVec.ofNat 24 w))
  ∧ (∀ s v, poisonedBacking s 0x4C = none → bitAt v 31 = true → exec (.eccCaptureRelease ⟨v, false⟩) s
      = .next { s with glob := { s.glob with eccValid := false } })
  ∧ (∀ s v c u, poisonedBacking s 0x48 = none → bitAt v 0 = true → exec (.globalEccClear v c u) s
      = .next { s with glob := { s.glob with ceCount := b2n c, ueCount := b2n u } })
  ∧ (∀ s v, poisonedBacking s 0x4C = none → exec (.eccCaptureRelease ⟨v, true⟩) s = .next s)
  ∧ (∀ s m w, (poisonedBacking s 0x4C = some (m, w) → ∀ v, exec (.eccCaptureRelease v) s = .next (dropWrite s m w))
      ∧ (poisonedBacking s 0x48 = some (m, w) → ∀ v c u, exec (.globalEccClear v c u) s = .next (dropWrite s m w))
      ∧ (dropWrite s m w).glob.aer = true ∧ bitAt (dropWrite s m w).glob.err 1 = true
      ∧ (dropWrite s m w).glob.ueCount = sat32 (s.glob.ueCount + 1) ∧ (dropWrite s m w).fab = s.fab)
  ∧ (∀ s m w f u, 1 ≤ m → m ≤ 16 → exec (.patrolScrub [⟨m, w, .double, false, f⟩]) s = .next u →
    exec (.patrolScrub [⟨m, w, .double, true, f⟩]) s = .next (unpoison u m w))
  ∧ (∀ s w u, exec (.patrolScrub [⟨8, w, .double, false, false⟩]) s = .next u →
    exec (.patrolScrub [⟨8, w, .double, false, true⟩]) s = .next (controlRestart u))
  ∧ (∀ s a l, ∃ t, exec (.patrolScrub [a]) s = .next t ∧ exec (.patrolScrub (a :: l)) s = exec (.patrolScrub l) t)
  ∧ (∀ s v, poisonedBacking s 0x48 = none → bitAt v 0 = false → exec (.globalEccClear v false false) s
      = .next { s with glob := { s.glob with ceCount := sat32 s.glob.ceCount, ueCount := sat32 s.glob.ueCount } })

/-- The MGP rewrites a poisoned entry from its shadow copy: SHADOW_RESTORE completes while the MGP runs, for each of the memories 0x02 to 0x07 it keeps a copy of: the poison of every word of the entry (which words those are is the implementation's, log) is cleared and nothing else changes, except that in the FDB the learned entries of the bucket are gone while every static entry stays. A word that is not poisoned, and any word while the MGP does not run, stays as it is. -/
def Obligations.ShadowCopyRestoresPoisonedEntry : Prop :=
  (∀ s m w, 3 ≤ m → m ≤ 7 → poisoned s m w = true → mgpRuns s = true →
    exec (.shadowRestore m w) s = .next (unpoisonEntry s m (Config.entryOf m w)))
  ∧ (∀ s w, poisoned s 2 w = true → mgpRuns s = true → ∃ t, exec (.shadowRestore 2 w) s = .next t
    ∧ t.glob = (unpoisonEntry s 2 (Config.entryOf 2 w)).glob
    ∧ t.fab.fdb.entries.filter FdbEntry.isStatic = s.fab.fdb.entries.filter FdbEntry.isStatic
    ∧ (∀ e ∈ t.fab.fdb.entries, e ∈ s.fab.fdb.entries)
    ∧ { t with glob := s.glob, fab := { t.fab with fdb := { t.fab.fdb with entries := s.fab.fdb.entries } } } = s)
  ∧ (∀ s m w, poisoned s m w = false ∨ mgpRuns s = false → exec (.shadowRestore m w) s = .next s)
  ∧ (∀ s m k j w, poisoned (unpoisonEntry s m k) j w
      = (poisoned s j w && !(j == m && Config.entryOf m w == k)))

/-- TMS, CSS, INE, PWC, AGM and EVR reads latch the words that belong to them: TIME_SLOT_LATCH, DRIFT_LATCH, LEADER_ID_LATCH, TRT_STEP_RECORD_LATCH, CSS_LEADER_LATCH, CSS_ORIGIN_LATCH, INE_STEP_LATCH, SLEEP_AT_LATCH, KEEPER_LATCH, EOM_SEC_LATCH and EVR_WIN_LATCH complete where the word read is not backed by a poisoned one. A time slot read returns TRT ns and latches TRT, WYT, their validity and trt_epoch into that slot alone with its count one higher; a DRIFT or leader _LO read latches its _HI; a step seconds read latches the step record; every other one returns the low word and latches exactly the words its rule names; EVR_WIN word 0 latches the 8 words of its entry and sets EVR_LATCH_TAG. Nothing else changes. -/
def Obligations.ReadsLatchTheirShadows : Prop :=
  (∀ s k, k < 8 → poisonedBacking s (0x300100 + k * 0x40) = none → exec (.timeSlotLatch k) s
    = .next { s with
        tms := { s.tms with
          slots := tset {} s.tms.slots k
                     { trt := s.tms.trt, wyt := s.tms.wyt, trtValid := trtValid s, wytValid := wytValid s
                       epoch := s.tms.trtEpoch, count := (tget {} s.tms.slots k).count + 1 } }
        glob := { s.glob with readData := [word (trtNs s % 1000000000)], readPoisoned := false } })
  ∧ (∀ s, poisonedBacking s 0x300010 = none → exec (.driftLatch .trt) s
    = .next { s with
        tms := { s.tms with trtDriftHi := wordI (s.tms.trtDrift / 2 ^ 32) }
        glob := { s.glob with readData := [wordI s.tms.trtDrift], readPoisoned := false } })
  ∧ (∀ s, poisonedBacking s 0x300018 = none → exec (.driftLatch .wyt) s
    = .next { s with
        tms := { s.tms with wytDriftHi := wordI (s.tms.wytDrift / 2 ^ 32) }
        glob := { s.glob with readData := [wordI s.tms.wytDrift], readPoisoned := false } })
  ∧ (∀ s, poisonedBacking s 0x300020 = none → exec .leaderIdLatch s
    = .next { s with
        tms := { s.tms with leaderHi := (s.tms.leaderId >>> 32).truncate 32 }
        glob := { s.glob with readData := [s.tms.leaderId.truncate 32], readPoisoned := false } })
  ∧ (∀ s, poisonedBacking s 0x300080 = none → exec .trtStepRecordLatch s
    = .next { s with
        tms := { s.tms with stepLatch := s.tms.stepRec }
        glob := { s.glob with readData := [wordI s.tms.stepRec.sec], readPoisoned := false } })
  ∧ (∀ s, poisonedBacking s 0x340018 = none → exec .cssLeaderLatch s
    = .next { s with
        css := { s.css with leaderHi := (s.css.leader >>> 32).truncate 32 }
        glob := { s.glob with readData := [s.css.leader.truncate 32], readPoisoned := false } })
  ∧ (∀ s, poisonedBacking s 0x340020 = none → exec .cssOriginLatch s
    = .next { s with
        css := { s.css with
          originHi := secHi (s.css.origin / 1000000000 : Nat), originNs := word (s.css.origin % 1000000000) }
        glob := { s.glob with readData := [word (s.css.origin / 1000000000)], readPoisoned := false } })
  ∧ (∀ s, poisonedBacking s 0x380028 = none → exec .ineStepLatch s
    = .next { s with
        ine := { s.ine with stepLatch := word s.ine.stepNs }
        glob := { s.glob with readData := [wordI s.ine.stepSec], readPoisoned := false } })
  ∧ (∀ s, poisonedBacking s 0x480018 = none → exec .sleepAtLatch s
    = .next { s with
        pwc := { s.pwc with
          sleepHi := secHi (s.pwc.sleepAt / 1000000000 : Nat), sleepNs := word (s.pwc.sleepAt % 1000000000) }
        glob := { s.glob with readData := [word (s.pwc.sleepAt / 1000000000)], readPoisoned := false } })
  ∧ (∀ s, poisonedBacking s 0x480028 = none → exec .keeperLatch s
    = .next { s with
        pwc := { s.pwc with
          keeperHi := ((longestKeeper s).1 >>> 32).truncate 32
          keeperInfo := word (min (longestKeeper s).2.1 0xFFFFFF * 256 + (longestKeeper s).2.2 % 256) }
        glob := { s.glob with readData := [(longestKeeper s).1.truncate 32], readPoisoned := false } })
  ∧ (∀ s, poisonedBacking s 0x441018 = none → exec .eomSecLatch s
    = .next { s with
        agm := { s.agm with eomHi := secHi s.agm.eomSec }
        glob := { s.glob with readData := [word s.agm.eomSec], readPoisoned := false } })
  ∧ (∀ s i, i < 4096 → poisonedBacking s (0x450000 + i * 0x20) = none → exec (.evrWinLatch i) s
    = .next { s with
        evr := { s.evr with latch := winWords s i, latchTag := word i }
        glob := { s.glob with readData := [(winWords s i).getD 0 0], readPoisoned := false } })

/-- FF counters, last-discard records and FF_BRINE_CLEAR: FF_COUNTER_LATCH completes at every 64-bit counter's low word whose backing is not poisoned: it returns the low half and latches the high half and the word's offset; LAST_DISCARD_LATCH returns word 0, latches words 1 to 3 and clears the live count of that tenant's record alone; FF_BRINE_CLEAR with bit 0 set, its word not poisoned, makes FF_BRINE_SHARED_MIN the present free count; nothing else changes. -/
def Obligations.FabricReadsLatchTheirShadows : Prop :=
  (∀ s off c, off < 0x100000 → ffCounter s off = some c → poisonedBacking s (0x200000 + off) = none →
    exec (.ffCounterLatch off) s = .next { s with
      fab := { s.fab with
        bit := { s.fab.bit with latchHi := (c >>> 32).truncate 32, latchTag := word off } }
      glob := { s.glob with readData := [c.truncate 32], readPoisoned := false } })
  ∧ (∀ s t, t < 256 → poisonedBacking s (0x240000 + t * 0x10) = none →
    exec (.lastDiscardLatch t) s = .next { s with
      fab := { s.fab with
        bit := { s.fab.bit with
          last := tmod {} s.fab.bit.last t fun r => { r with l1 := r.w1, l2 := r.w2, l3 := word r.live, live := 0 } } }
      glob := { s.glob with readData := [(tget {} s.fab.bit.last t).w0], readPoisoned := false } })
  ∧ (∀ s v, poisonedBacking s 0x20001C = none → bitAt v 0 = true → exec (.ffBrineClear v) s = .next { s with fab := { s.fab with sharedMin := sharedFree s } })

/-- Writes of the doorbell page and the interrupt holdoff: On the pages of tenants 0 to 255 COMMAND_DOORBELL, MBX_T_RESET_WRITE and EVENT_RING_ROOM take effect, elsewhere they have none, and a posted write to a poisoned word is dropped: the index takes the value, NAP ends at a doorbell, SPIT_IRQ# falls where nothing is pending any more, and lost events are told where there is room; more than 64 commands ahead, or more than a queue's size at QUEUE_PRODUCER_WRITE, faults a CONFIGURED or OPEN tenant with RING_OVERRUN where it happened; a DMA read unanswered for the completion timeout faults it with DMA_ERROR; an SPI tenant has no queues; bit 0 of MBX_T_RESET puts a tenant into RESETTING; the vector is raised when the holdoff that held it back ends. -/
def Obligations.DoorbellPageWritesTakeEffect : Prop :=
  (∀ s t p, t < 256 → ((tenant s t).attach = .spi ∨ poisonedBacking s (0x100000 + t * 0x1000 + 0x040) = none) →
    (p - (tenant s t).cmdCons).toNat ≤ 64 →
    exec (.commandDoorbell t p) s = .next (napEnd (modTenant s t fun x => { x with cmdProd := p })))
  ∧ (∀ s t p, t < 256 → ((tenant s t).attach = .spi ∨ poisonedBacking s (0x100000 + t * 0x1000 + 0x040) = none) →
    64 < (p - (tenant s t).cmdCons).toNat → ((tenant s t).state = .opened ∨ (tenant s t).state = .configured) →
    exec (.commandDoorbell t p) s
      = .next (raiseTenant (modTenant (napEnd (modTenant s t fun x => { x with cmdProd := p })) t
          fun x => { x with state := .faulted, faultWhere := 0x20, faultCode := 2 }) t))
  ∧ (∀ s t p, t < 256 → ((tenant s t).attach = .spi ∨ poisonedBacking s (0x100000 + t * 0x1000 + 0x040) = none) →
    (tenant s t).state ≠ .opened → (tenant s t).state ≠ .configured →
    exec (.commandDoorbell t p) s = .next (napEnd (modTenant s t fun x => { x with cmdProd := p })))
  ∧ (∀ s t w, 256 ≤ t → exec (.commandDoorbell t w) s = .next s ∧ exec (.mbxTResetWrite t w) s = .next s
    ∧ exec (.eventRingRoom t w) s = .next s ∧ ∀ r q, exec (.queueProducerWrite t r q w) s = .next s)
  ∧ (∀ s t w m k, t < 256 → (tenant s t).attach ≠ .spi →
    (poisonedBacking s (0x100000 + t * 0x1000 + 0x040) = some (m, k) →
      exec (.commandDoorbell t w) s = .next (dropWrite s m k))
    ∧ (poisonedBacking s (0x100000 + t * 0x1000 + 0x00C) = some (m, k) →
      exec (.mbxTResetWrite t w) s = .next (dropWrite s m k))
    ∧ (poisonedBacking s (0x100000 + t * 0x1000 + 0x054) = some (m, k) →
      exec (.eventRingRoom t w) s = .next (dropWrite s m k))
    ∧ ∀ r q, q < 8 → poisonedBacking s (0x100000 + t * 0x1000 + (0x10C + 0x100 * b2n r + 0x20 * q)) = some (m, k) →
      exec (.queueProducerWrite t r q w) s = .next (dropWrite s m k))
  ∧ (∀ s t v, t < 256 → ((tenant s t).attach = .spi ∨ poisonedBacking s (0x100000 + t * 0x1000 + 0x00C) = none) →
    (bitAt v 0 = false ∨ (tenant s t).state = .free) → exec (.mbxTResetWrite t v) s = .next s)
  ∧ (∀ s t v, t < 256 → ((tenant s t).attach = .spi ∨ poisonedBacking s (0x100000 + t * 0x1000 + 0x00C) = none) →
    bitAt v 0 = true → (tenant s t).state ≠ .free →
    exec (.mbxTResetWrite t v) s = .next (modTenant s t fun x => { x with state := .resetting, resetDue := true }))
  ∧ (∀ s t c, t < 256 → ((tenant s t).attach = .spi ∨ poisonedBacking s (0x100000 + t * 0x1000 + 0x054) = none) →
    ((tenant s t).lostNow = 0 ∨ bitAt (tenant s t).ctrl 1 = false
      ∨ eventRing (tenant s t) ≤ ((tenant s t).evtProd - c).toNat) →
    exec (.eventRingRoom t c) s = .next (modTenant s t fun x => irqSettle { x with evtCons := c }))
  ∧ (∀ s t c, t < 256 → ((tenant s t).attach = .spi ∨ poisonedBacking s (0x100000 + t * 0x1000 + 0x054) = none) →
    (tenant s t).lostNow ≠ 0 → bitAt (tenant s t).ctrl 1 = true →
    ((tenant s t).evtProd - c).toNat < eventRing (tenant s t) →
    exec (.eventRingRoom t c) s
      = .next (event (modTenant (modTenant s t fun x => irqSettle { x with evtCons := c }) t fun x => { x with lostNow := 0 })
          t 11 (leBytes 4 (tenant s t).lostNow)))
  ∧ (∀ s t r q p, q < 8 → t < 256 → (tenant s t).attach ≠ .spi →
    poisonedBacking s (0x100000 + t * 0x1000 + (0x10C + 0x100 * b2n r + 0x20 * q)) = none →
    ((queueRead (tenant s t) r q).enabled = true → (p - (queueRead (tenant s t) r q).cons).toNat
      ≤ 2 ^ (queueRead (tenant s t) r q).log2) →
    exec (.queueProducerWrite t r q p) s
      = .next (modTenant s t fun y => queuePut y r q { queueRead (tenant s t) r q with prod := p }))
  ∧ (∀ s t r q p, q < 8 → t < 256 → (tenant s t).attach ≠ .spi →
    poisonedBacking s (0x100000 + t * 0x1000 + (0x10C + 0x100 * b2n r + 0x20 * q)) = none →
    ((tenant s t).state = .opened ∨ (tenant s t).state = .configured) → (queueRead (tenant s t) r q).enabled = true →
    2 ^ (queueRead (tenant s t) r q).log2 < (p - (queueRead (tenant s t) r q).cons).toNat →
    exec (.queueProducerWrite t r q p) s
      = .next (raiseTenant (modTenant (modTenant s t fun y => queuePut y r q { queueRead (tenant s t) r q with prod := p }) t
          fun x => { x with state := .faulted, faultWhere := q + 16 * b2n r, faultCode := 2 }) t))
  ∧ (∀ s t r q p, (8 ≤ q ∨ (tenant s t).attach = .spi) → exec (.queueProducerWrite t r q p) s = .next s)
  ∧ (∀ s t r, (tenant s t).state ≠ .opened → (tenant s t).state ≠ .configured →
    exec (.dmaCompletionTimeout t r) s = .next (untilMono s (s.mono + s.host.completionUs * 1000)))
  ∧ (∀ s t, ((tenant s t).raisedAt = none ∨ (tenant s t).irqWait = false) → exec (.interruptHoldoffEnd t) s = .next s)
  ∧ (∀ s t r, ((tenant s t).state = .opened ∨ (tenant s t).state = .configured) →
    exec (.dmaCompletionTimeout t r) s
      = .next (raiseTenant (modTenant (untilMono s (s.mono + s.host.completionUs * 1000)) t
          fun x => { x with state := .faulted, faultWhere := ringCode r, faultCode := 1 }) t))
  ∧ (∀ s t r, (tenant s t).raisedAt = some r → (tenant s t).irqWait = true →
    exec (.interruptHoldoffEnd t) s = .next (raiseTenant (untilMono s (r + holdoffTicks (tenant s t))) t))

/-- The counter rule of Table 12-12: For every well-formed authenticated command fetched by the MGP for a tenant whose turn it is, with the counter store usable: a CMAC that does not verify gives AUTH_FAIL, one more failure and the same counter; a counter above the last accepted one is accepted, becomes the last and the command is taken up for execution; an equal counter with an equal CMAC gives the cached response with bit 2 set, or status and reason of the short record with bits 2 and 4 and no payload, or is held while the original executes; any other equal or lower counter gives REPLAY; none of these executes again. -/
def Obligations.CounterRuleOfAuthenticatedCommands : Prop :=
  ∀ s t e, nextTurn s = some t ∨ (fetchable s t = true ∧ repeats (tenant s t) e = true) →
    (tenant s t).attach = .pcie → (tenant s t).abortLeft = 0 → inRecovery s = false → s.host.counterOk = true →
    opcodeKnown e.opcode = true → e.opcode ≠ 0x0C04 → e.version = 1 → e.payloadLen ≤ 8192 →
    e.payload.length = e.payloadLen → (e.indirect = true ∨ e.payloadLen ≤ 24) → e.classC = true →
    firstKey s t e.opcode = false →
    let x := tenant s t
    let same := fun (i : Inflight) => i.auth && i.counter == e.counter && i.cmac == e.cmac
    ∃ u, exec (.commandFetch t (.ok e)) s = .next u ∧ (tenant u t).cmdCons = x.cmdCons + 1 ∧
      (cmacGood s t e s.otp.unitId = false → (tenant u t).authFail = x.authFail + 1 ∧ (tenant u t).counter = x.counter
        ∧ (tenant u t).inflight = x.inflight
        ∧ ∃ r, (tenant u t).responses = x.responses ++ [r] ∧ r.status = 3 ∧ r.tag = e.tag ∧ (x.key = none → r.cmac = 0))
      ∧ (cmacGood s t e s.otp.unitId = true → (tenant u t).authFail = x.authFail ∧
        (x.counter.toNat < e.counter.toNat →
          (tenant u t).counter = e.counter ∧ (tenant u t).cacheCmac = e.cmac ∧ (tenant u t).responses = x.responses
          ∧ ∃ i, (tenant u t).inflight = x.inflight ++ [i] ∧ i.opcode = e.opcode ∧ i.tag = e.tag ∧ i.auth = true)
        ∧ (e.counter.toNat < x.counter.toNat → (tenant u t).counter = x.counter ∧ (tenant u t).inflight = x.inflight
          ∧ ∃ r, (tenant u t).responses = x.responses ++ [r] ∧ r.status = 4 ∧ r.tag = e.tag)
        ∧ (e.counter = x.counter → x.inflight.any same = true → (tenant u t).responses = x.responses
          ∧ (tenant u t).inflight = x.inflight.map fun i => if same i then { i with held := i.held ++ [e.tag] } else i)
        ∧ (e.counter = x.counter → x.inflight.any same = false → (tenant u t).inflight = x.inflight
          ∧ (tenant u t).counter = x.counter ∧
          ∃ r, (tenant u t).responses = x.responses ++ [r] ∧ r.tag = e.tag ∧
            (∀ c, x.cache = some c → x.cacheCmac = e.cmac → r = { c with tag := e.tag, flags := c.flags ||| 4 })
            ∧ (x.cache = none → x.shortCmac = cmacHead e.cmac →
                r.status = (statusOf x.shortStatus).code ∧ r.reason = x.shortReason ∧ r.flags = 21 ∧ r.payload = [])
            ∧ (x.cache ≠ none → x.cacheCmac ≠ e.cmac → r.status = 4)
            ∧ (x.cache = none → x.shortCmac ≠ cmacHead e.cmac → r.status = 4)))

/-- A fetched command is taken up, answered or faults its tenant: COMMAND_FETCH completes for the tenant whose turn it is, outside recovery: a well-formed command that needs no authentication is taken up for execution and the consumer index moves on; an unknown opcode completes with UNKNOWN_OPCODE and a bad length with INVALID_ARGUMENT, without a fault; an entry of an SPI tenant is the one its ring holds; a failed DMA read faults the tenant with DMA_ERROR at the command ring; out of turn nothing is fetched. -/
def Obligations.FetchedCommandsEnterExecution : Prop :=
  (∀ s t e, nextTurn s = some t → (tenant s t).attach = .pcie → (tenant s t).abortLeft = 0 → inRecovery s = false →
    opcodeKnown e.opcode = true → e.version = 1 → e.payloadLen ≤ 8192 → e.payload.length = e.payloadLen →
    (e.indirect = true ∨ e.payloadLen ≤ 24) → e.classC = false →
    exec (.commandFetch t (.ok e)) s
      = .next (takeUp (modTenant { s with host := { s.host with served := t } } t
          fun x => { x with cmdCons := x.cmdCons + 1, abortLeft := x.abortLeft - 1 }) t e s.otp.unitId false false))
  ∧ (∀ s t e, nextTurn s = some t → (tenant s t).attach = .pcie → (tenant s t).abortLeft = 0 →
    opcodeKnown e.opcode = false → ∃ u r, exec (.commandFetch t (.ok e)) s = .next u
      ∧ (tenant u t).responses = (tenant s t).responses ++ [r] ∧ r.status = 12 ∧ r.tag = e.tag
      ∧ (tenant u t).state = (tenant s t).state)
  ∧ (∀ s t e, nextTurn s = some t → (tenant s t).attach = .pcie → (tenant s t).abortLeft = 0 →
    opcodeKnown e.opcode = true → 8192 < e.payloadLen → ∃ u r, exec (.commandFetch t (.ok e)) s = .next u
      ∧ (tenant u t).responses = (tenant s t).responses ++ [r] ∧ r.status = 11 ∧ r.tag = e.tag
      ∧ (tenant u t).state = (tenant s t).state)
  ∧ (∀ s t e, nextTurn s ≠ some t → (tenant s t).attach ≠ .spi → (fetchable s t = false ∨ repeats (tenant s t) e = false) →
    exec (.commandFetch t (.ok e)) s = .next s ∧ exec (.commandFetch t .failed) s = .next s)
  ∧ (∀ s t, (tenant s t).attach ≠ .spi → (tenant s t).state ≠ .opened → (tenant s t).state ≠ .configured →
    exec (.commandFetch t .failed) s = .next s)
  ∧ (∀ s t e, (tenant s t).attach = .spi →
    exec (.commandFetch t e) s = exec (.commandFetch t (.ok (spiEntry (tenant s t)))) s)
  ∧ (∀ s t, nextTurn s = some t → (tenant s t).attach = .pcie →
    exec (.commandFetch t .failed) s
      = .next (raiseTenant (modTenant s t
          fun x => { x with state := .faulted, faultWhere := 0x20, faultCode := 1 }) t))

/-- A tenant reset ends in CONFIGURED, or FREE where the tenant is removed: TENANT_RESET_EXECUTE completes for every tenant whose reset is due: it carries out the steps of R305 and afterwards the tenant's queues are disabled, no fault is shown and the reset is over; a command ring that is still overrun faults the CONFIGURED tenant at once; with no reset due it does nothing. -/
def Obligations.TenantResetCarriedOut : Prop :=
  (∀ s t, (tenant s t).resetDue = false → exec (.tenantResetExecute t) s = .next s)
  ∧ (∀ s t, (tenant s t).resetDue = true → exec (.tenantResetExecute t) s = .next (ringCheck (resetTenant s t) t))
  ∧ (∀ s t, (tenant s t).resetDue = true →
    (tenant (resetTenant s t) t).resetDue = false ∧ (tenant (resetTenant s t) t).faultCode = 0
    ∧ (tenant (resetTenant s t) t).features = 0
    ∧ (∀ q r, (queueRead (tenant (resetTenant s t) t) r q).enabled = false)
    ∧ ((tenant s t).removing = false → (tenant (resetTenant s t) t).state = .configured)
    ∧ ((tenant s t).removing = true → (tenant (resetTenant s t) t).state = .free
      ∧ (tenant (resetTenant s t) t).rights = 0 ∧ (tenant (resetTenant s t) t).key = none))
  ∧ (∀ s t, ((tenant s t).cmdProd - (tenant s t).cmdCons).toNat ≤ 64 ∨ (tenant s t).state = .free
      ∨ (tenant s t).state = .faulted ∨ (tenant s t).state = .resetting → ringCheck s t = s)
  ∧ (∀ s t, 64 < ((tenant s t).cmdProd - (tenant s t).cmdCons).toNat → (tenant s t).state = .configured →
    (tenant (ringCheck s t) t).state = .faulted ∧ (tenant (ringCheck s t) t).faultCode = 2
    ∧ (tenant (ringCheck s t) t).faultWhere = 0x20)

/-- TX and RX descriptors: TX_DESCRIPTOR completes for every kind on a queue that works: kind 0 enters the fabric, kind 1 goes to the port named if the tenant's port set holds it, kind 2 takes the MAC and VLAN of its alias entry, kind 3 commits to its slot with the status of the commit and prod_seq as stamp, kind 4 goes to a CAN port; each is completed with its status; a bad kind, a bad length or a failed read faults the tenant. RX_DELIVERY puts the frame the queue delivers next, the oldest of the highest rank, into the next descriptor, and discards one that is longer than the buffer while it keeps the descriptor. On a queue that does not work nothing happens. -/
def Obligations.DescriptorsAreConsumedInOrder : Prop :=
  (∀ s t q d, q < 8 → txReady s t q = true → d.kind = 0 → 1 ≤ d.length → d.length ≤ 9216 →
    exec (.txDescriptor t q (.ok d)) s
      = .next (txComplete (txInject s t q { d.frame with len := d.length, fcsOk := true } none d.stamp) t q d.irq .ok 0))
  ∧ (∀ s t q d, q < 8 → txReady s t q = true → d.kind = 1 → 1 ≤ d.length → d.length ≤ 9216 → d.port < 96 →
    hasPort s t d.port = true → exec (.txDescriptor t q (.ok d)) s
      = .next (txComplete (txInject s t q { d.frame with len := d.length, fcsOk := true } (some d.port) d.stamp)
          t q d.irq .ok 0))
  ∧ (∀ s t q d, q < 8 → txReady s t q = true → d.kind = 1 → 1 ≤ d.length → d.length ≤ 9216 → d.port < 96 →
    hasPort s t d.port = false → exec (.txDescriptor t q (.ok d)) s = .next (txComplete s t q d.irq .notPermitted 0))
  ∧ (∀ s t q d a, q < 8 → txReady s t q = true → d.kind = 2 → 1 ≤ d.length → d.length ≤ 9216 →
    aliasLookup s d.dest = some a → exec (.txDescriptor t q (.ok d)) s
      = .next (txComplete (txInject s t q (toAlias { d.frame with len := d.length, fcsOk := true } a) none d.stamp)
          t q d.irq .ok 0))
  ∧ (∀ s t q d i u, q < 8 → txReady s t q = true → d.kind = 3 → 1 ≤ d.length → d.length ≤ 9216 →
    commitSlot s d.dest t (d.data.take d.length) = (.ok, u) → slotIndex u d.dest = some i →
    exec (.txDescriptor t q (.ok d)) s
      = .next (txComplete u t q d.irq .ok (((u.css.slots[i]?).map TxSlot.prodSeq).getD 0)))
  ∧ (∀ s t q d, q < 8 → txReady s t q = true → d.kind = 4 → 1 ≤ d.length → d.length ≤ 9216 → portKind d.port = .can →
    hasPort s t d.port = true → exec (.txDescriptor t q (.ok d)) s
      = .next (txComplete (txInject s t q
          { d.frame with len := d.length, fcsOk := true, etype := 0, vlan := none, payload := d.data.take d.length }
          (some d.port) d.stamp) t q d.irq .ok 0))
  ∧ (∀ s t q d, q < 8 → txReady s t q = true → (4 < d.kind ∨ d.length < 1 ∨ 9216 < d.length) →
    exec (.txDescriptor t q (.ok d)) s = .next (faultTenant s t q 3))
  ∧ (∀ s t q d i, q < 8 → rxReady s t q = true → nextItem q (tenant s t).waiting = some i →
    i.len ≤ d.size → exec (.rxDelivery t q (.ok d)) s = .next (rxWriteBack s t q i))
  ∧ (∀ s t q d i, q < 8 → rxReady s t q = true → nextItem q (tenant s t).waiting = some i → d.size < i.len →
    exec (.rxDelivery t q (.ok d)) s
      = .next (dropItem (modTenant s t fun y => { y with waiting := y.waiting.erase i }) t 10 i))
  ∧ (∀ s t q i, q < 8 → rxReady s t q = true → nextItem q (tenant s t).waiting = some i →
    exec (.rxDelivery t q .failed) s = .next (faultTenant s t (16 + q) 1))
  ∧ (∀ s t q d, (8 ≤ q ∨ rxReady s t q = false ∨ nextItem q (tenant s t).waiting = none) →
    exec (.rxDelivery t q d) s = .next s)
  ∧ (∀ s t q d, (8 ≤ q ∨ txReady s t q = false) → exec (.txDescriptor t q d) s = .next s)
  ∧ (∀ s t q, q < 8 → txReady s t q = true → exec (.txDescriptor t q .failed) s = .next (faultTenant s t q 1))
  ∧ (∀ s t q d, q < 8 → txReady s t q = true → d.kind = 1 → 1 ≤ d.length → d.length ≤ 9216 → 96 ≤ d.port →
    exec (.txDescriptor t q (.ok d)) s = .next (txComplete s t q d.irq .invalidArgument 0))
  ∧ (∀ s t q d, q < 8 → txReady s t q = true → d.kind = 2 → 1 ≤ d.length → d.length ≤ 9216 → aliasLookup s d.dest = none →
    exec (.txDescriptor t q (.ok d)) s = .next (txComplete
      (discard s { port := 96, reason := 4, ingress := 96, tenant := t, len := d.length }) t q d.irq .ok 0))
  ∧ (∀ s t q d st u, q < 8 → txReady s t q = true → d.kind = 3 → 1 ≤ d.length → d.length ≤ 9216 → st ≠ .ok →
    commitSlot s d.dest t (d.data.take d.length) = (st, u) →
    exec (.txDescriptor t q (.ok d)) s = .next (txComplete u t q d.irq st 0))
  ∧ (∀ s t q d, q < 8 → txReady s t q = true → d.kind = 4 → 1 ≤ d.length → d.length ≤ 9216 →
    (portKind d.port ≠ .can ∨ hasPort s t d.port = false) → exec (.txDescriptor t q (.ok d)) s
      = .next (txComplete s t q d.irq (if portKind d.port = .can then .notPermitted else .invalidArgument) 0))

/-- The SPI target and remote tenants: SPI_TRANSACTION completes for each instruction: 0x02 writes its words at rising addresses, 0x0B returns the words read, and any other is ignored and counted; a word written into an SPI tenant's rings or staging area is stored there. REMOTE_HCP_RECEIVE ends NAP and completes: a frame that is not the tenant's own is discarded with FILTER_DENY at port 97; one that fails authentication is counted and gets no answer; the tenant's own authenticated command with a higher counter is taken up as a remote command; while the control plane does not serve, or for a FAULTED or RESETTING tenant, it is not taken; what the tenant's own frame counts at port 97 it counts in each case. -/
def Obligations.SpiAndRemoteTenantsReachTheirPages : Prop :=
  (∀ s a d n, exec (.spiTransaction 0x02 a d n) s
      = .next (spiWrites { s with host := { s.host with spiUsed := true } } (a % 2 ^ 24) d))
  ∧ (∀ s a d n, exec (.spiTransaction 0x0B a d n) s
      = .next { s with host := { s.host with
          spiUsed := true, spiOut := (List.range n).map fun i => spiReadWord s ((a + 4 * i) % 2 ^ 24) } })
  ∧ (∀ s b a d n, b ≠ 0x02 → b ≠ 0x0B → exec (.spiTransaction b a d n) s
      = .next { s with host := { s.host with spiIgnored := min 65535 (s.host.spiIgnored + 1) } })
  ∧ (∀ s t o v, t < 16 → pageOn (tenant s t) t .spi = true → 0x1000 ≤ o → o < 0x8000 → o % 4 = 0 →
    spiWriteWord s (t * 0x8000 + o) v = modTenant s t fun x => { x with spi := tset 0 x.spi (o / 4) v })
  ∧ (∀ s c, fetches s 1 = true → s.pwc.state ≠ 3 → remoteMatches s c = false → exec (.remoteHcpReceive c) s
      = .next (discard s { port := 97, reason := 4, ingress := 97, egress := 97, tenant := c.tenant
                           len := 70 + c.entry.payload.length + (if c.vlan = 0 then 0 else 4) }))
  ∧ (∀ s c, fetches s 1 = true → s.pwc.state ≠ 3 → remoteMatches s c = true → (tenant s c.tenant).state = .opened →
    s.host.counterOk = true → remoteFault c.entry = none → cmacGood s c.tenant c.entry c.unit = true →
    formatExempt s c.tenant c.entry = false → (tenant s c.tenant).counter.toNat < c.entry.counter.toNat →
    ∃ u i, exec (.remoteHcpReceive c) s = .next u ∧ (tenant u c.tenant).counter = c.entry.counter
      ∧ (tenant u c.tenant).inflight = (tenant s c.tenant).inflight ++ [i] ∧ i.remote = true ∧ i.auth = true
      ∧ i.tag = c.entry.tag)
  ∧ (∀ s c, s.pwc.state ≠ 3 → fetches s 1 = false → exec (.remoteHcpReceive c) s = .next s)
  ∧ (∀ s c, s.pwc.state ≠ 3 → fetches s 1 = true → remoteMatches s c = true → (tenant s c.tenant).state ≠ .configured →
    (tenant s c.tenant).state ≠ .opened → exec (.remoteHcpReceive c) s
      = .next (countSent s 97 (70 + c.entry.payload.length + (if c.vlan = 0 then 0 else 4)) false))
  ∧ (∀ s c, fetches s 1 = true → s.pwc.state ≠ 3 → remoteMatches s c = true → (tenant s c.tenant).state = .opened →
    cmacGood s c.tenant c.entry c.unit = false →
    exec (.remoteHcpReceive c) s = .next (modTenant
      (countSent s 97 (70 + c.entry.payload.length + (if c.vlan = 0 then 0 else 4)) false) c.tenant
      fun x => { x with authFail := x.authFail + 1 }))
  ∧ (∀ s c, s.pwc.state = 3 → exec (.remoteHcpReceive c) s = exec (.remoteHcpReceive c) (napEnd s))

/-- Session and tenant commands: Accepted SESSION_OPEN, TENANT_CONFIG, TENANT_KEY_SET, TENANT_RESET, FEATURES_SET, QUEUE_STEER and AUTH_ECHO complete OK: a session opens with the features both sides have and answers them and the counter; a FREE tenant becomes CONFIGURED as given, a removed one resets; a key is stored; a tenant's reset is requested; the feature mask and a steering entry take their values; the echo returns its payload and changes nothing. -/
def Obligations.SessionCommandsComplete : Prop :=
  (∀ h s m w, accepts { opcode := 0x0001, features := [] } h s = true →
    ((tenant s h.tenant).state = .configured ∨ (tenant s h.tenant).state = .opened) →
    exec (.sessionOpen h 1 m w) s
      = .next (respond (kaSettle (modTenant s h.tenant fun x => { x with
            state := .opened, features := m &&& s.glob.featAccepted, maxWake := w })) h 0x0001 .ok 0
          (leBytes 16 (m &&& s.glob.featAccepted).toNat ++ leBytes 8 (tenant s h.tenant).counter.toNat)))
  ∧ (∀ h s t a r p k mac vlan ev, accepts { opcode := 0x0002, classC := true, owner := true } h s = true →
    tenantCfgOk s t a r p vlan = true →
    exec (.tenantConfig h (.configure t a r p k mac vlan ev)) s
      = .next (respond (ringCheck (modTenant s t fun x => { x with
          state := .configured, attach := a, rights := r, ports := p, key := k, mac := mac, vlan := vlan, eventMac := ev
          removing := false }) t) h 0x0002 .ok 0 []))
  ∧ (∀ h s t, accepts { opcode := 0x0002, classC := true, owner := true } h s = true → t ≠ 0 →
    (tenant s t).state ≠ .free → exec (.tenantConfig h (.remove t)) s
      = .next (respond (requestReset (modTenant s t fun x => { x with removing := true }) t) h 0x0002 .ok 0 []))
  ∧ (∀ h s t k, accepts { opcode := 0x0003 } h s = true → (h.tenant = t ∨ h.tenant = 0) → t < 256 →
    (tenant s t).state ≠ .free → (h.classC = true ∨ (t = 0 ∧ (tenant s 0).key = none)) →
    (t = 0 → (tenant s 0).attach ≠ .remote) →
    exec (.tenantKeySet h t k) s = .next (respond (putKey s t k) h 0x0003 .ok 0 []))
  ∧ (∀ h s t, accepts { opcode := 0x0004, classC := true } h s = true → (h.tenant = t ∨ h.tenant = 0) →
    (tenant s t).state ≠ .free → exec (.tenantReset h t) s = .next (respond (requestReset s t) h 0x0004 .ok 0 []))
  ∧ (∀ h s m, accepts { opcode := 0x0005, classC := true, owner := true } h s = true →
    exec (.featuresSet h m) s
      = .next (respond { s with fw := { s.fw with featureMask := m, confSeq := s.fw.confSeq + 1 } } h 0x0005 .ok 0 []))
  ∧ (∀ h s e t q, accepts { opcode := 0x0006, classC := true, owner := true } h s = true → e < 1024 → t < 256 → q < 8 →
    exec (.queueSteer h e t q) s
      = .next (respond { s with host := { s.host with steering := tset none s.host.steering e (some (t, q)) } }
          h 0x0006 .ok 0 []))
  ∧ (∀ h s p, accepts { opcode := 0x2DAE, classC := true, features := [] } h s = true → p.length ≤ 24 →
    exec (.authEcho h p) s = .next (respond s h 0x2DAE .ok 0 p))

/-- TIME_READ, TIME_CONFIG and TIME_SET: Accepted TIME_READ answers TRT, WYT, their offset, validity and epoch, with OK while TRT is valid and STALE otherwise, and changes nothing else; accepted TIME_CONFIG stores its records for the next servo update, or fails at the first bad record without an effect; accepted TIME_SET steps TRT where the node leads or has no leader, CSS is STOPPED and no inauguration runs; with a leader it is not permitted, with CSS or an inauguration running BUSY, without time service refused. -/
def Obligations.TimeCommandsComplete : Prop :=
  (∀ h s, accepts { opcode := 0x0101 } h s = true → ∃ p, exec (.timeRead h) s
      = .next (respond s h 0x0101 (if trtValid s then .ok else .stale) 0 p)
      ∧ p.take 12 = leBytes 6 (trtNs s / 1000000000) ++ leBytes 4 (trtNs s % 1000000000) ++ leBytes 2 (fracOf s.tms.trt))
  ∧ (∀ h s rs c t w, accepts { opcode := 0x0102, classC := true } h s = true →
    applyRecs s timeRec 0 (s.tms.cfgNext, s.tms.manualTrt, s.tms.manualWyt) rs = .ok (c, t, w) →
    (c.manual = true → exec (.timeConfig h rs) s
      = .next (respond { s with tms := { s.tms with cfgNext := c, manualTrt := t, manualWyt := w } } h 0x0102 .ok 0 []))
    ∧ (c.manual = false → exec (.timeConfig h rs) s
      = .next (respond { s with tms := { s.tms with cfgNext := c, manualTrt := none, manualWyt := none } }
          h 0x0102 .ok 0 [])))
  ∧ (∀ h s rs i, accepts { opcode := 0x0102, classC := true } h s = true →
    applyRecs s timeRec 0 (s.tms.cfgNext, s.tms.manualTrt, s.tms.manualWyt) rs = .error i →
    exec (.timeConfig h rs) s = .next (respond s h 0x0102 .invalidArgument 0 (leBytes 2 i)))
  ∧ (∀ h s sec ns f, accepts { opcode := 0x0103, classC := true } h s = true → s.tms.tsValid = true → ns < 1000000000 →
    sec < 2 ^ 48 → f < 65536 → (s.tms.trtState = .leader ∨ s.tms.leaderId = 0) → s.css.state = .stopped →
    inaugurating s = false → exec (.timeSet h sec ns f) s
      = .next (respond (trtStep s ((sec * 1000000000 + ns) * 2 ^ 48 + f * 2 ^ 32)) h 0x0103 .ok 0 []))
  ∧ (∀ h s sec ns f, accepts { opcode := 0x0103, classC := true } h s = true → s.tms.tsValid = false →
    exec (.timeSet h sec ns f) s = .next (respond s h 0x0103 .refused rNoTime []))
  ∧ (∀ h s sec ns f, accepts { opcode := 0x0103, classC := true } h s = true → s.tms.tsValid = true → ns < 1000000000 →
    sec < 2 ^ 48 → f < 65536 →
    (s.tms.trtState ≠ .leader → s.tms.leaderId ≠ 0 →
      exec (.timeSet h sec ns f) s = .next (respond s h 0x0103 .notPermitted 0 []))
    ∧ ((s.tms.trtState = .leader ∨ s.tms.leaderId = 0) → (s.css.state ≠ .stopped ∨ inaugurating s = true) →
      exec (.timeSet h sec ns f) s = .next (respond s h 0x0103 .busy 0 [])))

/-- Sending and receiving link timing messages and beacons: LTM_SEND and SEGMENT_BEACON_SEND complete with time service, the one on BB0 to BB3 and TW0 with link up, the other on an enabled SG port whose transceiver is in normal with no wake burst: time passes to the next nominal instant, 125 µs or 10 ms after the one before, and the frame carries the next number, the port state's time and TRT as it leaves; a frame whose time fields cannot be inserted ends with an invalid FCS; a link in low-power idle is woken first; nothing else changes but the port's counters. LTM_RECEIVE: one of another version is discarded and counted; on the TRT leader it is kept as echo and peer of its link with the tracker's ratio and moves neither TRT nor its DRIFT; one whose CSS leads no more follows the leader that its domain then names. PHASE_TRACK_LOSS leaves the link unqualified with phase_track_loss set, and a follower has another upstream or none then; PHASE_TRACK_REQUALIFY on a link that is up qualifies it 10 ms after the tracker's lock. -/
def Obligations.LinkTimingFramesAreSentAndKept : Prop :=
  (∀ s p l i, linkOf p = some l → linkIsUp s p = true → s.tms.tsValid = true →
    let u := untilMono s (nextBeat (linkTime s l).ltmAt 125000 s.mono)
    ∃ m t, exec (.ltmSend ⟨p, i⟩) s = .next t
    ∧ t.wire = s.wire ++ (if (tget ({} : LinkRec) s.ports.links p).lpiNow then [.lpiWake p] else [])
        ++ [if i then .ltm p m else .spoiled p]
    ∧ t.tms = { u.tms with
        links := tset {} s.tms.links l
          { linkTime s l with txSeq := (linkTime s l).txSeq + 1, ltmAt := some u.mono } }
    ∧ t.ports = (countSent s p 82).ports
    ∧ { t with tms := s.tms, wire := s.wire, ports := s.ports, mono := s.mono, monoFrac := s.monoFrac } = s
    ∧ t.mono = max s.mono (nextBeat (linkTime s l).ltmAt 125000 s.mono)
    ∧ m.version = 1 ∧ m.seq = (linkTime s l).txSeq + 1 ∧ m.isLeader = (s.tms.trtState == .leader)
    ∧ m.inHoldover = (s.tms.trtState == .holdover) ∧ m.hops = s.tms.hops ∧ m.leaderId = s.tms.leaderId
    ∧ m.senderId = s.otp.unitId ∧ m.tSec * 1000000000 + m.tNs = txTrt u p / nsRaw ∧ m.tNs < 1000000000
    ∧ m.drift = s.tms.trtDrift ∧ m.domainEpoch = s.tms.domainEpoch)
  ∧ (∀ s sg i, sg < 64 → s.tms.tsValid = true → (tget ({} : PortCfg) s.ports.cfg (16 + sg)).enabled = true →
    (tget ({} : Segment) s.ports.segs sg).state = .normal → segBursts s sg = false →
    let u := untilMono s (nextBeat (tget none s.tms.beaconAt sg) 10000000 s.mono)
    ∃ t, exec (.segmentBeaconSend ⟨sg, i⟩) s = .next t
    ∧ t.wire = s.wire ++ [if i then .beacon (16 + sg) (s.tms.trtState == .locked) (s.tms.trtState == .holdover)
        (tget 0 s.tms.beaconSeq sg + 1) (txTrt u (16 + sg) / nsRaw / 1000000000) (txTrt u (16 + sg) / nsRaw % 1000000000)
        (fracOf (txTrt u (16 + sg))) s.tms.trtEpoch else .spoiled (16 + sg)]
    ∧ t.tms = { u.tms with
        beaconSeq := tset 0 s.tms.beaconSeq sg (tget 0 s.tms.beaconSeq sg + 1)
        beaconAt := tset none s.tms.beaconAt sg (some u.mono) }
    ∧ t.ports = (countSent s (16 + sg) 64).ports
    ∧ { t with tms := s.tms, wire := s.wire, ports := s.ports, mono := s.mono, monoFrac := s.monoFrac } = s)
  ∧ (∀ s p l m r, linkOf p = some l → linkIsUp s p = true → s.tms.tsValid = true → m.version ≠ 1 →
    exec (.ltmReceive p ⟨m, r⟩) s = .next { countGot s p 82 with
      tms := { s.tms with
        links := tset {} s.tms.links l
          { linkTime s l with versionDiscards := (linkTime s l).versionDiscards + 1 } } })
  ∧ (∀ s p l m r, linkOf p = some l → linkIsUp s p = true → s.tms.tsValid = true → m.version = 1 →
    s.tms.trtState = .leader → m.leaderId ≠ s.tms.leaderId →
    (s.css.state = .coldstart ∨ s.css.state = .leader ∨ m.domainEpoch ≠ s.tms.domainEpoch) → ∃ x, exec (.ltmReceive p ⟨m, r⟩) s = .next
        { countGot s p 82 with tms := { s.tms with links := tset {} s.tms.links l x } }
      ∧ x.echo = some (m.seq, word (linNs m.tSec m.tNs), m.tFrac, stamp32 (rxTrt s p), fracOf (rxTrt s p))
      ∧ x.txSeq = (linkTime s l).txSeq ∧ x.qualified = (linkTime s l).qualified ∧ x.ratio = r
      ∧ (x.peer.map fun q => q.leaderId) = some m.leaderId
      ∧ (echoValid (linkTime s l) m = false → x.samples = (linkTime s l).samples)
      ∧ (echoValid (linkTime s l) m = true →
          x.samples = (delaySample s l { linkTime s l with ratio := r } m :: (linkTime s l).samples).take 16))
  ∧ (∀ s p l m r, linkOf p = some l → linkIsUp s p = true → s.tms.tsValid = true → m.version = 1 →
    s.tms.trtState = .leader → s.css.state ≠ .coldstart → s.css.state ≠ .leader → m.domainEpoch = s.tms.domainEpoch →
    m.leaderId ≠ 0 → m.leaderId ≠ s.otp.unitId → (linkTime s l).qualified = false →
    ∃ t, exec (.ltmReceive p ⟨m, r⟩) s = .next t ∧ t.tms.trtState = .acquiring ∧ t.tms.leaderId = m.leaderId
      ∧ t.tms.trt = s.tms.trt ∧ t.tms.trtDrift = s.tms.trtDrift ∧ t.css = s.css)
  ∧ (∀ s p l, linkOf p = some l → s.tms.upstream ≠ l → exec (.phaseTrackLoss p) s
      = .next (setAlarm { s with
          tms := { s.tms with
            links := tset {} s.tms.links l
              { linkTime s l with trackSince := none, qualified := false } } } .tms 10))
  ∧ (∀ s p l, linkOf p = some l → s.tms.upstream = l → s.tms.trtState ≠ .leader → s.tms.trtState ≠ .none →
    ∃ t, exec (.phaseTrackLoss p) s = .next t ∧ t.tms.upstream ≠ l
      ∧ (linkTime t l).qualified = false ∧ bitAt t.tms.alarm 10 = true ∧ bitAt t.tms.alarm 3 = true
      ∧ t.tms.trt = s.tms.trt ∧ t.tms.trtDrift = s.tms.trtDrift)
  ∧ (∀ s p l, linkOf p = some l → linkIsUp s p = true → (linkTime s l).qualified = false →
    ∃ t, exec (.phaseTrackRequalify p) s = .next t ∧ (linkTime t l).qualified = true
      ∧ t.mono = max s.mono ((linkTime s l).trackSince.getD s.mono + 10000000))

/-- Sixteen offsets within the lock window make a follower LOCKED, four outside four times it end that: A following node's lock rule, applied to one more offset to its upstream: from ACQUIRING the 16th consecutive offset within lock_window makes trt_state LOCKED, fewer do not, and an offset outside starts the count again; from LOCKED the 4th consecutive offset outside four times lock_window ends LOCKED and sets trt_lock_lost, fewer do not; the lock rule never moves TRT or its DRIFT. -/
def Obligations.UpstreamOffsetsLockOrUnlock : Prop :=
  ∀ s os o, s.tms.trtState = .acquiring ∨ s.tms.trtState = .locked →
    let w := s.tms.cfg.lockWindow * 1000
    let run := fun (u : State) (os : List Int) => os.foldl lockRule u
    let t := run s (os ++ [o])
    t.tms.trt = s.tms.trt ∧ t.tms.trtDrift = s.tms.trtDrift ∧
    (s.tms.trtState = .acquiring → s.tms.goodRun = 0 → (∀ x ∈ os, x.natAbs ≤ w) → o.natAbs ≤ w →
      (t.tms.trtState = .locked ↔ 16 ≤ os.length + 1))
    ∧ (s.tms.trtState = .acquiring → s.tms.goodRun < 16 → w < o.natAbs → os = [] →
      t.tms.trtState = .acquiring ∧ t.tms.goodRun = 0)
    ∧ (s.tms.trtState = .locked → s.tms.badRun = 0 → os.length < 4 → (∀ x ∈ os, 4 * w < x.natAbs) → 4 * w < o.natAbs →
      (t.tms.trtState = .locked ↔ os.length < 3) ∧ (os.length = 3 → bitAt t.tms.alarm 2 = true))
    ∧ (s.tms.trtState = .locked → o.natAbs ≤ 4 * w → os = [] → t.tms.trtState = .locked ∧ t.tms.badRun = 0)

/-- What a servo update and the entry into holdover do to DRIFT: SERVO_UPDATE completes with time service: the changed parameters come into force; in manual mode DRIFT is the value given; in automatic mode a TRT that follows gets the feed-forward of its upstream's tracker (its reading now, or the one held) and DRIFT plus a term within slew_limit, the first update after manual mode starting from the present DRIFT, WYT the rate of the selected domain plus such a term, and a TRT that leads, holds over or follows nothing keeps its DRIFT; the value saturates at R36's range with drift_limit set, and TRT and WYT are never stepped. TRT_HOLDOVER_ENTRY completes wherever the node follows a leader: trt_state becomes HOLDOVER with trt_holdover set, DRIFT is within the range, and time has passed to 500 µs without the leader unless the upstream's own holdover is the cause; that an upstream which holds over itself stays selected, and that the field reads none where the leader fell silent, is the model's choice (log). Elsewhere it changes nothing. -/
def Obligations.ServosAndHoldoverSetDrift : Prop :=
  (∀ s sc rate span, s.tms.tsValid = true → ∃ t, exec (.servoUpdate sc rate span) s = .next t
    ∧ t.tms.trt = s.tms.trt ∧ t.tms.wyt = s.tms.wyt ∧ t.tms.cfg = s.tms.cfgNext ∧ t.tms.trtEpoch = s.tms.trtEpoch
    ∧ t.wire = s.wire ∧ t.mono = s.mono
    ∧ (sc = .trt → t.tms.wytDrift = s.tms.wytDrift
      ∧ (∀ d, s.tms.cfgNext.manual = true → s.tms.manualTrt = some d → t.tms.trtDrift = max driftMin (min driftMax d)
          ∧ ((d < driftMin ∨ driftMax < d) → bitAt t.tms.alarm 9 = true))
      ∧ (s.tms.cfgNext.manual = false → s.tms.trtState ≠ .locked → s.tms.trtState ≠ .acquiring →
          t.tms.trtDrift = s.tms.trtDrift)
      ∧ (∀ p, s.tms.cfgNext.manual = false → s.tms.trtState = .locked ∨ s.tms.trtState = .acquiring →
          (linkTime s s.tms.upstream).peer = some p → s.tms.trtStopped = true →
          t.tms.trtDrift = max driftMin (min driftMax s.tms.trtDrift) ∧ t.tms.trtStopped = false)
      ∧ (∀ p, s.tms.cfgNext.manual = false → s.tms.trtState = .locked ∨ s.tms.trtState = .acquiring →
          (linkTime s s.tms.upstream).peer = some p → s.tms.trtStopped = false →
          ∃ c : Int, c.natAbs ≤ (driftPpm * s.tms.cfgNext.slewLimit / 1000).natAbs
            ∧ t.tms.trtDrift
              = max driftMin (min driftMax
                (feedForward (rate.getD (linkTime s s.tms.upstream).ratio) p.drift + c))))
    ∧ (sc = .wyt → t.tms.trtDrift = s.tms.trtDrift
      ∧ (∀ d, s.tms.cfgNext.manual = true → s.tms.manualWyt = some d → t.tms.wytDrift = max driftMin (min driftMax d))
      ∧ (s.tms.cfgNext.manual = false → s.tms.wytState = .locked ∨ s.tms.wytState = .acquiring →
          s.tms.wytStopped = true → t.tms.wytDrift = max driftMin (min driftMax s.tms.wytDrift))
      ∧ (s.tms.cfgNext.manual = false → s.tms.wytState = .locked ∨ s.tms.wytState = .acquiring →
          s.tms.wytStopped = false →
          ∃ c : Int, c.natAbs ≤ (driftPpm * s.tms.cfgNext.slewLimit / 1000).natAbs
            ∧ t.tms.wytDrift = max driftMin (min driftMax ((domainOf s s.tms.wytDom).ratio + c)))))
  ∧ (∀ s, mayHold s = true → ∃ t, exec .trtHoldoverEntry s = .next t
      ∧ t.tms.trtState = .holdover ∧ bitAt t.tms.alarm 0 = true
      ∧ (upstreamHolds s = true → t.tms.upstream = s.tms.upstream)
      ∧ ((∀ q, (linkTime s s.tms.upstream).peer = some q → q.inHoldover = false) → t.tms.upstream = 15)
      ∧ t.tms.trtHoldSince = some t.mono ∧ driftMin ≤ t.tms.trtDrift ∧ t.tms.trtDrift ≤ driftMax
      ∧ t.tms.leaderId = s.tms.leaderId ∧ t.tms.trtEpoch = s.tms.trtEpoch
      ∧ t.mono = if upstreamHolds s then s.mono else max s.mono (leaderSilentAt s))
  ∧ (∀ s, mayHold s = false → exec .trtHoldoverEntry s = .next s)

/-- 802.1AS messages, Sync receipt and the choice of domain: GPTP_MESSAGE_RECEIVE, PDELAY_REQ_SEND, SYNC_TRANSMISSION, SYNC_RECEIPT_TIMEOUT and PREFERRED_DOMAIN_RETURN complete. On a port that runs 802.1AS with link up a Pdelay_Req is answered with its arrival and the departure of the answer; a Pdelay_Resp of the open exchange gives the link's delay, another is only counted; the first Sync on the slave port of an invalid WYT selects its domain and steps WYT by the offset measured, one on another port is only counted; an Announce of another device is kept for its port; a domain number above 1 is discarded. Each message first runs best master selection anew: a new grandmaster of the selected domain hands over to the other domain where that is synchronised. The device sends Pdelay_Req each second, and as grandmaster of a domain an Announce and a Sync at each sync interval; a halted transmitter holds them back, they follow what waits, and their stamps are those of the departure. Three sync intervals after a domain's last Sync it is lost: WYT holds over when it was the selected one and the other is lost too, else the other is selected. The preferred domain, synchronised for 10 s, is selected again with wyt_dom_switch set. The delay formula and the slave port are those of IEEE 802.1AS as the model takes them (PRESUMED, log). -/
def Obligations.WaysideDomainsAreTracked : Prop :=
  let runs := fun (s : State) (p : Nat) =>
    s.tms.cfg.gptpPorts.contains p = true ∧ linkIsUp s p = true ∧ s.tms.tsValid = true
  let heard := fun (s : State) (p d : Nat) => reselect (countGot s p 64) d
  (∀ s p d q, runs s p → d ≤ 1 →
    exec (.gptpMessageReceive p { domain := d, kind := .pdelayReq q }) s
      = .next (emitPort (heard s p d) p (.pdelayResp p q (rxWyt (heard s p d) p / nsRaw) 0)))
  ∧ (∀ s p d x t1 t2 t3, runs s p → d ≤ 1 → x = tget ({} : PeerDelay) (heard s p d).tms.peerDelay p → x.t1 = some t1 →
    ∃ y, exec (.gptpMessageReceive p { domain := d, kind := .pdelayResp x.seq t2 t3 }) s
      = .next { heard s p d with tms := { (heard s p d).tms with peerDelay := tset {} (heard s p d).tms.peerDelay p y } }
      ∧ y.t1 = none ∧ y.seq = x.seq ∧ y.last = some (t3, stamp16 (rxWyt (heard s p d) p), s.mono)
      ∧ y.delay = ((((stamp16 (rxWyt (heard s p d) p) : Nat) : Int) - t1) * (2 ^ 41 + y.rateRatio) / 2 ^ 41
          - ((t3 : Int) - t2)) / 2
      ∧ (x.last = none → y.rateRatio = x.rateRatio ∧ y.oscRatio = x.oscRatio)
      ∧ ∀ a b c, x.last = some (a, b, c) → (c < s.mono →
          y.oscRatio = ((t3 : Int) - a) * 2 ^ 41 / ((s.mono - c) * 65536 : Nat) - 2 ^ 41)
        ∧ (b < stamp16 (rxWyt (heard s p d) p) → y.rateRatio
          = ((t3 : Int) - a) * 2 ^ 41 / (stamp16 (rxWyt (heard s p d) p) - b : Nat) - 2 ^ 41))
  ∧ (∀ s p d q t2 t3, runs s p → d ≤ 1 → q ≠ (tget ({} : PeerDelay) (heard s p d).tms.peerDelay p).seq →
    exec (.gptpMessageReceive p { domain := d, kind := .pdelayResp q t2 t3 }) s = .next (heard s p d))
  ∧ (∀ s p d sec ns c r i, runs s p → d ≤ 1 → (heard s p d).tms.wytState = .invalid →
    slavePort (heard s p d) d = some p →
    ∃ t, exec (.gptpMessageReceive p { domain := d, kind := .sync sec ns c r i }) s = .next t
      ∧ t.tms.wytState = .acquiring ∧ t.tms.wytDom = d ∧ bitAt t.tms.alarm 6 = true ∧ t.tms.trt = s.tms.trt
      ∧ t.tms.wyt
        = (((heard s p d).tms.wyt : Int) - syncOffset (heard s p d) p sec ns c * nsRaw).toNat % timeSpan)
  ∧ (∀ s p d sec ns c r i, runs s p → d ≤ 1 → slavePort (heard s p d) d ≠ some p →
    exec (.gptpMessageReceive p { domain := d, kind := .sync sec ns c r i }) s = .next (heard s p d))
  ∧ (∀ s p d r n, runs s p → d ≤ 1 → r.identity ≠ s.otp.unitId → n < 255 → d ≠ (heard s p d).tms.wytDom →
    ∃ t, exec (.gptpMessageReceive p { domain := d, kind := .announce r n }) s = .next t
      ∧ (domainOf t d).heard = tset none (domainOf s d).heard p (some (r, n, s.mono))
      ∧ t.tms.wyt = (heard s p d).tms.wyt ∧ t.tms.wytState = (heard s p d).tms.wytState
      ∧ t.tms.wytDom = (heard s p d).tms.wytDom)
  ∧ (∀ s d, gmOf s d = (domainOf s d).grandmaster → reselect s d = s)
  ∧ (∀ s d, gmOf s d ≠ (domainOf s d).grandmaster →
    ((domainOf s d).synced = false ∨ d ≠ s.tms.wytDom ∨ (domainOf s (1 - d)).synced = false) →
    reselect s d = { s with tms := { s.tms with
      domains := tset {} s.tms.domains d
        { domainOf s d with grandmaster := gmOf s d, gmNew := (domainOf s d).synced } } })
  ∧ (∀ s d, d ≤ 1 → gmOf s d ≠ (domainOf s d).grandmaster → (domainOf s d).synced = true → d = s.tms.wytDom →
    (domainOf s (1 - d)).synced = true → (reselect s d).tms.wytDom = 1 - d ∧ bitAt (reselect s d).tms.alarm 4 = true)
  ∧ (∀ s p m, runs s p → 1 < m.domain → ∃ t, exec (.gptpMessageReceive p m) s = .next t ∧ t.tms = s.tms ∧ t.wire = s.wire
      ∧ tget 0 t.fab.bit.ports (p * 16 + 4) = tget 0 s.fab.bit.ports (p * 16 + 4) + 1)
  ∧ (∀ s p, runs s p →
    let x := tget ({} : PeerDelay) s.tms.peerDelay p
    let u := untilMono s (nextBeat x.reqAt 1000000000 s.mono)
    exec (.pdelayReqSend p) s = .next (emitPort { u with
        tms := { u.tms with
          peerDelay := tset {} s.tms.peerDelay p { x with seq := x.seq + 1, t1 := none, reqAt := some u.mono } } } p
      (.pdelayReq p (x.seq + 1))))
  ∧ (∀ s p d i, runs s p → d < 2 → isGrandmaster s d = true →
    let x := domainOf s d
    let u := untilMono s (nextBeat (tget none x.syncAt p) (logIntervalNs x.logInterval) s.mono)
    let v := { u with
      tms := { u.tms with
        domains := tset {} s.tms.domains d
          { x with txSeq := x.txSeq + 1, syncAt := tset none x.syncAt p (some u.mono) } } }
    exec (.syncTransmission ⟨p, i⟩ d) s = .next (emitPort (emitPort v p (.announce p d (ownRank s d) 0)) p
      (if i then .sync p d (x.txSeq + 1) (txWyt u p / nsRaw / 1000000000) (txWyt u p / nsRaw % 1000000000)
          (stamp16 (txWyt u p) % 65536 : Nat)
        else .spoiled p)))
  ∧ (∀ s p x, txHalted s p = true → emitPort s p x = { s with
      ports := { s.ports with heldOut := s.ports.heldOut ++ [{ port := p, item := x, since := s.mono }] } })
  ∧ (∀ s p x, txHalted s p = false →
      (emitPort s p x).wire = s.wire ++ ((s.ports.heldOut.filter fun e => e.port == p)
        ++ [({ port := p, item := x, since := s.mono } : HeldOut)]).map (fun e => (departing s e).2)
      ∧ (emitPort s p x).ports.heldOut = s.ports.heldOut.filter (fun e => e.port != p)
      ∧ ∀ q, x = .pdelayReq p q →
        (tget ({} : PeerDelay) (emitPort s p x).tms.peerDelay p).t1 = some (stamp16 (txWyt s p)))
  ∧ (∀ s p d q sec ns c at_, (departing s { port := p, item := .sync p d q sec ns c, since := at_ }).2
      = .sync p d q sec ns (c + (s.mono - at_) * 65536)
    ∧ (departing s { port := p, item := .pdelayResp p q sec ns, since := at_ }).2
      = .pdelayResp p q sec (txWyt s p / nsRaw))
  ∧ (∀ s d, (domainOf s d).synced = true → ∃ t, exec (.syncReceiptTimeout d) s = .next t
      ∧ (domainOf t d).synced = false
      ∧ t.mono = max s.mono ((domainOf s d).lastSync + 3 * logIntervalNs (domainOf s d).logInterval)
      ∧ (d ≠ s.tms.wytDom → t.tms.wytState = s.tms.wytState ∧ t.tms.wytDom = s.tms.wytDom)
      ∧ (d = s.tms.wytDom → d ≤ 1 → (domainOf s (1 - d)).synced = false →
          t.tms.wytState = .holdover ∧ bitAt t.tms.alarm 5 = true)
      ∧ (d = s.tms.wytDom → d ≤ 1 → (domainOf s (1 - d)).synced = true →
          t.tms.wytState = (if s.tms.wytState = .holdover then .locked else s.tms.wytState)
          ∧ t.tms.wytDom = 1 - d ∧ bitAt t.tms.alarm 4 = true))
  ∧ (∀ s, (domainOf s s.tms.cfg.domainPref).synced = true → s.tms.wytDom ≠ s.tms.cfg.domainPref →
    ∃ t, exec .preferredDomainReturn s = .next t ∧ t.tms.wytDom = s.tms.cfg.domainPref
      ∧ bitAt t.tms.alarm 4 = true ∧ t.mono = max s.mono ((domainOf s s.tms.cfg.domainPref).since + 10000000000))

/-- PPS_IN, PPS_OUT and the reference monitor: PPS_IN_EDGE captures TRT and WYT at one tick and counts; PPS_OUT_SECOND on a valid timescale lets time pass to its next whole second and PPS_OUT is high for 100 ms, ended by PPS_OUT_FALL; on an invalid one or off nothing happens. While the monitor works, REF_MONITOR_WINDOW ends 100 ms after the window before it; without a consensus, on XIN, it forgets the candidates; with one beyond the threshold the third window in a row faults XIN and sets ref_alarm, and an earlier one only counts. XIN_STOP on XIN sets ref_alarm and clk_switch and leaves the reference off XIN, and REF_RETURN with ref_revert on returns to XIN after 60 s good, with ref_return set and ref_alarm cleared. None of them moves TRT's value or DRIFT but by the passage of time. -/
def Obligations.PpsAndReferenceMonitor : Prop :=
  (∀ s, exec .ppsInEdge s = .next { s with tms := { s.tms with
      ppsInTrt := stampNs s, ppsInWyt := word (wytNs s), ppsInCount := s.tms.ppsInCount + 1 } })
  ∧ (∀ s, s.tms.cfg.ppsSrc = .trt → trtValid s = true →
      let second := (s.tms.trt / (1000000000 * nsRaw) + 1) * (1000000000 * nsRaw)
      let u := untilTrt s second
      exec .ppsOutSecond s = .next { u with tms := { u.tms with ppsFallAt := some (u.mono + 100000000) } })
  ∧ (∀ s, s.tms.cfg.ppsSrc = .wyt → wytValid s = true →
      let second := (s.tms.wyt / (1000000000 * nsRaw) + 1) * (1000000000 * nsRaw)
      let u := untilWyt s second
      exec .ppsOutSecond s = .next { u with tms := { u.tms with ppsFallAt := some (u.mono + 100000000) } })
  ∧ (∀ s a, s.tms.ppsFallAt = some a → ∃ t, exec .ppsOutFall s = .next t ∧ t.tms.ppsFallAt = none
      ∧ t.mono = max s.mono a)
  ∧ (∀ s ms, monitorOn s = true → s.tms.refSource = 0 → consensus (ms.filter fun m =>
        (portKind m.port == .bb || portKind m.port == .cp) && linkIsUp s m.port) = [] →
      let u := untilMono s (s.tms.refAt + 100000000)
      exec (.refMonitorWindow ms) s = .next { u with tms := { u.tms with
        refAt := u.mono, refCand := 0, refPpb := none, refBad := 0, refGood := none } })
  ∧ (∀ s, monitorOn s = true → s.tms.refSource = 0 → ∃ t, exec .xinStop s = .next t
      ∧ t.glob.refAlarm = true ∧ t.tms.xinFault = true ∧ t.tms.refSource ≠ 0 ∧ bitAt t.glob.err 4 = true
      ∧ bitAt t.tms.alarm 7 = true ∧ t.tms.trt = s.tms.trt ∧ t.tms.trtDrift = s.tms.trtDrift)
  ∧ (∀ s a, monitorOn s = true → s.tms.refSource ≠ 0 → s.tms.cfg.refRevert = true → s.tms.refGood = some a →
      ∃ t, exec .refReturn s = .next t ∧ t.tms.refSource = 0 ∧ t.glob.refAlarm = false ∧ bitAt t.tms.alarm 8 = true
        ∧ t.mono = max s.mono (a + 60000000000))
  ∧ (∀ s ms ppb, monitorOn s = true → s.tms.refSource = 0 →
      let c := consensus (ms.filter fun m => (portKind m.port == .bb || portKind m.port == .cp) && linkIsUp s m.port)
      c ≠ [] → ppb = (c.map RefMeas.ppb).sum / (c.length : Int) → s.tms.cfg.refThreshold < ppb.natAbs →
      ∃ t, exec (.refMonitorWindow ms) s = .next t ∧ t.tms.refPpb = some ppb ∧ t.tms.refBad = s.tms.refBad + 1
        ∧ t.mono = max s.mono (s.tms.refAt + 100000000) ∧ t.tms.trtDrift = s.tms.trtDrift
        ∧ (2 ≤ s.tms.refBad → t.tms.xinFault = true ∧ t.glob.refAlarm = true)
        ∧ (s.tms.refBad < 2 → t.tms.refSource = 0 ∧ t.glob = s.glob))
  ∧ (∀ s, s.tms.cfg.ppsSrc = .off ∨ (s.tms.cfg.ppsSrc = .trt ∧ trtValid s = false)
      ∨ (s.tms.cfg.ppsSrc = .wyt ∧ wytValid s = false) → exec .ppsOutSecond s = .next s)

/-- Fetching, sending and judging slots and windows, and the pan boundary: With time service, while own slots run: SLOT_FETCH of an active pan samples the ready mark 5 µs before the offset (a ready slot's frame is built, one that is not ready is noted for the pan boundary and sets its alarm; a token or survey slot builds what waits for it); SLOT_TRANSMIT sends the built frame on the node's own lines out of the ports that are fabric-up, each copy where an exclusive TC7 window takes it, and clears ready unless repeat is set or a later commit came; WINDOW_CLOSE counts dup, miss_a, miss_b or empty with age and stale by R79 and R80, and ages the variables that got no value; CSS_FRAME_RECEIVE takes the first valid copy of a window's active pan: age 0, stale cleared, pan, line and value recorded; a later copy only marks its line, one that fails the tests is rejected, a STOPPED node discards the frame and counts it, one with a bad FCS is discarded unread, and one on a BB port that carries no CSS frames gets FILTER_DENY; PAN_BOUNDARY of a LEADER starts the next pan at the origin's next boundary, or stops the node where a local stop or stop_pan is due. -/
def Obligations.SlotsAndWindowsFollowTheirPan : Prop :=
  (∀ s i x, s.css.slots[i]? = some x → s.tms.tsValid = true → s.css.slotsRun = true →
    slotActive x (slotPan s x).1 = true → entryPoisoned s 5 i = false →
    let u := untilNs s ((slotPan s x).2 - 5000)
    (x.kind = 0 → exec (.slotFetch i) s = .next (if x.ready then
        modSlot u i fun y => { y with built := some (x.dataSeq, .data x.dataSeq x.data) }
      else setAlarm (modSlot u i fun y => { y with built := none, notReadyNow := y.notReadyNow + 1 }) .css 9))
    ∧ (x.kind ≠ 0 → exec (.slotFetch i) s
        = .next (modSlot u i fun y => { y with built := slotBody u x (slotPan s x).2 })))
  ∧ (∀ s i x q b, s.css.slots[i]? = some x → x.built = some (q, b) → s.tms.tsValid = true →
    s.css.slotsRun = true → slotActive x s.css.pan = true → ∀ ins,
    let tx := s.css.panStart + x.offset * 10
    let v := surveyAt (untilNs s tx) x.slotId tx b
    let w := countGot v.1 100 (max 64 (18 + 24 + (bodyPayload v.2).length))
    exec (.slotTransmit ⟨i, ins⟩) s = .next (slotSent ((copyPorts s).foldl (fun y p =>
      slotCopy y p (if x.producer < 256 then x.producer else 0) ins
        { hdr := cssHdr y p s.css.pan x.slotId, body := v.2 }) w) i x q v.2))
  ∧ (∀ s i x q d, slotSent s i x q (.data q d) = modSlot s i fun y =>
      { y with built := none, sentSeq := q, ready := y.ready && (y.repeatOn || y.dataSeq != q) })
  ∧ (∀ s p own ins f, (queueOf s p 7).isEmpty = true → fitsGate s p 7 (slotFrame f).len = true →
      (slotCopy s p own ins f).wire = s.wire ++ [if ins then .css p f else .spoiled p])
  ∧ (∀ s k w, s.css.windows[k]? = some w → s.tms.tsValid = true → integrated s = true → winActive w s.css.pan = true →
    entryPoisoned s 5 (1024 + k) = false →
    let u := untilNs s (s.css.panStart + w.close * 10)
    let done := { w with
      rej := sat16 (w.rej + w.rejNow), rejected := w.rejected || decide (0 < w.rejNow), rejNow := 0
      gotA := false, gotB := false }
    let vars := fun (v : State) => if w.delivery / 1024 = 2 then groupVars v k (w.delivery % 1024) else []
    let taken := fun (v : State) => pdAgePans v (pdShort v (vars v) w.value) (2 ^ w.periodLog2)
    (w.gotA = true → w.gotB = true →
      exec (.windowClose k) s = .next (taken (modWin u k fun _ => { done with dup := sat16 (w.dup + 1) })))
    ∧ (w.gotA = true → w.gotB = false → exec (.windowClose k) s
        = .next (setAlarm (taken (modWin u k fun _ => { done with missB := sat16 (w.missB + 1) })) .css 8))
    ∧ (w.gotA = false → w.gotB = true → exec (.windowClose k) s
        = .next (setAlarm (taken (modWin u k fun _ => { done with missA := sat16 (w.missA + 1) })) .css 8))
    ∧ (w.gotA = false → w.gotB = false →
      let v := modWin u k fun _ => { done with
        empty := sat16 (w.empty + 1), age := min 4095 (w.age + 2 ^ w.periodLog2), stale := true }
      exec (.windowClose k) s = .next (pdAgePans (setAlarm v .css 7) (vars v) (2 ^ w.periodLog2))))
  ∧ (∀ s p f i w d q, p < 4 → cssPort s p = true → s.tms.tsValid = true → f.hdr.fcsOk = true → lineMatches p f.hdr = true →
    integrated s = true → f.body = .data q d → windowsOf s f.hdr.slotId = [i] → s.css.windows[i]? = some w →
    (copyValid s w f.hdr = true → w.gotA = false → w.gotB = false → w.delivery = 0 →
      ∃ t, exec (.cssFrameReceive p f) s = .next t ∧ t.css.windows[i]? = some { w with
          gotA := !f.hdr.lineB, gotB := f.hdr.lineB, lastPan := f.hdr.pan.truncate 16, stale := false
          line := f.hdr.lineB, validEver := true, age := 0, value := d }
        ∧ t.css.slots = s.css.slots ∧ t.css.rejectNow = s.css.rejectNow ∧ t.tms = s.tms)
    ∧ (copyValid s w f.hdr = true → w.gotA = true ∨ w.gotB = true → ∃ t, exec (.cssFrameReceive p f) s = .next t
      ∧ t.css.windows[i]? = some { w with gotA := w.gotA || !f.hdr.lineB, gotB := w.gotB || f.hdr.lineB } ∧ t.tms = s.tms)
    ∧ (copyValid s w f.hdr = false → ∃ t, exec (.cssFrameReceive p f) s = .next t
      ∧ t.css.windows[i]? = some { w with rejNow := w.rejNow + 1 } ∧ t.tms = s.tms))
  ∧ (∀ s p f, p < 4 → cssPort s p = true → s.tms.tsValid = true → f.hdr.fcsOk = true → s.css.state = .stopped →
    ∃ t, exec (.cssFrameReceive p f) s = .next t ∧ t.css.rejectTotal = s.css.rejectTotal + 1 ∧ t.wire = s.wire
      ∧ t.css.windows = s.css.windows)
  ∧ (∀ s p f, p < 4 → cssPort s p = true → s.tms.tsValid = true → f.hdr.fcsOk = false →
    ∃ t, exec (.cssFrameReceive p f) s = .next t ∧ t.css = s.css ∧ t.tms = s.tms ∧ t.tau = s.tau)
  ∧ (∀ s p f, p < 4 → linkIsUp s p = true → (cssPort s p = false ∨ s.tms.tsValid = false) → f.hdr.fcsOk = true →
    exec (.cssFrameReceive p f) s = .next (discard (countRx s p (slotFrame f))
      { port := p, reason := 4, ingress := p, tenant := (vlanOf s (frameVid s p (slotFrame f))).tenant
        len := (slotFrame f).len }))
  ∧ (∀ s, s.css.state = .leader → s.tms.tsValid = true → s.css.image.isSome = true → s.ine.twin.atBoundary = none →
    s.ine.twin.due = false → (∀ p, bbHeld s p = false) → s.ine.state ≠ .topology →
    s.ine.state ≠ .installing → s.ine.state ≠ .stopping → ∃ t, exec .panBoundary s = .next t
      ∧ t.css.rejectTotal = s.css.rejectTotal + BitVec.ofNat 32 s.css.rejectNow ∧ t.css.rejectNow = 0
      ∧ (s.css.localStop = false → s.css.stopPan ≠ some (s.css.pan + 1) →
          t.css.state = .leader ∧ t.css.pan = s.css.pan + 1 ∧ t.css.panStart = s.css.panStart + panNs s
          ∧ t.css.lastCs = some (s.css.pan + 1) ∧ t.css.guardEff = s.css.guardCfg + s.css.guardAllow
          ∧ t.css.missTotal = s.css.missTotal
          ∧ (t.css.slots.map fun x => x.notReady) = s.css.slots.map fun x =>
              sat16 ((if s.css.clearDue then 0 else x.notReady) + x.notReadyNow))
      ∧ (s.css.localStop = true → t.css.state = .stopped ∧ t.css.stopReason = 1)
      ∧ (s.css.localStop = false → s.css.stopPan = some (s.css.pan + 1) →
          t.css.state = .stopped ∧ t.css.stopReason = s.css.stopWhy))

/-- The timed rows of Table 3-6: LISTEN_TIMEOUT takes a capable node in LISTEN to COLDSTART at 2 pans plus its listen offset, with an origin on a whole µs at least one pan ahead and the node TRT leader; ORIGIN_REACHED makes it LEADER of pan 0 at its origin; TIMED_START_REACHED makes the designated leader LEADER at T_s; WAIT_START_TIMEOUT and INTEGRATING_TIMEOUT lead to LISTEN, the latter 4 pans after the last counting cycle-start; REELECTION_COLD_START sends once with the running origin, a copy whose insertion does not complete with an invalid FCS; LEADERLESS_TIMEOUT after 8 missed pans leads to LISTEN with stop_reason 3. The listen offset is at most 102 µs. -/
def Obligations.CssTimeoutsMoveTheNode : Prop :=
  (∀ s, listenOffset s = (s.otp.unitId.toNat % 65536 % 1021) * 100 ∧ listenOffset s ≤ 102000)
  ∧ (∀ s, s.css.state = .listen → s.css.capable = true → s.tms.tsValid = true →
      s.tms.wytState ≠ .locked → s.tms.wytState ≠ .holdover →
      ∃ t, exec .listenTimeout s = .next t ∧ t.css.state = .coldstart ∧ t.css.origin % 1000 = 0
        ∧ trtNs t + panNs s ≤ t.css.origin ∧ t.css.origin < trtNs t + panNs s + 1000
        ∧ t.mono = max s.mono (s.css.listenSince + 2 * panNs s + listenOffset s)
        ∧ t.tms.trtState = .leader ∧ t.tms.hops = 0 ∧ t.tms.leaderId = s.otp.unitId ∧ t.tms.trtDrift = 0
        ∧ t.css.leader = s.otp.unitId)
  ∧ (∀ s, s.css.state = .coldstart → ∃ t, exec .originReached s = .next t ∧ t.css.state = .leader ∧ t.css.pan = 0
      ∧ t.css.panStart = s.css.origin ∧ t.css.origin = s.css.origin ∧ t.css.slotsRun = true
      ∧ t.css.leader = s.otp.unitId ∧ t.tms.trtState = .leader ∧ bitAt t.css.alarm 2 = true)
  ∧ (∀ s, s.css.state = .waitStart → s.css.followed = s.otp.unitId → ∃ t, exec .timedStartReached s = .next t
      ∧ t.css.state = .leader ∧ t.css.pan = 0 ∧ t.css.origin = s.css.tStart ∧ t.css.slotsRun = true)
  ∧ (∀ s, s.css.state = .waitStart → ∃ t, exec .waitStartTimeout s = .next t
      ∧ t.css.state = .listen ∧ t.css.listenSince = t.mono ∧ t.css.slotsRun = false)
  ∧ (∀ s, s.css.state = .integrating → ∃ t, exec .integratingTimeout s = .next t ∧ t.css.state = .listen
      ∧ t.mono = max s.mono (s.css.countAt + 4 * panNs s) ∧ t.css.listenSince = t.mono)
  ∧ (∀ s, s.css.state = .active → s.css.leaderless = true → s.css.capable = true → s.css.reelectDue = true →
      ∃ t, exec .reelectionColdStart s = .next t ∧ t.css.reelectDue = false ∧ t.css.reelectSent = true
        ∧ t.css.state = .active ∧ t.css.origin = s.css.origin
        ∧ ∀ x ∈ t.wire.drop s.wire.length, ∃ p, x = .spoiled p ∨ ∃ f, x = .coldStart p f
            ∧ linNs f.originSec f.originNs = s.css.origin ∧ f.senderId = s.otp.unitId)
  ∧ (∀ s, s.css.state = .active → s.css.leaderless = true → 8 ≤ s.css.missed →
      ∃ t, exec .leaderlessTimeout s = .next t ∧ t.css.state = .listen ∧ t.css.stopReason = 3
        ∧ t.css.slotsRun = false ∧ t.css.leaderless = false)
  ∧ (∀ s, s.css.state = .listen → s.css.capable = true → s.tms.tsValid = true →
      s.tms.wytState = .locked ∨ s.tms.wytState = .holdover → ∃ t, exec .listenTimeout s = .next t
        ∧ t.css.state = .coldstart ∧ t.tms.trtEpoch = s.tms.trtEpoch + 1
        ∧ t.tms.trt = (untilMono s (s.css.listenSince + 2 * panNs s + listenOffset s)).tms.wyt % timeSpan)
  ∧ (∀ s, s.css.state = .waitStart → s.css.followed ≠ s.otp.unitId → inaugurating s = false →
      exec .timedStartReached s = .next (untilNs s s.css.tStart))

/-- Received cycle-starts and cold-starts in the states of Table 3-6: For a frame taken on a fabric-up BB port of its line: in LISTEN a valid cycle-start or cold-start makes the node INTEGRATING after its sender; in COLDSTART a valid cycle-start sets cs_conflict and is followed, a cold-start of a higher unit ID before the origin sets cs_conflict and is ignored; a cold-start from another node than the one followed, not lower, is counted as a reject while INTEGRATING; at an ACTIVE node with a leader a cycle-start of the running origin is noted, with the stop it announces, and one of another origin is counted; a LEADER follows a lower unit ID of its origin; while STOPPED every such frame is counted in CSS_REJECT_TOTAL, but that a node which renumbered and had no INSTALL integrates after the coordinator. The frame goes on along its line in every case. -/
def Obligations.CycleStartsAndColdStartsMoveTheNode : Prop :=
  ∀ (s : State) (p : Nat) (f : CycleStart) (g : ColdStart),
    p < 4 → cssPort s p = true → s.tms.tsValid = true → f.hdr.fcsOk = true → lineMatches p f.hdr = true → hdrValid s f.hdr = true → g.hdr = f.hdr →
    let onward := fun (u : State) => u.wire.take s.wire.length = s.wire
    (s.css.state = .stopped → ∃ t, exec (.coldStartReceive p g) s = .next t ∧ t.css.rejectTotal = s.css.rejectTotal + 1
        ∧ t.css.state = .stopped ∧ onward t)
    ∧ (s.css.state = .listen → ∃ t, exec (.coldStartReceive p g) s = .next t ∧ t.css.state = .integrating
        ∧ t.css.followed = g.senderId ∧ t.css.leader = g.senderId ∧ t.css.count = 0 ∧ t.tms.leaderId = g.senderId)
    ∧ (s.css.state = .listen → ∃ t, exec (.cycleStartReceive p f) s = .next t ∧ t.css.state = .integrating
        ∧ t.css.followed = f.leaderId ∧ t.css.leader = f.leaderId ∧ t.css.pan = f.hdr.pan ∧ t.css.panStart = csStart f)
    ∧ (s.css.state = .coldstart → ∃ t, exec (.cycleStartReceive p f) s = .next t ∧ t.css.state = .integrating
        ∧ t.css.followed = f.leaderId ∧ bitAt t.css.alarm 3 = true)
    ∧ (s.css.state = .coldstart → trtNs s < s.css.origin → s.otp.unitId.toNat < g.senderId.toNat →
      ∃ t, exec (.coldStartReceive p g) s = .next t ∧ t.css.state = .coldstart ∧ bitAt t.css.alarm 3 = true
        ∧ t.tms.leaderId = s.tms.leaderId ∧ t.css.origin = s.css.origin)
    ∧ (s.css.state = .coldstart → trtNs s < s.css.origin → g.senderId.toNat < s.otp.unitId.toNat →
      ∃ t, exec (.coldStartReceive p g) s = .next t ∧ t.css.state = .integrating ∧ bitAt t.css.alarm 3 = true
        ∧ t.css.followed = g.senderId)
    ∧ (s.css.state = .integrating → g.senderId ≠ s.css.followed → s.css.followed.toNat ≤ g.senderId.toNat →
      ∃ t, exec (.coldStartReceive p g) s = .next t ∧ t.css.rejectNow = s.css.rejectNow + 1
        ∧ t.css.count = s.css.count ∧ t.css.followed = s.css.followed)
    ∧ (s.css.state = .integrating → f.leaderId ≠ s.css.followed →
      ∃ t, exec (.cycleStartReceive p f) s = .next t ∧ t.css.rejectNow = s.css.rejectNow + 1
        ∧ t.css.count = s.css.count ∧ t.css.followed = s.css.followed)
    ∧ (s.css.state = .active → s.css.leaderless = false → sameOrigin s (csStart f) f.hdr.pan = true →
      s.css.leader = f.leaderId → ∃ t, exec (.cycleStartReceive p f) s = .next t ∧ t.css.state = .active
        ∧ t.css.lastCs = some f.hdr.pan ∧ (f.stop = true → t.css.stopPan = some f.stopPan)
        ∧ t.css.slots = s.css.slots ∧ t.tms = s.tms ∧ onward t)
    ∧ (s.css.state = .active → sameOrigin s (csStart f) f.hdr.pan = false →
      ∃ t, exec (.cycleStartReceive p f) s = .next t ∧ t.css.rejectNow = s.css.rejectNow + 1 ∧ t.css.state = .active)
    ∧ (s.css.state = .leader → sameOrigin s (csStart f) f.hdr.pan = true → f.leaderId.toNat < s.otp.unitId.toNat →
      ∃ t, exec (.cycleStartReceive p f) s = .next t ∧ t.css.state = .active ∧ t.css.followed = f.leaderId
        ∧ t.tms.trtState ≠ .leader)
    ∧ (s.css.state = .stopped → s.ine.state = .renumbering → f.leaderId = coordinatorOf s →
      ∃ t, exec (.cycleStartReceive p f) s = .next t ∧ t.css.state = .integrating ∧ t.css.followed = f.leaderId
        ∧ t.css.pan = f.hdr.pan)
    ∧ (s.css.state = .stopped → (s.ine.state ≠ .renumbering ∨ f.leaderId ≠ coordinatorOf s) →
      ∃ t, exec (.cycleStartReceive p f) s = .next t ∧ t.css.rejectTotal = s.css.rejectTotal + 1
        ∧ t.css.state = .stopped ∧ onward t)
    ∧ (s.css.state = .waitStart → f.hdr.pan ≠ 0 → ∃ t, exec (.cycleStartReceive p f) s = .next t ∧ t.css = s.css)
    ∧ (s.css.state = .active → s.css.leaderless = false → linNs g.originSec g.originNs = s.css.origin →
      ∃ t, exec (.coldStartReceive p g) s = .next t ∧ t.css = s.css ∧ t.tms = s.tms ∧ onward t)

/-- Loading a schedule, starting, stopping and clearing CSS: For an accepted command: SCHED_LOAD_BEGIN on a STOPPED node opens the tenant's load, SCHED_LOAD_BLOCK within the announced length adds to it, SCHED_LOAD_END of a whole, well-formed and signed image that fits instantiates it, single-bit errors that its reads meet in the staged copy being corrected and counted; CSS_START takes a STOPPED node with a schedule to LISTEN, or to WAIT_START under R88's tests; CSS_STOP train of the leader announces a stop_pan at least 2 pans ahead, local marks a running node and stops any other at once; CSS_COUNTERS_CLEAR waits for the pan boundary while a pan runs and else zeroes the counts at once. -/
def Obligations.ScheduleCommandsComplete : Prop :=
  let cmd := fun (op : Nat) => ({ opcode := op, classC := true } : Cmd)
  (∀ h s len ident, accepts (cmd 0x0201) h s = true → s.css.state = .stopped → inaugurating s = false →
    loadBusy s.css.loads h.tenant = false → 0 < len → len ≤ 1048576 →
    exec (.schedLoadBegin h len ident) s = .next (respond { s with css := { s.css with
      loads := { len := len, ident := ident, tenant := h.tenant, blocks := [] }
        :: s.css.loads.filter fun l => l.tenant != h.tenant } } h 0x0201 .ok 0 []))
  ∧ (∀ h s off d l, accepts (cmd 0x0202) h s = true → loadOf s.css.loads h.tenant = some l →
    1 ≤ d.length → d.length ≤ 4096 → off + d.length ≤ l.len →
    exec (.schedLoadBlock h off d) s = .next (respond { s with css := { s.css with
      loads := loadPut s.css.loads h.tenant off d } } h 0x0202 .ok 0 []))
  ∧ (∀ h s met l b im u, accepts (cmd 0x0203) h s = true → loadOf s.css.loads h.tenant = some l →
    loadBytes l.blocks l.len = some b → s.css.state = .stopped → schedFormat l b = some im →
    manifestSigned s b 0 = true →
    instantiateImage (readsCorrected { s with css := { s.css with loads := loadDrop s.css.loads h.tenant } } 8 met) im
      = some u →
    exec (.schedLoadEnd h met) s = .next (respond (ownWindows u) h 0x0203 .ok 0 [])
      ∧ u.css.image = some im ∧ u.css.fits = true ∧ u.css.guardCfg = im.guard ∧ u.css.slots.length ≤ 1024
      ∧ u.css.windows.length ≤ 4096)
  ∧ (∀ h s m, accepts (cmd 0x0204) h s = true → s.css.state = .stopped → inaugurating s = false →
    s.tms.tsValid = true → s.css.fits = true → (m = .cold → ∃ t, exec (.cssStart h m) s = .next (respond t h 0x0204 .ok 0 [])
        ∧ t.css.state = .listen ∧ t.css.listenSince = s.mono ∧ t.css.stopReason = 0 ∧ t.tms = s.tms)
      ∧ (∀ sec ns id, m = .timed sec ns id → (s.css.image.all fun i => i.timedRestart) = true →
        trtNs s + 1000000 ≤ linNs sec ns → linNs sec ns ≤ trtNs s + 10000000000 →
        s.tms.trtState = .locked ∨ s.tms.trtState = .leader → ∃ t,
          exec (.cssStart h m) s = .next (respond t h 0x0204 .ok 0 []) ∧ t.css.state = .waitStart
          ∧ t.css.tStart = linNs sec ns ∧ t.css.followed = id ∧ t.tms = s.tms))
  ∧ (∀ h s pan, accepts (cmd 0x0205) h s = true → inaugurating s = false → s.css.state = .leader →
    2 ≤ (pan - s.css.pan).toInt →
    exec (.cssStop h .train pan) s = .next (respond { s with css := { s.css with
      stopPan := some pan, stopWhy := 2 } } h 0x0205 .ok 0 []))
  ∧ (∀ h s pan, accepts (cmd 0x0205) h s = true → inaugurating s = false → s.css.state = .active ∨ s.css.state = .leader →
    exec (.cssStop h .localOnly pan) s
      = .next (respond { s with css := { s.css with localStop := true } } h 0x0205 .ok 0 []))
  ∧ (∀ h s, accepts { opcode := 0x0206 } h s = true →
    (s.css.state = .active ∨ s.css.state = .leader ∨ s.css.state = .integrating →
      exec (.cssCountersClear h) s = .next (respond { s with css := { s.css with clearDue := true } } h 0x0206 .ok 0 []))
    ∧ (s.css.state = .stopped ∨ s.css.state = .listen ∨ s.css.state = .coldstart ∨ s.css.state = .waitStart →
      exec (.cssCountersClear h) s = .next (respond { s with css := { s.css with
        clearDue := false, clearPan := 0
        slots := s.css.slots.map fun x => { x with notReady := 0, notReadyNow := 0 }
        windows := s.css.windows.map fun w =>
          { w with dup := 0, empty := 0, missA := 0, missB := 0, rej := 0, rejNow := 0 } } }
        h 0x0206 .ok 0 [])))
  ∧ (∀ h s pan, accepts (cmd 0x0205) h s = true → inaugurating s = false →
    (s.css.state = .stopped → exec (.cssStop h .localOnly pan) s = .next (respond s h 0x0205 .ok 0 []))
    ∧ (s.css.state = .listen ∨ s.css.state = .coldstart ∨ s.css.state = .integrating ∨ s.css.state = .waitStart →
      ∃ t, exec (.cssStop h .localOnly pan) s = .next (respond t h 0x0205 .ok 0 []) ∧ t.css.state = .stopped
        ∧ t.css.stopReason = 1 ∧ t.css.slotsRun = false ∧ bitAt t.css.alarm 6 = true))

/-- Arming, cancelling, loading, keying and reading a TAU: For an accepted command: a TAU_ARM that R94 to R99 neither deny nor refuse makes the TAU ARMED with the given instant, target and owner, its frame buffer kept and its reject count 0; a TAU_ARM of TAU56 to 63 completes with NOT_PERMITTED whatever its other fields; TAU_CANCEL at least 1 µs before T_fire by a caller that may read the TAU aborts it with CANCELLED, a later one and one of a COMMITTED TAU is REFUSED (TAU_PAST_CUTOFF, TAU_DECIDED) and changes nothing else; TAU_FRAME_LOAD of 1 to 1522 B fills the buffer of an IDLE TAU; TAU_KEY_SET of tenant 0 installs the key; TAU_STATUS and TAU_SURVEY_READ answer without a change. -/
def Obligations.TauCommandsComplete : Prop :=
  (∀ h s a, accepts { opcode := 0x0301 } h s = true → armDenied s h a = none → armReserved s a = false →
    armFormed s a = true →
    s.tms.tsValid = true → armRefused s a = none → ∃ r,
    exec (.tauArm h a) s = .next (respond (putTau s a.tau r) h 0x0301 .ok 0 []) ∧ r.state = .armed ∧ r.owner = some h.tenant
      ∧ r.target = a.target ∧ r.arg = a.arg ∧ r.fire = linNs a.fireSec a.fireNs * 65536 + a.fireFrac
      ∧ r.epoch = s.tms.trtEpoch ∧ r.rejects = 0 ∧ r.k = 0 ∧ r.decided = false ∧ r.buffer = (tauOf s a.tau).buffer
      ∧ r.commitAt = linNs a.commitSec a.commitNs ∧ r.actionId = a.actionId ∧ r.issuer = a.issuerId)
  ∧ (∀ h s a, accepts { opcode := 0x0301 } h s = true → 56 ≤ a.tau → a.tau < 64 →
    exec (.tauArm h a) s = .next (respond s h 0x0301 .notPermitted 0 []))
  ∧ (∀ h s k, accepts { opcode := 0x0302 } h s = true → k < 56 → tauReadable s h.tenant k = true →
    (tauOf s k).state = .armed → ((tauOf s k).target < 5 ∨ h.classC = true) →
    scale16 s (tauOf s k).wyt + 1000 * 65536 ≤ (tauOf s k).fire →
    exec (.tauCancel h k) s = .next (respond (tauAbort s k 2) h 0x0302 .ok 0 []))
  ∧ (∀ h s k, accepts { opcode := 0x0302 } h s = true → k < 56 → tauReadable s h.tenant k = true →
    (tauOf s k).state = .armed → ((tauOf s k).target < 5 ∨ h.classC = true) →
    (tauOf s k).fire < scale16 s (tauOf s k).wyt + 1000 * 65536 →
    exec (.tauCancel h k) s = .next (respond s h 0x0302 .refused 0x0107 []))
  ∧ (∀ h s k, accepts { opcode := 0x0302 } h s = true → k < 56 → tauReadable s h.tenant k = true →
    (tauOf s k).state = .committed → ((tauOf s k).target < 5 ∨ h.classC = true) →
    exec (.tauCancel h k) s = .next (respond s h 0x0302 .refused 0x0108 []))
  ∧ (∀ h s k d, accepts { opcode := 0x0303 } h s = true → k < 56 → (tauOf s k).state = .idle → 1 ≤ d.length →
    d.length ≤ 1522 →
    exec (.tauFrameLoad h k d) s = .next (respond (putTau s k { tauOf s k with buffer := some d }) h 0x0303 .ok 0 []))
  ∧ (∀ h s k key, accepts { opcode := 0x0306, classC := true, owner := true } h s = true → k < 4 →
    exec (.tauKeySet h k key) s = .next (respond { s with
      tau := { s.tau with keys := tset none s.tau.keys k (some key) }
      fw := { s.fw with confSeq := s.fw.confSeq + 1 } } h 0x0306 .ok 0 []))
  ∧ (∀ h s k, accepts { opcode := 0x0307 } h s = true → k < 64 → tauReadable s h.tenant k = true → ∃ p,
    exec (.tauStatus h k) s = .next (respond s h 0x0307 .ok 0 p) ∧ p.length = 22
      ∧ p.head? = some (BitVec.ofNat 8 (tauCode (tauOf s k).state)))
  ∧ (∀ h s k first, accepts { opcode := 0x0308 } h s = true → k < 64 → tauReadable s h.tenant k = true → ∃ p,
    exec (.tauSurveyRead h k first) s = .next (respond s h 0x0308 .ok 0 p)
      ∧ p.length = 12 + 28 * min 16 ((tauOf s k).reports.length - first)
      ∧ p.take 2 = leBytes 2 (surveyCounts (tauOf s k)).1)
  ∧ (∀ h s k, accepts { opcode := 0x0307 } h s = true → k < 64 → tauReadable s h.tenant k = false →
    exec (.tauStatus h k) s = .next (respond s h 0x0307 .notPermitted 0x0703 []))

/-- TAU_COMMIT and TAU_ABORT decide an armed commit-gated action once: For an accepted decision on TAU k below 64, whatever its source and key slot: where every test of R105 passes, TAU_COMMIT makes the issuer's TAU COMMITTED with its token, signed under the armed key, in the commit-token slot (or the wayside store), and TAU_ABORT aborts it with CANCELLED; afterwards the action is decided, so a further decision on it is REFUSED; a TAU of another tenant or issuer gives TAU_BAD_TARGET, one decided before or no longer ARMED gives TAU_DECIDED, and neither changes anything but the response. -/
def Obligations.IssuerDecidesOncePerAction : Prop :=
  ∀ h s k src key slot, k < 64 →
    let r := tauOf s k
    let done := { mkToken s r 1 with cmac := tauCmac s r.keySlot (cmacPrefix s r.wayside ++ tokenBytes (mkToken s r 1)) }
    done = mkToken s r 1
    ∧ (accepts { opcode := 0x0304, classC := true } h s = true →
      (decideFault s h k src key slot = none → ∃ u, exec (.tauCommit h k src key slot) s = .next (respond u h 0x0304 .ok 0 [])
        ∧ (tauOf u k).state = .committed ∧ (tauOf u k).decided = true ∧ (tauOf u k).verdict = 1
        ∧ decideFault u h k src key slot = some (.refused, 0x0108)
        ∧ (r.wayside = true → (tget none u.tau.tokens k).map WaysideTok.token = some (mkToken s r 1))
        ∧ (r.wayside = false → ∃ x ∈ u.css.slots, x.slotId = slot ∧ x.waiting = some (.token (mkToken s r 1))))
      ∧ (r.mode ≠ .gated ∨ r.owner ≠ some h.tenant ∨ r.issuer ≠ nodeUnit s →
        exec (.tauCommit h k src key slot) s = .next (respond s h 0x0304 .refused 0x0105 []))
      ∧ (r.mode = .gated → r.owner = some h.tenant → r.issuer = nodeUnit s → (r.decided = true ∨ r.state ≠ .armed) →
        exec (.tauCommit h k src key slot) s = .next (respond s h 0x0304 .refused 0x0108 [])))
    ∧ (accepts { opcode := 0x0305, classC := true } h s = true → decideFault s h k src key slot = none →
      ∃ u, exec (.tauAbort h k src key slot) s = .next (respond u h 0x0305 .ok 0 [])
        ∧ ((tauOf u k).state = .idle ∨ (tauOf u k).state = .surveyWait) ∧ (tauOf u k).reason = 2
        ∧ (tauOf u k).decided = true ∧ (tauOf u k).verdict = 2 ∧ u.css.state = s.css.state)

/-- TAU_FIRE drives its target at T_fire; pulses and capture windows run and end: With time service, a one-shot TAU on TRT with target PIN that acts alone on its pin at T_fire sets the pin low or high, or toggles it, and is IDLE and fired afterwards; CAPTURE opens the window on its TC pin; FRAME puts its buffer at the head of the class queue, SLOT_COMMIT commits it as producer 0x102 or fails, SAFE_RELEASE withdraws, ALIAS_EPOCH and SLUICE_BANK act; a periodic TAU goes on to its next instant until its count is reached; a WYT action whose WYT is invalid does not fire and aborts with NO_TIME; a TAU that does not fire (IDLE, or commit-gated and not COMMITTED) is left alone but for a report that takes its fields at T_fire, and a shared one without the duties fires without driving. PIN_PULSE_END returns the pin to its level before the pulse at its end; CAPTURE_EDGE stamps an edge of the chosen kind inside the window, at most 16; CAPTURE_WINDOW_END closes the window and keeps its stamps. -/
def Obligations.TauFiresAtItsInstant : Prop :=
  (∀ s k, s.tms.tsValid = true → (tauOf s k).state = .armed → (tauOf s k).mode = .oneShot → (tauOf s k).wyt = false →
    (tauOf s k).target = 1 → (tauOf s k).shared = false → (tauOf s k).arg.toNat / 16 % 4 < 3 →
    let u := untilTrt s ((tauOf s k).fire * 2 ^ 32)
    let pin := (tauOf s k).arg.toNat % 8
    (tget ({} : TaPin) s.tau.ta pin).tick < u.mono →
    ∃ t, exec (.tauFire k) s = .next t ∧ (tauOf t k).state = .idle ∧ (tauOf t k).fired = true ∧ (tauOf t k).reason = 0
      ∧ (tget ({} : TaPin) t.tau.ta pin).level = (match (tauOf s k).arg.toNat / 16 % 4 with
          | 0 => false
          | 1 => true
          | _ => !(tget ({} : TaPin) s.tau.ta pin).level)
      ∧ t.mono = u.mono ∧ t.css = s.css ∧ t.otp = s.otp)
  ∧ (∀ s k, s.tms.tsValid = true → (tauOf s k).state = .armed → (tauOf s k).mode = .oneShot → (tauOf s k).wyt = false →
    (tauOf s k).target = 4 → (tauOf s k).shared = false →
    let u := untilTrt s ((tauOf s k).fire * 2 ^ 32)
    ∃ t w, exec (.tauFire k) s = .next t ∧ (tauOf t k).state = .idle
      ∧ tget none t.tau.caps ((tauOf s k).arg.toNat % 8) = some w ∧ w.tau = k ∧ w.stamps = []
      ∧ w.endAt = u.mono + (tauOf s k).arg.toNat / 256 * 1000 ∧ w.edges = (tauOf s k).arg.toNat / 16 % 4)
  ∧ (∀ s k, s.tms.tsValid = true → (tauOf s k).state = .armed → (tauOf s k).mode = .oneShot → (tauOf s k).wyt = true →
    s.tms.wytState = .invalid → (tauOf s k).target < 0x100 →
    ∃ t, exec (.tauFire k) s = .next t ∧ (tauOf t k).state = .idle ∧ (tauOf t k).reason = 5 ∧ (tauOf t k).fired = false
      ∧ t.tau.ta = s.tau.ta ∧ t.tau.caps = s.tau.caps)
  ∧ (∀ s k, willFire (tauOf s k) = false → sealDue s k = false → exec (.tauFire k) s = .next s)
  ∧ (∀ s k, willFire (tauOf s k) = false → sealDue s k = true → s.tms.tsValid = true →
      exec (.tauFire k) s = .next (surveySeal (untilScale s (tauOf s k).wyt (tauOf s k).fire) k))
  ∧ (∀ s p a l, (tget ({} : TaPin) s.tau.ta p).pulse = some (a, l) → ∃ t, exec (.pinPulseEnd p) s = .next t
      ∧ (tget ({} : TaPin) t.tau.ta p).level = l ∧ (tget ({} : TaPin) t.tau.ta p).pulse = none ∧ t.mono = max s.mono a)
  ∧ (∀ s p e w, tget none s.tau.caps p = some w → s.mono < w.endAt → w.stamps.length < 16 →
      (w.edges = 3 ∨ w.edges = (if e then 1 else 2)) →
      exec (.captureEdge p e) s = .next { s with tau := { s.tau with
        caps := tset none s.tau.caps p (some { w with stamps := w.stamps ++ [(word (scaleNs s w.wyt), e)] }) } })
  ∧ (∀ s p w, tget none s.tau.caps p = some w → ∃ t, exec (.captureWindowEnd p) s = .next t
      ∧ tget none t.tau.caps p = none ∧ tget none t.tau.captured p = some w ∧ t.mono = max s.mono w.endAt)
  ∧ (∀ s k, s.tms.tsValid = true → willFire (tauOf s k) = true →
    let r := tauOf s k
    let u := untilScale s r.wyt r.fire
    let arg := r.arg.toNat
    r.wyt = false ∨ wytValid u = true → tauDrives u r = true →
    (r.target = 1 → exec (.tauFire k) s = .next (tauFired (firePin u k) k (pinCollides u k)))
    ∧ (r.target = 2 → exec (.tauFire k) s
        = .next (tauFired (launchFrame u (arg % 256) (arg / 256 % 8) (r.owner.getD 0) (r.buffer.getD [])) k false))
    ∧ (r.target = 3 → exec (.tauFire k) s = .next (
        let c := commitSlot u (arg % 65536) 0x102 (r.buffer.getD [])
        if c.1 = .ok then tauFired c.2 k false else tauFailed u k))
    ∧ (r.target = 5 → bitAt r.arg 8 = false →
        exec (.tauFire k) s = .next (tauFired (releaseWithdraw (presented u k (arg % 8) false) (arg % 8)) k false))
    ∧ (r.target = 6 → exec (.tauFire k) s = .next (aliasEpoch (tauFired u k false) (b2n (bitAt r.arg 0))))
    ∧ (r.target = 7 → exec (.tauFire k) s = .next (fireBank u k r)))
  ∧ (∀ s k c, (tauOf s k).mode = .periodic →
    let r := tauOf s k
    tauOf (tauFired s k c) k = if r.count ≠ 0 ∧ r.count ≤ r.k + 1 then
      { r with reason := 0, state := .idle, k := r.k + 1 }
    else { r with reason := 0, k := r.k + 1, fire := r.fire + r.period * 2 ^ 16 })
  ∧ (∀ s k, s.tms.tsValid = true → willFire (tauOf s k) = true → tauDrives s (tauOf s k) = false → (tauOf s k).wyt = false →
    ∃ u, u.mono = (untilScale s false (tauOf s k).fire).mono ∧ exec (.tauFire k) s = .next (tauFired u k false))

/-- Commit tokens, the commit deadline, wayside repeats and surveys: COMMIT_TOKEN_RECEIVE: a token on WL0 that passes every test of R102 for the one wayside TAU armed makes it COMMITTED (decision commit) or aborts it with CANCELLED, and notes its arrival; one that fails a test leaves the state and counts one reject; a token through a window bound to the TAU does the same for one armed with a CSS source, and one for a TAU armed with a wayside source is a reject. COMMIT_DEADLINE aborts a TAU still ARMED at T_commit with NO_COMMIT. WAYSIDE_TOKEN_REPEAT sends the stored token again and stops at 1 ms before T_commit. SURVEY_REPORT_RECEIVE through a window bound to the issuer's TAU keeps a verified report once per reporter. SURVEY_CLOSE closes the survey and keeps its table; its outcome follows R109. -/
def Obligations.TokensAndSurveysAreJudged : Prop :=
  (∀ s k r t f, s.tms.tsValid = true → linkIsUp s 94 = true → f.hdr.fcsOk = true → f.body = .token t → s.tau.units = [(k, r)] →
    r.mode = .gated → r.state = .armed → r.wayside = true → r.verdict = 0 → r.target < 0x100 →
    (tokenOk s r t = true → ∃ u, exec (.commitTokenReceive 94 f) s = .next u
      ∧ (t.decision = 1 → (tauOf u k).state = .committed ∧ (tauOf u k).rejects = r.rejects)
      ∧ (t.decision = 2 → (tauOf u k).reason = 2 ∧ ((tauOf u k).state = .idle ∨ (tauOf u k).state = .surveyWait))
      ∧ (r.tokenAt = none → (tauOf u k).tokenAt = some (word (scaleNs s r.wyt))) ∧ bitAt (tauOf u k).lines 2 = true)
    ∧ (tokenOk s r t = false → ∃ u, exec (.commitTokenReceive 94 f) s = .next u ∧ (tauOf u k).state = .armed
      ∧ (tauOf u k).rejects = sat32 (r.rejects + 1) ∧ (tauOf u k).verdict = 0))
  ∧ (∀ s k, s.tms.tsValid = true → (tauOf s k).state = .armed → (tauOf s k).mode = .gated →
      (tauOf s k).target < 0x100 → ∃ t, exec (.commitDeadline k) s = .next t
      ∧ (tauOf t k).state = (if (tauOf s k).survey then .surveyWait else .idle)
      ∧ (tauOf t k).reason = 1 ∧ (tauOf t k).fired = false)
  ∧ (∀ s k w, tget none s.tau.tokens k = some w → s.tms.tsValid = true →
      let u := untilMono s w.nextAt
      (scaleNs u w.wyt + 1000000 ≤ w.commitAt → linkIsUp s 94 = true →
        exec (.waysideTokenRepeat k) s = .next { emitPort u 94 (.wayside w.token) with
          tau := { s.tau with tokens := tset none s.tau.tokens k (some { w with nextAt := u.mono + 1000000 }) } })
      ∧ (w.commitAt < scaleNs u w.wyt + 1000000 → ∃ t, exec (.waysideTokenRepeat k) s = .next t
        ∧ t.wire = s.wire ∧ tget none t.tau.tokens k = none))
  ∧ (∀ s p f i w x k, p < 4 → cssPort s p = true → s.tms.tsValid = true → lineMatches p f.hdr = true →
      integrated s = true → f.body = .survey x → windowsOf s f.hdr.slotId = [i] → s.css.windows[i]? = some w →
      copyValid s w f.hdr = true → w.gotA = false → w.gotB = false → w.delivery = 3072 + k → k < 64 →
      (tauOf s k).surveyOpen = true → x.actionId = (tauOf s k).actionId → surveySigned s (tauOf s k) x = true →
      ((tauOf s k).reports.any fun y => y.reporterId == x.reporterId) = false →
      ∃ t, exec (.surveyReportReceive p f) s = .next t ∧ (tauOf t k).reports = (tauOf s k).reports ++ [x]
        ∧ (tauOf t k).state = (tauOf s k).state)
  ∧ (∀ s k, s.tms.tsValid = true → (tauOf s k).surveyOpen = true → ∃ t, exec (.surveyClose k) s = .next t
      ∧ (tauOf t k).surveyOpen = false ∧ (tauOf t k).reports = (tauOf s k).reports ∧ (tauOf t k).state = (tauOf s k).state)
  ∧ (∀ r : TauRec, let fired := (r.reports.filter fun x => x.outcome == 1).length
      (surveyOutcome r = 0 ↔ fired = r.expected)
      ∧ (surveyOutcome r = 1 ↔ fired ≠ r.expected ∧ fired = 0 ∧ r.expected ≤ r.reports.length))
  ∧ (∀ s p f i w t k, p < 4 → cssPort s p = true → s.tms.tsValid = true → lineMatches p f.hdr = true →
      integrated s = true → f.body = .token t → windowsOf s f.hdr.slotId = [i] → s.css.windows[i]? = some w →
      copyValid s w f.hdr = true → w.gotA = false → w.gotB = false → w.delivery = 3072 + k → k < 64 →
      (tauOf s k).mode = .gated → (tauOf s k).state = .armed → (tauOf s k).verdict = 0 → t.decision = 1 →
      (tokenOk s (tauOf s k) t = true → (tauOf s k).wayside = false →
        ∃ u, exec (.commitTokenReceive p f) s = .next u ∧ (tauOf u k).state = .committed ∧ (tauOf u k).verdict = 1)
      ∧ (tokenOk s (tauOf s k) t = false ∨ (tauOf s k).wayside = true →
        ∃ u, exec (.commitTokenReceive p f) s = .next u ∧ (tauOf u k).state = .armed
          ∧ (tauOf u k).rejects = sat32 ((tauOf s k).rejects + 1)))

/-- What one discard leaves in bittern and in its tenant's last-discard record: A discard adds 1 to the counter of its port and reason and to that of its tenant and reason and to no other of either kind, and to every watch counter whose filter it matches; the tenant's record then holds the instant, reason, ports, class, marks and stream index with one discard more since word 0 was last read, every other tenant's record is as before, and a read of word 0 latches words 1 to 3 and clears the live count. -/
def Obligations.DiscardsAreCountedOnceAndRecorded : Prop :=
  ∀ (s : State) (d : Discard),
    let b := s.fab.bit
    let t := (discard s d).fab.bit
    let rec1 := tget {} t.last d.tenant
    (∀ k, tget 0 t.ports k = if k = d.port * 16 + d.reason then tget 0 b.ports k + 1 else tget 0 b.ports k)
    ∧ (∀ k, tget 0 t.tenants k = if k = d.tenant * 16 + d.reason then tget 0 b.tenants k + 1 else tget 0 b.tenants k)
    ∧ (∀ k w, tget none b.watches k = some w →
        tget none t.watches k = some (if watchHit w.filter d then
          { w with frames := w.frames + 1, bytes := w.bytes + BitVec.ofNat 64 d.len } else w))
    ∧ rec1.w0 = stampNs s
    ∧ (d.reason < 256 → d.ingress < 256 → d.egress < 256 → d.cls < 8 →
        rec1.w1.toNat / 2 ^ 24 = d.reason ∧ rec1.w1.toNat / 2 ^ 16 % 256 = d.ingress
        ∧ rec1.w1.toNat / 2 ^ 8 % 256 = d.egress ∧ rec1.w1.toNat / 32 % 8 = d.cls
        ∧ bitAt rec1.w1 4 = d.violation ∧ bitAt rec1.w1 3 = d.stomped ∧ rec1.w1.toNat % 8 = 0)
    ∧ (d.stream = none → rec1.w2 = 0xFFFF) ∧ (∀ i, d.stream = some i → i < 65536 → rec1.w2.toNat = i)
    ∧ rec1.live = sat32 ((tget {} b.last d.tenant).live + 1)
    ∧ (∀ u, u ≠ d.tenant → tget {} t.last u = tget {} b.last u)
    ∧ (∀ u, u < 256 → poisonedBacking s (0x240000 + u * 0x10) = none → ∃ v, exec (.lastDiscardLatch u) s = .next v
        ∧ v.glob.readData = [(tget {} b.last u).w0] ∧ (tget {} v.fab.bit.last u).live = 0
        ∧ (tget {} v.fab.bit.last u).l1 = (tget {} b.last u).w1 ∧ (tget {} v.fab.bit.last u).l2 = (tget {} b.last u).w2
        ∧ (tget {} v.fab.bit.last u).l3 = word (tget {} b.last u).live)

/-- A frame enters, is queued and leaves in strict priority: FRAME_INGRESS completes for every set of frames: no frame changes nothing; a frame below 64 B on an Ethernet port is counted as a fragment and goes no further; one whose port does not receive is not seen; one the port consumes is counted, or discarded by stage 1; one that an earlier stage denies is counted as received and discarded with that stage's reason, a conforming one as a violation (an eliminated duplicate excepted: DEDUCED, log); a frame that is no train timing of its own, classified for one usable egress port, within its accounts, has its source learned, is held once and put at the end of that port's class queue. EGRESS_SELECT sends the head of TC7 when its gate is open and the frame fits, as it is, takes it from the queue and counts it; a port that may not send sends nothing. -/
def Obligations.FramesPassTheStages : Prop :=
  (∀ s, exec (.frameIngress []) s = .next s)
  ∧ (∀ s x, portReceives s x.port = true → x.frame.len < 64 → portKind x.port ≠ .can →
    exec (.frameIngress [x]) s = .next (countPort (countPhy s x.port x.phy) x.port 11 1))
  ∧ (∀ s x, portReceives s x.port = false → exec (.frameIngress [x]) s = .next s)
  ∧ (∀ s x c, cssKind x = false → portReceives s x.port = true → 64 ≤ x.frame.len ∨ portKind x.port = .can →
    consumedAtPort x.port x.frame = true → x.finds = [] →
    stage1 s x.port x.frame = some c →
      exec (.frameIngress [x]) s = .next (stage1Drop (countPhy s x.port x.phy) x.port x.frame c))
  ∧ (∀ s x, cssKind x = false → portReceives s x.port = true → 64 ≤ x.frame.len ∨ portKind x.port = .can →
    consumedAtPort x.port x.frame = true → x.finds = [] →
    stage1 s x.port x.frame = none →
      exec (.frameIngress [x]) s = .next (countConsumed (countPhy s x.port x.phy) x.port x.frame))
  ∧ (∀ s x u r p, cssKind x = false → portReceives s x.port = true → 64 ≤ x.frame.len ∨ portKind x.port = .can →
    consumedAtPort x.port x.frame = false → stage1 s x.port x.frame = none → x.finds = [] → x.phy = [] →
    classify s x.port x.frame none = .pass u r → cutThrough u x.port r = false → r.ports = [p] → p < 96 →
    let v := learnFrom (countRx u x.port x.frame) x.port x.frame r
    (requestOf s s x).2.2 ≤ sharedFree s → (routedAlloc v x.port r).sharedCells ≤ sharedFree v →
    (routedAlloc v x.port r).sharedCells = 0 ∨ thresholdOk s p r.cls = true →
    (∀ h : Held, h.frame = r.frame → h.ingress = x.port → h.rcts = prpNumbers v r.frame [p] →
      egressReason v p r (egressFrame v p h).len = none) →
    ∃ t h, exec (.frameIngress [x]) s = .next t ∧ tget none t.fab.held v.fab.nextId = some h ∧ h.frame = r.frame
      ∧ h.refs = 1 ∧ h.cls = r.cls ∧ h.tenant = r.tenant ∧ h.ingress = x.port
      ∧ queueOf t p r.cls = queueOf v p r.cls ++ [v.fab.nextId]
      ∧ t.fab.nextId = v.fab.nextId + 1 ∧ t.fab.fdb = v.fab.fdb ∧ t.css = v.css ∧ t.tms = v.tms)
  ∧ (∀ s x u c tn cls st green, cssKind x = false → portReceives s x.port = true →
    64 ≤ x.frame.len ∨ portKind x.port = .can → consumedAtPort x.port x.frame = false →
    stage1 s x.port x.frame = none → x.finds = [] → x.phy = [] →
    classify s x.port x.frame none = .deny u c tn cls st green →
    (green = false ∨ c = 5 → exec (.frameIngress [x]) s = .next (discard (countRx u x.port x.frame)
      { port := x.port, reason := c, ingress := x.port, tenant := tn, cls := cls, stream := st, len := x.frame.len }))
    ∧ (green = true → c ≠ 5 → exec (.frameIngress [x]) s = .next (lose (discard (countRx u x.port x.frame)
      { port := x.port, reason := c, ingress := x.port, tenant := tn, cls := cls, stream := st
        violation := covered u st true, len := x.frame.len }) st true 255 c)))
  ∧ (∀ s p phy k h, p < 80 → portSends s p = true → queueOf s p 7 = [k] → heldOf s k = some h → h.refs = 1 →
    h.stream = none → h.txRef = none → h.frame.etype = 0x88B5 → h.ingress ≠ 100 → h.frame.len ≤ maxFrame s p →
    fitsGate s p 7 h.frame.len = true → (∀ c j, c < 7 → (queueOf s p c).head? = some j → outLen s p j ≤ maxFrame s p) →
    ∃ t, exec (.egressSelect ⟨p, phy⟩) s = .next t ∧ t.wire = s.wire ++ [.frame p h.frame false] ∧ queueOf t p 7 = []
      ∧ heldOf t k = none ∧ t.css = s.css ∧ t.tms = s.tms
      ∧ (phy = [] → tget 0 t.ports.counters (p * 64) = tget 0 s.ports.counters (p * 64) + 1))
  ∧ (∀ s p phy, portSends s p = false → exec (.egressSelect ⟨p, phy⟩) s = .next s)

/-- Gate changes, ageing, re-salting and the FRER and PRP timers: SLUICE_GATE_CHANGE of a port with a bank lets time pass to the next change, unless one of this instant is still due, and then the gates are those the bank gives; FDB_AGE_OUT removes a learned entry at aging_time after its last traffic and no other; RESALT_TRIGGER under R144's condition starts a re-salt, or sets fdb_full within 60 s of the last; RESALT_WALK_DONE and RESALT_RESUME move a re-salt on and lose no entry but learned ones that read poisoned; FRER_RESET_TIMEOUT resets a function after its timeout; LATENT_ERROR_DETECTION, every 2 s, counts an error and sets frer_latent where the difference of passed and discarded has moved from its base (the defaults of 802.1CB as the model takes them, log); PRP_SUPERVISION_SEND, every 2 s, sends on both ports of an enabled pair that are up; PRP_NODE_FORGET forgets a node 60 s after its last frame. -/
def Obligations.FabricEventsComplete : Prop :=
  (∀ s p, s.tms.tsValid = true → p < 96 →
    (bankIn s p (trtNs s)).isSome = true ∨ (s.css.gates.any fun g => g.port == p) = true →
    let u := if (tget ({} : Sluice) s.fab.sluices p).gates = (gatesAt s p (trtNs s)).1 then
      untilNs s (trtNs s + (gatesAt s p (trtNs s)).2) else s
    let e := (tget ({} : Sluice) s.fab.sluices p).entry
    ∃ t, exec (.sluiceGateChange p) s = .next t ∧ (tget ({} : Sluice) t.fab.sluices p).gates = (gatesAt u p (trtNs u)).1
      ∧ (tget ({} : Sluice) t.fab.sluices p).entry = e + 1 ∧ t.mono = u.mono ∧ t.css = s.css)
  ∧ (∀ s mac fid e, fdbFind s mac fid = some e → e.isStatic = false → ∃ t, exec (.fdbAgeOut mac fid) s = .next t
      ∧ t.fab.fdb.entries = s.fab.fdb.entries.filter (fun x => !(x.mac == mac && x.fid == fid))
      ∧ t.mono = max s.mono (e.seenAt + s.fab.fdb.aging * 1000000000))
  ∧ (∀ s, resaltDue s = true → s.fab.fdb.resalt = .idle → s.fab.fdb.entries.length ≤ 28672 →
      (s.fab.fdb.lastResalt = none → ∃ t, exec .resaltTrigger s = .next t ∧ t.fab.fdb.resalt = .migrating
        ∧ t.fab.fdb.pass = 1 ∧ bitAt t.fab.alarm 5 = true ∧ t.fab.fdb.newSalt = s.draws)
      ∧ (∀ a, s.fab.fdb.lastResalt = some a → s.mono < a + 60000000000 → ∃ t, exec .resaltTrigger s = .next t
        ∧ t.fab.fdb.resalt = .idle ∧ t.fab.fdb.full = true ∧ bitAt t.fab.alarm 8 = true ∧ t.fab.fdb.entries = s.fab.fdb.entries))
  ∧ (∀ s,
    let kept := s.fab.fdb.entries.filter fun e => e.isStatic || !entryPoisoned s 2 (fdbKey s.fab.fdb e)
    let f := { s.fab.fdb with entries := kept }
    ∃ t, exec .resaltWalkDone s = .next t
      ∧ t.fab.fdb.entries.map (fun e => (e.mac, e.fid, e.dest, e.isStatic)) = kept.map (fun e => (e.mac, e.fid, e.dest, e.isStatic))
      ∧ t.fab.held = s.fab.held ∧ t.fab.queues = s.fab.queues
      ∧ (s.fab.fdb.resalt = .migrating → oldWays (migrateAll f) = [] → t.fab.fdb.resalt = .camSweep)
      ∧ (s.fab.fdb.resalt = .migrating → oldWays (migrateAll f) ≠ [] → s.fab.fdb.pass < 4 →
          t.fab.fdb.resalt = .migrating ∧ t.fab.fdb.pass = s.fab.fdb.pass + 1))
  ∧ (∀ s, exec .resaltResume s = .next (if s.fab.fdb.resalt = .stuck ∧ roomFreed s.fab.fdb = true then
      { s with fab := { s.fab with fdb := { s.fab.fdb with resalt := .camSweep } } } else s))
  ∧ (∀ s f, (tget ({} : Recovery) s.fab.recovery f).takeAny = false → ∃ t, exec (.frerResetTimeout f) s = .next t
      ∧ tget ({} : Recovery) t.fab.recovery f = { tget ({} : Recovery) s.fab.recovery f with
          takeAny := true, history := 0, resets := (tget ({} : Recovery) s.fab.recovery f).resets + 1 }
      ∧ t.mono = max s.mono ((tget ({} : Recovery) s.fab.recovery f).lastAt
          + (tget ({} : Recovery) s.fab.recovery f).timeoutMs * 1000000))
  ∧ (∀ s f, let r := tget ({} : Recovery) s.fab.recovery f
    r.latentOn = true → ∃ t, exec (.latentErrorDetection f) s = .next t
      ∧ t.mono = max s.mono (r.testedAt + 2000000000)
      ∧ (tget ({} : Recovery) t.fab.recovery f).testedAt = t.mono
      ∧ (tget ({} : Recovery) t.fab.recovery f).base = (if r.baseAt + 30000000000 ≤ t.mono then latentGap r else r.base)
      ∧ (latentGap r ≠ r.base → bitAt t.fab.alarm 9 = true
        ∧ (tget ({} : Recovery) t.fab.recovery f).latentErrors = r.latentErrors + 1)
      ∧ (latentGap r = r.base → t.fab.alarm = s.fab.alarm
        ∧ (tget ({} : Recovery) t.fab.recovery f).latentErrors = r.latentErrors))
  ∧ (∀ s k, k < 6 → s.fab.prp.enabled.contains k = true →
      let q := tget 0 s.fab.prp.supSeq k
      let a := nextBeat (tget none s.fab.prp.supAt k) 2000000000 s.mono
      let u := untilMono s a
      exec (.prpSupervisionSend k) s = .next (([4 + k, 10 + k].filter (linkIsUp s)).foldl
        (fun v p => emitPort v p (.prpSup p q))
        { u with fab := { s.fab with prp := { s.fab.prp with
            supSeq := tset 0 s.fab.prp.supSeq k (q + 1), supAt := tset none s.fab.prp.supAt k (some a) } } }))
  ∧ (∀ s mac n, s.fab.prp.nodes.find? (fun x => x.mac == mac) = some n → ∃ t, exec (.prpNodeForget mac) s = .next t
      ∧ t.fab.prp.nodes = s.fab.prp.nodes.filter (fun x => x.mac != mac) ∧ t.mono = max s.mono (n.lastAt + 60000000000))
  ∧ (∀ s, resaltDue s = true → s.fab.fdb.resalt ≠ .idle → ∃ t, exec .resaltTrigger s = .next t
      ∧ t.fab.fdb.heldTrigger = true ∧ t.fab.fdb.resalt = s.fab.fdb.resalt ∧ t.fab.fdb.entries = s.fab.fdb.entries)

/-- The configuration and read commands of the fabric: For an accepted command: BRINE_CONFIG on a STOPPED node with no stream, CLASS_CONFIG, TAG_CONFIG and PRP_CONFIG with good records put the new settings in force (class settings from each port's next frame boundary), a record that names a reserved port failing first; SLUICE_LOAD of a well-formed bank goes into the inactive bank; FRER_STATUS answers 64 B of counters; FDB_ADD replaces what the address had by a static entry, FDB_DELETE removes only a static one and ends fdb_full with its condition, FDB_FLUSH the selected ones, FDB_RESALT starts a re-salt; BITTERN_WATCH arms a watch at zero and BITTERN_CLEAR zeroes what its caller may; every other part of the state stays but for the response. -/
def Obligations.FabricCommandsComplete : Prop :=
  let cmd := fun (op : Nat) => ({ opcode := op, classC := true, owner := true } : Cmd)
  (∀ h s recs c, accepts (cmd 0x0401) h s = true → s.css.state = .stopped → (s.fab.streams.any fun e => e.2.isSome) = false →
    recs.findIdx? (recReserved s) = none → applyRecs s (brineRec s) 0 s.fab.brine recs = .ok c →
    ((List.range 101).any fun q => decide (guardOf c q < cellsOf (maxFrame s q)) && !(decide (88 ≤ q) && decide (q ≤ 93))) = false →
    ((List.range 101).map (guardOf c)).sum + c.tc7 + c.tc6 + c.pool ≤ 65536 → poolUsed s ≤ c.pool →
    let u : State := { s with fab := { s.fab with brine := c } }
    ∃ v, exec (.brineConfig h recs) s = .next (respond v h 0x0401 .ok 0 [])
      ∧ v.fab.brine = c ∧ v.fab.sharedMin = min s.fab.sharedMin (sharedFree u)
      ∧ (sharedFree u < c.lowMark → s.fab.brine.lowMark ≤ sharedFree s → bitAt v.fab.alarm 0 = true)
      ∧ v.css = s.css ∧ v.tms = s.tms ∧ v.fab.queues = s.fab.queues ∧ v.fab.held = s.fab.held
      ∧ (c.lowMark ≤ sharedFree u ∨ sharedFree s < s.fab.brine.lowMark → v = { s with fab := { s.fab with
          brine := c, sharedMin := min s.fab.sharedMin (sharedFree u) } }))
  ∧ (∀ h s recs i, accepts (cmd 0x0401) h s = true → recs.findIdx? (recReserved s) = some i →
    exec (.brineConfig h recs) s = .next (respond s h 0x0401 .invalidArgument 0 (leBytes 2 i)))
  ∧ (∀ h s recs c, accepts (cmd 0x0402) h s = true → applyRecs s classRec 0 s.fab.cls recs = .ok c → ∃ o,
    exec (.classConfig h recs) s = .next (respond { s with fab := { s.fab with cls := c, oldCls := o } } h 0x0402 .ok 0 [])
      ∧ ∀ p, p < 101 → tget none o p = some (clsAt s p))
  ∧ (∀ h s p b k, accepts (cmd 0x0403) h s = true → p < 96 → b < 2 → bankOk s k = true → bankPending s p b = false →
    (tget ({} : Sluice) s.fab.sluices p).active ≠ b → streamsHold s p (some (b, k)) = true → ∃ x,
    exec (.sluiceLoad h p b k) s = .next (respond (bankWritten
      { s with fab := { s.fab with sluices := tset {} s.fab.sluices p x } } p b) h 0x0403 .ok 0 [])
      ∧ bankOf x b = some k ∧ bankOf x (1 - b) = bankOf (tget {} s.fab.sluices p) (1 - b)
      ∧ x.gates = (tget ({} : Sluice) s.fab.sluices p).gates)
  ∧ (∀ h s recs f, accepts (cmd 0x0404) h s = true → applyRecs s (tagRec s) 0 s.fab recs = .ok f →
    exec (.tagConfig h recs) s = .next (respond { s with fab := f } h 0x0404 .ok 0 []))
  ∧ (∀ h s recs e, accepts { opcode := 0x0405, classC := true, owner := true, features := [7] } h s = true →
    applyRecs s prpRec 0 s.fab.prp.enabled recs = .ok e →
    exec (.prpConfig h recs) s = .next (respond { s with fab := { s.fab with
      prp := { s.fab.prp with enabled := e } } } h 0x0405 .ok 0 []))
  ∧ (∀ h s f, accepts { opcode := 0x0406, features := [6] } h s = true → f < 4096 → ∃ p,
    exec (.frerStatus h f) s = .next (respond s h 0x0406 .ok 0 p) ∧ p.length = 64
      ∧ p.take 8 = leBytes 8 (tget ({} : Recovery) s.fab.recovery f).outOfOrder)
  ∧ (∀ h s mac fid d, accepts (cmd 0x0407) h s = true → fid < 4096 →
    (match d with | .port p => !portReserved s p | .mask i => decide (i < 1024)) = true →
    bucketCount s.fab.fdb (bucketOf (placingSalt s.fab.fdb) mac fid) < 4 ∨ camCount s.fab.fdb < 256 → ∃ t,
    exec (.fdbAdd h mac fid d) s = .next (respond t h 0x0407 .ok 0 []) ∧ t.tms = s.tms ∧ t.fab.queues = s.fab.queues
      ∧ (fdbFind t mac fid).map (fun e => (e.dest, e.isStatic)) = some (d, true)
      ∧ ∀ m f, (m, f) ≠ (mac, fid) → fdbFind t m f = fdbFind s m f)
  ∧ (∀ h s mac fid, accepts (cmd 0x0408) h s = true → exec (.fdbDelete h mac fid) s = .next (respond { s with
      fab := { s.fab with fdb := { s.fab.fdb with
        entries := s.fab.fdb.entries.filter fun e => !(e.isStatic && e.mac == mac && e.fid == fid)
        full := s.fab.fdb.full && decide (28672
          < (s.fab.fdb.entries.filter fun e => !(e.isStatic && e.mac == mac && e.fid == fid)).length) } } } h 0x0408 .ok 0 []))
  ∧ (∀ h s sel, accepts (cmd 0x0409) h s = true → (∀ p, sel = .byPort p → portReserved s p = false) → exec (.fdbFlush h sel) s = .next (respond { s with
      fab := { s.fab with fdb := { s.fab.fdb with
        entries := s.fab.fdb.entries.filter fun e => !flushes sel e, full := false } } } h 0x0409 .ok 0 []))
  ∧ (∀ h s, accepts (cmd 0x040A) h s = true → s.fab.fdb.resalt = .idle →
    exec (.fdbResalt h) s = .next (respond (startResalt s) h 0x040A .ok 0 []))
  ∧ (∀ h s k f, accepts { opcode := 0x040B } h s = true → k < 16 → f.port.any (portReserved s) = false → exec (.bitternWatch h k f) s = .next (respond { s with
      fab := { s.fab with bit := { s.fab.bit with
        watches := tset none s.fab.bit.watches k (some { filter := f, owner := h.tenant, frames := 0, bytes := 0 }) } } }
      h 0x040B .ok 0 []))
  ∧ (∀ h s u, accepts { opcode := 0x040C } h s = true → u < 256 → (h.tenant = 0 ∨ u = h.tenant) → ∃ b,
    exec (.bitternClear h (.tenant u)) s = .next (respond { s with fab := { s.fab with bit := b } } h 0x040C .ok 0 [])
      ∧ (∀ r, r < 16 → tget 0 b.tenants (u * 16 + r) = 0) ∧ b.ports = s.fab.bit.ports ∧ b.watches = s.fab.bit.watches
      ∧ ∀ k, k / 16 ≠ u → tget 0 b.tenants k = tget 0 s.fab.bit.tenants k)
  ∧ (∀ h s, accepts { opcode := 0x040C } h s = true → h.tenant ≠ 0 →
    exec (.bitternClear h .all) s = .next (respond s h 0x040C .notPermitted 0x0703 []))
  ∧ (∀ h s, accepts { opcode := 0x040C } h s = true → h.tenant = 0 → ∃ b,
    exec (.bitternClear h .all) s = .next (respond { s with fab := { s.fab with bit := b } } h 0x040C .ok 0 [])
      ∧ b.ports = [] ∧ b.tenants = [] ∧ b.last = s.fab.bit.last)
  ∧ (∀ h s p, accepts { opcode := 0x040C } h s = true → h.tenant = 0 → portReserved s p = false → ∃ b,
    exec (.bitternClear h (.port p)) s = .next (respond { s with fab := { s.fab with bit := b } } h 0x040C .ok 0 [])
      ∧ (∀ r, r < 16 → tget 0 b.ports (p * 16 + r) = 0) ∧ b.tenants = s.fab.bit.tenants ∧ b.watches = s.fab.bit.watches)
  ∧ (∀ h s k w, accepts { opcode := 0x040C } h s = true → tget none s.fab.bit.watches k = some w →
    h.tenant = 0 ∨ w.owner = h.tenant →
    exec (.bitternClear h (.watch k)) s = .next (respond { s with fab := { s.fab with bit := { s.fab.bit with
      watches := tset none s.fab.bit.watches k (some { w with frames := 0, bytes := 0 }) } } } h 0x040C .ok 0 []))

/-- From STREAM_ADMIT to an active stream: An accepted STREAM_ADMIT whose destination resolves to a path of at most 63 hops begins the two-phase installation on its line, or with frer on both; one whose one hop is this node's and passes its checks within the bound reserves a hold and is INSTALLING with T_act 1 ms ahead; PREPARE_RECEIVE at a ready hop node, on a port that runs the admission channel, places its hold, or notes its refusal, and the last hop node replies; REPLY_RECEIVE goes on with the records of a hop node added, and at the origin a failure refuses the request and the last answer decides it; ADMISSION_INSTALL_RECEIVE schedules the entry write, STREAM_ACTIVATION writes it at T_act and confirms; CONFIRM_RECEIVE of the last hop makes the stream ACTIVE at every hop and completes STREAM_ADMIT, and at a hop node it brings the origin's state (the model's choice, log). -/
def Obligations.StreamsAreInstalledInTwoPhases : Prop :=
  (∀ h s r a q last bb, accepts { opcode := 0x0501, classC := true, features := [5] } h s = true →
    portReserved s r.ingressPort = false → hasRight s h.tenant 2 = true →
    (r.ingressPort = 96 ∨ hasPort s h.tenant r.ingressPort = true) → reqOk r = true → inaugurating s = false →
    aliasLookup s r.destTfa = some a → destPosition s a = some q → (lastHop s q a).1 = some last →
    pathsOf s r q = some bb → max bb.1.length bb.2.length < 63 →
    let d := pathDelay (lastHop s q a).2 bb.1
    let e := pathDelay d.2 bb.2
    exec (.streamAdmit h r) s = .next (beginStream (if r.frer then e.2 else d.2)
      { streamId := freshId s, txn := s.adm.nextTxn, req := r, owner := h.tenant, hcp := some h, state := .preparing
        path := bb.1 ++ [last], pathB := if r.frer then bb.2 ++ [last] else [], dHops := [], linkDelay := d.1
        linkDelayB := if r.frer then e.1 else 0, sum := 0, at_ := s.mono, tAct := 0, confirmed := [], down := []
        suspendedAt := 0 } a))
  ∧ (∀ h s r a last x, accepts { opcode := 0x0501, classC := true, features := [5] } h s = true →
    portReserved s r.ingressPort = false → hasRight s h.tenant 2 = true →
    (r.ingressPort = 96 ∨ hasPort s h.tenant r.ingressPort = true) → reqOk r = true →
    inaugurating s = false → aliasLookup s r.destTfa = some a →
    destPosition s a = some s.ine.position → lastHop s s.ine.position a = (some last, s) → r.frer = false →
    last.position = s.ine.position →
    let o : OriginStream :=
      { streamId := freshId s, txn := s.adm.nextTxn, req := r, owner := h.tenant, hcp := some h, state := .preparing
        path := [last], pathB := [], dHops := [], linkDelay := 0, linkDelayB := 0, sum := 0, at_ := s.mono, tAct := 0
        confirmed := [], down := [], suspendedAt := 0 }
    (s.adm.streams.all fun y => y.streamId != o.streamId) = true →
    (s.adm.holds.any fun y => sameAttempt y.name (lineName s o r.lineB)) = false →
    hopTry s (prepareOf s o a r.lineB) 1 last.port r.ingressPort = .ok x → x.dHop ≤ r.bound →
    ∃ t, exec (.streamAdmit h r) s = .next t ∧ t.adm.holds = s.adm.holds ++ [{ x with installAt := some (trtNs s + 1000000) }]
      ∧ (∃ y, originOf t (freshId s) = some y ∧ y.state = .installing ∧ y.tAct = trtNs s + 1000000 ∧ y.sum = x.dHop
          ∧ y.owner = h.tenant) ∧ t.fab = s.fab ∧ t.tms = s.tms)
  ∧ (∀ s : State, s.adm.streams.length < 65535 → (s.adm.streams.any fun o => o.streamId == freshId s) = false)
  ∧ (∀ s p m i g, channelUp s p = true → s.fw.phase = .ready → m.name.origin ≠ s.otp.unitId → ownHops s m = [(i, g)] →
      (∀ x, hopTry s m i g.port p = .ok x → ∃ t, exec (.prepareReceive p m) s = .next t
        ∧ t.adm.holds = s.adm.holds ++ [x] ∧ t.adm.refusals = s.adm.refusals ∧ t.fab = s.fab
        ∧ ((m.hops.getLast?.map PathHop.position) = some s.ine.position → ∃ q, t.wire.getLast? = some (.reply q)
            ∧ q.name = m.name ∧ q.fail = none))
      ∧ (∀ f, hopTry s m i g.port p = .error f → ∃ t, exec (.prepareReceive p m) s = .next t
        ∧ t.adm.holds = s.adm.holds ∧ t.adm.refusals = s.adm.refusals ++ [(m.name, f)] ∧ t.fab = s.fab))
  ∧ (∀ s p, channelUp s p = false → linkIsUp s p = true → (∀ m : Prepare, exec (.prepareReceive p m) s
        = .next (discard (countGot s p (sentLen (.prepare m.lineB m)))
            { port := p, reason := 4, ingress := p, tenant := 0, len := sentLen (.prepare m.lineB m) }))
      ∧ ∀ n sec ns, exec (.admissionInstallReceive p n sec ns) s = .next (discard (countGot s p 64)
          { port := p, reason := 4, ingress := p, tenant := 0, len := 64 }))
  ∧ (∀ s r, r.name.origin ≠ s.otp.unitId → (s.adm.refusals.find? fun e => e.1 == r.name) = none → ∃ t,
      exec (.replyReceive r) s = .next t
      ∧ t.wire = s.wire ++ [.reply { r with hops := ownRecords s r.name ++ r.hops }] ∧ t.adm.holds = s.adm.holds)
  ∧ (∀ s r o f, r.name.origin = s.otp.unitId → originOf s r.name.streamId = some o → o.state = .preparing →
      o.txn = r.name.txn → r.fail = some f → exec (.replyReceive r) s = .next (refuseStream (mgpTakes s (.reply r)) o f none)
      ∧ ∀ y ∈ (refuseStream (mgpTakes s (.reply r)) o f none).adm.holds, sameStream y.name (lineName s o false) = false)
  ∧ (∀ s r o, r.name.origin = s.otp.unitId → originOf s r.name.streamId = some o → o.state = .preparing →
      o.txn = r.name.txn → r.fail = none → exec (.replyReceive r) s
        = .next (decideStream (mgpTakes s (.reply r)) (addHops o (r.hops.map fun h => (keyOf o r.name h.hop, h.dHop)))))
  ∧ (∀ s p n sec ns, channelUp s p = true → ∃ t, exec (.admissionInstallReceive p n sec ns) s = .next t
      ∧ t.adm.holds = s.adm.holds.map (fun h => if h.name == n then { h with installAt := some (linNs sec ns) } else h)
      ∧ t.fab = s.fab ∧ t.tms = s.tms)
  ∧ (∀ s n h a, (s.adm.holds.filter fun x => sameAttempt x.name n && x.installAt.isSome) = [h] → h.installAt = some a →
      let u := untilNs s a
      exec (.streamActivation n) s = .next (activateHold u h)
      ∧ (h.name.origin ≠ s.otp.unitId → tget none s.fab.streams (freeStream s.fab.streams) = none →
          let t := activateHold u h
          tget none t.fab.streams (freeStream s.fab.streams) = some { entryOf u h with
            fn := match recoveryEntry u (entryOf u h) with | some y => y.fn | none => freeFn u }
          ∧ t.wire = s.wire ++ [.confirm h.name h.hop 0]
          ∧ (∀ j, j ≠ freeStream s.fab.streams → tget none t.fab.streams j = tget none s.fab.streams j)
          ∧ t.adm.holds = s.adm.holds.filter fun x => !(x.name == h.name && x.hop == h.hop)))
  ∧ (∀ s n o c g, n.origin = s.otp.unitId → originOf s n.streamId = some o → o.state = .installing → o.path = [g] →
      o.pathB = [] → o.req.frer = false → o.hcp = some c → (o.down = [] ∨ o.down = [g]) →
      let v := mgpTakes s (.confirm n 1 0)
      let y := { o with confirmed := sadd o.confirmed 1, state := .active, hcp := none, down := [] }
      ∃ p, exec (.confirmReceive n 1 0) s = .next (mirrorState (respond (putOrigin v y) c 0x0501 .ok 0 p) y false)
        ∧ p.take 2 = leBytes 2 o.streamId ∧ p.length = 16)
  ∧ (∀ s n hop st, n.origin ≠ s.otp.unitId → exec (.confirmReceive n hop st) s
      = .next (if hop = 0 then mirrorLocal (mgpTakes s (.confirm n hop st)) n (st != 0) else mgpTakes s (.confirm n hop st)))
  ∧ (∀ s n b k x, tget none s.fab.streams k = some x →
      tget none (mirrorLocal s n b).fab.streams k = some (if x.origin = n.origin ∧ x.streamId = n.streamId then
        { x with active := true, suspended := b } else x))

/-- Timeouts, releases, suspension, withdrawal and the admission commands: PREPARE_TIMEOUT and CONFIRM_TIMEOUT refuse the waiting request with HOP_TIMEOUT 2.3 ms after its PREPARE and 1 ms after T_act; RELEASE_RECEIVE removes the stream's holds and entries here and no other stream's, and at the origin withdraws it; HOLD_LAPSE removes an uninstalled hold 10 ms after it was placed; NOTICE_RECEIVE gives its owner a gv event; CONFIRM_RECEIVE with the loss of a hop suspends an ACTIVE stream (an INSTALLING one when it becomes ACTIVE), with its return makes it ACTIVE again, and with the loss of time service withdraws it (the status codes of CONFIRM are the model's choice, log); SUSPEND_HOLD_EXPIRY withdraws it after suspend_hold; an accepted STREAM_WITHDRAW of the owner or tenant 0 withdraws it, on another node by a RELEASE; STREAM_STATUS answers on any node; ADMISSION_CONFIG with good records sets the parameters. -/
def Obligations.StreamsEndAndAreRead : Prop :=
  (∀ s i o, originOf s i = some o → o.state = .preparing → ∃ u k, exec (.prepareTimeout i) s = .next (hopTimeout u o k)
      ∧ u.mono = max s.mono (o.at_ + 2300000) ∧ u.adm = s.adm
      ∧ ∀ c, o.hcp = some c → ∃ v p, hopTimeout u o k = respond v c 0x0501 .refused 13 p ∧ v.adm.streams = s.adm.streams.filter fun x => x.streamId != o.streamId)
  ∧ (∀ s i o, originOf s i = some o → o.state = .installing → ∃ k, exec (.confirmTimeout i) s
      = .next (hopTimeout (untilNs s (o.tAct + 1000000)) o k))
  ∧ (∀ s n, n.origin ≠ s.otp.unitId → ∃ t, exec (.releaseReceive n) s = .next t
      ∧ t.adm.holds = s.adm.holds.filter (fun h => !sameStream h.name n)
      ∧ (∀ e ∈ t.fab.streams, e ∈ s.fab.streams ∧ ∀ x, e.2 = some x → x.origin ≠ n.origin ∨ x.streamId ≠ n.streamId)
      ∧ (∀ e ∈ s.fab.streams, ∀ x, e.2 = some x → x.origin ≠ n.origin ∨ x.streamId ≠ n.streamId → e ∈ t.fab.streams)
      ∧ t.adm.streams = s.adm.streams ∧ t.tms = s.tms ∧ t.wire = s.wire)
  ∧ (∀ s n h, (holdsOf s n).find? (fun h => h.installAt.isNone) = some h → ∃ t, exec (.holdLapse n) s = .next t
      ∧ t.adm.holds = s.adm.holds.filter (fun x => !(x.name == n && x.installAt.isNone))
      ∧ t.mono = max s.mono (h.at_ + 10000000) ∧ t.fab = s.fab)
  ∧ (∀ s n o, n.name.origin = s.otp.unitId → originOf s n.name.streamId = some o → ∃ p,
      exec (.noticeReceive n) s = .next (event (mgpTakes s (.notice n)) o.owner 3 p) ∧ p.take 2 = leBytes 2 o.streamId ∧ p.length = 15)
  ∧ (∀ s n o k g, n.origin = s.otp.unitId → originOf s n.streamId = some o → hopAt o (keyOf o n k) = some g →
      let v := fun st => mgpTakes s (.confirm n k st)
      (o.state = .active → o.down = [] → exec (.confirmReceive n k 1) s
        = .next (streamEvent (mirrorState (putOrigin (v 1)
            { o with state := .suspended, down := [g], suspendedAt := s.mono }) o true) o 0 0))
      ∧ (o.state = .installing → o.down = [] → exec (.confirmReceive n k 1) s
        = .next (putOrigin (v 1) { o with down := [g] }))
      ∧ (o.state = .suspended → o.down = [g] → exec (.confirmReceive n k 0) s
        = .next (streamEvent (mirrorState (putOrigin (v 0) { o with state := .active, down := [] }) o false) o 1 0))
      ∧ (o.state = .active ∨ o.state = .suspended → exec (.confirmReceive n k 5) s = .next (withdraw (v 5) o 5)))
  ∧ (∀ s i o, originOf s i = some o → o.state = .suspended → ∃ u, exec (.suspendHoldExpiry i) s = .next (withdraw u o 0x10)
      ∧ u.mono = max s.mono (o.suspendedAt + s.adm.suspendHold * 1000000000)
      ∧ (withdraw u o 0x10).adm.streams = s.adm.streams.filter fun x => x.streamId != o.streamId)
  ∧ (∀ h s i o, accepts { opcode := 0x0502, classC := true, features := [5] } h s = true → originOf s i = some o →
      (h.tenant = 0 ∨ h.tenant = o.owner) → (o.state = .active ∨ o.state = .suspended) →
      exec (.streamWithdraw h s.otp.unitId i) s = .next (respond (withdraw s o 0) h 0x0502 .ok 0 []))
  ∧ (∀ h s i o, accepts { opcode := 0x0503, features := [5] } h s = true → originOf s i = some o →
      (h.tenant = 0 ∨ h.tenant = o.owner) → ∃ p, exec (.streamStatus h s.otp.unitId i) s = .next (respond s h 0x0503 .ok 0 p)
        ∧ p.head? = some (BitVec.ofNat 8 (streamCode o.state)))
  ∧ (∀ h s recs a, accepts { opcode := 0x0504, classC := true, owner := true, features := [5] } h s = true →
      applyRecs s admRec 0 s.adm recs = .ok a →
      (recs.all fun p => p.key != 1) = true ∨ capFits { s with adm := a } a.cap = true →
      exec (.admissionConfig h recs) s = .next (respond { s with adm := a } h 0x0504 .ok 0 []))
  ∧ (∀ s n o, n.origin = s.otp.unitId → originOf s n.streamId = some o → o.state = .active ∨ o.state = .suspended →
      exec (.releaseReceive n) s = .next (withdraw (mgpTakes s (.release n)) o 0))
  ∧ (∀ h s g i, accepts { opcode := 0x0502, classC := true, features := [5] } h s = true → g ≠ s.otp.unitId →
      ownsRemote h.tenant g i = true → exec (.streamWithdraw h g i) s = .next (respond
        (mgpSends (removeLocal s { origin := g, streamId := i, txn := 0 }) (localPort s { origin := g, streamId := i, txn := 0 })
          (.release { origin := g, streamId := i, txn := 0 })) h 0x0502 .ok 0 []))
  ∧ (∀ h s g i, accepts { opcode := 0x0503, features := [5] } h s = true → g ≠ s.otp.unitId →
      ownsRemote h.tenant g i = true → ∃ u p, exec (.streamStatus h g i) s = .next (respond u h 0x0503 .ok 0 p)
        ∧ 4 ≤ p.length ∧ u.fab = s.fab ∧ u.adm = s.adm ∧ u.wire = s.wire)

/-- How links come up and go down: LINK_UP on an enabled serial port that is down, whose PCS has held lock for link_holdoff, brings its link up and changes no other link nor another port's counters; on 1000BASE-X a partner of half duplex only is held down instead, told once by a link event with HALF_DUPLEX (when, is the model's choice, log); a port that is up, disabled, held or not yet stable keeps its state. LINK_DOWN on a serial port that is up takes its link down and counts link_down_count once; on one that is down it ends the hold for half duplex; on any other port both change nothing. CP_INBAND_STATUS brings an enabled CP port up, takes it down on link loss and on half duplex, and holds it there; LANE_SYNC_LOSS takes the four ports of its lane down. An accepted PORT_CONFIG whose records are good sets what they say and answers OK; one that disables a port that is up takes its link down. -/
def Obligations.LinksFollowTheirPorts : Prop :=
  (∀ s p n d pt, (portKind p = .bb ∨ portKind p = .wl ∨ portKind p = .tw) → (linkRec s p).up = false →
    (portCfg s p).enabled = true → portsHeld s = false → bbHeld s p = false → (portCfg s p).holdoff * 1000000 ≤ n →
    (negotiates s p = false ∨ d = true) → (portKind p = .bb → s.ine.twin.state ≠ .standby) →
    ∃ t, exec (.linkUp p ⟨n, d, pt⟩) s = .next t
      ∧ (linkRec t p).up = true ∧ (linkRec t p).partner = pt ∧ (linkRec t p).halfDuplex = false
      ∧ (∀ q, q ≠ p → linkRec t q = linkRec s q) ∧ t.ports.cfg = s.ports.cfg ∧ t.mono = s.mono ∧ t.otp = s.otp
      ∧ ∀ k, k / 64 ≠ p → tget 0 t.ports.counters k = tget 0 s.ports.counters k)
  ∧ (∀ s p n pt, (portKind p = .bb ∨ portKind p = .wl ∨ portKind p = .tw) → (linkRec s p).up = false →
    (portCfg s p).enabled = true → bbHeld s p = false → (portCfg s p).holdoff * 1000000 ≤ n → negotiates s p = true →
    let v := putLink s p { linkRec s p with
      halfDuplex := true
      noSync := false }
    exec (.linkUp p ⟨n, false, pt⟩) s
      = .next (if (linkRec s p).halfDuplex then v else event v 0 7 (leBytes 1 p ++ [0, 2, 0xFF, 1])))
  ∧ (∀ s p n d pt, ((linkRec s p).up = true ∨ (portCfg s p).enabled = false ∨ bbHeld s p = true
    ∨ n < (portCfg s p).holdoff * 1000000) → exec (.linkUp p ⟨n, d, pt⟩) s = .next s)
  ∧ (∀ s p, (portKind p = .bb ∨ portKind p = .wl ∨ portKind p = .tw) → (linkRec s p).up = true →
    ∃ t, exec (.linkDown p) s = .next t ∧ (linkRec t p).up = false ∧ (linkRec t p).haltUntil = none
      ∧ tget 0 t.ports.counters (p * 64 + 20) = tget 0 s.ports.counters (p * 64 + 20) + 1
      ∧ (∀ q, q ≠ p → linkRec t q = linkRec s q) ∧ t.ports.cfg = s.ports.cfg ∧ t.otp = s.otp)
  ∧ (∀ s p, (portKind p = .bb ∨ portKind p = .wl ∨ portKind p = .tw) → (linkRec s p).up = false →
    exec (.linkDown p) s = .next (putLink s p { linkRec s p with halfDuplex := false }))
  ∧ (∀ s p n d pt, ¬ (portKind p = .bb ∨ portKind p = .wl ∨ portKind p = .tw) →
    exec (.linkUp p ⟨n, d, pt⟩) s = .next s ∧ exec (.linkDown p) s = .next s)
  ∧ (∀ s p v, portKind p = .cp → (portCfg s p).enabled = true → (linkRec s p).up = false → portsHeld s = false →
    ∃ t, exec (.cpInbandStatus p true v true) s = .next t ∧ (linkRec t p).up = true ∧ (linkRec t p).speed = v
      ∧ (linkRec t p).halfDuplex = false ∧ (∀ q, q ≠ p → linkRec t q = linkRec s q))
  ∧ (∀ s p v f, portKind p = .cp → (portCfg s p).enabled = true → ∃ t, exec (.cpInbandStatus p false v f) s = .next t
      ∧ (linkRec t p).up = false ∧ (linkRec t p).halfDuplex = false)
  ∧ (∀ s p v, portKind p = .cp → (portCfg s p).enabled = true → ∃ t, exec (.cpInbandStatus p true v false) s = .next t
      ∧ (linkRec t p).up = false ∧ (linkRec t p).halfDuplex = true ∧ (linkRec t p).speed = v)
  ∧ (∀ s l, l < 3 → ∃ t, exec (.laneSyncLoss l) s = .next t
      ∧ (∀ i, i < 4 → (linkRec t (4 + 4 * l + i)).up = false ∧ (linkRec t (4 + 4 * l + i)).noSync = true)
      ∧ (∀ q, (q < 4 + 4 * l ∨ 8 + 4 * l ≤ q) → linkRec t q = linkRec s q))
  ∧ (∀ h s recs u, accepts { opcode := 0x0601, classC := true, owner := true } h s = true →
      applyChecked portRec 0 s recs = .ok u →
      exec (.portConfig h recs) s = .next (respond ((List.range 96).foldl (portApply s) u) h 0x0601 .ok 0 []))
  ∧ (∀ h s r, accepts { opcode := 0x0601, classC := true, owner := true } h s = true → r.key = 1 → r.port < 96 →
      portKind r.port ≠ .reserved → recFlag r 0 = some false → (portCfg s r.port).enabled = true → ∃ u,
      exec (.portConfig h [r]) s = .next (respond u h 0x0601 .ok 0 []) ∧ (portCfg u r.port).enabled = false
        ∧ (linkRec u r.port).up = false ∧ ∀ q, q ≠ r.port → portCfg u q = portCfg s q ∧ linkRec u q = linkRec s q)

/-- PAUSE halts a transmitter until its quanta elapse or the watchdog releases it: PAUSE_RECEIVE on an up port that honours PAUSE counts the frame as received and as PAUSE and halts the transmitter for quanta × 512 bit times; zero quanta end the halt; on a port that does not honour it the frame is only counted. PAUSE_EXPIRY ends the halt at its end and adds its whole microseconds to paused_time, and what waited leaves. PAUSE_WATCHDOG_TRIP releases a halt that has reached pause_wd_limit, counts the trip and ignores PAUSE; PAUSE_IGNORE_END honours it again 1 s after the last PAUSE with non-zero quanta. No other port's link or counter changes. -/
def Obligations.PauseHaltsAndIsReleased : Prop :=
  (∀ s p n m, (linkRec s p).up = true → pausesOn s p = true → (linkRec s p).ignoring = false → n ≠ 0 →
    haltedNow s p = false → ∃ t, exec (.pauseReceive p n m) s = .next t
      ∧ (linkRec t p).haltUntil = some (s.mono + n * 512000 / speedMbps s p) ∧ (linkRec t p).haltSince = s.mono
      ∧ (linkRec t p).pauseSrc = m ∧ (linkRec t p).lastPause = s.mono ∧ (linkRec t p).up = true
      ∧ tget 0 t.ports.counters (p * 64 + 13) = tget 0 s.ports.counters (p * 64 + 13) + 1
      ∧ tget 0 t.ports.counters (p * 64 + 4) = tget 0 s.ports.counters (p * 64 + 4) + 1
      ∧ tget 0 t.ports.counters (p * 64 + 5) = tget 0 s.ports.counters (p * 64 + 5) + BitVec.ofNat 64 (dataOctets p 64)
      ∧ tget 0 t.ports.counters (p * 64 + 6) = tget 0 s.ports.counters (p * 64 + 6) + 1
      ∧ (∀ k, k ∉ [p * 64 + 4, p * 64 + 5, p * 64 + 6, p * 64 + 13] →
          tget 0 t.ports.counters k = tget 0 s.ports.counters k)
      ∧ (∀ q, q ≠ p → linkRec t q = linkRec s q) ∧ t.ports.cfg = s.ports.cfg ∧ t.fab = s.fab ∧ t.host = s.host)
  ∧ (∀ s p m, (linkRec s p).up = true → pausesOn s p = true → ∃ t, exec (.pauseReceive p 0 m) s = .next t
      ∧ ((linkRec s p).ignoring = false → (linkRec t p).haltUntil = none) ∧ (linkRec t p).pauseSrc = m
      ∧ (linkRec t p).lastPause = (linkRec s p).lastPause ∧ (∀ q, q ≠ p → linkRec t q = linkRec s q))
  ∧ (∀ s p n m, (linkRec s p).up = true → pausesOn s p = false →
    exec (.pauseReceive p n m) s = .next (countPort (countGot s p 64) p 13 1))
  ∧ (∀ s p u, (linkRec s p).haltUntil = some u → ∃ t, exec (.pauseExpiry p) s = .next t
      ∧ (linkRec t p).haltUntil = none ∧ t.mono = max s.mono u
      ∧ tget 0 t.ports.counters (p * 64 + 22) = tget 0 s.ports.counters (p * 64 + 22)
          + BitVec.ofNat 64 ((max s.mono u - (linkRec s p).haltSince) / 1000)
      ∧ (∀ k, k / 64 ≠ p → tget 0 t.ports.counters k = tget 0 s.ports.counters k)
      ∧ ((s.ports.heldOut.filter fun e => e.port == p) = [] →
          ∀ k, k ≠ p * 64 + 22 → tget 0 t.ports.counters k = tget 0 s.ports.counters k)
      ∧ (s.ports.heldOut.filter fun e => e.port != p) = t.ports.heldOut
      ∧ (∀ q, q ≠ p → linkRec t q = linkRec s q) ∧ t.fab = s.fab ∧ t.host = s.host)
  ∧ (∀ s p u, (linkRec s p).haltUntil = some u → (linkRec s p).haltSince + (portCfg s p).pauseLimit * 1000000 ≤ u →
    ∃ t v d e, exec (.pauseWatchdogTrip p) s = .next t ∧ t = report (event v 0 8 d) 0x7001 e
      ∧ (linkRec t p).haltUntil = none ∧ (linkRec t p).ignoring = true
      ∧ t.mono = max s.mono ((linkRec s p).haltSince + (portCfg s p).pauseLimit * 1000000)
      ∧ tget 0 t.ports.counters (p * 64 + 21) = tget 0 s.ports.counters (p * 64 + 21) + 1
      ∧ d.take 2 = leBytes 1 p ++ [0] ∧ d.drop 2 = beBytes 6 (linkRec s p).pauseSrc.toNat
      ∧ (∀ q, q ≠ p → linkRec t q = linkRec s q))
  ∧ (∀ s p, (linkRec s p).ignoring = true → ∃ t, exec (.pauseIgnoreEnd p) s = .next t
      ∧ linkRec t p = { linkRec s p with ignoring := false } ∧ t.mono = max s.mono ((linkRec s p).lastPause + 1000000000)
      ∧ (∀ q, q ≠ p → linkRec t q = linkRec s q) ∧ t.ports.counters = s.ports.counters)

/-- Segment commands and the wake detector: An accepted SEG_CONFIG changes a segment not in Normal and gives BUSY in Normal. SEG_STATE to the present state answers OK; from a state other than Sleep to one other than Sleep the segment takes it at once; to Sleep it waits for silence and from Sleep for the PHY, behind what waits there. SEG_SLEEP_SILENCE completes all that wait for Sleep 1 ms on; SEG_SLEEP_TIMEOUT answers the oldest BUSY at 100 ms; with none waiting both change nothing. SEG_PHY_POWER_UP lets the segment take its state. SEG_WAKE sends a burst, from Sleep after the PHY; while ports are held it is REFUSED (the model's choice, as the log says); its end, 1 ms on, returns the segment to its commanded state. SEG_ACTIVITY that meets the wake rule on a Standby segment gives a seg_activity event and with auto_wake takes the segment to Normal; else nothing changes. Only the named segment's state changes. -/
def Obligations.SegmentsTakeTheirStates : Prop :=
  (∀ h s recs u, accepts { opcode := 0x0602, classC := true, owner := true } h s = true →
    applyChecked segRec 0 s recs = .ok u → exec (.segConfig h recs) s = .next (respond u h 0x0602 .ok 0 []))
  ∧ (∀ s r, portKind r.port = .sg →
      ((segOf s (r.port - 16)).state = .normal → segRec s r = .error (.busy, 0))
      ∧ (∀ v, (segOf s (r.port - 16)).state ≠ .normal → r.key = 1 → recNat r 2 8 = some v →
          segRec s r = .ok (putSeg s (r.port - 16) { segOf s (r.port - 16) with nodeCount := v })))
  ∧ (∀ h s g st, accepts { opcode := 0x0603, classC := true } h s = true → g < 64 → hasRight s h.tenant 3 = true →
      hasPort s h.tenant (16 + g) = true →
      ((segOf s g).state = st → exec (.segState h g st) s = .next (respond s h 0x0603 .ok 0 []))
      ∧ ((segOf s g).state ≠ st → st ≠ .sleep → (segOf s g).state ≠ .sleep → ∃ t, exec (.segState h g st) s
          = .next (respond t h 0x0603 .ok 0 []) ∧ (segOf t g).state = st ∧ ((segOf s g).pending = [] → (segOf t g).pending = [])
          ∧ ∀ j, j ≠ g → segOf t j = segOf s j)
      ∧ ((segOf s g).state ≠ .sleep → exec (.segState h g .sleep) s = .next (segWait s g (.sleep s.mono h)))
      ∧ ((segOf s g).state = .sleep → st ≠ .sleep → exec (.segState h g st) s = .next (segWait s g (.powerUp st h))))
  ∧ (∀ s g w, segOf (segWait s g w) g = { segOf s g with pending := (segOf s g).pending ++ [w] }
      ∧ ∀ j, j ≠ g → segOf (segWait s g w) j = segOf s j)
  ∧ (∀ s g i h r, segSleeps s g = (i, h) :: r → s.mono ≤ i + 100000000 → segBursts s g = false → ∃ t,
      exec (.segSleepSilence g) s
        = .next (((i, h) :: r).foldl (fun u (e : Nat × Hcp) => respond u e.2 0x0603 .ok 0 []) t)
        ∧ (segOf t g).state = .sleep ∧ t.mono = max s.mono (i + 1000000)
        ∧ (segOf t g).pending = segOthers s g ∧ (linkRec t (16 + g)).up = false ∧ ∀ j, j ≠ g → segOf t j = segOf s j)
  ∧ (∀ s g, segSleeps s g = [] → exec (.segSleepSilence g) s = .next s ∧ exec (.segSleepTimeout g) s = .next s)
  ∧ (∀ s g i h r, segSleeps s g = (i, h) :: r → ∃ t, exec (.segSleepTimeout g) s
      = .next (respond t h 0x0603 .busy 0 []) ∧ (segOf t g).state = (segOf s g).state ∧ segSleeps t g = r
        ∧ segOthers t g = segOthers s g ∧ t.mono = max s.mono (i + 100000000) ∧ ∀ j, j ≠ g → segOf t j = segOf s j)
  ∧ (∀ s g st h, (segOf s g).state = .sleep → (segOf s g).pending = [.powerUp st h] → ∃ t, exec (.segPhyPowerUp g) s
      = .next (respond t h 0x0603 .ok 0 []) ∧ segOf t g = { segOf s g with
          state := st
          pending := [] }
        ∧ ∀ j, j ≠ g → segOf t j = segOf s j)
  ∧ (∀ s g h, (segOf s g).state = .sleep → (segOf s g).pending = [.powerUpWake h] → portsHeld s = false → ∃ t,
      exec (.segPhyPowerUp g) s = .next t
      ∧ segOf t g = { segOf s g with
          state := .standby
          pending := [.burst s.mono .standby h] }
      ∧ t.wire.getLast? = some (.wakeBurst g) ∧ ∀ j, j ≠ g → segOf t j = segOf s j)
  ∧ (∀ h s g, accepts { opcode := 0x0604 } h s = true → g < 64 → hasRight s h.tenant 3 = true →
      hasPort s h.tenant (16 + g) = true →
      (portsHeld s = false → (segOf s g).state ≠ .sleep →
        exec (.segWake h g) s = .next (emit (segWait s g (.burst s.mono (segOf s g).state h)) (.wakeBurst g)))
      ∧ (portsHeld s = false → (segOf s g).state = .sleep → exec (.segWake h g) s = .next (segWait s g (.powerUpWake h)))
      ∧ (portsHeld s = true → exec (.segWake h g) s = .next (respond s h 0x0604 .refused 0 [])))
  ∧ (∀ s g i a h, (segOf s g).pending = [.burst i a h] → ∃ t, exec (.segWakeBurstEnd g) s
      = .next (respond t h 0x0604 .ok 0 []) ∧ t.mono = max s.mono (i + 1000000) ∧ segOf t g = { segOf s g with
          state := a
          pending := [] }
        ∧ ∀ j, j ≠ g → segOf t j = segOf s j)
  ∧ (∀ s g p, (segOf s g).state = .standby → wakeRule p = true →
      ((segOf s g).autoWake = false → exec (.segActivity g p) s = .next (event s 0 9 (leBytes 1 0 ++ leBytes 1 (16 + g))))
      ∧ ((segOf s g).autoWake = true → ∃ t, exec (.segActivity g p) s = .next t
          ∧ segOf t g = { segOf s g with state := .normal } ∧ ∀ j, j ≠ g → segOf t j = segOf s j))
  ∧ (∀ s g p, ((segOf s g).state ≠ .standby ∨ wakeRule p = false) → exec (.segActivity g p) s = .next s)

/-- CAN recovery, MDIO, PORT_STATUS and the harvest banks: An accepted CAN_CONFIG with good records sets them; CAN_BUS_OFF counts and takes the port down, CAN_RECOVER lets it rejoin, CAN_AUTO_RECOVERY does after 1408 recessive bits. MDIO_ACCESS sends its operations in order and answers four bytes for each; PORT_STATUS answers the port's link. HARVEST_TAKE immediate fills the bank with the counters of the masked ports as they stand, with an odd sequence number; a reserved port in the mask is an INVALID_ARGUMENT, one outside the port set NOT_PERMITTED; deferred it leaves the bank's content and arms the bank's device TAU; HARVEST_FILL_DONE makes the bank VALID, its number even again, and tells the tenant. -/
def Obligations.CanMdioStatusAndHarvest : Prop :=
  (∀ h s recs u, accepts { opcode := 0x0605, classC := true, owner := true } h s = true →
    applyChecked canRec 0 s recs = .ok u → (∀ n, n < 8 → canRatesOk (canOf u n) = true) →
    exec (.canConfig h recs) s = .next (respond u h 0x0605 .ok 0 []))
  ∧ (∀ h s p, accepts { opcode := 0x0606 } h s = true → portKind p = .can → hasRight s h.tenant 3 = true →
      hasPort s h.tenant p = true → (canOf s (p - 80)).busOff = true →
      exec (.canRecover h p) s
        = .next (respond (putCan s (p - 80) { canOf s (p - 80) with recovering := true }) h 0x0606 .ok 0 []))
  ∧ (∀ s p, portKind p = .can → (canOf s (p - 80)).busOff = false → ∃ t, exec (.canBusOff p) s = .next t
      ∧ (canOf t (p - 80)).busOff = true ∧ (canOf t (p - 80)).recovering = false
      ∧ (∀ n, n ≠ p - 80 → canOf t n = canOf s n) ∧ (linkRec t p).up = false
      ∧ tget 0 t.ports.counters (p * 64 + 38) = tget 0 s.ports.counters (p * 64 + 38) + 1
      ∧ ∀ q, q ≠ p → linkRec t q = linkRec s q)
  ∧ (∀ s p n, portKind p = .can → (canOf s (p - 80)).busOff = true →
      ((canOf s (p - 80)).manual = false ∨ (canOf s (p - 80)).recovering = true) → 1408 ≤ n → ∃ t,
      exec (.canAutoRecovery p n) s = .next t
      ∧ canOf t (p - 80) = { canOf s (p - 80) with busOff := false, recovering := false }
      ∧ ((portCfg s p).enabled = true → portsHeld s = false → (linkRec t p).up = true)
      ∧ ∀ q, q ≠ p → linkRec t q = linkRec s q)
  ∧ (∀ s p n, (canOf s (p - 80)).manual = true → (canOf s (p - 80)).recovering = false →
      exec (.canAutoRecovery p n) s = .next s)
  ∧ (∀ h s ops, accepts { opcode := 0x0607 } h s = true → hasRight s h.tenant 3 = true →
      (ops.any fun o => !hasPort s h.tenant (Config.phyPort o.phy)) = false → ops ≠ [] → ops.length ≤ 16 →
      exec (.mdioAccess h ops) s = .next (respond (emitAll s (ops.map fun o => .mdio o.clause45 o.isWrite o.phy o.reg o.data))
        h 0x0607 .ok 0 (ops.flatMap mdioAnswer)))
  ∧ (∀ o : MdioOp, o.isWrite = false → (∀ v, o.phyData = some v → mdioAnswer o = leBytes 2 v.toNat ++ [0, 0])
      ∧ (o.phyData = none → mdioAnswer o = [0xFF, 0xFF, 1, 0]))
  ∧ (∀ h s p, accepts { opcode := 0x0608 } h s = true → portReserved s p = false → hasRight s h.tenant 4 = true →
      hasPort s h.tenant p = true → ∃ d, exec (.portStatus h p) s = .next (respond s h 0x0608 .ok 0 d)
        ∧ d.length = 8 ∧ d.head? = some (BitVec.ofNat 8 p) ∧ d[1]? = some (if (linkRec s p).up then 1 else 0))
  ∧ (∀ h s a, accepts { opcode := 0x0609, features := [16] } h s = true → hasRight s h.tenant 4 = true → a.bank < 4 →
      a.ns < 1000000000 → (tget ({} : HarvestBank) s.ports.banks a.bank).state ≠ .pending →
      (tget ({} : HarvestBank) s.ports.banks a.bank).state ≠ .filling → maskReserved s a.mask = false →
      ((setOf a.mask).any fun p => !hasPort s h.tenant p) = false →
      (a.immediate = true → ∃ t, exec (.harvestTake h a) s = .next (respond t h 0x0609 .ok 0 [])
        ∧ (tget {} t.ports.banks a.bank).state = .filling ∧ (tget {} t.ports.banks a.bank).at_ = trtNs s
        ∧ (tget {} t.ports.banks a.bank).seq = (tget ({} : HarvestBank) s.ports.banks a.bank).seq + 1
        ∧ (tget {} t.ports.banks a.bank).counts = harvestCounts (portCounters s) a.mask
        ∧ (∀ b, b ≠ a.bank → tget {} t.ports.banks b = tget ({} : HarvestBank) s.ports.banks b)
        ∧ t.ports.counters = s.ports.counters)
      ∧ (a.immediate = false → s.tms.tsValid = true → trtNs s + 100000 ≤ linNs a.sec a.ns →
          linNs a.sec a.ns ≤ trtNs s + 3600000000000 → ∃ t, exec (.harvestTake h a) s = .next (respond t h 0x0609 .ok 0 [])
        ∧ tget {} t.ports.banks a.bank = { (tget ({} : HarvestBank) s.ports.banks a.bank) with
            state := .pending, next := some (h.tenant, a) }
        ∧ (tauOf t (60 + a.bank)).state = .armed ∧ (tauOf t (60 + a.bank)).fire = linNs a.sec a.ns * 65536))
  ∧ (∀ h s a, accepts { opcode := 0x0609, features := [16] } h s = true →
      (maskReserved s a.mask = true → exec (.harvestTake h a) s = .next (respond s h 0x0609 .invalidArgument 0 []))
      ∧ (maskReserved s a.mask = false →
          (hasRight s h.tenant 4 = false ∨ ((setOf a.mask).any fun p => !hasPort s h.tenant p) = true) →
          exec (.harvestTake h a) s = .next (respond s h 0x0609 .notPermitted 0x0703 [])))
  ∧ (∀ s b, (tget ({} : HarvestBank) s.ports.banks b).state = .filling → ∃ t x, exec (.harvestFillDone b) s = .next t
      ∧ x = { (tget ({} : HarvestBank) s.ports.banks b) with
          state := .valid, seq := (tget ({} : HarvestBank) s.ports.banks b).seq + 1 }
      ∧ tget {} t.ports.banks b = x
      ∧ t = event { s with ports := { s.ports with banks := tset {} s.ports.banks b x } } x.tenant 6
          (leBytes 1 b ++ leBytes 4 x.ident.toNat ++ [3]))

/-- HELLO, the fall-back to standard mode, and the end of the DISAGREE hold-off: HELLO_SEND sends the next HELLO of a running exchange at its instant, 100 µs after the last; HELLO_RECEIVE keeps what the partner says and counts matching echoes: three on each side confirm the link, at this end with a frame heard or sent; in the same train it becomes fabric-up, held while an inauguration runs, otherwise an idle node, or one in standard mode whose next mode is not standard, enters TOPOLOGY with that port as its coupler, unless it is inhibited; a frame of another version is only counted; with the link down nothing changes. TTDP_FALLBACK takes a node in auto mode to standard mode with result MIXED 2 ms after link-up, and sets mixed_train in fast mode. TTDP_FRAME_RECEIVE answers, and with a stable topology, unless inhibited, numbers the node; the alias bank switches by TAU56 6 ms later, at once without a leader (the instant and what 'each end has received' means to this end are the model's choice, log). DISAGREE_HOLDOFF_END starts HELLO again on the coupler ports. -/
def Obligations.HelloConfirmsOrFallsBack : Prop :=
  (∀ s p y, p < 4 → linkIsUp s p = true → (helloOf s p).running = true → (helloOf s p).confirmed = false →
    (helloOf s p).fabricUp = false → y = { helloOf s p with
      seq := (helloOf s p).seq + 1,
      sentAt := some (max s.mono (nextBeat (helloOf s p).sentAt 100000 s.mono)),
      echoed := if (helloOf s p).partner = 0 then 0 else (helloOf s p).echoed + 1 } →
    ∃ t m, exec (.helloSend p) s = .next (if bothHeard y then helloConfirmed t p else t) ∧ t.wire = s.wire ++ [.hello m]
      ∧ m.port = p ∧ m.fast = true ∧ m.seq = (helloOf s p).seq + 1 ∧ m.echo.toNat = (helloOf s p).rxSeq.toNat % 65536
      ∧ m.hdr.senderId = nodeUnit s ∧ m.hdr.version = 1 ∧ t.mono = max s.mono (nextBeat (helloOf s p).sentAt 100000 s.mono)
      ∧ helloOf t p = y ∧ (∀ q, q ≠ p → helloOf t q = helloOf s q) ∧ t.ine.state = s.ine.state ∧ t.css = s.css)
  ∧ (∀ s p m, (4 ≤ p ∨ linkIsUp s p = false ∨ (helloOf s p).running = false) →
      exec (.helloSend p) s = .next s ∧ (4 ≤ p ∨ linkIsUp s p = false → exec (.helloReceive p m) s = .next s))
  ∧ (∀ s p m, p < 4 → linkIsUp s p = true →
      ((helloOf s p).running = false ∨ (helloOf s p).fabricUp = true ∨ m.hdr.version ≠ 1) →
      exec (.helloReceive p m) s = .next (gotSent s p (.hello m)))
  ∧ (∀ s p m k e y, p < 4 → linkIsUp s p = true → (helloOf s p).running = true → (helloOf s p).fabricUp = false →
      m.hdr.version = 1 →
      k = (if (m.echo == BitVec.ofNat 16 (helloOf s p).seq.toNat && (helloOf s p).seq != 0) = true then
        (if (helloOf s p).partner = m.hdr.senderId then (helloOf s p).run + 1 else 1) else 0) →
      e = (if (helloOf s p).partner = m.hdr.senderId then
        (if k = 0 then (helloOf s p).echoed - 1 else (helloOf s p).echoed) else 0) →
      y = { helloOf s p with
        partner := m.hdr.senderId, rxSeq := m.seq, run := k, nodes := m.nodeCount, leader := m.leaderId,
        epoch := m.hdr.domainEpoch, topo := m.hdr.topoCount, ttdp := false, echoed := e } →
      (¬ (3 ≤ k ∧ 3 ≤ e) → ∃ t, exec (.helloReceive p m) s = .next t ∧ helloOf t p = y
          ∧ (∀ q, q ≠ p → helloOf t q = helloOf s q) ∧ t.wire = s.wire ∧ t.tms = s.tms)
      ∧ (3 ≤ k → 3 ≤ e → m.leaderId = s.tms.leaderId → m.hdr.domainEpoch = s.tms.domainEpoch → m.hdr.topoCount = s.ine.topo →
          (inaugurating s = false ∨ s.ine.state = .hello → ∃ t, exec (.helloReceive p m) s = .next t
            ∧ (helloOf t p).fabricUp = true ∧ (helloOf t p).confirmed = true
            ∧ (helloOf t p).running = false ∧ bitAt (alarmOf t .ine) 0 = true ∧ ∀ q, q ≠ p → helloOf t q = helloOf s q)
          ∧ (inaugurating s = true → s.ine.state ≠ .hello → ∃ t, exec (.helloReceive p m) s = .next t
            ∧ helloOf t p = { y with
              confirmed := true
              running := false
              held := true }
            ∧ t.ine.state = s.ine.state ∧ ∀ q, q ≠ p → helloOf t q = helloOf s q))
      ∧ (3 ≤ k → 3 ≤ e → m.leaderId ≠ s.tms.leaderId → (ownTable s).length + m.nodeCount ≤ 63 → s.ine.inhibited = false →
          (s.ine.state = .idle ∨ s.ine.state = .hello ∨ s.ine.state = .held ∨ autoStable s = true) → ∃ t,
          exec (.helloReceive p m) s = .next t
          ∧ t.ine.state = .topology ∧ t.ine.run.couplers = [p] ∧ t.ine.run.merge = true
          ∧ t.ine.run.otherEpoch = m.hdr.domainEpoch ∧ t.ine.run.seq = s.ine.run.seq + 1 ∧ t.ine.ident = s.ine.identNext
          ∧ (helloOf t p).fabricUp = false ∧ bitAt (alarmOf t .ine) 1 = true)
      ∧ (3 ≤ k → 3 ≤ e → m.leaderId ≠ s.tms.leaderId → (ownTable s).length + m.nodeCount ≤ 63 → s.ine.inhibited = true →
          s.ine.state = .hello → ∃ t, exec (.helloReceive p m) s = .next t ∧ t.ine.state = .held
          ∧ t.ine.run = s.ine.run ∧ t.css = s.css ∧ t.tms = s.tms))
  ∧ (∀ s p, p < 4 → linkIsUp s p = true → (helloOf s p).running = true → (helloOf s p).partner = 0 →
      (s.ine.identNext.mode = 2 → s.ine.twin.state ≠ .standby → ∃ t, exec (.ttdpFallback p) s = .next t ∧ t.ine.state = .standard ∧ t.ine.mode = 1
        ∧ t.ine.result = 6 ∧ t.mono = max s.mono ((helloOf s p).upAt + 2000000))
      ∧ (s.ine.identNext.mode ≠ 2 → ∃ u, exec (.ttdpFallback p) s = .next (setAlarm u .ine 7)
        ∧ u.mono = max s.mono ((helloOf s p).upAt + 2000000) ∧ u.ine = s.ine))
  ∧ (∀ s p, linkIsUp s p = true → s.fw.phase = .ready → s.ine.state = .standard →
      (∀ r, (r = .hello ∨ r = .topology) → exec (.ttdpFrameReceive p r) s
        = .next (emitEach (putHello (gotSent s p (.ttdp p)) p { helloOf s p with ttdp := true }) [p] .ttdp))
      ∧ (s.ine.inhibited = true → ∀ l w, exec (.ttdpFrameReceive p (.stable l w)) s = .next (gotSent s p (.ttdp p)))
      ∧ (s.ine.inhibited = false → ∀ l w, ∃ t, exec (.ttdpFrameReceive p (.stable l w)) s = .next t ∧ t.ine.nodes = l ∧ t.ine.topo = w
          ∧ t.ine.run.stable = true ∧ t.ine.count = s.ine.count + 1 ∧ bitAt (alarmOf t .ine) 2 = true
          ∧ (s.tms.trtState = .none → t.ine.activeBank = 1 - s.ine.activeBank)
          ∧ (s.tms.tsValid = true → s.tms.trtState ≠ .none → t.ine.activeBank = s.ine.activeBank
            ∧ (tauOf t 56).state = .armed ∧ (tauOf t 56).fire = (trtNs s + 6000000) * 65536
            ∧ (tauOf t 56).arg = word (1 - s.ine.activeBank))
          ∧ ∀ q, q < 4 → linkIsUp s q = true → (helloOf t q).fabricUp = true))
  ∧ (∀ s u, s.ine.run.holdUntil = some u → ∃ t, exec .disagreeHoldoffEnd s = .next t
      ∧ t.ine.run.holdUntil = none ∧ t.ine.run.couplers = [] ∧ t.mono = max s.mono u
      ∧ (∀ p, p ∈ s.ine.run.couplers → linkIsUp s p = true → (helloOf t p).running = true ∧ (helloOf t p).run = 0)
      ∧ ∀ p, p ∉ s.ine.run.couplers → helloOf t p = helloOf s p)

/-- What the frames of an inauguration do: A part of the other half's table is kept and passed on; a half's own table whose members the node knows makes it propose that half and send its DIGEST; FUNCS is kept, and the last one ends a merge that waited for it; DIGEST is kept, and the last equal one makes the coordinator send PROCEED, a CSS leader announcing its stop two pans on; TOPOLOGY_TIMEOUT repeats phase 2 once and then aborts with DISAGREE and the identity of before; MERGE gives every node the new domain_epoch; a node is numbered once its merge is over and every node's FUNCS is there; INSTALL arms TAU56 with the alias switch at T_s, the bank switches at once where neither half has a leader, a differing table is acknowledged DISAGREE; the last ACK makes the coordinator install 6 ms ahead; ABORT ends the run with its reason, MIXED in standard mode. A frame on a port that carries none, of another version or that names another line, changes nothing. -/
def Obligations.InaugurationPhasesFollowTheFrames : Prop :=
  (∀ s p h i n l, inaugHears s p h = true → s.ine.state = .topology → i < n →
    (∃ r ∈ l, ∀ m ∈ ownTable s, m.unit ≠ r.unit) →
    (∃ j, j < n ∧ j ≠ i ∧ ∀ e ∈ s.ine.run.otherParts.got, e.1 ≠ j) → ∃ t,
    exec (.tableReceive p h i n l) s = .next t ∧ t.ine.run.otherParts = addPart s.ine.run.otherParts h.senderId i n l
      ∧ t.ine.run.otherUnit = h.senderId ∧ t.ine.run.otherEpoch = h.domainEpoch ∧ t.ine.state = .topology
      ∧ t.ine.run.merge = true ∧ t.ine.run.joint = s.ine.run.joint ∧ t.tms = s.tms ∧ t.css = s.css)
  ∧ (∀ s p h l, inaugHears s p h = true → s.ine.state = .idle → (∀ r ∈ l, ∃ m ∈ ownTable s, m.unit = r.unit) →
      (∃ r ∈ l, r.unit ≠ nodeUnit s) → ∃ t, exec (.tableReceive p h 0 1 l) s = .next t ∧ t.ine.state = .topology
      ∧ t.ine.run.merge = false ∧ t.ine.run.joint.length = l.length
      ∧ t.ine.run.digests = [(nodeUnit s, tableCrc t.ine.run.joint, l.length, false)] ∧ t.tms = s.tms ∧ t.css = s.css)
  ∧ (∀ s p h u fs, inaugHears s p h = true → inaugurating s = true →
      (s.ine.state ≠ .merging → ∃ t, exec (.funcsReceive p h u fs) s = .next t
        ∧ t.wire = s.wire ++ (forwardPorts s p).map (fun q => .funcs q h u fs)
        ∧ t.ine.run.funcs = (s.ine.run.funcs.filter fun f => f.1 != u) ++ [(u, fs)]
        ∧ t.ine.run.funcsFrom = s.ine.run.funcsFrom ++ [u] ∧ t.ine.state = s.ine.state)
      ∧ (s.ine.state = .merging → s.ine.run.merged = true → mergeOver s = true → coordinates s = false →
          (∀ n ∈ s.ine.run.joint, n.unit = nodeUnit s ∨ n.unit = u ∨ n.unit ∈ s.ine.run.funcsFrom) → ∃ t,
          exec (.funcsReceive p h u fs) s = .next t ∧ t.ine.state = .renumbering
            ∧ t.ine.nodes = (numberTable s.ine.run.joint).out))
  ∧ (∀ s p h c n b, inaugHears s p h = true → s.ine.state = .topology →
      (coordinates s = false → ∃ t, exec (.digestReceive p h c n b) s = .next t ∧ t.ine.state = .topology
        ∧ t.ine.run.digests = (s.ine.run.digests.filter fun d => d.1 != h.senderId) ++ [(h.senderId, c, n, b)])
      ∧ (coordinates s = true → s.ine.run.joint ≠ [] → s.ine.run.keeps = false → s.css.state = .leader →
          c = tableCrc s.ine.run.joint → n = s.ine.run.joint.length →
          (∀ m ∈ s.ine.run.joint, m.unit = h.senderId ∨ ∃ d ∈ s.ine.run.digests, d.1 = m.unit ∧ d.2.1 = c ∧ d.2.2.1 = n) →
          ∃ t, exec (.digestReceive p h c n b) s = .next t ∧ t.ine.state = .stopping
            ∧ t.css.stopPan = some (s.css.pan + 3) ∧ t.css.stopWhy = 5 ∧ t.tms = s.tms))
  ∧ (∀ s, s.ine.state = .topology → coordinates s = false →
      (s.ine.run.repeated = false → ∃ t, exec .topologyTimeout s = .next t ∧ t.ine.state = .topology
        ∧ t.ine.run.repeated = true ∧ t.ine.run.phaseAt = max s.mono (s.ine.run.phaseAt + 11000000) ∧ t.mono = t.ine.run.phaseAt
        ∧ (s.ine.run.initiator = false → t.ine.run.joint = [] ∧ t.ine.run.digests = []
          ∧ t.ine.run.own = if s.ine.run.couplers = [] then [] else s.ine.run.own))
      ∧ (s.ine.run.repeated = true → ∃ t, exec .topologyTimeout s = .next t ∧ t.ine.result = 2
        ∧ (t.ine.state = .idle ∨ t.ine.state = .hello) ∧ t.ine.run.joint = [] ∧ t.ine.ident = s.ine.run.oldIdent
        ∧ t.ine.mode = s.ine.run.oldMode ∧ t.ine.topo = s.ine.run.oldTopo
        ∧ t.ine.run.holdUntil = some (max s.mono (s.ine.run.phaseAt + 11000000) + 1000000000)))
  ∧ (∀ s p h, inaugHears s p h = true → s.ine.state = .topology → fromCoordinator s h = true →
      (s.css.state = .leader → ∃ t, exec (.proceedReceive p h) s = .next t ∧ t.ine.state = .stopping
        ∧ t.css = { s.css with stopPan := some (s.css.pan + 3), stopWhy := 5 } ∧ t.tms = s.tms)
      ∧ (s.css.state = .active → ∃ t, exec (.proceedReceive p h) s = .next t ∧ t.ine.state = .stopping
        ∧ t.css = { s.css with stopWhy := 5 } ∧ t.tms = s.tms)
      ∧ (s.css.state = .stopped → s.ine.run.merge = true → coordinates s = false → ∃ t,
        exec (.proceedReceive p h) s = .next t ∧ t.ine.state = .merging
        ∧ t.ine.run.acks.getLast? = some (nodeUnit s, 0x44, 0) ∧ t.css = s.css)
      ∧ (s.css.state = .stopped → s.ine.run.merge = false → funcsComplete s = false → ∃ t,
        exec (.proceedReceive p h) s = .next t ∧ t.ine.state = .merging ∧ t.css = s.css ∧ t.ine.nodes = s.ine.nodes))
  ∧ (∀ s p h, inaugHears s p h = false →
      (∀ i n l, exec (.tableReceive p h i n l) s = .next s) ∧ (∀ u l, exec (.funcsReceive p h u l) s = .next s)
      ∧ (∀ c n b, exec (.digestReceive p h c n b) s = .next s) ∧ exec (.proceedReceive p h) s = .next s
      ∧ (∀ w u, exec (.mergeReceive p h w u) s = .next s)
      ∧ (∀ c e w k, exec (.inaugInstallReceive p h c e w k) s = .next s)
      ∧ (∀ a b, exec (.inaugAckReceive p h a b) s = .next s) ∧ ∀ r, exec (.inaugAbortReceive p h r) s = .next s)
  ∧ (∀ s p h w u, inaugHears s p h = true → s.ine.state = .merging → s.ine.run.merge = true →
      s.ine.run.merged = false → fromCoordinator s h = true → coordinates s = false →
      (s.ine.run.stepping = false → mergeOver s = true → funcsComplete s = true → ∃ t, exec (.mergeReceive p h w u) s = .next t
        ∧ t.ine.state = .renumbering ∧ t.tms = { s.tms with domainEpoch := w } ∧ t.ine.run.merged = true
        ∧ t.ine.nodes = (numberTable s.ine.run.joint).out ∧ t.ine.run.acks.getLast? = some (nodeUnit s, 0x45, 0))
      ∧ (s.ine.run.stepping = true → s.tms.trtState ≠ .none → s.ine.run.survivor ≠ 0 → ∃ t,
        exec (.mergeReceive p h w u) s = .next t ∧ t.ine.state = .merging ∧ t.ine.run.merged = true
        ∧ t.tms.domainEpoch = w ∧ t.tms.mergeStep = true ∧ t.tms.trtState = .acquiring ∧ t.tms.leaderId = u
        ∧ t.ine.nodes = s.ine.nodes))
  ∧ (∀ s, s.ine.state = .merging → (s.ine.run.merge = false ∨ s.ine.run.merged = true ∧ mergeOver s = true) →
      funcsComplete s = true → coordinates s = false →
      (mergeSettle s).ine.state = .renumbering ∧ (mergeSettle s).ine.nodes = (numberTable s.ine.run.joint).out)
  ∧ (∀ s p h c e w k, inaugHears s p h = true → s.ine.state = .renumbering → fromCoordinator s h = true →
      (tableCrc (numberTable s.ine.run.joint).out ≠ k → ∃ t, exec (.inaugInstallReceive p h c e w k) s = .next t
        ∧ t.ine.state = .renumbering ∧ t.ine.run.acks.getLast? = some (nodeUnit s, 0x46, 2) ∧ t.tau = s.tau)
      ∧ (tableCrc (numberTable s.ine.run.joint).out = k → s.ine.run.keeps = false → s.ine.run.merge = true →
          s.ine.run.survivor = 0 → ∃ t, exec (.inaugInstallReceive p h c e w k) s = .next t ∧ t.ine.topo = w
          ∧ t.ine.activeBank = 1 - s.ine.activeBank)
      ∧ (tableCrc (numberTable s.ine.run.joint).out = k → s.ine.run.keeps = false →
          (s.ine.run.merge = false ∨ s.ine.run.survivor ≠ 0) → ∃ t,
          exec (.inaugInstallReceive p h c e w k) s = .next t ∧ t.ine.state = .installing ∧ t.ine.topo = w
          ∧ t.ine.run.acks.getLast? = some (nodeUnit s, 0x46, 0)
          ∧ t.ine.run.tStart = linNs c e ∧ (tauOf t 56).state = .armed ∧ (tauOf t 56).fire = linNs c e * 65536
          ∧ t.ine.activeBank = s.ine.activeBank))
  ∧ (∀ s p h a b, inaugHears s p h = true → coordinates s = true →
      (s.ine.state = .stopping → ∃ t, exec (.inaugAckReceive p h a b) s = .next t ∧ t.ine.state = .stopping
        ∧ t.ine.run.acks = (s.ine.run.acks.filter fun x => !(x.1 == h.senderId && x.2.1 == a)) ++ [(h.senderId, a, b)])
      ∧ (s.ine.state = .renumbering → a = 0x45 → b = 0 → s.ine.run.keeps = false →
          (s.ine.run.merge = false ∨ s.ine.run.survivor ≠ 0) →
          (∀ m ∈ s.ine.run.joint, m.unit = h.senderId
            ∨ ∃ x ∈ s.ine.run.acks, x.1 = m.unit ∧ x.2.1 = 0x45 ∧ x.2.2 = 0) → ∃ t,
          exec (.inaugAckReceive p h a b) s = .next t ∧ t.ine.state = .installing
            ∧ t.ine.run.tStart = trtNs s + 6000000 ∧ (tauOf t 56).fire = (trtNs s + 6000000) * 65536))
  ∧ (∀ s p h r, inaugHears s p h = true → s.ine.state = .topology →
      (r ≠ 6 → ∃ t, exec (.inaugAbortReceive p h r) s = .next t ∧ t.ine.result = r ∧ t.ine.run.joint = []
        ∧ (t.ine.state = .idle ∨ t.ine.state = .hello) ∧ bitAt (alarmOf t .ine) 3 = true ∧ t.css = s.css
        ∧ t.ine.ident = s.ine.run.oldIdent ∧ t.ine.topo = s.ine.run.oldTopo)
      ∧ (r = 6 → s.ine.identNext.mode ≠ 0 → s.ine.twin.state ≠ .standby → ∃ t, exec (.inaugAbortReceive p h r) s = .next t ∧ t.ine.state = .standard
        ∧ t.ine.result = 6))

/-- INAUG and ALIAS commands: An accepted INAUG_CONFIG with good records sets the identity of the next inauguration only; INAUG_LEAD declares a cab of this node, and renumbers without a merge where the front end moves; beside another node's declaration it is cleared with lead_conflict (the model's choice, log); INAUG_INHIBIT sets and releases the hold; INAUG_STATUS answers seven words, INE_STATUS first. While no inauguration runs and TAU56 is not armed ALIAS_SET keeps the static entry and writes it to the inactive bank, ALIAS_CLEAR takes it away, ALIAS_COMMIT arms TAU56 with the bank switch at its instant; the active bank stays. -/
def Obligations.InaugurationAndAliasCommands : Prop :=
  (∀ h s recs fs d, accepts { opcode := 0x0701, classC := true, owner := true, features := [3, 4] } h s = true →
    applyRecs s identRec 0 s.ine.identNext recs = .ok d → fs.length ≤ 64 → fs.all funcOk = true →
    exec (.inaugConfig h recs fs) s = .next (respond { s with ine := { s.ine with
      identNext := if fs.isEmpty then d else { d with functions := fs } } } h 0x0701 .ok 0 []))
  ∧ (∀ h s c l, accepts { opcode := 0x0702, classC := true, owner := true, features := [3, 4] } h s = true →
      inaugurating s = false → (c = 0 ∨ c = s.ine.ident.cab ∨ c = s.ine.identNext.cab) →
      l = ownTable { s with ine := { s.ine with lead := c } } →
      (c = 0 ∨ ∀ n ∈ ownTable s, n.unit ≠ nodeUnit s → n.lead = false) →
      ((s.ine.nodes = [] ∨ orientTable l (fun _ => true) (some true) = l) →
        exec (.inaugLead h c) s = .next (respond { s with ine := { s.ine with lead := c } } h 0x0702 .ok 0 []))
      ∧ (s.ine.nodes ≠ [] → orientTable l (fun _ => true) (some true) ≠ l → ∃ t,
          exec (.inaugLead h c) s = .next (respond t h 0x0702 .ok 0 []) ∧ t.ine.lead = c
            ∧ t.ine.run.seq = s.ine.run.seq + 1 ∧ t.ine.run.merge = false))
  ∧ (∀ h s c, accepts { opcode := 0x0702, classC := true, owner := true, features := [3, 4] } h s = true →
      inaugurating s = false → c ≠ 0 → (c = s.ine.ident.cab ∨ c = s.ine.identNext.cab) →
      (∃ n ∈ ownTable s, n.unit ≠ nodeUnit s ∧ n.lead = true) → exec (.inaugLead h c) s
        = .next (respond (setAlarm { s with ine := { s.ine with lead := 0 } } .ine 8) h 0x0702 .ok 0 []))
  ∧ (∀ h s, accepts { opcode := 0x0703, classC := true, owner := true, features := [3, 4] } h s = true →
      exec (.inaugInhibit h true) s = .next (respond { s with ine := { s.ine with inhibited := true } } h 0x0703 .ok 0 [])
      ∧ ((∀ p, p < 4 → (helloOf s p).confirmed = true → (helloOf s p).fabricUp = false → linkIsUp s p = false) →
          exec (.inaugInhibit h false) s = .next (respond { s with ine := { s.ine with
            inhibited := false, state := if s.ine.state = .held then .hello else s.ine.state } } h 0x0703 .ok 0 [])))
  ∧ (∀ h s, accepts { opcode := 0x0704, features := [3, 4] } h s = true → ∃ p, exec (.inaugStatus h) s
      = .next (respond s h 0x0704 .ok 0 p) ∧ p.length = 28 ∧ leAt p 0 4 = (ineStatus s).toNat
        ∧ leAt p 12 4 = s.ine.topo.toNat ∧ leAt p 16 4 = s.ine.count.toNat)
  ∧ (∀ h s a k, accepts { opcode := 0x0705, classC := true, owner := true, features := [3, 4] } h s = true →
      aliasBusy s = false → a.tfa < 65536 → a.vlan < 4096 → (∀ i, a.stream = some i → i < 8192) →
      k = (staticAt (bankRead s (1 - s.ine.activeBank)) a.tfa).getD (aliasFree (bankRead s (1 - s.ine.activeBank))) →
      poisonedWord s 4 ((1 - s.ine.activeBank) * 4096 + k) = none → k < 4096 → ∃ t,
      exec (.aliasSet h a) s = .next (respond t h 0x0705 .ok 0 [])
        ∧ t.ine.statics = (s.ine.statics.filter fun x => x.tfa != a.tfa) ++ [a]
        ∧ tget none (bankRead t (1 - s.ine.activeBank)) k = some (staticAlias s a)
        ∧ (∀ j, j ≠ k → tget none (bankRead t (1 - s.ine.activeBank)) j = tget none (bankRead s (1 - s.ine.activeBank)) j)
        ∧ bankRead t s.ine.activeBank = bankRead s s.ine.activeBank ∧ t.ine.activeBank = s.ine.activeBank
        ∧ t.ine.gen = s.ine.gen + 2)
  ∧ (∀ h s f k, accepts { opcode := 0x0706, classC := true, owner := true, features := [3, 4] } h s = true →
      aliasBusy s = false → (∃ x ∈ s.ine.statics, x.tfa = f) → staticAt (bankRead s (1 - s.ine.activeBank)) f = some k →
      ∃ t, exec (.aliasClear h f) s = .next (respond t h 0x0706 .ok 0 [])
        ∧ t.ine.statics = s.ine.statics.filter (fun x => x.tfa != f)
        ∧ tget none (bankRead t (1 - s.ine.activeBank)) k = none
        ∧ bankRead t s.ine.activeBank = bankRead s s.ine.activeBank ∧ t.ine.activeBank = s.ine.activeBank)
  ∧ (∀ h s c n, accepts { opcode := 0x0707, classC := true, owner := true, features := [3, 4] } h s = true →
      aliasBusy s = false → n < 1000000000 → s.tms.tsValid = true → trtNs s + 20000 ≤ linNs c n →
      linNs c n ≤ trtNs s + 3600000000000 → ∃ t, exec (.aliasCommit h c n) s = .next (respond t h 0x0707 .ok 0 [])
        ∧ (tauOf t 56).state = .armed ∧ (tauOf t 56).fire = linNs c n * 65536 ∧ (tauOf t 56).arg = word (1 - s.ine.activeBank)
        ∧ t.ine = { s.ine with copyAfter := true } ∧ ∀ k, k ≠ 56 → tauOf t k = tauOf s k)

/-- The twin pair: images, transfers, losses and swaps: TWIN_CONFIG with good records sets the pair; TWIN_SWAP makes a swap due; TWIN_IMAGE_SEND sends the Active device's image, at every second pan where pans are short, the final one always; TWIN_IMAGE_RECEIVE keeps an image with a good CRC at a Standby device, with its TAUs, slots, nodes, streams, sessions and owners, and counts a bad or missing one; the full transfer makes a SYNCING device STANDBY, lets the Active device's images begin, and is asked again after 2 s; the loss of the partner makes a device ALONE, at once or at the next pan boundary; TWIN_SWAP_DUE makes a swap due; the first permitted pan boundary within 1 s counts it, and the next one moves the roles; TWIN_SWAP_SKIP reports a swap that stayed due and waits an interval; a mirrored commit of a shared slot is stored and acknowledged, its acknowledgement within 10 µs makes the own commit ready; a request for the full transfer is answered. In the other states images and transfers change nothing but counters. -/
def Obligations.TwinPairTransitions : Prop :=
  (∀ h s recs x, accepts { opcode := 0x0708, classC := true, owner := true, features := [14] } h s = true →
    applyRecs s twinRec 0 s.ine.twin recs = .ok x → linkIsUp s 95 = false → exec (.twinConfig h recs) s
      = .next (respond (putTwin s { x with dueAt := s.mono + x.interval * 1000000000 }) h 0x0708 .ok 0 []))
  ∧ (∀ h s, accepts { opcode := 0x0709, classC := true, owner := true, features := [14] } h s = true →
      inaugurating s = false → (s.ine.twin.state = .active ∨ s.ine.twin.state = .standby) → exec (.twinSwap h) s
      = .next (respond (putTwin s { s.ine.twin with due := true, dueAt := s.mono }) h 0x0709 .ok 0 []))
  ∧ (∀ s, s.ine.twin.state = .active → linkIsUp s 95 = true → s.ine.twin.finalSent = false → s.ine.twin.imagesOn = true →
      (150 ≤ panUs s ∨ s.ine.twin.oddPan = true ∨ s.ine.twin.atBoundary = some .standby) → exec .twinImageSend s
        = .next (twinSend (putTwin s { s.ine.twin with
            oddPan := false
            finalSent := s.ine.twin.atBoundary == some .standby }) (.twinImage (imageOf s))))
  ∧ (∀ s x, (twinSend s x).wire = s.wire ++ [x] ∧ (twinSend s x).ine = s.ine ∧ (twinGot s).wire = s.wire ∧ (twinGot s).ine = s.ine)
  ∧ (∀ s, s.ine.twin.state = .active → linkIsUp s 95 = true → s.ine.twin.finalSent = false → s.ine.twin.imagesOn = true →
      panUs s < 150 → s.ine.twin.oddPan = false → s.ine.twin.atBoundary ≠ some .standby →
      exec .twinImageSend s = .next (putTwin s { s.ine.twin with oddPan := true }))
  ∧ (∀ s, s.ine.twin.state ≠ .active → exec .twinImageSend s = .next s
      ∧ (s.ine.twin.state ≠ .alone → exec .fullTransferRequest s = .next (if linkIsUp s 95 then twinGot s else s)))
  ∧ (∀ s im, (s.ine.twin.state ≠ .standby → exec (.twinImageReceive im) s = .next s)
      ∧ (s.ine.twin.state ≠ .syncing → exec .twinSyncTimeout s = .next s
        ∧ ∀ i, exec (.twinFullTransferDone i) s = .next (if s.ine.twin.state = .active then
            putTwin s { s.ine.twin with imagesOn := true } else twinGot s)))
  ∧ (∀ s im, s.ine.twin.state = .standby →
      (im.crcOk = true → ∃ t, exec (.twinImageReceive (some im)) s = .next t ∧ t.ine.twin.image = some im
        ∧ t.ine.twin.imageAt = s.mono ∧ t.ine.twin.state = .standby ∧ t.ine.twin.misses = s.ine.twin.misses
        ∧ (im.nodes ≠ [] → t.ine.nodes = im.nodes) ∧ t.ine.topo = im.topo ∧ t.adm.streams = im.streams.map takeOrigin
        ∧ (∀ r, im.taus = [r] → tauOf t r.arm.tau = recOfShared s r)
        ∧ (∀ r i x, im.slots = [r] → slotIndex s r.slot = some i → s.css.slots[i]? = some x → x.shared = true →
          t.css.slots[i]? = some { x with
            prodSeq := r.prodSeq, dataSeq := r.prodSeq, ready := r.ready
            data := if r.data.isEmpty then x.data else r.data, commitAt := s.mono - r.age * panNs s })
        ∧ (∀ r, im.owners = [r] → (pdVar s r.var).len ≠ 0 →
          pdVar t r.var = { pdVar s r.var with writer := r.writer, stale := r.stale }) ∧ (∀ r, im.sessions = [r] → (tenant t r.tenant).counter = r.counter
          ∧ (tenant t r.tenant).shortCmac = r.cmac4 ∧ (tenant t r.tenant).shortStatus = r.status))
      ∧ (im.crcOk = false → exec (.twinImageReceive (some im)) s
          = .next (putTwin (twinGot s) { s.ine.twin with misses := s.ine.twin.misses + 1 }))
      ∧ exec (.twinImageReceive none) s = .next (putTwin s { s.ine.twin with misses := s.ine.twin.misses + 1 }))
  ∧ (∀ s im, s.ine.twin.state = .syncing → im.crcOk = true → s.mono ≤ s.ine.twin.syncAt + 2000000000 →
      s.ine.state ≠ .standard → ∃ t,
      exec (.twinFullTransferDone im) s = .next t ∧ t.ine.twin.state = .standby ∧ t.ine.twin.requested = false
        ∧ t.ine.twin.image = some im)
  ∧ (∀ s, s.ine.twin.state = .syncing → max s.mono (s.ine.twin.syncAt + 2000000000) < ltmSilentAt s → ∃ t,
      exec .twinSyncTimeout s = .next t ∧ t.ine.twin.state = .syncing ∧ t.ine.twin.requested = true
        ∧ t.ine.twin.syncAt = t.mono ∧ t.mono = max s.mono (s.ine.twin.syncAt + 2000000000)
        ∧ t.wire = s.wire ++ [.twinRequest])
  ∧ (∀ s, s.ine.twin.state = .active → ∃ t, exec .twinPartnerTimeout s = .next t ∧ t.ine.twin.state = .alone
      ∧ t.mono = max s.mono (ltmSilentAt s) ∧ bitAt (alarmOf t .ine) 11 = true)
  ∧ (∀ s, s.ine.twin.state = .standby → ∃ t, exec .twinPartnerTimeout s = .next t ∧ bitAt (alarmOf t .ine) 10 = true
      ∧ (panRuns s = true → t.ine.twin.state = .standby ∧ t.ine.twin.atBoundary = some .alone)
      ∧ (panRuns s = false → t.ine.twin.state = .alone))
  ∧ (∀ s, s.ine.twin.state = .unpaired → s.ine.twin.partner ≠ none → s.glob.fwReady = true → linkIsUp s 95 = false → ∃ t,
      exec .twinUnpairedTimeout s = .next t ∧ t.ine.twin.state = .alone ∧ t.mono = max s.mono (s.fw.readyAt + 2000000000)
        ∧ bitAt (alarmOf t .ine) 11 = true)
  ∧ (∀ s, (s.ine.twin.state = .active ∨ s.ine.twin.state = .standby) → exec .twinSwapDue s
      = .next (putTwin (untilMono s s.ine.twin.dueAt) { s.ine.twin with due := true }))
  ∧ (∀ s, s.ine.twin.atBoundary = none → s.ine.twin.due = true →
      (s.ine.twin.state = .active ∨ s.ine.twin.state = .standby) →
      (s.mono ≤ s.ine.twin.dueAt + 1000000000 → swapPermitted s = true → (twinBoundary s).ine.twin = { s.ine.twin with
        swaps := s.ine.twin.swaps + 1
        due := false
        dueAt := s.ine.twin.dueAt + s.ine.twin.interval * 1000000000
        atBoundary := some (if s.ine.twin.state = .active then .standby else .active) })
      ∧ (s.ine.twin.dueAt + 1000000000 < s.mono ∨ swapPermitted s = false → twinBoundary s = s))
  ∧ (∀ s r, s.ine.twin.atBoundary = some r → (twinBoundary s).ine.twin.state = r
      ∧ (s.ine.twin.state = .active → r = .standby → (twinBoundary s).wire
        = if s.ine.twin.finalSent then s.wire else s.wire ++ [.twinImage (imageOf s)]))
  ∧ (∀ s, (s.ine.twin.state = .active ∨ s.ine.twin.state = .standby) → (s.ine.twin.due = false → exec .twinSwapSkip s = .next s)
      ∧ (s.ine.twin.due = true → ∃ t, exec .twinSwapSkip s = .next t
        ∧ t.ine.twin = { s.ine.twin with due := false, dueAt := s.ine.twin.dueAt + s.ine.twin.interval * 1000000000 }
        ∧ bitAt (alarmOf t .ine) 12 = true ∧ t.mono = max s.mono (s.ine.twin.dueAt + 1000000000)))
  ∧ (∀ s k i x w, slotIndex s k = some i → s.css.slots[i]? = some x →
      (x.shared = false → ∀ d, exec (.twinMirrorReceive k w (some d)) s = .next (twinGot s))
      ∧ (x.shared = true → ∀ d, ∃ t, exec (.twinMirrorReceive k w (some d)) s = .next t ∧ t.wire = s.wire ++ [.twinMirrorAck k]
        ∧ t.css.slots[i]? = some { x with prodSeq := w, dataSeq := w, data := d, ready := true, commitAt := s.mono }
        ∧ ∀ j, j ≠ i → t.css.slots[j]? = s.css.slots[j]?)
      ∧ (∀ d, x.mirrored = some d → x.prodSeq = w → ∃ t, exec (.twinMirrorReceive k w none) s = .next t
        ∧ t.css.slots[i]? = some (if s.mono ≤ x.commitAt + 10000 then
            { x with dataSeq := w, data := d, ready := true, mirrored := none } else x)
        ∧ (∀ j, j ≠ i → t.css.slots[j]? = s.css.slots[j]?) ∧ t.wire = s.wire))
  ∧ (∀ s, (s.ine.twin.state = .alone → ∃ t, exec .fullTransferRequest s = .next t
        ∧ t.wire = s.wire ++ [.twinFull (imageOf s)] ∧ t.ine.twin.state = .active ∧ t.ine.twin.imagesOn = false)
      ∧ (s.ine.twin.state = .active → ∃ t, exec .fullTransferRequest s = .next t
        ∧ t.wire = s.wire ++ [.twinFull (imageOf s)] ∧ t.ine = s.ine))

/-- What a macrocycle, a bus, a TRDP frame and a publication do to the Process Data Store: MVB_MACROCYCLE ends a basic period after the last, counts, brings the map entries set for its bus into force with their timeouts, and polls what is due where this device holds the mastership, which it takes on a silent bus (the model's choice, log); a process data frame heard on the line listened to whose entry is its variable's writer commits the field, any other is counted and changes no variable; a device status is kept, a status request for this device is answered with a word the spec leaves open, mastership offered is taken and handed over, a far answer reaches its target; on a bus that does not run nothing changes. WTB_INAUGURATION takes the nodes in range, the role and the period in force, WTB_DATA_RECEIVE keeps a node's data, the WTB period sends this node's. A TRDP frame with another topology counter is only counted, a request is answered with its dataset to the requester, process data of the writer is committed, another party's counted. PD_PUBLISH sends the dataset or the MVB port at its due instant. VARIABLE_STALE marks a variable whose age passes its timeout and leaves its value. -/
def Obligations.BusesAndTrdpMoveProcessData : Prop :=
  (∀ s n u, mvbRuns s n = true → u = untilMono s ((mvbOf s n).at_ + (mvbOf s n).basicUs * 1000) →
    ∃ t, exec (.mvbMacrocycle n []) s = .next t ∧ (mvbOf t n).cycle = (mvbOf s n).cycle + 1
      ∧ (mvbOf t n).at_ = t.mono ∧ t.mono = max s.mono ((mvbOf s n).at_ + (mvbOf s n).basicUs * 1000)
      ∧ (mvbOf t n).master = (mvbOf s n).administrator
      ∧ (∀ m, m ≠ n → mvbOf t m = mvbOf s m) ∧ (∀ v, ∃ m, pdVar t v = { pdVar s v with timeout := m })
      ∧ (∀ k r, tget none s.lgb.map k = some r → tget none t.lgb.map k = some (mapApplied u (.mvb n) r))
      ∧ ((mvbOf s n).administrator = false ∨ (mvbOf s n).master = false → t.wire = s.wire)
      ∧ ((mvbOf s n).administrator = true → (mvbOf s n).master = true → t.wire = s.wire
        ++ (mvbDue (mvbOf s n) (mvbOf s n).cycle).map (fun f => .mvbPoll (88 + n) f.addr)
        ++ if ((mvbOf s n).cycle + 1) * (mvbOf s n).basicUs % 1024000 = 0 then
            (nextAdmin (mvbOf s n)).toList.map fun a => .mvbOffer (88 + n) a else []))
  ∧ (∀ u n r, r.next = none → r.entry.bus = .mvb n → r.applied = false → mapApplied u (.mvb n) r
      = { r with applied := true, pubAt := u.mono, busAt := u.mono })
  ∧ (∀ u n r e, r.next = some e → e.bus = .mvb n → (mapApplied u (.mvb n) r).entry = e
      ∧ (mapApplied u (.mvb n) r).applied = true ∧ (mapApplied u (.mvb n) r).superseded = 0)
  ∧ (∀ s n a k r v, mvbRuns s n = true → lineHears (mvbOf s n).lineB a = true → liveMap s = [(k, r)] →
      r.entry.bus = .mvb n → r.entry.source = true →
      r.entry.busAddr = a.addr → fieldGet a.data r.entry.bitOffset r.entry.bitLen = some v →
      ((pdVar s r.entry.var).writer = some (.legacyBus (.mvb n) (k % 4096)) → pdBlocked s r.entry.var = false → ∃ t,
        exec (.mvbFrameReceive n (.process a)) s = .next t
        ∧ (pdVar t r.entry.var).value = bytesAt v 0 (pdVar s r.entry.var).len ∧ (pdVar t r.entry.var).at_ = s.mono
        ∧ (pdVar t r.entry.var).seq = (pdVar s r.entry.var).seq + 1 ∧ (pdVar t r.entry.var).stale = s.glob.degraded
        ∧ ∀ w, w ≠ r.entry.var → pdVar t w = pdVar s w)
      ∧ ((pdVar s r.entry.var).writer ≠ some (.legacyBus (.mvb n) (k % 4096)) → ∃ t,
        exec (.mvbFrameReceive n (.process a)) s = .next t ∧ t.lgb.vars = s.lgb.vars
        ∧ t.lgb.mismatch = s.lgb.mismatch + 1 ∧ (mvbOf t n).mismatch = sat32 ((mvbOf s n).mismatch + 1)))
  ∧ (∀ s n a, mvbRuns s n = true → lineHears (mvbOf s n).lineB a = false → exec (.mvbFrameReceive n (.process a)) s
      = .next (putMvb s n { mvbOf s n with lineB := lineAfter (mvbOf s n).lineB a }))
  ∧ (∀ s n d, mvbRuns s n = true →
      (d = (mvbOf s n).device → ∃ t v, exec (.mvbFrameReceive n (.statusRequest d)) s = .next t
        ∧ t.wire = s.wire ++ [.mvbStatus (88 + n) d v] ∧ t.lgb = s.lgb)
      ∧ (d = (mvbOf s n).device → (mvbOf s n).administrator = true → ∃ t, exec (.mvbFrameReceive n (.offer d)) s = .next t
        ∧ t.wire = s.wire ++ [.mvbAccept (88 + n) d] ∧ mvbOf t n = { mvbOf s n with master := true }
        ∧ ∀ m, m ≠ n → mvbOf t m = mvbOf s m)
      ∧ (d ≠ (mvbOf s n).device → exec (.mvbFrameReceive n (.statusRequest d)) s = .next s
        ∧ exec (.mvbFrameReceive n (.offer d)) s = .next s
        ∧ exec (.mvbFrameReceive n (.accept d)) s = .next (putMvb s n { mvbOf s n with master := false })))
  ∧ (∀ s n d w, mvbRuns s n = true → exec (.mvbFrameReceive n (.status d w)) s
      = .next (putMvb s n { mvbOf s n with devStatus := tset 0 (mvbOf s n).devStatus d w }))
  ∧ (∀ s n g r, mvbRuns s n = true → ((farOf s g).cfg.any fun c => c.port == 88 + n) = true →
      exec (.mvbFrameReceive n (.far g r)) s = .next (responseReceive g r s))
  ∧ (∀ s n f l, mvbRuns s n = false → exec (.mvbFrameReceive n f) s = .next s ∧ exec (.mvbMacrocycle n l) s = .next s)
  ∧ (∀ s o ns, s.glob.fwReady = true → (linkIsUp s 92 = true ∨ linkIsUp s 93 = true) → ∃ t,
      exec (.wtbInauguration o ns) s = .next t ∧ t.lgb.wtb = { s.lgb.wtb with
          inaugurated := true, master := t.lgb.wtb.master, inForce := t.lgb.wtb.inForce, rx := []
          nodes := ns.filter fun n => decide (-31 ≤ n ∧ n ≤ 31) }
        ∧ (t.lgb.wtb.master = true ↔ o.master = true ∧ s.lgb.wtb.role ≠ .slave ∧ (s.lgb.wtb.role = .weak → o.strong = false))
        ∧ t.lgb.wtb.inForce = (if t.lgb.wtb.master || o.periodMs == 0 then s.lgb.wtb.periodMs else o.periodMs)
        ∧ t.lgb.vars = s.lgb.vars ∧ t.wire = s.wire)
  ∧ (∀ s n x, s.lgb.wtb.inaugurated = true → n ∈ s.lgb.wtb.nodes → x.data.length ≤ 128 → linkIsUp s (wtbPort n) = true →
      lineHears (if n < 0 then s.lgb.wtb.lineB1 else s.lgb.wtb.lineB2) x = true → ∃ t,
      exec (.wtbDataReceive n x) s = .next t ∧ t.lgb.wtb.rx = (n, x.data) :: s.lgb.wtb.rx.filter (fun e => e.1 != n)
        ∧ (∀ v, (∀ i, (pdVar s v).writer ≠ some (.legacyBus .wtb i)) → pdVar t v = pdVar s v))
  ∧ (∀ s, s.lgb.wtb.inaugurated = true → (linkIsUp s 92 = true ∨ linkIsUp s 93 = true) → ∃ t,
      exec (.wtbProcessDataPeriod []) s = .next t
      ∧ t.wire = s.wire ++ [.wtb s.lgb.wtb.tx] ∧ t.mono = max s.mono (s.lgb.wtb.at_ + s.lgb.wtb.inForce * 1000000)
      ∧ t.lgb.wtb = { s.lgb.wtb with at_ := t.mono } ∧ ∀ v, ∃ m, pdVar t v = { pdVar s v with timeout := m })
  ∧ (∀ s f, f.etbTopo ≠ 0 → f.etbTopo ≠ s.ine.topo → exec (.trdpReceive f) s
      = let u := countSent s 99 (trdpLen f.data.length) false
        .next { u with lgb := { u.lgb with topoDiscards := sat32 (u.lgb.topoDiscards + 1) } })
  ∧ (∀ s f b, (f.etbTopo = 0 ∨ f.etbTopo = s.ine.topo) → f.isRequest = true → dataset s f.comid ≠ [] →
      datasetBytes s f.comid = some b → ∃ t n, exec (.trdpReceive f) s = .next t
        ∧ t.wire = s.wire ++ [.trdp
          { src := s.lgb.src, dst := f.src, udp := 17224, msg := 0x5070, comid := f.comid, seq := n
            etbTopo := s.ine.topo, opTopo := 0, data := b }] ∧ t.lgb.vars = s.lgb.vars)
  ∧ (∀ s f x, (f.etbTopo = 0 ∨ f.etbTopo = s.ine.topo) → f.isRequest = false → f.data.length ≤ 1432 →
      s.lgb.subs.filter (fun y => y.comid == f.comid) = [x] → x.src = f.src →
      (pdVar s x.var).writer = some (.trdp f.comid f.src) → x.offset + (pdVar s x.var).len ≤ f.data.length →
      pdBlocked s x.var = false → ∃ t, exec (.trdpReceive f) s = .next t
        ∧ (pdVar t x.var).value = bytesAt f.data x.offset (pdVar s x.var).len ∧ (pdVar t x.var).stale = s.glob.degraded
        ∧ (pdVar t x.var).seq = (pdVar s x.var).seq + 1 ∧ ∀ w, w ≠ x.var → pdVar t w = pdVar s w)
  ∧ (∀ s f x, (f.etbTopo = 0 ∨ f.etbTopo = s.ine.topo) → f.isRequest = false → f.data.length ≤ 1432 →
      subsFor s f = [x] → (pdVar s x.var).writer ≠ some (.trdp f.comid f.src) → ∃ t,
      exec (.trdpReceive f) s = .next t ∧ t.lgb.vars = s.lgb.vars ∧ t.lgb.mismatch = s.lgb.mismatch + 1)
  ∧ (∀ s b i k r u, (liveMap s).find? (fun e => e.1 == mapKey b i && e.2.entry.bus == b) = some (k, r) →
      r.entry.source = true → r.entry.ethKind = .trdp → ethDue s r = some u → ∃ t,
      exec (.pdPublish b i) s = .next (sendTrdp t r.entry.comid none) ∧ t.mono = max s.mono u
        ∧ t.lgb.vars = s.lgb.vars ∧ t.wire = s.wire)
  ∧ (∀ s c p, (datasetBytes s c = none → sendTrdp s c p = s)
      ∧ (∀ d, datasetBytes s c = some d → ∃ n, (sendTrdp s c p).wire = s.wire ++ [.trdp
          { src := s.lgb.src, dst := p.getD (Config.trdpDest c), udp := 17224
            msg := if p.isSome then 0x5070 else 0x5064, comid := c, seq := n
            etbTopo := s.ine.topo, opTopo := 0, data := d }]))
  ∧ (∀ s n i k r d, (liveMap s).find? (fun e => e.1 == mapKey (.mvb n) i && e.2.entry.bus == .mvb n) = some (k, r) →
      r.entry.bus = .mvb n → mvbRuns s n = true → r.entry.source = false → r.entry.ethKind = .none →
      mvbPortData s (.mvb n) r.entry.busAddr = some d → ∃ t, exec (.pdPublish (.mvb n) i) s = .next t
        ∧ t.wire = s.wire ++ [.mvb (88 + n) r.entry.busAddr d] ∧ t.mono = max s.mono (r.busAt + busEff s r.entry)
        ∧ t.lgb.vars = s.lgb.vars)
  ∧ (∀ s v m, (pdVar s v).timeout = some m → (∀ w, (pdVar s v).writer ≠ some (.cssWindow w)) → (pdVar s v).stale = false →
      (pdVar s v).len ≠ 0 → ∃ t, exec (.variableStale v) s = .next t
        ∧ pdVar t v = { pdVar s v with stale := true } ∧ t.mono = max s.mono ((pdVar s v).at_ + m * 1000000 + 1)
        ∧ ∀ w, w ≠ v → pdVar t w = pdVar s w)

/-- LGB, TRDP and PD commands: An accepted LGB_CONFIG within its limits sets the port or the WTB node, one outside them names its first failing record; LGB_MAP_SET keeps an entry that is its variable's writer, not yet in force, beside the one it is to replace, which stays in force, and one that is not gets OWNER_MISMATCH; LGB_MAP_CLEAR takes it away; TRDP_CONFIG sets source and subscriptions; PD_OWNER_SET sets length and writer, a new length clearing the value and marking it stale; PD_WRITE of the writer commits the value with the next sequence number, another tenant's gets OWNER_MISMATCH; PD_READ answers sequence, age, stale flag and value, STALE where it is stale; LGB_STATUS answers six counters. No other variable or map entry changes. -/
def Obligations.BridgeAndProcessDataCommands : Prop :=
  (∀ h s c, accepts { opcode := 0x0801, classC := true, owner := true, features := busFeature (lgbBus c) } h s = true →
    (lgbBad c = none → exec (.lgbConfig h c) s = .next (respond (lgbApply s c) h 0x0801 .ok 0 []))
    ∧ (∀ i, lgbBad c = some i → exec (.lgbConfig h c) s = .next (respond s h 0x0801 .invalidArgument 0 (leBytes 2 i))))
  ∧ (∀ s r m, m ≠ 0 → lgbBad (.wtb r m) = none ∧ lgbApply s (.wtb r m) = putWtb s { s.lgb.wtb with
      role := r
      periodMs := m
      inForce := if s.lgb.wtb.inaugurated && !s.lgb.wtb.master then s.lgb.wtb.inForce else m })
  ∧ (∀ s p a d b l g, p < 4 → d < 4096 → (b = 1000 ∨ b = 2000) → l.length ≤ 4096 → (∀ x ∈ l, x.addr < 4096 ∧ x.log2 ≤ 10) →
      g.length ≤ 16 → (∀ x ∈ g, x < 4096) → lgbBad (.mvb p a d b l g) = none
      ∧ lgbApply s (.mvb p a d b l g) = putMvb s p { mvbOf s p with
        administrator := a, device := d, basicUs := b, list := l, admins := g
        master := a && ((mvbOf s p).master || (g.filter (· ≠ d)).isEmpty) })
  ∧ (∀ h s i e, accepts { opcode := 0x0802, classC := true, owner := true, features := busFeature e.bus } h s = true →
      (∀ k, entryBad s e = some k → exec (.lgbMapSet h i e) s
        = .next (respond s h 0x0802 .invalidArgument 0 (leBytes 2 k)))
      ∧ (entryBad s e = none → i < 4096 → e.source = true → (pdVar s e.var).writer ≠ some (.legacyBus e.bus i) →
        exec (.lgbMapSet h i e) s = .next (respond s h 0x0802 .ownerMismatch 0 []))
      ∧ (entryBad s e = none → i < 4096 → (e.source = true → (pdVar s e.var).writer = some (.legacyBus e.bus i)) → ∃ t r,
        exec (.lgbMapSet h i e) s = .next (respond t h 0x0802 .ok 0 [])
        ∧ tget none t.lgb.map (mapKey e.bus i) = some r
        ∧ (∀ q, tget none s.lgb.map (mapKey e.bus i) = some q → q.applied = true → r = { q with next := some e })
        ∧ ((∀ q, tget none s.lgb.map (mapKey e.bus i) = some q → q.applied = false) →
          r.entry = e ∧ r.applied = false ∧ r.superseded = 0 ∧ r.next = none)
        ∧ (∀ k, k ≠ mapKey e.bus i → tget none t.lgb.map k = tget none s.lgb.map k)
        ∧ t.lgb.vars = s.lgb.vars ∧ t.wire = s.wire))
  ∧ (∀ h s b i r, accepts { opcode := 0x0803, classC := true, owner := true, features := busFeature b } h s = true →
      busOk b = true → i < 4096 → tget none s.lgb.map (mapKey b i) = some r → (r.next.getD r.entry).bus = b → ∃ t,
      exec (.lgbMapClear h b i) s = .next (respond t h 0x0803 .ok 0 []) ∧ tget none t.lgb.map (mapKey b i) = none
        ∧ (∀ k, k ≠ mapKey b i → tget none t.lgb.map k = tget none s.lgb.map k)
        ∧ ∀ w, w ≠ r.entry.var → pdVar t w = pdVar s w)
  ∧ (∀ h s a l, accepts { opcode := 0x0804, classC := true, owner := true } h s = true →
      (∀ x ∈ l, x.var < 8192 ∧ x.offset < 1432) → exec (.trdpConfig h a l) s
        = .next (respond { s with lgb := { s.lgb with src := a, subs := l } } h 0x0804 .ok 0 []))
  ∧ (∀ h s v n w a, accepts { opcode := 0x0805, classC := true, owner := true } h s = true → v < 8192 → n ≠ 0 → n ≤ 128 →
      writerOk w = true → pdUsed s - pdBytes (pdVar s v).len + pdBytes n ≤ 524288 →
      ((∀ k, w ≠ .cssWindow k) → a = (pdVar s v).agePans) →
      (∀ k, w = .cssWindow k → a = ((s.css.windows[k]?).map fun y => y.age).getD (pdVar s v).agePans) →
      ((pdVar s v).len = n → exec (.pdOwnerSet h v n w) s
        = .next (respond (putVar s v { pdVar s v with
          writer := some w
          agePans := a
          stale := (pdVar s v).stale || (s.glob.degraded && pdFed (some w)) }) h 0x0805 .ok 0 []))
      ∧ ((pdVar s v).len ≠ n → exec (.pdOwnerSet h v n w) s = .next (respond (putVar (pdClean s v) v { pdVar s v with
          len := n, writer := some w, value := List.replicate n 0, agePans := a, stale := true }) h 0x0805 .ok 0 [])))
  ∧ (∀ h s v d, accepts { opcode := 0x0806 } h s = true → hasRight s h.tenant 6 = true → v < 8192 → (pdVar s v).len ≠ 0 →
      ((pdVar s v).writer ≠ some (.tenant h.tenant) →
        exec (.pdWrite h v d) s = .next (respond s h 0x0806 .ownerMismatch 0 []))
      ∧ ((pdVar s v).writer = some (.tenant h.tenant) → d.length = (pdVar s v).len → pdBlocked s v = false → ∃ t,
        exec (.pdWrite h v d) s = .next (respond t h 0x0806 .ok 0 []) ∧ pdVar t v = { pdVar s v with
            value := d, seq := (pdVar s v).seq + 1, at_ := s.mono, stale := false, agePans := 0 }
        ∧ ∀ w, w ≠ v → pdVar t w = pdVar s w))
  ∧ (∀ h s v, accepts { opcode := 0x0807 } h s = true → hasRight s h.tenant 6 = true → v < 8192 → (pdVar s v).len ≠ 0 →
      exec (.pdRead h v) s = .next (respond s h 0x0807 (if pdStale s v then .stale else .ok) 0
        (leBytes 4 (pdVar s v).seq.toNat ++ leBytes 4 (pdAge s (pdVar s v)) ++ leBytes 4 (if pdStale s v then 1 else 0)
          ++ (pdVar s v).value)))
  ∧ (∀ h s b i, accepts { opcode := 0x0808, features := busFeature b } h s = true → busOk b = true → i < 4096 → ∃ p,
      exec (.lgbStatus h b i) s = .next (respond s h 0x0808 .ok 0 p) ∧ p.length = 24
        ∧ ∀ r, tget none s.lgb.map (mapKey b i) = some r → r.entry.bus = b → r.mismatch < 2 ^ 32 → leAt p 20 4 = r.mismatch)

/-- Far accesses from the command to the last response: FAR_TARGET_SET sets a target, or names its first failing record; FAR_READ, FAR_WRITE, FAR_HOST_READ and FAR_HOST_WRITE inside the size of a target whose port is up queue one access, outside it they end at once (UNMAPPED, UR, logged). FAR_REQUEST_SEND issues the next chunk of the access under way, or of the first the lock lets go, under a free tag, while the buffers of its class have room for it and its response (Table 9-6; their sizes in bytes are the model's reading, log); it then stands at the head; issuing puts the request, in the bytes of Table 9-4, into the egress queue of an SG target's port, charged to the owner; FAR_RESEND issues it again with the same tag at a quarter of far_timeout. FAR_RESPONSE_RECEIVE with the open tag and op, bit 7 set, adds the data and the last one completes the access, a far status other than OK fails it, a foreign one sets late_discard; FAR_TIMEOUT ends the oldest access, and the tag of one under way stays reserved, until FAR_DISCARD_END frees it. -/
def Obligations.FarAccessesAreQueuedSentAndAnswered : Prop :=
  (∀ h s f c, accepts { opcode := 0x0809, classC := true, owner := true, features := [11] } h s = true → f < 256 →
    (farOf s f).queue = [] →
    (∀ x i, c = some x → farCfgBad s x = some i → exec (.farTargetSet h f c) s
      = .next (respond s h 0x0809 .invalidArgument 0 (leBytes 2 i)))
    ∧ ((∀ x, c = some x → farCfgBad s x = none) →
    exec (.farTargetSet h f c) s = .next (respond (putFar s f { farOf s f with cfg := c }) h 0x0809 .ok 0 [])))
  ∧ (∀ h s f a n c, hasRight s h.tenant 7 = true → f < 256 → (farOf s f).cfg = some c → farPortUp s c = true →
      (accepts { opcode := 0x080A, features := [11] } h s = true → n ≠ 0 →
        (a + n ≤ c.size → exec (.farRead h f a n) s = .next (farPut s f (.tenant h.tenant) true a n [] (some h)))
        ∧ (c.size < a + n → exec (.farRead h f a n) s = .next (respond s h 0x080A .refused 0x0401 [])))
      ∧ (∀ d, accepts { opcode := 0x080B, classC := true, features := [11] } h s = true → d.length = n → n ≠ 0 →
        (a + n ≤ c.size → exec (.farWrite h f a d) s = .next (farPut s f (.tenant h.tenant) false a n d (some h)))
        ∧ (c.size < a + n → exec (.farWrite h f a d) s = .next (respond s h 0x080B .refused 0x0401 []))))
  ∧ (∀ s f a n c, f < 256 → (farOf s f).cfg = some c → farPortUp s c = true →
      (4 ≤ n → n ≤ 64 → a / 64 = (a + n - 1) / 64 → a + n ≤ c.size → heldReads s < 24 →
        exec (.farHostRead f a n) s = .next (farPut s f .bar0 true a n [] none))
      ∧ ((n < 4 ∨ 64 < n ∨ c.size < a + n) → ∃ t, exec (.farHostRead f a n) s = .next t
        ∧ t.far.completions = (f, 1, []) :: s.far.completions ∧ bitAt (farOf t f).err 1 = true
        ∧ (farOf t f).queue = (farOf s f).queue)
      ∧ (∀ d, d.length = n → n ≠ 0 → a + n ≤ c.size →
        exec (.farHostWrite f a d) s = .next (farPut s f .bar0 false a n d none)))
  ∧ (∀ s f p r a n d h, ∃ x, farOf (farPut s f p r a n d h) f = { farOf s f with queue := (farOf s f).queue ++ [x] }
      ∧ x.path = p ∧ x.isRead = r ∧ x.addr = a ∧ x.len = n ∧ x.data = d ∧ x.at_ = s.mono ∧ x.sent = 0 ∧ x.hcp = h
      ∧ x.no = s.far.arrivals ∧ (farPut s f p r a n d h).far.arrivals = s.far.arrivals + 1
      ∧ ∀ g, g ≠ f → farOf (farPut s f p r a n d h) g = farOf s g)
  ∧ (∀ s f c a r, (farOf s f).cfg = some c → (farOf s f).txn = none → farPortUp s c = true →
      farNext (farOf s f) = some (a, r) →
      a.sent < a.len → s.mono < a.at_ + farTimeoutNs c →
      (farRoom s c a (min (farChunk c.port) (a.len - a.sent)) = false → exec (.farRequestSend f) s = .next s)
      ∧ (farRoom s c a (min (farChunk c.port) (a.len - a.sent)) = true → ∃ u x n,
      exec (.farRequestSend f) s = .next (farIssue u c x) ∧ n = min (farChunk c.port) (a.len - a.sent)
        ∧ x.addr = c.base.toNat + a.addr + a.sent ∧ x.len = n ∧ x.isRead = a.isRead ∧ x.resends = 0 ∧ x.at_ = s.mono
        ∧ x.data = (if a.isRead then [] else (a.data.drop a.sent).take n) ∧ x.tag < 256
        ∧ (farOf u f).queue = { a with sent := a.sent + n } :: r ∧ (farOf u f).txn = some x
        ∧ (∀ j, j ≠ f → farOf u j = farOf s j) ∧ u.fab = s.fab ∧ u.wire = s.wire ∧ u.host = s.host))
  ∧ (∀ (x : FarTarget) a r, x.queue = a :: r →
      (a.sent ≠ 0 ∨ lockLets x a = true → farNext x = some (a, r))
      ∧ (∀ b, a.sent = 0 → lockLets x a = false → r.find? (lockLets x) = some b → farNext x = some (b, a :: r.erase b)))
  ∧ (∀ u c x, portKind c.port = .sg →
      let r : Routed := { cls := pcpClass (tget ({} : TagPort) u.fab.tags 97).pcp, tenant := c.owner, stream := none
                          conforming := false, vid := frameVid u 97 (farFrame u c x), frame := farFrame u c x
                          ports := [c.port] }
      let v := countGot u 97 r.frame.len
      (routedAlloc v 97 r).sharedCells = 0 →
      (∀ h : Held, h.frame = r.frame → h.ingress = 97 → h.rcts = prpNumbers v r.frame [c.port] →
        egressReason v c.port r (egressFrame v c.port h).len = none) → ∃ h,
        tget none (farIssue u c x).fab.held u.fab.nextId = some h ∧ h.frame.dst = c.mac ∧ h.frame.etype = 0x88B6
        ∧ h.frame.payload = 0x50 :: farPayload x ∧ h.tenant = c.owner ∧ h.refs = 1
        ∧ queueOf (farIssue u c x) c.port r.cls = queueOf u c.port r.cls ++ [u.fab.nextId]
        ∧ (farIssue u c x).far = u.far)
  ∧ (∀ s f c x, (farOf s f).cfg = some c → (farOf s f).txn = some x → x.resends < 3 → farPortUp s c = true → ∃ t,
      exec (.farResend f) s = .next (farIssue t c x) ∧ t.mono = max s.mono (x.at_ + max 10000 (farTimeoutNs c / 4))
      ∧ (farOf t f).txn = some { x with
          resends := x.resends + 1
          at_ := t.mono } ∧ (farOf t f).queue = (farOf s f).queue ∧ ∀ j, j ≠ f → farOf t j = farOf s j)
  ∧ (∀ s f x a r m, (farOf s f).txn = some x → (farOf s f).queue = a :: r →
      (answers x m = true → m.status = 0 →
        (a.answered + x.len < a.len → ∃ t b, exec (.farResponseReceive f m) s = .next t ∧ (farOf t f).queue = b :: r
          ∧ (farOf t f).txn = none ∧ b.answered = a.answered + x.len
          ∧ b.got = a.got ++ (if x.isRead then m.data.take x.len else []))
        ∧ (∀ h, a.hcp = some h → a.isRead = true → x.isRead = true → a.len ≤ a.answered + x.len → ∃ t,
          exec (.farResponseReceive f m) s = .next (respond t h 0x080A .ok 0 (a.got ++ m.data.take x.len))
            ∧ (farOf t f).queue = r ∧ (farOf t f).txn = none))
      ∧ (answers x m = true → m.status ≠ 0 → ∀ h, a.hcp = some h → ∃ t, exec (.farResponseReceive f m) s
          = .next (respond t h (if a.isRead then 0x080A else 0x080B) .refused (0x0400 + m.status) [])
          ∧ (farOf t f).queue = r ∧ (farOf t f).lastStatus = m.status)
      ∧ (answers x m = false → ∃ t, exec (.farResponseReceive f m) s = .next t
          ∧ farOf t f = { farOf s f with err := setBit (farOf s f).err 3 true }))
  ∧ (∀ (x : FarTxn) (m : FarResp), answers x m = true → m.tag = x.tag ∧ m.op = (if x.isRead then 0x81 else 0x82)
      ∧ (x.isRead = true → m.status = 0 → m.len = x.len ∧ x.len ≤ m.data.length))
  ∧ (∀ s f c a r, (farOf s f).cfg = some c → (farOf s f).queue = a :: r → (∀ b, b ∈ r → a.at_ ≤ b.at_) → ∃ t,
      exec (.farTimeout f) s = .next t
      ∧ (farOf t f).queue = r ∧ (farOf t f).txn = none ∧ bitAt (farOf t f).err 2 = true
      ∧ t.mono = max s.mono (a.at_ + farTimeoutNs c)
      ∧ ∀ x, (farOf s f).txn = some x → tget 0 (farOf t f).reserved x.tag = t.mono + 2 * farTimeoutNs c + 1)
  ∧ (∀ s f g u, tget 0 (farOf s f).reserved g = u + 1 → ∃ t, exec (.farDiscardEnd f g) s = .next t
      ∧ tget 0 (farOf t f).reserved g = 0 ∧ t.mono = max s.mono u ∧ ∀ j, j ≠ f → farOf t j = farOf s j)

/-- Far locks with their leases, and what a received CAN frame does: FAR_LOCK and FW_LOCK_WRITE take a free lock for their lease, a holder's own FAR_LOCK answers what is left, another path waits; FAR_UNLOCK and a zero write with its token release it, a second FAR_UNLOCK with the token answers OK, a stranger's NOT_PERMITTED; FAR_LEASE_EXPIRY releases it at its end with lock_expired, and the first that waits takes it, with the requests that wait for the same lock. CAN_FRAME_RECEIVE: on a port that is down nothing; a frame in which an error is detected is counted and not received, one in a format beyond the mode is a form error (the model's reading, as the log says); a record longer than the mode's data field is OVERSIZE; the first acceptance entry that matches steers it to its tenant's queue, hands it to the Far Window or discards it; with no match it is counted. -/
def Obligations.FarLocksAndCanReception : Prop :=
  (∀ h s f k l, accepts { opcode := 0x080C, features := [11] } h s = true → hasRight s h.tenant 7 = true → f < 256 →
    k < 65536 → l ≠ 0 → l ≤ 1000 → (farOf s f).cfg ≠ none →
    ((farOf s f).lock = none → (farOf s f).waiters = [] → ∃ t, exec (.farLock h f k l) s = .next (respond t h 0x080C .ok 0 (leBytes 4 l))
      ∧ farOf t f = { farOf s f with lock := some { path := .tenant h.tenant, token := k, endAt := s.mono + l * 10000 } }
      ∧ ∀ j, j ≠ f → farOf t j = farOf s j)
    ∧ (∀ x, (farOf s f).lock = some x → x.path = .tenant h.tenant → x.token = k → exec (.farLock h f k l) s
        = .next (respond s h 0x080C .ok 0 (leBytes 4 ((x.endAt - s.mono) / 10000))))
    ∧ (∀ x, (farOf s f).lock = some x → x.path ≠ .tenant h.tenant → ∃ t, exec (.farLock h f k l) s = .next t
        ∧ (farOf t f).lock = some x ∧ (farOf t f).waiters.length = (farOf s f).waiters.length + 1))
  ∧ (∀ h s f k, accepts { opcode := 0x080D, features := [11] } h s = true → hasRight s h.tenant 7 = true → f < 256 →
      (∀ x, (farOf s f).lock = some x → x.path = .tenant h.tenant → x.token = k → (farOf s f).waiters = [] → ∃ t,
        exec (.farUnlock h f k) s = .next (respond t h 0x080D .ok 0 [])
        ∧ farOf t f = { farOf s f with lock := none, released := some (.tenant h.tenant, k) })
      ∧ ((farOf s f).lock = none → (farOf s f).released = some (.tenant h.tenant, k) →
        exec (.farUnlock h f k) s = .next (respond s h 0x080D .ok 0 []))
      ∧ ((farOf s f).lock = none → (farOf s f).released = none →
        exec (.farUnlock h f k) s = .next (respond s h 0x080D .notPermitted 0 [])))
  ∧ (∀ s f (v : Word), f < 256 →
      (v.toNat % 65536 ≠ 0 → v.toNat % 65536 ≤ 1000 → (farOf s f).lock = none → ∃ t, exec (.fwLockWrite f v) s = .next t
        ∧ (farOf t f).queue = (farOf s f).queue ∧ (farOf t f).lock
          = some { path := .bar0, token := v.toNat / 65536, endAt := s.mono + v.toNat % 65536 * 10000 })
      ∧ (v.toNat % 65536 = 0 → ∀ x, (farOf s f).lock = some x →
        (x.path = .bar0 → x.token = v.toNat / 65536 → (farOf s f).waiters = [] → ∃ t,
          exec (.fwLockWrite f v) s = .next t ∧ (farOf t f).lock = none ∧ (farOf t f).released = some (.bar0, x.token))
        ∧ (x.path ≠ .bar0 ∨ x.token ≠ v.toNat / 65536 → exec (.fwLockWrite f v) s = .next s)))
  ∧ (∀ s f x, (farOf s f).lock = some x →
      ((farOf s f).waiters = [] → ∃ t, exec (.farLeaseExpiry f) s = .next t ∧ t.mono = max s.mono x.endAt
        ∧ (farOf t f).lock = none ∧ bitAt (farOf t f).err 4 = true ∧ ∀ j, j ≠ f → farOf t j = farOf s j)
      ∧ (∀ w r, (farOf s f).waiters = w :: r → w.hcp = none → (∀ v ∈ r, v.path ≠ w.path ∨ v.token ≠ w.token) → ∃ t, exec (.farLeaseExpiry f) s = .next t
        ∧ (farOf t f).lock = some { path := w.path, token := w.token, endAt := t.mono + w.lease }
        ∧ (farOf t f).waiters = r ∧ t.mono = max s.mono x.endAt))
  ∧ (∀ s p r phy, (portKind p ≠ .can ∨ linkIsUp s p = false) → exec (.canFrameReceive p ⟨r, phy⟩) s = .next s)
  ∧ (∀ s p r phy, portKind p = .can → linkIsUp s p = true → phy.any (phyCounts s p) = true →
      exec (.canFrameReceive p ⟨r, phy⟩) s = .next (countPhy s p phy))
  ∧ (∀ s p r, portKind p = .can → linkIsUp s p = true → canFormatOk (canOf s (p - 80)) r.format = false →
      exec (.canFrameReceive p ⟨r, []⟩) s = .next (countPhy s p [.canForm]))
  ∧ (∀ s p r, portKind p = .can → linkIsUp s p = true → canFormatOk (canOf s (p - 80)) r.format = true →
      canData (canOf s (p - 80)) < r.data.length → ∃ u,
      exec (.canFrameReceive p ⟨r, []⟩) s = .next (countPort u p 10 1)
        ∧ u = discard s { port := p, reason := 10, ingress := p, tenant := 0, len := 16 + r.data.length })
  ∧ (∀ s p r, portKind p = .can → linkIsUp s p = true → canFormatOk (canOf s (p - 80)) r.format = true →
      r.data.length ≤ canData (canOf s (p - 80)) →
      let first := ((canOf s (p - 80)).accept.filterMap fun e => e.2.map fun a => (e.1, a)).find? fun e => canMatches e.2 r
      let u := countPort (countPort s p 4 1) p 5 r.data.length
      (first = none → exec (.canFrameReceive p ⟨r, []⟩) s = .next (countPort u p 39 1))
      ∧ (∀ i e, first = some (i, e) → e.dest = .discard → exec (.canFrameReceive p ⟨r, []⟩) s = .next u)
      ∧ (∀ i e g x, first = some (i, e) → e.dest = .farWindow →
          (s.far.targets.find? fun t => t.2.cfg.any fun c => c.port == p && c.canResp == r.ident) = some (g, x) →
          exec (.canFrameReceive p ⟨r, []⟩) s
            = .next (responseReceive g (canFar r.data) (countSent u 97 (16 + r.data.length) false)))
      ∧ (∀ i e k n q, first = some (i, e) → e.dest = .steer k → tget none s.host.steering k = some (n, q) →
          (tget ({} : HostQueue) (tenant s n).rxq q).enabled = true → ∃ t, exec (.canFrameReceive p ⟨r, []⟩) s = .next t
          ∧ (tenant t n).waiting = (tenant s n).waiting ++ [canItem s p i r q]
          ∧ (∀ m, m ≠ n → tenant t m = tenant s m) ∧ t.ports = u.ports ∧ t.fab = s.fab))

/-- The cycle of a channel, its telegrams and their deadlines: SAFETY_CYCLE of a running channel, 1 ms after its last, counts it, takes the balls, posts the decision vector, and keeps every half of the channel low while the device safe state stands, which a Tj above 135 °C brings. On a segment assigned in the parameter set a telegram copy that its policer discards reaches no channel; one that fails a check counts as rejected in its axis; the first good copy of a seq becomes the newest unless it was sampled before it; an equal second copy in time ends the single-copy streak; a differing one makes the axis SAFE with MISMATCH. COMPARE_WINDOW_EXPIRY counts a single copy; STALENESS_DEADLINE makes a live axis SAFE; DRIVE_COMMAND_SEND puts the frame of the next command, under its code, a period after the last, into TC6 of its segment; the SFP's first vector ends its restart, and the start-up timeout latches STARTUP. A channel that does not run does none of this. -/
def Obligations.SafetyCyclesAndTelegrams : Prop :=
  (∀ s ch m, chanRuns s ch = true → ∃ t, exec (.safetyCycle ch m) s = .next t
      ∧ (chanOf t ch).cycle = (chanOf s ch).cycle + 1 ∧ (chanOf t ch).seals = m.seals ∧ (chanOf t ch).feedback = m.feedback
      ∧ (∃ v, (chanOf t ch).posted = some v ∧ v.cycle = (chanOf s ch).cycle + 1 ∧ v.seals = m.seals)
      ∧ t.isl.vsafe = m.vsafeMv ∧ t.isl.tj = m.tj ∧ (t.isl.deviceSafe = true → (chanOf t ch).halves = 0)
      ∧ (1350 < m.tj → t.isl.deviceSafe = true ∧ bitAt t.isl.fault 8 = true) ∧ t.mono = max s.mono (cycleDue s ch))
  ∧ (∀ s ch m, chanRuns s ch = false → exec (.safetyCycle ch m) s = .next s)
  ∧ (∀ s p x ch k c f, k < 64 → x.channel = k → chanPar s k = some c → funcPar s k = some f → chanRuns s ch = true →
      safetySegment s p = true → portReceives s p = true → (policerFrame s p 64).1 = true → ∃ t, exec (.telegramReceive p x) s = .next t
      ∧ (telegramOk s ch k p x = none → axisOf t ch k = { axisOf s ch k with rejects := sat16 ((axisOf s ch k).rejects + 1) })
      ∧ (∀ w, telegramOk s ch k p x = some w →
          ((axisOf s ch k).waiting.find? (fun y => y.tel.seq == x.seq && y.segB != (p % 2 == 1)) = none →
            (axisOf t ch k).heard = true ∧ (((axisOf s ch k).heard = false ∨
              ∀ q z, (axisOf s ch k).prev = some (q, z) → 0 ≤ toSigned 32 (w - z).toNat) → (axisOf t ch k).newest = some x))
          ∧ (∀ y, (axisOf s ch k).waiting.find? (fun y => y.tel.seq == x.seq && y.segB != (p % 2 == 1)) = some y →
            y.late = false → s.mono ≤ y.at_ + windowNs s →
            (telegramBytes y.tel = telegramBytes x → (axisOf t ch k).streak = 0 ∧ (axisOf t ch k).lastPair = some x.seq
              ∧ (axisOf t ch k).state = (axisOf s ch k).state)
            ∧ (telegramBytes y.tel ≠ telegramBytes x → (axisOf s ch k).state ≠ .disabled → (axisOf s ch k).state ≠ .safe →
              (axisOf t ch k).state = .safe ∧ (axisOf t ch k).reason = 2
              ∧ (axisOf t ch k).mismatches = sat16 ((axisOf s ch k).mismatches + 1)))))
  ∧ (∀ s p x, safetySegment s p = true → portReceives s p = true → (policerFrame s p 64).1 = false → ∃ t,
      exec (.telegramReceive p x) s = .next t ∧ t.isl = s.isl ∧ t.tms = s.tms)
  ∧ (∀ s p x, (safetySegment s p = false ∨ portReceives s p = false) → exec (.telegramReceive p x) s = .next s)
  ∧ (∀ s ch k, chanRuns s ch = false → exec (.compareWindowExpiry ch k) s = .next s
      ∧ exec (.stalenessDeadline ch k) s = .next s ∧ exec (.driveCommandSend ch k) s = .next s)
  ∧ (∀ s m, s.isl.sfpRestart = none → exec (.sfpFirstVector m) s = .next s)
  ∧ (∀ s, islandRuns s = false → exec .islandStartupTimeout s = .next s)
  ∧ (∀ s ch k w, chanRuns s ch = true → (axisOf s ch k).waiting.reverse.find? (fun w => !w.late) = some w → ∃ t,
      exec (.compareWindowExpiry ch k) s = .next t ∧ t.mono = max s.mono (w.at_ + windowNs s)
      ∧ (axisOf t ch k).singles = (axisOf s ch k).singles + 1 ∧ (axisOf t ch k).streak = (axisOf s ch k).streak + 1
      ∧ (∀ p, s.isl.par = some p → p.singleLimit < (axisOf s ch k).streak + 1 → (axisOf s ch k).state ≠ .disabled →
          (axisOf t ch k).state = .safe ∧ ((axisOf s ch k).state ≠ .safe → (axisOf t ch k).reason = 3)))
  ∧ (∀ s ch k, chanRuns s ch = true → s.tms.tsValid = true → (axisOf s ch k).state ≠ .disabled →
      (axisOf s ch k).state ≠ .safe → ∃ t, exec (.stalenessDeadline ch k) s = .next t ∧ (axisOf t ch k).state = .safe
      ∧ (axisOf t ch k).reason = 1 ∧ (axisOf t ch k).newest = (axisOf s ch k).newest
      ∧ ∀ j, j ≠ k → axisOf t ch j = axisOf s ch j)
  ∧ (∀ s ch k p c u b, s.isl.par = some p → chanPar s k = some c → chanRuns s ch = true → (axisOf s ch k).state ≠ .disabled →
      u = untilMono s (driveDue s ch k) →
      b = driveBytes u ch k ++ beBytes 4 (crcSafety (seedOf p k ^^^ 0x80000000) (driveBytes u ch k)).toNat → ∃ t,
      exec (.driveCommandSend ch k) s = .next (driveQueue t (16 + 2 * c.segPair + if ch = .sfp then 0 else 1) (driveFrame s b))
      ∧ t.mono = max s.mono (driveDue s ch k) ∧ t.fab = s.fab ∧ t.ports = s.ports
      ∧ axisOf t ch k = { axisOf s ch k with cmdSeq := (axisOf s ch k).cmdSeq + 1, cmdAt := some t.mono }
      ∧ ∀ j, j ≠ k → axisOf t ch j = axisOf s ch j)
  ∧ (∀ s b, (driveFrame s b).etype = 0x88B6 ∧ (driveFrame s b).subtype = 0x11 ∧ (driveFrame s b).dst = 0x034256FFFF09
      ∧ (driveFrame s b).payload = [0x11, 0x01] ++ b ++ List.replicate 12 0)
  ∧ (∀ u p f, portKind p = .sg →
      let r : Routed := { cls := 6, tenant := 0, stream := none, conforming := false, vid := frameVid u 98 f, frame := f
                          ports := [p] }
      let v := countGot u 98 f.len
      (routedAlloc v 98 r).sharedCells = 0 →
      (∀ h : Held, h.frame = f → h.ingress = 98 → h.rcts = prpNumbers v f [p] →
        egressReason v p r (egressFrame v p h).len = none) → ∃ h,
        tget none (driveQueue u p f).fab.held u.fab.nextId = some h ∧ h.frame = f ∧ h.ingress = 98
        ∧ queueOf (driveQueue u p f) p 6 = queueOf u p 6 ++ [u.fab.nextId] ∧ (driveQueue u p f).isl = u.isl)
  ∧ (∀ s m u, s.isl.sfpRestart = some u → islandRuns s = true → s.mono ≤ u + 600000000 →
      (∀ a, s.fw.activation = some a → a.loaded = true) → ∃ t, exec (.sfpFirstVector m) s = .next t
      ∧ t.isl.sfpRestart = none ∧ t.isl.sfp.posted.isSome = true ∧ t.isl.sfp.cycle = s.isl.sfp.cycle + 1
      ∧ t.isl.sfp.seals = m.seals)
  ∧ (∀ s, islandRuns s = true →
      (∀ u, s.isl.sfpRestart = some u → ∃ t, exec .islandStartupTimeout s = .next t ∧ bitAt t.isl.fault 10 = true
        ∧ t.isl.deviceSafe = true ∧ t.mono = max s.mono (u + 600000000))
      ∧ (s.isl.sfpRestart = none → s.fw.phase = .ready → (s.isl.sfp.ok = false ∨ s.isl.sla.ok = false) → ∃ t,
          exec .islandStartupTimeout s = .next t ∧ bitAt t.isl.fault 10 = true ∧ t.isl.deviceSafe = true
          ∧ t.mono = max s.mono (s.fw.readyAt + 500000000)))

/-- Dark pulses, feedback, discrepancy, handover, guard test, recovery and counters: DARK_PULSE_START holds a half of an energised output low from its due instant; DARK_PULSE_END ends it after t_dark, which is no commanded change, a feedback that is not low latches the output fault DARK_TEST and keeps both halves low; a feedback that disagrees past fb_settle latches FEEDBACK; an input that disagrees past its discrepancy time gets its fault latched; a handover disagreement past 20 ms latches HANDOVER and clears S; a guard test of 10 s makes the axis SAFE with FUNCTION; AUTO_RECOVER after 1 s of complete pairs takes the axis to GUARD_OPEN_WAIT, and with S of its outputs cleared an axis they had released to CLOSING; COUNTER_WINDROW_WRITE begins a new hour of counters, which it leaves. Where its condition does not hold each does nothing. -/
def Obligations.OutputsInputsAndAxisTimers : Prop :=
  (∀ s ch n o, outPar s n = some o → chanRuns s ch = true → n < 8 → bitAt s.isl.sfp.halves n = true →
    bitAt s.isl.sla.halves n = true → ∃ t, exec (.darkPulseStart ch n) s = .next t ∧ bitAt (chanOf t ch).halves n = false
      ∧ t.mono = max s.mono (darkDue s ch n o) ∧ tget 0 (chanOf t ch).pulsed n = t.mono
      ∧ (wantHigh s ch n = true → bitAt (chanOf t ch).dark n = true) ∧ t.isl.outFault = s.isl.outFault)
  ∧ (∀ s ch n o, outPar s n = some o → n < 8 → bitAt (chanOf s ch).dark n = true →
      (∃ t, exec (.darkPulseEnd ch n false) s = .next t ∧ bitAt (chanOf t ch).dark n = false
        ∧ bitAt (chanOf t ch).halves n = wantHigh s ch n ∧ t.isl.outFault = s.isl.outFault
        ∧ tget 0 (chanOf t ch).changed n = tget 0 (chanOf s ch).changed n
        ∧ t.mono = max s.mono (tget 0 (chanOf s ch).pulsed n + o.tDark * 1000))
      ∧ (bitAt s.isl.outFault n = false → ∃ t, exec (.darkPulseEnd ch n true) s = .next t ∧ bitAt t.isl.outFault n = true
        ∧ tget 0 t.isl.outReason n = 2 ∧ bitAt t.isl.sfp.halves n = false ∧ bitAt t.isl.sla.halves n = false))
  ∧ (∀ s ch n o u, tget none (chanOf s ch).fbSince n = some u → outPar s n = some o → chanRuns s ch = true → n < 8 →
      bitAt s.isl.outFault n = false → ∃ t, exec (.feedbackDisagreeTimeout ch n) s = .next t
      ∧ bitAt t.isl.outFault n = true ∧ tget 0 t.isl.outReason n = 1 ∧ t.mono = max s.mono (u + o.settle * 1000 + 1)
      ∧ bitAt t.isl.sfp.halves n = false ∧ bitAt t.isl.sla.halves n = false
      ∧ ∀ j, j ≠ n → bitAt t.isl.outFault j = bitAt s.isl.outFault j)
  ∧ (∀ s ch i p u, tget none (chanOf s ch).disagree i = some u → inPar s i = some p → chanRuns s ch = true → i < 16 → ∃ t,
      exec (.inputDiscrepancyTimeout ch i) s = .next t ∧ bitAt t.isl.inFault i = true
      ∧ t.mono = max s.mono (u + p.discrepancy * 1000000 + 1) ∧ ∀ j, j ≠ i → bitAt t.isl.inFault j = bitAt s.isl.inFault j)
  ∧ (∀ s n u, firstOf (tget none s.isl.sfp.handSince n) (tget none s.isl.sla.handSince n) = some u → n < 8 →
      islandRuns s = true → bitAt s.isl.outFault n = false → ∃ t, exec (.handoverTimeout n) s = .next t ∧ bitAt t.isl.outFault n = true
      ∧ tget 0 t.isl.outReason n = 3 ∧ bitAt t.isl.sfp.grants n = false ∧ bitAt t.isl.sla.grants n = false
      ∧ bitAt t.isl.sfp.halves n = false ∧ bitAt t.isl.sla.halves n = false ∧ t.mono = max s.mono (u + 20000001))
  ∧ (∀ s ch k u, (axisOf s ch k).testAt = some u → chanRuns s ch = true →
      ((axisOf s ch k).state = .guardOpenWait ∨ (axisOf s ch k).state = .guardCloseWait) → ∃ t,
      exec (.guardTestTimeout ch k) s = .next t ∧ (axisOf t ch k).state = .safe ∧ (axisOf t ch k).reason = 4
      ∧ (axisOf t ch k).func = 7 ∧ (axisOf t ch k).testAt = none ∧ t.mono = max s.mono (u + 10000000000)
      ∧ ∀ j, j ≠ k → axisOf t ch j = axisOf s ch j)
  ∧ (∀ s ch k u c f, (axisOf s ch k).pairsSince = some u → chanPar s k = some c → funcPar s k = some f →
      (axisOf s ch k).state = .safe → ((axisOf s ch k).reason = 1 ∨ (axisOf s ch k).reason = 3) → f.autoRecover = true →
      chanRuns s ch = true → s.isl.sfpRestart = none → s.isl.deviceSafe = false →
      trtNs (untilMono s (u + 1000000000)) < (axisOf s ch k).deadline → ∃ t, exec (.autoRecover ch k) s = .next t
      ∧ (axisOf t ch k).state = .guardOpenWait ∧ (axisOf t ch k).streak = 0 ∧ (axisOf t ch k).heard = false
      ∧ t.mono = max s.mono (u + 1000000000) ∧ (∀ j, j ≠ k → (axisOf s ch j).state ≠ .locked →
        (axisOf s ch j).state ≠ .closing → (axisOf s ch j).state ≠ .released → axisOf t ch j = axisOf s ch j)
      ∧ ∀ j d, j ≠ k → j < 64 → chanPar s j = some d → (axisOf s ch j).state = .released →
        d.outputs &&& c.outputs = d.outputs → (axisOf t ch j).state = .closing)
  ∧ (∀ s, s.otp.island = true → s.glob.fwReady = true → ∃ t, exec .counterWindrowWrite s = .next t ∧ t.isl.since = []
      ∧ t.isl.counterAt = t.mono ∧ t.isl.cycles = s.isl.cycles ∧ t.isl.reversals = s.isl.reversals
      ∧ ((∃ e ∈ s.isl.since, 1024 ≤ e.2) → t.mono = s.mono)
      ∧ ((∀ e ∈ s.isl.since, e.2 < 1024) → t.mono = max s.mono (s.isl.counterAt + 3600000000000)))
  ∧ (∀ s ch n, (chanRuns s ch = false ∨ 8 ≤ n ∨ bitAt s.isl.sfp.halves n = false ∨ bitAt s.isl.sla.halves n = false) →
      exec (.darkPulseStart ch n) s = .next s)
  ∧ (∀ s ch n b, (8 ≤ n ∨ bitAt (chanOf s ch).dark n = false) → exec (.darkPulseEnd ch n b) s = .next s)
  ∧ (∀ s ch n, (chanRuns s ch = false ∨ tget none (chanOf s ch).fbSince n = none) →
      exec (.feedbackDisagreeTimeout ch n) s = .next s)
  ∧ (∀ s ch i, (chanRuns s ch = false ∨ tget none (chanOf s ch).disagree i = none) →
      exec (.inputDiscrepancyTimeout ch i) s = .next s)
  ∧ (∀ s n, (islandRuns s = false ∨ (tget none s.isl.sfp.handSince n = none ∧ tget none s.isl.sla.handSince n = none)) →
      exec (.handoverTimeout n) s = .next s)
  ∧ (∀ s ch k, ((axisOf s ch k).testAt = none ∨ chanRuns s ch = false) → exec (.guardTestTimeout ch k) s = .next s)
  ∧ (∀ s ch k, ((axisOf s ch k).pairsSince = none ∨ (axisOf s ch k).state ≠ .safe ∨ s.isl.deviceSafe = true) →
      exec (.autoRecover ch k) s = .next s)
  ∧ (∀ s, (s.otp.island = false ∨ s.glob.fwReady = false) → exec .counterWindrowWrite s = .next s)

/-- The SAFETY and AXIS commands of tenants: On a BV-9664-N the eight commands complete with NOT_PERMITTED. With every axis SAFE, SAFETY_PARAM_BEGIN, BLOCK and END load a parameter set; END hands a set that passes every check to both channels and ends the PARAM cause, a set that fails one is refused; with an axis not SAFE BEGIN and END complete with SAFE_STATE_REQUIRED. SAFETY_RESUME clears the causes SEAL, TEMP and TIME and every output fault where none is present, and the island leaves its safe state where nothing keeps it. With the island ready SAFETY_CHANNEL_RESET begins the axes of its mask again, and an axis that only their outputs had released is CLOSING, SAFETY_GUARD_TEST starts their tests, AXIS_COUNTER_SET writes two counters and AXIS_STATUS answers. -/
def Obligations.SafetyCommandsComplete : Prop :=
  (∀ h s n w, accepts { opcode := 0x0901, classC := true, features := [13] } h s = true → s.otp.island = true →
    (allSafe s = false → exec (.safetyParamBegin h n w) s = .next (respond s h 0x0901 .safeStateRequired 0 []))
    ∧ (allSafe s = true → loadBusy s.isl.loads h.tenant = false → n = 5517 → exec (.safetyParamBegin h n w) s
      = .next (respond { s with isl := { s.isl with loads := loadBegin s.isl.loads h.tenant n w } } h 0x0901 .ok 0 [])))
  ∧ (∀ h s o d l, accepts { opcode := 0x0902, classC := true, features := [13] } h s = true → s.otp.island = true →
      allSafe s = true → loadOf s.isl.loads h.tenant = some l → blockOk l o d = true → exec (.safetyParamBlock h o d) s
      = .next (respond { s with isl := { s.isl with loads := loadPut s.isl.loads h.tenant o d } } h 0x0902 .ok 0 []))
  ∧ (∀ h s, s.otp.island = false →
      (∀ n w, accepts { opcode := 0x0901, classC := true, features := [13] } h s = true →
        exec (.safetyParamBegin h n w) s = .next (respond s h 0x0901 .notPermitted rFeature []))
      ∧ (∀ o d, accepts { opcode := 0x0902, classC := true, features := [13] } h s = true →
        exec (.safetyParamBlock h o d) s = .next (respond s h 0x0902 .notPermitted rFeature []))
      ∧ (accepts { opcode := 0x0903, classC := true, features := [13] } h s = true →
        exec (.safetyParamEnd h) s = .next (respond s h 0x0903 .notPermitted rFeature []))
      ∧ (accepts { opcode := 0x0904, classC := true, features := [13] } h s = true →
        exec (.safetyResume h) s = .next (respond s h 0x0904 .notPermitted rFeature []))
      ∧ (∀ m, accepts { opcode := 0x0905, classC := true, features := [13] } h s = true →
        exec (.safetyChannelReset h m) s = .next (respond s h 0x0905 .notPermitted rFeature []))
      ∧ (∀ m, accepts { opcode := 0x0906, classC := true, features := [13] } h s = true →
        exec (.safetyGuardTest h m) s = .next (respond s h 0x0906 .notPermitted rFeature []))
      ∧ (∀ k a b, accepts { opcode := 0x0907, classC := true, owner := true, features := [13] } h s = true →
        exec (.axisCounterSet h k a b) s = .next (respond s h 0x0907 .notPermitted rFeature []))
      ∧ (∀ k, accepts { opcode := 0x0908, features := [13] } h s = true →
        exec (.axisStatus h k) s = .next (respond s h 0x0908 .notPermitted rFeature [])))
  ∧ (∀ h s, accepts { opcode := 0x0903, classC := true, features := [13] } h s = true → s.otp.island = true →
      allSafe s = false → exec (.safetyParamEnd h) s = .next (respond
        { s with isl := { s.isl with loads := loadDrop s.isl.loads h.tenant } } h 0x0903 .safeStateRequired 0 []))
  ∧ (∀ h s l b, accepts { opcode := 0x0903, classC := true, features := [13] } h s = true → s.otp.island = true →
      allSafe s = true → loadOf s.isl.loads h.tenant = some l → loadBytes l.blocks l.len = some b →
      (parCheck s b = none → exec (.safetyParamEnd h) s = .next (respond
        { s with isl := { s.isl with loads := loadDrop s.isl.loads h.tenant } } h 0x0903 .refused 0 []))
      ∧ (∀ p, parCheck s b = some p → p.ident = l.ident → ∃ t, exec (.safetyParamEnd h) s
          = .next (respond t h 0x0903 .ok 0 []) ∧ t.isl.par = some p ∧ t.isl.paramValid = true
          ∧ bitAt t.isl.fault 6 = false ∧ t.isl.loads = loadDrop s.isl.loads h.tenant
          ∧ (if s.fw.activeB then t.fw.slotB.par else t.fw.slotA.par) = some b))
  ∧ (∀ h s, accepts { opcode := 0x0904, classC := true, features := [13] } h s = true → s.otp.island = true →
      hasRight s h.tenant 5 = true →
      (causePresent s = true → exec (.safetyResume h) s = .next (respond s h 0x0904 .refused 0x0502 []))
      ∧ (causePresent s = false → ∃ t, exec (.safetyResume h) s = .next (respond t h 0x0904 .ok 0 [])
          ∧ t.isl.outFault = 0 ∧ t.isl.outReason = [] ∧ bitAt t.isl.fault 5 = false ∧ bitAt t.isl.fault 8 = false
          ∧ bitAt t.isl.fault 9 = false ∧ (∀ j, j ≠ 5 → j ≠ 8 → j ≠ 9 → bitAt t.isl.fault j = bitAt s.isl.fault j)
          ∧ (s.isl.fault &&& ~~~0x320 = 0 → s.isl.par ≠ none → s.isl.sfp.ok = true → s.isl.sla.ok = true →
              s.isl.sfpRestart = none → t.isl.deviceSafe = false ∧ t.isl.ready = true)
          ∧ (s.isl.fault &&& ~~~0x320 ≠ 0 → t.isl.deviceSafe = true)))
  ∧ (∀ h s m, accepts { opcode := 0x0905, classC := true, features := [13] } h s = true → s.otp.island = true →
      hasRight s h.tenant 5 = true →
      (s.isl.ready = false → exec (.safetyChannelReset h m) s = .next (respond s h 0x0905 .refused 0x0501 []))
      ∧ (s.isl.ready = true → s.isl.deviceSafe = false → ∃ t, exec (.safetyChannelReset h m) s
          = .next (respond t h 0x0905 .ok 0 [])
          ∧ (∀ ch k c f, bitAt m k = true → chanPar s k = some c → funcPar s k = some f →
              (axisOf t ch k).state = .guardOpenWait ∧ (axisOf t ch k).streak = 0 ∧ (axisOf t ch k).heard = false)
          ∧ (∀ ch k, bitAt m k = false → (axisOf s ch k).state ≠ .locked → (axisOf s ch k).state ≠ .closing →
              (axisOf s ch k).state ≠ .released → axisOf t ch k = axisOf s ch k)
          ∧ ∀ ch k j c d, bitAt m k = true → chanPar s k = some c → funcPar s k ≠ none → bitAt m j = false → j < 64 →
              chanPar s j = some d → (axisOf s ch j).state = .released → d.outputs &&& c.outputs = d.outputs →
              (axisOf t ch j).state = .closing))
  ∧ (∀ h s m, accepts { opcode := 0x0906, classC := true, features := [13] } h s = true → s.otp.island = true →
      hasRight s h.tenant 5 = true → s.isl.ready = true → ∃ t, exec (.safetyGuardTest h m) s
        = .next (respond t h 0x0906 .ok 0 [])
      ∧ (∀ ch k c, bitAt m k = true → chanPar s k = some c → (axisOf s ch k).state = .guardOpenWait →
          (axisOf s ch k).testAt = none → axisOf t ch k = { axisOf s ch k with testAt := some s.mono })
      ∧ ∀ ch k, bitAt m k = false → axisOf t ch k = axisOf s ch k)
  ∧ (∀ h s k a b, accepts { opcode := 0x0907, classC := true, owner := true, features := [13] } h s = true →
      s.otp.island = true → s.isl.ready = true → k < 64 → exec (.axisCounterSet h k a b) s
      = .next (respond { s with isl := { s.isl with
          cycles := tset 0 s.isl.cycles k a.toNat, reversals := tset 0 s.isl.reversals k b.toNat } } h 0x0907 .ok 0 []))
  ∧ (∀ h s k, accepts { opcode := 0x0908, features := [13] } h s = true → s.otp.island = true → s.isl.ready = true →
      k < 64 → ∃ p, exec (.axisStatus h k) s = .next (respond s h 0x0908 .ok 0 p) ∧ p.length = 24
        ∧ p.head? = some (BitVec.ofNat 8 (axisOf s .sfp k).state.code)
        ∧ p[1]? = some (BitVec.ofNat 8 (axisOf s .sla k).state.code))

/-- The image, root and key commands and a live activation: IMAGE_BEGIN makes the load slot LOADING, never the active slot while firmware runs; IMAGE_BLOCK adds a block, a read-back that differs is FLASH_ERROR; IMAGE_VERIFY makes a complete image VERIFIED or INVALID with the reason of the first check that fails. IMAGE_ACTIVATE of a verified image commits a live activation, restarting the SFP where its component changes and every axis is SAFE, or restarts into the new slot on trial; ACTIVATION_DRAIN_END begins the pause 20 ms on, ACTIVATION_FALLBACK returns to the old slot 250 ms into it. IMAGE_COMMIT burns the rollback counter up to the image's version; ROOT_REVOKE burns one fuse; KEY_WIPE clears keys and counters; IMAGE_STATUS answers. -/
def Obligations.ImagesAreLoadedVerifiedAndActivated : Prop :=
  (∀ h s n w, accepts { opcode := 0x0A01, classC := true, owner := true, recovery := true } h s = true → n ≠ 0 →
    n ≤ 14680064 → (s.fw.trial = false ∨ inRecovery s = true) → ∃ t, exec (.imageBegin h n w) s
      = .next (respond t h 0x0A01 .ok 0 []) ∧ (fwSlot t (loadSlot s)).state = .loading
      ∧ (fwSlot t (loadSlot s)).len = n ∧ (fwSlot t (loadSlot s)).imageId = w ∧ (fwSlot t (loadSlot s)).blocks = []
      ∧ fwSlot t (!loadSlot s) = fwSlot s (!loadSlot s) ∧ (inRecovery s = false → loadSlot s ≠ s.fw.activeB))
  ∧ (∀ h s o d b, accepts { opcode := 0x0A02, classC := true, owner := true, recovery := true } h s = true →
      slotLoads (fwSlot s (loadSlot s)) = true → 1 ≤ d.length → d.length ≤ 4096 →
      o + d.length ≤ (fwSlot s (loadSlot s)).len → ∃ t, exec (.imageBlock h o d b) s
      = .next (if b then respond t h 0x0A02 .ok 0 [] else respond t h 0x0A02 .refused 0x060C [])
      ∧ (fwSlot t (loadSlot s)).state = .loading ∧ (fwSlot t (loadSlot s)).blocks
          = (fwSlot s (loadSlot s)).blocks ++ (if b then [(o, d)] else []))
  ∧ (∀ h s x, accepts { opcode := 0x0A03, classC := true, owner := true, recovery := true } h s = true →
      slotLoads (fwSlot s (loadSlot s)) = true →
      loadBytes (fwSlot s (loadSlot s)).blocks (fwSlot s (loadSlot s)).len = some x →
      (∀ im, imageCheck s x = .ok im → ∃ t, exec (.imageVerify h) s = .next (respond t h 0x0A03 .ok 0 [])
        ∧ (fwSlot t (loadSlot s)).state = .verified ∧ (fwSlot t (loadSlot s)).info = some im
        ∧ (fwSlot t (loadSlot s)).secVersion = im.secVersion)
      ∧ (∀ r, imageCheck s x = .error r → ∃ t, exec (.imageVerify h) s = .next (respond t h 0x0A03 .refused r [])
        ∧ (fwSlot t (loadSlot s)).state = .invalid))
  ∧ (∀ h s w x, accepts { opcode := 0x0A04, classC := true, owner := true, recovery := true } h s = true →
      inRecovery s = false → activateBusy s = false → x = fwSlot s (!s.fw.activeB) → x.state = .verified → x.imageId = w →
      recheck s x = none → sfpChanges s x = false →
      (engineChanges s x = false → ∃ t, exec (.imageActivate h true w) s = .next t
        ∧ t.fw.activation = some { live := true, at_ := s.mono, sfp := false } ∧ t.fw.activeB = s.fw.activeB
        ∧ t.fw.phase = s.fw.phase ∧ (fwSlot t (!s.fw.activeB)).par = (fwSlot s s.fw.activeB).par)
      ∧ (engineChanges s x = true → exec (.imageActivate h true w) s = .next (respond s h 0x0A04 .refused 0x0609 []))
      ∧ (∃ t, exec (.imageActivate h false w) s = .next t ∧ t.fw.activeB = !s.fw.activeB ∧ t.fw.trial = true
        ∧ (fwSlot t t.fw.activeB).state = .active ∧ (fwSlot t t.fw.activeB).imageId = w ∧ t.fw.phase = .reset
        ∧ t.fw.noStrap = true ∧ t.pwc.phase = .xin ∧ t.glob.fwReady = false ∧ t.otp = s.otp))
  ∧ (∀ h s w x, accepts { opcode := 0x0A04, classC := true, owner := true, recovery := true } h s = true →
      inRecovery s = false → activateBusy s = false → x = fwSlot s (!s.fw.activeB) → x.state = .verified → x.imageId = w →
      recheck s x = none → sfpChanges s x = true →
      (∀ b, allSafe s = false → exec (.imageActivate h b w) s = .next (respond s h 0x0A04 .safeStateRequired 0 []))
      ∧ (allSafe s = true → engineChanges s x = false → ∃ t, exec (.imageActivate h true w) s = .next t
        ∧ t.fw.activation = some { live := true, at_ := s.mono, sfp := true } ∧ t.isl.sfpRestart = some s.mono
        ∧ t.isl.ready = false ∧ t.isl.sfp.halves = 0 ∧ t.isl.sla.halves = 0 ∧ t.fw.phase = s.fw.phase))
  ∧ (∀ h s b w x, accepts { opcode := 0x0A04, classC := true, owner := true, recovery := true } h s = true →
      inRecovery s = true → activateBusy s = false → x = fwSlot s (loadSlot s) → x.state = .verified → x.imageId = w →
      recheck s x = none → ∃ t, exec (.imageActivate h b w) s = .next t ∧ t.fw.activeB = loadSlot s ∧ t.fw.trial = true
        ∧ t.fw.failed = 0 ∧ t.fw.phase = .reset ∧ t.fw.noStrap = true ∧ t.otp = s.otp)
  ∧ (∀ h s b w, accepts { opcode := 0x0A04, classC := true, owner := true, recovery := true } h s = true →
      (activateBusy s = true → exec (.imageActivate h b w) s = .next (respond s h 0x0A04 .busy 0 []))
      ∧ (activateBusy s = false → (fwSlot s (loadSlot s)).state ≠ .verified →
          exec (.imageActivate h b w) s = .next (respond s h 0x0A04 .refused 0x0607 [])))
  ∧ (∀ s, s.fw.activation = none → exec .activationDrainEnd s = .next s ∧ exec .activationFallback s = .next s)
  ∧ (∀ s a, s.fw.activation = some a → s.fw.phase = .ready → ∃ t, exec .activationDrainEnd s = .next t
      ∧ t.fw.phase = .paused ∧ t.glob.fwReady = false ∧ t.fw.activeB = !s.fw.activeB ∧ t.fw.trial = true
      ∧ t.mono = max s.mono (a.at_ + 20000000) ∧ t.fw.activation = some { a with at_ := t.mono })
  ∧ (∀ s a, s.fw.activation = some a → s.fw.phase = .paused → a.fellBack = false → ∃ t,
      exec .activationFallback s = .next t ∧ t.fw.activeB = !s.fw.activeB ∧ t.fw.trial = false
      ∧ t.fw.failed = s.fw.failed + 1 ∧ t.mono = max s.mono (a.at_ + 250000000)
      ∧ t.fw.activation = some { a with fellBack := true, loaded := false }
      ∧ (fwSlot t t.fw.activeB).state = .active)
  ∧ (∀ h s, accepts { opcode := 0x0A05, classC := true, owner := true } h s = true → s.fw.activation = none → ∃ t,
      exec (.imageCommit h) s = .next (respond t h 0x0A05 .ok 0 []) ∧ t.fw.trial = false
      ∧ t.otp = { s.otp with rollback := max s.otp.rollback (min 64 (fwSlot s s.fw.activeB).secVersion) }
      ∧ fwSlot t s.fw.activeB = fwSlot s s.fw.activeB)
  ∧ (∀ h s, accepts { opcode := 0x0A06, recovery := true } h s = true → ∃ p, exec (.imageStatus h) s
      = .next (respond s h 0x0A06 .ok 0 p) ∧ p.length = 152 ∧ p[16]? = some (if s.fw.activeB then 1 else 0))
  ∧ (∀ h s i, accepts { opcode := 0x0A07, classC := true, owner := true } h s = true → i < 4 →
      (rootInUse s i = true → exec (.rootRevoke h i) s = .next (respond s h 0x0A07 .refused 0x060A []))
      ∧ (rootInUse s i = false → (∃ j, j < 4 ∧ j ≠ i ∧ bitAt s.otp.revoked j = false) → exec (.rootRevoke h i) s
        = .next (respond { s with otp := { s.otp with revoked := setBit s.otp.revoked i true } } h 0x0A07 .ok 0 [])))
  ∧ (∀ h s, accepts { opcode := 0x0A08, owner := true, recovery := true } h s = true →
      (s.fw.phase = .recovery true → ∃ t, exec (.keyWipe h) s = .next (respond t h 0x0A08 .ok 0 []) ∧ t.tau.keys = []
        ∧ t.evr.area = [] ∧ (∀ n, (tenant t n).key = none ∧ (tenant t n).counter = 0) ∧ t.otp = s.otp)
      ∧ (s.fw.phase ≠ .recovery true → exec (.keyWipe h) s = .next (respond s h 0x0A08 .notPermitted 0 [])))

/-- The boot decision, loading, fw_ready, the boot timeout and the recovery UART: BOOT_DECISION in the boot ROM enters the Recovery ROM on the strap, falls back to the other good slot after a failed trial, enters the Recovery ROM after three failures, else boots a good active slot with the failed-boot count raised. COMPONENT_LOAD of good components makes the image the running one and the device loaded, a bad one restarts it. FW_READY of a loaded device, within 2 s of the boot ROM, sets fw_ready, FEATURES_ACCEPTED within feature_mask and clears the failed-boot count; after a live activation, within its 250 ms, it also clears the cached responses. BOOT_TIMEOUT restarts the device. A good UART frame in the Recovery ROM is answered on the UART, a bad one has no effect. In another phase each does nothing. -/
def Obligations.StartUpBootsLoadsAndRecovers : Prop :=
  (∀ s b fl, s.fw.phase = .rom →
    let good := if s.fw.activeB then fl.okB else fl.okA
    let other := if s.fw.activeB then fl.okA else fl.okB
    (b = true → s.fw.noStrap = false → ∃ t, exec (.bootDecision b fl) s = .next t ∧ t.fw.phase = .recovery true
      ∧ t.glob.recovery = true ∧ t.fw.activeB = s.fw.activeB)
    ∧ (b = false → s.fw.trial = true → 1 ≤ s.fw.failed → other = true → ∃ t, exec (.bootDecision b fl) s = .next t
      ∧ t.fw.phase = .booting ∧ t.fw.activeB = !s.fw.activeB ∧ t.fw.failed = 0 ∧ t.fw.trial = false)
    ∧ (b = false → s.fw.trial = false → 3 ≤ s.fw.failed → ∃ t, exec (.bootDecision b fl) s = .next t
      ∧ t.fw.phase = .recovery false ∧ t.glob.recovery = true)
    ∧ (b = false → s.fw.trial = false → s.fw.failed < 3 → good = true → ∃ t, exec (.bootDecision b fl) s = .next t
      ∧ t.fw.phase = .booting ∧ t.fw.activeB = s.fw.activeB ∧ t.fw.failed = s.fw.failed + 1 ∧ t.fw.leftRom = s.mono)
    ∧ (b = false → s.fw.trial = false → s.fw.failed < 3 → good = false → other = true → ∃ t,
      exec (.bootDecision b fl) s = .next t ∧ t.fw.phase = .booting ∧ t.fw.activeB = !s.fw.activeB)
    ∧ (b = false → s.fw.trial = false → s.fw.failed < 3 → good = false → other = false → ∃ t,
      exec (.bootDecision b fl) s = .next t ∧ t.fw.phase = .recovery false))
  ∧ (∀ s l c im, s.fw.phase = .booting →
      ((∀ x ∈ l, x.ok = true) → ∃ t, exec (.componentLoad l c (some im)) s = .next t ∧ t.fw.phase = .loaded
        ∧ t.fw.running = some im ∧ (fwSlot t s.fw.activeB).info = some im ∧ t.fw.activeB = s.fw.activeB
        ∧ (∀ n k b d f, c = .valid n k b d f → t.evr.ready = true ∧ t.evr.header.boots = b + 1)
        ∧ (c = .unformatted → t.evr.unformatted = true))
      ∧ ((∃ x ∈ l, x.ok = false ∧ x.typ ≠ 2) → ∃ t, exec (.componentLoad l c (some im)) s = .next t
        ∧ t.fw.phase = .reset ∧ t.pwc.phase = .xin ∧ t.fw.failedSlot = some s.fw.activeB ∧ t.fw.failed = s.fw.failed))
  ∧ (∀ s l c im a, s.fw.phase = .paused → s.fw.activation = some a → (∀ x ∈ l, x.ok = true) → ∃ t,
      exec (.componentLoad l c (some im)) s = .next t ∧ t.fw.running = some im ∧ t.fw.phase = .paused
        ∧ t.fw.activation = some { a with loaded := true })
  ∧ (∀ s b fl, s.fw.phase ≠ .rom → exec (.bootDecision b fl) s = .next s)
  ∧ (∀ s l c i, s.fw.phase ≠ .booting → (s.fw.phase ≠ .paused ∨ s.fw.activation = none) →
      exec (.componentLoad l c i) s = .next s)
  ∧ (∀ s, s.fw.phase ≠ .loaded → s.fw.phase ≠ .paused → exec .fwReady s = .next s)
  ∧ (∀ s, s.fw.phase ≠ .booting → s.fw.phase ≠ .loaded → exec .bootTimeout s = .next s)
  ∧ (∀ s d, inRecovery s = false → exec (.uartFrameReceive d) s = .next s)
  ∧ (∀ s, s.fw.phase = .loaded → s.fw.leftRom + 2000000000 < s.mono → exec .fwReady s = .next s)
  ∧ (∀ s, s.fw.phase = .loaded → s.mono ≤ s.fw.leftRom + 2000000000 → ∃ t, exec .fwReady s = .next t ∧ t.fw.phase = .ready ∧ t.glob.fwReady = true
      ∧ t.fw.failed = 0 ∧ t.fw.readyAt = s.mono ∧ t.glob.featAccepted = featuresAccepted s
      ∧ (∀ i, bitAt t.glob.featAccepted i = true → i < 17 ∧ bitAt s.fw.featureMask i = true
          ∧ (i = 13 → s.otp.island = true)) ∧ t.host = s.host ∧ t.fab = s.fab)
  ∧ (∀ s a, s.fw.phase = .paused → s.fw.activation = some a → a.loaded = true → s.pwc.entryWaits = false →
      (a.fellBack = true ∨ s.mono ≤ a.at_ + 250000000) → ∃ t,
      exec .fwReady s = .next t ∧ t.fw.phase = .ready ∧ t.glob.fwReady = true ∧ t.fw.activation = none ∧ t.fw.failed = 0
        ∧ (∀ n, (tenant t n).cache = none) ∧ t.fw.readyAt = s.fw.readyAt)
  ∧ (∀ s, (s.fw.phase = .booting ∨ s.fw.phase = .loaded) → ∃ t, exec .bootTimeout s = .next t ∧ t.fw.phase = .reset
      ∧ t.pwc.phase = .xin ∧ t.fw.failedSlot = some s.fw.activeB ∧ t.fw.failed = s.fw.failed
      ∧ t.mono = max s.mono (s.fw.leftRom + 2000000000) ∧ t.glob.fwReady = false ∧ t.otp = s.otp)
  ∧ (∀ s d n m, inRecovery s = true → n = leAt d 0 2 → d.length = n + 6 → 40 ≤ n → m = (d.drop 2).take n →
      (Config.crc32 (d.take (n + 2)) ≠ word (leAt d (n + 2) 4) → exec (.uartFrameReceive d) s = .next s)
      ∧ (Config.crc32 (d.take (n + 2)) = word (leAt d (n + 2) 4) → leAt m 0 2 = 0x0A06 →
          (∀ i ∈ (tenant s 0).inflight, i.opcode ≠ 0x0A06) → ∃ t b, exec (.uartFrameReceive d) s = .next t
          ∧ t.wire = s.wire ++ [.uart (uartFrame b)] ∧ t.fw = s.fw ∧ b.take 2 = leBytes 2 0x8A06))

/-- Power commands, the permitted state and the sleep agreement: An accepted POWER_CONFIG sets the parameters and the wake timer; with sleep_agree off no sleep stays pending. POWER_KEEP and POWER_LATENCY set the caller's entries. A forced POWER_STANDBY enters STANDBY; one not forced is refused with keep reasons or a held wake, and else enters. POWER_STATUS answers. The evaluation takes the permitted state and its limiter, leaving a state no longer permitted at once; DOZE and NAP are entered after their holds. A keep-alive is sent at once and then every second while the node keeps and has time service. A keep-alive or notice of the node itself, from a port that carries none or with a line bit that is not the port's does nothing; any other is counted and, a keep-alive where its policer lets it, forwarded, and where the control plane serves ends NAP, and a keep-alive raises last_ka and cancels a pending sleep; after T_quiet the node is PENDING with TAU57 armed at T_cand, its notice repeated every 250 ms, a later T_sleep taken over. -/
def Obligations.PowerStatesAndSleepAgreement : Prop :=
  (∀ h s recs c, accepts { opcode := 0x0B01, classC := true, owner := true } h s = true →
    applyRecs s powerRec 0 s.pwc.cfg recs = .ok c → ∃ t, exec (.powerConfig h recs) s = .next (respond t h 0x0B01 .ok 0 [])
      ∧ t.pwc.cfg = c ∧ t.pwc.timer = c.timer ∧ (c.agree = false → t.pwc.sleep ≠ .pending))
  ∧ (∀ h s b, accepts { opcode := 0x0B02 } h s = true → ∃ t, exec (.powerKeep h b) s = .next (respond t h 0x0B02 .ok 0 [])
      ∧ t.pwc.keepers = (if b then sadd s.pwc.keepers h.tenant else sdel s.pwc.keepers h.tenant) ∧ t.pwc.cfg = s.pwc.cfg)
  ∧ (∀ h s u, accepts { opcode := 0x0B03 } h s = true → exec (.powerLatency h u) s
      = .next (respond (modTenant s h.tenant fun x => { x with maxWake := min 4294967295 u }) h 0x0B03 .ok 0 []))
  ∧ (∀ h s, accepts { opcode := 0x0B04, classC := true, owner := true } h s = true →
      (∃ t, exec (.powerStandby h true) s = .next t ∧ t.pwc.phase = .standby ∧ t.pwc.entry = 3 ∧ t.pwc.inh = 0
        ∧ t.pwc.count = s.pwc.count + 1 ∧ t.pwc.timer = s.pwc.cfg.timer ∧ t.pwc.armed = armedSegs s
        ∧ t.pwc.entryAt = s.mono ∧ t.fw.phase = .reset ∧ t.otp = s.otp)
      ∧ (othersKeep s h.tenant = true → exec (.powerStandby h false) s = .next (respond s h 0x0B04 .refused 0x0801 []))
      ∧ (othersKeep s h.tenant = false → s.pwc.heldWake ≠ none →
          exec (.powerStandby h false) s = .next (respond s h 0x0B04 .refused 0x0802 []))
      ∧ (othersKeep s h.tenant = false → s.pwc.heldWake = none → ∃ t, exec (.powerStandby h false) s = .next t
          ∧ t.pwc.phase = .standby ∧ t.pwc.entry = 2 ∧ t.pwc.inh = 0 ∧ t.pwc.count = s.pwc.count + 1))
  ∧ (∀ h s, accepts { opcode := 0x0B05 } h s = true → ∃ p, exec (.powerStatus h) s = .next (respond s h 0x0B05 .ok 0 p)
      ∧ p.length = 12 + 16 * min 16 s.pwc.senders.length ∧ leAt p 0 4 = (pwcStatus s).toNat
      ∧ leAt p 4 4 = (keepReasons s).toNat)
  ∧ (∀ s, s.fw.phase = .ready → ∃ t, exec .powerStateEval s = .next t ∧ t.pwc.permitted = (permitted s).1
      ∧ t.pwc.limiter = (permitted s).2 ∧ ((permitted s).1 < s.pwc.state → t.pwc.state = (permitted s).1)
      ∧ (s.pwc.state = 0 → t.pwc.state = min 1 (permitted s).1)
      ∧ (s.pwc.state ≠ 0 → s.pwc.state ≤ (permitted s).1 → t.pwc.state = s.pwc.state) ∧ t.mono = s.mono)
  ∧ (∀ s u, s.fw.phase = .ready → s.pwc.dozeSince = some u → s.pwc.state < 2 →
      2 ≤ (permitted (untilMono s (u + s.pwc.cfg.dozeHold * 1000))).1 → ∃ t, exec .dozeHoldExpiry s = .next t
      ∧ t.pwc.state = 2 ∧ t.mono = max s.mono (u + s.pwc.cfg.dozeHold * 1000))
  ∧ (∀ s u, s.fw.phase = .ready → s.pwc.napSince = some u → s.pwc.state < 3 →
      3 ≤ (permitted (untilMono s (u + s.pwc.cfg.napHold * 1000000))).1 → ∃ t, exec .napHoldExpiry s = .next t
      ∧ t.pwc.state = 3 ∧ t.mono = max s.mono (u + s.pwc.cfg.napHold * 1000000))
  ∧ (∀ s, s.pwc.graceOn = true → ∃ t, exec .wakeGraceExpiry s = .next t ∧ t.pwc.graceOn = false
      ∧ t.mono = max s.mono (s.fw.readyAt + s.pwc.cfg.awakeMin * 1000000000))
  ∧ (∀ s, ∃ t, exec .wakeSwRelease s = .next t ∧ t.pwc.wakeSw = false ∧ (keeps t = false → t.pwc.kaSending = false))
  ∧ (∀ s, s.fw.phase = .ready → keeps s = true → s.tms.tsValid = true → ∃ t, exec .keepaliveSend s = .next t
      ∧ t.pwc.kaSending = true ∧ t.pwc.kaSeq = s.pwc.kaSeq + 1 ∧ t.pwc.kaAt = t.mono ∧ t.pwc.sleep ≠ .pending
      ∧ t.mono = if s.pwc.kaSending then max s.mono (s.pwc.kaAt + 1000000000) else s.mono)
  ∧ (∀ s, (s.fw.phase ≠ .ready ∨ keeps s = false ∨ s.tms.tsValid = false) → exec .keepaliveSend s = .next s)
  ∧ (∀ s p k, (inaugPort s p = false ∨ lineAgrees p k.lineB = false ∨ k.sender = nodeUnit s) →
      exec (.keepaliveReceive p k) s = .next s ∧ exec (.sleepNoticeReceive p k) s = .next s)
  ∧ (∀ s p k, inaugPort s p = true → lineAgrees p k.lineB = true → k.sender ≠ nodeUnit s → s.fw.phase ≠ .ready →
      exec (.keepaliveReceive p k) s = .next (policed s p (sentLen (.keepAlive k)) fun u =>
        emitVia u (forwardPorts u p) (.keepAlive k)))
  ∧ (∀ s p k, inaugPort s p = true → lineAgrees p k.lineB = true → k.sender ≠ nodeUnit s →
      (policerFrame s p (sentLen (.keepAlive k))).1 = false → ∃ t, exec (.keepaliveReceive p k) s = .next t
      ∧ t.pwc = s.pwc ∧ t.wire = s.wire)
  ∧ (∀ s p k, inaugPort s p = true → lineAgrees p k.lineB = true → k.sender ≠ nodeUnit s → s.fw.phase = .ready →
      (policerFrame s p (sentLen (.keepAlive k))).1 = true → ∃ t, exec (.keepaliveReceive p k) s = .next t ∧ t.pwc.lastKa = max s.pwc.lastKa (kaStamp s k) ∧ t.pwc.state ≠ 3
      ∧ (s.pwc.lastKa < kaStamp s k → s.pwc.sleep = .pending → t.pwc.sleep = .awake ∧ bitAt (alarmOf t .pwc) 1 = true)
      ∧ (s.pwc.senders.length < 128 → ∃ x ∈ t.pwc.senders, x.unit = k.sender ∧ x.reasons = k.reasons
          ∧ x.awakeFor = k.awakeFor))
  ∧ (∀ s p k, inaugPort s p = true → lineAgrees p k.lineB = true → k.sender ≠ nodeUnit s →
      (s.fw.phase ≠ .ready → exec (.sleepNoticeReceive p k) s
        = .next (emitVia (gotSent s p (.sleepNotice k)) (forwardPorts s p) (.sleepNotice k)))
      ∧ (s.fw.phase = .ready → agreeing s = false → exec (.sleepNoticeReceive p k) s
        = .next (napEnd (emitVia (gotSent s p (.sleepNotice k)) (forwardPorts s p) (.sleepNotice k)))))
  ∧ (∀ s p k, inaugPort s p = true → lineAgrees p k.lineB = true → k.sender ≠ nodeUnit s → s.fw.phase = .ready →
      agreeing s = true →
      (s.pwc.sleep = .pending → s.pwc.sleepAt < linNs k.sleepSec k.sleepNs → ∃ t,
        exec (.sleepNoticeReceive p k) s = .next t ∧ t.pwc.sleepAt = linNs k.sleepSec k.sleepNs
        ∧ (tauOf t 57).state = .armed ∧ (tauOf t 57).fire = linNs k.sleepSec k.sleepNs * 65536)
      ∧ (s.pwc.sleep = .awake → keeps s = true → ∃ t, exec (.sleepNoticeReceive p k) s = .next t
        ∧ t.pwc.kaSending = true ∧ t.pwc.kaAt = s.mono ∧ t.pwc.sleep = .awake)
      ∧ (s.pwc.sleep = .awake → keeps s = false → ∃ t, exec (.sleepNoticeReceive p k) s = .next t
        ∧ t.pwc.noticeAt = s.mono ∧ t.pwc.kaSeq = s.pwc.kaSeq + 1 ∧ t.pwc.sleep = .awake))
  ∧ (∀ s, s.fw.phase = .ready → agreeing s = true → keeps s = false → s.pwc.sleep = .awake → ∃ t,
      exec .quietExpiry s = .next t ∧ t.pwc.sleep = .pending
      ∧ t.pwc.sleepAt = s.pwc.lastKa + (s.pwc.cfg.quiet + s.pwc.cfg.grace) * 1000000000
      ∧ (tauOf t 57).state = .armed ∧ (tauOf t 57).fire = t.pwc.sleepAt * 65536 ∧ bitAt (alarmOf t .pwc) 0 = true)
  ∧ (∀ s, s.pwc.sleep = .pending → s.fw.phase = .ready → ∃ t, exec .sleepNoticeRepeat s = .next t
      ∧ t.mono = max s.mono (s.pwc.noticeAt + 250000000) ∧ t.pwc.noticeAt = t.mono ∧ t.pwc.kaSeq = s.pwc.kaSeq + 1
      ∧ t.pwc.sleep = .pending ∧ t.pwc.sleepAt = s.pwc.sleepAt)

/-- Wake sources and the steps of the wake sequence: In STANDBY, 100 ms after the release of INH0, an armed segment's wake pattern, the debounced WAKE_SW, an external INH and the wake timer start the sequence with source 3, 2, 4 and 5, INH0 and the pulse of WAKE_OUT; a held wake starts at that instant. On a running device the pattern powers a sleeping segment's PHY up where its detector is on. PGn raises the next INH and after PG2 the clock is awaited; a PG that does not come within 20 ms fails the attempt, the fourth with wake_fail and its code; the clock leads to the PLL, its absence for 10 ms to degraded mode; the lock releases the boot ROM, its absence is tried once more. WAKE_RETRY begins the next attempt; WAKE_OUT's pulse ends at its time. -/
def Obligations.WakeEventsAndTheWakeSequence : Prop :=
  (∀ s src seg, s.pwc.phase = .standby → s.pwc.phaseAt + 100000000 ≤ s.mono → bitAt s.pwc.pgs 0 = false →
    ∃ t, wakeEvent s src seg = t ∧ t.pwc.source = src ∧ t.pwc.segment = seg ∧ t.pwc.attempts = 1 ∧ t.pwc.phase = .pg 0
      ∧ bitAt t.pwc.inh 0 = true ∧ t.pwc.wakeOut = some (s.mono + 50000000) ∧ t.pwc.heldWake = none)
  ∧ (∀ s g p, s.pwc.phase = .standby → g ∈ s.pwc.armed → wakeRule p = true →
      exec (.segWakePattern g p) s = .next (wakeEvent s 3 g))
  ∧ (∀ s g p, (wakeRule p = false ∨ (s.pwc.phase = .standby ∧ g ∉ s.pwc.armed)) →
      exec (.segWakePattern g p) s = .next s)
  ∧ (∀ s g p, s.pwc.phase = .running → wakeRule p = true → (segOf s g).state = .sleep → (segOf s g).wakeDet = true →
      ∃ t, exec (.segWakePattern g p) s = .next t ∧ segOf t g = { segOf s g with
          pending := if (segOf s g).pending = [] then [.wakeUp] else (segOf s g).pending }
      ∧ t.pwc.phase = s.pwc.phase ∧ ∀ j, j ≠ g → segOf t j = segOf s j)
  ∧ (∀ s, ∃ t, exec .wakeSwDebounce s = .next t ∧ (t.pwc.wakeSw = true ∨ s.pwc.phase = .standby)
      ∧ (s.pwc.cfg.wakeSw = true → t = wakeEvent { s with pwc := { s.pwc with wakeSw := true } } 2 0)
      ∧ (s.pwc.cfg.wakeSw = false → t = { s with pwc := { s.pwc with wakeSw := true } }))
  ∧ (∀ s, bitAt s.pwc.inh 0 = false → s.pwc.phase = .standby → exec .externalInhWake s
      = .next (wakeEvent { s with pwc := { s.pwc with pgs := setBit s.pwc.pgs 0 true } } 4 0))
  ∧ (∀ s, (bitAt s.pwc.inh 0 = true ∨ s.pwc.phase ≠ .standby) → exec .externalInhWake s = .next s)
  ∧ (∀ s, (s.pwc.phase ≠ .standby ∨ s.pwc.timer = 0) → exec .wakeTimerExpiry s = .next s)
  ∧ (∀ s, s.pwc.phase = .standby → s.pwc.timer ≠ 0 → ∃ u, exec .wakeTimerExpiry s = .next (wakeEvent u 5 0)
      ∧ u.mono = max s.mono (s.pwc.entryAt + s.pwc.timer * 1000000000) ∧ u.pwc = s.pwc)
  ∧ (∀ s a b, s.pwc.phase = .standby → s.pwc.heldWake = some (a, b) → ∃ t, exec .heldWakeStart s = .next t
      ∧ t.pwc.source = a ∧ t.pwc.segment = b ∧ t.pwc.attempts = 1 ∧ t.pwc.heldWake = none
      ∧ t.mono = max s.mono (s.pwc.phaseAt + 100000000))
  ∧ (∀ s n, n < 3 → s.pwc.phase = .pg n → tget none s.pwc.pgLow n = none → ∃ t, exec (.pgRise n) s = .next t
      ∧ bitAt t.pwc.pgs n = true ∧ (n < 2 → bitAt s.pwc.pgs (n + 1) = false → t.pwc.phase = .pg (n + 1)
        ∧ bitAt t.pwc.inh (n + 1) = true ∧ t.pwc.phaseAt = s.mono)
      ∧ (n = 2 → t.pwc.phase = .xin ∧ t.pwc.phaseAt = s.mono))
  ∧ (∀ s n, s.pwc.phase = .pg n → ∃ t, exec (.pgTimeout n) s = .next t ∧ t.pwc.inh = 0 ∧ t.pwc.fails = s.pwc.fails + 1
      ∧ t.mono = max s.mono (s.pwc.phaseAt + 20000000) ∧ t.otp = s.otp
      ∧ (s.pwc.attempts < 4 → t.pwc.phase = .retry ∧ t.pwc.wakeFail = s.pwc.wakeFail)
      ∧ (4 ≤ s.pwc.attempts → t.pwc.phase = .standby ∧ t.pwc.wakeFail = true ∧ t.pwc.failCode = n + 1))
  ∧ (∀ s, s.pwc.phase ≠ .xin → exec .xinValid s = .next s ∧ exec .xinTimeout s = .next s)
  ∧ (∀ s, s.pwc.phase ≠ .retry → exec .wakeRetry s = .next s)
  ∧ (∀ s, s.pwc.phase = .xin → exec .xinValid s
      = .next { s with pwc := { s.pwc with phase := .lock false false, phaseAt := s.mono } })
  ∧ (∀ s, s.pwc.phase = .xin → ∃ t, exec .xinTimeout s = .next t ∧ t.pwc.phase = .lock false true
      ∧ t.glob.degraded = true ∧ t.tms.tsValid = false ∧ bitAt (alarmOf t .pwc) 4 = true ∧ t.isl = s.isl ∧ t.otp = s.otp
      ∧ t.tms.refSource = 0xFF
      ∧ t.mono = max s.mono (s.pwc.phaseAt + 10000000))
  ∧ (∀ s a b, s.pwc.phase = .lock a b → ∃ t, exec .pllLock s = .next t ∧ t.pwc.phase = .running ∧ t.fw.phase = .rom
      ∧ t.pwc.lockAt = s.mono ∧ t.tms.tsValid = !s.glob.degraded ∧ t.fab.ready = true
      ∧ t.fab.admitted = !s.glob.degraded ∧ (s.pwc.wakeFail = true → bitAt (alarmOf t .pwc) 3 = true))
  ∧ (∀ s a b, s.pwc.phase = .lock a b → ∃ t, exec .pllLockTimeout s = .next t
      ∧ t.mono = max s.mono (s.pwc.phaseAt + 1000000)
      ∧ (a = false → b = false → t.pwc.phase = .lock true false)
      ∧ ((a = true ∨ b = true) → s.pwc.attempts < 4 → t.pwc.phase = .retry ∧ t.pwc.inh = 0)
      ∧ ((a = true ∨ b = true) → 4 ≤ s.pwc.attempts → t.pwc.phase = .standby ∧ t.pwc.failCode = 4))
  ∧ (∀ s, s.pwc.phase = .retry → bitAt s.pwc.pgs 0 = false → ∃ t, exec .wakeRetry s = .next t ∧ t.pwc.phase = .pg 0
      ∧ t.pwc.attempts = s.pwc.attempts + 1 ∧ bitAt t.pwc.inh 0 = true
      ∧ t.mono = max s.mono (s.pwc.phaseAt + 100000000))
  ∧ (∀ s u, s.pwc.wakeOut = some u → ∃ t, exec .wakeOutSignal s = .next t ∧ t.pwc.wakeOut = none ∧ t.mono = max s.mono u)
  ∧ (∀ s u, s.pwc.wakeOut = none → s.pwc.wakeOutFail = some u → u ≤ s.mono → ∃ t, exec .wakeOutSignal s = .next t
      ∧ t.mono = u + ((s.mono - u) / 5000000000 + 1) * 5000000000
      ∧ (u + 600000000000 ≤ t.mono → t.pwc.wakeOutFail = none) ∧ (t.mono < u + 600000000000 → t.pwc.wakeOutFail = some u))

/-- PORST#, VAON, a falling PG or PFAIL#, and RSTOUT#: PORST# low and a loss of VAON hold the device in reset, keeping OTP, flash slots, keys and recorder memory; PORST# keeps INH and the causes of the island's safe state that only a power cycle clears, a loss of VAON releases INH. PORST# high and VAON coming up start the wake sequence with source 1 or 0. A PG that falls while the device runs acts as PFAIL# falling, that of VDDIO_A drives every safety output low (its group, PG2, is the model's reading, log), and if it stays low for 2 ms INH is released for a new sequence; in the sequence its attempt fails. PFAIL# falling ends with pfail_done, its rise is noted; RSTOUT# goes high 10 ms after the PLL lock. Each does nothing where its condition does not hold. -/
def Obligations.ResetsAndLossesOfSupply : Prop :=
  (∀ s, ∃ t, exec .porstAssert s = .next t ∧ t.pwc.porstLow = true ∧ t.pwc.phase = .held ∧ t.fw.phase = .reset
      ∧ t.otp = s.otp ∧ t.fw.slotA = s.fw.slotA ∧ t.fw.slotB = s.fw.slotB ∧ t.fw.activeB = s.fw.activeB
      ∧ t.evr.mem = s.evr.mem ∧ t.evr.area = s.evr.area ∧ t.tau.keys = s.tau.keys ∧ t.pwc.inh = s.pwc.inh
      ∧ t.pwc.rstoutLow = true ∧ t.glob.fwReady = false ∧ t.css = {} ∧ t.isl = { fault := s.isl.fault &&& lastingCauses }
      ∧ t.glob.slaFault = s.glob.slaFault ∧ t.mono = s.mono)
  ∧ (∀ s, ∃ t, exec .vaonLoss s = .next t ∧ t.pwc.vaonOk = false ∧ t.pwc.phase = .held ∧ t.pwc.inh = 0
      ∧ t.pwc.wakeOut = none ∧ t.otp = s.otp ∧ t.fw.slotA = s.fw.slotA ∧ t.fw.slotB = s.fw.slotB ∧ t.evr.mem = s.evr.mem)
  ∧ (∀ s, s.pwc.vaonOk = true → exec .vaonPowerOn s = .next s)
  ∧ (∀ s, s.pwc.porstLow = false → exec .porstRelease s = .next s)
  ∧ (∀ s, s.pwc.pfail = false → exec .pfailRise s = .next s)
  ∧ (∀ s, (s.pwc.rstoutLow = false ∨ s.pwc.phase ≠ .running) → exec .rstoutRelease s = .next s)
  ∧ (∀ s, s.pwc.vaonOk = false → ∃ t, exec .vaonPowerOn s = .next t ∧ t.pwc.vaonOk = true ∧ t.pwc.wakeFail = false
      ∧ t.pwc.count = 0 ∧ t.pwc.source = 0 ∧ t.fw.bootCause = 0 ∧ (s.pwc.porstLow = true → t.pwc.phase = s.pwc.phase)
      ∧ (s.pwc.porstLow = false → bitAt s.pwc.pgs 0 = false → t.pwc.phase = .pg 0 ∧ t.pwc.attempts = 1
          ∧ bitAt t.pwc.inh 0 = true))
  ∧ (∀ s, s.pwc.porstLow = true → s.pwc.vaonOk = true → bitAt s.pwc.pgs 0 = false → ∃ t, exec .porstRelease s = .next t
      ∧ t.pwc.porstLow = false ∧ t.pwc.source = (if s.pwc.vaonFresh then 0 else 1) ∧ t.pwc.phase = .pg 0
      ∧ t.pwc.attempts = 1 ∧ bitAt t.pwc.inh 0 = true ∧ t.fw.bootCause = t.pwc.source)
  ∧ (∀ s n, n < 3 → s.pwc.phase = .running → ∃ t, exec (.pgFall n) s = .next t ∧ bitAt t.pwc.pgs n = false
      ∧ tget none t.pwc.pgLow n = some s.mono ∧ t.evr.pfailDone = true ∧ t.evr.pfailRose = none
      ∧ t.pwc.phase = .running ∧ t.host = s.host ∧ t.otp = s.otp
      ∧ (n = 2 → t.isl.sfp.halves = 0 ∧ t.isl.sla.halves = 0))
  ∧ (∀ s n, n < 3 → (s.pwc.phase = .xin ∨ ∃ k, s.pwc.phase = .pg k ∧ n < k) → ∃ t, exec (.pgFall n) s = .next t
      ∧ t.pwc.inh = 0 ∧ t.pwc.fails = s.pwc.fails + 1 ∧ (s.pwc.attempts < 4 → t.pwc.phase = .retry)
      ∧ (4 ≤ s.pwc.attempts → t.pwc.phase = .standby ∧ t.pwc.failCode = n + 1))
  ∧ (∀ s n u, tget none s.pwc.pgLow n = some u → s.pwc.phase = .running → ∃ t, exec (.pgLowTimeout n) s = .next t
      ∧ t.pwc.phase = .retry ∧ t.pwc.inh = 0 ∧ t.pwc.attempts = 0 ∧ t.mono = max s.mono (u + 2000000) ∧ t.otp = s.otp)
  ∧ (∀ s, s.pwc.phase = .running → ∃ t, exec .pfailFall s = .next t ∧ t.pwc.pfail = true ∧ t.evr.pfailDone = true
      ∧ t.evr.pfailRose = none ∧ t.host = s.host ∧ t.fab = s.fab)
  ∧ (∀ s, s.pwc.pfail = true → ∃ t, exec .pfailRise s = .next t ∧ t.pwc.pfail = false
      ∧ (s.evr.pfailDone = true → t.evr.pfailRose = some s.mono)
      ∧ (s.evr.pfailDone = false → t = { s with pwc := { s.pwc with pfail := false } }))
  ∧ (∀ s, s.pwc.rstoutLow = true → s.pwc.phase = .running → ∃ t, exec .rstoutRelease s = .next t
      ∧ t.pwc.rstoutLow = false ∧ t.mono = max s.mono (s.pwc.lockAt + 10000000) ∧ t.ports = s.ports)

/-- Reports, bursts and the recorder's commands: EVR_REPORT of a listed code: an exempt code with room becomes the newest windrow, without room it is lost and counted or displaces an older one; among those of one tick that are not written a safety windrow, or one of a lower source nibble, takes the lower number; one that the newest may absorb only raises its repeat count; another takes a token and becomes the newest; without a token it is suppressed and counted; after PFAIL# only safety windrows are admitted. The second ends with its SUMMARY; a burst writes the oldest final windrow into its ring slot, a memory that does not answer sets mem_fault; the checkpoint falls due; the newest becomes final after 1 s. An accepted EVR_CONFIG sets a bucket, EVR_READ answers 32 bytes a record, EVR_MARK reports the caller's mark, EVR_FORMAT empties the memory, with the wrong nonce it is refused on one that is not its own, EVR_STATUS answers. -/
def Obligations.RecorderReportsAndWrites : Prop :=
  (∀ s c d, windrowListed c = true → evrStopped s = false →
    (∀ st, windrowExempt c = true → stagingRoom s (windrowClass c) = some (st, none) →
        (∀ w, st.head? = some w → w.at_ = s.mono → w.written = false → windrowRank w ≤ windrowRank (mkWindrow s c d)) →
        ∃ t, exec (.evrReport c d) s = .next t
      ∧ t.evr.staging.head? = some (mkWindrow s c d) ∧ t.evr.next = s.evr.next + 1 ∧ t.host = s.host ∧ t.fab = s.fab)
    ∧ (∀ x r, windrowExempt c = true → stagingRoom s (windrowClass c) = some (x :: r, none) → x.at_ = s.mono →
        x.written = false → windrowRank (mkWindrow s c d) < windrowRank x →
        (∀ y, r.head? = some y → y.at_ < s.mono) → ∃ t y, exec (.evrReport c d) s = .next t
          ∧ t.evr.staging[0]? = some { x with num := s.evr.next } ∧ t.evr.staging[1]? = some y ∧ y.num = x.num
          ∧ y.code = c ∧ y.data = bytesAt d 0 10 ∧ t.evr.next = s.evr.next + 1)
    ∧ (∀ w r, windrowExempt c = false → s.evr.staging = w :: r → mergesWith s w c d = true → exec (.evrReport c d) s
        = .next { s with evr := { s.evr with
            staging := { w with repeats := w.repeats + 1 } :: r, merged := s.evr.merged + 1 } })
    ∧ (∀ st, windrowExempt c = false → (∀ w, s.evr.staging.head? = some w → mergesWith s w c d = false) →
        (bucketHas (bucketNow (tget {} s.evr.buckets c) (evrClock s)) = true →
          stagingRoom s (windrowClass c) = some (st, none) →
          (∀ w, st.head? = some w → w.at_ = s.mono → w.written = false → windrowRank w ≤ windrowRank (mkWindrow s c d)) →
          ∃ t, exec (.evrReport c d) s = .next t
          ∧ t.evr.staging.head? = some (mkWindrow s c d) ∧ t.evr.next = s.evr.next + 1
          ∧ (tget {} t.evr.buckets c).taken = (bucketNow (tget {} s.evr.buckets c) (evrClock s)).taken + 1000000000)
        ∧ (bucketHas (bucketNow (tget {} s.evr.buckets c) (evrClock s)) = false → ∃ t, exec (.evrReport c d) s = .next t
          ∧ t.evr.suppressed = s.evr.suppressed + 1 ∧ tget 0 t.evr.supNow c = tget 0 s.evr.supNow c + 1
          ∧ t.evr.staging = s.evr.staging ∧ t.evr.next = s.evr.next ∧ bitAt (alarmOf t .evr) 1 = true)))
  ∧ (∀ s c d, windrowListed c = false → exec (.evrReport c d) s = .next s)
  ∧ (∀ s c d, windrowListed c = true → evrStopped s = true → windrowClass c ≠ 3 →
      exec (.evrReport c d) s = .next (windrowLost s false))
  ∧ (∀ s c d, windrowListed c = true → windrowExempt c = true → (evrStopped s = false ∨ windrowClass c = 3) →
      (stagingRoom s (windrowClass c) = none → exec (.evrReport c d) s = .next (windrowLost s (windrowClass c == 3)))
      ∧ ∀ st v, stagingRoom s (windrowClass c) = some (st, some v) → exec (.evrReport c d) s
          = .next (windrowLost (stageWindrow s (mkWindrow s c d) st) (v.cls == 3)))
  ∧ (∀ s, evrWritable s = false → exec .evrCheckpoint s = .next s)
  ∧ (∀ s, (∀ w, s.evr.staging.head? = some w → w.final = true) → exec .evrStagingFinal s = .next s)
  ∧ (∀ s c n st, s.evr.supNow = [(c, n)] → s.evr.lossNow = 0 → evrStopped s = false → stagingRoom s 1 = some (st, none) →
      (∀ x, st.head? = some x → x.written = true ∨ windrowRank x ≤ 1) → ∃ t w,
      exec .evrSecondSummary s = .next t ∧ t.evr.supNow = [] ∧ t.evr.staging.head? = some w ∧ w.code = 2
        ∧ w.data = bytesAt (leBytes 2 c ++ leBytes 3 n) 0 10 ∧ w.num = s.evr.next ∧ (s.tms.tsValid = false →
          s.glob.startAt ≤ s.mono →
          t.mono = s.glob.startAt + ((s.mono - s.glob.startAt) / 1000000000 + 1) * 1000000000))
  ∧ (∀ s, evrWritable s = true → s.evr.flushing = false → s.evr.pfailDone = false →
      (∃ t, exec (.evrWriteBurst false) s = .next t ∧ t.evr.memFault = true ∧ t.evr.ready = false ∧ t.host.counterOk = false
        ∧ t.evr.burst = (s.evr.burst + 1) % 4 ∧ t.evr.mem = s.evr.mem)
      ∧ (∀ w, s.evr.burst ≠ 0 → s.evr.counterWrites = [] → s.evr.checkpointDue = false → dirtyFinal s = [w] →
          s.evr.lossNow = 0 → ∃ t, exec (.evrWriteBurst true) s = .next t
          ∧ tget [] t.evr.mem (w.num % evrSlots s) = windrowBytes (evrSlots s) w
          ∧ (∀ k, k ≠ w.num % evrSlots s → tget [] t.evr.mem k = tget [] s.evr.mem k)
          ∧ t.evr.sinceCheck = s.evr.sinceCheck + 1 ∧ t.evr.burst = (s.evr.burst + 1) % 4))
  ∧ (∀ s, evrWritable s = true → ∃ t, exec .evrCheckpoint s = .next t ∧ t.evr = { s.evr with checkpointDue := true }
      ∧ t.mono = if s.evr.sinceCheck < 4096 then max s.mono (s.evr.checkAt + 1000000000) else s.mono)
  ∧ (∀ s w r, s.evr.staging = w :: r → w.final = false → ∃ t, exec .evrStagingFinal s = .next t
      ∧ t.evr = { s.evr with staging := { w with final := true } :: r } ∧ t.mono = max s.mono (w.at_ + 1000000000))
  ∧ (∀ h s e, accepts { opcode := 0x0C01, classC := true, owner := true } h s = true → bucketOk e = true → e.code ≠ 0xFFFF →
      ∃ t, exec (.evrConfig h [e]) s = .next (respond t h 0x0C01 .ok 0 []) ∧ (tget {} t.evr.buckets e.code).rate = e.rate
        ∧ (tget {} t.evr.buckets e.code).burst = e.burst
        ∧ ∀ k, k ≠ e.code → tget {} t.evr.buckets k = tget ({} : Bucket) s.evr.buckets k)
  ∧ (∀ h s l, accepts { opcode := 0x0C01, classC := true, owner := true } h s = true → l.all bucketOk = true →
      exec (.evrConfig h l) s = .next (respond (l.foldl bucketApply s) h 0x0C01 .ok 0 []))
  ∧ (∀ h s f n, accepts { opcode := 0x0C02 } h s = true → 1 ≤ n → n ≤ 32 → f < 2 ^ 32 → s.evr.memFault = false →
      (evrOldest s : Int) ≤ resolveSeq (evrHead s) (word f) → ∃ p, exec (.evrRead h f n) s
      = .next (respond s h 0x0C02 .ok 0 p)
        ∧ p.length = 4 + 32 * min n (s.evr.next - (resolveSeq (evrHead s) (word f)).toNat))
  ∧ (∀ h s d, accepts { opcode := 0x0C03 } h s = true → s.evr.memFault = false → s.evr.unformatted = false →
      s.evr.foreign = false → exec (.evrMark h d) s
        = .next (respond (report s (0xE000 + h.tenant) d) h 0x0C03 .ok 0 []))
  ∧ (∀ h s a f n, accepts { opcode := 0x0C04, classC := true, owner := true } h s = true → 1 ≤ n → n ≤ 16 →
      s.evr.memFault = false →
      ((s.evr.unformatted = false ∧ s.evr.foreign = false ∨ a = Config.trng s.evr.nonce) → ∃ t,
        exec (.evrFormat h a f n) s = .next (respond t h 0x0C04 .ok 0 []) ∧ t.evr.mem = [] ∧ t.evr.area = []
        ∧ t.evr.ready = true ∧ t.evr.unformatted = false ∧ t.evr.foreign = false ∧ t.evr.header.sizeMiB = n
        ∧ t.host.counterOk = true)
      ∧ ((s.evr.unformatted = true ∨ s.evr.foreign = true) → a ≠ Config.trng s.evr.nonce →
          exec (.evrFormat h a f n) s = .next (respond s h 0x0C04 .refused 0x0901 [])))
  ∧ (∀ h s, accepts { opcode := 0x0C05 } h s = true → ∃ p, exec (.evrStatus h) s = .next (respond s h 0x0C05 .ok 0 p)
      ∧ p.length = 76 ∧ leAt p 0 4 = (evrStatusReg s).toNat)

/-- Measurements, voltage steps, the projection and the AGM commands: A measurement is counted, ten minutes after the last unless one is ordered, its smallest replica slack is the margin, which the slope in force and the temperature coefficients project to margin_at_max, a correction is at most 2 ns either way, and with the margin below target the AGM raises VDD_CORE one step within vcore_max. A step settles 1 ms; a settled step down ends the measurement, a step up is followed by another while the margin is below target, for up to four; a READ_VOUT off by more than 10 mV is retried once, then avs_fault is set. The daily evaluation begins the next day's figures and adds a measured day to the sums. AGM_MEASURE orders a measurement and is BUSY during one; AGM_CONFIG with good records sets them, and names the first that fails; AGM_STATUS answers. -/
def Obligations.AgeingIsMeasuredAndCorrected : Prop :=
  (∀ s m, s.fw.phase = .ready → s.agm.settling = false → ∃ t, exec (.agmMeasurement m) s = .next t
      ∧ t.agm.count = s.agm.count + 1 ∧ t.agm.lastAt = some t.mono ∧ t.agm.margin = minSlack m.replicas
      ∧ t.agm.replicas = m.replicas.take 48 ∧ t.agm.marginMax = minSlack m.replicas
        + Int.tdiv (slopeNow s.agm * ((s.agm.cfg.vmax : Int) - m.readVout)) 1000 + Config.tempShift m.tj
      ∧ (s.agm.slopes.length < 16 → slopeNow s.agm = Config.factorySlope) ∧ t.agm.vout = m.readVout
      ∧ t.agm.latTx = m.latTx.map latClamp ∧ t.agm.latRx = m.latRx.map latClamp ∧ t.pwc.state ≠ 3
      ∧ (s.agm.measuring = true → t.mono = s.mono) ∧ (s.agm.lastAt = none → t.mono = s.mono)
      ∧ (∀ u, s.agm.lastAt = some u → s.agm.measuring = false → t.mono = max s.mono (u + 600000000000))
      ∧ (avsOn s = true → minSlack m.replicas < s.agm.cfg.target → s.agm.vcore < s.agm.cfg.vmax →
          t.agm.vcore = min s.agm.cfg.vmax (s.agm.vcore + s.agm.cfg.step) ∧ t.agm.settling = true ∧ t.agm.steps = 1)
      ∧ (avsOn s = false → t.agm.vcore = s.agm.vcore ∧ t.agm.measuring = false))
  ∧ (∀ v, -2000 ≤ latClamp v ∧ latClamp v ≤ 2000 ∧ (-2000 ≤ v → v ≤ 2000 → latClamp v = v))
  ∧ (∀ s g r, s.agm.settling = true →
      (r ≤ s.agm.vcore + 10 → s.agm.vcore ≤ r + 10 → s.agm.lowering = true → ∃ t, exec (.avsStepSettle g r) s = .next t
        ∧ t.agm.settling = false ∧ t.agm.measuring = false ∧ t.agm.margin = g ∧ t.agm.vout = r ∧ t.agm.vcore = s.agm.vcore
        ∧ (s.agm.stepFrom ≠ s.agm.vcore → t.agm.slopes.head?
            = some (Int.tdiv ((g - s.agm.margin) * 1000) ((s.agm.vcore : Int) - s.agm.stepFrom)))
        ∧ t.mono = max s.mono (s.agm.stepAt + 1000000))
      ∧ (r ≤ s.agm.vcore + 10 → s.agm.vcore ≤ r + 10 → s.agm.lowering = false → ∃ t, exec (.avsStepSettle g r) s = .next t
        ∧ t.agm.margin = g ∧ t.agm.vout = r
        ∧ (avsOn s = true → g < s.agm.cfg.target → s.agm.vcore < s.agm.cfg.vmax → s.agm.steps < 4 →
            t.agm.vcore = min s.agm.cfg.vmax (s.agm.vcore + s.agm.cfg.step) ∧ t.agm.settling = true
            ∧ t.agm.steps = s.agm.steps + 1 ∧ t.agm.stepAt = t.mono)
        ∧ (s.agm.steps = 4 → t.agm.vcore = s.agm.vcore ∧ t.agm.settling = false ∧ t.agm.measuring = false))
      ∧ ((s.agm.vcore + 10 < r ∨ r + 10 < s.agm.vcore) → s.agm.retried = false → ∃ t,
        exec (.avsStepSettle g r) s = .next t ∧ t.mono = max s.mono (s.agm.stepAt + 1000000)
        ∧ t.agm = { s.agm with vout := r, retried := true, stepAt := t.mono })
      ∧ ((s.agm.vcore + 10 < r ∨ r + 10 < s.agm.vcore) → s.agm.retried = true → ∃ t, exec (.avsStepSettle g r) s = .next t
        ∧ t.agm.avsState = 4 ∧ t.agm.settling = false ∧ bitAt (alarmOf t .agm) 2 = true ∧ t.agm.vcore = s.agm.vcore))
  ∧ (∀ s m, (s.fw.phase ≠ .ready ∨ s.agm.settling = true) → exec (.agmMeasurement m) s = .next s)
  ∧ (∀ s g r, s.agm.settling = false → exec (.avsStepSettle g r) s = .next s)
  ∧ (∀ s, s.fw.phase ≠ .ready → exec .agmDaily s = .next s)
  ∧ (∀ s, s.fw.phase = .ready → ∃ t, exec .agmDaily s = .next t ∧ t.agm.dayAt = (s.agm.dayAt / 24 + 1) * 24
      ∧ t.agm.dayCount = 0 ∧ t.evr.header.days = s.evr.header.days + (if s.agm.dayCount = 0 then 0 else 1)
      ∧ (t.evr.header.days < 30 → t.agm.eomHours = 0xFFFFFFFF)
      ∧ t.mono = max s.mono (s.evr.hoursAt + ((s.agm.dayAt / 24 + 1) * 24 - s.evr.header.hours) * 3600000000000))
  ∧ (∀ h s, accepts { opcode := 0x0C08, classC := true, owner := true } h s = true →
      (s.agm.measuring = true → exec (.agmMeasure h) s = .next (respond s h 0x0C08 .busy 0 []))
      ∧ (s.agm.measuring = false → exec (.agmMeasure h) s
        = .next (respond { s with agm := { s.agm with measuring := true } } h 0x0C08 .ok 0 [])))
  ∧ (∀ h s l u, accepts { opcode := 0x0C06, classC := true, owner := true } h s = true →
      applyChecked agmRec 0 s l = .ok u → u.agm.cfg.vmin ≤ u.agm.cfg.vmax → exec (.agmConfig h l) s
      = .next (respond { u with agm := { u.agm with avsState := avsCode u } } h 0x0C06 .ok 0 []))
  ∧ (∀ h s l i st r, accepts { opcode := 0x0C06, classC := true, owner := true } h s = true →
      applyChecked agmRec 0 s l = .error (i, st, r) → exec (.agmConfig h l) s = .next (respond s h 0x0C06 st r (leBytes 2 i)))
  ∧ (∀ s p v, p.key = 3 → recNum p 40 300 = some v →
      agmRec s p = .ok { s with agm := { s.agm with cfg := { s.agm.cfg with target := v } } })
  ∧ (∀ h s, accepts { opcode := 0x0C07 } h s = true → ∃ p, exec (.agmStatus h) s = .next (respond s h 0x0C07 .ok 0 p)
      ∧ p.length = 304 ∧ leAt p 0 4 = (agmStatusReg s).toNat)

/-- A step runs the command at the front of the queue: For every command c and state s with c at the front of its queue, step of s is exec of c on s with the queue's rest; the model's choice (log 1): on an empty queue a step is one tick of the 1 GHz time domain, which advances time and is a next state. -/
def Obligations.StepTakesTheFrontCommand : Prop :=
  (∀ s c rest, s.pending = c :: rest → step s = exec c { s with pending := rest })
  ∧ (∀ s, s.pending = [] → step s = .next (s.ticks 1))

/-- No step clears a fuse: From every state whatever, for every command that may stand at the front of the queue and for the empty queue: if the step answers a next state, the fuses hold all that they held. The unit ID, the boot key hashes and the safety island fuse are as they were, every revoked boot key is still revoked, and the rollback count is no lower. -/
def Obligations.FusesNeverClear : Prop :=
  ∀ s t, step s = .next t → s.otp.keptIn t.otp

/-- Every command and every step answers a next state and leaves the queue in order: From every state: every command answers a next state, never a fault or a refusal, and leaves the queue as it was; a step answers a next state, and the commands that wait after it are those that waited before it but for the front one, in their order; on an empty queue none waits after it. So a queue of n commands is empty after n steps, whatever they are. The queue is the model's own (log 1). -/
def Obligations.QueueIsTakenInOrder : Prop :=
  (∀ i s, ∃ t, exec i s = .next t ∧ t.pending = s.pending)
  ∧ (∀ s, ∃ t, step s = .next t ∧ t.pending = s.pending.tail)
  ∧ (∀ s : State, ∃ t : State, core.run s.pending.length s = .next t ∧ t.pending = [])

/-- Every step keeps the addressed memories in canonical form: From every state in which the Process Data Store, the recorder's ring and its counter area are in canonical form (addresses strictly rising, no entry equal to what an unlisted one reads as), whatever command stands at the front of the queue: if the step answers a next state, they are in canonical form in it. How an unlisted entry reads is the model's choice (log 2). -/
def Obligations.BuffersStayCanonical : Prop :=
  ∀ s t : State, s.buffersWf = true → step s = .next t → t.buffersWf = true

/-- Reset leaves every status and alarm register at its stated value: At State.reset: TMS_STATUS reads trt_hops 0xFF, upstream none and all else 0; GLOBAL_STATUS, GLOBAL_ERR, GLOBAL_ERR_EN, GLOBAL_ECC_LAST, TMS_REF_STATUS, TMS_SLOT_STAT, CSS_STATUS, FF_STATUS, INE_STATUS, PWC_STATUS, PWC_VAON_WAKE, EVR_STATUS, AGM_STATUS and every ALARM and ALARM_EN register read 0; INH0 is asserted and RSTOUT# is low; nothing waits or has been sent; and the addressed memories are in canonical form (they list nothing: the model's choice, log 2). -/
def Obligations.ResetLeavesTheStatedValues : Prop :=
  readReg State.reset 0x300000 = some 0x00FFF000
  ∧ (∀ off ∈ [0x0C, 0x14, 0x18, 0x4C, 0x300004, 0x300008, 0x300040, 0x340000, 0x340004, 0x340008, 0x200000, 0x200004,
      0x200008, 0x380000, 0x380004, 0x380008, 0x480000, 0x480004, 0x480008, 0x480100, 0x440000, 0x440004, 0x440008,
      0x441000, 0x441004, 0x441008], readReg State.reset off = some 0)
  ∧ (∀ k, k < 8 → readReg State.reset (0x300100 + k * 0x40 + 0x30) = some 0)
  ∧ State.reset.pwc.inh = 1 ∧ State.reset.pwc.rstoutLow = true
  ∧ State.reset.pending = [] ∧ State.reset.wire = [] ∧ State.reset.buffersWf = true
end

