-- ==== Sys2Proof/Laws/Frames.lean ====
section
/-! SUPPORT. What the shared operations leave as it was: for each operation one lemma that names the blocks, and the fields
of the blocks it touches, which it does not change. -/

namespace Sys2Proof.Machine

@[simp] theorem putAlarm_frame (s : State) (r : AlarmReg) (v : Word) :
    (putAlarm s r v).glob.fwReady = s.glob.fwReady ∧ (putAlarm s r v).glob.degraded = s.glob.degraded
    ∧ (putAlarm s r v).glob.refAlarm = s.glob.refAlarm ∧ (putAlarm s r v).glob.recovery = s.glob.recovery
    ∧ (putAlarm s r v).glob.slaFault = s.glob.slaFault ∧ (putAlarm s r v).glob.poison = s.glob.poison
    ∧ (putAlarm s r v).glob.errEn = s.glob.errEn ∧ (putAlarm s r v).otp = s.otp ∧ (putAlarm s r v).fw = s.fw
    ∧ (putAlarm s r v).tms.tsValid = s.tms.tsValid ∧ (putAlarm s r v).tms.trt = s.tms.trt
    ∧ (putAlarm s r v).tms.wyt = s.tms.wyt ∧ (putAlarm s r v).tms.trtDrift = s.tms.trtDrift
    ∧ (putAlarm s r v).tms.wytDrift = s.tms.wytDrift ∧ (putAlarm s r v).tms.trtState = s.tms.trtState
    ∧ (putAlarm s r v).tms.trtEpoch = s.tms.trtEpoch ∧ (putAlarm s r v).tms.hops = s.tms.hops
    ∧ (putAlarm s r v).tms.upstream = s.tms.upstream ∧ (putAlarm s r v).tms.leaderId = s.tms.leaderId
    ∧ (putAlarm s r v).tms.domainEpoch = s.tms.domainEpoch ∧ (putAlarm s r v).tms.wytState = s.tms.wytState
    ∧ (putAlarm s r v).tms.wytDom = s.tms.wytDom ∧ (putAlarm s r v).tms.domains = s.tms.domains
    ∧ (putAlarm s r v).tms.links = s.tms.links ∧ (putAlarm s r v).tms.cfg = s.tms.cfg
    ∧ (putAlarm s r v).tms.cfgNext = s.tms.cfgNext ∧ (putAlarm s r v).tms.refSource = s.tms.refSource
    ∧ (putAlarm s r v).tms.xinFault = s.tms.xinFault ∧ (putAlarm s r v).tms.refGood = s.tms.refGood
    ∧ (putAlarm s r v).tms.trtHoldSince = s.tms.trtHoldSince ∧ (putAlarm s r v).tms.wytHoldSince = s.tms.wytHoldSince
    ∧ (putAlarm s r v).tms.ppsFallAt = s.tms.ppsFallAt ∧ (putAlarm s r v).tms.manualTrt = s.tms.manualTrt
    ∧ (putAlarm s r v).tms.manualWyt = s.tms.manualWyt ∧ (putAlarm s r v).tms.mergeStep = s.tms.mergeStep
    ∧ (putAlarm s r v).tms.aligned = s.tms.aligned ∧ (putAlarm s r v).css.state = s.css.state
    ∧ (putAlarm s r v).css.stopReason = s.css.stopReason ∧ (putAlarm s r v).css.image = s.css.image
    ∧ (putAlarm s r v).css.slots = s.css.slots ∧ (putAlarm s r v).css.windows = s.css.windows
    ∧ (putAlarm s r v).css.gates = s.css.gates ∧ (putAlarm s r v).css.pan = s.css.pan
    ∧ (putAlarm s r v).css.panStart = s.css.panStart ∧ (putAlarm s r v).css.origin = s.css.origin
    ∧ (putAlarm s r v).css.leader = s.css.leader ∧ (putAlarm s r v).css.slotsRun = s.css.slotsRun
    ∧ (putAlarm s r v).css.stopPan = s.css.stopPan ∧ (putAlarm s r v).css.followed = s.css.followed
    ∧ (putAlarm s r v).css.capable = s.css.capable ∧ (putAlarm s r v).css.leaderless = s.css.leaderless
    ∧ (putAlarm s r v).css.guardEff = s.css.guardEff ∧ (putAlarm s r v).css.guardCfg = s.css.guardCfg
    ∧ (putAlarm s r v).css.localStop = s.css.localStop ∧ (putAlarm s r v).css.fits = s.css.fits
    ∧ (putAlarm s r v).css.loads = s.css.loads ∧ (putAlarm s r v).tau = s.tau ∧ (putAlarm s r v).fab.held = s.fab.held
    ∧ (putAlarm s r v).fab.queues = s.fab.queues ∧ (putAlarm s r v).fab.streams = s.fab.streams
    ∧ (putAlarm s r v).fab.lanes = s.fab.lanes ∧ (putAlarm s r v).fab.fdb = s.fab.fdb
    ∧ (putAlarm s r v).fab.vlans = s.fab.vlans ∧ (putAlarm s r v).fab.portUsed = s.fab.portUsed
    ∧ (putAlarm s r v).fab.cls = s.fab.cls ∧ (putAlarm s r v).fab.sluices = s.fab.sluices
    ∧ (putAlarm s r v).fab.recovery = s.fab.recovery ∧ (putAlarm s r v).fab.prp = s.fab.prp
    ∧ (putAlarm s r v).adm = s.adm ∧ (putAlarm s r v).ports = s.ports ∧ (putAlarm s r v).ine.state = s.ine.state
    ∧ (putAlarm s r v).ine.mode = s.ine.mode ∧ (putAlarm s r v).ine.topo = s.ine.topo
    ∧ (putAlarm s r v).ine.ident = s.ine.ident ∧ (putAlarm s r v).ine.nodes = s.ine.nodes
    ∧ (putAlarm s r v).ine.position = s.ine.position ∧ (putAlarm s r v).ine.car = s.ine.car
    ∧ (putAlarm s r v).ine.twin = s.ine.twin ∧ (putAlarm s r v).ine.run = s.ine.run
    ∧ (putAlarm s r v).ine.inhibited = s.ine.inhibited ∧ (putAlarm s r v).ine.lead = s.ine.lead
    ∧ (putAlarm s r v).ine.statics = s.ine.statics ∧ (putAlarm s r v).ine.result = s.ine.result
    ∧ (putAlarm s r v).lgb = s.lgb ∧ (putAlarm s r v).far = s.far ∧ (putAlarm s r v).isl = s.isl
    ∧ (putAlarm s r v).host = s.host ∧ (putAlarm s r v).pwc.phase = s.pwc.phase
    ∧ (putAlarm s r v).pwc.state = s.pwc.state ∧ (putAlarm s r v).pwc.permitted = s.pwc.permitted
    ∧ (putAlarm s r v).pwc.cfg = s.pwc.cfg ∧ (putAlarm s r v).pwc.keepers = s.pwc.keepers
    ∧ (putAlarm s r v).pwc.sleep = s.pwc.sleep ∧ (putAlarm s r v).pwc.limiter = s.pwc.limiter
    ∧ (putAlarm s r v).pwc.inh = s.pwc.inh ∧ (putAlarm s r v).pwc.timer = s.pwc.timer
    ∧ (putAlarm s r v).pwc.wakeOut = s.pwc.wakeOut ∧ (putAlarm s r v).pwc.entry = s.pwc.entry
    ∧ (putAlarm s r v).pwc.attempts = s.pwc.attempts ∧ (putAlarm s r v).pwc.pgs = s.pwc.pgs
    ∧ (putAlarm s r v).pwc.heldWake = s.pwc.heldWake ∧ (putAlarm s r v).pwc.armed = s.pwc.armed
    ∧ (putAlarm s r v).pwc.rstoutLow = s.pwc.rstoutLow ∧ (putAlarm s r v).pwc.graceOn = s.pwc.graceOn
    ∧ (putAlarm s r v).pwc.lastKa = s.pwc.lastKa ∧ (putAlarm s r v).pwc.wakeSw = s.pwc.wakeSw
    ∧ (putAlarm s r v).pwc.pfail = s.pwc.pfail ∧ (putAlarm s r v).evr.ready = s.evr.ready
    ∧ (putAlarm s r v).evr.header = s.evr.header ∧ (putAlarm s r v).evr.next = s.evr.next
    ∧ (putAlarm s r v).evr.staging = s.evr.staging ∧ (putAlarm s r v).evr.mem = s.evr.mem
    ∧ (putAlarm s r v).evr.area = s.evr.area ∧ (putAlarm s r v).evr.counterWrites = s.evr.counterWrites
    ∧ (putAlarm s r v).evr.memFault = s.evr.memFault ∧ (putAlarm s r v).evr.unformatted = s.evr.unformatted
    ∧ (putAlarm s r v).evr.foreign = s.evr.foreign ∧ (putAlarm s r v).evr.buckets = s.evr.buckets
    ∧ (putAlarm s r v).evr.flushing = s.evr.flushing ∧ (putAlarm s r v).evr.pfailDone = s.evr.pfailDone
    ∧ (putAlarm s r v).evr.nonce = s.evr.nonce ∧ (putAlarm s r v).agm.cfg = s.agm.cfg
    ∧ (putAlarm s r v).agm.margin = s.agm.margin ∧ (putAlarm s r v).agm.avsState = s.agm.avsState
    ∧ (putAlarm s r v).agm.guardAdd = s.agm.guardAdd ∧ (putAlarm s r v).agm.settling = s.agm.settling
    ∧ (putAlarm s r v).agm.measuring = s.agm.measuring ∧ (putAlarm s r v).agm.replicas = s.agm.replicas
    ∧ (putAlarm s r v).agm.dayCount = s.agm.dayCount ∧ (putAlarm s r v).wire = s.wire ∧ (putAlarm s r v).mono = s.mono
    ∧ (putAlarm s r v).monoFrac = s.monoFrac ∧ (putAlarm s r v).draws = s.draws ∧ (putAlarm s r v).pending = s.pending := by
  cases r <;> simp [putAlarm]

@[simp] theorem putAlarmEn_frame (s : State) (r : AlarmReg) (v : Word) :
    (putAlarmEn s r v).glob.fwReady = s.glob.fwReady ∧ (putAlarmEn s r v).glob.degraded = s.glob.degraded
    ∧ (putAlarmEn s r v).glob.refAlarm = s.glob.refAlarm ∧ (putAlarmEn s r v).glob.recovery = s.glob.recovery
    ∧ (putAlarmEn s r v).glob.slaFault = s.glob.slaFault ∧ (putAlarmEn s r v).glob.poison = s.glob.poison
    ∧ (putAlarmEn s r v).otp = s.otp ∧ (putAlarmEn s r v).fw = s.fw ∧ (putAlarmEn s r v).tms.tsValid = s.tms.tsValid
    ∧ (putAlarmEn s r v).tms.trt = s.tms.trt ∧ (putAlarmEn s r v).tms.wyt = s.tms.wyt
    ∧ (putAlarmEn s r v).tms.trtDrift = s.tms.trtDrift ∧ (putAlarmEn s r v).tms.wytDrift = s.tms.wytDrift
    ∧ (putAlarmEn s r v).tms.trtState = s.tms.trtState ∧ (putAlarmEn s r v).tms.trtEpoch = s.tms.trtEpoch
    ∧ (putAlarmEn s r v).tms.hops = s.tms.hops ∧ (putAlarmEn s r v).tms.upstream = s.tms.upstream
    ∧ (putAlarmEn s r v).tms.leaderId = s.tms.leaderId ∧ (putAlarmEn s r v).tms.domainEpoch = s.tms.domainEpoch
    ∧ (putAlarmEn s r v).tms.wytState = s.tms.wytState ∧ (putAlarmEn s r v).tms.wytDom = s.tms.wytDom
    ∧ (putAlarmEn s r v).tms.domains = s.tms.domains ∧ (putAlarmEn s r v).tms.links = s.tms.links
    ∧ (putAlarmEn s r v).tms.cfg = s.tms.cfg ∧ (putAlarmEn s r v).tms.cfgNext = s.tms.cfgNext
    ∧ (putAlarmEn s r v).tms.refSource = s.tms.refSource ∧ (putAlarmEn s r v).tms.xinFault = s.tms.xinFault
    ∧ (putAlarmEn s r v).tms.refGood = s.tms.refGood ∧ (putAlarmEn s r v).tms.trtHoldSince = s.tms.trtHoldSince
    ∧ (putAlarmEn s r v).tms.wytHoldSince = s.tms.wytHoldSince ∧ (putAlarmEn s r v).tms.ppsFallAt = s.tms.ppsFallAt
    ∧ (putAlarmEn s r v).tms.manualTrt = s.tms.manualTrt ∧ (putAlarmEn s r v).tms.manualWyt = s.tms.manualWyt
    ∧ (putAlarmEn s r v).tms.mergeStep = s.tms.mergeStep ∧ (putAlarmEn s r v).tms.aligned = s.tms.aligned
    ∧ (putAlarmEn s r v).css.state = s.css.state ∧ (putAlarmEn s r v).css.stopReason = s.css.stopReason
    ∧ (putAlarmEn s r v).css.image = s.css.image ∧ (putAlarmEn s r v).css.slots = s.css.slots
    ∧ (putAlarmEn s r v).css.windows = s.css.windows ∧ (putAlarmEn s r v).css.gates = s.css.gates
    ∧ (putAlarmEn s r v).css.pan = s.css.pan ∧ (putAlarmEn s r v).css.panStart = s.css.panStart
    ∧ (putAlarmEn s r v).css.origin = s.css.origin ∧ (putAlarmEn s r v).css.leader = s.css.leader
    ∧ (putAlarmEn s r v).css.slotsRun = s.css.slotsRun ∧ (putAlarmEn s r v).css.stopPan = s.css.stopPan
    ∧ (putAlarmEn s r v).css.followed = s.css.followed ∧ (putAlarmEn s r v).css.capable = s.css.capable
    ∧ (putAlarmEn s r v).css.leaderless = s.css.leaderless ∧ (putAlarmEn s r v).css.guardEff = s.css.guardEff
    ∧ (putAlarmEn s r v).css.guardCfg = s.css.guardCfg ∧ (putAlarmEn s r v).css.localStop = s.css.localStop
    ∧ (putAlarmEn s r v).css.fits = s.css.fits ∧ (putAlarmEn s r v).css.loads = s.css.loads
    ∧ (putAlarmEn s r v).tau = s.tau ∧ (putAlarmEn s r v).fab.held = s.fab.held
    ∧ (putAlarmEn s r v).fab.queues = s.fab.queues ∧ (putAlarmEn s r v).fab.streams = s.fab.streams
    ∧ (putAlarmEn s r v).fab.lanes = s.fab.lanes ∧ (putAlarmEn s r v).fab.fdb = s.fab.fdb
    ∧ (putAlarmEn s r v).fab.vlans = s.fab.vlans ∧ (putAlarmEn s r v).fab.portUsed = s.fab.portUsed
    ∧ (putAlarmEn s r v).fab.cls = s.fab.cls ∧ (putAlarmEn s r v).fab.sluices = s.fab.sluices
    ∧ (putAlarmEn s r v).fab.recovery = s.fab.recovery ∧ (putAlarmEn s r v).fab.prp = s.fab.prp
    ∧ (putAlarmEn s r v).adm = s.adm ∧ (putAlarmEn s r v).ports = s.ports ∧ (putAlarmEn s r v).ine.state = s.ine.state
    ∧ (putAlarmEn s r v).ine.mode = s.ine.mode ∧ (putAlarmEn s r v).ine.topo = s.ine.topo
    ∧ (putAlarmEn s r v).ine.ident = s.ine.ident ∧ (putAlarmEn s r v).ine.nodes = s.ine.nodes
    ∧ (putAlarmEn s r v).ine.position = s.ine.position ∧ (putAlarmEn s r v).ine.car = s.ine.car
    ∧ (putAlarmEn s r v).ine.twin = s.ine.twin ∧ (putAlarmEn s r v).ine.run = s.ine.run
    ∧ (putAlarmEn s r v).ine.inhibited = s.ine.inhibited ∧ (putAlarmEn s r v).ine.lead = s.ine.lead
    ∧ (putAlarmEn s r v).ine.statics = s.ine.statics ∧ (putAlarmEn s r v).ine.result = s.ine.result
    ∧ (putAlarmEn s r v).lgb = s.lgb ∧ (putAlarmEn s r v).far = s.far ∧ (putAlarmEn s r v).isl = s.isl
    ∧ (putAlarmEn s r v).host = s.host ∧ (putAlarmEn s r v).pwc.phase = s.pwc.phase
    ∧ (putAlarmEn s r v).pwc.state = s.pwc.state ∧ (putAlarmEn s r v).pwc.permitted = s.pwc.permitted
    ∧ (putAlarmEn s r v).pwc.cfg = s.pwc.cfg ∧ (putAlarmEn s r v).pwc.keepers = s.pwc.keepers
    ∧ (putAlarmEn s r v).pwc.sleep = s.pwc.sleep ∧ (putAlarmEn s r v).pwc.limiter = s.pwc.limiter
    ∧ (putAlarmEn s r v).pwc.inh = s.pwc.inh ∧ (putAlarmEn s r v).pwc.timer = s.pwc.timer
    ∧ (putAlarmEn s r v).pwc.wakeOut = s.pwc.wakeOut ∧ (putAlarmEn s r v).pwc.entry = s.pwc.entry
    ∧ (putAlarmEn s r v).pwc.attempts = s.pwc.attempts ∧ (putAlarmEn s r v).pwc.pgs = s.pwc.pgs
    ∧ (putAlarmEn s r v).pwc.heldWake = s.pwc.heldWake ∧ (putAlarmEn s r v).pwc.armed = s.pwc.armed
    ∧ (putAlarmEn s r v).pwc.rstoutLow = s.pwc.rstoutLow ∧ (putAlarmEn s r v).pwc.graceOn = s.pwc.graceOn
    ∧ (putAlarmEn s r v).pwc.lastKa = s.pwc.lastKa ∧ (putAlarmEn s r v).pwc.wakeSw = s.pwc.wakeSw
    ∧ (putAlarmEn s r v).pwc.pfail = s.pwc.pfail ∧ (putAlarmEn s r v).evr.ready = s.evr.ready
    ∧ (putAlarmEn s r v).evr.header = s.evr.header ∧ (putAlarmEn s r v).evr.next = s.evr.next
    ∧ (putAlarmEn s r v).evr.staging = s.evr.staging ∧ (putAlarmEn s r v).evr.mem = s.evr.mem
    ∧ (putAlarmEn s r v).evr.area = s.evr.area ∧ (putAlarmEn s r v).evr.counterWrites = s.evr.counterWrites
    ∧ (putAlarmEn s r v).evr.memFault = s.evr.memFault ∧ (putAlarmEn s r v).evr.unformatted = s.evr.unformatted
    ∧ (putAlarmEn s r v).evr.foreign = s.evr.foreign ∧ (putAlarmEn s r v).evr.buckets = s.evr.buckets
    ∧ (putAlarmEn s r v).evr.flushing = s.evr.flushing ∧ (putAlarmEn s r v).evr.pfailDone = s.evr.pfailDone
    ∧ (putAlarmEn s r v).evr.nonce = s.evr.nonce ∧ (putAlarmEn s r v).agm.cfg = s.agm.cfg
    ∧ (putAlarmEn s r v).agm.margin = s.agm.margin ∧ (putAlarmEn s r v).agm.avsState = s.agm.avsState
    ∧ (putAlarmEn s r v).agm.guardAdd = s.agm.guardAdd ∧ (putAlarmEn s r v).agm.settling = s.agm.settling
    ∧ (putAlarmEn s r v).agm.measuring = s.agm.measuring ∧ (putAlarmEn s r v).agm.replicas = s.agm.replicas
    ∧ (putAlarmEn s r v).agm.dayCount = s.agm.dayCount ∧ (putAlarmEn s r v).wire = s.wire
    ∧ (putAlarmEn s r v).mono = s.mono ∧ (putAlarmEn s r v).monoFrac = s.monoFrac ∧ (putAlarmEn s r v).draws = s.draws
    ∧ (putAlarmEn s r v).pending = s.pending := by
  cases r <;> simp [putAlarmEn]

@[simp] theorem msixRaise_frame (s : State) (v : Nat) :
    (msixRaise s v).glob = s.glob ∧ (msixRaise s v).otp = s.otp ∧ (msixRaise s v).fw = s.fw
    ∧ (msixRaise s v).tms = s.tms ∧ (msixRaise s v).css = s.css ∧ (msixRaise s v).tau = s.tau
    ∧ (msixRaise s v).fab = s.fab ∧ (msixRaise s v).adm = s.adm ∧ (msixRaise s v).ports = s.ports
    ∧ (msixRaise s v).ine = s.ine ∧ (msixRaise s v).lgb = s.lgb ∧ (msixRaise s v).far = s.far
    ∧ (msixRaise s v).isl = s.isl ∧ (msixRaise s v).host.tenants = s.host.tenants
    ∧ (msixRaise s v).host.steering = s.host.steering ∧ (msixRaise s v).host.msix = s.host.msix
    ∧ (msixRaise s v).host.served = s.host.served ∧ (msixRaise s v).host.counterOk = s.host.counterOk
    ∧ (msixRaise s v).host.spiUsed = s.host.spiUsed ∧ (msixRaise s v).pwc = s.pwc ∧ (msixRaise s v).evr = s.evr
    ∧ (msixRaise s v).agm = s.agm ∧ (msixRaise s v).wire = s.wire ∧ (msixRaise s v).mono = s.mono
    ∧ (msixRaise s v).monoFrac = s.monoFrac ∧ (msixRaise s v).draws = s.draws ∧ (msixRaise s v).pending = s.pending := by
  and_intros <;> (unfold msixRaise; (try dsimp only); (repeat' split) <;> simp)

@[simp] theorem setAlarm_frame (s : State) (r : AlarmReg) (b : Nat) :
    (setAlarm s r b).glob.fwReady = s.glob.fwReady ∧ (setAlarm s r b).glob.degraded = s.glob.degraded
    ∧ (setAlarm s r b).glob.refAlarm = s.glob.refAlarm ∧ (setAlarm s r b).glob.recovery = s.glob.recovery
    ∧ (setAlarm s r b).glob.slaFault = s.glob.slaFault ∧ (setAlarm s r b).glob.poison = s.glob.poison
    ∧ (setAlarm s r b).glob.errEn = s.glob.errEn ∧ (setAlarm s r b).otp = s.otp ∧ (setAlarm s r b).fw = s.fw
    ∧ (setAlarm s r b).tms.tsValid = s.tms.tsValid ∧ (setAlarm s r b).tms.trt = s.tms.trt
    ∧ (setAlarm s r b).tms.wyt = s.tms.wyt ∧ (setAlarm s r b).tms.trtDrift = s.tms.trtDrift
    ∧ (setAlarm s r b).tms.wytDrift = s.tms.wytDrift ∧ (setAlarm s r b).tms.trtState = s.tms.trtState
    ∧ (setAlarm s r b).tms.trtEpoch = s.tms.trtEpoch ∧ (setAlarm s r b).tms.hops = s.tms.hops
    ∧ (setAlarm s r b).tms.upstream = s.tms.upstream ∧ (setAlarm s r b).tms.leaderId = s.tms.leaderId
    ∧ (setAlarm s r b).tms.domainEpoch = s.tms.domainEpoch ∧ (setAlarm s r b).tms.wytState = s.tms.wytState
    ∧ (setAlarm s r b).tms.wytDom = s.tms.wytDom ∧ (setAlarm s r b).tms.domains = s.tms.domains
    ∧ (setAlarm s r b).tms.links = s.tms.links ∧ (setAlarm s r b).tms.cfg = s.tms.cfg
    ∧ (setAlarm s r b).tms.cfgNext = s.tms.cfgNext ∧ (setAlarm s r b).tms.refSource = s.tms.refSource
    ∧ (setAlarm s r b).tms.xinFault = s.tms.xinFault ∧ (setAlarm s r b).tms.refGood = s.tms.refGood
    ∧ (setAlarm s r b).tms.trtHoldSince = s.tms.trtHoldSince ∧ (setAlarm s r b).tms.wytHoldSince = s.tms.wytHoldSince
    ∧ (setAlarm s r b).tms.ppsFallAt = s.tms.ppsFallAt ∧ (setAlarm s r b).tms.manualTrt = s.tms.manualTrt
    ∧ (setAlarm s r b).tms.manualWyt = s.tms.manualWyt ∧ (setAlarm s r b).tms.mergeStep = s.tms.mergeStep
    ∧ (setAlarm s r b).tms.aligned = s.tms.aligned ∧ (setAlarm s r b).css.state = s.css.state
    ∧ (setAlarm s r b).css.stopReason = s.css.stopReason ∧ (setAlarm s r b).css.image = s.css.image
    ∧ (setAlarm s r b).css.slots = s.css.slots ∧ (setAlarm s r b).css.windows = s.css.windows
    ∧ (setAlarm s r b).css.gates = s.css.gates ∧ (setAlarm s r b).css.pan = s.css.pan
    ∧ (setAlarm s r b).css.panStart = s.css.panStart ∧ (setAlarm s r b).css.origin = s.css.origin
    ∧ (setAlarm s r b).css.leader = s.css.leader ∧ (setAlarm s r b).css.slotsRun = s.css.slotsRun
    ∧ (setAlarm s r b).css.stopPan = s.css.stopPan ∧ (setAlarm s r b).css.followed = s.css.followed
    ∧ (setAlarm s r b).css.capable = s.css.capable ∧ (setAlarm s r b).css.leaderless = s.css.leaderless
    ∧ (setAlarm s r b).css.guardEff = s.css.guardEff ∧ (setAlarm s r b).css.guardCfg = s.css.guardCfg
    ∧ (setAlarm s r b).css.localStop = s.css.localStop ∧ (setAlarm s r b).css.fits = s.css.fits
    ∧ (setAlarm s r b).css.loads = s.css.loads ∧ (setAlarm s r b).tau = s.tau ∧ (setAlarm s r b).fab.held = s.fab.held
    ∧ (setAlarm s r b).fab.queues = s.fab.queues ∧ (setAlarm s r b).fab.streams = s.fab.streams
    ∧ (setAlarm s r b).fab.lanes = s.fab.lanes ∧ (setAlarm s r b).fab.fdb = s.fab.fdb
    ∧ (setAlarm s r b).fab.vlans = s.fab.vlans ∧ (setAlarm s r b).fab.portUsed = s.fab.portUsed
    ∧ (setAlarm s r b).fab.cls = s.fab.cls ∧ (setAlarm s r b).fab.sluices = s.fab.sluices
    ∧ (setAlarm s r b).fab.recovery = s.fab.recovery ∧ (setAlarm s r b).fab.prp = s.fab.prp
    ∧ (setAlarm s r b).adm = s.adm ∧ (setAlarm s r b).ports = s.ports ∧ (setAlarm s r b).ine.state = s.ine.state
    ∧ (setAlarm s r b).ine.mode = s.ine.mode ∧ (setAlarm s r b).ine.topo = s.ine.topo
    ∧ (setAlarm s r b).ine.ident = s.ine.ident ∧ (setAlarm s r b).ine.nodes = s.ine.nodes
    ∧ (setAlarm s r b).ine.position = s.ine.position ∧ (setAlarm s r b).ine.car = s.ine.car
    ∧ (setAlarm s r b).ine.twin = s.ine.twin ∧ (setAlarm s r b).ine.run = s.ine.run
    ∧ (setAlarm s r b).ine.inhibited = s.ine.inhibited ∧ (setAlarm s r b).ine.lead = s.ine.lead
    ∧ (setAlarm s r b).ine.statics = s.ine.statics ∧ (setAlarm s r b).ine.result = s.ine.result
    ∧ (setAlarm s r b).lgb = s.lgb ∧ (setAlarm s r b).far = s.far ∧ (setAlarm s r b).isl = s.isl
    ∧ (setAlarm s r b).host.tenants = s.host.tenants ∧ (setAlarm s r b).host.steering = s.host.steering
    ∧ (setAlarm s r b).host.msix = s.host.msix ∧ (setAlarm s r b).host.served = s.host.served
    ∧ (setAlarm s r b).host.counterOk = s.host.counterOk ∧ (setAlarm s r b).host.spiUsed = s.host.spiUsed
    ∧ (setAlarm s r b).pwc.phase = s.pwc.phase ∧ (setAlarm s r b).pwc.state = s.pwc.state
    ∧ (setAlarm s r b).pwc.permitted = s.pwc.permitted ∧ (setAlarm s r b).pwc.cfg = s.pwc.cfg
    ∧ (setAlarm s r b).pwc.keepers = s.pwc.keepers ∧ (setAlarm s r b).pwc.sleep = s.pwc.sleep
    ∧ (setAlarm s r b).pwc.limiter = s.pwc.limiter ∧ (setAlarm s r b).pwc.inh = s.pwc.inh
    ∧ (setAlarm s r b).pwc.timer = s.pwc.timer ∧ (setAlarm s r b).pwc.wakeOut = s.pwc.wakeOut
    ∧ (setAlarm s r b).pwc.entry = s.pwc.entry ∧ (setAlarm s r b).pwc.attempts = s.pwc.attempts
    ∧ (setAlarm s r b).pwc.pgs = s.pwc.pgs ∧ (setAlarm s r b).pwc.heldWake = s.pwc.heldWake
    ∧ (setAlarm s r b).pwc.armed = s.pwc.armed ∧ (setAlarm s r b).pwc.rstoutLow = s.pwc.rstoutLow
    ∧ (setAlarm s r b).pwc.graceOn = s.pwc.graceOn ∧ (setAlarm s r b).pwc.lastKa = s.pwc.lastKa
    ∧ (setAlarm s r b).pwc.wakeSw = s.pwc.wakeSw ∧ (setAlarm s r b).pwc.pfail = s.pwc.pfail
    ∧ (setAlarm s r b).evr.ready = s.evr.ready ∧ (setAlarm s r b).evr.header = s.evr.header
    ∧ (setAlarm s r b).evr.next = s.evr.next ∧ (setAlarm s r b).evr.staging = s.evr.staging
    ∧ (setAlarm s r b).evr.mem = s.evr.mem ∧ (setAlarm s r b).evr.area = s.evr.area
    ∧ (setAlarm s r b).evr.counterWrites = s.evr.counterWrites ∧ (setAlarm s r b).evr.memFault = s.evr.memFault
    ∧ (setAlarm s r b).evr.unformatted = s.evr.unformatted ∧ (setAlarm s r b).evr.foreign = s.evr.foreign
    ∧ (setAlarm s r b).evr.buckets = s.evr.buckets ∧ (setAlarm s r b).evr.flushing = s.evr.flushing
    ∧ (setAlarm s r b).evr.pfailDone = s.evr.pfailDone ∧ (setAlarm s r b).evr.nonce = s.evr.nonce
    ∧ (setAlarm s r b).agm.cfg = s.agm.cfg ∧ (setAlarm s r b).agm.margin = s.agm.margin
    ∧ (setAlarm s r b).agm.avsState = s.agm.avsState ∧ (setAlarm s r b).agm.guardAdd = s.agm.guardAdd
    ∧ (setAlarm s r b).agm.settling = s.agm.settling ∧ (setAlarm s r b).agm.measuring = s.agm.measuring
    ∧ (setAlarm s r b).agm.replicas = s.agm.replicas ∧ (setAlarm s r b).agm.dayCount = s.agm.dayCount
    ∧ (setAlarm s r b).wire = s.wire ∧ (setAlarm s r b).mono = s.mono ∧ (setAlarm s r b).monoFrac = s.monoFrac
    ∧ (setAlarm s r b).draws = s.draws ∧ (setAlarm s r b).pending = s.pending := by
  and_intros <;> (unfold setAlarm; (try dsimp only); (repeat' split) <;> simp)

@[simp] theorem setAlarmIf_frame (s : State) (c : Bool) (r : AlarmReg) (b : Nat) :
    (setAlarmIf s c r b).glob.fwReady = s.glob.fwReady ∧ (setAlarmIf s c r b).glob.degraded = s.glob.degraded
    ∧ (setAlarmIf s c r b).glob.refAlarm = s.glob.refAlarm ∧ (setAlarmIf s c r b).glob.recovery = s.glob.recovery
    ∧ (setAlarmIf s c r b).glob.slaFault = s.glob.slaFault ∧ (setAlarmIf s c r b).glob.poison = s.glob.poison
    ∧ (setAlarmIf s c r b).glob.errEn = s.glob.errEn ∧ (setAlarmIf s c r b).otp = s.otp
    ∧ (setAlarmIf s c r b).fw = s.fw ∧ (setAlarmIf s c r b).tms.tsValid = s.tms.tsValid
    ∧ (setAlarmIf s c r b).tms.trt = s.tms.trt ∧ (setAlarmIf s c r b).tms.wyt = s.tms.wyt
    ∧ (setAlarmIf s c r b).tms.trtDrift = s.tms.trtDrift ∧ (setAlarmIf s c r b).tms.wytDrift = s.tms.wytDrift
    ∧ (setAlarmIf s c r b).tms.trtState = s.tms.trtState ∧ (setAlarmIf s c r b).tms.trtEpoch = s.tms.trtEpoch
    ∧ (setAlarmIf s c r b).tms.hops = s.tms.hops ∧ (setAlarmIf s c r b).tms.upstream = s.tms.upstream
    ∧ (setAlarmIf s c r b).tms.leaderId = s.tms.leaderId ∧ (setAlarmIf s c r b).tms.domainEpoch = s.tms.domainEpoch
    ∧ (setAlarmIf s c r b).tms.wytState = s.tms.wytState ∧ (setAlarmIf s c r b).tms.wytDom = s.tms.wytDom
    ∧ (setAlarmIf s c r b).tms.domains = s.tms.domains ∧ (setAlarmIf s c r b).tms.links = s.tms.links
    ∧ (setAlarmIf s c r b).tms.cfg = s.tms.cfg ∧ (setAlarmIf s c r b).tms.cfgNext = s.tms.cfgNext
    ∧ (setAlarmIf s c r b).tms.refSource = s.tms.refSource ∧ (setAlarmIf s c r b).tms.xinFault = s.tms.xinFault
    ∧ (setAlarmIf s c r b).tms.refGood = s.tms.refGood ∧ (setAlarmIf s c r b).tms.trtHoldSince = s.tms.trtHoldSince
    ∧ (setAlarmIf s c r b).tms.wytHoldSince = s.tms.wytHoldSince
    ∧ (setAlarmIf s c r b).tms.ppsFallAt = s.tms.ppsFallAt ∧ (setAlarmIf s c r b).tms.manualTrt = s.tms.manualTrt
    ∧ (setAlarmIf s c r b).tms.manualWyt = s.tms.manualWyt ∧ (setAlarmIf s c r b).tms.mergeStep = s.tms.mergeStep
    ∧ (setAlarmIf s c r b).tms.aligned = s.tms.aligned ∧ (setAlarmIf s c r b).css.state = s.css.state
    ∧ (setAlarmIf s c r b).css.stopReason = s.css.stopReason ∧ (setAlarmIf s c r b).css.image = s.css.image
    ∧ (setAlarmIf s c r b).css.slots = s.css.slots ∧ (setAlarmIf s c r b).css.windows = s.css.windows
    ∧ (setAlarmIf s c r b).css.gates = s.css.gates ∧ (setAlarmIf s c r b).css.pan = s.css.pan
    ∧ (setAlarmIf s c r b).css.panStart = s.css.panStart ∧ (setAlarmIf s c r b).css.origin = s.css.origin
    ∧ (setAlarmIf s c r b).css.leader = s.css.leader ∧ (setAlarmIf s c r b).css.slotsRun = s.css.slotsRun
    ∧ (setAlarmIf s c r b).css.stopPan = s.css.stopPan ∧ (setAlarmIf s c r b).css.followed = s.css.followed
    ∧ (setAlarmIf s c r b).css.capable = s.css.capable ∧ (setAlarmIf s c r b).css.leaderless = s.css.leaderless
    ∧ (setAlarmIf s c r b).css.guardEff = s.css.guardEff ∧ (setAlarmIf s c r b).css.guardCfg = s.css.guardCfg
    ∧ (setAlarmIf s c r b).css.localStop = s.css.localStop ∧ (setAlarmIf s c r b).css.fits = s.css.fits
    ∧ (setAlarmIf s c r b).css.loads = s.css.loads ∧ (setAlarmIf s c r b).tau = s.tau
    ∧ (setAlarmIf s c r b).fab.held = s.fab.held ∧ (setAlarmIf s c r b).fab.queues = s.fab.queues
    ∧ (setAlarmIf s c r b).fab.streams = s.fab.streams ∧ (setAlarmIf s c r b).fab.lanes = s.fab.lanes
    ∧ (setAlarmIf s c r b).fab.fdb = s.fab.fdb ∧ (setAlarmIf s c r b).fab.vlans = s.fab.vlans
    ∧ (setAlarmIf s c r b).fab.portUsed = s.fab.portUsed ∧ (setAlarmIf s c r b).fab.cls = s.fab.cls
    ∧ (setAlarmIf s c r b).fab.sluices = s.fab.sluices ∧ (setAlarmIf s c r b).fab.recovery = s.fab.recovery
    ∧ (setAlarmIf s c r b).fab.prp = s.fab.prp ∧ (setAlarmIf s c r b).adm = s.adm
    ∧ (setAlarmIf s c r b).ports = s.ports ∧ (setAlarmIf s c r b).ine.state = s.ine.state
    ∧ (setAlarmIf s c r b).ine.mode = s.ine.mode ∧ (setAlarmIf s c r b).ine.topo = s.ine.topo
    ∧ (setAlarmIf s c r b).ine.ident = s.ine.ident ∧ (setAlarmIf s c r b).ine.nodes = s.ine.nodes
    ∧ (setAlarmIf s c r b).ine.position = s.ine.position ∧ (setAlarmIf s c r b).ine.car = s.ine.car
    ∧ (setAlarmIf s c r b).ine.twin = s.ine.twin ∧ (setAlarmIf s c r b).ine.run = s.ine.run
    ∧ (setAlarmIf s c r b).ine.inhibited = s.ine.inhibited ∧ (setAlarmIf s c r b).ine.lead = s.ine.lead
    ∧ (setAlarmIf s c r b).ine.statics = s.ine.statics ∧ (setAlarmIf s c r b).ine.result = s.ine.result
    ∧ (setAlarmIf s c r b).lgb = s.lgb ∧ (setAlarmIf s c r b).far = s.far ∧ (setAlarmIf s c r b).isl = s.isl
    ∧ (setAlarmIf s c r b).host.tenants = s.host.tenants ∧ (setAlarmIf s c r b).host.steering = s.host.steering
    ∧ (setAlarmIf s c r b).host.msix = s.host.msix ∧ (setAlarmIf s c r b).host.served = s.host.served
    ∧ (setAlarmIf s c r b).host.counterOk = s.host.counterOk ∧ (setAlarmIf s c r b).host.spiUsed = s.host.spiUsed
    ∧ (setAlarmIf s c r b).pwc.phase = s.pwc.phase ∧ (setAlarmIf s c r b).pwc.state = s.pwc.state
    ∧ (setAlarmIf s c r b).pwc.permitted = s.pwc.permitted ∧ (setAlarmIf s c r b).pwc.cfg = s.pwc.cfg
    ∧ (setAlarmIf s c r b).pwc.keepers = s.pwc.keepers ∧ (setAlarmIf s c r b).pwc.sleep = s.pwc.sleep
    ∧ (setAlarmIf s c r b).pwc.limiter = s.pwc.limiter ∧ (setAlarmIf s c r b).pwc.inh = s.pwc.inh
    ∧ (setAlarmIf s c r b).pwc.timer = s.pwc.timer ∧ (setAlarmIf s c r b).pwc.wakeOut = s.pwc.wakeOut
    ∧ (setAlarmIf s c r b).pwc.entry = s.pwc.entry ∧ (setAlarmIf s c r b).pwc.attempts = s.pwc.attempts
    ∧ (setAlarmIf s c r b).pwc.pgs = s.pwc.pgs ∧ (setAlarmIf s c r b).pwc.heldWake = s.pwc.heldWake
    ∧ (setAlarmIf s c r b).pwc.armed = s.pwc.armed ∧ (setAlarmIf s c r b).pwc.rstoutLow = s.pwc.rstoutLow
    ∧ (setAlarmIf s c r b).pwc.graceOn = s.pwc.graceOn ∧ (setAlarmIf s c r b).pwc.lastKa = s.pwc.lastKa
    ∧ (setAlarmIf s c r b).pwc.wakeSw = s.pwc.wakeSw ∧ (setAlarmIf s c r b).pwc.pfail = s.pwc.pfail
    ∧ (setAlarmIf s c r b).evr.ready = s.evr.ready ∧ (setAlarmIf s c r b).evr.header = s.evr.header
    ∧ (setAlarmIf s c r b).evr.next = s.evr.next ∧ (setAlarmIf s c r b).evr.staging = s.evr.staging
    ∧ (setAlarmIf s c r b).evr.mem = s.evr.mem ∧ (setAlarmIf s c r b).evr.area = s.evr.area
    ∧ (setAlarmIf s c r b).evr.counterWrites = s.evr.counterWrites
    ∧ (setAlarmIf s c r b).evr.memFault = s.evr.memFault ∧ (setAlarmIf s c r b).evr.unformatted = s.evr.unformatted
    ∧ (setAlarmIf s c r b).evr.foreign = s.evr.foreign ∧ (setAlarmIf s c r b).evr.buckets = s.evr.buckets
    ∧ (setAlarmIf s c r b).evr.flushing = s.evr.flushing ∧ (setAlarmIf s c r b).evr.pfailDone = s.evr.pfailDone
    ∧ (setAlarmIf s c r b).evr.nonce = s.evr.nonce ∧ (setAlarmIf s c r b).agm.cfg = s.agm.cfg
    ∧ (setAlarmIf s c r b).agm.margin = s.agm.margin ∧ (setAlarmIf s c r b).agm.avsState = s.agm.avsState
    ∧ (setAlarmIf s c r b).agm.guardAdd = s.agm.guardAdd ∧ (setAlarmIf s c r b).agm.settling = s.agm.settling
    ∧ (setAlarmIf s c r b).agm.measuring = s.agm.measuring ∧ (setAlarmIf s c r b).agm.replicas = s.agm.replicas
    ∧ (setAlarmIf s c r b).agm.dayCount = s.agm.dayCount ∧ (setAlarmIf s c r b).wire = s.wire
    ∧ (setAlarmIf s c r b).mono = s.mono ∧ (setAlarmIf s c r b).monoFrac = s.monoFrac
    ∧ (setAlarmIf s c r b).draws = s.draws ∧ (setAlarmIf s c r b).pending = s.pending := by
  and_intros <;> (unfold setAlarmIf; (try dsimp only); (repeat' split) <;> simp)

@[simp] theorem emit_frame (s : State) (x : Sent) :
    (emit s x).glob = s.glob ∧ (emit s x).otp = s.otp ∧ (emit s x).fw = s.fw ∧ (emit s x).tms = s.tms
    ∧ (emit s x).css = s.css ∧ (emit s x).tau = s.tau ∧ (emit s x).fab = s.fab ∧ (emit s x).adm = s.adm
    ∧ (emit s x).ports = s.ports ∧ (emit s x).ine = s.ine ∧ (emit s x).lgb = s.lgb ∧ (emit s x).far = s.far
    ∧ (emit s x).isl = s.isl ∧ (emit s x).host = s.host ∧ (emit s x).pwc = s.pwc ∧ (emit s x).evr = s.evr
    ∧ (emit s x).agm = s.agm ∧ (emit s x).mono = s.mono ∧ (emit s x).monoFrac = s.monoFrac
    ∧ (emit s x).draws = s.draws ∧ (emit s x).pending = s.pending := by
  simp [emit]

@[simp] theorem emitAll_frame (s : State) (x : List Sent) :
    (emitAll s x).glob = s.glob ∧ (emitAll s x).otp = s.otp ∧ (emitAll s x).fw = s.fw ∧ (emitAll s x).tms = s.tms
    ∧ (emitAll s x).css = s.css ∧ (emitAll s x).tau = s.tau ∧ (emitAll s x).fab = s.fab ∧ (emitAll s x).adm = s.adm
    ∧ (emitAll s x).ports = s.ports ∧ (emitAll s x).ine = s.ine ∧ (emitAll s x).lgb = s.lgb
    ∧ (emitAll s x).far = s.far ∧ (emitAll s x).isl = s.isl ∧ (emitAll s x).host = s.host ∧ (emitAll s x).pwc = s.pwc
    ∧ (emitAll s x).evr = s.evr ∧ (emitAll s x).agm = s.agm ∧ (emitAll s x).mono = s.mono
    ∧ (emitAll s x).monoFrac = s.monoFrac ∧ (emitAll s x).draws = s.draws ∧ (emitAll s x).pending = s.pending := by
  simp [emitAll]

@[simp] theorem windrowLost_frame (s : State) (b : Bool) :
    (windrowLost s b).glob.fwReady = s.glob.fwReady ∧ (windrowLost s b).glob.degraded = s.glob.degraded
    ∧ (windrowLost s b).glob.refAlarm = s.glob.refAlarm ∧ (windrowLost s b).glob.recovery = s.glob.recovery
    ∧ (windrowLost s b).glob.slaFault = s.glob.slaFault ∧ (windrowLost s b).glob.poison = s.glob.poison
    ∧ (windrowLost s b).glob.errEn = s.glob.errEn ∧ (windrowLost s b).otp = s.otp ∧ (windrowLost s b).fw = s.fw
    ∧ (windrowLost s b).tms.tsValid = s.tms.tsValid ∧ (windrowLost s b).tms.trt = s.tms.trt
    ∧ (windrowLost s b).tms.wyt = s.tms.wyt ∧ (windrowLost s b).tms.trtDrift = s.tms.trtDrift
    ∧ (windrowLost s b).tms.wytDrift = s.tms.wytDrift ∧ (windrowLost s b).tms.trtState = s.tms.trtState
    ∧ (windrowLost s b).tms.trtEpoch = s.tms.trtEpoch ∧ (windrowLost s b).tms.hops = s.tms.hops
    ∧ (windrowLost s b).tms.upstream = s.tms.upstream ∧ (windrowLost s b).tms.leaderId = s.tms.leaderId
    ∧ (windrowLost s b).tms.domainEpoch = s.tms.domainEpoch ∧ (windrowLost s b).tms.wytState = s.tms.wytState
    ∧ (windrowLost s b).tms.wytDom = s.tms.wytDom ∧ (windrowLost s b).tms.domains = s.tms.domains
    ∧ (windrowLost s b).tms.links = s.tms.links ∧ (windrowLost s b).tms.cfg = s.tms.cfg
    ∧ (windrowLost s b).tms.cfgNext = s.tms.cfgNext ∧ (windrowLost s b).tms.refSource = s.tms.refSource
    ∧ (windrowLost s b).tms.xinFault = s.tms.xinFault ∧ (windrowLost s b).tms.refGood = s.tms.refGood
    ∧ (windrowLost s b).tms.trtHoldSince = s.tms.trtHoldSince
    ∧ (windrowLost s b).tms.wytHoldSince = s.tms.wytHoldSince ∧ (windrowLost s b).tms.ppsFallAt = s.tms.ppsFallAt
    ∧ (windrowLost s b).tms.manualTrt = s.tms.manualTrt ∧ (windrowLost s b).tms.manualWyt = s.tms.manualWyt
    ∧ (windrowLost s b).tms.mergeStep = s.tms.mergeStep ∧ (windrowLost s b).tms.aligned = s.tms.aligned
    ∧ (windrowLost s b).css.state = s.css.state ∧ (windrowLost s b).css.stopReason = s.css.stopReason
    ∧ (windrowLost s b).css.image = s.css.image ∧ (windrowLost s b).css.slots = s.css.slots
    ∧ (windrowLost s b).css.windows = s.css.windows ∧ (windrowLost s b).css.gates = s.css.gates
    ∧ (windrowLost s b).css.pan = s.css.pan ∧ (windrowLost s b).css.panStart = s.css.panStart
    ∧ (windrowLost s b).css.origin = s.css.origin ∧ (windrowLost s b).css.leader = s.css.leader
    ∧ (windrowLost s b).css.slotsRun = s.css.slotsRun ∧ (windrowLost s b).css.stopPan = s.css.stopPan
    ∧ (windrowLost s b).css.followed = s.css.followed ∧ (windrowLost s b).css.capable = s.css.capable
    ∧ (windrowLost s b).css.leaderless = s.css.leaderless ∧ (windrowLost s b).css.guardEff = s.css.guardEff
    ∧ (windrowLost s b).css.guardCfg = s.css.guardCfg ∧ (windrowLost s b).css.localStop = s.css.localStop
    ∧ (windrowLost s b).css.fits = s.css.fits ∧ (windrowLost s b).css.loads = s.css.loads
    ∧ (windrowLost s b).tau = s.tau ∧ (windrowLost s b).fab.held = s.fab.held
    ∧ (windrowLost s b).fab.queues = s.fab.queues ∧ (windrowLost s b).fab.streams = s.fab.streams
    ∧ (windrowLost s b).fab.lanes = s.fab.lanes ∧ (windrowLost s b).fab.fdb = s.fab.fdb
    ∧ (windrowLost s b).fab.vlans = s.fab.vlans ∧ (windrowLost s b).fab.portUsed = s.fab.portUsed
    ∧ (windrowLost s b).fab.cls = s.fab.cls ∧ (windrowLost s b).fab.sluices = s.fab.sluices
    ∧ (windrowLost s b).fab.recovery = s.fab.recovery ∧ (windrowLost s b).fab.prp = s.fab.prp
    ∧ (windrowLost s b).adm = s.adm ∧ (windrowLost s b).ports = s.ports ∧ (windrowLost s b).ine.state = s.ine.state
    ∧ (windrowLost s b).ine.mode = s.ine.mode ∧ (windrowLost s b).ine.topo = s.ine.topo
    ∧ (windrowLost s b).ine.ident = s.ine.ident ∧ (windrowLost s b).ine.nodes = s.ine.nodes
    ∧ (windrowLost s b).ine.position = s.ine.position ∧ (windrowLost s b).ine.car = s.ine.car
    ∧ (windrowLost s b).ine.twin = s.ine.twin ∧ (windrowLost s b).ine.run = s.ine.run
    ∧ (windrowLost s b).ine.inhibited = s.ine.inhibited ∧ (windrowLost s b).ine.lead = s.ine.lead
    ∧ (windrowLost s b).ine.statics = s.ine.statics ∧ (windrowLost s b).ine.result = s.ine.result
    ∧ (windrowLost s b).lgb = s.lgb ∧ (windrowLost s b).far = s.far ∧ (windrowLost s b).isl = s.isl
    ∧ (windrowLost s b).host.tenants = s.host.tenants ∧ (windrowLost s b).host.steering = s.host.steering
    ∧ (windrowLost s b).host.msix = s.host.msix ∧ (windrowLost s b).host.served = s.host.served
    ∧ (windrowLost s b).host.counterOk = s.host.counterOk ∧ (windrowLost s b).host.spiUsed = s.host.spiUsed
    ∧ (windrowLost s b).pwc.phase = s.pwc.phase ∧ (windrowLost s b).pwc.state = s.pwc.state
    ∧ (windrowLost s b).pwc.permitted = s.pwc.permitted ∧ (windrowLost s b).pwc.cfg = s.pwc.cfg
    ∧ (windrowLost s b).pwc.keepers = s.pwc.keepers ∧ (windrowLost s b).pwc.sleep = s.pwc.sleep
    ∧ (windrowLost s b).pwc.limiter = s.pwc.limiter ∧ (windrowLost s b).pwc.inh = s.pwc.inh
    ∧ (windrowLost s b).pwc.timer = s.pwc.timer ∧ (windrowLost s b).pwc.wakeOut = s.pwc.wakeOut
    ∧ (windrowLost s b).pwc.entry = s.pwc.entry ∧ (windrowLost s b).pwc.attempts = s.pwc.attempts
    ∧ (windrowLost s b).pwc.pgs = s.pwc.pgs ∧ (windrowLost s b).pwc.heldWake = s.pwc.heldWake
    ∧ (windrowLost s b).pwc.armed = s.pwc.armed ∧ (windrowLost s b).pwc.rstoutLow = s.pwc.rstoutLow
    ∧ (windrowLost s b).pwc.graceOn = s.pwc.graceOn ∧ (windrowLost s b).pwc.lastKa = s.pwc.lastKa
    ∧ (windrowLost s b).pwc.wakeSw = s.pwc.wakeSw ∧ (windrowLost s b).pwc.pfail = s.pwc.pfail
    ∧ (windrowLost s b).evr.ready = s.evr.ready ∧ (windrowLost s b).evr.header = s.evr.header
    ∧ (windrowLost s b).evr.next = s.evr.next ∧ (windrowLost s b).evr.staging = s.evr.staging
    ∧ (windrowLost s b).evr.mem = s.evr.mem ∧ (windrowLost s b).evr.area = s.evr.area
    ∧ (windrowLost s b).evr.counterWrites = s.evr.counterWrites ∧ (windrowLost s b).evr.memFault = s.evr.memFault
    ∧ (windrowLost s b).evr.unformatted = s.evr.unformatted ∧ (windrowLost s b).evr.foreign = s.evr.foreign
    ∧ (windrowLost s b).evr.buckets = s.evr.buckets ∧ (windrowLost s b).evr.flushing = s.evr.flushing
    ∧ (windrowLost s b).evr.pfailDone = s.evr.pfailDone ∧ (windrowLost s b).evr.nonce = s.evr.nonce
    ∧ (windrowLost s b).agm.cfg = s.agm.cfg ∧ (windrowLost s b).agm.margin = s.agm.margin
    ∧ (windrowLost s b).agm.avsState = s.agm.avsState ∧ (windrowLost s b).agm.guardAdd = s.agm.guardAdd
    ∧ (windrowLost s b).agm.settling = s.agm.settling ∧ (windrowLost s b).agm.measuring = s.agm.measuring
    ∧ (windrowLost s b).agm.replicas = s.agm.replicas ∧ (windrowLost s b).agm.dayCount = s.agm.dayCount
    ∧ (windrowLost s b).wire = s.wire ∧ (windrowLost s b).mono = s.mono ∧ (windrowLost s b).monoFrac = s.monoFrac
    ∧ (windrowLost s b).draws = s.draws ∧ (windrowLost s b).pending = s.pending := by
  simp [windrowLost]

@[simp] theorem stageWindrow_frame (s : State) (w : Windrow) (st : List Windrow) :
    (stageWindrow s w st).glob = s.glob ∧ (stageWindrow s w st).otp = s.otp ∧ (stageWindrow s w st).fw = s.fw
    ∧ (stageWindrow s w st).tms = s.tms ∧ (stageWindrow s w st).css = s.css ∧ (stageWindrow s w st).tau = s.tau
    ∧ (stageWindrow s w st).fab = s.fab ∧ (stageWindrow s w st).adm = s.adm ∧ (stageWindrow s w st).ports = s.ports
    ∧ (stageWindrow s w st).ine = s.ine ∧ (stageWindrow s w st).lgb = s.lgb ∧ (stageWindrow s w st).far = s.far
    ∧ (stageWindrow s w st).isl = s.isl ∧ (stageWindrow s w st).host = s.host ∧ (stageWindrow s w st).pwc = s.pwc
    ∧ (stageWindrow s w st).evr.ready = s.evr.ready ∧ (stageWindrow s w st).evr.header = s.evr.header
    ∧ (stageWindrow s w st).evr.mem = s.evr.mem ∧ (stageWindrow s w st).evr.area = s.evr.area
    ∧ (stageWindrow s w st).evr.counterWrites = s.evr.counterWrites
    ∧ (stageWindrow s w st).evr.memFault = s.evr.memFault ∧ (stageWindrow s w st).evr.unformatted = s.evr.unformatted
    ∧ (stageWindrow s w st).evr.foreign = s.evr.foreign ∧ (stageWindrow s w st).evr.buckets = s.evr.buckets
    ∧ (stageWindrow s w st).evr.flushing = s.evr.flushing ∧ (stageWindrow s w st).evr.pfailDone = s.evr.pfailDone
    ∧ (stageWindrow s w st).evr.nonce = s.evr.nonce ∧ (stageWindrow s w st).agm = s.agm
    ∧ (stageWindrow s w st).wire = s.wire ∧ (stageWindrow s w st).mono = s.mono
    ∧ (stageWindrow s w st).monoFrac = s.monoFrac ∧ (stageWindrow s w st).draws = s.draws
    ∧ (stageWindrow s w st).pending = s.pending := by
  simp [stageWindrow]

@[simp] theorem newWindrow_frame (s : State) (c : Nat) (d : Bytes) :
    (newWindrow s c d).glob.fwReady = s.glob.fwReady ∧ (newWindrow s c d).glob.degraded = s.glob.degraded
    ∧ (newWindrow s c d).glob.refAlarm = s.glob.refAlarm ∧ (newWindrow s c d).glob.recovery = s.glob.recovery
    ∧ (newWindrow s c d).glob.slaFault = s.glob.slaFault ∧ (newWindrow s c d).glob.poison = s.glob.poison
    ∧ (newWindrow s c d).glob.errEn = s.glob.errEn ∧ (newWindrow s c d).otp = s.otp ∧ (newWindrow s c d).fw = s.fw
    ∧ (newWindrow s c d).tms.tsValid = s.tms.tsValid ∧ (newWindrow s c d).tms.trt = s.tms.trt
    ∧ (newWindrow s c d).tms.wyt = s.tms.wyt ∧ (newWindrow s c d).tms.trtDrift = s.tms.trtDrift
    ∧ (newWindrow s c d).tms.wytDrift = s.tms.wytDrift ∧ (newWindrow s c d).tms.trtState = s.tms.trtState
    ∧ (newWindrow s c d).tms.trtEpoch = s.tms.trtEpoch ∧ (newWindrow s c d).tms.hops = s.tms.hops
    ∧ (newWindrow s c d).tms.upstream = s.tms.upstream ∧ (newWindrow s c d).tms.leaderId = s.tms.leaderId
    ∧ (newWindrow s c d).tms.domainEpoch = s.tms.domainEpoch ∧ (newWindrow s c d).tms.wytState = s.tms.wytState
    ∧ (newWindrow s c d).tms.wytDom = s.tms.wytDom ∧ (newWindrow s c d).tms.domains = s.tms.domains
    ∧ (newWindrow s c d).tms.links = s.tms.links ∧ (newWindrow s c d).tms.cfg = s.tms.cfg
    ∧ (newWindrow s c d).tms.cfgNext = s.tms.cfgNext ∧ (newWindrow s c d).tms.refSource = s.tms.refSource
    ∧ (newWindrow s c d).tms.xinFault = s.tms.xinFault ∧ (newWindrow s c d).tms.refGood = s.tms.refGood
    ∧ (newWindrow s c d).tms.trtHoldSince = s.tms.trtHoldSince
    ∧ (newWindrow s c d).tms.wytHoldSince = s.tms.wytHoldSince ∧ (newWindrow s c d).tms.ppsFallAt = s.tms.ppsFallAt
    ∧ (newWindrow s c d).tms.manualTrt = s.tms.manualTrt ∧ (newWindrow s c d).tms.manualWyt = s.tms.manualWyt
    ∧ (newWindrow s c d).tms.mergeStep = s.tms.mergeStep ∧ (newWindrow s c d).tms.aligned = s.tms.aligned
    ∧ (newWindrow s c d).css.state = s.css.state ∧ (newWindrow s c d).css.stopReason = s.css.stopReason
    ∧ (newWindrow s c d).css.image = s.css.image ∧ (newWindrow s c d).css.slots = s.css.slots
    ∧ (newWindrow s c d).css.windows = s.css.windows ∧ (newWindrow s c d).css.gates = s.css.gates
    ∧ (newWindrow s c d).css.pan = s.css.pan ∧ (newWindrow s c d).css.panStart = s.css.panStart
    ∧ (newWindrow s c d).css.origin = s.css.origin ∧ (newWindrow s c d).css.leader = s.css.leader
    ∧ (newWindrow s c d).css.slotsRun = s.css.slotsRun ∧ (newWindrow s c d).css.stopPan = s.css.stopPan
    ∧ (newWindrow s c d).css.followed = s.css.followed ∧ (newWindrow s c d).css.capable = s.css.capable
    ∧ (newWindrow s c d).css.leaderless = s.css.leaderless ∧ (newWindrow s c d).css.guardEff = s.css.guardEff
    ∧ (newWindrow s c d).css.guardCfg = s.css.guardCfg ∧ (newWindrow s c d).css.localStop = s.css.localStop
    ∧ (newWindrow s c d).css.fits = s.css.fits ∧ (newWindrow s c d).css.loads = s.css.loads
    ∧ (newWindrow s c d).tau = s.tau ∧ (newWindrow s c d).fab.held = s.fab.held
    ∧ (newWindrow s c d).fab.queues = s.fab.queues ∧ (newWindrow s c d).fab.streams = s.fab.streams
    ∧ (newWindrow s c d).fab.lanes = s.fab.lanes ∧ (newWindrow s c d).fab.fdb = s.fab.fdb
    ∧ (newWindrow s c d).fab.vlans = s.fab.vlans ∧ (newWindrow s c d).fab.portUsed = s.fab.portUsed
    ∧ (newWindrow s c d).fab.cls = s.fab.cls ∧ (newWindrow s c d).fab.sluices = s.fab.sluices
    ∧ (newWindrow s c d).fab.recovery = s.fab.recovery ∧ (newWindrow s c d).fab.prp = s.fab.prp
    ∧ (newWindrow s c d).adm = s.adm ∧ (newWindrow s c d).ports = s.ports ∧ (newWindrow s c d).ine.state = s.ine.state
    ∧ (newWindrow s c d).ine.mode = s.ine.mode ∧ (newWindrow s c d).ine.topo = s.ine.topo
    ∧ (newWindrow s c d).ine.ident = s.ine.ident ∧ (newWindrow s c d).ine.nodes = s.ine.nodes
    ∧ (newWindrow s c d).ine.position = s.ine.position ∧ (newWindrow s c d).ine.car = s.ine.car
    ∧ (newWindrow s c d).ine.twin = s.ine.twin ∧ (newWindrow s c d).ine.run = s.ine.run
    ∧ (newWindrow s c d).ine.inhibited = s.ine.inhibited ∧ (newWindrow s c d).ine.lead = s.ine.lead
    ∧ (newWindrow s c d).ine.statics = s.ine.statics ∧ (newWindrow s c d).ine.result = s.ine.result
    ∧ (newWindrow s c d).lgb = s.lgb ∧ (newWindrow s c d).far = s.far ∧ (newWindrow s c d).isl = s.isl
    ∧ (newWindrow s c d).host.tenants = s.host.tenants ∧ (newWindrow s c d).host.steering = s.host.steering
    ∧ (newWindrow s c d).host.msix = s.host.msix ∧ (newWindrow s c d).host.served = s.host.served
    ∧ (newWindrow s c d).host.counterOk = s.host.counterOk ∧ (newWindrow s c d).host.spiUsed = s.host.spiUsed
    ∧ (newWindrow s c d).pwc.phase = s.pwc.phase ∧ (newWindrow s c d).pwc.state = s.pwc.state
    ∧ (newWindrow s c d).pwc.permitted = s.pwc.permitted ∧ (newWindrow s c d).pwc.cfg = s.pwc.cfg
    ∧ (newWindrow s c d).pwc.keepers = s.pwc.keepers ∧ (newWindrow s c d).pwc.sleep = s.pwc.sleep
    ∧ (newWindrow s c d).pwc.limiter = s.pwc.limiter ∧ (newWindrow s c d).pwc.inh = s.pwc.inh
    ∧ (newWindrow s c d).pwc.timer = s.pwc.timer ∧ (newWindrow s c d).pwc.wakeOut = s.pwc.wakeOut
    ∧ (newWindrow s c d).pwc.entry = s.pwc.entry ∧ (newWindrow s c d).pwc.attempts = s.pwc.attempts
    ∧ (newWindrow s c d).pwc.pgs = s.pwc.pgs ∧ (newWindrow s c d).pwc.heldWake = s.pwc.heldWake
    ∧ (newWindrow s c d).pwc.armed = s.pwc.armed ∧ (newWindrow s c d).pwc.rstoutLow = s.pwc.rstoutLow
    ∧ (newWindrow s c d).pwc.graceOn = s.pwc.graceOn ∧ (newWindrow s c d).pwc.lastKa = s.pwc.lastKa
    ∧ (newWindrow s c d).pwc.wakeSw = s.pwc.wakeSw ∧ (newWindrow s c d).pwc.pfail = s.pwc.pfail
    ∧ (newWindrow s c d).evr.ready = s.evr.ready ∧ (newWindrow s c d).evr.header = s.evr.header
    ∧ (newWindrow s c d).evr.mem = s.evr.mem ∧ (newWindrow s c d).evr.area = s.evr.area
    ∧ (newWindrow s c d).evr.counterWrites = s.evr.counterWrites ∧ (newWindrow s c d).evr.memFault = s.evr.memFault
    ∧ (newWindrow s c d).evr.unformatted = s.evr.unformatted ∧ (newWindrow s c d).evr.foreign = s.evr.foreign
    ∧ (newWindrow s c d).evr.buckets = s.evr.buckets ∧ (newWindrow s c d).evr.flushing = s.evr.flushing
    ∧ (newWindrow s c d).evr.pfailDone = s.evr.pfailDone ∧ (newWindrow s c d).evr.nonce = s.evr.nonce
    ∧ (newWindrow s c d).agm.cfg = s.agm.cfg ∧ (newWindrow s c d).agm.margin = s.agm.margin
    ∧ (newWindrow s c d).agm.avsState = s.agm.avsState ∧ (newWindrow s c d).agm.guardAdd = s.agm.guardAdd
    ∧ (newWindrow s c d).agm.settling = s.agm.settling ∧ (newWindrow s c d).agm.measuring = s.agm.measuring
    ∧ (newWindrow s c d).agm.replicas = s.agm.replicas ∧ (newWindrow s c d).agm.dayCount = s.agm.dayCount
    ∧ (newWindrow s c d).wire = s.wire ∧ (newWindrow s c d).mono = s.mono ∧ (newWindrow s c d).monoFrac = s.monoFrac
    ∧ (newWindrow s c d).draws = s.draws ∧ (newWindrow s c d).pending = s.pending := by
  and_intros <;> (unfold newWindrow; (try dsimp only); (repeat' split) <;> simp)

@[simp] theorem suppressReport_frame (s : State) (c : Nat) :
    (suppressReport s c).glob.fwReady = s.glob.fwReady ∧ (suppressReport s c).glob.degraded = s.glob.degraded
    ∧ (suppressReport s c).glob.refAlarm = s.glob.refAlarm ∧ (suppressReport s c).glob.recovery = s.glob.recovery
    ∧ (suppressReport s c).glob.slaFault = s.glob.slaFault ∧ (suppressReport s c).glob.poison = s.glob.poison
    ∧ (suppressReport s c).glob.errEn = s.glob.errEn ∧ (suppressReport s c).otp = s.otp
    ∧ (suppressReport s c).fw = s.fw ∧ (suppressReport s c).tms.tsValid = s.tms.tsValid
    ∧ (suppressReport s c).tms.trt = s.tms.trt ∧ (suppressReport s c).tms.wyt = s.tms.wyt
    ∧ (suppressReport s c).tms.trtDrift = s.tms.trtDrift ∧ (suppressReport s c).tms.wytDrift = s.tms.wytDrift
    ∧ (suppressReport s c).tms.trtState = s.tms.trtState ∧ (suppressReport s c).tms.trtEpoch = s.tms.trtEpoch
    ∧ (suppressReport s c).tms.hops = s.tms.hops ∧ (suppressReport s c).tms.upstream = s.tms.upstream
    ∧ (suppressReport s c).tms.leaderId = s.tms.leaderId ∧ (suppressReport s c).tms.domainEpoch = s.tms.domainEpoch
    ∧ (suppressReport s c).tms.wytState = s.tms.wytState ∧ (suppressReport s c).tms.wytDom = s.tms.wytDom
    ∧ (suppressReport s c).tms.domains = s.tms.domains ∧ (suppressReport s c).tms.links = s.tms.links
    ∧ (suppressReport s c).tms.cfg = s.tms.cfg ∧ (suppressReport s c).tms.cfgNext = s.tms.cfgNext
    ∧ (suppressReport s c).tms.refSource = s.tms.refSource ∧ (suppressReport s c).tms.xinFault = s.tms.xinFault
    ∧ (suppressReport s c).tms.refGood = s.tms.refGood ∧ (suppressReport s c).tms.trtHoldSince = s.tms.trtHoldSince
    ∧ (suppressReport s c).tms.wytHoldSince = s.tms.wytHoldSince
    ∧ (suppressReport s c).tms.ppsFallAt = s.tms.ppsFallAt ∧ (suppressReport s c).tms.manualTrt = s.tms.manualTrt
    ∧ (suppressReport s c).tms.manualWyt = s.tms.manualWyt ∧ (suppressReport s c).tms.mergeStep = s.tms.mergeStep
    ∧ (suppressReport s c).tms.aligned = s.tms.aligned ∧ (suppressReport s c).css.state = s.css.state
    ∧ (suppressReport s c).css.stopReason = s.css.stopReason ∧ (suppressReport s c).css.image = s.css.image
    ∧ (suppressReport s c).css.slots = s.css.slots ∧ (suppressReport s c).css.windows = s.css.windows
    ∧ (suppressReport s c).css.gates = s.css.gates ∧ (suppressReport s c).css.pan = s.css.pan
    ∧ (suppressReport s c).css.panStart = s.css.panStart ∧ (suppressReport s c).css.origin = s.css.origin
    ∧ (suppressReport s c).css.leader = s.css.leader ∧ (suppressReport s c).css.slotsRun = s.css.slotsRun
    ∧ (suppressReport s c).css.stopPan = s.css.stopPan ∧ (suppressReport s c).css.followed = s.css.followed
    ∧ (suppressReport s c).css.capable = s.css.capable ∧ (suppressReport s c).css.leaderless = s.css.leaderless
    ∧ (suppressReport s c).css.guardEff = s.css.guardEff ∧ (suppressReport s c).css.guardCfg = s.css.guardCfg
    ∧ (suppressReport s c).css.localStop = s.css.localStop ∧ (suppressReport s c).css.fits = s.css.fits
    ∧ (suppressReport s c).css.loads = s.css.loads ∧ (suppressReport s c).tau = s.tau
    ∧ (suppressReport s c).fab.held = s.fab.held ∧ (suppressReport s c).fab.queues = s.fab.queues
    ∧ (suppressReport s c).fab.streams = s.fab.streams ∧ (suppressReport s c).fab.lanes = s.fab.lanes
    ∧ (suppressReport s c).fab.fdb = s.fab.fdb ∧ (suppressReport s c).fab.vlans = s.fab.vlans
    ∧ (suppressReport s c).fab.portUsed = s.fab.portUsed ∧ (suppressReport s c).fab.cls = s.fab.cls
    ∧ (suppressReport s c).fab.sluices = s.fab.sluices ∧ (suppressReport s c).fab.recovery = s.fab.recovery
    ∧ (suppressReport s c).fab.prp = s.fab.prp ∧ (suppressReport s c).adm = s.adm
    ∧ (suppressReport s c).ports = s.ports ∧ (suppressReport s c).ine.state = s.ine.state
    ∧ (suppressReport s c).ine.mode = s.ine.mode ∧ (suppressReport s c).ine.topo = s.ine.topo
    ∧ (suppressReport s c).ine.ident = s.ine.ident ∧ (suppressReport s c).ine.nodes = s.ine.nodes
    ∧ (suppressReport s c).ine.position = s.ine.position ∧ (suppressReport s c).ine.car = s.ine.car
    ∧ (suppressReport s c).ine.twin = s.ine.twin ∧ (suppressReport s c).ine.run = s.ine.run
    ∧ (suppressReport s c).ine.inhibited = s.ine.inhibited ∧ (suppressReport s c).ine.lead = s.ine.lead
    ∧ (suppressReport s c).ine.statics = s.ine.statics ∧ (suppressReport s c).ine.result = s.ine.result
    ∧ (suppressReport s c).lgb = s.lgb ∧ (suppressReport s c).far = s.far ∧ (suppressReport s c).isl = s.isl
    ∧ (suppressReport s c).host.tenants = s.host.tenants ∧ (suppressReport s c).host.steering = s.host.steering
    ∧ (suppressReport s c).host.msix = s.host.msix ∧ (suppressReport s c).host.served = s.host.served
    ∧ (suppressReport s c).host.counterOk = s.host.counterOk ∧ (suppressReport s c).host.spiUsed = s.host.spiUsed
    ∧ (suppressReport s c).pwc.phase = s.pwc.phase ∧ (suppressReport s c).pwc.state = s.pwc.state
    ∧ (suppressReport s c).pwc.permitted = s.pwc.permitted ∧ (suppressReport s c).pwc.cfg = s.pwc.cfg
    ∧ (suppressReport s c).pwc.keepers = s.pwc.keepers ∧ (suppressReport s c).pwc.sleep = s.pwc.sleep
    ∧ (suppressReport s c).pwc.limiter = s.pwc.limiter ∧ (suppressReport s c).pwc.inh = s.pwc.inh
    ∧ (suppressReport s c).pwc.timer = s.pwc.timer ∧ (suppressReport s c).pwc.wakeOut = s.pwc.wakeOut
    ∧ (suppressReport s c).pwc.entry = s.pwc.entry ∧ (suppressReport s c).pwc.attempts = s.pwc.attempts
    ∧ (suppressReport s c).pwc.pgs = s.pwc.pgs ∧ (suppressReport s c).pwc.heldWake = s.pwc.heldWake
    ∧ (suppressReport s c).pwc.armed = s.pwc.armed ∧ (suppressReport s c).pwc.rstoutLow = s.pwc.rstoutLow
    ∧ (suppressReport s c).pwc.graceOn = s.pwc.graceOn ∧ (suppressReport s c).pwc.lastKa = s.pwc.lastKa
    ∧ (suppressReport s c).pwc.wakeSw = s.pwc.wakeSw ∧ (suppressReport s c).pwc.pfail = s.pwc.pfail
    ∧ (suppressReport s c).evr.ready = s.evr.ready ∧ (suppressReport s c).evr.header = s.evr.header
    ∧ (suppressReport s c).evr.next = s.evr.next ∧ (suppressReport s c).evr.staging = s.evr.staging
    ∧ (suppressReport s c).evr.mem = s.evr.mem ∧ (suppressReport s c).evr.area = s.evr.area
    ∧ (suppressReport s c).evr.counterWrites = s.evr.counterWrites
    ∧ (suppressReport s c).evr.memFault = s.evr.memFault ∧ (suppressReport s c).evr.unformatted = s.evr.unformatted
    ∧ (suppressReport s c).evr.foreign = s.evr.foreign ∧ (suppressReport s c).evr.buckets = s.evr.buckets
    ∧ (suppressReport s c).evr.flushing = s.evr.flushing ∧ (suppressReport s c).evr.pfailDone = s.evr.pfailDone
    ∧ (suppressReport s c).evr.nonce = s.evr.nonce ∧ (suppressReport s c).agm.cfg = s.agm.cfg
    ∧ (suppressReport s c).agm.margin = s.agm.margin ∧ (suppressReport s c).agm.avsState = s.agm.avsState
    ∧ (suppressReport s c).agm.guardAdd = s.agm.guardAdd ∧ (suppressReport s c).agm.settling = s.agm.settling
    ∧ (suppressReport s c).agm.measuring = s.agm.measuring ∧ (suppressReport s c).agm.replicas = s.agm.replicas
    ∧ (suppressReport s c).agm.dayCount = s.agm.dayCount ∧ (suppressReport s c).wire = s.wire
    ∧ (suppressReport s c).mono = s.mono ∧ (suppressReport s c).monoFrac = s.monoFrac
    ∧ (suppressReport s c).draws = s.draws ∧ (suppressReport s c).pending = s.pending := by
  simp [suppressReport]

/-- What a report can come to (R352, R356): lost, a new windrow with or without a token, suppressed, or merged. -/
theorem report_cases (s : State) (c : Nat) (d : Bytes) :
    report s c d = windrowLost s false ∨ report s c d = newWindrow s c d ∨ report s c d = suppressReport s c
    ∨ (∃ b, report s c d = newWindrow { s with evr := { s.evr with buckets := b } } c d)
    ∨ ∃ st m, report s c d = { s with evr := { s.evr with staging := st, merged := m } } := by
  unfold report
  split
  · exact .inl rfl
  · split
    · exact .inr (.inl rfl)
    · split
      · split
        · exact .inr (.inr (.inr (.inr ⟨_, _, rfl⟩)))
        · dsimp only
          split
          · exact .inr (.inr (.inr (.inl ⟨_, rfl⟩)))
          · exact .inr (.inr (.inl rfl))
      · dsimp only
        split
        · exact .inr (.inr (.inr (.inl ⟨_, rfl⟩)))
        · exact .inr (.inr (.inl rfl))

@[simp] theorem report_frame (s : State) (c : Nat) (d : Bytes) :
    (report s c d).glob.fwReady = s.glob.fwReady ∧ (report s c d).glob.degraded = s.glob.degraded
    ∧ (report s c d).glob.refAlarm = s.glob.refAlarm ∧ (report s c d).glob.recovery = s.glob.recovery
    ∧ (report s c d).glob.slaFault = s.glob.slaFault ∧ (report s c d).glob.poison = s.glob.poison
    ∧ (report s c d).glob.errEn = s.glob.errEn ∧ (report s c d).otp = s.otp ∧ (report s c d).fw = s.fw
    ∧ (report s c d).tms.tsValid = s.tms.tsValid ∧ (report s c d).tms.trt = s.tms.trt
    ∧ (report s c d).tms.wyt = s.tms.wyt ∧ (report s c d).tms.trtDrift = s.tms.trtDrift
    ∧ (report s c d).tms.wytDrift = s.tms.wytDrift ∧ (report s c d).tms.trtState = s.tms.trtState
    ∧ (report s c d).tms.trtEpoch = s.tms.trtEpoch ∧ (report s c d).tms.hops = s.tms.hops
    ∧ (report s c d).tms.upstream = s.tms.upstream ∧ (report s c d).tms.leaderId = s.tms.leaderId
    ∧ (report s c d).tms.domainEpoch = s.tms.domainEpoch ∧ (report s c d).tms.wytState = s.tms.wytState
    ∧ (report s c d).tms.wytDom = s.tms.wytDom ∧ (report s c d).tms.domains = s.tms.domains
    ∧ (report s c d).tms.links = s.tms.links ∧ (report s c d).tms.cfg = s.tms.cfg
    ∧ (report s c d).tms.cfgNext = s.tms.cfgNext ∧ (report s c d).tms.refSource = s.tms.refSource
    ∧ (report s c d).tms.xinFault = s.tms.xinFault ∧ (report s c d).tms.refGood = s.tms.refGood
    ∧ (report s c d).tms.trtHoldSince = s.tms.trtHoldSince ∧ (report s c d).tms.wytHoldSince = s.tms.wytHoldSince
    ∧ (report s c d).tms.ppsFallAt = s.tms.ppsFallAt ∧ (report s c d).tms.manualTrt = s.tms.manualTrt
    ∧ (report s c d).tms.manualWyt = s.tms.manualWyt ∧ (report s c d).tms.mergeStep = s.tms.mergeStep
    ∧ (report s c d).tms.aligned = s.tms.aligned ∧ (report s c d).css.state = s.css.state
    ∧ (report s c d).css.stopReason = s.css.stopReason ∧ (report s c d).css.image = s.css.image
    ∧ (report s c d).css.slots = s.css.slots ∧ (report s c d).css.windows = s.css.windows
    ∧ (report s c d).css.gates = s.css.gates ∧ (report s c d).css.pan = s.css.pan
    ∧ (report s c d).css.panStart = s.css.panStart ∧ (report s c d).css.origin = s.css.origin
    ∧ (report s c d).css.leader = s.css.leader ∧ (report s c d).css.slotsRun = s.css.slotsRun
    ∧ (report s c d).css.stopPan = s.css.stopPan ∧ (report s c d).css.followed = s.css.followed
    ∧ (report s c d).css.capable = s.css.capable ∧ (report s c d).css.leaderless = s.css.leaderless
    ∧ (report s c d).css.guardEff = s.css.guardEff ∧ (report s c d).css.guardCfg = s.css.guardCfg
    ∧ (report s c d).css.localStop = s.css.localStop ∧ (report s c d).css.fits = s.css.fits
    ∧ (report s c d).css.loads = s.css.loads ∧ (report s c d).tau = s.tau ∧ (report s c d).fab.held = s.fab.held
    ∧ (report s c d).fab.queues = s.fab.queues ∧ (report s c d).fab.streams = s.fab.streams
    ∧ (report s c d).fab.lanes = s.fab.lanes ∧ (report s c d).fab.fdb = s.fab.fdb
    ∧ (report s c d).fab.vlans = s.fab.vlans ∧ (report s c d).fab.portUsed = s.fab.portUsed
    ∧ (report s c d).fab.cls = s.fab.cls ∧ (report s c d).fab.sluices = s.fab.sluices
    ∧ (report s c d).fab.recovery = s.fab.recovery ∧ (report s c d).fab.prp = s.fab.prp ∧ (report s c d).adm = s.adm
    ∧ (report s c d).ports = s.ports ∧ (report s c d).ine.state = s.ine.state ∧ (report s c d).ine.mode = s.ine.mode
    ∧ (report s c d).ine.topo = s.ine.topo ∧ (report s c d).ine.ident = s.ine.ident
    ∧ (report s c d).ine.nodes = s.ine.nodes ∧ (report s c d).ine.position = s.ine.position
    ∧ (report s c d).ine.car = s.ine.car ∧ (report s c d).ine.twin = s.ine.twin ∧ (report s c d).ine.run = s.ine.run
    ∧ (report s c d).ine.inhibited = s.ine.inhibited ∧ (report s c d).ine.lead = s.ine.lead
    ∧ (report s c d).ine.statics = s.ine.statics ∧ (report s c d).ine.result = s.ine.result
    ∧ (report s c d).lgb = s.lgb ∧ (report s c d).far = s.far ∧ (report s c d).isl = s.isl
    ∧ (report s c d).host.tenants = s.host.tenants ∧ (report s c d).host.steering = s.host.steering
    ∧ (report s c d).host.msix = s.host.msix ∧ (report s c d).host.served = s.host.served
    ∧ (report s c d).host.counterOk = s.host.counterOk ∧ (report s c d).host.spiUsed = s.host.spiUsed
    ∧ (report s c d).pwc.phase = s.pwc.phase ∧ (report s c d).pwc.state = s.pwc.state
    ∧ (report s c d).pwc.permitted = s.pwc.permitted ∧ (report s c d).pwc.cfg = s.pwc.cfg
    ∧ (report s c d).pwc.keepers = s.pwc.keepers ∧ (report s c d).pwc.sleep = s.pwc.sleep
    ∧ (report s c d).pwc.limiter = s.pwc.limiter ∧ (report s c d).pwc.inh = s.pwc.inh
    ∧ (report s c d).pwc.timer = s.pwc.timer ∧ (report s c d).pwc.wakeOut = s.pwc.wakeOut
    ∧ (report s c d).pwc.entry = s.pwc.entry ∧ (report s c d).pwc.attempts = s.pwc.attempts
    ∧ (report s c d).pwc.pgs = s.pwc.pgs ∧ (report s c d).pwc.heldWake = s.pwc.heldWake
    ∧ (report s c d).pwc.armed = s.pwc.armed ∧ (report s c d).pwc.rstoutLow = s.pwc.rstoutLow
    ∧ (report s c d).pwc.graceOn = s.pwc.graceOn ∧ (report s c d).pwc.lastKa = s.pwc.lastKa
    ∧ (report s c d).pwc.wakeSw = s.pwc.wakeSw ∧ (report s c d).pwc.pfail = s.pwc.pfail
    ∧ (report s c d).evr.ready = s.evr.ready ∧ (report s c d).evr.header = s.evr.header
    ∧ (report s c d).evr.mem = s.evr.mem ∧ (report s c d).evr.area = s.evr.area
    ∧ (report s c d).evr.counterWrites = s.evr.counterWrites ∧ (report s c d).evr.memFault = s.evr.memFault
    ∧ (report s c d).evr.unformatted = s.evr.unformatted ∧ (report s c d).evr.foreign = s.evr.foreign
    ∧ (report s c d).evr.flushing = s.evr.flushing ∧ (report s c d).evr.pfailDone = s.evr.pfailDone
    ∧ (report s c d).evr.nonce = s.evr.nonce ∧ (report s c d).agm.cfg = s.agm.cfg
    ∧ (report s c d).agm.margin = s.agm.margin ∧ (report s c d).agm.avsState = s.agm.avsState
    ∧ (report s c d).agm.guardAdd = s.agm.guardAdd ∧ (report s c d).agm.settling = s.agm.settling
    ∧ (report s c d).agm.measuring = s.agm.measuring ∧ (report s c d).agm.replicas = s.agm.replicas
    ∧ (report s c d).agm.dayCount = s.agm.dayCount ∧ (report s c d).wire = s.wire ∧ (report s c d).mono = s.mono
    ∧ (report s c d).monoFrac = s.monoFrac ∧ (report s c d).draws = s.draws ∧ (report s c d).pending = s.pending := by
  obtain h | h | h | ⟨b, h⟩ | ⟨st, m, h⟩ := report_cases s c d <;> simp [h]

@[simp] theorem modTenant_frame (s : State) (t : Nat) (f : Tenant → Tenant) :
    (modTenant s t f).glob = s.glob ∧ (modTenant s t f).otp = s.otp ∧ (modTenant s t f).fw = s.fw
    ∧ (modTenant s t f).tms = s.tms ∧ (modTenant s t f).css = s.css ∧ (modTenant s t f).tau = s.tau
    ∧ (modTenant s t f).fab = s.fab ∧ (modTenant s t f).adm = s.adm ∧ (modTenant s t f).ports = s.ports
    ∧ (modTenant s t f).ine = s.ine ∧ (modTenant s t f).lgb = s.lgb ∧ (modTenant s t f).far = s.far
    ∧ (modTenant s t f).isl = s.isl ∧ (modTenant s t f).host.steering = s.host.steering
    ∧ (modTenant s t f).host.msix = s.host.msix ∧ (modTenant s t f).host.served = s.host.served
    ∧ (modTenant s t f).host.counterOk = s.host.counterOk ∧ (modTenant s t f).host.spiUsed = s.host.spiUsed
    ∧ (modTenant s t f).pwc = s.pwc ∧ (modTenant s t f).evr = s.evr ∧ (modTenant s t f).agm = s.agm
    ∧ (modTenant s t f).wire = s.wire ∧ (modTenant s t f).mono = s.mono ∧ (modTenant s t f).monoFrac = s.monoFrac
    ∧ (modTenant s t f).draws = s.draws ∧ (modTenant s t f).pending = s.pending := by
  simp [modTenant]

@[simp] theorem raiseTenant_frame (s : State) (t : Nat) :
    (raiseTenant s t).glob = s.glob ∧ (raiseTenant s t).otp = s.otp ∧ (raiseTenant s t).fw = s.fw
    ∧ (raiseTenant s t).tms = s.tms ∧ (raiseTenant s t).css = s.css ∧ (raiseTenant s t).tau = s.tau
    ∧ (raiseTenant s t).fab = s.fab ∧ (raiseTenant s t).adm = s.adm ∧ (raiseTenant s t).ports = s.ports
    ∧ (raiseTenant s t).ine = s.ine ∧ (raiseTenant s t).lgb = s.lgb ∧ (raiseTenant s t).far = s.far
    ∧ (raiseTenant s t).isl = s.isl ∧ (raiseTenant s t).host.steering = s.host.steering
    ∧ (raiseTenant s t).host.msix = s.host.msix ∧ (raiseTenant s t).host.served = s.host.served
    ∧ (raiseTenant s t).host.counterOk = s.host.counterOk ∧ (raiseTenant s t).host.spiUsed = s.host.spiUsed
    ∧ (raiseTenant s t).pwc = s.pwc ∧ (raiseTenant s t).evr = s.evr ∧ (raiseTenant s t).agm = s.agm
    ∧ (raiseTenant s t).wire = s.wire ∧ (raiseTenant s t).mono = s.mono ∧ (raiseTenant s t).monoFrac = s.monoFrac
    ∧ (raiseTenant s t).draws = s.draws ∧ (raiseTenant s t).pending = s.pending := by
  and_intros <;> (unfold raiseTenant; (try dsimp only); (repeat' split) <;> simp)

@[simp] theorem remoteSends_frame (s : State) (x : Sent) :
    (remoteSends s x).glob = s.glob ∧ (remoteSends s x).otp = s.otp ∧ (remoteSends s x).fw = s.fw
    ∧ (remoteSends s x).tms = s.tms ∧ (remoteSends s x).css = s.css ∧ (remoteSends s x).tau = s.tau
    ∧ (remoteSends s x).fab = s.fab ∧ (remoteSends s x).adm = s.adm ∧ (remoteSends s x).ports = s.ports
    ∧ (remoteSends s x).ine = s.ine ∧ (remoteSends s x).lgb = s.lgb ∧ (remoteSends s x).far = s.far
    ∧ (remoteSends s x).isl = s.isl ∧ (remoteSends s x).host.steering = s.host.steering
    ∧ (remoteSends s x).host.msix = s.host.msix ∧ (remoteSends s x).host.served = s.host.served
    ∧ (remoteSends s x).host.counterOk = s.host.counterOk ∧ (remoteSends s x).host.spiUsed = s.host.spiUsed
    ∧ (remoteSends s x).pwc = s.pwc ∧ (remoteSends s x).evr = s.evr ∧ (remoteSends s x).agm = s.agm
    ∧ (remoteSends s x).mono = s.mono ∧ (remoteSends s x).monoFrac = s.monoFrac ∧ (remoteSends s x).draws = s.draws
    ∧ (remoteSends s x).pending = s.pending := by
  simp [remoteSends]

@[simp] theorem deliverEvent_frame (s : State) (t typ : Nat) (n : Word) (d : Bytes) :
    (deliverEvent s t typ n d).glob = s.glob ∧ (deliverEvent s t typ n d).otp = s.otp ∧ (deliverEvent s t typ n d).fw = s.fw
    ∧ (deliverEvent s t typ n d).tms = s.tms ∧ (deliverEvent s t typ n d).css = s.css ∧ (deliverEvent s t typ n d).tau = s.tau
    ∧ (deliverEvent s t typ n d).fab = s.fab ∧ (deliverEvent s t typ n d).adm = s.adm ∧ (deliverEvent s t typ n d).ports = s.ports
    ∧ (deliverEvent s t typ n d).ine = s.ine ∧ (deliverEvent s t typ n d).lgb = s.lgb ∧ (deliverEvent s t typ n d).far = s.far
    ∧ (deliverEvent s t typ n d).isl = s.isl ∧ (deliverEvent s t typ n d).host.steering = s.host.steering
    ∧ (deliverEvent s t typ n d).host.msix = s.host.msix ∧ (deliverEvent s t typ n d).host.served = s.host.served
    ∧ (deliverEvent s t typ n d).host.counterOk = s.host.counterOk ∧ (deliverEvent s t typ n d).host.spiUsed = s.host.spiUsed
    ∧ (deliverEvent s t typ n d).pwc = s.pwc ∧ (deliverEvent s t typ n d).evr = s.evr ∧ (deliverEvent s t typ n d).agm = s.agm
    ∧ (deliverEvent s t typ n d).mono = s.mono ∧ (deliverEvent s t typ n d).monoFrac = s.monoFrac ∧ (deliverEvent s t typ n d).draws = s.draws
    ∧ (deliverEvent s t typ n d).pending = s.pending := by
  and_intros <;> (unfold deliverEvent; (try dsimp only); (repeat' split) <;> simp)

@[simp] theorem event_frame (s : State) (t typ : Nat) (d : Bytes) :
    (event s t typ d).glob = s.glob ∧ (event s t typ d).otp = s.otp ∧ (event s t typ d).fw = s.fw
    ∧ (event s t typ d).tms = s.tms ∧ (event s t typ d).css = s.css ∧ (event s t typ d).tau = s.tau
    ∧ (event s t typ d).fab = s.fab ∧ (event s t typ d).adm = s.adm ∧ (event s t typ d).ports = s.ports
    ∧ (event s t typ d).ine = s.ine ∧ (event s t typ d).lgb = s.lgb ∧ (event s t typ d).far = s.far
    ∧ (event s t typ d).isl = s.isl ∧ (event s t typ d).host.steering = s.host.steering
    ∧ (event s t typ d).host.msix = s.host.msix ∧ (event s t typ d).host.served = s.host.served
    ∧ (event s t typ d).host.counterOk = s.host.counterOk ∧ (event s t typ d).host.spiUsed = s.host.spiUsed
    ∧ (event s t typ d).pwc = s.pwc ∧ (event s t typ d).evr = s.evr ∧ (event s t typ d).agm = s.agm
    ∧ (event s t typ d).mono = s.mono ∧ (event s t typ d).monoFrac = s.monoFrac ∧ (event s t typ d).draws = s.draws
    ∧ (event s t typ d).pending = s.pending := by
  unfold event; split <;> simp

@[simp] theorem faultTenant_frame (s : State) (t w c : Nat) :
    (faultTenant s t w c).glob = s.glob ∧ (faultTenant s t w c).otp = s.otp ∧ (faultTenant s t w c).fw = s.fw
    ∧ (faultTenant s t w c).tms = s.tms ∧ (faultTenant s t w c).css = s.css ∧ (faultTenant s t w c).tau = s.tau
    ∧ (faultTenant s t w c).fab = s.fab ∧ (faultTenant s t w c).adm = s.adm ∧ (faultTenant s t w c).ports = s.ports
    ∧ (faultTenant s t w c).ine = s.ine ∧ (faultTenant s t w c).lgb = s.lgb ∧ (faultTenant s t w c).far = s.far
    ∧ (faultTenant s t w c).isl = s.isl ∧ (faultTenant s t w c).host.steering = s.host.steering
    ∧ (faultTenant s t w c).host.msix = s.host.msix ∧ (faultTenant s t w c).host.served = s.host.served
    ∧ (faultTenant s t w c).host.counterOk = s.host.counterOk ∧ (faultTenant s t w c).host.spiUsed = s.host.spiUsed
    ∧ (faultTenant s t w c).pwc = s.pwc ∧ (faultTenant s t w c).evr = s.evr ∧ (faultTenant s t w c).agm = s.agm
    ∧ (faultTenant s t w c).wire = s.wire ∧ (faultTenant s t w c).mono = s.mono
    ∧ (faultTenant s t w c).monoFrac = s.monoFrac ∧ (faultTenant s t w c).draws = s.draws
    ∧ (faultTenant s t w c).pending = s.pending := by
  and_intros <;> (unfold faultTenant; (try dsimp only); (repeat' split) <;> simp)

@[simp] theorem setPower_frame (s : State) (n : Nat) :
    (setPower s n).glob = s.glob ∧ (setPower s n).otp = s.otp ∧ (setPower s n).fw = s.fw ∧ (setPower s n).tms = s.tms
    ∧ (setPower s n).css = s.css ∧ (setPower s n).tau = s.tau ∧ (setPower s n).fab = s.fab
    ∧ (setPower s n).adm = s.adm ∧ (setPower s n).ports.cfg = s.ports.cfg ∧ (setPower s n).ports.segs = s.ports.segs
    ∧ (setPower s n).ports.can = s.ports.can ∧ (setPower s n).ports.mdcKhz = s.ports.mdcKhz
    ∧ (setPower s n).ports.mdioNoPreamble = s.ports.mdioNoPreamble ∧ (setPower s n).ports.heldOut = s.ports.heldOut
    ∧ (setPower s n).ports.counters = s.ports.counters ∧ (setPower s n).ports.banks = s.ports.banks
    ∧ (setPower s n).ine = s.ine ∧ (setPower s n).lgb = s.lgb ∧ (setPower s n).far = s.far
    ∧ (setPower s n).isl = s.isl ∧ (setPower s n).host = s.host ∧ (setPower s n).pwc.phase = s.pwc.phase
    ∧ (setPower s n).pwc.permitted = s.pwc.permitted ∧ (setPower s n).pwc.cfg = s.pwc.cfg
    ∧ (setPower s n).pwc.keepers = s.pwc.keepers ∧ (setPower s n).pwc.sleep = s.pwc.sleep
    ∧ (setPower s n).pwc.limiter = s.pwc.limiter ∧ (setPower s n).pwc.inh = s.pwc.inh
    ∧ (setPower s n).pwc.timer = s.pwc.timer ∧ (setPower s n).pwc.wakeOut = s.pwc.wakeOut
    ∧ (setPower s n).pwc.entry = s.pwc.entry ∧ (setPower s n).pwc.attempts = s.pwc.attempts
    ∧ (setPower s n).pwc.pgs = s.pwc.pgs ∧ (setPower s n).pwc.heldWake = s.pwc.heldWake
    ∧ (setPower s n).pwc.armed = s.pwc.armed ∧ (setPower s n).pwc.rstoutLow = s.pwc.rstoutLow
    ∧ (setPower s n).pwc.graceOn = s.pwc.graceOn ∧ (setPower s n).pwc.lastKa = s.pwc.lastKa
    ∧ (setPower s n).pwc.wakeSw = s.pwc.wakeSw ∧ (setPower s n).pwc.pfail = s.pwc.pfail ∧ (setPower s n).evr = s.evr
    ∧ (setPower s n).agm = s.agm ∧ (setPower s n).wire = s.wire ∧ (setPower s n).mono = s.mono
    ∧ (setPower s n).monoFrac = s.monoFrac ∧ (setPower s n).draws = s.draws ∧ (setPower s n).pending = s.pending := by
  and_intros <;> (unfold setPower; (try dsimp only); (repeat' split) <;> simp)

@[simp] theorem napEnd_frame (s : State) :
    (napEnd s).glob = s.glob ∧ (napEnd s).otp = s.otp ∧ (napEnd s).fw = s.fw ∧ (napEnd s).tms = s.tms
    ∧ (napEnd s).css = s.css ∧ (napEnd s).tau = s.tau ∧ (napEnd s).fab = s.fab ∧ (napEnd s).adm = s.adm
    ∧ (napEnd s).ports.cfg = s.ports.cfg ∧ (napEnd s).ports.segs = s.ports.segs ∧ (napEnd s).ports.can = s.ports.can
    ∧ (napEnd s).ports.mdcKhz = s.ports.mdcKhz ∧ (napEnd s).ports.mdioNoPreamble = s.ports.mdioNoPreamble
    ∧ (napEnd s).ports.heldOut = s.ports.heldOut ∧ (napEnd s).ports.counters = s.ports.counters
    ∧ (napEnd s).ports.banks = s.ports.banks ∧ (napEnd s).ine = s.ine ∧ (napEnd s).lgb = s.lgb
    ∧ (napEnd s).far = s.far ∧ (napEnd s).isl = s.isl ∧ (napEnd s).host = s.host ∧ (napEnd s).pwc.phase = s.pwc.phase
    ∧ (napEnd s).pwc.permitted = s.pwc.permitted ∧ (napEnd s).pwc.cfg = s.pwc.cfg
    ∧ (napEnd s).pwc.keepers = s.pwc.keepers ∧ (napEnd s).pwc.sleep = s.pwc.sleep
    ∧ (napEnd s).pwc.limiter = s.pwc.limiter ∧ (napEnd s).pwc.inh = s.pwc.inh ∧ (napEnd s).pwc.timer = s.pwc.timer
    ∧ (napEnd s).pwc.wakeOut = s.pwc.wakeOut ∧ (napEnd s).pwc.entry = s.pwc.entry
    ∧ (napEnd s).pwc.attempts = s.pwc.attempts ∧ (napEnd s).pwc.pgs = s.pwc.pgs
    ∧ (napEnd s).pwc.heldWake = s.pwc.heldWake ∧ (napEnd s).pwc.armed = s.pwc.armed
    ∧ (napEnd s).pwc.rstoutLow = s.pwc.rstoutLow ∧ (napEnd s).pwc.graceOn = s.pwc.graceOn
    ∧ (napEnd s).pwc.lastKa = s.pwc.lastKa ∧ (napEnd s).pwc.wakeSw = s.pwc.wakeSw ∧ (napEnd s).pwc.pfail = s.pwc.pfail
    ∧ (napEnd s).evr = s.evr ∧ (napEnd s).agm = s.agm ∧ (napEnd s).wire = s.wire ∧ (napEnd s).mono = s.mono
    ∧ (napEnd s).monoFrac = s.monoFrac ∧ (napEnd s).draws = s.draws ∧ (napEnd s).pending = s.pending := by
  and_intros <;> (unfold napEnd; (try dsimp only); (repeat' split) <;> simp)

@[simp] theorem putResponse_frame (s : State) (t : Nat) (r : Response) (b : Bool) :
    (putResponse s t r b).glob = s.glob ∧ (putResponse s t r b).otp = s.otp ∧ (putResponse s t r b).fw = s.fw
    ∧ (putResponse s t r b).tms = s.tms ∧ (putResponse s t r b).css = s.css ∧ (putResponse s t r b).tau = s.tau
    ∧ (putResponse s t r b).fab = s.fab ∧ (putResponse s t r b).adm = s.adm ∧ (putResponse s t r b).ports = s.ports
    ∧ (putResponse s t r b).ine = s.ine ∧ (putResponse s t r b).lgb = s.lgb ∧ (putResponse s t r b).far = s.far
    ∧ (putResponse s t r b).isl = s.isl ∧ (putResponse s t r b).host.steering = s.host.steering
    ∧ (putResponse s t r b).host.msix = s.host.msix ∧ (putResponse s t r b).host.served = s.host.served
    ∧ (putResponse s t r b).host.counterOk = s.host.counterOk ∧ (putResponse s t r b).host.spiUsed = s.host.spiUsed
    ∧ (putResponse s t r b).pwc = s.pwc ∧ (putResponse s t r b).evr = s.evr ∧ (putResponse s t r b).agm = s.agm
    ∧ (putResponse s t r b).mono = s.mono ∧ (putResponse s t r b).monoFrac = s.monoFrac
    ∧ (putResponse s t r b).draws = s.draws ∧ (putResponse s t r b).pending = s.pending := by
  and_intros <;> (unfold putResponse; (try dsimp only); (repeat' split) <;> simp)

@[simp] theorem foldl_putResponse_frame (s : State) (l : List Word) (t : Nat) (g : Word → Response) (b : Bool) :
    (l.foldl (fun s tag => putResponse s t (g tag) b) s).glob = s.glob
    ∧ (l.foldl (fun s tag => putResponse s t (g tag) b) s).otp = s.otp
    ∧ (l.foldl (fun s tag => putResponse s t (g tag) b) s).fw = s.fw
    ∧ (l.foldl (fun s tag => putResponse s t (g tag) b) s).tms = s.tms
    ∧ (l.foldl (fun s tag => putResponse s t (g tag) b) s).css = s.css
    ∧ (l.foldl (fun s tag => putResponse s t (g tag) b) s).tau = s.tau
    ∧ (l.foldl (fun s tag => putResponse s t (g tag) b) s).fab = s.fab
    ∧ (l.foldl (fun s tag => putResponse s t (g tag) b) s).adm = s.adm
    ∧ (l.foldl (fun s tag => putResponse s t (g tag) b) s).ports = s.ports
    ∧ (l.foldl (fun s tag => putResponse s t (g tag) b) s).ine = s.ine
    ∧ (l.foldl (fun s tag => putResponse s t (g tag) b) s).lgb = s.lgb
    ∧ (l.foldl (fun s tag => putResponse s t (g tag) b) s).far = s.far
    ∧ (l.foldl (fun s tag => putResponse s t (g tag) b) s).isl = s.isl
    ∧ (l.foldl (fun s tag => putResponse s t (g tag) b) s).host.steering = s.host.steering
    ∧ (l.foldl (fun s tag => putResponse s t (g tag) b) s).host.msix = s.host.msix
    ∧ (l.foldl (fun s tag => putResponse s t (g tag) b) s).host.served = s.host.served
    ∧ (l.foldl (fun s tag => putResponse s t (g tag) b) s).host.counterOk = s.host.counterOk
    ∧ (l.foldl (fun s tag => putResponse s t (g tag) b) s).host.spiUsed = s.host.spiUsed
    ∧ (l.foldl (fun s tag => putResponse s t (g tag) b) s).pwc = s.pwc
    ∧ (l.foldl (fun s tag => putResponse s t (g tag) b) s).evr = s.evr
    ∧ (l.foldl (fun s tag => putResponse s t (g tag) b) s).agm = s.agm
    ∧ (l.foldl (fun s tag => putResponse s t (g tag) b) s).mono = s.mono
    ∧ (l.foldl (fun s tag => putResponse s t (g tag) b) s).monoFrac = s.monoFrac
    ∧ (l.foldl (fun s tag => putResponse s t (g tag) b) s).draws = s.draws
    ∧ (l.foldl (fun s tag => putResponse s t (g tag) b) s).pending = s.pending := by
  induction l generalizing s with
  | nil => simp
  | cons a r ih => simp [ih]

@[simp] theorem respond_frame (s : State) (h : Hcp) (op : Nat) (st : Status) (r : Nat) (p : Bytes) :
    (respond s h op st r p).glob = s.glob ∧ (respond s h op st r p).otp = s.otp ∧ (respond s h op st r p).fw = s.fw
    ∧ (respond s h op st r p).tms = s.tms ∧ (respond s h op st r p).css = s.css ∧ (respond s h op st r p).tau = s.tau
    ∧ (respond s h op st r p).fab = s.fab ∧ (respond s h op st r p).adm = s.adm
    ∧ (respond s h op st r p).ports = s.ports ∧ (respond s h op st r p).ine = s.ine
    ∧ (respond s h op st r p).lgb = s.lgb ∧ (respond s h op st r p).far = s.far ∧ (respond s h op st r p).isl = s.isl
    ∧ (respond s h op st r p).host.steering = s.host.steering ∧ (respond s h op st r p).host.msix = s.host.msix
    ∧ (respond s h op st r p).host.served = s.host.served ∧ (respond s h op st r p).host.counterOk = s.host.counterOk
    ∧ (respond s h op st r p).host.spiUsed = s.host.spiUsed ∧ (respond s h op st r p).pwc = s.pwc
    ∧ (respond s h op st r p).evr.ready = s.evr.ready ∧ (respond s h op st r p).evr.header = s.evr.header
    ∧ (respond s h op st r p).evr.next = s.evr.next ∧ (respond s h op st r p).evr.staging = s.evr.staging
    ∧ (respond s h op st r p).evr.mem = s.evr.mem ∧ (respond s h op st r p).evr.area = s.evr.area
    ∧ (respond s h op st r p).evr.memFault = s.evr.memFault
    ∧ (respond s h op st r p).evr.unformatted = s.evr.unformatted
    ∧ (respond s h op st r p).evr.foreign = s.evr.foreign ∧ (respond s h op st r p).evr.buckets = s.evr.buckets
    ∧ (respond s h op st r p).evr.flushing = s.evr.flushing ∧ (respond s h op st r p).evr.pfailDone = s.evr.pfailDone
    ∧ (respond s h op st r p).evr.nonce = s.evr.nonce ∧ (respond s h op st r p).agm = s.agm
    ∧ (respond s h op st r p).mono = s.mono ∧ (respond s h op st r p).monoFrac = s.monoFrac
    ∧ (respond s h op st r p).draws = s.draws ∧ (respond s h op st r p).pending = s.pending := by
  and_intros <;> (unfold respond; (try dsimp only); (repeat' split) <;> simp)

@[simp] theorem countPort_frame (s : State) (p c n : Nat) :
    (countPort s p c n).glob = s.glob ∧ (countPort s p c n).otp = s.otp ∧ (countPort s p c n).fw = s.fw
    ∧ (countPort s p c n).tms = s.tms ∧ (countPort s p c n).css = s.css ∧ (countPort s p c n).tau = s.tau
    ∧ (countPort s p c n).fab = s.fab ∧ (countPort s p c n).adm = s.adm ∧ (countPort s p c n).ports.cfg = s.ports.cfg
    ∧ (countPort s p c n).ports.links = s.ports.links ∧ (countPort s p c n).ports.segs = s.ports.segs
    ∧ (countPort s p c n).ports.can = s.ports.can ∧ (countPort s p c n).ports.mdcKhz = s.ports.mdcKhz
    ∧ (countPort s p c n).ports.mdioNoPreamble = s.ports.mdioNoPreamble
    ∧ (countPort s p c n).ports.heldOut = s.ports.heldOut ∧ (countPort s p c n).ports.banks = s.ports.banks
    ∧ (countPort s p c n).ine = s.ine ∧ (countPort s p c n).lgb = s.lgb ∧ (countPort s p c n).far = s.far
    ∧ (countPort s p c n).isl = s.isl ∧ (countPort s p c n).host = s.host ∧ (countPort s p c n).pwc = s.pwc
    ∧ (countPort s p c n).evr = s.evr ∧ (countPort s p c n).agm = s.agm ∧ (countPort s p c n).wire = s.wire
    ∧ (countPort s p c n).mono = s.mono ∧ (countPort s p c n).monoFrac = s.monoFrac
    ∧ (countPort s p c n).draws = s.draws ∧ (countPort s p c n).pending = s.pending := by
  simp [countPort]

@[simp] theorem countGot_frame (s : State) (p n : Nat) (m b : Bool) :
    (countGot s p n m b).glob = s.glob ∧ (countGot s p n m b).otp = s.otp ∧ (countGot s p n m b).fw = s.fw
    ∧ (countGot s p n m b).tms = s.tms ∧ (countGot s p n m b).css = s.css ∧ (countGot s p n m b).tau = s.tau
    ∧ (countGot s p n m b).fab = s.fab ∧ (countGot s p n m b).adm = s.adm
    ∧ (countGot s p n m b).ports.cfg = s.ports.cfg ∧ (countGot s p n m b).ports.links = s.ports.links
    ∧ (countGot s p n m b).ports.segs = s.ports.segs ∧ (countGot s p n m b).ports.can = s.ports.can
    ∧ (countGot s p n m b).ports.mdcKhz = s.ports.mdcKhz
    ∧ (countGot s p n m b).ports.mdioNoPreamble = s.ports.mdioNoPreamble
    ∧ (countGot s p n m b).ports.heldOut = s.ports.heldOut ∧ (countGot s p n m b).ports.banks = s.ports.banks
    ∧ (countGot s p n m b).ine = s.ine ∧ (countGot s p n m b).lgb = s.lgb ∧ (countGot s p n m b).far = s.far
    ∧ (countGot s p n m b).isl = s.isl ∧ (countGot s p n m b).host = s.host ∧ (countGot s p n m b).pwc = s.pwc
    ∧ (countGot s p n m b).evr = s.evr ∧ (countGot s p n m b).agm = s.agm ∧ (countGot s p n m b).wire = s.wire
    ∧ (countGot s p n m b).mono = s.mono ∧ (countGot s p n m b).monoFrac = s.monoFrac
    ∧ (countGot s p n m b).draws = s.draws ∧ (countGot s p n m b).pending = s.pending := by
  and_intros <;> (unfold countGot; (try dsimp only); (repeat' split) <;> simp)

@[simp] theorem countSent_frame (s : State) (p n : Nat) (m b : Bool) :
    (countSent s p n m b).glob = s.glob ∧ (countSent s p n m b).otp = s.otp ∧ (countSent s p n m b).fw = s.fw
    ∧ (countSent s p n m b).tms = s.tms ∧ (countSent s p n m b).css = s.css ∧ (countSent s p n m b).tau = s.tau
    ∧ (countSent s p n m b).fab = s.fab ∧ (countSent s p n m b).adm = s.adm
    ∧ (countSent s p n m b).ports.cfg = s.ports.cfg ∧ (countSent s p n m b).ports.links = s.ports.links
    ∧ (countSent s p n m b).ports.segs = s.ports.segs ∧ (countSent s p n m b).ports.can = s.ports.can
    ∧ (countSent s p n m b).ports.mdcKhz = s.ports.mdcKhz
    ∧ (countSent s p n m b).ports.mdioNoPreamble = s.ports.mdioNoPreamble
    ∧ (countSent s p n m b).ports.heldOut = s.ports.heldOut ∧ (countSent s p n m b).ports.banks = s.ports.banks
    ∧ (countSent s p n m b).ine = s.ine ∧ (countSent s p n m b).lgb = s.lgb ∧ (countSent s p n m b).far = s.far
    ∧ (countSent s p n m b).isl = s.isl ∧ (countSent s p n m b).host = s.host ∧ (countSent s p n m b).pwc = s.pwc
    ∧ (countSent s p n m b).evr = s.evr ∧ (countSent s p n m b).agm = s.agm ∧ (countSent s p n m b).wire = s.wire
    ∧ (countSent s p n m b).mono = s.mono ∧ (countSent s p n m b).monoFrac = s.monoFrac
    ∧ (countSent s p n m b).draws = s.draws ∧ (countSent s p n m b).pending = s.pending := by
  and_intros <;> (unfold countSent; (try dsimp only); (repeat' split) <;> simp)

@[simp] theorem gotSent_frame (s : State) (p : Nat) (x : Sent) :
    (gotSent s p x).glob = s.glob ∧ (gotSent s p x).otp = s.otp ∧ (gotSent s p x).fw = s.fw
    ∧ (gotSent s p x).tms = s.tms ∧ (gotSent s p x).css = s.css ∧ (gotSent s p x).tau = s.tau
    ∧ (gotSent s p x).fab = s.fab ∧ (gotSent s p x).adm = s.adm ∧ (gotSent s p x).ports.cfg = s.ports.cfg
    ∧ (gotSent s p x).ports.links = s.ports.links ∧ (gotSent s p x).ports.segs = s.ports.segs
    ∧ (gotSent s p x).ports.can = s.ports.can ∧ (gotSent s p x).ports.mdcKhz = s.ports.mdcKhz
    ∧ (gotSent s p x).ports.mdioNoPreamble = s.ports.mdioNoPreamble ∧ (gotSent s p x).ports.heldOut = s.ports.heldOut
    ∧ (gotSent s p x).ports.banks = s.ports.banks ∧ (gotSent s p x).ine = s.ine ∧ (gotSent s p x).lgb = s.lgb
    ∧ (gotSent s p x).far = s.far ∧ (gotSent s p x).isl = s.isl ∧ (gotSent s p x).host = s.host
    ∧ (gotSent s p x).pwc = s.pwc ∧ (gotSent s p x).evr = s.evr ∧ (gotSent s p x).agm = s.agm
    ∧ (gotSent s p x).wire = s.wire ∧ (gotSent s p x).mono = s.mono ∧ (gotSent s p x).monoFrac = s.monoFrac
    ∧ (gotSent s p x).draws = s.draws ∧ (gotSent s p x).pending = s.pending := by
  simp [gotSent]

@[simp] theorem foldl_countSent_frame (s : State) (l : List Nat) (n : Nat) :
    (l.foldl (fun s p => countSent s p n) s).glob = s.glob ∧ (l.foldl (fun s p => countSent s p n) s).otp = s.otp
    ∧ (l.foldl (fun s p => countSent s p n) s).fw = s.fw ∧ (l.foldl (fun s p => countSent s p n) s).tms = s.tms
    ∧ (l.foldl (fun s p => countSent s p n) s).css = s.css ∧ (l.foldl (fun s p => countSent s p n) s).tau = s.tau
    ∧ (l.foldl (fun s p => countSent s p n) s).fab = s.fab ∧ (l.foldl (fun s p => countSent s p n) s).adm = s.adm
    ∧ (l.foldl (fun s p => countSent s p n) s).ports.cfg = s.ports.cfg
    ∧ (l.foldl (fun s p => countSent s p n) s).ports.links = s.ports.links
    ∧ (l.foldl (fun s p => countSent s p n) s).ports.segs = s.ports.segs
    ∧ (l.foldl (fun s p => countSent s p n) s).ports.can = s.ports.can
    ∧ (l.foldl (fun s p => countSent s p n) s).ports.mdcKhz = s.ports.mdcKhz
    ∧ (l.foldl (fun s p => countSent s p n) s).ports.mdioNoPreamble = s.ports.mdioNoPreamble
    ∧ (l.foldl (fun s p => countSent s p n) s).ports.heldOut = s.ports.heldOut
    ∧ (l.foldl (fun s p => countSent s p n) s).ports.banks = s.ports.banks
    ∧ (l.foldl (fun s p => countSent s p n) s).ine = s.ine ∧ (l.foldl (fun s p => countSent s p n) s).lgb = s.lgb
    ∧ (l.foldl (fun s p => countSent s p n) s).far = s.far ∧ (l.foldl (fun s p => countSent s p n) s).isl = s.isl
    ∧ (l.foldl (fun s p => countSent s p n) s).host = s.host ∧ (l.foldl (fun s p => countSent s p n) s).pwc = s.pwc
    ∧ (l.foldl (fun s p => countSent s p n) s).evr = s.evr ∧ (l.foldl (fun s p => countSent s p n) s).agm = s.agm
    ∧ (l.foldl (fun s p => countSent s p n) s).wire = s.wire ∧ (l.foldl (fun s p => countSent s p n) s).mono = s.mono
    ∧ (l.foldl (fun s p => countSent s p n) s).monoFrac = s.monoFrac
    ∧ (l.foldl (fun s p => countSent s p n) s).draws = s.draws
    ∧ (l.foldl (fun s p => countSent s p n) s).pending = s.pending := by
  induction l generalizing s with
  | nil => simp
  | cons a r ih => simp [ih]

@[simp] theorem emitVia_frame (s : State) (l : List Nat) (x : Sent) :
    (emitVia s l x).glob = s.glob ∧ (emitVia s l x).otp = s.otp ∧ (emitVia s l x).fw = s.fw
    ∧ (emitVia s l x).tms = s.tms ∧ (emitVia s l x).css = s.css ∧ (emitVia s l x).tau = s.tau
    ∧ (emitVia s l x).fab = s.fab ∧ (emitVia s l x).adm = s.adm ∧ (emitVia s l x).ports.cfg = s.ports.cfg
    ∧ (emitVia s l x).ports.links = s.ports.links ∧ (emitVia s l x).ports.segs = s.ports.segs
    ∧ (emitVia s l x).ports.can = s.ports.can ∧ (emitVia s l x).ports.mdcKhz = s.ports.mdcKhz
    ∧ (emitVia s l x).ports.mdioNoPreamble = s.ports.mdioNoPreamble ∧ (emitVia s l x).ports.heldOut = s.ports.heldOut
    ∧ (emitVia s l x).ports.banks = s.ports.banks ∧ (emitVia s l x).ine = s.ine ∧ (emitVia s l x).lgb = s.lgb
    ∧ (emitVia s l x).far = s.far ∧ (emitVia s l x).isl = s.isl ∧ (emitVia s l x).host = s.host
    ∧ (emitVia s l x).pwc = s.pwc ∧ (emitVia s l x).evr = s.evr ∧ (emitVia s l x).agm = s.agm
    ∧ (emitVia s l x).mono = s.mono ∧ (emitVia s l x).monoFrac = s.monoFrac ∧ (emitVia s l x).draws = s.draws
    ∧ (emitVia s l x).pending = s.pending := by
  and_intros <;> (unfold emitVia; (try dsimp only); (repeat' split) <;> simp)

@[simp] theorem foldl_countPhy_frame (s : State) (p : Nat) (l : List PhyCount) :
    (l.foldl (fun s c => countPort s p (phyCounter c) 1) s).glob = s.glob
    ∧ (l.foldl (fun s c => countPort s p (phyCounter c) 1) s).otp = s.otp
    ∧ (l.foldl (fun s c => countPort s p (phyCounter c) 1) s).fw = s.fw
    ∧ (l.foldl (fun s c => countPort s p (phyCounter c) 1) s).tms = s.tms
    ∧ (l.foldl (fun s c => countPort s p (phyCounter c) 1) s).css = s.css
    ∧ (l.foldl (fun s c => countPort s p (phyCounter c) 1) s).tau = s.tau
    ∧ (l.foldl (fun s c => countPort s p (phyCounter c) 1) s).fab = s.fab
    ∧ (l.foldl (fun s c => countPort s p (phyCounter c) 1) s).adm = s.adm
    ∧ (l.foldl (fun s c => countPort s p (phyCounter c) 1) s).ports.cfg = s.ports.cfg
    ∧ (l.foldl (fun s c => countPort s p (phyCounter c) 1) s).ports.links = s.ports.links
    ∧ (l.foldl (fun s c => countPort s p (phyCounter c) 1) s).ports.segs = s.ports.segs
    ∧ (l.foldl (fun s c => countPort s p (phyCounter c) 1) s).ports.can = s.ports.can
    ∧ (l.foldl (fun s c => countPort s p (phyCounter c) 1) s).ports.mdcKhz = s.ports.mdcKhz
    ∧ (l.foldl (fun s c => countPort s p (phyCounter c) 1) s).ports.mdioNoPreamble = s.ports.mdioNoPreamble
    ∧ (l.foldl (fun s c => countPort s p (phyCounter c) 1) s).ports.heldOut = s.ports.heldOut
    ∧ (l.foldl (fun s c => countPort s p (phyCounter c) 1) s).ports.banks = s.ports.banks
    ∧ (l.foldl (fun s c => countPort s p (phyCounter c) 1) s).ine = s.ine
    ∧ (l.foldl (fun s c => countPort s p (phyCounter c) 1) s).lgb = s.lgb
    ∧ (l.foldl (fun s c => countPort s p (phyCounter c) 1) s).far = s.far
    ∧ (l.foldl (fun s c => countPort s p (phyCounter c) 1) s).isl = s.isl
    ∧ (l.foldl (fun s c => countPort s p (phyCounter c) 1) s).host = s.host
    ∧ (l.foldl (fun s c => countPort s p (phyCounter c) 1) s).pwc = s.pwc
    ∧ (l.foldl (fun s c => countPort s p (phyCounter c) 1) s).evr = s.evr
    ∧ (l.foldl (fun s c => countPort s p (phyCounter c) 1) s).agm = s.agm
    ∧ (l.foldl (fun s c => countPort s p (phyCounter c) 1) s).wire = s.wire
    ∧ (l.foldl (fun s c => countPort s p (phyCounter c) 1) s).mono = s.mono
    ∧ (l.foldl (fun s c => countPort s p (phyCounter c) 1) s).monoFrac = s.monoFrac
    ∧ (l.foldl (fun s c => countPort s p (phyCounter c) 1) s).draws = s.draws
    ∧ (l.foldl (fun s c => countPort s p (phyCounter c) 1) s).pending = s.pending := by
  induction l generalizing s with
  | nil => simp
  | cons a r ih => simp [ih]

@[simp] theorem countPhy_frame (s : State) (p : Nat) (l : List PhyCount) :
    (countPhy s p l).glob = s.glob ∧ (countPhy s p l).otp = s.otp ∧ (countPhy s p l).fw = s.fw
    ∧ (countPhy s p l).tms = s.tms ∧ (countPhy s p l).css = s.css ∧ (countPhy s p l).tau = s.tau
    ∧ (countPhy s p l).fab = s.fab ∧ (countPhy s p l).adm = s.adm ∧ (countPhy s p l).ports.cfg = s.ports.cfg
    ∧ (countPhy s p l).ports.links = s.ports.links ∧ (countPhy s p l).ports.segs = s.ports.segs
    ∧ (countPhy s p l).ports.can = s.ports.can ∧ (countPhy s p l).ports.mdcKhz = s.ports.mdcKhz
    ∧ (countPhy s p l).ports.mdioNoPreamble = s.ports.mdioNoPreamble
    ∧ (countPhy s p l).ports.heldOut = s.ports.heldOut ∧ (countPhy s p l).ports.banks = s.ports.banks
    ∧ (countPhy s p l).ine = s.ine ∧ (countPhy s p l).lgb = s.lgb ∧ (countPhy s p l).far = s.far
    ∧ (countPhy s p l).isl = s.isl ∧ (countPhy s p l).host = s.host ∧ (countPhy s p l).pwc = s.pwc
    ∧ (countPhy s p l).evr = s.evr ∧ (countPhy s p l).agm = s.agm ∧ (countPhy s p l).wire = s.wire
    ∧ (countPhy s p l).mono = s.mono ∧ (countPhy s p l).monoFrac = s.monoFrac ∧ (countPhy s p l).draws = s.draws
    ∧ (countPhy s p l).pending = s.pending := by
  simp [countPhy]

@[simp] theorem discard_frame (s : State) (d : Discard) :
    (discard s d).glob.fwReady = s.glob.fwReady ∧ (discard s d).glob.degraded = s.glob.degraded
    ∧ (discard s d).glob.refAlarm = s.glob.refAlarm ∧ (discard s d).glob.recovery = s.glob.recovery
    ∧ (discard s d).glob.slaFault = s.glob.slaFault ∧ (discard s d).glob.poison = s.glob.poison
    ∧ (discard s d).glob.errEn = s.glob.errEn ∧ (discard s d).otp = s.otp ∧ (discard s d).fw = s.fw
    ∧ (discard s d).tms.tsValid = s.tms.tsValid ∧ (discard s d).tms.trt = s.tms.trt
    ∧ (discard s d).tms.wyt = s.tms.wyt ∧ (discard s d).tms.trtDrift = s.tms.trtDrift
    ∧ (discard s d).tms.wytDrift = s.tms.wytDrift ∧ (discard s d).tms.trtState = s.tms.trtState
    ∧ (discard s d).tms.trtEpoch = s.tms.trtEpoch ∧ (discard s d).tms.hops = s.tms.hops
    ∧ (discard s d).tms.upstream = s.tms.upstream ∧ (discard s d).tms.leaderId = s.tms.leaderId
    ∧ (discard s d).tms.domainEpoch = s.tms.domainEpoch ∧ (discard s d).tms.wytState = s.tms.wytState
    ∧ (discard s d).tms.wytDom = s.tms.wytDom ∧ (discard s d).tms.domains = s.tms.domains
    ∧ (discard s d).tms.links = s.tms.links ∧ (discard s d).tms.cfg = s.tms.cfg
    ∧ (discard s d).tms.cfgNext = s.tms.cfgNext ∧ (discard s d).tms.refSource = s.tms.refSource
    ∧ (discard s d).tms.xinFault = s.tms.xinFault ∧ (discard s d).tms.refGood = s.tms.refGood
    ∧ (discard s d).tms.trtHoldSince = s.tms.trtHoldSince ∧ (discard s d).tms.wytHoldSince = s.tms.wytHoldSince
    ∧ (discard s d).tms.ppsFallAt = s.tms.ppsFallAt ∧ (discard s d).tms.manualTrt = s.tms.manualTrt
    ∧ (discard s d).tms.manualWyt = s.tms.manualWyt ∧ (discard s d).tms.mergeStep = s.tms.mergeStep
    ∧ (discard s d).tms.aligned = s.tms.aligned ∧ (discard s d).css.state = s.css.state
    ∧ (discard s d).css.stopReason = s.css.stopReason ∧ (discard s d).css.image = s.css.image
    ∧ (discard s d).css.slots = s.css.slots ∧ (discard s d).css.windows = s.css.windows
    ∧ (discard s d).css.gates = s.css.gates ∧ (discard s d).css.pan = s.css.pan
    ∧ (discard s d).css.panStart = s.css.panStart ∧ (discard s d).css.origin = s.css.origin
    ∧ (discard s d).css.leader = s.css.leader ∧ (discard s d).css.slotsRun = s.css.slotsRun
    ∧ (discard s d).css.stopPan = s.css.stopPan ∧ (discard s d).css.followed = s.css.followed
    ∧ (discard s d).css.capable = s.css.capable ∧ (discard s d).css.leaderless = s.css.leaderless
    ∧ (discard s d).css.guardEff = s.css.guardEff ∧ (discard s d).css.guardCfg = s.css.guardCfg
    ∧ (discard s d).css.localStop = s.css.localStop ∧ (discard s d).css.fits = s.css.fits
    ∧ (discard s d).css.loads = s.css.loads ∧ (discard s d).tau = s.tau ∧ (discard s d).fab.held = s.fab.held
    ∧ (discard s d).fab.queues = s.fab.queues ∧ (discard s d).fab.streams = s.fab.streams
    ∧ (discard s d).fab.lanes = s.fab.lanes ∧ (discard s d).fab.fdb = s.fab.fdb
    ∧ (discard s d).fab.vlans = s.fab.vlans ∧ (discard s d).fab.portUsed = s.fab.portUsed
    ∧ (discard s d).fab.cls = s.fab.cls ∧ (discard s d).fab.sluices = s.fab.sluices
    ∧ (discard s d).fab.recovery = s.fab.recovery ∧ (discard s d).fab.prp = s.fab.prp ∧ (discard s d).adm = s.adm
    ∧ (discard s d).ports.cfg = s.ports.cfg ∧ (discard s d).ports.links = s.ports.links
    ∧ (discard s d).ports.segs = s.ports.segs ∧ (discard s d).ports.can = s.ports.can
    ∧ (discard s d).ports.mdcKhz = s.ports.mdcKhz ∧ (discard s d).ports.mdioNoPreamble = s.ports.mdioNoPreamble
    ∧ (discard s d).ports.heldOut = s.ports.heldOut ∧ (discard s d).ports.banks = s.ports.banks
    ∧ (discard s d).ine.state = s.ine.state ∧ (discard s d).ine.mode = s.ine.mode
    ∧ (discard s d).ine.topo = s.ine.topo ∧ (discard s d).ine.ident = s.ine.ident
    ∧ (discard s d).ine.nodes = s.ine.nodes ∧ (discard s d).ine.position = s.ine.position
    ∧ (discard s d).ine.car = s.ine.car ∧ (discard s d).ine.twin = s.ine.twin ∧ (discard s d).ine.run = s.ine.run
    ∧ (discard s d).ine.inhibited = s.ine.inhibited ∧ (discard s d).ine.lead = s.ine.lead
    ∧ (discard s d).ine.statics = s.ine.statics ∧ (discard s d).ine.result = s.ine.result ∧ (discard s d).lgb = s.lgb
    ∧ (discard s d).far = s.far ∧ (discard s d).isl = s.isl ∧ (discard s d).host.tenants = s.host.tenants
    ∧ (discard s d).host.steering = s.host.steering ∧ (discard s d).host.msix = s.host.msix
    ∧ (discard s d).host.served = s.host.served ∧ (discard s d).host.counterOk = s.host.counterOk
    ∧ (discard s d).host.spiUsed = s.host.spiUsed ∧ (discard s d).pwc.phase = s.pwc.phase
    ∧ (discard s d).pwc.state = s.pwc.state ∧ (discard s d).pwc.permitted = s.pwc.permitted
    ∧ (discard s d).pwc.cfg = s.pwc.cfg ∧ (discard s d).pwc.keepers = s.pwc.keepers
    ∧ (discard s d).pwc.sleep = s.pwc.sleep ∧ (discard s d).pwc.limiter = s.pwc.limiter
    ∧ (discard s d).pwc.inh = s.pwc.inh ∧ (discard s d).pwc.timer = s.pwc.timer
    ∧ (discard s d).pwc.wakeOut = s.pwc.wakeOut ∧ (discard s d).pwc.entry = s.pwc.entry
    ∧ (discard s d).pwc.attempts = s.pwc.attempts ∧ (discard s d).pwc.pgs = s.pwc.pgs
    ∧ (discard s d).pwc.heldWake = s.pwc.heldWake ∧ (discard s d).pwc.armed = s.pwc.armed
    ∧ (discard s d).pwc.rstoutLow = s.pwc.rstoutLow ∧ (discard s d).pwc.graceOn = s.pwc.graceOn
    ∧ (discard s d).pwc.lastKa = s.pwc.lastKa ∧ (discard s d).pwc.wakeSw = s.pwc.wakeSw
    ∧ (discard s d).pwc.pfail = s.pwc.pfail ∧ (discard s d).evr.ready = s.evr.ready
    ∧ (discard s d).evr.header = s.evr.header ∧ (discard s d).evr.mem = s.evr.mem
    ∧ (discard s d).evr.area = s.evr.area ∧ (discard s d).evr.counterWrites = s.evr.counterWrites
    ∧ (discard s d).evr.memFault = s.evr.memFault ∧ (discard s d).evr.unformatted = s.evr.unformatted
    ∧ (discard s d).evr.foreign = s.evr.foreign ∧ (discard s d).evr.flushing = s.evr.flushing
    ∧ (discard s d).evr.pfailDone = s.evr.pfailDone ∧ (discard s d).evr.nonce = s.evr.nonce
    ∧ (discard s d).agm.cfg = s.agm.cfg ∧ (discard s d).agm.margin = s.agm.margin
    ∧ (discard s d).agm.avsState = s.agm.avsState ∧ (discard s d).agm.guardAdd = s.agm.guardAdd
    ∧ (discard s d).agm.settling = s.agm.settling ∧ (discard s d).agm.measuring = s.agm.measuring
    ∧ (discard s d).agm.replicas = s.agm.replicas ∧ (discard s d).agm.dayCount = s.agm.dayCount
    ∧ (discard s d).wire = s.wire ∧ (discard s d).mono = s.mono ∧ (discard s d).monoFrac = s.monoFrac
    ∧ (discard s d).draws = s.draws ∧ (discard s d).pending = s.pending := by
  simp only [discard]; split <;> simp

@[simp] theorem uncorrectable_frame (s : State) (m w : Nat) :
    (uncorrectable s m w).glob.fwReady = s.glob.fwReady ∧ (uncorrectable s m w).glob.degraded = s.glob.degraded
    ∧ (uncorrectable s m w).glob.refAlarm = s.glob.refAlarm ∧ (uncorrectable s m w).glob.recovery = s.glob.recovery
    ∧ (uncorrectable s m w).glob.slaFault = s.glob.slaFault ∧ (uncorrectable s m w).glob.errEn = s.glob.errEn
    ∧ (uncorrectable s m w).otp = s.otp ∧ (uncorrectable s m w).fw = s.fw
    ∧ (uncorrectable s m w).tms.tsValid = s.tms.tsValid ∧ (uncorrectable s m w).tms.trt = s.tms.trt
    ∧ (uncorrectable s m w).tms.wyt = s.tms.wyt ∧ (uncorrectable s m w).tms.trtDrift = s.tms.trtDrift
    ∧ (uncorrectable s m w).tms.wytDrift = s.tms.wytDrift ∧ (uncorrectable s m w).tms.trtState = s.tms.trtState
    ∧ (uncorrectable s m w).tms.trtEpoch = s.tms.trtEpoch ∧ (uncorrectable s m w).tms.hops = s.tms.hops
    ∧ (uncorrectable s m w).tms.upstream = s.tms.upstream ∧ (uncorrectable s m w).tms.leaderId = s.tms.leaderId
    ∧ (uncorrectable s m w).tms.domainEpoch = s.tms.domainEpoch ∧ (uncorrectable s m w).tms.wytState = s.tms.wytState
    ∧ (uncorrectable s m w).tms.wytDom = s.tms.wytDom ∧ (uncorrectable s m w).tms.domains = s.tms.domains
    ∧ (uncorrectable s m w).tms.links = s.tms.links ∧ (uncorrectable s m w).tms.cfg = s.tms.cfg
    ∧ (uncorrectable s m w).tms.cfgNext = s.tms.cfgNext ∧ (uncorrectable s m w).tms.refSource = s.tms.refSource
    ∧ (uncorrectable s m w).tms.xinFault = s.tms.xinFault ∧ (uncorrectable s m w).tms.refGood = s.tms.refGood
    ∧ (uncorrectable s m w).tms.trtHoldSince = s.tms.trtHoldSince
    ∧ (uncorrectable s m w).tms.wytHoldSince = s.tms.wytHoldSince
    ∧ (uncorrectable s m w).tms.ppsFallAt = s.tms.ppsFallAt ∧ (uncorrectable s m w).tms.manualTrt = s.tms.manualTrt
    ∧ (uncorrectable s m w).tms.manualWyt = s.tms.manualWyt ∧ (uncorrectable s m w).tms.mergeStep = s.tms.mergeStep
    ∧ (uncorrectable s m w).tms.aligned = s.tms.aligned ∧ (uncorrectable s m w).css.state = s.css.state
    ∧ (uncorrectable s m w).css.stopReason = s.css.stopReason ∧ (uncorrectable s m w).css.image = s.css.image
    ∧ (uncorrectable s m w).css.slots = s.css.slots ∧ (uncorrectable s m w).css.windows = s.css.windows
    ∧ (uncorrectable s m w).css.gates = s.css.gates ∧ (uncorrectable s m w).css.pan = s.css.pan
    ∧ (uncorrectable s m w).css.panStart = s.css.panStart ∧ (uncorrectable s m w).css.origin = s.css.origin
    ∧ (uncorrectable s m w).css.leader = s.css.leader ∧ (uncorrectable s m w).css.slotsRun = s.css.slotsRun
    ∧ (uncorrectable s m w).css.stopPan = s.css.stopPan ∧ (uncorrectable s m w).css.followed = s.css.followed
    ∧ (uncorrectable s m w).css.capable = s.css.capable ∧ (uncorrectable s m w).css.leaderless = s.css.leaderless
    ∧ (uncorrectable s m w).css.guardEff = s.css.guardEff ∧ (uncorrectable s m w).css.guardCfg = s.css.guardCfg
    ∧ (uncorrectable s m w).css.localStop = s.css.localStop ∧ (uncorrectable s m w).css.fits = s.css.fits
    ∧ (uncorrectable s m w).css.loads = s.css.loads ∧ (uncorrectable s m w).tau = s.tau
    ∧ (uncorrectable s m w).fab.held = s.fab.held ∧ (uncorrectable s m w).fab.queues = s.fab.queues
    ∧ (uncorrectable s m w).fab.streams = s.fab.streams ∧ (uncorrectable s m w).fab.lanes = s.fab.lanes
    ∧ (uncorrectable s m w).fab.fdb = s.fab.fdb ∧ (uncorrectable s m w).fab.vlans = s.fab.vlans
    ∧ (uncorrectable s m w).fab.portUsed = s.fab.portUsed ∧ (uncorrectable s m w).fab.cls = s.fab.cls
    ∧ (uncorrectable s m w).fab.sluices = s.fab.sluices ∧ (uncorrectable s m w).fab.recovery = s.fab.recovery
    ∧ (uncorrectable s m w).fab.prp = s.fab.prp ∧ (uncorrectable s m w).adm = s.adm
    ∧ (uncorrectable s m w).ports = s.ports ∧ (uncorrectable s m w).ine.state = s.ine.state
    ∧ (uncorrectable s m w).ine.mode = s.ine.mode ∧ (uncorrectable s m w).ine.topo = s.ine.topo
    ∧ (uncorrectable s m w).ine.ident = s.ine.ident ∧ (uncorrectable s m w).ine.nodes = s.ine.nodes
    ∧ (uncorrectable s m w).ine.position = s.ine.position ∧ (uncorrectable s m w).ine.car = s.ine.car
    ∧ (uncorrectable s m w).ine.twin = s.ine.twin ∧ (uncorrectable s m w).ine.run = s.ine.run
    ∧ (uncorrectable s m w).ine.inhibited = s.ine.inhibited ∧ (uncorrectable s m w).ine.lead = s.ine.lead
    ∧ (uncorrectable s m w).ine.statics = s.ine.statics ∧ (uncorrectable s m w).ine.result = s.ine.result
    ∧ (uncorrectable s m w).lgb = s.lgb ∧ (uncorrectable s m w).far = s.far ∧ (uncorrectable s m w).isl = s.isl
    ∧ (uncorrectable s m w).host.tenants = s.host.tenants ∧ (uncorrectable s m w).host.steering = s.host.steering
    ∧ (uncorrectable s m w).host.msix = s.host.msix ∧ (uncorrectable s m w).host.served = s.host.served
    ∧ (uncorrectable s m w).host.counterOk = s.host.counterOk ∧ (uncorrectable s m w).host.spiUsed = s.host.spiUsed
    ∧ (uncorrectable s m w).pwc.phase = s.pwc.phase ∧ (uncorrectable s m w).pwc.state = s.pwc.state
    ∧ (uncorrectable s m w).pwc.permitted = s.pwc.permitted ∧ (uncorrectable s m w).pwc.cfg = s.pwc.cfg
    ∧ (uncorrectable s m w).pwc.keepers = s.pwc.keepers ∧ (uncorrectable s m w).pwc.sleep = s.pwc.sleep
    ∧ (uncorrectable s m w).pwc.limiter = s.pwc.limiter ∧ (uncorrectable s m w).pwc.inh = s.pwc.inh
    ∧ (uncorrectable s m w).pwc.timer = s.pwc.timer ∧ (uncorrectable s m w).pwc.wakeOut = s.pwc.wakeOut
    ∧ (uncorrectable s m w).pwc.entry = s.pwc.entry ∧ (uncorrectable s m w).pwc.attempts = s.pwc.attempts
    ∧ (uncorrectable s m w).pwc.pgs = s.pwc.pgs ∧ (uncorrectable s m w).pwc.heldWake = s.pwc.heldWake
    ∧ (uncorrectable s m w).pwc.armed = s.pwc.armed ∧ (uncorrectable s m w).pwc.rstoutLow = s.pwc.rstoutLow
    ∧ (uncorrectable s m w).pwc.graceOn = s.pwc.graceOn ∧ (uncorrectable s m w).pwc.lastKa = s.pwc.lastKa
    ∧ (uncorrectable s m w).pwc.wakeSw = s.pwc.wakeSw ∧ (uncorrectable s m w).pwc.pfail = s.pwc.pfail
    ∧ (uncorrectable s m w).evr.ready = s.evr.ready ∧ (uncorrectable s m w).evr.header = s.evr.header
    ∧ (uncorrectable s m w).evr.mem = s.evr.mem ∧ (uncorrectable s m w).evr.area = s.evr.area
    ∧ (uncorrectable s m w).evr.counterWrites = s.evr.counterWrites
    ∧ (uncorrectable s m w).evr.memFault = s.evr.memFault ∧ (uncorrectable s m w).evr.unformatted = s.evr.unformatted
    ∧ (uncorrectable s m w).evr.foreign = s.evr.foreign ∧ (uncorrectable s m w).evr.flushing = s.evr.flushing
    ∧ (uncorrectable s m w).evr.pfailDone = s.evr.pfailDone ∧ (uncorrectable s m w).evr.nonce = s.evr.nonce
    ∧ (uncorrectable s m w).agm.cfg = s.agm.cfg ∧ (uncorrectable s m w).agm.margin = s.agm.margin
    ∧ (uncorrectable s m w).agm.avsState = s.agm.avsState ∧ (uncorrectable s m w).agm.guardAdd = s.agm.guardAdd
    ∧ (uncorrectable s m w).agm.settling = s.agm.settling ∧ (uncorrectable s m w).agm.measuring = s.agm.measuring
    ∧ (uncorrectable s m w).agm.replicas = s.agm.replicas ∧ (uncorrectable s m w).agm.dayCount = s.agm.dayCount
    ∧ (uncorrectable s m w).wire = s.wire ∧ (uncorrectable s m w).mono = s.mono
    ∧ (uncorrectable s m w).monoFrac = s.monoFrac ∧ (uncorrectable s m w).draws = s.draws
    ∧ (uncorrectable s m w).pending = s.pending := by
  simp [uncorrectable, eccCapture]; try split <;> simp

@[simp] theorem correctable_frame (s : State) (m w : Nat) :
    (correctable s m w).glob.fwReady = s.glob.fwReady ∧ (correctable s m w).glob.degraded = s.glob.degraded
    ∧ (correctable s m w).glob.refAlarm = s.glob.refAlarm ∧ (correctable s m w).glob.recovery = s.glob.recovery
    ∧ (correctable s m w).glob.slaFault = s.glob.slaFault ∧ (correctable s m w).glob.errEn = s.glob.errEn
    ∧ (correctable s m w).otp = s.otp ∧ (correctable s m w).fw = s.fw
    ∧ (correctable s m w).tms.tsValid = s.tms.tsValid ∧ (correctable s m w).tms.trt = s.tms.trt
    ∧ (correctable s m w).tms.wyt = s.tms.wyt ∧ (correctable s m w).tms.trtDrift = s.tms.trtDrift
    ∧ (correctable s m w).tms.wytDrift = s.tms.wytDrift ∧ (correctable s m w).tms.trtState = s.tms.trtState
    ∧ (correctable s m w).tms.trtEpoch = s.tms.trtEpoch ∧ (correctable s m w).tms.hops = s.tms.hops
    ∧ (correctable s m w).tms.upstream = s.tms.upstream ∧ (correctable s m w).tms.leaderId = s.tms.leaderId
    ∧ (correctable s m w).tms.domainEpoch = s.tms.domainEpoch ∧ (correctable s m w).tms.wytState = s.tms.wytState
    ∧ (correctable s m w).tms.wytDom = s.tms.wytDom ∧ (correctable s m w).tms.domains = s.tms.domains
    ∧ (correctable s m w).tms.links = s.tms.links ∧ (correctable s m w).tms.cfg = s.tms.cfg
    ∧ (correctable s m w).tms.cfgNext = s.tms.cfgNext ∧ (correctable s m w).tms.refSource = s.tms.refSource
    ∧ (correctable s m w).tms.xinFault = s.tms.xinFault ∧ (correctable s m w).tms.refGood = s.tms.refGood
    ∧ (correctable s m w).tms.trtHoldSince = s.tms.trtHoldSince
    ∧ (correctable s m w).tms.wytHoldSince = s.tms.wytHoldSince ∧ (correctable s m w).tms.ppsFallAt = s.tms.ppsFallAt
    ∧ (correctable s m w).tms.manualTrt = s.tms.manualTrt ∧ (correctable s m w).tms.manualWyt = s.tms.manualWyt
    ∧ (correctable s m w).tms.mergeStep = s.tms.mergeStep ∧ (correctable s m w).tms.aligned = s.tms.aligned
    ∧ (correctable s m w).css.state = s.css.state ∧ (correctable s m w).css.stopReason = s.css.stopReason
    ∧ (correctable s m w).css.image = s.css.image ∧ (correctable s m w).css.slots = s.css.slots
    ∧ (correctable s m w).css.windows = s.css.windows ∧ (correctable s m w).css.gates = s.css.gates
    ∧ (correctable s m w).css.pan = s.css.pan ∧ (correctable s m w).css.panStart = s.css.panStart
    ∧ (correctable s m w).css.origin = s.css.origin ∧ (correctable s m w).css.leader = s.css.leader
    ∧ (correctable s m w).css.slotsRun = s.css.slotsRun ∧ (correctable s m w).css.stopPan = s.css.stopPan
    ∧ (correctable s m w).css.followed = s.css.followed ∧ (correctable s m w).css.capable = s.css.capable
    ∧ (correctable s m w).css.leaderless = s.css.leaderless ∧ (correctable s m w).css.guardEff = s.css.guardEff
    ∧ (correctable s m w).css.guardCfg = s.css.guardCfg ∧ (correctable s m w).css.localStop = s.css.localStop
    ∧ (correctable s m w).css.fits = s.css.fits ∧ (correctable s m w).css.loads = s.css.loads
    ∧ (correctable s m w).tau = s.tau ∧ (correctable s m w).fab.held = s.fab.held
    ∧ (correctable s m w).fab.queues = s.fab.queues ∧ (correctable s m w).fab.streams = s.fab.streams
    ∧ (correctable s m w).fab.lanes = s.fab.lanes ∧ (correctable s m w).fab.fdb = s.fab.fdb
    ∧ (correctable s m w).fab.vlans = s.fab.vlans ∧ (correctable s m w).fab.portUsed = s.fab.portUsed
    ∧ (correctable s m w).fab.cls = s.fab.cls ∧ (correctable s m w).fab.sluices = s.fab.sluices
    ∧ (correctable s m w).fab.recovery = s.fab.recovery ∧ (correctable s m w).fab.prp = s.fab.prp
    ∧ (correctable s m w).adm = s.adm ∧ (correctable s m w).ports = s.ports
    ∧ (correctable s m w).ine.state = s.ine.state ∧ (correctable s m w).ine.mode = s.ine.mode
    ∧ (correctable s m w).ine.topo = s.ine.topo ∧ (correctable s m w).ine.ident = s.ine.ident
    ∧ (correctable s m w).ine.nodes = s.ine.nodes ∧ (correctable s m w).ine.position = s.ine.position
    ∧ (correctable s m w).ine.car = s.ine.car ∧ (correctable s m w).ine.twin = s.ine.twin
    ∧ (correctable s m w).ine.run = s.ine.run ∧ (correctable s m w).ine.inhibited = s.ine.inhibited
    ∧ (correctable s m w).ine.lead = s.ine.lead ∧ (correctable s m w).ine.statics = s.ine.statics
    ∧ (correctable s m w).ine.result = s.ine.result ∧ (correctable s m w).lgb = s.lgb
    ∧ (correctable s m w).far = s.far ∧ (correctable s m w).isl = s.isl
    ∧ (correctable s m w).host.tenants = s.host.tenants ∧ (correctable s m w).host.steering = s.host.steering
    ∧ (correctable s m w).host.msix = s.host.msix ∧ (correctable s m w).host.served = s.host.served
    ∧ (correctable s m w).host.counterOk = s.host.counterOk ∧ (correctable s m w).host.spiUsed = s.host.spiUsed
    ∧ (correctable s m w).pwc.phase = s.pwc.phase ∧ (correctable s m w).pwc.state = s.pwc.state
    ∧ (correctable s m w).pwc.permitted = s.pwc.permitted ∧ (correctable s m w).pwc.cfg = s.pwc.cfg
    ∧ (correctable s m w).pwc.keepers = s.pwc.keepers ∧ (correctable s m w).pwc.sleep = s.pwc.sleep
    ∧ (correctable s m w).pwc.limiter = s.pwc.limiter ∧ (correctable s m w).pwc.inh = s.pwc.inh
    ∧ (correctable s m w).pwc.timer = s.pwc.timer ∧ (correctable s m w).pwc.wakeOut = s.pwc.wakeOut
    ∧ (correctable s m w).pwc.entry = s.pwc.entry ∧ (correctable s m w).pwc.attempts = s.pwc.attempts
    ∧ (correctable s m w).pwc.pgs = s.pwc.pgs ∧ (correctable s m w).pwc.heldWake = s.pwc.heldWake
    ∧ (correctable s m w).pwc.armed = s.pwc.armed ∧ (correctable s m w).pwc.rstoutLow = s.pwc.rstoutLow
    ∧ (correctable s m w).pwc.graceOn = s.pwc.graceOn ∧ (correctable s m w).pwc.lastKa = s.pwc.lastKa
    ∧ (correctable s m w).pwc.wakeSw = s.pwc.wakeSw ∧ (correctable s m w).pwc.pfail = s.pwc.pfail
    ∧ (correctable s m w).evr.ready = s.evr.ready ∧ (correctable s m w).evr.header = s.evr.header
    ∧ (correctable s m w).evr.next = s.evr.next ∧ (correctable s m w).evr.staging = s.evr.staging
    ∧ (correctable s m w).evr.mem = s.evr.mem ∧ (correctable s m w).evr.area = s.evr.area
    ∧ (correctable s m w).evr.counterWrites = s.evr.counterWrites ∧ (correctable s m w).evr.memFault = s.evr.memFault
    ∧ (correctable s m w).evr.unformatted = s.evr.unformatted ∧ (correctable s m w).evr.foreign = s.evr.foreign
    ∧ (correctable s m w).evr.buckets = s.evr.buckets ∧ (correctable s m w).evr.flushing = s.evr.flushing
    ∧ (correctable s m w).evr.pfailDone = s.evr.pfailDone ∧ (correctable s m w).evr.nonce = s.evr.nonce
    ∧ (correctable s m w).agm.cfg = s.agm.cfg ∧ (correctable s m w).agm.margin = s.agm.margin
    ∧ (correctable s m w).agm.avsState = s.agm.avsState ∧ (correctable s m w).agm.guardAdd = s.agm.guardAdd
    ∧ (correctable s m w).agm.settling = s.agm.settling ∧ (correctable s m w).agm.measuring = s.agm.measuring
    ∧ (correctable s m w).agm.replicas = s.agm.replicas ∧ (correctable s m w).agm.dayCount = s.agm.dayCount
    ∧ (correctable s m w).wire = s.wire ∧ (correctable s m w).mono = s.mono
    ∧ (correctable s m w).monoFrac = s.monoFrac ∧ (correctable s m w).draws = s.draws
    ∧ (correctable s m w).pending = s.pending := by
  simp [correctable, eccCapture]; try split <;> simp

/-- What one corrected read keeps, any number of them keeps. -/
theorem readsCorrected_keeps {α : Type} (f : State → α) (m : Nat) (h : ∀ s w, f (correctable s m w) = f s) (s : State)
    (ws : List Nat) : f (readsCorrected s m ws) = f s := by
  unfold readsCorrected
  induction ws generalizing s with
  | nil => rfl
  | cons w ws ih => rw [List.foldl_cons, ih, h]

@[simp] theorem readsCorrected_fw (s : State) (m : Nat) (ws : List Nat) : (readsCorrected s m ws).fw = s.fw :=
  readsCorrected_keeps _ m (by simp) s ws

@[simp] theorem readsCorrected_wire (s : State) (m : Nat) (ws : List Nat) : (readsCorrected s m ws).wire = s.wire :=
  readsCorrected_keeps _ m (by simp) s ws

@[simp] theorem readsCorrected_pending (s : State) (m : Nat) (ws : List Nat) :
    (readsCorrected s m ws).pending = s.pending :=
  readsCorrected_keeps _ m (by simp) s ws

@[simp] theorem unpoison_frame (s : State) (m w : Nat) :
    (unpoison s m w).glob.fwReady = s.glob.fwReady ∧ (unpoison s m w).glob.degraded = s.glob.degraded
    ∧ (unpoison s m w).glob.refAlarm = s.glob.refAlarm ∧ (unpoison s m w).glob.recovery = s.glob.recovery
    ∧ (unpoison s m w).glob.slaFault = s.glob.slaFault ∧ (unpoison s m w).glob.errEn = s.glob.errEn
    ∧ (unpoison s m w).otp = s.otp ∧ (unpoison s m w).fw = s.fw ∧ (unpoison s m w).tms = s.tms
    ∧ (unpoison s m w).css = s.css ∧ (unpoison s m w).tau = s.tau ∧ (unpoison s m w).fab = s.fab
    ∧ (unpoison s m w).adm = s.adm ∧ (unpoison s m w).ports = s.ports ∧ (unpoison s m w).ine = s.ine
    ∧ (unpoison s m w).lgb = s.lgb ∧ (unpoison s m w).far = s.far ∧ (unpoison s m w).isl = s.isl
    ∧ (unpoison s m w).host = s.host ∧ (unpoison s m w).pwc = s.pwc ∧ (unpoison s m w).evr = s.evr
    ∧ (unpoison s m w).agm = s.agm ∧ (unpoison s m w).wire = s.wire ∧ (unpoison s m w).mono = s.mono
    ∧ (unpoison s m w).monoFrac = s.monoFrac ∧ (unpoison s m w).draws = s.draws ∧ (unpoison s m w).pending = s.pending := by
  simp [unpoison]

@[simp] theorem draw_frame (s : State) :
    (draw s).2.glob = s.glob ∧ (draw s).2.otp = s.otp ∧ (draw s).2.fw = s.fw ∧ (draw s).2.tms = s.tms
    ∧ (draw s).2.css = s.css ∧ (draw s).2.tau = s.tau ∧ (draw s).2.fab = s.fab ∧ (draw s).2.adm = s.adm
    ∧ (draw s).2.ports = s.ports ∧ (draw s).2.ine = s.ine ∧ (draw s).2.lgb = s.lgb ∧ (draw s).2.far = s.far
    ∧ (draw s).2.isl = s.isl ∧ (draw s).2.host = s.host ∧ (draw s).2.pwc = s.pwc ∧ (draw s).2.evr = s.evr
    ∧ (draw s).2.agm = s.agm ∧ (draw s).2.wire = s.wire ∧ (draw s).2.mono = s.mono ∧ (draw s).2.monoFrac = s.monoFrac
    ∧ (draw s).2.pending = s.pending := by
  simp [draw]

/-- All that passing time changes: the model time and the two counters. -/
theorem ticks_form (s : State) (n : Nat) : ∃ m f a b,
    s.ticks n = { s with mono := m, monoFrac := f, tms := { s.tms with trt := a, wyt := b } } := by
  unfold State.ticks
  split
  · exact ⟨_, _, _, _, rfl⟩
  · exact ⟨_, _, _, _, rfl⟩

/-- See `ticks_form`. -/
theorem advance_form (s : State) (n : Nat) : ∃ m f a b,
    s.advance n = { s with mono := m, monoFrac := f, tms := { s.tms with trt := a, wyt := b } } := by
  unfold State.advance
  split
  · exact ⟨_, _, _, _, rfl⟩
  · exact ⟨_, _, _, _, rfl⟩

@[simp] theorem State.advance_frame (s : State) (n : Nat) :
    (s.advance n).glob = s.glob ∧ (s.advance n).otp = s.otp ∧ (s.advance n).fw = s.fw
    ∧ (s.advance n).tms.tsValid = s.tms.tsValid ∧ (s.advance n).tms.trtDrift = s.tms.trtDrift
    ∧ (s.advance n).tms.wytDrift = s.tms.wytDrift ∧ (s.advance n).tms.trtState = s.tms.trtState
    ∧ (s.advance n).tms.trtEpoch = s.tms.trtEpoch ∧ (s.advance n).tms.hops = s.tms.hops
    ∧ (s.advance n).tms.upstream = s.tms.upstream ∧ (s.advance n).tms.leaderId = s.tms.leaderId
    ∧ (s.advance n).tms.domainEpoch = s.tms.domainEpoch ∧ (s.advance n).tms.wytState = s.tms.wytState
    ∧ (s.advance n).tms.wytDom = s.tms.wytDom ∧ (s.advance n).tms.domains = s.tms.domains
    ∧ (s.advance n).tms.links = s.tms.links ∧ (s.advance n).tms.cfg = s.tms.cfg
    ∧ (s.advance n).tms.cfgNext = s.tms.cfgNext ∧ (s.advance n).tms.refSource = s.tms.refSource
    ∧ (s.advance n).tms.xinFault = s.tms.xinFault ∧ (s.advance n).tms.refGood = s.tms.refGood
    ∧ (s.advance n).tms.trtHoldSince = s.tms.trtHoldSince ∧ (s.advance n).tms.wytHoldSince = s.tms.wytHoldSince
    ∧ (s.advance n).tms.ppsFallAt = s.tms.ppsFallAt ∧ (s.advance n).tms.manualTrt = s.tms.manualTrt
    ∧ (s.advance n).tms.manualWyt = s.tms.manualWyt ∧ (s.advance n).tms.mergeStep = s.tms.mergeStep
    ∧ (s.advance n).tms.aligned = s.tms.aligned ∧ (s.advance n).css = s.css ∧ (s.advance n).tau = s.tau
    ∧ (s.advance n).fab = s.fab ∧ (s.advance n).adm = s.adm ∧ (s.advance n).ports = s.ports
    ∧ (s.advance n).ine = s.ine ∧ (s.advance n).lgb = s.lgb ∧ (s.advance n).far = s.far ∧ (s.advance n).isl = s.isl
    ∧ (s.advance n).host = s.host ∧ (s.advance n).pwc = s.pwc ∧ (s.advance n).evr = s.evr ∧ (s.advance n).agm = s.agm
    ∧ (s.advance n).wire = s.wire ∧ (s.advance n).draws = s.draws ∧ (s.advance n).pending = s.pending := by
  obtain ⟨m, f, a, b, h⟩ := advance_form s n
  simp [h]

@[simp] theorem State.ticks_frame (s : State) (n : Nat) :
    (s.ticks n).glob = s.glob ∧ (s.ticks n).otp = s.otp ∧ (s.ticks n).fw = s.fw
    ∧ (s.ticks n).tms.tsValid = s.tms.tsValid ∧ (s.ticks n).tms.trtDrift = s.tms.trtDrift
    ∧ (s.ticks n).tms.wytDrift = s.tms.wytDrift ∧ (s.ticks n).tms.trtState = s.tms.trtState
    ∧ (s.ticks n).tms.trtEpoch = s.tms.trtEpoch ∧ (s.ticks n).tms.hops = s.tms.hops
    ∧ (s.ticks n).tms.upstream = s.tms.upstream ∧ (s.ticks n).tms.leaderId = s.tms.leaderId
    ∧ (s.ticks n).tms.domainEpoch = s.tms.domainEpoch ∧ (s.ticks n).tms.wytState = s.tms.wytState
    ∧ (s.ticks n).tms.wytDom = s.tms.wytDom ∧ (s.ticks n).tms.domains = s.tms.domains
    ∧ (s.ticks n).tms.links = s.tms.links ∧ (s.ticks n).tms.cfg = s.tms.cfg ∧ (s.ticks n).tms.cfgNext = s.tms.cfgNext
    ∧ (s.ticks n).tms.refSource = s.tms.refSource ∧ (s.ticks n).tms.xinFault = s.tms.xinFault
    ∧ (s.ticks n).tms.refGood = s.tms.refGood ∧ (s.ticks n).tms.trtHoldSince = s.tms.trtHoldSince
    ∧ (s.ticks n).tms.wytHoldSince = s.tms.wytHoldSince ∧ (s.ticks n).tms.ppsFallAt = s.tms.ppsFallAt
    ∧ (s.ticks n).tms.manualTrt = s.tms.manualTrt ∧ (s.ticks n).tms.manualWyt = s.tms.manualWyt
    ∧ (s.ticks n).tms.mergeStep = s.tms.mergeStep ∧ (s.ticks n).tms.aligned = s.tms.aligned ∧ (s.ticks n).css = s.css
    ∧ (s.ticks n).tau = s.tau ∧ (s.ticks n).fab = s.fab ∧ (s.ticks n).adm = s.adm ∧ (s.ticks n).ports = s.ports
    ∧ (s.ticks n).ine = s.ine ∧ (s.ticks n).lgb = s.lgb ∧ (s.ticks n).far = s.far ∧ (s.ticks n).isl = s.isl
    ∧ (s.ticks n).host = s.host ∧ (s.ticks n).pwc = s.pwc ∧ (s.ticks n).evr = s.evr ∧ (s.ticks n).agm = s.agm
    ∧ (s.ticks n).wire = s.wire ∧ (s.ticks n).draws = s.draws ∧ (s.ticks n).pending = s.pending := by
  obtain ⟨m, f, a, b, h⟩ := ticks_form s n
  simp [h]

@[simp] theorem untilMono_frame (s : State) (n : Nat) :
    (untilMono s n).glob = s.glob ∧ (untilMono s n).otp = s.otp ∧ (untilMono s n).fw = s.fw
    ∧ (untilMono s n).tms.tsValid = s.tms.tsValid ∧ (untilMono s n).tms.trtDrift = s.tms.trtDrift
    ∧ (untilMono s n).tms.wytDrift = s.tms.wytDrift ∧ (untilMono s n).tms.trtState = s.tms.trtState
    ∧ (untilMono s n).tms.trtEpoch = s.tms.trtEpoch ∧ (untilMono s n).tms.hops = s.tms.hops
    ∧ (untilMono s n).tms.upstream = s.tms.upstream ∧ (untilMono s n).tms.leaderId = s.tms.leaderId
    ∧ (untilMono s n).tms.domainEpoch = s.tms.domainEpoch ∧ (untilMono s n).tms.wytState = s.tms.wytState
    ∧ (untilMono s n).tms.wytDom = s.tms.wytDom ∧ (untilMono s n).tms.domains = s.tms.domains
    ∧ (untilMono s n).tms.links = s.tms.links ∧ (untilMono s n).tms.cfg = s.tms.cfg
    ∧ (untilMono s n).tms.cfgNext = s.tms.cfgNext ∧ (untilMono s n).tms.refSource = s.tms.refSource
    ∧ (untilMono s n).tms.xinFault = s.tms.xinFault ∧ (untilMono s n).tms.refGood = s.tms.refGood
    ∧ (untilMono s n).tms.trtHoldSince = s.tms.trtHoldSince ∧ (untilMono s n).tms.wytHoldSince = s.tms.wytHoldSince
    ∧ (untilMono s n).tms.ppsFallAt = s.tms.ppsFallAt ∧ (untilMono s n).tms.manualTrt = s.tms.manualTrt
    ∧ (untilMono s n).tms.manualWyt = s.tms.manualWyt ∧ (untilMono s n).tms.mergeStep = s.tms.mergeStep
    ∧ (untilMono s n).tms.aligned = s.tms.aligned ∧ (untilMono s n).css = s.css ∧ (untilMono s n).tau = s.tau
    ∧ (untilMono s n).fab = s.fab ∧ (untilMono s n).adm = s.adm ∧ (untilMono s n).ports = s.ports
    ∧ (untilMono s n).ine = s.ine ∧ (untilMono s n).lgb = s.lgb ∧ (untilMono s n).far = s.far
    ∧ (untilMono s n).isl = s.isl ∧ (untilMono s n).host = s.host ∧ (untilMono s n).pwc = s.pwc
    ∧ (untilMono s n).evr = s.evr ∧ (untilMono s n).agm = s.agm ∧ (untilMono s n).wire = s.wire
    ∧ (untilMono s n).draws = s.draws ∧ (untilMono s n).pending = s.pending := by
  simp [untilMono]

@[simp] theorem untilTrt_frame (s : State) (n : Nat) :
    (untilTrt s n).glob = s.glob ∧ (untilTrt s n).otp = s.otp ∧ (untilTrt s n).fw = s.fw
    ∧ (untilTrt s n).tms.tsValid = s.tms.tsValid ∧ (untilTrt s n).tms.trtDrift = s.tms.trtDrift
    ∧ (untilTrt s n).tms.wytDrift = s.tms.wytDrift ∧ (untilTrt s n).tms.trtState = s.tms.trtState
    ∧ (untilTrt s n).tms.trtEpoch = s.tms.trtEpoch ∧ (untilTrt s n).tms.hops = s.tms.hops
    ∧ (untilTrt s n).tms.upstream = s.tms.upstream ∧ (untilTrt s n).tms.leaderId = s.tms.leaderId
    ∧ (untilTrt s n).tms.domainEpoch = s.tms.domainEpoch ∧ (untilTrt s n).tms.wytState = s.tms.wytState
    ∧ (untilTrt s n).tms.wytDom = s.tms.wytDom ∧ (untilTrt s n).tms.domains = s.tms.domains
    ∧ (untilTrt s n).tms.links = s.tms.links ∧ (untilTrt s n).tms.cfg = s.tms.cfg
    ∧ (untilTrt s n).tms.cfgNext = s.tms.cfgNext ∧ (untilTrt s n).tms.refSource = s.tms.refSource
    ∧ (untilTrt s n).tms.xinFault = s.tms.xinFault ∧ (untilTrt s n).tms.refGood = s.tms.refGood
    ∧ (untilTrt s n).tms.trtHoldSince = s.tms.trtHoldSince ∧ (untilTrt s n).tms.wytHoldSince = s.tms.wytHoldSince
    ∧ (untilTrt s n).tms.ppsFallAt = s.tms.ppsFallAt ∧ (untilTrt s n).tms.manualTrt = s.tms.manualTrt
    ∧ (untilTrt s n).tms.manualWyt = s.tms.manualWyt ∧ (untilTrt s n).tms.mergeStep = s.tms.mergeStep
    ∧ (untilTrt s n).tms.aligned = s.tms.aligned ∧ (untilTrt s n).css = s.css ∧ (untilTrt s n).tau = s.tau
    ∧ (untilTrt s n).fab = s.fab ∧ (untilTrt s n).adm = s.adm ∧ (untilTrt s n).ports = s.ports
    ∧ (untilTrt s n).ine = s.ine ∧ (untilTrt s n).lgb = s.lgb ∧ (untilTrt s n).far = s.far
    ∧ (untilTrt s n).isl = s.isl ∧ (untilTrt s n).host = s.host ∧ (untilTrt s n).pwc = s.pwc
    ∧ (untilTrt s n).evr = s.evr ∧ (untilTrt s n).agm = s.agm ∧ (untilTrt s n).wire = s.wire
    ∧ (untilTrt s n).draws = s.draws ∧ (untilTrt s n).pending = s.pending := by
  and_intros <;> (unfold untilTrt; (try dsimp only); (repeat' split) <;> simp)

@[simp] theorem untilWyt_frame (s : State) (n : Nat) :
    (untilWyt s n).glob = s.glob ∧ (untilWyt s n).otp = s.otp ∧ (untilWyt s n).fw = s.fw
    ∧ (untilWyt s n).tms.tsValid = s.tms.tsValid ∧ (untilWyt s n).tms.trtDrift = s.tms.trtDrift
    ∧ (untilWyt s n).tms.wytDrift = s.tms.wytDrift ∧ (untilWyt s n).tms.trtState = s.tms.trtState
    ∧ (untilWyt s n).tms.trtEpoch = s.tms.trtEpoch ∧ (untilWyt s n).tms.hops = s.tms.hops
    ∧ (untilWyt s n).tms.upstream = s.tms.upstream ∧ (untilWyt s n).tms.leaderId = s.tms.leaderId
    ∧ (untilWyt s n).tms.domainEpoch = s.tms.domainEpoch ∧ (untilWyt s n).tms.wytState = s.tms.wytState
    ∧ (untilWyt s n).tms.wytDom = s.tms.wytDom ∧ (untilWyt s n).tms.domains = s.tms.domains
    ∧ (untilWyt s n).tms.links = s.tms.links ∧ (untilWyt s n).tms.cfg = s.tms.cfg
    ∧ (untilWyt s n).tms.cfgNext = s.tms.cfgNext ∧ (untilWyt s n).tms.refSource = s.tms.refSource
    ∧ (untilWyt s n).tms.xinFault = s.tms.xinFault ∧ (untilWyt s n).tms.refGood = s.tms.refGood
    ∧ (untilWyt s n).tms.trtHoldSince = s.tms.trtHoldSince ∧ (untilWyt s n).tms.wytHoldSince = s.tms.wytHoldSince
    ∧ (untilWyt s n).tms.ppsFallAt = s.tms.ppsFallAt ∧ (untilWyt s n).tms.manualTrt = s.tms.manualTrt
    ∧ (untilWyt s n).tms.manualWyt = s.tms.manualWyt ∧ (untilWyt s n).tms.mergeStep = s.tms.mergeStep
    ∧ (untilWyt s n).tms.aligned = s.tms.aligned ∧ (untilWyt s n).css = s.css ∧ (untilWyt s n).tau = s.tau
    ∧ (untilWyt s n).fab = s.fab ∧ (untilWyt s n).adm = s.adm ∧ (untilWyt s n).ports = s.ports
    ∧ (untilWyt s n).ine = s.ine ∧ (untilWyt s n).lgb = s.lgb ∧ (untilWyt s n).far = s.far
    ∧ (untilWyt s n).isl = s.isl ∧ (untilWyt s n).host = s.host ∧ (untilWyt s n).pwc = s.pwc
    ∧ (untilWyt s n).evr = s.evr ∧ (untilWyt s n).agm = s.agm ∧ (untilWyt s n).wire = s.wire
    ∧ (untilWyt s n).draws = s.draws ∧ (untilWyt s n).pending = s.pending := by
  and_intros <;> (unfold untilWyt; (try dsimp only); (repeat' split) <;> simp)

@[simp] theorem untilNs_frame (s : State) (n : Nat) :
    (untilNs s n).glob = s.glob ∧ (untilNs s n).otp = s.otp ∧ (untilNs s n).fw = s.fw
    ∧ (untilNs s n).tms.tsValid = s.tms.tsValid ∧ (untilNs s n).tms.trtDrift = s.tms.trtDrift
    ∧ (untilNs s n).tms.wytDrift = s.tms.wytDrift ∧ (untilNs s n).tms.trtState = s.tms.trtState
    ∧ (untilNs s n).tms.trtEpoch = s.tms.trtEpoch ∧ (untilNs s n).tms.hops = s.tms.hops
    ∧ (untilNs s n).tms.upstream = s.tms.upstream ∧ (untilNs s n).tms.leaderId = s.tms.leaderId
    ∧ (untilNs s n).tms.domainEpoch = s.tms.domainEpoch ∧ (untilNs s n).tms.wytState = s.tms.wytState
    ∧ (untilNs s n).tms.wytDom = s.tms.wytDom ∧ (untilNs s n).tms.domains = s.tms.domains
    ∧ (untilNs s n).tms.links = s.tms.links ∧ (untilNs s n).tms.cfg = s.tms.cfg
    ∧ (untilNs s n).tms.cfgNext = s.tms.cfgNext ∧ (untilNs s n).tms.refSource = s.tms.refSource
    ∧ (untilNs s n).tms.xinFault = s.tms.xinFault ∧ (untilNs s n).tms.refGood = s.tms.refGood
    ∧ (untilNs s n).tms.trtHoldSince = s.tms.trtHoldSince ∧ (untilNs s n).tms.wytHoldSince = s.tms.wytHoldSince
    ∧ (untilNs s n).tms.ppsFallAt = s.tms.ppsFallAt ∧ (untilNs s n).tms.manualTrt = s.tms.manualTrt
    ∧ (untilNs s n).tms.manualWyt = s.tms.manualWyt ∧ (untilNs s n).tms.mergeStep = s.tms.mergeStep
    ∧ (untilNs s n).tms.aligned = s.tms.aligned ∧ (untilNs s n).css = s.css ∧ (untilNs s n).tau = s.tau
    ∧ (untilNs s n).fab = s.fab ∧ (untilNs s n).adm = s.adm ∧ (untilNs s n).ports = s.ports
    ∧ (untilNs s n).ine = s.ine ∧ (untilNs s n).lgb = s.lgb ∧ (untilNs s n).far = s.far ∧ (untilNs s n).isl = s.isl
    ∧ (untilNs s n).host = s.host ∧ (untilNs s n).pwc = s.pwc ∧ (untilNs s n).evr = s.evr ∧ (untilNs s n).agm = s.agm
    ∧ (untilNs s n).wire = s.wire ∧ (untilNs s n).draws = s.draws ∧ (untilNs s n).pending = s.pending := by
  simp [untilNs]

end Sys2Proof.Machine
end

