-- ==== Sys2Proof/Laws/Table.lean ====
section
/-! SUPPORT. What the sparse tables do: a read after a write, and the canonical form that every operation keeps. -/

namespace Sys2Proof.Machine

variable {α : Type}

@[simp] theorem tget_nil (d : α) (k : Nat) : tget d [] k = d := rfl

/-- A deleted key holds the default. -/
theorem tget_tdel_self (d : α) (t : Table α) (k : Nat) : tget d (tdel t k) k = d := by
  induction t with
  | nil => rfl
  | cons e r ih =>
    simp only [tdel]
    split
    · exact ih
    · rename_i h; simp only [tget, if_neg h]; exact ih

/-- Deleting a key leaves every other key as it was. -/
theorem tget_tdel_other (d : α) (t : Table α) {j k : Nat} (h : j ≠ k) : tget d (tdel t k) j = tget d t j := by
  induction t with
  | nil => rfl
  | cons e r ih =>
    obtain ⟨a, v⟩ := e
    by_cases ha : a = k
    · have : a ≠ j := fun e => h (e.symm.trans ha)
      simp [tdel, tget, ha, ih]
      intro e; exact absurd e.symm h
    · simp [tdel, tget, ha, ih]

/-- An inserted key holds its value. -/
theorem tget_tins_self (d : α) (t : Table α) (k : Nat) (v : α) : tget d (tins t k v) k = v := by
  induction t with
  | nil => simp [tins, tget]
  | cons e r ih =>
    obtain ⟨a, w⟩ := e
    simp only [tins]
    split
    · simp [tget]
    · split
      · simp [tget]
      · rename_i h; simp only [tget, if_neg (Ne.symm h)]; exact ih

/-- Inserting a key leaves every other key as it was. -/
theorem tget_tins_other (d : α) (t : Table α) {j k : Nat} (v : α) (h : j ≠ k) :
    tget d (tins t k v) j = tget d t j := by
  induction t with
  | nil => simp [tins, tget, Ne.symm h]
  | cons e r ih =>
    obtain ⟨a, w⟩ := e
    simp only [tins]
    split
    · simp [tget, Ne.symm h]
    · split
      · rename_i e; subst e; simp [tget, Ne.symm h]
      · simp [tget, ih]

theorem tkeysFrom_mono {a b : Nat} (t : Table α) (h : tkeysFrom b t = true) (hab : a ≤ b) : tkeysFrom a t = true := by
  cases t with
  | nil => rfl
  | cons e r => simp [tkeysFrom] at h ⊢; exact ⟨by omega, h.2⟩

theorem tkeysFrom_tdel (t : Table α) (k b : Nat) (h : tkeysFrom b t = true) : tkeysFrom b (tdel t k) = true := by
  induction t generalizing b with
  | nil => rfl
  | cons e r ih =>
    simp [tkeysFrom] at h
    simp only [tdel]
    split
    · exact tkeysFrom_mono _ (ih _ h.2) (by omega)
    · simp [tkeysFrom, h.1, ih _ h.2]

theorem tkeysFrom_tins (t : Table α) (k b : Nat) (v : α) (h : tkeysFrom b t = true) (hb : b ≤ k) :
    tkeysFrom b (tins t k v) = true := by
  induction t generalizing b with
  | nil => simp [tins, tkeysFrom, hb]
  | cons e r ih =>
    simp [tkeysFrom] at h
    simp only [tins]
    split
    · simp [tkeysFrom, hb, h.2]; omega
    · split
      · rename_i e; simp [tkeysFrom, h, e]
      · simp [tkeysFrom, h.1]; exact ih _ h.2 (by omega)

theorem mem_tins {t : Table α} {k : Nat} {v : α} {e : Nat × α} (h : e ∈ tins t k v) : e = (k, v) ∨ e ∈ t := by
  induction t with
  | nil => simp [tins] at h; exact .inl h
  | cons a r ih =>
    simp only [tins] at h
    split at h
    · simpa using h
    · split at h
      · rcases List.mem_cons.1 h with h | h
        · exact .inl h
        · exact .inr (List.mem_cons_of_mem _ h)
      · rcases List.mem_cons.1 h with h | h
        · exact .inr (h ▸ List.mem_cons_self ..)
        · rcases ih h with h | h
          · exact .inl h
          · exact .inr (List.mem_cons_of_mem _ h)

theorem mem_tdel {t : Table α} {k : Nat} {e : Nat × α} (h : e ∈ tdel t k) : e ∈ t := by
  induction t with
  | nil => exact h
  | cons a r ih =>
    simp only [tdel] at h
    split at h
    · exact List.mem_cons_of_mem _ (ih h)
    · rcases List.mem_cons.1 h with h | h
      · exact h ▸ List.mem_cons_self ..
      · exact List.mem_cons_of_mem _ (ih h)

variable [DecidableEq α]

/-- A key reads back what was written to it. -/
@[simp] theorem tget_tset_self (d : α) (t : Table α) (k : Nat) (v : α) : tget d (tset d t k v) k = v := by
  unfold tset
  split
  · rename_i h; rw [tget_tdel_self, h]
  · exact tget_tins_self d t k v

/-- A write to one key leaves every other key as it was. -/
theorem tget_tset_other (d : α) (t : Table α) {j k : Nat} (v : α) (h : j ≠ k) :
    tget d (tset d t k v) j = tget d t j := by
  unfold tset
  split
  · exact tget_tdel_other d t h
  · exact tget_tins_other d t v h

@[simp] theorem tget_tmod_self (d : α) (t : Table α) (k : Nat) (f : α → α) : tget d (tmod d t k f) k = f (tget d t k) := by
  simp [tmod]

theorem tget_tmod_other (d : α) (t : Table α) {j k : Nat} (f : α → α) (h : j ≠ k) :
    tget d (tmod d t k f) j = tget d t j := by
  simp [tmod, tget_tset_other d t _ h]

/-- A write keeps a table canonical. -/
theorem twf_tset (d : α) (t : Table α) (k : Nat) (v : α) (h : twf d t = true) : twf d (tset d t k v) = true := by
  simp only [twf, Bool.and_eq_true, List.all_eq_true, decide_eq_true_eq] at h ⊢
  unfold tset
  split
  · exact ⟨tkeysFrom_tdel t k 0 h.1, fun e he => h.2 e (mem_tdel he)⟩
  · rename_i hv
    exact ⟨tkeysFrom_tins t k 0 v h.1 (by omega), fun e he => by
      rcases mem_tins he with rfl | he
      · exact hv
      · exact h.2 e he⟩

/-- A change of one key keeps a table canonical. -/
theorem twf_tmod (d : α) (t : Table α) (k : Nat) (f : α → α) (h : twf d t = true) : twf d (tmod d t k f) = true :=
  twf_tset d t k _ h

@[simp] theorem twf_nil (d : α) : twf d ([] : Table α) = true := rfl

end Sys2Proof.Machine
end

