-- ==== Sys2Proof/Laws/State.lean ====
section
/-! SUPPORT. What a read of an indexed part of the state gives after a write of it, and the bits of words and alarm
registers. -/

namespace Sys2Proof.Machine

/-! ## Bits -/

@[simp] theorem bitAt_setBit_self {n : Nat} (v : BitVec n) (i : Nat) (h : i < n) : bitAt (setBit v i true) i = true := by
  simp [bitAt, setBit, h]

theorem bitAt_setBit_other {n : Nat} (v : BitVec n) {i j : Nat} (b : Bool) (h : j ≠ i) :
    bitAt (setBit v i b) j = bitAt v j := by
  cases b
  · simp only [bitAt, setBit, Bool.false_eq_true, if_false]
    by_cases hj : j < n
    · simp [hj, h]
    · simp [BitVec.getLsbD_of_ge _ _ (Nat.le_of_not_lt hj)]
  · simp [bitAt, setBit, Ne.symm h]

/-! ## Tenants -/

@[simp] theorem tenant_modTenant_self (s : State) (t : Nat) (f : Tenant → Tenant) :
    tenant (modTenant s t f) t = f (tenant s t) := by
  simp [tenant, modTenant]

theorem tenant_modTenant_other (s : State) {t u : Nat} (f : Tenant → Tenant) (h : u ≠ t) :
    tenant (modTenant s t f) u = tenant s u := by
  simp [tenant, modTenant, tget_tmod_other _ _ _ h]

/-- A tenant depends on the tenants' table alone. -/
theorem tenant_congr {s u : State} (h : u.host.tenants = s.host.tenants) (t : Nat) : tenant u t = tenant s t := by
  simp [tenant, h]

@[simp] theorem tauOf_putTau_self (s : State) (k : Nat) (x : TauRec) : tauOf (putTau s k x) k = x := by
  simp [tauOf, putTau]

theorem tauOf_putTau_other (s : State) {k j : Nat} (x : TauRec) (h : j ≠ k) : tauOf (putTau s k x) j = tauOf s j := by
  simp [tauOf, putTau, tget_tset_other _ _ _ h]

@[simp] theorem farOf_putFar_self (s : State) (f : Nat) (x : FarTarget) : farOf (putFar s f x) f = x := by
  simp [farOf, putFar]

theorem farOf_putFar_other (s : State) {f j : Nat} (x : FarTarget) (h : j ≠ f) : farOf (putFar s f x) j = farOf s j := by
  simp [farOf, putFar, tget_tset_other _ _ _ h]

@[simp] theorem portCfg_putCfg_self (s : State) (p : Nat) (x : PortCfg) : portCfg (putCfg s p x) p = x := by
  simp [portCfg, putCfg]

theorem portCfg_putCfg_other (s : State) {p j : Nat} (x : PortCfg) (h : j ≠ p) : portCfg (putCfg s p x) j = portCfg s j := by
  simp [portCfg, putCfg, tget_tset_other _ _ _ h]

@[simp] theorem linkRec_putLink_self (s : State) (p : Nat) (x : LinkRec) : linkRec (putLink s p x) p = x := by
  simp [linkRec, putLink]

theorem linkRec_putLink_other (s : State) {p j : Nat} (x : LinkRec) (h : j ≠ p) : linkRec (putLink s p x) j = linkRec s j := by
  simp [linkRec, putLink, tget_tset_other _ _ _ h]

@[simp] theorem segOf_putSeg_self (s : State) (g : Nat) (x : Segment) : segOf (putSeg s g x) g = x := by
  simp [segOf, putSeg]

theorem segOf_putSeg_other (s : State) {g j : Nat} (x : Segment) (h : j ≠ g) : segOf (putSeg s g x) j = segOf s j := by
  simp [segOf, putSeg, tget_tset_other _ _ _ h]

@[simp] theorem canOf_putCan_self (s : State) (n : Nat) (x : CanPort) : canOf (putCan s n x) n = x := by
  simp [canOf, putCan]

theorem canOf_putCan_other (s : State) {n j : Nat} (x : CanPort) (h : j ≠ n) : canOf (putCan s n x) j = canOf s j := by
  simp [canOf, putCan, tget_tset_other _ _ _ h]

@[simp] theorem helloOf_putHello_self (s : State) (p : Nat) (x : HelloLink) : helloOf (putHello s p x) p = x := by
  simp [helloOf, putHello]

theorem helloOf_putHello_other (s : State) {p j : Nat} (x : HelloLink) (h : j ≠ p) : helloOf (putHello s p x) j = helloOf s j := by
  simp [helloOf, putHello, tget_tset_other _ _ _ h]

@[simp] theorem linkTime_putLinkTime_self (s : State) (l : Nat) (x : LinkTime) : linkTime (putLinkTime s l x) l = x := by
  simp [linkTime, putLinkTime]

theorem linkTime_putLinkTime_other (s : State) {l j : Nat} (x : LinkTime) (h : j ≠ l) : linkTime (putLinkTime s l x) j = linkTime s j := by
  simp [linkTime, putLinkTime, tget_tset_other _ _ _ h]

@[simp] theorem domainOf_putDomain_self (s : State) (d : Nat) (x : GptpDomain) : domainOf (putDomain s d x) d = x := by
  simp [domainOf, putDomain]

theorem domainOf_putDomain_other (s : State) {d j : Nat} (x : GptpDomain) (h : j ≠ d) : domainOf (putDomain s d x) j = domainOf s j := by
  simp [domainOf, putDomain, tget_tset_other _ _ _ h]

@[simp] theorem mvbOf_putMvb_self (s : State) (n : Nat) (x : MvbPort) : mvbOf (putMvb s n x) n = x := by
  simp [mvbOf, putMvb]

theorem mvbOf_putMvb_other (s : State) {n j : Nat} (x : MvbPort) (h : j ≠ n) : mvbOf (putMvb s n x) j = mvbOf s j := by
  simp [mvbOf, putMvb, tget_tset_other _ _ _ h]

@[simp] theorem pdVar_putVar_self (s : State) (v : Nat) (x : PdVar) : pdVar (putVar s v x) v = x := by
  simp [pdVar, putVar]

theorem pdVar_putVar_other (s : State) {v j : Nat} (x : PdVar) (h : j ≠ v) : pdVar (putVar s v x) j = pdVar s j := by
  simp [pdVar, putVar, tget_tset_other _ _ _ h]

/-! ## The two channels of the island -/

@[simp] theorem chanOf_putChan_self (s : State) (ch : Chan) (c : Channel) : chanOf (putChan s ch c) ch = c := by
  cases ch <;> rfl

@[simp] theorem chanOf_putChan_other (s : State) (ch : Chan) (c : Channel) :
    chanOf (putChan s (otherChan ch) c) ch = chanOf s ch := by
  cases ch <;> rfl

@[simp] theorem axisOf_putAxis_self (s : State) (ch : Chan) (k : Nat) (a : Axis) : axisOf (putAxis s ch k a) ch k = a := by
  simp [axisOf, putAxis]

/-! ## Alarm registers -/

@[simp] theorem alarmOf_putAlarm_self (s : State) (r : AlarmReg) (v : Word) : alarmOf (putAlarm s r v) r = v := by
  cases r <;> rfl

theorem alarmOf_putAlarm_other (s : State) {r q : AlarmReg} (v : Word) (h : q ≠ r) :
    alarmOf (putAlarm s r v) q = alarmOf s q := by
  cases r <;> cases q <;> first | rfl | exact absurd rfl h

theorem alarmOf_msixRaise (s : State) (v : Nat) (r : AlarmReg) : alarmOf (msixRaise s v) r = alarmOf s r := by
  unfold msixRaise
  dsimp only
  split <;> cases r <;> rfl

/-- An alarm set: its bit reads 1, and every other bit of the register as before. -/
theorem alarmOf_setAlarm (s : State) (r : AlarmReg) (b : Nat) :
    alarmOf (setAlarm s r b) r = setBit (alarmOf s r) b true := by
  unfold setAlarm
  dsimp only
  split <;> simp [alarmOf_msixRaise]

/-- An alarm of one block leaves the alarms of every other. -/
theorem alarmOf_setAlarm_other (s : State) {r q : AlarmReg} (b : Nat) (h : q ≠ r) :
    alarmOf (setAlarm s r b) q = alarmOf s q := by
  unfold setAlarm
  dsimp only
  split <;> simp [alarmOf_msixRaise, alarmOf_putAlarm_other _ _ h]

@[simp] theorem setAlarm_glob_self (s : State) (b : Nat) : (setAlarm s .glob b).glob.err = setBit s.glob.err b true :=
  alarmOf_setAlarm s .glob b

@[simp] theorem setAlarm_glob_other (s : State) (r : AlarmReg) (b : Nat) (h : AlarmReg.glob ≠ r) :
    (setAlarm s r b).glob.err = s.glob.err :=
  alarmOf_setAlarm_other s b h

@[simp] theorem setAlarm_tms_self (s : State) (b : Nat) : (setAlarm s .tms b).tms.alarm = setBit s.tms.alarm b true :=
  alarmOf_setAlarm s .tms b

@[simp] theorem setAlarm_tms_other (s : State) (r : AlarmReg) (b : Nat) (h : AlarmReg.tms ≠ r) :
    (setAlarm s r b).tms.alarm = s.tms.alarm :=
  alarmOf_setAlarm_other s b h

@[simp] theorem setAlarm_css_self (s : State) (b : Nat) : (setAlarm s .css b).css.alarm = setBit s.css.alarm b true :=
  alarmOf_setAlarm s .css b

@[simp] theorem setAlarm_css_other (s : State) (r : AlarmReg) (b : Nat) (h : AlarmReg.css ≠ r) :
    (setAlarm s r b).css.alarm = s.css.alarm :=
  alarmOf_setAlarm_other s b h

@[simp] theorem setAlarm_fab_self (s : State) (b : Nat) : (setAlarm s .fab b).fab.alarm = setBit s.fab.alarm b true :=
  alarmOf_setAlarm s .fab b

@[simp] theorem setAlarm_fab_other (s : State) (r : AlarmReg) (b : Nat) (h : AlarmReg.fab ≠ r) :
    (setAlarm s r b).fab.alarm = s.fab.alarm :=
  alarmOf_setAlarm_other s b h

@[simp] theorem setAlarm_ine_self (s : State) (b : Nat) : (setAlarm s .ine b).ine.alarm = setBit s.ine.alarm b true :=
  alarmOf_setAlarm s .ine b

@[simp] theorem setAlarm_ine_other (s : State) (r : AlarmReg) (b : Nat) (h : AlarmReg.ine ≠ r) :
    (setAlarm s r b).ine.alarm = s.ine.alarm :=
  alarmOf_setAlarm_other s b h

@[simp] theorem setAlarm_pwc_self (s : State) (b : Nat) : (setAlarm s .pwc b).pwc.alarm = setBit s.pwc.alarm b true :=
  alarmOf_setAlarm s .pwc b

@[simp] theorem setAlarm_pwc_other (s : State) (r : AlarmReg) (b : Nat) (h : AlarmReg.pwc ≠ r) :
    (setAlarm s r b).pwc.alarm = s.pwc.alarm :=
  alarmOf_setAlarm_other s b h

@[simp] theorem setAlarm_evr_self (s : State) (b : Nat) : (setAlarm s .evr b).evr.alarm = setBit s.evr.alarm b true :=
  alarmOf_setAlarm s .evr b

@[simp] theorem setAlarm_evr_other (s : State) (r : AlarmReg) (b : Nat) (h : AlarmReg.evr ≠ r) :
    (setAlarm s r b).evr.alarm = s.evr.alarm :=
  alarmOf_setAlarm_other s b h

@[simp] theorem setAlarm_agm_self (s : State) (b : Nat) : (setAlarm s .agm b).agm.alarm = setBit s.agm.alarm b true :=
  alarmOf_setAlarm s .agm b

@[simp] theorem setAlarm_agm_other (s : State) (r : AlarmReg) (b : Nat) (h : AlarmReg.agm ≠ r) :
    (setAlarm s r b).agm.alarm = s.agm.alarm :=
  alarmOf_setAlarm_other s b h

end Sys2Proof.Machine
end

