-- ==== Sys2Proof/Laws/Ops.lean ====
section
/-! SUPPORT. What the shared operations do, said once: host commands, alarms, windrows, memory errors and the queue of
commands, writes of poisoned words, frames of the MGP, frames that leave a port, the order of
windrows and the events of a pause. -/

namespace Sys2Proof.Machine

/-- A host command that is accepted comes to what its body answers. -/
theorem runHcp_accepted {c : Cmd} {h : Hcp} {s : State} (body : State → Answer) (ha : accepts c h s = true) :
    runHcp c h s body = conclude h c.opcode (body s) := by
  simp [runHcp, ha]

/-- A host command that is served and not accepted completes with NOT_PERMITTED. -/
theorem runHcp_denied {c : Cmd} {h : Hcp} {s : State} (body : State → Answer) (ha : accepts c h s = false)
    (hs : serves s c h = true) :
    runHcp c h s body = respond s h c.opcode .notPermitted (deniedReason c h s) [] := by
  simp [runHcp, ha, hs]

/-- A host command that nothing serves changes nothing. -/
theorem runHcp_unserved {c : Cmd} {h : Hcp} {s : State} (body : State → Answer) (hs : serves s c h = false) :
    runHcp c h s body = s := by
  simp [runHcp, accepts, hs]

@[simp] theorem conclude_okay (h : Hcp) (op : Nat) (s : State) : conclude h op (okay s) = respond s h op .ok 0 [] := rfl

@[simp] theorem conclude_okWith (h : Hcp) (op : Nat) (s : State) (p : Bytes) :
    conclude h op (okWith s p) = respond s h op .ok 0 p := rfl

@[simp] theorem conclude_fails (h : Hcp) (op : Nat) (s : State) (st : Status) (r : Nat) :
    conclude h op (fails s st r) = respond s h op st r [] := rfl

@[simp] theorem conclude_failsAt (h : Hcp) (op : Nat) (s : State) (i : Nat) :
    conclude h op (failsAt s i) = respond s h op .invalidArgument 0 (leBytes 2 i) := rfl

@[simp] theorem conclude_done (h : Hcp) (op : Nat) (s : State) (st : Status) (r : Nat) (p : Bytes) :
    conclude h op (.done s st r p) = respond s h op st r p := rfl

@[simp] theorem conclude_wait (h : Hcp) (op : Nat) (s : State) : conclude h op (.wait s) = s := rfl

/-! ## Poison -/

/-- A posted write of a sound word has its effect. -/
theorem posted_sound {s : State} {off : Nat} (f : State → State) (h : poisonedBacking s off = none) :
    posted s off f = f s := by
  simp [posted, h]

/-- A posted write of a poisoned word is dropped, whatever its effect would be (R29). -/
theorem posted_poisoned {s : State} {off m w : Nat} (f : State → State) (h : poisonedBacking s off = some (m, w)) :
    posted s off f = dropWrite s m w := by
  simp [posted, h]

@[simp] theorem dropWrite_aer (s : State) (m w : Nat) : (dropWrite s m w).glob.aer = true := rfl

/-- The poison that is left after words of some entries of a memory are written whole. -/
theorem poison_unpoisonWhere (s : State) (m : Nat) (p : Nat → Bool) :
    (unpoisonWhere s m p).glob.poison = tmod [] s.glob.poison m fun t => t.filter fun w => !p (Config.entryOf m w) := rfl

/-- An entry that was written whole reads sound (R28). -/
@[simp] theorem entryPoisoned_unpoisonEntry_self (s : State) (m k : Nat) : entryPoisoned (unpoisonEntry s m k) m k = false := by
  simp [entryPoisoned, poisonedWord, unpoisonEntry, unpoisonWhere]

/-- Entries of another memory keep their poison. -/
theorem entryPoisoned_unpoisonEntry_other (s : State) {m n : Nat} (k j : Nat) (h : n ≠ m) :
    entryPoisoned (unpoisonEntry s m k) n j = entryPoisoned s n j := by
  simp [entryPoisoned, poisonedWord, unpoisonEntry, unpoisonWhere, tget_tmod_other _ _ _ h]

/-! ## Frames -/

/-- A frame of the MGP whose egress the model does not follow is counted at port 97 and sent. -/
@[simp] theorem mgpSends_none (s : State) (x : Sent) : mgpSends s none x = emit (countGot s 97 (sentLen x) false) x := rfl

/-- One whose way is known is counted at its egress port too (R187). -/
@[simp] theorem mgpSends_some (s : State) (p : Nat) (x : Sent) :
    mgpSends s (some p) x = emit (countSent (countGot s 97 (sentLen x) false) p (sentLen x) false) x := rfl

/-- What leaves a port depends on no more of a held frame than the frame, its ingress and its RCT numbers. -/
theorem egressFrame_congr (s : State) (p : Nat) (h k : Held) (hf : h.frame = k.frame) (hi : h.ingress = k.ingress)
    (hr : h.rcts = k.rcts) : egressFrame s p h = egressFrame s p k := by
  unfold egressFrame
  rw [hf, hi, hr]

/-- Putting a windrow into its place among those of one tick loses none and adds one. -/
theorem placeWindrow_length (w : Windrow) (l : List Windrow) : (placeWindrow w l).length = l.length + 1 := by
  induction l generalizing w with
  | nil => rfl
  | cons x r ih => unfold placeWindrow; split <;> simp [ih]

/-- The numbers in staging stay in order of place: the newest has the new windrow's number. -/
theorem placeWindrow_head (w : Windrow) (l : List Windrow) : ∃ y, (placeWindrow w l).head? = some y ∧ y.num = w.num := by
  cases l with
  | nil => exact ⟨w, rfl, rfl⟩
  | cons x r => unfold placeWindrow; split <;> exact ⟨_, rfl, rfl⟩

/-- The windrows already in staging keep their codes and data, whatever place the new one takes. -/
theorem placeWindrow_keeps {w y : Windrow} {l : List Windrow} (h : y ∈ l) : ∃ z ∈ placeWindrow w l, z.code = y.code ∧ z.data = y.data := by
  induction l generalizing w with
  | nil => cases h
  | cons x r ih =>
    unfold placeWindrow
    split
    · rcases List.mem_cons.mp h with rfl | h
      · exact ⟨_, List.mem_cons_self, rfl, rfl⟩
      · obtain ⟨z, hz, e⟩ := ih (w := { w with num := x.num }) h
        exact ⟨z, List.mem_cons_of_mem _ hz, e⟩
    · exact ⟨y, List.mem_cons_of_mem _ h, rfl, rfl⟩

/-- In a control-plane pause an event is held, and nothing else changes. -/
theorem event_paused {s : State} (h : s.fw.phase = .paused) (t typ : Nat) (d : Bytes) :
    event s t typ d = { s with host := { s.host with
      waitingEvents := s.host.waitingEvents ++ [{ tenant := t, typ := typ, ns := stampNs s, data := d }] } } := by
  simp [event, h]

/-- Outside a pause an event is delivered at once. -/
theorem event_now {s : State} (h : s.fw.phase ≠ .paused) (t typ : Nat) (d : Bytes) :
    event s t typ d = deliverEvent s t typ (stampNs s) d := by
  simp [event, h]

end Sys2Proof.Machine
end

