-- ==== Sys2Proof/Tests/Help.lean ====
section
/-! SUPPORT. Small states for the tests: a device that runs, and changes of it. -/

namespace Sys2Proof.Tests

open Sys2Proof Sys2Proof.Machine

/-- Tenant 0, open, with every feature, on PCIe: a command and a descriptor of each kind wait, and a frame for it. -/
def owner : Tenant :=
  { state := .opened, attach := .pcie, rights := BitVec.allOnes 32, ports := BitVec.allOnes 128
    features := BitVec.allOnes 128, ctrl := BitVec.allOnes 32, cmdProd := 1
    txq := [(0, { enabled := true, log2 := 3, prod := 1 })], rxq := [(0, { enabled := true, log2 := 3, prod := 1 })]
    waiting := [⟨0, none, 1, 0, false, 0, 0, 0, 0, 0, [], 64⟩], resetDue := true, raisedAt := some 0, irqWait := true }

/-- A tenant that is not tenant 0, on a path. -/
def guest (a : Attach) : Tenant := { owner with attach := a, mac := 9, vlan := 4 }

/-- A device that runs: rails up, firmware ready, time service, links up, the fabric ready, the recorder writing, tenant 0
open, tenants 1 to 3 on PCIe, SPI and remote. -/
def ready : State :=
  { glob := { fwReady := true, featAccepted := BitVec.allOnes 128 }
    fw := { phase := .ready }
    tms := { tsValid := true }
    fab := { ready := true, admitted := true }
    ports :=
      { cfg := [(0, { enabled := true }), (3, { enabled := true }), (4, { enabled := true }), (16, { enabled := true })]
        links := [(0, { up := true }), (3, { up := true }), (4, { up := true }), (16, { up := true }), (80, { up := true }),
          (88, { up := true }), (92, { up := true }), (94, { up := true }), (95, { up := true })] }
    ine := { hello := [(0, { running := true, confirmed := true, fabricUp := true }), (3, { running := true })] }
    host := { tenants := [(0, owner), (1, guest .pcie), (2, guest .spi), (3, guest .remote)], counterOk := true }
    pwc := { phase := .running, inh := 7, pgs := 7, rstoutLow := false }
    evr := { ready := true, header := { sizeMiB := 32 } } }

/-! The running device with one block changed. -/

def globWith (f : Global → Global) : State := { ready with glob := f ready.glob }
def fwWith (f : Fw → Fw) : State := { ready with fw := f ready.fw }
def tmsWith (f : Tms → Tms) : State := { ready with tms := f ready.tms }
def cssWith (f : Css → Css) : State := { ready with css := f ready.css }
def tauWith (f : Taus → Taus) : State := { ready with tau := f ready.tau }
def fabWith (f : Fabric → Fabric) : State := { ready with fab := f ready.fab }
def admWith (f : Admission → Admission) : State := { ready with adm := f ready.adm }
def portsWith (f : Ports → Ports) : State := { ready with ports := f ready.ports }
def ineWith (f : Ine → Ine) : State := { ready with ine := f ready.ine }
def lgbWith (f : Lgb → Lgb) : State := { ready with lgb := f ready.lgb }
def farWith (f : Far → Far) : State := { ready with far := f ready.far }
def islWith (f : Island → Island) : State := { ready with isl := f ready.isl }
def hostWith (f : HostIf → HostIf) : State := { ready with host := f ready.host }
def pwcWith (f : Pwc → Pwc) : State := { ready with pwc := f ready.pwc }
def evrWith (f : Evr → Evr) : State := { ready with evr := f ready.evr }
def agmWith (f : Agm → Agm) : State := { ready with agm := f ready.agm }

/-- A command of tenant 0 that came authenticated. -/
def hcp0 : Hcp := ⟨0, true, 7⟩

/-- A command of tenant 1 that did not. -/
def hcp1 : Hcp := ⟨1, false, 7⟩

/-- A command entry. -/
def entry (op len : Nat) (c : Bool) : CmdEntry := ⟨op, 1, c, false, 9, 5, len, 0, [], 0, 0⟩

/-- Tenant 1 with a key and a counter, and a command that is signed with the key. -/
def keyed (n : Nat) : State :=
  { ready with host := { ready.host with
      tenants := [(1, { guest .pcie with key := some 1, counter := BitVec.ofNat 64 n })] } }
def signed (n : Nat) : CmdEntry :=
  { entry 0x0401 0 true with
    counter := BitVec.ofNat 64 n
    cmac := cmac96 1 (leBytes 8 ready.otp.unitId.toNat ++ leBytes 8 n ++ leBytes 2 0x0401) }

/-- A frame of 64 bytes. -/
def frame64 (etype : Nat) : Frame := ⟨7, 9, none, etype, 0x20, none, none, 64, true, none, [], false⟩

/-- A TX descriptor. -/
def txd (kind len port dest : Nat) : TxDesc := ⟨len, kind, port, dest, true, true, frame64 0x0800, [1]⟩

/-- An alias entry for TFA 1025. -/
def alias1 : AliasEntry := ⟨1025, 9, 1, none, true, false, 0⟩

/-- A transmit slot of tenant 0, and a window. -/
def slot5 : TxSlot :=
  { slotId := 5, offset := 1000, length := 8, periodLog2 := 0, phase := 0, kind := 0, producer := 0, repeatOn := false
    shared := false }

/-- A window at 10 µs to 20 µs of the pan, delivered to the Process Data Store or as its field says. -/
def win5 (d : Nat) : RxWin := { slotId := 5, offset := 1000, close := 2000, periodLog2 := 0, phase := 0, delivery := d }

/-- A schedule of 1 ms pans. -/
def image1 : SchedImage := ⟨false, 0x77, 1000, 200, 1, ⟨[], [], [], []⟩⟩

/-- CSS in a state, 10 µs into pan 0 with one slot and one window. -/
def cssIn (st : CssState) (w : Nat) : State :=
  { ready with
    css := { state := st, image := some image1, fits := true, capable := true, slotsRun := true
             slots := [{ slot5 with ready := true, built := some (1, .data 1 []) }], windows := [win5 w] }
    tms := { ready.tms with trt := 10000 * nsRaw } }

/-- The header of a CSS frame of line A at that instant. -/
def hdrA : CssHdr := ⟨true, 1, false, true, 0x77, 0, 5, 10000, 0, 0⟩

/-- A cycle-start of the leader `u` and a cold-start of it. -/
def cycleOf (u : UnitId) (ns : Nat) : CycleStart := ⟨hdrA, 0, ns, 1000, u, false, 0, 200, 1⟩
def coldOf (u : UnitId) : ColdStart := ⟨hdrA, u, 1000, 0, 50000, 0⟩

/-- An LTM. -/
def ltm (v : Nat) : Ltm := ⟨v, true, false, true, 0, 0, 5, 5, 0, 0, 0, 0, 0, 0, 0, 0, 0, 0⟩

/-- A signed schedule image without templates, its key, and a device that holds it loaded. -/
def schedBytes : Bytes := leBytes 65 0x100c803e800000081000000770000000148585343 ++ beBytes 64
  0x8e533b6fa0bf7b4625bb30667c01fb607ef9f8b8a80fef5b300628703187b2a38e533b6fa0bf7b4625bb30667c01fb607ef9f8b8a80fef5b300628703187b2a3
def schedKey : BitVec 512 :=
  0xd2710aa4e008ca5c7e56798d057978d5787945b399d057c4be8681e7e5a3b9332f054747121fd2f9afc7b6a54bb62b89729a8ea0bb5949cca1fbbb33e02bb615
def schedLoad : LoadStage := ⟨129, 0x77, 0, [(0, schedBytes)]⟩
def withSched : State :=
  { ready with
    fw := { ready.fw with running := some ⟨1, 0, 0, [], [(3, schedKey)]⟩ }
    css := { ready.css with loads := [schedLoad] } }

/-- A TAU record armed for one instant, one under a gate, and a TAU_ARM for a pin. -/
def armed1 : TauRec := { state := .armed, fire := 65536000 * 65536, target := 1, owner := some 0 }
def gated1 : TauRec :=
  { state := .armed, mode := .gated, fire := 65536000 * 65536, target := 1, owner := some 0, issuer := 1, wayside := true
    commitAt := 10000000, actionId := 6 }
def withTau (r : TauRec) : State := tauWith fun x => { x with units := [(0, r)], keys := [(0, some 0)] }
def arm1 : TauArm := ⟨0, 0, 0, 1, 0, 0, 65536000, 0, 0, 0, 0, 0, 0, 6, 1, 0, 0, 0, 0, 0, false⟩

/-- The token of a commit of `gated1`, and one that is not signed. -/
def token1 : Token := mkToken (withTau gated1) gated1 1
def token0 : Token := { token1 with cmac := 0, decision := 3 }

/-- A TAU of an issuer with an open survey, its window, and a signed report. -/
def surveyed1 : TauRec := { gated1 with wayside := false, survey := true, surveyOpen := true, expected := 2 }
def withSurvey : State := { cssIn .active 3072 with tau := (withTau surveyed1).tau }
def survey0 : Survey := ⟨6, 1, 0, 0, 0, 0, 0, 5, 1, 0, 0, 0⟩
def survey1 : Survey := { survey0 with cmac := tauCmac withSurvey 0 (cmacPrefix withSurvey false ++ surveyBytes survey0) }

/-- What a frame that passes the stages comes to. -/
def passOf : Verdict → State × Routed
  | .pass s r => (s, r)
  | .deny s .. => (s, ⟨0, 0, none, false, 0, frame64 0, []⟩)

/-- What a frame that is denied comes to. -/
def denyOf : Verdict → State × Nat × Nat × Nat × Option Nat × Bool
  | .pass s _ => (s, 0, 0, 0, none, false)
  | .deny s c tn cls st g => (s, c, tn, cls, st, g)

theorem deny_form (v : Verdict) (h : (denyOf v).2.1 ≠ 0) :
    v = .deny (denyOf v).1 (denyOf v).2.1 (denyOf v).2.2.1 (denyOf v).2.2.2.1 (denyOf v).2.2.2.2.1 (denyOf v).2.2.2.2.2 := by
  cases v <;> simp_all [denyOf]

/-- The FDB knows address 7 and 9 at port 16. -/
def withFdb : State :=
  fabWith fun x => { x with
    fdb := { x.fdb with entries := [⟨7, 1, .port 16, true, 0, 0, false, false, 0⟩, ⟨9, 1, .port 16, false, 0, 0, false, false, 0⟩] } }

/-- A frame at port `p`. -/
def ing (p len : Nat) : Ingress := ⟨p, { frame64 0x0800 with len := len }, [], []⟩

/-- A frame of the train's timing in Brine, queued at port 0. -/
def held7 : Held := ⟨frame64 0x88B5, 0, 0, 7, none, false, 0, 0, 1, 0, 0, 0, 1, none, []⟩
def withHeld : State :=
  { cssIn .active 0 with
    css := { (cssIn .active 0).css with gates := [⟨0, 0, 100000⟩] }
    fab := { ready.fab with held := [(4, some held7)], queues := [(7, [4])], nextId := 5 } }

/-- A sluice bank with one open entry. -/
def bank1 : SluiceBank := ⟨1000, [⟨255, 1000, false⟩]⟩

/-- An alias of this node at port 16, a request for it, and the device that knows both. -/
def alias2 : AliasEntry := ⟨1025, 7, 1, none, false, false, ready.ine.position⟩
def req1 : StreamReq := ⟨96, false, 1025, 64, 1, false, false, false, false, false, 1000000, 1000000000, 0, 0, 9⟩
def withAlias : State := { withFdb with ine := { withFdb.ine with bank0 := [(0, some alias2)] } }

/-- What a hop check answers. -/
def holdOf : Except FailRec Hold → Hold
  | .ok h => h
  | .error _ => ⟨⟨0, 0, 0, false⟩, 0, 0, 0, ⟨⟨0, 0, 0, false⟩, 0, 0, false, 0, 0, 0, 0, false, false, false, false, 0, 0, []⟩, 0, {}, 0, 0, 0, 0, none⟩
def failOf : Except FailRec Hold → FailRec
  | .error f => f
  | .ok _ => ⟨0, 0, 0, 0, 0, 0, 0, 0, false, false, 0⟩

/-- A PREPARE of another origin with a hop here, a stream of which this node is the origin, and its hold. -/
def prep1 : Prepare :=
  ⟨⟨5, 1, 1, false⟩, 64, 1, false, 1000000, 1000000000, 1, 84, false, false, false, false, 9, 1, [⟨ready.ine.position, 16⟩]⟩
def origin1 (st : StreamState) : OriginStream :=
  ⟨1, 1, req1, 0, some hcp0, st, [⟨ready.ine.position, 16⟩], [], [], 0, 0, 0, 0, 0, [], [], 0⟩
def hold1 (n : UnitId) (i : Option Nat) : Hold := ⟨⟨n, 1, 1, false⟩, 1, 16, 96, prep1, 1, {}, 84, 1, 1, 0, i⟩
def fail1 : FailRec := ⟨8, 1, 16, 4, 5, 1, 0, 1, false, false, 1⟩
def withOrigin (st : StreamState) : State := admWith fun x => { x with streams := [origin1 st], holds := [hold1 1 none] }

/-- A segment, a CAN port, a port and a bank of counts in a state. -/
def withSeg (x : Segment) : State := portsWith fun y => { y with segs := [(0, x)] }
def withCan (x : CanPort) : State := portsWith fun y => { y with can := [(0, x)] }
def withLink (p : Nat) (l : LinkRec) : State :=
  portsWith fun y => { y with links := [(p, l)], cfg := [(p, { enabled := true, pauseRx := some true })] }

/-- Activity that meets the wake rule at its limits. -/
def pulse1 : SegPulse := ⟨16, 200, 40, 400, 10000⟩

/-- A node record, an inauguration header of a unit, and the inauguration in a phase. -/
def node7 (u : UnitId) : NodeRec :=
  ⟨u, 0, 0, 1, false, true, false, false, false, false, false, 255, 0, 0, false, 0, 15, 0⟩
def hdrI (u : UnitId) (c : Bool) : InaugHdr := ⟨false, c, 1, u, 0, 0, 1⟩
def hello5 (leader : UnitId) : Hello := { hdr := hdrI 5 false, fast := true, standard := false, port := 0, nodeCount := 1, leaderId := leader, seq := 1, echo := 7 }
def withHello (x : HelloLink) : State := ineWith fun y => { y with hello := [(3, x)] }
def withRun (c : CssState) (st : IneState) (r : InaugRun) : State :=
  { ineWith fun x => { x with state := st, run := r } with css := { ready.css with state := c } }
def pairTable : List NodeRec := [node7 1, node7 5]

/-- A nearly equal word. -/
theorem word_ne_succ (x : Word) : x ≠ x + 1 := by
  intro h
  have e := congrArg BitVec.toNat h
  have := x.isLt
  rw [BitVec.toNat_add] at e
  simp at e
  omega

/-- A numbered train whose declared cab is at its far end. -/
def ledTrain : State := ineWith fun x => { x with nodes := [node7 5, node7 1], ident := { x.ident with cab := 1 } }

/-- A static alias, and the device that holds it in the inactive bank. -/
def static1 : AliasArgs := ⟨1025, 9, 1, none⟩
def withStatic : State :=
  ineWith fun x => { x with statics := [static1], bank1 := [(0, some (staticAlias ready static1))] }

/-- A twin in a state, and a state image. -/
def withTwin (st : TwinState) : State := ineWith fun x => { x with twin := { x.twin with state := st, partner := some 5 } }
def twinImg (ok : Bool) : TwinImage := ⟨0, ok, [], [], [], [], 0, [], []⟩

/-- A map entry of MVB0 in force, of which variable 3 is the end. -/
def mapE (src : Bool) (eth : EthKind) : MapEntry := ⟨.mvb 0, 5, src, 0, 16, 3, eth, 0x100, 0, 10, 5, 0, .hold, 0xFFFF, 1⟩
def mapR (e : MapEntry) : MapRec := { entry := e, applied := true, superseded := 0, staleCount := 0, mismatch := 0, carried := 0, pubAt := 0, busAt := 0 }
def withMap (e : MapEntry) (w : Writer) : State :=
  lgbWith fun x => { x with map := [(0, some (mapR e))], vars := [(3, { len := 2, writer := some w, value := [1, 2] })] }

/-- Variable 3 under a subscription, a variable with a timeout, and a WTB node with one other. -/
def withSub : State :=
  lgbWith fun x => { x with
    subs := [⟨0x100, 9, 3, 0⟩], vars := [(3, { len := 2, writer := some (.trdp 0x100 9), value := [1, 2] })] }
def withTimeout : State :=
  lgbWith fun x => { x with vars := [(3, { len := 2, writer := some .mgp, value := [1, 2], timeout := some 5, stale := false })] }
def withWtb : State := lgbWith fun x => { x with wtb := { x.wtb with inaugurated := true, nodes := [3] } }

/-- A far target on port 16 in a state, an access, an open transaction, and a lock of a path. -/
def farC : FarCfg := ⟨16, 9, 0, 0, 0, 0, 0x1000, some 1000, false, 0⟩
def withFar (x : FarTarget) : State := farWith fun y => { y with targets := [(0, { x with cfg := some farC })] }
def acc1 (n : Nat) : FarAcc := ⟨.tenant 0, true, 0, n, [], 0, 0, 0, [], some hcp0, 0⟩
def txn1 : FarTxn := ⟨7, true, 0, 64, [], 0, 0⟩
def openAcc (n : Nat) : State := withFar { queue := [acc1 n], txn := some txn1 }
def lockOf (p : FarPath) : FarLockRec := ⟨p, 5, 100⟩
def waiter1 : FarLockReq := ⟨.bar0, 6, 100, 0, none⟩

/-- A CAN record, and a CAN port with one acceptance entry. -/
def can1 (n : Nat) : CanRecord := ⟨0x10, 0, 0, 0, List.replicate n 1⟩
def accept1 (d : CanDest) : CanAccept := ⟨0x10, 0xFF, 0, d⟩
def withAccept (d : CanDest) : State :=
  { portsWith fun x => { x with can := [(0, { accept := [(0, some (accept1 d))] })] } with
    host := { ready.host with steering := [(3, some (0, 0))] } }

/-- A parameter set with axis 0 on segment pair 0, gated by output 0. -/
def chan1 : ChanPar := ⟨true, 0, 0, 0xABCD, 1, 0, 1⟩
def out1 : OutPar := ⟨2, 100, 10, 100, 0⟩
def in1 (use : Nat) : InPar := ⟨false, 3, 5, use⟩
def func1 : FuncPar := ⟨100000, 1000, 0, 500, 0, 5000, 100, 100, 50, 50, 10, 1, false, true, 255, 255⟩
def par1 : SafetyPar := ⟨1, 0, 0, 2, 3, 3, 4, 5, [chan1], [out1], [in1 1, in1 2], [func1]⟩

/-- The island with that set, its first axis and its first channel as given. -/
def islPar (f : Island → Island) : State := islWith fun x => f { x with par := some par1 }
def withAxis (a : Axis) : State := islPar fun x =>
  { x with sfp := { x.sfp with axes := [(0, a)] }, sla := { x.sla with axes := [(0, a)] } }
def withChan (f : Channel → Channel) : State := islPar fun x => { x with sfp := f x.sfp, sla := f x.sla }
def awake (a : Axis) : State :=
  { withAxis a with isl := { (withAxis a).isl with deviceSafe := false, ready := true } }

/-- A telegram of axis 0 with its code, and the first copy that waits. -/
def tel0 (pos : Int) : Telegram := ⟨0, 0, 5, 0, pos, pos, 0, 0, 0, 0xABCD, 0⟩
def tel1 (pos : Int) : Telegram := { tel0 pos with code := crcSafety (seedOf par1 0) (telegramBytes (tel0 pos)) }
def wait1 : PairWait := ⟨tel1 0, true, 0, false⟩

/-- A device that holds a parameter load of four bytes. -/
def withLoad : State := islWith fun x => { x with loads := [⟨4, 9, 0, [(0, [1, 2, 3, 4])]⟩] }

/-- What an image says of itself, a slot in a state, and a start in a phase. -/
def info1 (hs : List (Nat × Nat × BitVec 256)) : ImageInfo := ⟨7, 0, 0, hs, []⟩
def slotIn (st : SlotState) (hs : List (Nat × Nat × BitVec 256)) : FwSlot :=
  { state := st, imageId := 7, len := 1, blocks := [(0, [1])], info := some (info1 hs) }
def withSlot (x : FwSlot) : State := fwWith fun y => { y with slotB := x }
def inPhase (ph : BootPhase) : State := fwWith fun x => { x with phase := ph }
def activation1 (l : Bool) : Activation := { live := true, at_ := 0, sfp := false, loaded := l }

/-- The device with nothing for its MGP to do, a PWC in a phase, and a keep-alive of another node. -/
def calm (f : Pwc → Pwc) : State :=
  { pwcWith f with host := { ready.host with tenants := [(0, { owner with cmdProd := 0 })] } }
def inPower (ph : PowerPhase) : State := pwcWith fun x => { x with phase := ph }
def ka1 : KeepAlive := ⟨false, 5, 0, 0, 0, 1, 1, 0, 1, 0, 20, 0⟩

/-- A segment asleep with a wake detected, in the running device. -/
def sleeper : State := withSeg { state := .sleep, wakeDet := true }

/-- A windrow of a code, and the recorder as its function says. -/
def wind1 (c : Nat) (f : Bool) : Windrow := ⟨3, 0, 0, true, 0, 1, c, 0, List.replicate 10 0, false, 0, f⟩

/-- Process data, a ring slot and a counter copy in place. -/
def stored : State :=
  { withTimeout with
    evr := { ready.evr with mem := [(2, [1]), (5, [2])], area := [(1, some ⟨7, 0, 0, 0, 1⟩)] } }

/-- The word that backs the register at `off` is poisoned. -/
def poisonedAt (off : Nat) : State :=
  { ready with glob := { ready.glob with poison := [((Config.backing off).1, [(Config.backing off).2])] } }

theorem poisoned_at (off : Nat) :
    poisonedBacking (poisonedAt off) off = some ((Config.backing off).1, (Config.backing off).2) := by
  simp [poisonedBacking, poisonedAt]

/-- A FRER stream whose last hop is here, its frame with a sequence number far behind, and the device that has heard later
ones. -/
def stream1 : Stream :=
  { origin := 5, streamId := 1, txn := 1, hop := 1, bySource := false, mac := 7, vlan := 1, port := none, egress := 16
    maxSdu := 1500, cir := 1000000, cbs := 2000, eir := 0, ebs := 0, yellowDiscard := false, cls := 6, owner := 0, bound := 1000000, frer := true
    lineB := false, deliverInWindow := false, cells := 1, rate := 1, bk := 1, active := true, ctok := 2000 * 8 * 1000000000 }
def rogueIn : Ingress := ⟨0, { frame64 0x0800 with rtag := some 0 }, [], []⟩
def withStream : State :=
  fabWith fun x => { x with
    streams := [(3, some stream1)], recovery := [(0, { takeAny := false, seq := 100, history := 1 })] }

/-- The state a step comes to. -/
def stepped : Host.Outcome State Fault Refusal → State
  | .next t => t
  | _ => ready

/-- A commit-gated TAU of this train with its window, and its token. -/
def gatedCss : TauRec := { gated1 with wayside := false }
def withGate : State := { cssIn .active 3072 with tau := (withTau gatedCss).tau }
def token2 : Token := mkToken withGate gatedCss 1

end Sys2Proof.Tests
end

