-- ==== Sys2Proof/Tests/Load.lean ====
section
/-! SUPPORT. A safety parameter set that passes every check of R257, an image that passes every check of R319, and a frame
of the recovery UART; what is long to evaluate is cut into parts. -/

set_option Elab.async false
set_option maxRecDepth 100000

namespace Sys2Proof.Tests

open Sys2Proof Sys2Proof.Machine

/-- The set: no channel, output or input in use, every record in range, its code, and the signature of key 0. -/
def parCode : Word := 0x7485581f
def parTop : Bytes := leBytes 28 0x500000004030302000000158d000000090000000153504152 ++ List.replicate 44 0
def chanRec : Bytes := leBytes 16 0xffff000000000000000000
def outRec : Bytes := leBytes 16 0x6400010a00
def inRec : Bytes := leBytes 8 0x50100
def funcRec : Bytes :=
  leBytes 38 0xffff0001000a00320032006400640000138800000000000001f400000000000003e8000186a0
    ++ List.replicate 26 0
def manyOf (n : Nat) (r : Bytes) : Bytes := (List.replicate n r).flatten
def parHead : Bytes := parTop ++ manyOf 64 chanRec ++ manyOf 8 outRec ++ manyOf 16 inRec ++ manyOf 64 funcRec
def parBody : Bytes := parHead ++ leBytes 4 parCode.toNat ++ [0]
def parKey : BitVec 512 :=
  0xe7d4e39e47355be6a8aa527014cdf7d759c9e363abb3a9e3640fd5f960faef51fb42b80d842a3ba5bd40bfc5b134ab14c63e1a942324e6226c430e375e6ff27e
def parSig : BitVec 512 :=
  0x8e533b6fa0bf7b4625bb30667c01fb607ef9f8b8a80fef5b300628703187b2a38e533b6fa0bf7b4625bb30667c01fb607ef9f8b8a80fef5b300628703187b2a3
def parBytes : Bytes := parBody ++ beBytes 64 parSig.toNat
/-- A device whose manifest holds the key, with the set loaded in two blocks. -/
def parState : State := { ready with fw := { ready.fw with running := some ⟨1, 0, 0, [], [(2, parKey)]⟩ } }
/-- Its digest, from outside the model. -/
def parDigest : BitVec 256 := 0x55f6f3b23d0fa54fa83defc43295b948bbab0113ac20bbad7107c6515df278d2
def parLoad : LoadStage := ⟨5517, 9, 0, [(0, parBytes.take 4096), ((parBytes.take 4096).length, parBytes.drop 4096)]⟩
def parLoaded : State := { parState with isl := { parState.isl with loads := [parLoad] } }

/-- The bytes of one of many equal records. -/
theorem getD_manyOf (r post : Bytes) (i : Nat) (hi : i < r.length) : ∀ m k, k < m →
    (manyOf m r ++ post).getD (r.length * k + i) 0 = r.getD i 0 := by
  intro m
  induction m with
  | zero => intro k hk; omega
  | succ m ih =>
    intro k hk
    have e : manyOf (m + 1) r ++ post = r ++ (manyOf m r ++ post) := by simp [manyOf, List.replicate_succ]
    rw [e]
    cases k with
    | zero => rw [Nat.mul_zero, Nat.zero_add, List.getD_append _ _ _ _ hi]
    | succ k =>
      rw [List.getD_append_right _ _ _ _ (by rw [Nat.mul_succ]; omega), ← ih k (by omega)]
      congr 1
      rw [Nat.mul_succ]; omega

/-- A field of one of many equal records that lie behind `pre`. -/
theorem leAt_manyOf (pre r post : Bytes) (m k o i n : Nat) (hk : k < m) (ho : o = pre.length + r.length * k + i)
    (hi : i + n ≤ r.length) : leAt (pre ++ (manyOf m r ++ post)) o n = leAt r i n := by
  unfold leAt bytesAt
  congr 1
  apply List.map_congr_left
  intro j hj
  have hj : j < n := by simpa using hj
  rw [List.getD_append_right _ _ _ _ (by omega), ← getD_manyOf r post (i + j) (by omega) m k hk]
  congr 1
  omega

/-- The fields of the records of the set. -/
theorem chan_at (k o i n : Nat) (hk : k < 64) (ho : o = 72 + 16 * k + i) (hi : i + n ≤ 16) : leAt parBytes o n = leAt chanRec i n := by
  have e : parBytes = parTop ++ (manyOf 64 chanRec ++ (manyOf 8 outRec ++ (manyOf 16 inRec ++ (manyOf 64 funcRec
      ++ (leBytes 4 parCode.toNat ++ ([0] ++ beBytes 64 parSig.toNat)))))) := by
    simp only [parBytes, parBody, parHead, List.append_assoc]
  rw [e]
  exact leAt_manyOf _ _ _ _ k o i n hk ho hi
theorem out_at (k o i n : Nat) (hk : k < 8) (ho : o = 1096 + 16 * k + i) (hi : i + n ≤ 16) : leAt parBytes o n = leAt outRec i n := by
  have e : parBytes = (parTop ++ manyOf 64 chanRec) ++ (manyOf 8 outRec ++ (manyOf 16 inRec ++ (manyOf 64 funcRec
      ++ (leBytes 4 parCode.toNat ++ ([0] ++ beBytes 64 parSig.toNat))))) := by
    simp only [parBytes, parBody, parHead, List.append_assoc]
  rw [e]
  exact leAt_manyOf _ _ _ _ k o i n hk ho hi
theorem in_at (k o i n : Nat) (hk : k < 16) (ho : o = 1224 + 8 * k + i) (hi : i + n ≤ 8) : leAt parBytes o n = leAt inRec i n := by
  have e : parBytes = (parTop ++ manyOf 64 chanRec ++ manyOf 8 outRec) ++ (manyOf 16 inRec ++ (manyOf 64 funcRec
      ++ (leBytes 4 parCode.toNat ++ ([0] ++ beBytes 64 parSig.toNat)))) := by
    simp only [parBytes, parBody, parHead, List.append_assoc]
  rw [e]
  exact leAt_manyOf _ _ _ _ k o i n hk ho hi
theorem func_at (k o i n : Nat) (hk : k < 64) (ho : o = 1352 + 64 * k + i) (hi : i + n ≤ 64) : leAt parBytes o n = leAt funcRec i n := by
  have e : parBytes = (parTop ++ manyOf 64 chanRec ++ manyOf 8 outRec ++ manyOf 16 inRec) ++ (manyOf 64 funcRec
      ++ (leBytes 4 parCode.toNat ++ ([0] ++ beBytes 64 parSig.toNat))) := by
    simp only [parBytes, parBody, parHead, List.append_assoc]
  rw [e]
  exact leAt_manyOf _ _ _ _ k o i n hk ho hi

/-- A list of equal values. -/
theorem map_range_eq {α : Type} (f : Nat → α) (a : α) (n : Nat) (h : ∀ k, k < n → f k = a) :
    (List.range n).map f = List.replicate n a := by
  rw [List.map_congr_left (g := fun _ => a) fun k hk => h k (by simpa using hk)]
  simp

theorem par_chan (k : Nat) (h : k < 64) : parChan parBytes k = ⟨false, 0, 0, 0, 0, 255, 255⟩ := by
  have c := fun i n => chan_at k (72 + 16 * k + i) i n h rfl
  have c0 := c 0 1 (by decide)
  rw [Nat.add_zero] at c0
  simp only [parChan, c0, c 1 1 (by decide), c 2 1 (by decide), c 4 4 (by decide), c 8 1 (by decide), c 9 1 (by decide),
    c 10 1 (by decide)]
  decide +kernel
theorem par_out (k : Nat) (h : k < 8) : parOut parBytes k = ⟨0, 100, 1, 100, 0⟩ := by
  have c := fun i n => out_at k (1096 + 16 * k + i) i n h rfl
  have c0 := c 0 1 (by decide)
  rw [Nat.add_zero] at c0
  simp only [parOut, c0, c 1 1 (by decide), c 2 2 (by decide), c 4 2 (by decide), c 6 2 (by decide)]
  decide +kernel
theorem par_in (k : Nat) (h : k < 16) : parIn parBytes k = ⟨false, 1, 5, 0⟩ := by
  have c := fun i n => in_at k (1224 + 8 * k + i) i n h rfl
  have c0 := c 0 1 (by decide)
  rw [Nat.add_zero] at c0
  simp only [parIn, c0, c 1 1 (by decide), c 2 2 (by decide), c 4 1 (by decide)]
  decide +kernel
theorem par_func (k : Nat) (h : k < 64) :
    parFunc parBytes k = ⟨100000, 1000, 0, 500, 0, 5000, 100, 100, 50, 50, 10, 1, false, false, 255, 255⟩ := by
  have c := fun i n => func_at k (1352 + 64 * k + i) i n h rfl
  simp only [parFunc, c 0 4 (by decide), c 4 4 (by decide), c 8 4 (by decide), c 12 4 (by decide), c 16 4 (by decide),
    c 20 4 (by decide), c 24 2 (by decide), c 26 2 (by decide), c 28 2 (by decide), c 30 2 (by decide), c 32 2 (by decide),
    c 34 1 (by decide), c 35 1 (by decide), c 36 1 (by decide), c 37 1 (by decide)]
  decide +kernel
theorem par_of : parOf parBytes =
    { ident := word (leAt parBytes 8 4), crc := word (leAt parBytes 5448 4), seals := BitVec.ofNat 8 (leAt parBytes 16 1)
      period := leAt parBytes 17 1, miss := leAt parBytes 18 1, singleLimit := leAt parBytes 19 1, window := leAt parBytes 20 1
      seed := word (leAt parBytes 24 4), chans := List.replicate 64 ⟨false, 0, 0, 0, 0, 255, 255⟩
      outs := List.replicate 8 ⟨0, 100, 1, 100, 0⟩, ins := List.replicate 16 ⟨false, 1, 5, 0⟩
      funcs := List.replicate 64 ⟨100000, 1000, 0, 500, 0, 5000, 100, 100, 50, 50, 10, 1, false, false, 255, 255⟩ } := by
  unfold parOf
  rw [map_range_eq _ _ _ par_chan, map_range_eq _ _ _ par_out, map_range_eq _ _ _ par_in, map_range_eq _ _ _ par_func]

/-- Reading a list byte by byte gives the list. -/
theorem mapM_get (l : Bytes) : ∀ r : Bytes, ∀ k, (∀ i, i < r.length → l[k + i]? = r[i]?) →
    ((List.range' k r.length).mapM fun i => l[i]?) = some r := by
  intro r
  induction r with
  | nil => intro k _; rfl
  | cons a r ih =>
    intro k h
    have h0 := h 0 (by simp)
    have h1 := ih (k + 1) (fun i hi => by
      have := h (i + 1) (by simpa using hi)
      simpa [Nat.add_assoc, Nat.add_comm 1 i] using this)
    simp only [Nat.add_zero, List.getElem?_cons_zero] at h0
    simp [List.range'_succ, h0, h1]

/-- A load in two blocks that follow one another is complete. -/
theorem loadBytes_two (x y : Bytes) : loadBytes [(0, x), (x.length, y)] (x.length + y.length) = some (x ++ y) := by
  have e : ∀ i, i ∈ List.range' 0 (x ++ y).length → loadByte [(0, x), (x.length, y)] i = (x ++ y)[i]? := by
    intro i hi
    have hi : i < x.length + y.length := by simpa using hi
    by_cases c : i < x.length
    · have : ¬ (x.length ≤ i) := by omega
      simp [loadByte, c, this, List.getElem?_append_left c]
    · have h1 : x.length ≤ i := by omega
      have h2 : i - x.length < y.length := by omega
      simp [loadByte, h1, hi, List.getElem?_eq_getElem h2]
  have h := mapM_get (x ++ y) (x ++ y) 0 (by simp)
  have : (List.range' 0 (x ++ y).length).mapM (loadByte [(0, x), (x.length, y)])
      = (List.range' 0 (x ++ y).length).mapM fun i => (x ++ y)[i]? := by
    clear h
    revert e
    generalize List.range' 0 (x ++ y).length = q
    intro e
    induction q with
    | nil => rfl
    | cons a q ih => simp [e a (by simp), ih fun i hi => e i (by simp [hi])]
  unfold loadBytes
  rw [List.range_eq_range', ← List.length_append, this, h]

theorem par_digest : sha256 (parBytes.take (parBytes.length - 64)) = parDigest := by decide +kernel
theorem par_signed : ecdsaOk parKey (BitVec.ofNat 512 (beNum (parBytes.drop (parBytes.length - 64)))) parDigest = true := by decide +kernel
theorem par_key : (parBytes.getD (parBytes.length - 65) 255).toNat = 0 := by decide +kernel
theorem par_manifest : manifestSigned parLoaded parBytes 1 = true := by
  unfold manifestSigned
  have h : parLoaded.fw.running = some ⟨1, 0, 0, [], [(2, parKey)]⟩ := rfl
  rw [h]
  simp only [par_key, par_digest, List.getElem?_cons_zero, par_signed]
  rfl
theorem par_form : parBytes.length = 5517 ∧ leAt parBytes 0 4 = 0x53504152 ∧ leAt parBytes 4 2 = 1
    ∧ leAt parBytes 12 4 = 5517 ∧ (parOf parBytes).ident = 9 := by decide +kernel
theorem par_fields : parFieldsOk (parOf parBytes) = true := by
  rw [par_of]
  decide +kernel
theorem par_zeros : parZeros parBytes = true := by
  have a : ∀ k ∈ List.range 64, (decide (leAt parBytes (72 + 16 * k) 1 < 2) && leAt parBytes (75 + 16 * k) 1 == 0
      && leAt parBytes (83 + 16 * k) 5 == 0 && decide (leAt parBytes (1387 + 64 * k) 1 < 4)
      && leAt parBytes (1390 + 64 * k) 26 == 0) = true := by
    intro k hk
    have hk : k < 64 := by simpa using hk
    rw [chan_at k _ 0 1 hk (by omega) (by decide), chan_at k _ 3 1 hk (by omega) (by decide),
      chan_at k _ 11 5 hk (by omega) (by decide), func_at k _ 35 1 hk (by omega) (by decide),
      func_at k _ 38 26 hk (by omega) (by decide)]
    decide +kernel
  have b : ∀ k ∈ List.range 8, (leAt parBytes (1104 + 16 * k) 8 == 0) = true := by
    intro k hk
    have hk : k < 8 := by simpa using hk
    rw [out_at k _ 8 8 hk (by omega) (by decide)]
    decide +kernel
  have c : ∀ k ∈ List.range 16, (decide (leAt parBytes (1224 + 8 * k) 1 < 2) && leAt parBytes (1229 + 8 * k) 3 == 0) = true := by
    intro k hk
    have hk : k < 16 := by simpa using hk
    rw [in_at k _ 0 1 hk (by omega) (by decide), in_at k _ 5 3 hk (by omega) (by decide)]
    decide +kernel
  have d : (leAt parBytes 6 2 == 0 && leAt parBytes 21 3 == 0) = true := by decide +kernel
  unfold parZeros
  rw [d, List.all_eq_true.mpr a, List.all_eq_true.mpr b, List.all_eq_true.mpr c]
  rfl
theorem par_crc : crcSafety 0 (parBytes.take 5448) = word (leAt parBytes 5448 4) := by decide +kernel
theorem par_checks : parCheck parLoaded parBytes = some (parOf parBytes) :=
  if_pos ⟨par_form.1, par_form.2.1, par_form.2.2.1, par_form.2.2.2.1, par_fields, par_zeros, par_crc, par_manifest⟩
theorem par_lengths : (parBytes.take 4096).length + (parBytes.drop 4096).length = 5517 := by decide +kernel
theorem par_loads : loadBytes parLoad.blocks parLoad.len = some parBytes := by
  have h := loadBytes_two (parBytes.take 4096) (parBytes.drop 4096)
  rw [par_lengths, List.take_append_drop] at h
  exact h
theorem par_held : loadOf parLoaded.isl.loads hcp0.tenant = some parLoad := by
  show loadOf [parLoad] 0 = some parLoad
  simp [loadOf]
  rfl

/-- The digests of the image: of a component, of the root key, of what is signed (from outside the model). -/
def imgHash : BitVec 256 := 0x6e340b9cffb37a989ca544e6bb780a2c78901d3fb33738768511a30617afa01d
def imgRoot : BitVec 256 := 0x4977227b955a0c90988fdc01b5623170ab8e313fe064162240d6cf4bdac7e65e
def imgDigest : BitVec 256 := 0x518ecf12d1e534dbee11561e14f485c0fe8b2ed0ff978e54d76c12a2e48c4d1

/-- An image of the form of R318 with the smallest components: its bytes before the signature, the signature, and the device
whose first root it is under, with the image loaded into its inactive slot. -/
def imgBody : Bytes := leBytes 128 0x32507da227b1799a3db84f3836b02ad8eca2641ace064b377eff98490c6434876cfde7c61b6641fb85a9adef21b7c6e665f14b1d95eff7c8440a33a6d1e4cb5e000000000000000000001100b0b09664000003f1000000070000000148584657 ++ [(1, 0), (2, 0), (4, 0), (5, 0), (6, 0), (3, 0), (3, 1), (3, 2), (3, 3), (3, 4), (3, 5), (3, 6), (3, 7), (3, 8), (3, 9), (3, 10), (3, 11)].flatMap (fun e =>
    leBytes 16 (e.1 + e.2 * 256 + 944 * 2 ^ 32 + 2 ^ 64) ++ beBytes 32 imgHash.toNat) ++ [0]
def imgSig : BitVec 512 := 0x51590b7a515140d2d784c85608668fdfef8c82fd1f5be52421554a0dc3d033edfea0cfdf39d06ac20de31613fee6fe655d3ba1523548ba144cdf8edfe241312c
def imgBytes : Bytes := imgBody ++ beBytes 64 imgSig.toNat
def imgSlot : FwSlot := { state := .loading, imageId := 7, len := 1009, blocks := [(0, imgBytes.take 500), ((imgBytes.take 500).length, imgBytes.drop 500)] }
def imgLoaded : State :=
  { fwWith fun x => { x with slotB := imgSlot } with otp := { ready.otp with roots := [imgRoot, 0, 0, 0] } }

theorem img_form : ¬ (imgBytes.length < 192 ∨ leAt imgBytes 0 4 ≠ 0x48584657 ∨ leAt imgBytes 4 2 ≠ 1 ∨ 2 ≤ leAt imgBytes 6 2
    ∨ leAt imgBytes 8 4 = 0 ∨ 14680064 < imgBytes.length ∨ leAt imgBytes 12 4 ≠ imgBytes.length ∨ 64 < leAt imgBytes 20 1
    ∨ ¬ directoryOk imgBytes) := by decide +kernel
theorem img_chip : ¬ (leAt imgBytes 16 2 ≠ 0x9664 ∨ 0xB0 < leAt imgBytes 18 1 ∨ leAt imgBytes 19 1 < 0xB0)
    ∧ ¬ (leAt imgBytes 6 2 = 1 ∧ leAt imgBytes 24 8 ≠ imgLoaded.otp.unitId.toNat) := by decide +kernel
theorem img_root : (!rootGood imgLoaded (rootHashOf imgBytes)) = false := by decide +kernel
theorem img_digest : sha256 (imgBytes.take (imgBytes.length - 64)) = imgDigest := by decide +kernel
theorem img_signed : ecdsaOk (BitVec.ofNat 512 (beNum (bytesAt imgBytes 32 64)))
    (BitVec.ofNat 512 (beNum (imgBytes.drop (imgBytes.length - 64)))) imgDigest = true := by decide +kernel
theorem img_hash : sha256 [0] = imgHash := by decide +kernel
theorem img_parts : ((directory imgBytes).all fun c => componentBytes imgBytes c == [0] && c.hash == imgHash) = true := by
  decide +kernel
theorem img_hashes : ((directory imgBytes).any fun c => sha256 (componentBytes imgBytes c) != c.hash) = false := by
  rw [List.any_eq_false]
  intro c hc
  have h := List.all_eq_true.mp img_parts c hc
  rw [Bool.and_eq_true, beq_iff_eq, beq_iff_eq] at h
  rw [h.1, img_hash, h.2]
  simp
theorem img_checks : imageCheck imgLoaded imgBytes = .ok (infoOf imgBytes) := by
  unfold imageCheck
  rw [if_neg img_form, if_neg img_chip.1, if_neg img_chip.2, img_root, img_digest, img_signed, img_hashes]
  rfl
theorem img_lengths : (imgBytes.take 500).length + (imgBytes.drop 500).length = 1009 := by decide +kernel
theorem img_loads : loadBytes imgSlot.blocks imgSlot.len = some imgBytes := by
  have h := loadBytes_two (imgBytes.take 500) (imgBytes.drop 500)
  rw [img_lengths, List.take_append_drop] at h
  exact h

/-- A frame of the recovery UART: its length, a command and a check word. -/
def uartHead : Bytes := [40, 0, 0x06, 0x0A] ++ List.replicate 38 0
def uartOf (w : Word) : Bytes := uartHead ++ leBytes 4 w.toNat

/-- The check word of such a frame is the one it was given. -/
theorem uart_word (w : Word) : word (leAt (uartOf w) 42 4) = w := by
  have h : leAt (uartOf w) 42 4 = leNat (leBytes 4 w.toNat) := rfl
  rw [h]
  apply BitVec.eq_of_toNat_eq
  have := w.isLt
  simp only [word, leBytes, leNat, BitVec.toNat_ofNat]
  omega
theorem uart_head (w : Word) : (uartOf w).take 42 = uartHead := rfl

end Sys2Proof.Tests
end

