-- ==== Sys2Proof/WellFormed.lean ====
section
/-! DEFINITION. Well-formed commands: the ranges that the tables of the spec give the operands' numbers: tenants (R285), logical
ports (Table 0-4), TAUs (R94), segments, far targets (R232), axes, outputs and inputs (R243), entries of tables, ns of a
second. `exec` is total; a command that is not well-formed names nothing the device has. -/

namespace Sys2Proof

/-- The ports that carry link timing messages: BB0 to BB3 and TW0 (R40). -/
def ltmPort (p : Nat) : Bool := decide (p < 4) || p == 95

/-- The size of a space of the PCIe function (R30, R34). -/
def barSize : Bar → Nat
  | .config => 4096
  | .bar0 => 2 ^ 24
  | .bar2 => 65536

/-- A command's operands lie within their ranges. -/
def Instr.wf (i : Instr) : Bool :=
  match i with
  | .registerWrite bar off ws => decide (off < barSize bar) && decide (1 ≤ ws.length ∧ ws.length ≤ 2)
  | .reservedAccess _ a => decide (a.off < barSize a.bar)
  | .narrowWrite off _ _ => decide (off < 2 ^ 24)
  | .globalEccClear _ _ _ => true
  | .eccCaptureRelease _ => true
  | .patrolScrub _ => true
  | .shadowRestore mem _ => decide (2 ≤ mem ∧ mem ≤ 7)
  | .timeSlotLatch slot => decide (slot < 8)
  | .driftLatch _ => true
  | .leaderIdLatch => true
  | .trtStepRecordLatch => true
  | .cssLeaderLatch => true
  | .cssOriginLatch => true
  | .ffCounterLatch off => decide (off < 0x100000)
  | .lastDiscardLatch t => decide (t < 256)
  | .ffBrineClear _ => true
  | .ineStepLatch => true
  | .sleepAtLatch => true
  | .keeperLatch => true
  | .eomSecLatch => true
  | .evrWinLatch i => decide (i < 4096)
  | .commandDoorbell t _ => decide (t < 256)
  | .commandFetch t _ => decide (t < 256)
  | .mbxTResetWrite t _ => decide (t < 256)
  | .tenantResetExecute t => decide (t < 256)
  | .spiTransaction _ addr _ _ => decide (addr < 2 ^ 24)
  | .txDescriptor t q _ => decide (t < 256) && decide (q < 8)
  | .rxDelivery t q _ => decide (t < 256) && decide (q < 8)
  | .interruptHoldoffEnd t => decide (t < 256)
  | .eventRingRoom t _ => decide (t < 256)
  | .remoteHcpReceive _ => true
  | .sessionOpen h _ _ _ => decide (h.tenant < 256)
  | .tenantConfig h _ => decide (h.tenant < 256)
  | .tenantKeySet h t _ => decide (h.tenant < 256) && decide (t < 256)
  | .tenantReset h t => decide (h.tenant < 256) && decide (t < 256)
  | .featuresSet h _ => decide (h.tenant < 256)
  | .queueSteer h entry tenant queue => decide (h.tenant < 256) && decide (entry < 1024) && decide (tenant < 256) && decide (queue < 8)
  | .authEcho h _ => decide (h.tenant < 256)
  | .timeRead h => decide (h.tenant < 256)
  | .timeConfig h _ => decide (h.tenant < 256)
  | .timeSet h _ ns _ => decide (h.tenant < 256) && decide (ns < 1000000000)
  | .ltmSend d => ltmPort d.at_
  | .ltmReceive p _ => ltmPort p
  | .trtHoldoverEntry => true
  | .servoUpdate _ _ _ => true
  | .phaseTrackLoss p => ltmPort p
  | .phaseTrackRequalify p => ltmPort p
  | .gptpMessageReceive port _ => decide (port < 101)
  | .syncReceiptTimeout dom => decide (dom < 2)
  | .preferredDomainReturn => true
  | .ppsInEdge => true
  | .ppsOutSecond => true
  | .refMonitorWindow _ => true
  | .refReturn => true
  | .xinStop => true
  | .segmentBeaconSend d => decide (d.at_ < 64)
  | .panBoundary => true
  | .slotFetch i => decide (i < 1024)
  | .slotTransmit d => decide (d.at_ < 1024)
  | .cssFrameReceive port _ => decide (port < 101)
  | .windowClose w => decide (w < 4096)
  | .cycleStartReceive port _ => decide (port < 101)
  | .coldStartReceive port _ => decide (port < 101)
  | .listenTimeout => true
  | .originReached => true
  | .timedStartReached => true
  | .waitStartTimeout => true
  | .integratingTimeout => true
  | .reelectionColdStart => true
  | .leaderlessTimeout => true
  | .schedLoadBegin h _ _ => decide (h.tenant < 256)
  | .schedLoadBlock h _ _ => decide (h.tenant < 256)
  | .schedLoadEnd h met => decide (h.tenant < 256) && met.all fun w => decide (w < 2 ^ 20)
  | .cssStart h _ => decide (h.tenant < 256)
  | .cssStop h _ _ => decide (h.tenant < 256)
  | .cssCountersClear h => decide (h.tenant < 256)
  | .tauArm h _ => decide (h.tenant < 256)
  | .tauCancel h tau => decide (h.tenant < 256) && decide (tau < 64)
  | .tauFrameLoad h tau _ => decide (h.tenant < 256) && decide (tau < 64)
  | .tauCommit h tau _ keySlot _ => decide (h.tenant < 256) && decide (tau < 64) && decide (keySlot < 256)
  | .tauAbort h tau _ keySlot _ => decide (h.tenant < 256) && decide (tau < 64) && decide (keySlot < 256)
  | .tauKeySet h slot _ => decide (h.tenant < 256) && decide (slot < 4)
  | .tauStatus h tau => decide (h.tenant < 256) && decide (tau < 64)
  | .tauSurveyRead h tau _ => decide (h.tenant < 256) && decide (tau < 64)
  | .tauFire tau => decide (tau < 64)
  | .pinPulseEnd pin => decide (pin < 8)
  | .captureEdge pin _ => decide (pin < 8)
  | .captureWindowEnd pin => decide (pin < 8)
  | .commitDeadline tau => decide (tau < 64)
  | .commitTokenReceive port _ => decide (port < 101)
  | .waysideTokenRepeat tau => decide (tau < 64)
  | .surveyReportReceive port _ => decide (port < 101)
  | .surveyClose tau => decide (tau < 64)
  | .frameIngress fs => fs.all fun x => x.finds.all fun e => e.mem == 1 || e.mem == 2 || e.mem == 3 || e.mem == 6
  | .egressSelect b => decide (b.port < 101)
  | .sluiceGateChange port => decide (port < 101)
  | .fdbAgeOut _ _ => true
  | .resaltTrigger => true
  | .resaltWalkDone => true
  | .resaltResume => true
  | .frerResetTimeout fn => decide (fn < 4096)
  | .prpSupervisionSend _ => true
  | .prpNodeForget _ => true
  | .brineConfig h _ => decide (h.tenant < 256)
  | .classConfig h _ => decide (h.tenant < 256)
  | .sluiceLoad h port bank _ => decide (h.tenant < 256) && decide (port < 101) && decide (bank < 2)
  | .tagConfig h _ => decide (h.tenant < 256)
  | .prpConfig h _ => decide (h.tenant < 256)
  | .frerStatus h fn => decide (h.tenant < 256) && decide (fn < 4096)
  | .fdbAdd h _ _ _ => decide (h.tenant < 256)
  | .fdbDelete h _ _ => decide (h.tenant < 256)
  | .fdbFlush h _ => decide (h.tenant < 256)
  | .fdbResalt h => decide (h.tenant < 256)
  | .bitternWatch h k _ => decide (h.tenant < 256) && decide (k < 16)
  | .bitternClear h _ => decide (h.tenant < 256)
  | .streamAdmit h _ => decide (h.tenant < 256)
  | .streamWithdraw h _ _ => decide (h.tenant < 256)
  | .streamStatus h _ _ => decide (h.tenant < 256)
  | .admissionConfig h _ => decide (h.tenant < 256)
  | .prepareReceive port _ => decide (port < 101)
  | .replyReceive _ => true
  | .admissionInstallReceive port _ _ ns => decide (port < 101) && decide (ns < 1000000000)
  | .streamActivation _ => true
  | .confirmReceive _ _ _ => true
  | .confirmTimeout _ => true
  | .prepareTimeout _ => true
  | .releaseReceive _ => true
  | .holdLapse _ => true
  | .noticeReceive _ => true
  | .suspendHoldExpiry _ => true
  | .linkUp port _ => decide (port < 101)
  | .linkDown port => decide (port < 101)
  | .cpInbandStatus port _ _ _ => decide (4 ≤ port ∧ port < 16)
  | .laneSyncLoss lane => decide (lane < 12)
  | .pauseReceive port _ _ => decide (port < 101)
  | .pauseExpiry port => decide (port < 101)
  | .pauseWatchdogTrip port => decide (port < 101)
  | .pauseIgnoreEnd port => decide (port < 101)
  | .portConfig h _ => decide (h.tenant < 256)
  | .segConfig h _ => decide (h.tenant < 256)
  | .segState h sg _ => decide (h.tenant < 256) && decide (sg < 64)
  | .segSleepSilence sg => decide (sg < 64)
  | .segSleepTimeout sg => decide (sg < 64)
  | .segActivity sg _ => decide (sg < 64)
  | .segWakePattern sg _ => decide (sg < 64)
  | .segWake h sg => decide (h.tenant < 256) && decide (sg < 64)
  | .segWakeBurstEnd sg => decide (sg < 64)
  | .canConfig h _ => decide (h.tenant < 256)
  | .canRecover h port => decide (h.tenant < 256) && decide (80 ≤ port ∧ port < 88)
  | .canBusOff port => decide (80 ≤ port ∧ port < 88)
  | .canAutoRecovery port _ => decide (80 ≤ port ∧ port < 88)
  | .canFrameReceive port _ => decide (80 ≤ port ∧ port < 88)
  | .mdioAccess h _ => decide (h.tenant < 256)
  | .portStatus h port => decide (h.tenant < 256) && decide (port < 101)
  | .harvestTake h _ => decide (h.tenant < 256)
  | .harvestFillDone bank => decide (bank < 4)
  | .helloSend port => decide (port < 101)
  | .helloReceive port _ => decide (port < 101)
  | .ttdpFallback port => decide (port < 101)
  | .ttdpFrameReceive port _ => decide (port < 101)
  | .tableReceive port _ _ _ _ => decide (port < 101)
  | .funcsReceive port _ _ _ => decide (port < 101)
  | .digestReceive port _ _ _ _ => decide (port < 101)
  | .topologyTimeout => true
  | .disagreeHoldoffEnd => true
  | .proceedReceive port _ => decide (port < 101)
  | .mergeReceive port _ _ _ => decide (port < 101)
  | .inaugInstallReceive port _ _ ns _ _ => decide (port < 101) && decide (ns < 1000000000)
  | .inaugAckReceive port _ _ _ => decide (port < 101)
  | .inaugAbortReceive port _ _ => decide (port < 101)
  | .inaugConfig h _ _ => decide (h.tenant < 256)
  | .inaugLead h cab => decide (h.tenant < 256) && decide (cab < 3)
  | .inaugInhibit h _ => decide (h.tenant < 256)
  | .inaugStatus h => decide (h.tenant < 256)
  | .aliasSet h _ => decide (h.tenant < 256)
  | .aliasClear h _ => decide (h.tenant < 256)
  | .aliasCommit h _ ns => decide (h.tenant < 256) && decide (ns < 1000000000)
  | .twinConfig h _ => decide (h.tenant < 256)
  | .twinSwap h => decide (h.tenant < 256)
  | .twinImageSend => true
  | .twinImageReceive _ => true
  | .twinFullTransferDone _ => true
  | .twinSyncTimeout => true
  | .twinPartnerTimeout => true
  | .twinUnpairedTimeout => true
  | .twinSwapDue => true
  | .twinSwapSkip => true
  | .twinMirrorReceive slot _ _ => decide (slot < 1024)
  | .mvbMacrocycle port _ => decide (port < 101)
  | .mvbFrameReceive port _ => decide (port < 101)
  | .wtbInauguration _ _ => true
  | .wtbDataReceive _ _ => true
  | .trdpReceive _ => true
  | .pdPublish _ idx => decide (idx < 4096)
  | .variableStale v => decide (v < 8192)
  | .lgbConfig h _ => decide (h.tenant < 256)
  | .lgbMapSet h idx _ => decide (h.tenant < 256) && decide (idx < 4096)
  | .lgbMapClear h _ idx => decide (h.tenant < 256) && decide (idx < 4096)
  | .trdpConfig h _ _ => decide (h.tenant < 256)
  | .pdOwnerSet h v _ _ => decide (h.tenant < 256) && decide (v < 8192)
  | .pdWrite h v _ => decide (h.tenant < 256) && decide (v < 8192)
  | .pdRead h v => decide (h.tenant < 256) && decide (v < 8192)
  | .lgbStatus h _ idx => decide (h.tenant < 256) && decide (idx < 4096)
  | .farTargetSet h f _ => decide (h.tenant < 256) && decide (f < 256)
  | .farRead h f _ _ => decide (h.tenant < 256) && decide (f < 256)
  | .farWrite h f _ _ => decide (h.tenant < 256) && decide (f < 256)
  | .farLock h f _ _ => decide (h.tenant < 256) && decide (f < 256)
  | .farUnlock h f _ => decide (h.tenant < 256) && decide (f < 256)
  | .farHostRead f _ _ => decide (f < 256)
  | .farHostWrite f _ _ => decide (f < 256)
  | .fwLockWrite f _ => decide (f < 256)
  | .farRequestSend f => decide (f < 256)
  | .farResponseReceive f _ => decide (f < 256)
  | .farResend f => decide (f < 256)
  | .farTimeout f => decide (f < 256)
  | .farDiscardEnd f tag => decide (f < 256) && decide (tag < 256)
  | .farLeaseExpiry f => decide (f < 256)
  | .safetyCycle _ _ => true
  | .telegramReceive port _ => decide (port < 101)
  | .compareWindowExpiry _ c => decide (c < 64)
  | .stalenessDeadline _ c => decide (c < 64)
  | .driveCommandSend _ c => decide (c < 64)
  | .darkPulseStart _ n => decide (n < 8)
  | .darkPulseEnd _ n _ => decide (n < 8)
  | .feedbackDisagreeTimeout _ n => decide (n < 8)
  | .inputDiscrepancyTimeout _ i => decide (i < 16)
  | .handoverTimeout n => decide (n < 8)
  | .guardTestTimeout _ c => decide (c < 64)
  | .autoRecover _ c => decide (c < 64)
  | .islandStartupTimeout => true
  | .sfpFirstVector _ => true
  | .safetyParamBegin h _ _ => decide (h.tenant < 256)
  | .safetyParamBlock h _ _ => decide (h.tenant < 256)
  | .safetyParamEnd h => decide (h.tenant < 256)
  | .safetyResume h => decide (h.tenant < 256)
  | .safetyChannelReset h _ => decide (h.tenant < 256)
  | .safetyGuardTest h _ => decide (h.tenant < 256)
  | .axisCounterSet h c _ _ => decide (h.tenant < 256) && decide (c < 64)
  | .axisStatus h c => decide (h.tenant < 256) && decide (c < 64)
  | .counterWindrowWrite => true
  | .imageBegin h _ _ => decide (h.tenant < 256)
  | .imageBlock h _ _ _ => decide (h.tenant < 256)
  | .imageVerify h => decide (h.tenant < 256)
  | .imageActivate h _ _ => decide (h.tenant < 256)
  | .activationDrainEnd => true
  | .activationFallback => true
  | .imageCommit h => decide (h.tenant < 256)
  | .imageStatus h => decide (h.tenant < 256)
  | .rootRevoke h i => decide (h.tenant < 256) && decide (i < 4)
  | .keyWipe h => decide (h.tenant < 256)
  | .bootDecision _ _ => true
  | .componentLoad _ _ _ => true
  | .fwReady => true
  | .bootTimeout => true
  | .uartFrameReceive _ => true
  | .powerConfig h _ => decide (h.tenant < 256)
  | .powerKeep h _ => decide (h.tenant < 256)
  | .powerLatency h _ => decide (h.tenant < 256)
  | .powerStandby h _ => decide (h.tenant < 256)
  | .powerStatus h => decide (h.tenant < 256)
  | .powerStateEval => true
  | .dozeHoldExpiry => true
  | .napHoldExpiry => true
  | .keepaliveSend => true
  | .keepaliveReceive port _ => decide (port < 101)
  | .sleepNoticeReceive port _ => decide (port < 101)
  | .quietExpiry => true
  | .sleepNoticeRepeat => true
  | .wakeSwDebounce => true
  | .externalInhWake => true
  | .wakeTimerExpiry => true
  | .heldWakeStart => true
  | .pgRise n => decide (n < 3)
  | .pgTimeout n => decide (n < 3)
  | .xinValid => true
  | .xinTimeout => true
  | .pllLock => true
  | .pllLockTimeout => true
  | .wakeRetry => true
  | .wakeOutSignal => true
  | .pgFall n => decide (n < 3)
  | .pgLowTimeout n => decide (n < 3)
  | .vaonPowerOn => true
  | .vaonLoss => true
  | .porstAssert => true
  | .porstRelease => true
  | .pfailFall => true
  | .pfailRise => true
  | .evrReport code _ => decide (code < 65536)
  | .evrSecondSummary => true
  | .evrWriteBurst _ => true
  | .evrCheckpoint => true
  | .evrStagingFinal => true
  | .evrConfig h _ => decide (h.tenant < 256)
  | .evrRead h _ _ => decide (h.tenant < 256)
  | .evrMark h _ => decide (h.tenant < 256)
  | .evrFormat h _ _ _ => decide (h.tenant < 256)
  | .evrStatus h => decide (h.tenant < 256)
  | .agmMeasurement _ => true
  | .avsStepSettle _ _ => true
  | .agmDaily => true
  | .agmConfig h _ => decide (h.tenant < 256)
  | .agmStatus h => decide (h.tenant < 256)
  | .agmMeasure h => decide (h.tenant < 256)
  | .queueProducerWrite t _ q _ => decide (t < 256) && decide (q < 8)
  | .dmaCompletionTimeout t _ => decide (t < 256)
  | .pdelayReqSend port => decide (port < 101)
  | .syncTransmission d dom => decide (d.at_ < 101) && decide (dom < 2)
  | .latentErrorDetection fn => decide (fn < 4096)
  | .fullTransferRequest => true
  | .wtbProcessDataPeriod _ => true
  | .wakeGraceExpiry => true
  | .wakeSwRelease => true
  | .segPhyPowerUp sg => decide (sg < 64)
  | .rstoutRelease => true
  | .ppsOutFall => true

end Sys2Proof
end

