-- ==== Sys2Proof/Tests/Slice0.lean ====
section
/-! SUPPORT. Small tests: ill-formed commands, one for each kind of range, and values taken from the worked examples and
tables of the spec. -/

set_option Elab.async false
set_option maxRecDepth 8000

namespace Sys2Proof.Tests

open Sys2Proof Sys2Proof.Machine

/-- Operands outside the ranges: register offsets and memories (R30, R27), tenants and queues (R285), ports (Table 0-4). -/
theorem test_wf_refuses_registers_tenants_ports :
    (Instr.registerWrite .bar0 0x1000000 [⟨0, 0, false⟩]).wf = false ∧ (Instr.registerWrite .bar2 0x10000 [⟨0, 0, false⟩]).wf = false ∧
    (Instr.reservedAccess .read ⟨.bar0, 0x1000000⟩).wf = false ∧ (Instr.shadowRestore 8 0).wf = false ∧
    (Instr.timeSlotLatch 8).wf = false ∧ (Instr.ffCounterLatch 0x100000).wf = false ∧ (Instr.evrWinLatch 4096).wf = false ∧
    (Instr.tenantResetExecute 256).wf = false ∧ (Instr.txDescriptor 0 8 .failed).wf = false ∧
    (Instr.tenantReset hcp0 256).wf = false ∧ (Instr.timeRead ⟨256, true, 7⟩).wf = false ∧
    (Instr.queueSteer hcp0 1024 0 0).wf = false ∧ (Instr.egressSelect ⟨101, []⟩).wf = false ∧ (Instr.ltmSend ⟨4, true⟩).wf = false ∧
    (Instr.cpInbandStatus 16 true 1000 true).wf = false ∧ (Instr.laneSyncLoss 12).wf = false ∧
    (Instr.canBusOff 88).wf = false ∧ (Instr.segActivity 64 pulse1).wf = false := by
  decide

/-- Operands outside the ranges of slots, TAUs, gates, far targets, variables, axes and supplies. -/
theorem test_wf_refuses_entries :
    (Instr.slotFetch 1024).wf = false ∧ (Instr.windowClose 4096).wf = false ∧ (Instr.tauFire 64).wf = false ∧
    (Instr.tauKeySet hcp0 4 0).wf = false ∧ (Instr.pinPulseEnd 8).wf = false ∧ (Instr.syncReceiptTimeout 2).wf = false ∧
    (Instr.timeSet hcp0 0 1000000000 0).wf = false ∧ (Instr.sluiceLoad hcp0 0 2 bank1).wf = false ∧
    (Instr.frerResetTimeout 4096).wf = false ∧ (Instr.bitternWatch hcp0 16 ⟨none, none, none⟩).wf = false ∧
    (Instr.harvestFillDone 4).wf = false ∧ (Instr.inaugLead hcp0 3).wf = false ∧ (Instr.variableStale 8192).wf = false ∧
    (Instr.lgbMapClear hcp0 (.mvb 0) 4096).wf = false ∧ (Instr.farRequestSend 256).wf = false ∧
    (Instr.farDiscardEnd 0 256).wf = false ∧ (Instr.stalenessDeadline .sfp 64).wf = false ∧
    (Instr.darkPulseStart .sfp 8).wf = false ∧ (Instr.inputDiscrepancyTimeout .sfp 16).wf = false ∧
    (Instr.rootRevoke hcp0 4).wf = false ∧ (Instr.pgRise 3).wf = false ∧ (Instr.evrReport 65536 []).wf = false := by
  decide

/-- Operands at the last value of a range. -/
theorem test_wf_accepts_the_limits :
    (Instr.registerWrite .bar0 0xFFFFFF [⟨0, 0, false⟩]).wf = true ∧ (Instr.tenantResetExecute 255).wf = true ∧
    (Instr.egressSelect ⟨100, []⟩).wf = true ∧ (Instr.ltmSend ⟨95, true⟩).wf = true ∧ (Instr.tauFire 63).wf = true ∧
    (Instr.timeSet hcp0 0 999999999 0).wf = true ∧ (Instr.farRequestSend 255).wf = true := by
  decide

/-- No row of the table gives bits, so no word spells a command, and no command is placed. -/
theorem test_no_word_spells_a_command : decodeTableWord 32 0 = none ∧ ready.withFetchWord 32 0 = ready := by
  exact ⟨rfl, rfl⟩

/-- The worked example of templates (03, R91): slot 0x0104 at offset 5200 in car 4, and the source in car 5. -/
theorem test_door_template_in_car_4 :
    let t : TxTemplate := ⟨0, 0, 0x100, 1, 2000, 800, 8, 0, 0, 0, 0, false, false⟩
    txApplies t 4 0 = true ∧ txId t 4 = 0x104 ∧ txOffset t 4 = 5200 ∧ srcCar (.relative 1) 4 = 5 := by
  decide

/-- The worked example of staleness (10, R251): P = 2 ms and m = 2 give a deadline 6 ms after the sample. -/
theorem test_staleness_is_6_ms :
    stalenessNs (islWith fun x => { x with par := some { par1 with period := 2, miss := 2, chans := [{ chan1 with period := 0 }] } }) 0
      = 6000000 := by
  decide

/-- The worked example of anti-rollback (13, R328): counter 5, slot A of version 5, slot B of version 7 active on trial. -/
def trialB : State :=
  { fwWith fun x => { x with
      activeB := true, trial := true
      slotA := { slotIn .verified [] with secVersion := 5, info := some ⟨0x1104, 5, 0, [], []⟩ }
      slotB := { slotIn .active [] with secVersion := 7, info := some ⟨0x1107, 7, 0, [], []⟩ }
      running := some ⟨0x1107, 7, 0, [], []⟩ } with
    otp := { ready.otp with rollback := 5 } }

/-- IMAGE_COMMIT burns fuses 6 and 7, and slot A becomes INVALID. -/
theorem test_commit_burns_to_7 :
    (match exec (.imageCommit hcp0) trialB with
      | .next t => t.otp.rollback == 7 && t.fw.slotA.state == .invalid && t.fw.slotB.state == .active && !t.fw.trial
      | _ => false) = true := by
  decide +kernel

/-- The recovery of a full time from 32 bits of ns (02, worked example) is the host's; the linear value it starts from. -/
theorem test_linear_time : linNs 1000 400000000 = 1000400000000 ∧ (word (linNs 1000 400000000)).toNat = 3967587328 := by
  decide

/-- On an empty queue one tick passes, and the queue is taken first in, first out. -/
theorem test_step_takes_the_front :
    step { ready with pending := [.leaderIdLatch, .eomSecLatch] } = exec .leaderIdLatch { ready with pending := [.eomSecLatch] } := by
  rfl

end Sys2Proof.Tests
end

