-- ==== Sys2Proof/Tests/Witness.lean ====
section
/-! SUPPORT. One theorem per obligation with hypotheses: states and operands that meet the hypotheses of each of its
clauses together. -/

set_option Elab.async false
set_option maxRecDepth 8000
set_option linter.all false

namespace Sys2Proof.Tests

open Sys2Proof Sys2Proof.Machine

/-- The hypotheses of `RegisterWriteActsByAccessCode`, clause by clause. -/
theorem wit_register_write_acts_by_access_code :
    (∃ (s : State) (off : Nat) (r : AlarmReg) (m : Word), (off, r, m) ∈ alarmRegs ∧ poisonedBacking s off = none) ∧
    (∃ (s : State) (off : Nat) (r : AlarmReg) (m : Word), (off, r, m) ∈ alarmRegs ∧
      poisonedBacking s (off + 4) = none) ∧
    (∃ (s : State), poisonedBacking s 0x440030 = none) ∧
    (∃ (s : State) (off : Nat), off < 0x800000 ∧ (readReg s off).isSome = true ∧ poisonedBacking s off = none ∧
      ((off < 0x100000 ∨ 0x200000 ≤ off)) ∧ off ∉ [0x48, 0x4C, 0x20001C, 0x440030, 0x480100] ∧ (∀ e ∈ alarmRegs,
      off ≠ e.1 ∧ off ≠ e.1 + 4)) ∧
    (∃ (s : State) (off : Nat), off < 0x800000 ∧ readReg s off = none) ∧
    (∃ (s : State) (off : Nat) (m : Nat) (w : Nat), off < 0x800000 ∧ (readReg s off).isSome = true ∧
      poisonedBacking s off = some (m, w)) ∧
    (∃ (s : State) (n : Nat) (x : HostWrite), n < 257 ∧ bitAt x.v 0 = false ∧ s.host.pba.contains n = true) ∧
    (∃ (s : State) (n : Nat) (x : HostWrite), n < 257 ∧ (bitAt x.v 0 = true ∨ s.host.pba.contains n = false)) ∧
    (∃ (n : Nat) (k : Nat), n < 257 ∧ k < 3) ∧
    (∃ (off : Nat), 0x1010 ≤ off) ∧
    (∃ (s : State), poisonedBacking s 0x48 = none) ∧
    (∃ (s : State), poisonedBacking s 0x4C = none) ∧
    (∃ (s : State), poisonedBacking s 0x20001C = none) ∧
    (∃ (s : State) (v : BitVec 32) (n : BitVec 32), poisonedBacking s 0x480100 = none ∧ bitAt v 31 = true ∧
      bitAt n 31 = false) ∧
    (∃ (s : State) (t : Nat) (o : Nat), t < 256 ∧ o < 0x1000 ∧ (pageReg s t o).isSome = true ∧
      poisonedBacking s (0x100000 + t * 0x1000 + o) = none) ∧
    (∃ (s : State) (off : Nat) (m : Nat) (w : Nat), off < 0x800000 ∧ (readReg s off).isSome = true ∧
      poisonedBacking s off = none ∧ Config.backing off = (m, w) ∧ (readReg (correctable s m w) off).isSome = true) ∧
    (∃ (f : Nat) (o : Nat), f < 256 ∧ o < 0x7FC0) ∧
    (∃ (f : Nat), f < 256) ∧
    (∃ (f : Nat) (o : Nat), f < 256 ∧ 0x7FC0 ≤ o ∧ o < 0x8000 ∧ o ≠ 0x7FC4 ∧ o ≠ 0x7FCC) ∧
    (∃ (off : Nat), off ∉ [0x10, 0x14, 0x18, 0x1C]) ∧
    (∃ (bar : Bar) (off : Nat), ((bar = .bar0 → off < 0x800000 ∨ 0x1000000 ≤ off ∨ 0x7FC0 ≤ off % 0x8000))) := by
  refine ⟨?_, ?_, ?_, ?_, ?_, ?_, ?_, ?_, ?_, ?_, ?_, ?_, ?_, ?_, ?_, ?_, ?_, ?_, ?_, ?_, ?_⟩
  · refine ⟨ready, 0x300004, .tms, 0x7FF, ?_⟩ <;> and_intros <;> first | decide +kernel | rfl
  · refine ⟨ready, 0x300004, .tms, 0x7FF, ?_⟩ <;> and_intros <;> first | decide +kernel | rfl
  · refine ⟨ready, ?_⟩ <;> and_intros <;> first | decide +kernel | rfl
  · refine ⟨ready, 0, ?_⟩ <;> and_intros <;> first | decide +kernel | rfl
  · refine ⟨ready, 0x7FFFFC, ?_⟩ <;> and_intros <;> first | decide +kernel | rfl
  · refine ⟨(poisonedAt 0xC), 0xC, (Config.backing 0xC).1, (Config.backing 0xC).2, ?_⟩ <;> and_intros <;>
        first | decide +kernel | exact poisoned_at _
  · refine ⟨{ ready with host := { ready.host with pba := [256] } }, 256, (⟨0, 0, false⟩), ?_⟩ <;> and_intros <;>
        first | decide +kernel | rfl
  · refine ⟨ready, 0, (⟨1, 0, false⟩), ?_⟩ <;> and_intros <;> first | decide +kernel | rfl
  · refine ⟨0, 0, ?_⟩ <;> and_intros <;> first | decide +kernel | rfl
  · refine ⟨0x1010, ?_⟩ <;> and_intros <;> first | decide +kernel | rfl
  · refine ⟨ready, ?_⟩ <;> and_intros <;> first | decide +kernel | rfl
  · refine ⟨ready, ?_⟩ <;> and_intros <;> first | decide +kernel | rfl
  · refine ⟨ready, ?_⟩ <;> and_intros <;> first | decide +kernel | rfl
  · refine ⟨ready, 0x80000000, 0, ?_⟩ <;> and_intros <;> first | decide +kernel | rfl
  · refine ⟨ready, 0, 0, ?_⟩ <;> and_intros <;> first | decide +kernel | rfl
  · refine ⟨ready, 0xC, (Config.backing 0xC).1, (Config.backing 0xC).2, ?_⟩ <;> and_intros <;>
        first | decide +kernel | rfl
  · refine ⟨0, 0, ?_⟩ <;> and_intros <;> first | decide +kernel | rfl
  · refine ⟨0, ?_⟩ <;> and_intros <;> first | decide +kernel | rfl
  · refine ⟨0, 0x7FC0, ?_⟩ <;> and_intros <;> first | decide +kernel | rfl
  · refine ⟨0, ?_⟩ <;> and_intros <;> first | decide +kernel | rfl
  · refine ⟨.bar0, 0xFFFFC0, ?_⟩ <;> and_intros <;> first | decide +kernel | rfl

/-- The hypotheses of `ReservedAndNarrowAccessesCapture`, clause by clause. -/
theorem wit_reserved_and_narrow_accesses_capture :
    (∃ (s : State) (off : Nat), off < 0x800000 ∧ readReg s off = none) ∧
    (∃ (off : Nat) (be : BitVec 4), off < 0x800000 ∧ be ≠ 15) ∧
    (∃ (s : State) (off : Nat), off < 0x800000 ∧ (readReg s off).isSome = true) ∧
    (∃ (s : State) (off : Nat) (v : Word), off < 0x800000 ∧ readReg s off = some v ∧ poisonedBacking s off = none) ∧
    (∃ (s : State) (off : Nat) (v : Word) (m : Nat) (w : Nat), off < 0x800000 ∧ readReg s off = some v ∧
      poisonedBacking s off = some (m, w)) ∧
    (∃ (f : Nat) (o : Nat), f < 256 ∧ 0x7FC0 ≤ o ∧ o < 0x8000) ∧
    (∃ (f : Nat) (o : Nat), f < 256 ∧ o < 0x7FC0) ∧
    (∃ (off : Nat), off ∈ [0, 8, 0x2C, 0x10, 0x18]) ∧
    (∃ (bar : Bar) (off : Nat), ((bar = .bar0 → off < 0x800000 ∨ 0x1000000 ≤ off ∨ 0x7FC0 ≤ off % 0x8000))) ∧
    (∃ (f : Nat) (o : Nat) (be : BitVec 4), f < 256 ∧ 0x7FC0 ≤ o ∧ o < 0x8000 ∧ be ≠ 15) := by
  refine ⟨?_, ?_, ?_, ?_, ?_, ?_, ?_, ?_, ?_, ?_⟩
  · refine ⟨ready, 0x7FFFFC, ?_⟩ <;> and_intros <;> first | decide +kernel | rfl
  · refine ⟨0, 0, ?_⟩ <;> and_intros <;> first | decide +kernel | rfl
  · refine ⟨ready, 0, ?_⟩ <;> and_intros <;> first | decide +kernel | rfl
  · refine ⟨ready, 0xC, (readReg ready 0xC).getD 0, ?_⟩ <;> and_intros <;> first | decide +kernel | rfl
  · refine ⟨(poisonedAt 0xC), 0xC, (readReg (poisonedAt 0xC) 0xC).getD 0, (Config.backing 0xC).1,
        (Config.backing 0xC).2, ?_⟩ <;> and_intros <;>
        first | decide +kernel | rfl | exact poisoned_at _
  · refine ⟨0, 0x7FC0, ?_⟩ <;> and_intros <;> first | decide +kernel | rfl
  · refine ⟨0, 0, ?_⟩ <;> and_intros <;> first | decide +kernel | rfl
  · refine ⟨0, ?_⟩ <;> and_intros <;> first | decide +kernel | rfl
  · refine ⟨.bar0, 0xFFFFC0, ?_⟩ <;> and_intros <;> first | decide +kernel | rfl
  · refine ⟨0, 0x7FC0, 0, ?_⟩ <;> and_intros <;> first | decide +kernel | rfl

/-- The hypotheses of `EccLastCapturesFirstError`, clause by clause. -/
theorem wit_ecc_last_captures_first_error :
    (∃ (m : Nat), 1 ≤ m ∧ m ≤ 16) ∧
    (∃ (m : Nat) (f : Bool), 1 ≤ m ∧ m ≤ 16 ∧ (m ≠ 8 ∨ f = false)) ∧
    (∃ (s : State) (v : BitVec 32), poisonedBacking s 0x4C = none ∧ bitAt v 31 = true) ∧
    (∃ (s : State) (v : BitVec 32), poisonedBacking s 0x48 = none ∧ bitAt v 0 = true) ∧
    (∃ (s : State), poisonedBacking s 0x4C = none) ∧
    (∃ (s : State) (m : Nat) (w : Nat), poisonedBacking s 0x4C = some (m, w)) ∧
    (∃ (s : State) (m : Nat) (w : Nat), poisonedBacking s 0x48 = some (m, w)) ∧
    (∃ (s : State) (m : Nat) (w : Nat) (f : Bool) (u : State), 1 ≤ m ∧ m ≤ 16 ∧ exec (.patrolScrub [⟨m, w, .double,
      false, f⟩]) s = .next u) ∧
    (∃ (s : State) (w : Nat) (u : State), exec (.patrolScrub [⟨8, w, .double, false, false⟩]) s = .next u) ∧
    (∃ (s : State) (v : BitVec 32), poisonedBacking s 0x48 = none ∧ bitAt v 0 = false) := by
  refine ⟨?_, ?_, ?_, ?_, ?_, ?_, ?_, ?_, ?_, ?_⟩
  · refine ⟨16, ?_⟩ <;> and_intros <;> first | decide +kernel | rfl
  · refine ⟨16, false, ?_⟩ <;> and_intros <;> first | decide +kernel | rfl
  · refine ⟨ready, 0x80000000, ?_⟩ <;> and_intros <;> first | decide +kernel | rfl
  · refine ⟨ready, 1, ?_⟩ <;> and_intros <;> first | decide +kernel | rfl
  · refine ⟨ready, ?_⟩ <;> and_intros <;> first | decide +kernel | rfl
  · refine ⟨(poisonedAt 0x4C), (Config.backing 0x4C).1, (Config.backing 0x4C).2, ?_⟩ <;> and_intros <;>
        exact poisoned_at _
  · refine ⟨(poisonedAt 0x48), (Config.backing 0x48).1, (Config.backing 0x48).2, ?_⟩ <;> and_intros <;>
        exact poisoned_at _
  · refine ⟨ready, 16, 0, false, (stepped (exec (.patrolScrub [⟨16, 0, .double, false, false⟩]) ready)),
        ?_⟩ <;> and_intros <;> first | decide +kernel | rfl
  · refine ⟨ready, 0, (stepped (exec (.patrolScrub [⟨8, 0, .double, false, false⟩]) ready)), ?_⟩ <;> and_intros <;>
        first | decide +kernel | rfl
  · refine ⟨ready, 0, ?_⟩ <;> and_intros <;> first | decide +kernel | rfl

/-- The hypotheses of `ShadowCopyRestoresPoisonedEntry`, clause by clause. -/
theorem wit_shadow_copy_restores_poisoned_entry :
    (∃ (s : State) (m : Nat) (w : Nat), 3 ≤ m ∧ m ≤ 7 ∧ poisoned s m w = true ∧ mgpRuns s = true) ∧
    (∃ (s : State) (w : Nat), poisoned s 2 w = true ∧ mgpRuns s = true) ∧
    (∃ (s : State) (m : Nat) (w : Nat), (poisoned s m w = false ∨ mgpRuns s = false)) := by
  refine ⟨?_, ?_, ?_⟩
  · refine ⟨{ ready with glob := { ready.glob with poison := [(7, [4])] } }, 7, 4, ?_⟩ <;> and_intros <;>
        first | decide +kernel | rfl
  · refine ⟨{ ready with glob := { ready.glob with poison := [(2, [4])] } }, 4, ?_⟩ <;> and_intros <;>
        first | decide +kernel | rfl
  · refine ⟨ready, 0, 0, ?_⟩ <;> and_intros <;> first | decide +kernel | rfl

/-- The hypotheses of `ReadsLatchTheirShadows`, clause by clause. -/
theorem wit_reads_latch_their_shadows :
    (∃ (s : State) (k : Nat), k < 8 ∧ poisonedBacking s (0x300100 + k * 0x40) = none) ∧
    (∃ (s : State), poisonedBacking s 0x300010 = none) ∧
    (∃ (s : State), poisonedBacking s 0x300018 = none) ∧
    (∃ (s : State), poisonedBacking s 0x300020 = none) ∧
    (∃ (s : State), poisonedBacking s 0x300080 = none) ∧
    (∃ (s : State), poisonedBacking s 0x340018 = none) ∧
    (∃ (s : State), poisonedBacking s 0x340020 = none) ∧
    (∃ (s : State), poisonedBacking s 0x380028 = none) ∧
    (∃ (s : State), poisonedBacking s 0x480018 = none) ∧
    (∃ (s : State), poisonedBacking s 0x480028 = none) ∧
    (∃ (s : State), poisonedBacking s 0x441018 = none) ∧
    (∃ (s : State) (i : Nat), i < 4096 ∧ poisonedBacking s (0x450000 + i * 0x20) = none) := by
  refine ⟨?_, ?_, ?_, ?_, ?_, ?_, ?_, ?_, ?_, ?_, ?_, ?_⟩
  · refine ⟨ready, 7, ?_⟩ <;> and_intros <;> first | decide +kernel | rfl
  · refine ⟨ready, ?_⟩ <;> and_intros <;> first | decide +kernel | rfl
  · refine ⟨ready, ?_⟩ <;> and_intros <;> first | decide +kernel | rfl
  · refine ⟨ready, ?_⟩ <;> and_intros <;> first | decide +kernel | rfl
  · refine ⟨ready, ?_⟩ <;> and_intros <;> first | decide +kernel | rfl
  · refine ⟨ready, ?_⟩ <;> and_intros <;> first | decide +kernel | rfl
  · refine ⟨ready, ?_⟩ <;> and_intros <;> first | decide +kernel | rfl
  · refine ⟨ready, ?_⟩ <;> and_intros <;> first | decide +kernel | rfl
  · refine ⟨ready, ?_⟩ <;> and_intros <;> first | decide +kernel | rfl
  · refine ⟨ready, ?_⟩ <;> and_intros <;> first | decide +kernel | rfl
  · refine ⟨ready, ?_⟩ <;> and_intros <;> first | decide +kernel | rfl
  · refine ⟨ready, 4095, ?_⟩ <;> and_intros <;> first | decide +kernel | rfl

/-- The hypotheses of `FabricReadsLatchTheirShadows`, clause by clause. -/
theorem wit_fabric_reads_latch_their_shadows :
    (∃ (s : State) (off : Nat) (c : BitVec 64), off < 0x100000 ∧ ffCounter s off = some c ∧
      poisonedBacking s (0x200000 + off) = none) ∧
    (∃ (s : State) (t : Nat), t < 256 ∧ poisonedBacking s (0x240000 + t * 0x10) = none) ∧
    (∃ (s : State) (v : BitVec 32), poisonedBacking s 0x20001C = none ∧ bitAt v 0 = true) := by
  refine ⟨?_, ?_, ?_⟩
  · refine ⟨ready, 0x10000, 0, ?_⟩ <;> and_intros <;> first | decide +kernel | rfl
  · refine ⟨ready, 255, ?_⟩ <;> and_intros <;> first | decide +kernel | rfl
  · refine ⟨ready, 1, ?_⟩ <;> and_intros <;> first | decide +kernel | rfl

/-- The hypotheses of `DoorbellPageWritesTakeEffect`, clause by clause. -/
theorem wit_doorbell_page_writes_take_effect :
    (∃ (s : State) (t : Nat) (p : Word), t < 256 ∧ (((tenant s t).attach = .spi ∨
      poisonedBacking s (0x100000 + t * 0x1000 + 0x040) = none)) ∧ (p - (tenant s t).cmdCons).toNat ≤ 64) ∧
    (∃ (s : State) (t : Nat) (p : Word), t < 256 ∧ (((tenant s t).attach = .spi ∨
      poisonedBacking s (0x100000 + t * 0x1000 + 0x040) = none)) ∧ 64 < (p - (tenant s t).cmdCons).toNat ∧
      (((tenant s t).state = .opened ∨ (tenant s t).state = .configured))) ∧
    (∃ (s : State) (t : Nat), t < 256 ∧ (((tenant s t).attach = .spi ∨
      poisonedBacking s (0x100000 + t * 0x1000 + 0x040) = none)) ∧ (tenant s t).state ≠ .opened ∧
      (tenant s t).state ≠ .configured) ∧
    (∃ (t : Nat), 256 ≤ t) ∧
    (∃ (s : State) (t : Nat) (m : Nat) (k : Nat), t < 256 ∧ (tenant s t).attach ≠ .spi ∧
      poisonedBacking s (0x100000 + t * 0x1000 + 0x040) = some (m, k)) ∧
    (∃ (s : State) (t : Nat) (m : Nat) (k : Nat), t < 256 ∧ (tenant s t).attach ≠ .spi ∧
      poisonedBacking s (0x100000 + t * 0x1000 + 0x00C) = some (m, k)) ∧
    (∃ (s : State) (t : Nat) (m : Nat) (k : Nat), t < 256 ∧ (tenant s t).attach ≠ .spi ∧
      poisonedBacking s (0x100000 + t * 0x1000 + 0x054) = some (m, k)) ∧
    (∃ (s : State) (t : Nat) (m : Nat) (k : Nat) (r : Bool) (q : Nat), t < 256 ∧ (tenant s t).attach ≠ .spi ∧ q < 8 ∧
      poisonedBacking s (0x100000 + t * 0x1000 + (0x10C + 0x100 * b2n r + 0x20 * q)) = some (m, k)) ∧
    (∃ (s : State) (t : Nat) (v : BitVec 32), t < 256 ∧ (((tenant s t).attach = .spi ∨
      poisonedBacking s (0x100000 + t * 0x1000 + 0x00C) = none)) ∧ ((bitAt v 0 = false ∨
      (tenant s t).state = .free))) ∧
    (∃ (s : State) (t : Nat) (v : BitVec 32), t < 256 ∧ (((tenant s t).attach = .spi ∨
      poisonedBacking s (0x100000 + t * 0x1000 + 0x00C) = none)) ∧ bitAt v 0 = true ∧ (tenant s t).state ≠ .free) ∧
    (∃ (s : State) (t : Nat) (c : Word), t < 256 ∧ (((tenant s t).attach = .spi ∨
      poisonedBacking s (0x100000 + t * 0x1000 + 0x054) = none)) ∧ (((tenant s t).lostNow = 0 ∨
      bitAt (tenant s t).ctrl 1 = false ∨ eventRing (tenant s t) ≤ ((tenant s t).evtProd - c).toNat))) ∧
    (∃ (s : State) (t : Nat) (c : Word), t < 256 ∧ (((tenant s t).attach = .spi ∨
      poisonedBacking s (0x100000 + t * 0x1000 + 0x054) = none)) ∧ (tenant s t).lostNow ≠ 0 ∧
      bitAt (tenant s t).ctrl 1 = true ∧ ((tenant s t).evtProd - c).toNat < eventRing (tenant s t)) ∧
    (∃ (s : State) (t : Nat) (r : Bool) (q : Nat) (p : Word), q < 8 ∧ t < 256 ∧ (tenant s t).attach ≠ .spi ∧
      poisonedBacking s (0x100000 + t * 0x1000 + (0x10C + 0x100 * b2n r + 0x20 * q)) = none ∧
      (((queueRead (tenant s t) r q).enabled = true →
      (p - (queueRead (tenant s t) r q).cons).toNat ≤ 2 ^ (queueRead (tenant s t) r q).log2))) ∧
    (∃ (s : State) (t : Nat) (r : Bool) (q : Nat) (p : Word), q < 8 ∧ t < 256 ∧ (tenant s t).attach ≠ .spi ∧
      poisonedBacking s (0x100000 + t * 0x1000 + (0x10C + 0x100 * b2n r + 0x20 * q)) = none ∧
      (((tenant s t).state = .opened ∨ (tenant s t).state = .configured)) ∧
      (queueRead (tenant s t) r q).enabled = true ∧
      2 ^ (queueRead (tenant s t) r q).log2 < (p - (queueRead (tenant s t) r q).cons).toNat) ∧
    (∃ (s : State) (t : Nat) (q : Nat), ((8 ≤ q ∨ (tenant s t).attach = .spi))) ∧
    (∃ (s : State) (t : Nat), (tenant s t).state ≠ .opened ∧ (tenant s t).state ≠ .configured) ∧
    (∃ (s : State) (t : Nat), (((tenant s t).raisedAt = none ∨ (tenant s t).irqWait = false))) ∧
    (∃ (s : State) (t : Nat), (((tenant s t).state = .opened ∨ (tenant s t).state = .configured))) ∧
    (∃ (s : State) (t : Nat) (r : Nat), (tenant s t).raisedAt = some r ∧ (tenant s t).irqWait = true) := by
  refine ⟨?_, ?_, ?_, ?_, ?_, ?_, ?_, ?_, ?_, ?_, ?_, ?_, ?_, ?_, ?_, ?_, ?_, ?_, ?_⟩
  · refine ⟨ready, 0, 64, ?_⟩ <;> and_intros <;> first | decide +kernel | rfl
  · refine ⟨ready, 0, 65, ?_⟩ <;> and_intros <;> first | decide +kernel | rfl
  · refine ⟨(hostWith fun x => { x with tenants := [(0, { owner with state := .faulted })] }), 0,
        ?_⟩ <;> and_intros <;> first | decide +kernel | rfl
  · refine ⟨256, ?_⟩ <;> and_intros <;> first | decide +kernel | rfl
  · refine ⟨(poisonedAt (0x100000 + 0 * 0x1000 + 0x040)), 0, (Config.backing (0x100000 + 0 * 0x1000 + 0x040)).1,
        (Config.backing (0x100000 + 0 * 0x1000 + 0x040)).2, ?_⟩ <;> and_intros <;>
        first | decide +kernel | exact poisoned_at _
  · refine ⟨(poisonedAt (0x100000 + 0 * 0x1000 + 0x00C)), 0, (Config.backing (0x100000 + 0 * 0x1000 + 0x00C)).1,
        (Config.backing (0x100000 + 0 * 0x1000 + 0x00C)).2, ?_⟩ <;> and_intros <;>
        first | decide +kernel | exact poisoned_at _
  · refine ⟨(poisonedAt (0x100000 + 0 * 0x1000 + 0x054)), 0, (Config.backing (0x100000 + 0 * 0x1000 + 0x054)).1,
        (Config.backing (0x100000 + 0 * 0x1000 + 0x054)).2, ?_⟩ <;> and_intros <;>
        first | decide +kernel | exact poisoned_at _
  · refine ⟨(poisonedAt (0x100000 + 0 * 0x1000 + (0x10C + 0x100 * b2n false + 0x20 * 0))), 0,
        (Config.backing (0x100000 + 0 * 0x1000 + (0x10C + 0x100 * b2n false + 0x20 * 0))).1,
        (Config.backing (0x100000 + 0 * 0x1000 + (0x10C + 0x100 * b2n false + 0x20 * 0))).2, false, 0,
        ?_⟩ <;> and_intros <;>
        first | decide +kernel | exact poisoned_at _
  · refine ⟨ready, 0, 0, ?_⟩ <;> and_intros <;> first | decide +kernel | rfl
  · refine ⟨ready, 0, 1, ?_⟩ <;> and_intros <;> first | decide +kernel | rfl
  · refine ⟨ready, 0, 0, ?_⟩ <;> and_intros <;> first | decide +kernel | rfl
  · refine ⟨(hostWith fun x => { x with tenants := [(0, { owner with lostNow := 3 })] }), 0, 0, ?_⟩ <;> and_intros <;>
        first | decide +kernel | rfl
  · refine ⟨ready, 0, false, 0, 0, ?_⟩ <;> and_intros <;> first | decide +kernel | rfl
  · refine ⟨ready, 0, false, 0, 9, ?_⟩ <;> and_intros <;> first | decide +kernel | rfl
  · refine ⟨ready, 0, 8, ?_⟩ <;> and_intros <;> first | decide +kernel | rfl
  · refine ⟨ready, 5, ?_⟩ <;> and_intros <;> first | decide +kernel | rfl
  · refine ⟨ready, 5, ?_⟩ <;> and_intros <;> first | decide +kernel | rfl
  · refine ⟨ready, 0, ?_⟩ <;> and_intros <;> first | decide +kernel | rfl
  · refine ⟨ready, 0, 0, ?_⟩ <;> and_intros <;> first | decide +kernel | rfl

/-- The hypotheses of `CounterRuleOfAuthenticatedCommands`, clause by clause. -/
theorem wit_counter_rule_of_authenticated_commands :
    (∃ (s : State) (t : Nat) (e : CmdEntry), (nextTurn s = some t ∨ (fetchable s t = true ∧
      repeats (tenant s t) e = true)) ∧ (tenant s t).attach = .pcie ∧ (tenant s t).abortLeft = 0 ∧
      inRecovery s = false ∧ s.host.counterOk = true ∧ opcodeKnown e.opcode = true ∧ e.opcode ≠ 0x0C04 ∧
      e.version = 1 ∧ e.payloadLen ≤ 8192 ∧ e.payload.length = e.payloadLen ∧ ((e.indirect = true ∨
      e.payloadLen ≤ 24)) ∧ e.classC = true ∧ firstKey s t e.opcode = false) ∧
    (∃ (s : State) (t : Nat) (e : CmdEntry), (nextTurn s = some t ∨ (fetchable s t = true ∧
      repeats (tenant s t) e = true)) ∧ (tenant s t).attach = .pcie ∧ (tenant s t).abortLeft = 0 ∧
      inRecovery s = false ∧ s.host.counterOk = true ∧ opcodeKnown e.opcode = true ∧ e.opcode ≠ 0x0C04 ∧
      e.version = 1 ∧ e.payloadLen ≤ 8192 ∧ e.payload.length = e.payloadLen ∧ ((e.indirect = true ∨
      e.payloadLen ≤ 24)) ∧ e.classC = true ∧ firstKey s t e.opcode = false ∧ cmacGood s t e s.otp.unitId = true ∧
      (tenant s t).counter.toNat < e.counter.toNat) ∧
    (∃ (s : State) (t : Nat) (e : CmdEntry), (nextTurn s = some t ∨ (fetchable s t = true ∧
      repeats (tenant s t) e = true)) ∧ (tenant s t).attach = .pcie ∧ (tenant s t).abortLeft = 0 ∧
      inRecovery s = false ∧ s.host.counterOk = true ∧ opcodeKnown e.opcode = true ∧ e.opcode ≠ 0x0C04 ∧
      e.version = 1 ∧ e.payloadLen ≤ 8192 ∧ e.payload.length = e.payloadLen ∧ ((e.indirect = true ∨
      e.payloadLen ≤ 24)) ∧ e.classC = true ∧ firstKey s t e.opcode = false ∧ cmacGood s t e s.otp.unitId = true ∧
      e.counter.toNat < (tenant s t).counter.toNat) ∧
    (∃ (s : State) (t : Nat) (e : CmdEntry), (nextTurn s = some t ∨ (fetchable s t = true ∧
      repeats (tenant s t) e = true)) ∧ (tenant s t).attach = .pcie ∧ (tenant s t).abortLeft = 0 ∧
      inRecovery s = false ∧ s.host.counterOk = true ∧ opcodeKnown e.opcode = true ∧ e.opcode ≠ 0x0C04 ∧
      e.version = 1 ∧ e.payloadLen ≤ 8192 ∧ e.payload.length = e.payloadLen ∧ ((e.indirect = true ∨
      e.payloadLen ≤ 24)) ∧ e.classC = true ∧ firstKey s t e.opcode = false ∧ cmacGood s t e s.otp.unitId = true ∧
      e.counter = (tenant s t).counter ∧ (tenant s t).cache = none) := by
  refine ⟨?_, ?_, ?_, ?_⟩
  · refine ⟨ready, 1, (entry 0x0401 0 true), ?_⟩ <;> and_intros <;> first | decide +kernel | rfl
  · refine ⟨(keyed 4), 1, (signed 5), ?_⟩ <;> and_intros <;> first | decide +kernel | rfl
  · refine ⟨(keyed 6), 1, (signed 5), ?_⟩ <;> and_intros <;> first | decide +kernel | rfl
  · refine ⟨(keyed 5), 1, (signed 5), ?_⟩ <;> and_intros <;> first | decide +kernel | rfl

/-- The hypotheses of `FetchedCommandsEnterExecution`, clause by clause. -/
theorem wit_fetched_commands_enter_execution :
    (∃ (s : State) (t : Nat) (e : CmdEntry), nextTurn s = some t ∧ (tenant s t).attach = .pcie ∧
      (tenant s t).abortLeft = 0 ∧ inRecovery s = false ∧ opcodeKnown e.opcode = true ∧ e.version = 1 ∧
      e.payloadLen ≤ 8192 ∧ e.payload.length = e.payloadLen ∧ ((e.indirect = true ∨ e.payloadLen ≤ 24)) ∧
      e.classC = false) ∧
    (∃ (s : State) (t : Nat) (e : CmdEntry), nextTurn s = some t ∧ (tenant s t).attach = .pcie ∧
      (tenant s t).abortLeft = 0 ∧ opcodeKnown e.opcode = false) ∧
    (∃ (s : State) (t : Nat) (e : CmdEntry), nextTurn s = some t ∧ (tenant s t).attach = .pcie ∧
      (tenant s t).abortLeft = 0 ∧ opcodeKnown e.opcode = true ∧ 8192 < e.payloadLen) ∧
    (∃ (s : State) (t : Nat) (e : CmdEntry), nextTurn s ≠ some t ∧ (tenant s t).attach ≠ .spi ∧
      ((fetchable s t = false ∨ repeats (tenant s t) e = false))) ∧
    (∃ (s : State) (t : Nat), (tenant s t).attach ≠ .spi ∧ (tenant s t).state ≠ .opened ∧
      (tenant s t).state ≠ .configured) ∧
    (∃ (s : State) (t : Nat), (tenant s t).attach = .spi) ∧
    (∃ (s : State) (t : Nat), nextTurn s = some t ∧ (tenant s t).attach = .pcie) := by
  refine ⟨?_, ?_, ?_, ?_, ?_, ?_, ?_⟩
  · refine ⟨ready, 1, (entry 0x0101 0 false), ?_⟩ <;> and_intros <;> first | decide +kernel | rfl
  · refine ⟨ready, 1, (entry 0xFF01 0 false), ?_⟩ <;> and_intros <;> first | decide +kernel | rfl
  · refine ⟨ready, 1, (entry 0x0101 8193 false), ?_⟩ <;> and_intros <;> first | decide +kernel | rfl
  · refine ⟨ready, 5, (entry 0x0101 0 false), ?_⟩ <;> and_intros <;> first | decide +kernel | rfl
  · refine ⟨ready, 5, ?_⟩ <;> and_intros <;> first | decide +kernel | rfl
  · refine ⟨ready, 2, ?_⟩ <;> and_intros <;> first | decide +kernel | rfl
  · refine ⟨ready, 1, ?_⟩ <;> and_intros <;> first | decide +kernel | rfl

/-- The hypotheses of `TenantResetCarriedOut`, clause by clause. -/
theorem wit_tenant_reset_carried_out :
    (∃ (s : State) (t : Nat), (tenant s t).resetDue = false) ∧
    (∃ (s : State) (t : Nat), (tenant s t).resetDue = true) ∧
    (∃ (s : State) (t : Nat), (tenant s t).resetDue = true ∧ (tenant s t).removing = false) ∧
    (∃ (s : State) (t : Nat), (tenant s t).resetDue = true ∧ (tenant s t).removing = true) ∧
    (∃ (s : State) (t : Nat), (((tenant s t).cmdProd - (tenant s t).cmdCons).toNat ≤ 64 ∨ (tenant s t).state = .free ∨
      (tenant s t).state = .faulted ∨ (tenant s t).state = .resetting)) ∧
    (∃ (s : State) (t : Nat), 64 < ((tenant s t).cmdProd - (tenant s t).cmdCons).toNat ∧
      (tenant s t).state = .configured) := by
  refine ⟨?_, ?_, ?_, ?_, ?_, ?_⟩
  · refine ⟨ready, 5, ?_⟩ <;> and_intros <;> first | decide +kernel | rfl
  · refine ⟨ready, 0, ?_⟩ <;> and_intros <;> first | decide +kernel | rfl
  · refine ⟨ready, 0, ?_⟩ <;> and_intros <;> first | decide +kernel | rfl
  · refine ⟨(hostWith fun x => { x with tenants := [(0, { owner with removing := true })] }), 0,
        ?_⟩ <;> and_intros <;> first | decide +kernel | rfl
  · refine ⟨ready, 0, ?_⟩ <;> and_intros <;> first | decide +kernel | rfl
  · refine ⟨(hostWith fun x => { x with tenants := [(0, { owner with state := .configured, cmdProd := 65 })] }), 0,
        ?_⟩ <;> and_intros <;> first | decide +kernel | rfl

/-- The hypotheses of `DescriptorsAreConsumedInOrder`, clause by clause. -/
theorem wit_descriptors_are_consumed_in_order :
    (∃ (s : State) (t : Nat) (q : Nat) (d : TxDesc), q < 8 ∧ txReady s t q = true ∧ d.kind = 0 ∧ 1 ≤ d.length ∧
      d.length ≤ 9216) ∧
    (∃ (s : State) (t : Nat) (q : Nat) (d : TxDesc), q < 8 ∧ txReady s t q = true ∧ d.kind = 1 ∧ 1 ≤ d.length ∧
      d.length ≤ 9216 ∧ d.port < 96 ∧ hasPort s t d.port = true) ∧
    (∃ (s : State) (t : Nat) (q : Nat) (d : TxDesc), q < 8 ∧ txReady s t q = true ∧ d.kind = 1 ∧ 1 ≤ d.length ∧
      d.length ≤ 9216 ∧ d.port < 96 ∧ hasPort s t d.port = false) ∧
    (∃ (s : State) (t : Nat) (q : Nat) (d : TxDesc) (a : AliasEntry), q < 8 ∧ txReady s t q = true ∧ d.kind = 2 ∧
      1 ≤ d.length ∧ d.length ≤ 9216 ∧ aliasLookup s d.dest = some a) ∧
    (∃ (s : State) (t : Nat) (q : Nat) (d : TxDesc) (i : Nat) (u : State), q < 8 ∧ txReady s t q = true ∧ d.kind = 3 ∧
      1 ≤ d.length ∧ d.length ≤ 9216 ∧ commitSlot s d.dest t (d.data.take d.length) = (.ok, u) ∧
      slotIndex u d.dest = some i) ∧
    (∃ (s : State) (t : Nat) (q : Nat) (d : TxDesc), q < 8 ∧ txReady s t q = true ∧ d.kind = 4 ∧ 1 ≤ d.length ∧
      d.length ≤ 9216 ∧ portKind d.port = .can ∧ hasPort s t d.port = true) ∧
    (∃ (s : State) (t : Nat) (q : Nat) (d : TxDesc), q < 8 ∧ txReady s t q = true ∧ ((4 < d.kind ∨ d.length < 1 ∨
      9216 < d.length))) ∧
    (∃ (s : State) (t : Nat) (q : Nat) (d : RxDesc) (i : RxItem), q < 8 ∧ rxReady s t q = true ∧
      nextItem q (tenant s t).waiting = some i ∧ i.len ≤ d.size) ∧
    (∃ (s : State) (t : Nat) (q : Nat) (d : RxDesc) (i : RxItem), q < 8 ∧ rxReady s t q = true ∧
      nextItem q (tenant s t).waiting = some i ∧ d.size < i.len) ∧
    (∃ (s : State) (t : Nat) (q : Nat) (i : RxItem), q < 8 ∧ rxReady s t q = true ∧
      nextItem q (tenant s t).waiting = some i) ∧
    (∃ (s : State) (t : Nat) (q : Nat), ((8 ≤ q ∨ rxReady s t q = false ∨ nextItem q (tenant s t).waiting = none))) ∧
    (∃ (s : State) (t : Nat) (q : Nat), ((8 ≤ q ∨ txReady s t q = false))) ∧
    (∃ (s : State) (t : Nat) (q : Nat), q < 8 ∧ txReady s t q = true) ∧
    (∃ (s : State) (t : Nat) (q : Nat) (d : TxDesc), q < 8 ∧ txReady s t q = true ∧ d.kind = 1 ∧ 1 ≤ d.length ∧
      d.length ≤ 9216 ∧ 96 ≤ d.port) ∧
    (∃ (s : State) (t : Nat) (q : Nat) (d : TxDesc), q < 8 ∧ txReady s t q = true ∧ d.kind = 2 ∧ 1 ≤ d.length ∧
      d.length ≤ 9216 ∧ aliasLookup s d.dest = none) ∧
    (∃ (s : State) (t : Nat) (q : Nat) (d : TxDesc) (st : Status) (u : State), q < 8 ∧ txReady s t q = true ∧
      d.kind = 3 ∧ 1 ≤ d.length ∧ d.length ≤ 9216 ∧ st ≠ .ok ∧ commitSlot s d.dest t (d.data.take d.length) = (st,
      u)) ∧
    (∃ (s : State) (t : Nat) (q : Nat) (d : TxDesc), q < 8 ∧ txReady s t q = true ∧ d.kind = 4 ∧ 1 ≤ d.length ∧
      d.length ≤ 9216 ∧ ((portKind d.port ≠ .can ∨ hasPort s t d.port = false))) := by
  refine ⟨?_, ?_, ?_, ?_, ?_, ?_, ?_, ?_, ?_, ?_, ?_, ?_, ?_, ?_, ?_, ?_, ?_⟩
  · refine ⟨ready, 0, 0, (txd 0 9216 0 0), ?_⟩ <;> and_intros <;> first | decide +kernel | rfl
  · refine ⟨ready, 0, 0, (txd 1 1 95 0), ?_⟩ <;> and_intros <;> first | decide +kernel | rfl
  · refine ⟨(modTenant ready 1 fun x => { x with ports := 0 }), 1, 0, (txd 1 1 95 0), ?_⟩ <;> and_intros <;>
        first | decide +kernel | rfl
  · refine ⟨{ ready with ine := { ready.ine with bank0 := [(0, some alias1)] } }, 0, 0, (txd 2 1 0 1025), alias1,
        ?_⟩ <;> and_intros <;> first | decide +kernel | rfl
  · refine ⟨{ ready with css := { slots := [slot5] } }, 0, 0, (txd 3 1 0 5), 0,
        (commitSlot { ready with css := { slots := [slot5] } } 5 0 [1]).2, ?_⟩ <;> and_intros <;>
        first | decide +kernel | rfl
  · refine ⟨ready, 0, 0, (txd 4 1 80 0), ?_⟩ <;> and_intros <;> first | decide +kernel | rfl
  · refine ⟨ready, 0, 0, (txd 5 1 80 0), ?_⟩ <;> and_intros <;> first | decide +kernel | rfl
  · refine ⟨ready, 0, 0, (⟨0, 64⟩), (⟨0, none, 1, 0, false, 0, 0, 0, 0, 0, [], 64⟩), ?_⟩ <;> and_intros <;>
        first | decide +kernel | rfl
  · refine ⟨ready, 0, 0, (⟨0, 63⟩), (⟨0, none, 1, 0, false, 0, 0, 0, 0, 0, [], 64⟩), ?_⟩ <;> and_intros <;>
        first | decide +kernel | rfl
  · refine ⟨ready, 0, 0, (⟨0, none, 1, 0, false, 0, 0, 0, 0, 0, [], 64⟩), ?_⟩ <;> and_intros <;>
        first | decide +kernel | rfl
  · refine ⟨ready, 0, 8, ?_⟩ <;> and_intros <;> first | decide +kernel | rfl
  · refine ⟨ready, 0, 8, ?_⟩ <;> and_intros <;> first | decide +kernel | rfl
  · refine ⟨ready, 0, 0, ?_⟩ <;> and_intros <;> first | decide +kernel | rfl
  · refine ⟨ready, 0, 0, (txd 1 64 96 0), ?_⟩ <;> and_intros <;> first | decide +kernel | rfl
  · refine ⟨ready, 0, 0, (txd 2 64 0 1025), ?_⟩ <;> and_intros <;> first | decide +kernel | rfl
  · refine ⟨ready, 0, 0, (txd 3 1 0 5), (commitSlot ready 5 0 [1]).1, (commitSlot ready 5 0 [1]).2,
        ?_⟩ <;> and_intros <;> first | decide +kernel | rfl
  · refine ⟨ready, 0, 0, (txd 4 1 0 0), ?_⟩ <;> and_intros <;> first | decide +kernel | rfl

/-- The hypotheses of `SpiAndRemoteTenantsReachTheirPages`, clause by clause. -/
theorem wit_spi_and_remote_tenants_reach_their_pages :
    (∃ (b : Byte), b ≠ 0x02 ∧ b ≠ 0x0B) ∧
    (∃ (s : State) (t : Nat) (o : Nat), t < 16 ∧ pageOn (tenant s t) t .spi = true ∧ 0x1000 ≤ o ∧ o < 0x8000 ∧
      o % 4 = 0) ∧
    (∃ (s : State) (c : RemoteHcp), fetches s 1 = true ∧ s.pwc.state ≠ 3 ∧ remoteMatches s c = false) ∧
    (∃ (s : State) (c : RemoteHcp), fetches s 1 = true ∧ s.pwc.state ≠ 3 ∧ remoteMatches s c = true ∧
      (tenant s c.tenant).state = .opened ∧ s.host.counterOk = true ∧ remoteFault c.entry = none ∧
      cmacGood s c.tenant c.entry c.unit = true ∧ formatExempt s c.tenant c.entry = false ∧
      (tenant s c.tenant).counter.toNat < c.entry.counter.toNat) ∧
    (∃ (s : State), s.pwc.state ≠ 3 ∧ fetches s 1 = false) ∧
    (∃ (s : State) (c : RemoteHcp), s.pwc.state ≠ 3 ∧ fetches s 1 = true ∧ remoteMatches s c = true ∧
      (tenant s c.tenant).state ≠ .configured ∧ (tenant s c.tenant).state ≠ .opened) ∧
    (∃ (s : State) (c : RemoteHcp), fetches s 1 = true ∧ s.pwc.state ≠ 3 ∧ remoteMatches s c = true ∧
      (tenant s c.tenant).state = .opened ∧ cmacGood s c.tenant c.entry c.unit = false) ∧
    (∃ (s : State), s.pwc.state = 3) := by
  refine ⟨?_, ?_, ?_, ?_, ?_, ?_, ?_, ?_⟩
  · refine ⟨default, ?_⟩ <;> and_intros <;> first | decide +kernel | rfl
  · refine ⟨ready, 2, 0x7FFC, ?_⟩ <;> and_intros <;> first | decide +kernel | rfl
  · refine ⟨ready, (⟨9, 4, 0x31, 1, 3, 1, entry 0x0101 0 false⟩), ?_⟩ <;> and_intros <;> first | decide +kernel | rfl
  · refine ⟨(modTenant ready 3 fun x => { x with key := some 0 }),
        (⟨9, 4, 0x30, 1, 3, 1, { entry 0x0101 0 true with cmac := cmac96 0 (leBytes 8 1 ++ leBytes 8 5 ++ leBytes 2 0x0101) }⟩),
        ?_⟩ <;> and_intros <;> first | decide +kernel | rfl
  · refine ⟨(inPhase .rom), ?_⟩ <;> and_intros <;> first | decide +kernel | rfl
  · refine ⟨(hostWith fun x => { x with tenants := [(3, { guest .remote with state := .faulted })] }),
        (⟨9, 4, 0x30, 1, 3, nodeUnit ready, entry 0x0101 0 false⟩), ?_⟩ <;> and_intros <;> first | decide +kernel | rfl
  · refine ⟨ready, (⟨9, 4, 0x30, 1, 3, 1, entry 0x0101 0 true⟩), ?_⟩ <;> and_intros <;> first | decide +kernel | rfl
  · refine ⟨(pwcWith fun x => { x with state := 3 }), ?_⟩ <;> and_intros <;> first | decide +kernel | rfl

/-- The hypotheses of `SessionCommandsComplete`, clause by clause. -/
theorem wit_session_commands_complete :
    (∃ (h : Hcp) (s : State), accepts { opcode := 0x0001, features := [] } h s = true ∧
      (((tenant s h.tenant).state = .configured ∨ (tenant s h.tenant).state = .opened))) ∧
    (∃ (h : Hcp) (s : State) (t : Nat) (a : Attach) (r : Word) (p : BitVec 128) (vlan : Nat),
      accepts { opcode := 0x0002, classC := true, owner := true } h s = true ∧ tenantCfgOk s t a r p vlan = true) ∧
    (∃ (h : Hcp) (s : State) (t : Nat), accepts { opcode := 0x0002, classC := true, owner := true } h s = true ∧
      t ≠ 0 ∧ (tenant s t).state ≠ .free) ∧
    (∃ (h : Hcp) (s : State) (t : Nat), accepts { opcode := 0x0003 } h s = true ∧ ((h.tenant = t ∨ h.tenant = 0)) ∧
      t < 256 ∧ (tenant s t).state ≠ .free ∧ ((h.classC = true ∨ (t = 0 ∧ (tenant s 0).key = none))) ∧ ((t = 0 →
      (tenant s 0).attach ≠ .remote))) ∧
    (∃ (h : Hcp) (s : State) (t : Nat), accepts { opcode := 0x0004, classC := true } h s = true ∧ ((h.tenant = t ∨
      h.tenant = 0)) ∧ (tenant s t).state ≠ .free) ∧
    (∃ (h : Hcp) (s : State), accepts { opcode := 0x0005, classC := true, owner := true } h s = true) ∧
    (∃ (h : Hcp) (s : State) (e : Nat) (t : Nat) (q : Nat),
      accepts { opcode := 0x0006, classC := true, owner := true } h s = true ∧ e < 1024 ∧ t < 256 ∧ q < 8) ∧
    (∃ (h : Hcp) (s : State) (p : Bytes), accepts { opcode := 0x2DAE, classC := true, features := [] } h s = true ∧
      p.length ≤ 24) := by
  refine ⟨?_, ?_, ?_, ?_, ?_, ?_, ?_, ?_⟩
  · refine ⟨hcp0, ready, ?_⟩ <;> and_intros <;> first | decide +kernel | rfl
  · refine ⟨hcp0, ready, 255, .pcie, 511, 0, 4095, ?_⟩ <;> and_intros <;> first | decide +kernel | rfl
  · refine ⟨hcp0, ready, 1, ?_⟩ <;> and_intros <;> first | decide +kernel | rfl
  · refine ⟨hcp0, ready, 0, ?_⟩ <;> and_intros <;> first | decide +kernel | rfl
  · refine ⟨hcp0, ready, 0, ?_⟩ <;> and_intros <;> first | decide +kernel | rfl
  · refine ⟨hcp0, ready, ?_⟩ <;> and_intros <;> first | decide +kernel | rfl
  · refine ⟨hcp0, ready, 0, 0, 0, ?_⟩ <;> and_intros <;> first | decide +kernel | rfl
  · refine ⟨hcp0, ready, [], ?_⟩ <;> and_intros <;> first | decide +kernel | rfl

/-- The hypotheses of `TimeCommandsComplete`, clause by clause. -/
theorem wit_time_commands_complete :
    (∃ (h : Hcp) (s : State), accepts { opcode := 0x0101 } h s = true) ∧
    (∃ (h : Hcp) (s : State) (rs : List Param) (c : TimeCfg) (t : Option Int) (w : Option Int),
      accepts { opcode := 0x0102, classC := true } h s = true ∧ applyRecs s timeRec 0 (s.tms.cfgNext, s.tms.manualTrt,
      s.tms.manualWyt) rs = .ok (c, t, w) ∧ c.manual = true) ∧
    (∃ (h : Hcp) (s : State) (rs : List Param) (c : TimeCfg) (t : Option Int) (w : Option Int),
      accepts { opcode := 0x0102, classC := true } h s = true ∧ applyRecs s timeRec 0 (s.tms.cfgNext, s.tms.manualTrt,
      s.tms.manualWyt) rs = .ok (c, t, w) ∧ c.manual = false) ∧
    (∃ (h : Hcp) (s : State) (rs : List Param) (i : Nat), accepts { opcode := 0x0102, classC := true } h s = true ∧
      applyRecs s timeRec 0 (s.tms.cfgNext, s.tms.manualTrt, s.tms.manualWyt) rs = .error i) ∧
    (∃ (h : Hcp) (s : State) (sec : Nat) (ns : Nat) (f : Nat),
      accepts { opcode := 0x0103, classC := true } h s = true ∧ s.tms.tsValid = true ∧ ns < 1000000000 ∧
      sec < 2 ^ 48 ∧ f < 65536 ∧ ((s.tms.trtState = .leader ∨ s.tms.leaderId = 0)) ∧ s.css.state = .stopped ∧
      inaugurating s = false) ∧
    (∃ (h : Hcp) (s : State), accepts { opcode := 0x0103, classC := true } h s = true ∧ s.tms.tsValid = false) ∧
    (∃ (h : Hcp) (s : State) (sec : Nat) (ns : Nat) (f : Nat),
      accepts { opcode := 0x0103, classC := true } h s = true ∧ s.tms.tsValid = true ∧ ns < 1000000000 ∧
      sec < 2 ^ 48 ∧ f < 65536 ∧ s.tms.trtState ≠ .leader ∧ s.tms.leaderId ≠ 0) ∧
    (∃ (h : Hcp) (s : State) (sec : Nat) (ns : Nat) (f : Nat),
      accepts { opcode := 0x0103, classC := true } h s = true ∧ s.tms.tsValid = true ∧ ns < 1000000000 ∧
      sec < 2 ^ 48 ∧ f < 65536 ∧ ((s.tms.trtState = .leader ∨ s.tms.leaderId = 0)) ∧ ((s.css.state ≠ .stopped ∨
      inaugurating s = true))) := by
  refine ⟨?_, ?_, ?_, ?_, ?_, ?_, ?_, ?_⟩
  · refine ⟨hcp0, ready, ?_⟩ <;> and_intros <;> first | decide +kernel | rfl
  · refine ⟨hcp0, (tmsWith fun x => { x with cfgNext := { x.cfgNext with manual := true } }), [],
        { ready.tms.cfgNext with manual := true }, ready.tms.manualTrt, ready.tms.manualWyt, ?_⟩ <;> and_intros <;>
        first | decide +kernel | rfl
  · refine ⟨hcp0, ready, [], ready.tms.cfgNext, ready.tms.manualTrt, ready.tms.manualWyt, ?_⟩ <;> and_intros <;>
        first | decide +kernel | rfl
  · refine ⟨hcp0, ready, [⟨99, 255, 255, .num 0⟩], 0, ?_⟩ <;> and_intros <;> first | decide +kernel | rfl
  · refine ⟨hcp0, ready, 0, 0, 0, ?_⟩ <;> and_intros <;> first | decide +kernel | rfl
  · refine ⟨hcp0, (tmsWith fun x => { x with tsValid := false }), ?_⟩ <;> and_intros <;> first | decide +kernel | rfl
  · refine ⟨hcp0, (tmsWith fun x => { x with trtState := .locked, leaderId := 5 }), 0, 0, 0, ?_⟩ <;> and_intros <;>
        first | decide +kernel | rfl
  · refine ⟨hcp0, (cssWith fun x => { x with state := .listen }), 0, 0, 0, ?_⟩ <;> and_intros <;>
        first | decide +kernel | rfl

/-- The hypotheses of `LinkTimingFramesAreSentAndKept`, clause by clause. -/
theorem wit_link_timing_frames_are_sent_and_kept :
    (∃ (s : State) (p : Nat) (l : Nat), linkOf p = some l ∧ linkIsUp s p = true ∧ s.tms.tsValid = true) ∧
    (∃ (s : State) (sg : Nat), sg < 64 ∧ s.tms.tsValid = true ∧
      (tget ({} : PortCfg) s.ports.cfg (16 + sg)).enabled = true ∧
      (tget ({} : Segment) s.ports.segs sg).state = .normal ∧ segBursts s sg = false) ∧
    (∃ (s : State) (p : Nat) (l : Nat) (m : Ltm), linkOf p = some l ∧ linkIsUp s p = true ∧ s.tms.tsValid = true ∧
      m.version ≠ 1) ∧
    (∃ (s : State) (p : Nat) (l : Nat) (m : Ltm), linkOf p = some l ∧ linkIsUp s p = true ∧ s.tms.tsValid = true ∧
      m.version = 1 ∧ s.tms.trtState = .leader ∧ m.leaderId ≠ s.tms.leaderId ∧ ((s.css.state = .coldstart ∨
      s.css.state = .leader ∨ m.domainEpoch ≠ s.tms.domainEpoch))) ∧
    (∃ (s : State) (p : Nat) (l : Nat) (m : Ltm), linkOf p = some l ∧ linkIsUp s p = true ∧ s.tms.tsValid = true ∧
      m.version = 1 ∧ s.tms.trtState = .leader ∧ s.css.state ≠ .coldstart ∧ s.css.state ≠ .leader ∧
      m.domainEpoch = s.tms.domainEpoch ∧ m.leaderId ≠ 0 ∧ m.leaderId ≠ s.otp.unitId ∧
      (linkTime s l).qualified = false) ∧
    (∃ (s : State) (p : Nat) (l : Nat), linkOf p = some l ∧ s.tms.upstream ≠ l) ∧
    (∃ (s : State) (p : Nat) (l : Nat), linkOf p = some l ∧ s.tms.upstream = l ∧ s.tms.trtState ≠ .leader ∧
      s.tms.trtState ≠ .none) ∧
    (∃ (s : State) (p : Nat) (l : Nat), linkOf p = some l ∧ linkIsUp s p = true ∧ (linkTime s l).qualified = false) ∧
    (∃ (s : State) (p : Nat) (l : Nat) (m : Ltm), linkOf p = some l ∧ linkIsUp s p = true ∧ s.tms.tsValid = true ∧
      m.version = 1 ∧ s.tms.trtState = .leader ∧ m.leaderId ≠ s.tms.leaderId ∧ ((s.css.state = .coldstart ∨
      s.css.state = .leader ∨ m.domainEpoch ≠ s.tms.domainEpoch)) ∧ echoValid (linkTime s l) m = true) := by
  refine ⟨?_, ?_, ?_, ?_, ?_, ?_, ?_, ?_, ?_⟩
  · refine ⟨ready, 0, 0, ?_⟩ <;> and_intros <;> first | decide +kernel | rfl
  · refine ⟨(portsWith fun x => { x with segs := [(0, { state := .normal })] }), 0, ?_⟩ <;> and_intros <;>
        first | decide +kernel | rfl
  · refine ⟨ready, 0, 0, (ltm 2), ?_⟩ <;> and_intros <;> first | decide +kernel | rfl
  · refine ⟨{ tmsWith (fun x => { x with trtState := .leader, leaderId := 9 }) with css := { ready.css with state := .leader } },
        0, 0, (ltm 1), ?_⟩ <;> and_intros <;> first | decide +kernel | rfl
  · refine ⟨(tmsWith fun x => { x with trtState := .leader, leaderId := 9 }), 0, 0, (ltm 1), ?_⟩ <;> and_intros <;>
        first | decide +kernel | rfl
  · refine ⟨ready, 0, 0, ?_⟩ <;> and_intros <;> first | decide +kernel | rfl
  · refine ⟨(tmsWith fun x => { x with upstream := 0, trtState := .locked }), 0, 0, ?_⟩ <;> and_intros <;>
        first | decide +kernel | rfl
  · refine ⟨ready, 0, 0, ?_⟩ <;> and_intros <;> first | decide +kernel | rfl
  · refine ⟨{ tmsWith (fun x => { x with trtState := .leader, leaderId := 9, links := [(0, { txSeq := 1 })] }) with css := { ready.css with state := .leader } },
        0, 0, { ltm 1 with echoSeq := 1 }, ?_⟩ <;> and_intros <;> first | decide +kernel | rfl

/-- The hypotheses of `UpstreamOffsetsLockOrUnlock`, clause by clause. -/
theorem wit_upstream_offsets_lock_or_unlock :
    (∃ (s : State), (s.tms.trtState = .acquiring ∨ s.tms.trtState = .locked)) ∧
    (∃ (s : State) (os : List Int) (o : Int), (s.tms.trtState = .acquiring ∨ s.tms.trtState = .locked) ∧
      (let w := s.tms.cfg.lockWindow * 1000; s.tms.trtState = .acquiring ∧ s.tms.goodRun = 0 ∧ (∀ x ∈ os,
      x.natAbs ≤ w) ∧ o.natAbs ≤ w)) ∧
    (∃ (s : State) (os : List Int) (o : Int), (s.tms.trtState = .acquiring ∨ s.tms.trtState = .locked) ∧
      (let w := s.tms.cfg.lockWindow * 1000; s.tms.trtState = .acquiring ∧ s.tms.goodRun < 16 ∧ w < o.natAbs ∧
      os = [])) ∧
    (∃ (s : State) (os : List Int) (o : Int), (s.tms.trtState = .acquiring ∨ s.tms.trtState = .locked) ∧
      (let w := s.tms.cfg.lockWindow * 1000; s.tms.trtState = .locked ∧ s.tms.badRun = 0 ∧ os.length < 4 ∧ (∀ x ∈ os,
      4 * w < x.natAbs) ∧ 4 * w < o.natAbs)) ∧
    (∃ (s : State) (os : List Int) (o : Int), (s.tms.trtState = .acquiring ∨ s.tms.trtState = .locked) ∧
      (let w := s.tms.cfg.lockWindow * 1000; s.tms.trtState = .locked ∧ s.tms.badRun = 0 ∧ os.length < 4 ∧ (∀ x ∈ os,
      4 * w < x.natAbs) ∧ 4 * w < o.natAbs ∧ os.length = 3)) ∧
    (∃ (s : State) (os : List Int) (o : Int), (s.tms.trtState = .acquiring ∨ s.tms.trtState = .locked) ∧
      (let w := s.tms.cfg.lockWindow * 1000; s.tms.trtState = .locked ∧ o.natAbs ≤ 4 * w ∧ os = [])) := by
  refine ⟨?_, ?_, ?_, ?_, ?_, ?_⟩
  · refine ⟨(tmsWith fun x => { x with trtState := .acquiring }), ?_⟩ <;> and_intros <;> first | decide +kernel | rfl
  · refine ⟨(tmsWith fun x => { x with trtState := .acquiring }), [2000, -2000], 2000, ?_⟩ <;> and_intros <;>
        first | decide +kernel | rfl
  · refine ⟨(tmsWith fun x => { x with trtState := .acquiring }), [], 2001, ?_⟩ <;> and_intros <;>
        first | decide +kernel | rfl
  · refine ⟨(tmsWith fun x => { x with trtState := .locked }), [8001, -8001, 8001], 8001, ?_⟩ <;> and_intros <;>
        first | decide +kernel | rfl
  · refine ⟨(tmsWith fun x => { x with trtState := .locked }), [8001, -8001, 8001], 8001, ?_⟩ <;> and_intros <;>
        first | decide +kernel | rfl
  · refine ⟨(tmsWith fun x => { x with trtState := .locked }), [], 8000, ?_⟩ <;> and_intros <;>
        first | decide +kernel | rfl

/-- The hypotheses of `ServosAndHoldoverSetDrift`, clause by clause. -/
theorem wit_servos_and_holdover_set_drift :
    (∃ (s : State), s.tms.tsValid = true) ∧
    (∃ (s : State), mayHold s = true) ∧
    (∃ (s : State), mayHold s = false) ∧
    (∃ (s : State), s.tms.tsValid = true ∧ s.tms.cfgNext.manual = false ∧ s.tms.trtState = .locked ∧
      (linkTime s s.tms.upstream).peer = some ⟨5, 5, 0, 1, true, false, true, 0, 0⟩) ∧
    (∃ (s : State), s.tms.tsValid = true ∧ s.tms.cfgNext.manual = true ∧ s.tms.manualTrt = some (driftMax + 1)) := by
  refine ⟨?_, ?_, ?_, ?_, ?_⟩
  · refine ⟨ready, ?_⟩ <;> and_intros <;> first | decide +kernel | rfl
  · refine ⟨(tmsWith fun x => { x with trtState := .locked }), ?_⟩ <;> and_intros <;> first | decide +kernel | rfl
  · refine ⟨ready, ?_⟩ <;> and_intros <;> first | decide +kernel | rfl
  · refine ⟨(tmsWith fun x => { x with trtState := .locked, upstream := 0, links := [(0, { peer := some ⟨5, 5, 0, 1, true, false, true, 0, 0⟩ })] }),
        ?_⟩ <;> and_intros <;> first | decide +kernel | rfl
  · refine ⟨(tmsWith fun x => { x with cfgNext := { x.cfgNext with manual := true }, manualTrt := some (driftMax + 1) }),
        ?_⟩ <;> and_intros <;> first | decide +kernel | rfl

/-- The hypotheses of `WaysideDomainsAreTracked`, clause by clause. -/
theorem wit_wayside_domains_are_tracked :
    (∃ (s : State) (p : Nat) (d : Nat),
      (let runs := fun (s : State) (p : Nat) => s.tms.cfg.gptpPorts.contains p = true ∧ linkIsUp s p = true ∧ s.tms.tsValid = true; runs s p ∧
      d ≤ 1)) ∧
    (∃ (s : State) (p : Nat) (d : Nat) (x : PeerDelay) (t1 : Nat),
      (let runs := fun (s : State) (p : Nat) => s.tms.cfg.gptpPorts.contains p = true ∧ linkIsUp s p = true ∧ s.tms.tsValid = true; (let heard := fun (s : State) (p d : Nat) => reselect (countGot s p 64) d; runs s p ∧
      d ≤ 1 ∧ x = tget ({} : PeerDelay) (heard s p d).tms.peerDelay p ∧ x.t1 = some t1))) ∧
    (∃ (s : State) (p : Nat) (d : Nat) (q : BitVec 16),
      (let runs := fun (s : State) (p : Nat) => s.tms.cfg.gptpPorts.contains p = true ∧ linkIsUp s p = true ∧ s.tms.tsValid = true; (let heard := fun (s : State) (p d : Nat) => reselect (countGot s p 64) d; runs s p ∧
      d ≤ 1 ∧ q ≠ (tget ({} : PeerDelay) (heard s p d).tms.peerDelay p).seq))) ∧
    (∃ (s : State) (p : Nat) (d : Nat),
      (let runs := fun (s : State) (p : Nat) => s.tms.cfg.gptpPorts.contains p = true ∧ linkIsUp s p = true ∧ s.tms.tsValid = true; (let heard := fun (s : State) (p d : Nat) => reselect (countGot s p 64) d; runs s p ∧
      d ≤ 1 ∧ (heard s p d).tms.wytState = .invalid ∧ slavePort (heard s p d) d = some p))) ∧
    (∃ (s : State) (p : Nat) (d : Nat),
      (let runs := fun (s : State) (p : Nat) => s.tms.cfg.gptpPorts.contains p = true ∧ linkIsUp s p = true ∧ s.tms.tsValid = true; (let heard := fun (s : State) (p d : Nat) => reselect (countGot s p 64) d; runs s p ∧
      d ≤ 1 ∧ slavePort (heard s p d) d ≠ some p))) ∧
    (∃ (s : State) (p : Nat) (d : Nat) (r : GptpRank) (n : Nat),
      (let runs := fun (s : State) (p : Nat) => s.tms.cfg.gptpPorts.contains p = true ∧ linkIsUp s p = true ∧ s.tms.tsValid = true; (let heard := fun (s : State) (p d : Nat) => reselect (countGot s p 64) d; runs s p ∧
      d ≤ 1 ∧ r.identity ≠ s.otp.unitId ∧ n < 255 ∧ d ≠ (heard s p d).tms.wytDom))) ∧
    (∃ (s : State) (d : Nat), gmOf s d = (domainOf s d).grandmaster) ∧
    (∃ (s : State) (d : Nat), gmOf s d ≠ (domainOf s d).grandmaster ∧ (((domainOf s d).synced = false ∨
      d ≠ s.tms.wytDom ∨ (domainOf s (1 - d)).synced = false))) ∧
    (∃ (s : State) (d : Nat), d ≤ 1 ∧ gmOf s d ≠ (domainOf s d).grandmaster ∧ (domainOf s d).synced = true ∧
      d = s.tms.wytDom ∧ (domainOf s (1 - d)).synced = true) ∧
    (∃ (s : State) (p : Nat) (m : GptpMsg),
      (let runs := fun (s : State) (p : Nat) => s.tms.cfg.gptpPorts.contains p = true ∧ linkIsUp s p = true ∧ s.tms.tsValid = true; runs s p ∧
      1 < m.domain)) ∧
    (∃ (s : State) (p : Nat),
      (let runs := fun (s : State) (p : Nat) => s.tms.cfg.gptpPorts.contains p = true ∧ linkIsUp s p = true ∧ s.tms.tsValid = true; runs s p)) ∧
    (∃ (s : State) (p : Nat) (d : Nat),
      (let runs := fun (s : State) (p : Nat) => s.tms.cfg.gptpPorts.contains p = true ∧ linkIsUp s p = true ∧ s.tms.tsValid = true; runs s p ∧
      d < 2 ∧ isGrandmaster s d = true)) ∧
    (∃ (s : State) (p : Nat), txHalted s p = true) ∧
    (∃ (s : State) (p : Nat), txHalted s p = false) ∧
    (∃ (s : State) (p : Nat) (x : Sent) (q : BitVec 16), txHalted s p = false ∧ x = .pdelayReq p q) ∧
    (∃ (s : State) (d : Nat), (domainOf s d).synced = true) ∧
    (∃ (s : State), (domainOf s s.tms.cfg.domainPref).synced = true ∧ s.tms.wytDom ≠ s.tms.cfg.domainPref) ∧
    (∃ (s : State) (d : Nat), (domainOf s d).synced = true ∧ d = s.tms.wytDom ∧ d ≤ 1 ∧
      (domainOf s (1 - d)).synced = false) ∧
    (∃ (s : State) (d : Nat), (domainOf s d).synced = true ∧ d = s.tms.wytDom ∧ d ≤ 1 ∧
      (domainOf s (1 - d)).synced = true) := by
  refine ⟨?_, ?_, ?_, ?_, ?_, ?_, ?_, ?_, ?_, ?_, ?_, ?_, ?_, ?_, ?_, ?_, ?_, ?_, ?_⟩
  · refine ⟨ready, 94, 1, ?_⟩ <;> and_intros <;> first | decide +kernel | rfl
  · refine ⟨(tmsWith fun x => { x with peerDelay := [(94, { t1 := some 4 })] }), 94, 1, { t1 := some 4 }, 4,
        ?_⟩ <;> and_intros <;> first | decide +kernel | rfl
  · refine ⟨ready, 94, 1, 1, ?_⟩ <;> and_intros <;> first | decide +kernel | rfl
  · refine ⟨(tmsWith fun x => { x with domains := [(1, { ext := some (some 94) })] }), 94, 1, ?_⟩ <;> and_intros <;>
        first | decide +kernel | rfl
  · refine ⟨(tmsWith fun x => { x with domains := [(1, { priority1 := 254, grandmaster := 1 })] }), 94, 1,
        ?_⟩ <;> and_intros <;> first | decide +kernel | rfl
  · refine ⟨ready, 94, 1, (⟨1, 1, 1, 1, 1, 9⟩), 0, ?_⟩ <;> and_intros <;> first | decide +kernel | rfl
  · refine ⟨ready, 1, ?_⟩ <;> and_intros <;> first | decide +kernel | rfl
  · refine ⟨(tmsWith fun x => { x with domains := [(1, { grandmaster := 9 })] }), 1, ?_⟩ <;> and_intros <;>
        first | decide +kernel | rfl
  · refine ⟨(tmsWith fun x => { x with domains := [(1, { grandmaster := 9, synced := true }), (0, { synced := true })], wytDom := 1 }),
        1, ?_⟩ <;> and_intros <;> first | decide +kernel | rfl
  · refine ⟨ready, 94, (⟨2, .pdelayReq 0⟩), ?_⟩ <;> and_intros <;> first | decide +kernel | rfl
  · refine ⟨ready, 94, ?_⟩ <;> and_intros <;> first | decide +kernel | rfl
  · refine ⟨(tmsWith fun x => { x with domains := [(1, { priority1 := 254 })] }), 94, 1, ?_⟩ <;> and_intros <;>
        first | decide +kernel | rfl
  · refine ⟨(withLink 94 { up := true, haltUntil := some 5 }), 94, ?_⟩ <;> and_intros <;> first | decide +kernel | rfl
  · refine ⟨ready, 94, ?_⟩ <;> and_intros <;> first | decide +kernel | rfl
  · refine ⟨ready, 94, (.pdelayReq 94 0), 0, ?_⟩ <;> and_intros <;> first | decide +kernel | rfl
  · refine ⟨(tmsWith fun x => { x with domains := [(1, { synced := true })] }), 1, ?_⟩ <;> and_intros <;>
        first | decide +kernel | rfl
  · refine ⟨(tmsWith fun x => { x with domains := [(0, { synced := true })], wytDom := 1 }), ?_⟩ <;> and_intros <;>
        first | decide +kernel | rfl
  · refine ⟨(tmsWith fun x => { x with domains := [(1, { synced := true })], wytDom := 1 }), 1, ?_⟩ <;> and_intros <;>
        first | decide +kernel | rfl
  · refine ⟨(tmsWith fun x => { x with domains := [(0, { synced := true }), (1, { synced := true })] }), 0,
        ?_⟩ <;> and_intros <;> first | decide +kernel | rfl

/-- The hypotheses of `PpsAndReferenceMonitor`, clause by clause. -/
theorem wit_pps_and_reference_monitor :
    (∃ (s : State), s.tms.cfg.ppsSrc = .trt ∧ trtValid s = true) ∧
    (∃ (s : State), s.tms.cfg.ppsSrc = .wyt ∧ wytValid s = true) ∧
    (∃ (s : State) (a : Nat), s.tms.ppsFallAt = some a) ∧
    (∃ (s : State) (ms : List RefMeas), monitorOn s = true ∧ s.tms.refSource = 0 ∧
      consensus (ms.filter fun m => (portKind m.port == .bb || portKind m.port == .cp) && linkIsUp s m.port) = []) ∧
    (∃ (s : State), monitorOn s = true ∧ s.tms.refSource = 0) ∧
    (∃ (s : State) (a : Nat), monitorOn s = true ∧ s.tms.refSource ≠ 0 ∧ s.tms.cfg.refRevert = true ∧
      s.tms.refGood = some a) ∧
    (∃ (s : State) (ms : List RefMeas) (ppb : Int), monitorOn s = true ∧ s.tms.refSource = 0 ∧
      (let c := consensus (ms.filter fun m => (portKind m.port == .bb || portKind m.port == .cp) && linkIsUp s m.port); c ≠ [] ∧
      ppb = (c.map RefMeas.ppb).sum / (c.length : Int) ∧ s.tms.cfg.refThreshold < ppb.natAbs)) ∧
    (∃ (s : State), (s.tms.cfg.ppsSrc = .off ∨ (s.tms.cfg.ppsSrc = .trt ∧ trtValid s = false) ∨
      (s.tms.cfg.ppsSrc = .wyt ∧ wytValid s = false))) := by
  refine ⟨?_, ?_, ?_, ?_, ?_, ?_, ?_, ?_⟩
  · refine ⟨(tmsWith fun x => { x with trtState := .leader }), ?_⟩ <;> and_intros <;> first | decide +kernel | rfl
  · refine ⟨(tmsWith fun x => { x with cfg := { x.cfg with ppsSrc := .wyt }, wytState := .locked }),
        ?_⟩ <;> and_intros <;> first | decide +kernel | rfl
  · refine ⟨(tmsWith fun x => { x with ppsFallAt := some 4 }), 4, ?_⟩ <;> and_intros <;> first | decide +kernel | rfl
  · refine ⟨ready, [], ?_⟩ <;> and_intros <;> first | decide +kernel | rfl
  · refine ⟨ready, ?_⟩ <;> and_intros <;> first | decide +kernel | rfl
  · refine ⟨(tmsWith fun x => { x with refSource := 16, refGood := some 4 }), 4, ?_⟩ <;> and_intros <;>
        first | decide +kernel | rfl
  · refine ⟨ready, [⟨0, 100000⟩, ⟨4, 100000⟩], 100000, ?_⟩ <;> and_intros <;> first | decide +kernel | rfl
  · refine ⟨ready, ?_⟩ <;> and_intros <;> first | decide +kernel | rfl

/-- The hypotheses of `SlotsAndWindowsFollowTheirPan`, clause by clause. -/
theorem wit_slots_and_windows_follow_their_pan :
    (∃ (s : State) (i : Nat) (x : TxSlot), s.css.slots[i]? = some x ∧ s.tms.tsValid = true ∧ s.css.slotsRun = true ∧
      slotActive x (slotPan s x).1 = true ∧ entryPoisoned s 5 i = false ∧ x.kind = 0) ∧
    (∃ (s : State) (i : Nat) (x : TxSlot), s.css.slots[i]? = some x ∧ s.tms.tsValid = true ∧ s.css.slotsRun = true ∧
      slotActive x (slotPan s x).1 = true ∧ entryPoisoned s 5 i = false ∧ x.kind ≠ 0) ∧
    (∃ (s : State) (i : Nat) (x : TxSlot) (q : Word) (b : CssBody), s.css.slots[i]? = some x ∧ x.built = some (q, b) ∧
      s.tms.tsValid = true ∧ s.css.slotsRun = true ∧ slotActive x s.css.pan = true) ∧
    (∃ (s : State) (p : Nat) (f : CssFrame), (queueOf s p 7).isEmpty = true ∧
      fitsGate s p 7 (slotFrame f).len = true) ∧
    (∃ (s : State) (k : Nat) (w : RxWin), s.css.windows[k]? = some w ∧ s.tms.tsValid = true ∧ integrated s = true ∧
      winActive w s.css.pan = true ∧ entryPoisoned s 5 (1024 + k) = false ∧ w.gotA = true ∧ w.gotB = true) ∧
    (∃ (s : State) (k : Nat) (w : RxWin), s.css.windows[k]? = some w ∧ s.tms.tsValid = true ∧ integrated s = true ∧
      winActive w s.css.pan = true ∧ entryPoisoned s 5 (1024 + k) = false ∧ w.gotA = true ∧ w.gotB = false) ∧
    (∃ (s : State) (k : Nat) (w : RxWin), s.css.windows[k]? = some w ∧ s.tms.tsValid = true ∧ integrated s = true ∧
      winActive w s.css.pan = true ∧ entryPoisoned s 5 (1024 + k) = false ∧ w.gotA = false ∧ w.gotB = true) ∧
    (∃ (s : State) (k : Nat) (w : RxWin), s.css.windows[k]? = some w ∧ s.tms.tsValid = true ∧ integrated s = true ∧
      winActive w s.css.pan = true ∧ entryPoisoned s 5 (1024 + k) = false ∧ w.gotA = false ∧ w.gotB = false) ∧
    (∃ (s : State) (p : Nat) (f : CssFrame) (i : Nat) (w : RxWin) (d : Bytes) (q : Word), p < 4 ∧ cssPort s p = true ∧
      s.tms.tsValid = true ∧ f.hdr.fcsOk = true ∧ lineMatches p f.hdr = true ∧ integrated s = true ∧
      f.body = .data q d ∧ windowsOf s f.hdr.slotId = [i] ∧ s.css.windows[i]? = some w ∧ copyValid s w f.hdr = true ∧
      w.gotA = false ∧ w.gotB = false ∧ w.delivery = 0) ∧
    (∃ (s : State) (p : Nat) (f : CssFrame) (i : Nat) (w : RxWin) (d : Bytes) (q : Word), p < 4 ∧ cssPort s p = true ∧
      s.tms.tsValid = true ∧ f.hdr.fcsOk = true ∧ lineMatches p f.hdr = true ∧ integrated s = true ∧
      f.body = .data q d ∧ windowsOf s f.hdr.slotId = [i] ∧ s.css.windows[i]? = some w ∧ copyValid s w f.hdr = true ∧
      (w.gotA = true ∨ w.gotB = true)) ∧
    (∃ (s : State) (p : Nat) (f : CssFrame) (i : Nat) (w : RxWin) (d : Bytes) (q : Word), p < 4 ∧ cssPort s p = true ∧
      s.tms.tsValid = true ∧ f.hdr.fcsOk = true ∧ lineMatches p f.hdr = true ∧ integrated s = true ∧
      f.body = .data q d ∧ windowsOf s f.hdr.slotId = [i] ∧ s.css.windows[i]? = some w ∧
      copyValid s w f.hdr = false) ∧
    (∃ (s : State) (p : Nat) (f : CssFrame), p < 4 ∧ cssPort s p = true ∧ s.tms.tsValid = true ∧ f.hdr.fcsOk = true ∧
      s.css.state = .stopped) ∧
    (∃ (s : State) (p : Nat) (f : CssFrame), p < 4 ∧ cssPort s p = true ∧ s.tms.tsValid = true ∧
      f.hdr.fcsOk = false) ∧
    (∃ (s : State) (p : Nat) (f : CssFrame), p < 4 ∧ linkIsUp s p = true ∧ ((cssPort s p = false ∨
      s.tms.tsValid = false)) ∧ f.hdr.fcsOk = true) ∧
    (∃ (s : State), s.css.state = .leader ∧ s.tms.tsValid = true ∧ s.css.image.isSome = true ∧
      s.ine.twin.atBoundary = none ∧ s.ine.twin.due = false ∧ (∀ p, bbHeld s p = false) ∧ s.ine.state ≠ .topology ∧
      s.ine.state ≠ .installing ∧ s.ine.state ≠ .stopping) ∧
    (∃ (s : State), s.css.state = .leader ∧ s.tms.tsValid = true ∧ s.css.image.isSome = true ∧
      s.ine.twin.atBoundary = none ∧ s.ine.twin.due = false ∧ (∀ p, bbHeld s p = false) ∧ s.ine.state ≠ .topology ∧
      s.ine.state ≠ .installing ∧ s.ine.state ≠ .stopping ∧ s.css.clearDue = true) := by
  refine ⟨?_, ?_, ?_, ?_, ?_, ?_, ?_, ?_, ?_, ?_, ?_, ?_, ?_, ?_, ?_, ?_⟩
  · refine ⟨(cssIn .active 0), 0, { slot5 with ready := true, built := some (1, .data 1 []) }, ?_⟩ <;> and_intros <;>
        first | decide +kernel | rfl
  · refine ⟨(cssWith fun _ => { (cssIn .active 0).css with slots := [{ slot5 with kind := 1 }] }), 0,
        { slot5 with kind := 1 }, ?_⟩ <;> and_intros <;> first | decide +kernel | rfl
  · refine ⟨(cssIn .active 0), 0, { slot5 with ready := true, built := some (1, .data 1 []) }, 1, (.data 1 []),
        ?_⟩ <;> and_intros <;> first | decide +kernel | rfl
  · refine ⟨{ cssIn .active 0 with css := { (cssIn .active 0).css with gates := [⟨0, 0, 100000⟩] } }, 0,
        (⟨hdrA, .data 1 []⟩), ?_⟩ <;> and_intros <;> first | decide +kernel | rfl
  · refine ⟨(cssWith fun _ => { (cssIn .active 0).css with windows := [{ win5 0 with gotA := true, gotB := true }] }),
        0, { win5 0 with gotA := true, gotB := true }, ?_⟩ <;> and_intros <;> first | decide +kernel | rfl
  · refine ⟨(cssWith fun _ => { (cssIn .active 0).css with windows := [{ win5 0 with gotA := true }] }), 0,
        { win5 0 with gotA := true }, ?_⟩ <;> and_intros <;> first | decide +kernel | rfl
  · refine ⟨(cssWith fun _ => { (cssIn .active 0).css with windows := [{ win5 0 with gotB := true }] }), 0,
        { win5 0 with gotB := true }, ?_⟩ <;> and_intros <;> first | decide +kernel | rfl
  · refine ⟨(cssIn .active 0), 0, (win5 0), ?_⟩ <;> and_intros <;> first | decide +kernel | rfl
  · refine ⟨(cssIn .active 0), 0, (⟨hdrA, .data 1 []⟩), 0, (win5 0), [], 1, ?_⟩ <;> and_intros <;>
        first | decide +kernel | rfl
  · refine ⟨{ cssIn .active 0 with css := { (cssIn .active 0).css with windows := [{ win5 0 with gotA := true }] } },
        0, (⟨hdrA, .data 1 []⟩), 0, { win5 0 with gotA := true }, [], 1, ?_⟩ <;> and_intros <;>
        first | decide +kernel | rfl
  · refine ⟨(cssIn .active 0), 0, (⟨{ hdrA with scheduleId := 0 }, .data 1 []⟩), 0, (win5 0), [], 1,
        ?_⟩ <;> and_intros <;> first | decide +kernel | rfl
  · refine ⟨(cssIn .stopped 0), 0, (⟨hdrA, .data 1 []⟩), ?_⟩ <;> and_intros <;> first | decide +kernel | rfl
  · refine ⟨(cssIn .active 0), 0, (⟨{ hdrA with fcsOk := false }, .data 1 []⟩), ?_⟩ <;> and_intros <;>
        first | decide +kernel | rfl
  · refine ⟨(tmsWith fun x => { x with tsValid := false }), 0, (⟨hdrA, .data 1 []⟩), ?_⟩ <;> and_intros <;>
        first | decide +kernel | rfl
  · refine ⟨(cssIn .leader 0), ?_⟩ <;> and_intros <;>
        first | decide +kernel | (intro p; simp [bbHeld, cssIn, ready])
  · refine ⟨{ cssIn .leader 0 with css := { (cssIn .leader 0).css with clearDue := true } }, ?_⟩ <;> and_intros <;>
        first | decide +kernel | (intro p; simp [bbHeld, cssIn, ready])

/-- The hypotheses of `CssTimeoutsMoveTheNode`, clause by clause. -/
theorem wit_css_timeouts_move_the_node :
    (∃ (s : State), s.css.state = .listen ∧ s.css.capable = true ∧ s.tms.tsValid = true ∧ s.tms.wytState ≠ .locked ∧
      s.tms.wytState ≠ .holdover) ∧
    (∃ (s : State), s.css.state = .coldstart) ∧
    (∃ (s : State), s.css.state = .waitStart ∧ s.css.followed = s.otp.unitId) ∧
    (∃ (s : State), s.css.state = .waitStart) ∧
    (∃ (s : State), s.css.state = .integrating) ∧
    (∃ (s : State), s.css.state = .active ∧ s.css.leaderless = true ∧ s.css.capable = true ∧
      s.css.reelectDue = true) ∧
    (∃ (s : State), s.css.state = .active ∧ s.css.leaderless = true ∧ 8 ≤ s.css.missed) ∧
    (∃ (s : State), s.css.state = .listen ∧ s.css.capable = true ∧ s.tms.tsValid = true ∧ (s.tms.wytState = .locked ∨
      s.tms.wytState = .holdover)) ∧
    (∃ (s : State), s.css.state = .waitStart ∧ s.css.followed ≠ s.otp.unitId ∧ inaugurating s = false) := by
  refine ⟨?_, ?_, ?_, ?_, ?_, ?_, ?_, ?_, ?_⟩
  · refine ⟨(cssIn .listen 0), ?_⟩ <;> and_intros <;> first | decide +kernel | rfl
  · refine ⟨(cssIn .coldstart 0), ?_⟩ <;> and_intros <;> first | decide +kernel | rfl
  · refine ⟨(cssWith fun x => { x with state := .waitStart, followed := 1 }), ?_⟩ <;> and_intros <;>
        first | decide +kernel | rfl
  · refine ⟨(cssIn .waitStart 0), ?_⟩ <;> and_intros <;> first | decide +kernel | rfl
  · refine ⟨(cssIn .integrating 0), ?_⟩ <;> and_intros <;> first | decide +kernel | rfl
  · refine ⟨(cssWith fun x => { x with state := .active, leaderless := true, capable := true, reelectDue := true }),
        ?_⟩ <;> and_intros <;> first | decide +kernel | rfl
  · refine ⟨(cssWith fun x => { x with state := .active, leaderless := true, missed := 8 }), ?_⟩ <;> and_intros <;>
        first | decide +kernel | rfl
  · refine ⟨{ cssIn .listen 0 with tms := { (cssIn .listen 0).tms with wytState := .locked } }, ?_⟩ <;> and_intros <;>
        first | decide +kernel | rfl
  · refine ⟨(cssWith fun x => { x with state := .waitStart, followed := 5 }), ?_⟩ <;> and_intros <;>
        first | decide +kernel | rfl

/-- The hypotheses of `CycleStartsAndColdStartsMoveTheNode`, clause by clause. -/
theorem wit_cycle_starts_and_cold_starts_move_the_node :
    (∃ (s : State) (p : Nat) (f : CycleStart) (g : ColdStart), p < 4 ∧ cssPort s p = true ∧ s.tms.tsValid = true ∧
      f.hdr.fcsOk = true ∧ lineMatches p f.hdr = true ∧ hdrValid s f.hdr = true ∧ g.hdr = f.hdr ∧
      s.css.state = .stopped) ∧
    (∃ (s : State) (p : Nat) (f : CycleStart) (g : ColdStart), p < 4 ∧ cssPort s p = true ∧ s.tms.tsValid = true ∧
      f.hdr.fcsOk = true ∧ lineMatches p f.hdr = true ∧ hdrValid s f.hdr = true ∧ g.hdr = f.hdr ∧
      s.css.state = .listen) ∧
    (∃ (s : State) (p : Nat) (f : CycleStart) (g : ColdStart), p < 4 ∧ cssPort s p = true ∧ s.tms.tsValid = true ∧
      f.hdr.fcsOk = true ∧ lineMatches p f.hdr = true ∧ hdrValid s f.hdr = true ∧ g.hdr = f.hdr ∧
      s.css.state = .coldstart) ∧
    (∃ (s : State) (p : Nat) (f : CycleStart) (g : ColdStart), p < 4 ∧ cssPort s p = true ∧ s.tms.tsValid = true ∧
      f.hdr.fcsOk = true ∧ lineMatches p f.hdr = true ∧ hdrValid s f.hdr = true ∧ g.hdr = f.hdr ∧
      s.css.state = .coldstart ∧ trtNs s < s.css.origin ∧ s.otp.unitId.toNat < g.senderId.toNat) ∧
    (∃ (s : State) (p : Nat) (f : CycleStart) (g : ColdStart), p < 4 ∧ cssPort s p = true ∧ s.tms.tsValid = true ∧
      f.hdr.fcsOk = true ∧ lineMatches p f.hdr = true ∧ hdrValid s f.hdr = true ∧ g.hdr = f.hdr ∧
      s.css.state = .coldstart ∧ trtNs s < s.css.origin ∧ g.senderId.toNat < s.otp.unitId.toNat) ∧
    (∃ (s : State) (p : Nat) (f : CycleStart) (g : ColdStart), p < 4 ∧ cssPort s p = true ∧ s.tms.tsValid = true ∧
      f.hdr.fcsOk = true ∧ lineMatches p f.hdr = true ∧ hdrValid s f.hdr = true ∧ g.hdr = f.hdr ∧
      s.css.state = .integrating ∧ g.senderId ≠ s.css.followed ∧ s.css.followed.toNat ≤ g.senderId.toNat) ∧
    (∃ (s : State) (p : Nat) (f : CycleStart) (g : ColdStart), p < 4 ∧ cssPort s p = true ∧ s.tms.tsValid = true ∧
      f.hdr.fcsOk = true ∧ lineMatches p f.hdr = true ∧ hdrValid s f.hdr = true ∧ g.hdr = f.hdr ∧
      s.css.state = .integrating ∧ f.leaderId ≠ s.css.followed) ∧
    (∃ (s : State) (p : Nat) (f : CycleStart) (g : ColdStart), p < 4 ∧ cssPort s p = true ∧ s.tms.tsValid = true ∧
      f.hdr.fcsOk = true ∧ lineMatches p f.hdr = true ∧ hdrValid s f.hdr = true ∧ g.hdr = f.hdr ∧
      s.css.state = .active ∧ s.css.leaderless = false ∧ sameOrigin s (csStart f) f.hdr.pan = true ∧
      s.css.leader = f.leaderId) ∧
    (∃ (s : State) (p : Nat) (f : CycleStart) (g : ColdStart), p < 4 ∧ cssPort s p = true ∧ s.tms.tsValid = true ∧
      f.hdr.fcsOk = true ∧ lineMatches p f.hdr = true ∧ hdrValid s f.hdr = true ∧ g.hdr = f.hdr ∧
      s.css.state = .active ∧ sameOrigin s (csStart f) f.hdr.pan = false) ∧
    (∃ (s : State) (p : Nat) (f : CycleStart) (g : ColdStart), p < 4 ∧ cssPort s p = true ∧ s.tms.tsValid = true ∧
      f.hdr.fcsOk = true ∧ lineMatches p f.hdr = true ∧ hdrValid s f.hdr = true ∧ g.hdr = f.hdr ∧
      s.css.state = .leader ∧ sameOrigin s (csStart f) f.hdr.pan = true ∧ f.leaderId.toNat < s.otp.unitId.toNat) ∧
    (∃ (s : State) (p : Nat) (f : CycleStart) (g : ColdStart), p < 4 ∧ cssPort s p = true ∧ s.tms.tsValid = true ∧
      f.hdr.fcsOk = true ∧ lineMatches p f.hdr = true ∧ hdrValid s f.hdr = true ∧ g.hdr = f.hdr ∧
      s.css.state = .stopped ∧ s.ine.state = .renumbering ∧ f.leaderId = coordinatorOf s) ∧
    (∃ (s : State) (p : Nat) (f : CycleStart) (g : ColdStart), p < 4 ∧ cssPort s p = true ∧ s.tms.tsValid = true ∧
      f.hdr.fcsOk = true ∧ lineMatches p f.hdr = true ∧ hdrValid s f.hdr = true ∧ g.hdr = f.hdr ∧
      s.css.state = .stopped ∧ ((s.ine.state ≠ .renumbering ∨ f.leaderId ≠ coordinatorOf s))) ∧
    (∃ (s : State) (p : Nat) (f : CycleStart) (g : ColdStart), p < 4 ∧ cssPort s p = true ∧ s.tms.tsValid = true ∧
      f.hdr.fcsOk = true ∧ lineMatches p f.hdr = true ∧ hdrValid s f.hdr = true ∧ g.hdr = f.hdr ∧
      s.css.state = .waitStart ∧ f.hdr.pan ≠ 0) ∧
    (∃ (s : State) (p : Nat) (f : CycleStart) (g : ColdStart), p < 4 ∧ cssPort s p = true ∧ s.tms.tsValid = true ∧
      f.hdr.fcsOk = true ∧ lineMatches p f.hdr = true ∧ hdrValid s f.hdr = true ∧ g.hdr = f.hdr ∧
      s.css.state = .active ∧ s.css.leaderless = false ∧ linNs g.originSec g.originNs = s.css.origin) := by
  refine ⟨?_, ?_, ?_, ?_, ?_, ?_, ?_, ?_, ?_, ?_, ?_, ?_, ?_, ?_⟩
  · refine ⟨(cssIn .stopped 0), 0, (cycleOf 2 10000), (coldOf 2), ?_⟩ <;> and_intros <;> first | decide +kernel | rfl
  · refine ⟨(cssIn .listen 0), 0, (cycleOf 2 10000), (coldOf 2), ?_⟩ <;> and_intros <;> first | decide +kernel | rfl
  · refine ⟨(cssIn .coldstart 0), 0, (cycleOf 2 10000), (coldOf 2), ?_⟩ <;> and_intros <;> first | decide +kernel | rfl
  · refine ⟨{ cssIn .coldstart 0 with css := { (cssIn .coldstart 0).css with origin := 10001 } }, 0,
        (cycleOf 2 10000), (coldOf 2), ?_⟩ <;> and_intros <;> first | decide +kernel | rfl
  · refine ⟨{ cssIn .coldstart 0 with css := { (cssIn .coldstart 0).css with origin := 10001 } }, 0, (cycleOf 0 0),
        (coldOf 0), ?_⟩ <;> and_intros <;> first | decide +kernel | rfl
  · refine ⟨(cssIn .integrating 0), 0, (cycleOf 2 10000), (coldOf 2), ?_⟩ <;> and_intros <;>
        first | decide +kernel | rfl
  · refine ⟨(cssIn .integrating 0), 0, (cycleOf 2 10000), (coldOf 2), ?_⟩ <;> and_intros <;>
        first | decide +kernel | rfl
  · refine ⟨{ cssIn .active 0 with css := { (cssIn .active 0).css with leader := 2 } }, 0, (cycleOf 2 0), (coldOf 2),
        ?_⟩ <;> and_intros <;> first | decide +kernel | rfl
  · refine ⟨(cssIn .active 0), 0, (cycleOf 2 10000), (coldOf 2), ?_⟩ <;> and_intros <;> first | decide +kernel | rfl
  · refine ⟨(cssIn .leader 0), 0, (cycleOf 0 0), (coldOf 2), ?_⟩ <;> and_intros <;> first | decide +kernel | rfl
  · refine ⟨{ cssIn .stopped 0 with ine := { ready.ine with state := .renumbering, run := { merge := true, survivor := 2 } } },
        0, (cycleOf 2 10000), (coldOf 2), ?_⟩ <;> and_intros <;> first | decide +kernel | rfl
  · refine ⟨(cssIn .stopped 0), 0, (cycleOf 2 10000), (coldOf 2), ?_⟩ <;> and_intros <;> first | decide +kernel | rfl
  · refine ⟨(cssIn .waitStart 0), 0, { cycleOf 2 10000 with hdr := { hdrA with pan := 1 } },
        { coldOf 2 with hdr := { hdrA with pan := 1 } }, ?_⟩ <;> and_intros <;> first | decide +kernel | rfl
  · refine ⟨{ cssIn .active 0 with css := { (cssIn .active 0).css with origin := 50000 } }, 0, (cycleOf 2 10000),
        (coldOf 2), ?_⟩ <;> and_intros <;> first | decide +kernel | rfl

/-- The hypotheses of `ScheduleCommandsComplete`, clause by clause. -/
theorem wit_schedule_commands_complete :
    (∃ (h : Hcp) (s : State) (len : Nat),
      (let cmd := fun (op : Nat) => ({ opcode := op, classC := true } : Cmd); accepts (cmd 0x0201) h s = true ∧
      s.css.state = .stopped ∧ inaugurating s = false ∧ loadBusy s.css.loads h.tenant = false ∧ 0 < len ∧
      len ≤ 1048576)) ∧
    (∃ (h : Hcp) (s : State) (off : Nat) (d : Bytes) (l : LoadStage),
      (let cmd := fun (op : Nat) => ({ opcode := op, classC := true } : Cmd); accepts (cmd 0x0202) h s = true ∧
      loadOf s.css.loads h.tenant = some l ∧ 1 ≤ d.length ∧ d.length ≤ 4096 ∧ off + d.length ≤ l.len)) ∧
    (∃ (h : Hcp) (s : State) (met : List Nat) (l : LoadStage) (b : Bytes) (im : SchedImage) (u : State),
      (let cmd := fun (op : Nat) => ({ opcode := op, classC := true } : Cmd); accepts (cmd 0x0203) h s = true ∧
      loadOf s.css.loads h.tenant = some l ∧ loadBytes l.blocks l.len = some b ∧ s.css.state = .stopped ∧
      schedFormat l b = some im ∧ manifestSigned s b 0 = true ∧
      instantiateImage (readsCorrected { s with css := { s.css with loads := loadDrop s.css.loads h.tenant } } 8 met) im = some u)) ∧
    (∃ (h : Hcp) (s : State) (m : StartMode),
      (let cmd := fun (op : Nat) => ({ opcode := op, classC := true } : Cmd); accepts (cmd 0x0204) h s = true ∧
      s.css.state = .stopped ∧ inaugurating s = false ∧ s.tms.tsValid = true ∧ s.css.fits = true ∧ m = .cold)) ∧
    (∃ (h : Hcp) (s : State) (m : StartMode) (sec : Nat) (ns : Nat) (id : UnitId),
      (let cmd := fun (op : Nat) => ({ opcode := op, classC := true } : Cmd); accepts (cmd 0x0204) h s = true ∧
      s.css.state = .stopped ∧ inaugurating s = false ∧ s.tms.tsValid = true ∧ s.css.fits = true ∧
      m = .timed sec ns id ∧ (s.css.image.all fun i => i.timedRestart) = true ∧ trtNs s + 1000000 ≤ linNs sec ns ∧
      linNs sec ns ≤ trtNs s + 10000000000 ∧ (s.tms.trtState = .locked ∨ s.tms.trtState = .leader))) ∧
    (∃ (h : Hcp) (s : State) (pan : Word),
      (let cmd := fun (op : Nat) => ({ opcode := op, classC := true } : Cmd); accepts (cmd 0x0205) h s = true ∧
      inaugurating s = false ∧ s.css.state = .leader ∧ 2 ≤ (pan - s.css.pan).toInt)) ∧
    (∃ (h : Hcp) (s : State),
      (let cmd := fun (op : Nat) => ({ opcode := op, classC := true } : Cmd); accepts (cmd 0x0205) h s = true ∧
      inaugurating s = false ∧ (s.css.state = .active ∨ s.css.state = .leader))) ∧
    (∃ (h : Hcp) (s : State), accepts { opcode := 0x0206 } h s = true ∧ (s.css.state = .active ∨
      s.css.state = .leader ∨ s.css.state = .integrating)) ∧
    (∃ (h : Hcp) (s : State), accepts { opcode := 0x0206 } h s = true ∧ (s.css.state = .stopped ∨
      s.css.state = .listen ∨ s.css.state = .coldstart ∨ s.css.state = .waitStart)) ∧
    (∃ (h : Hcp) (s : State),
      (let cmd := fun (op : Nat) => ({ opcode := op, classC := true } : Cmd); accepts (cmd 0x0205) h s = true ∧
      inaugurating s = false ∧ s.css.state = .stopped)) ∧
    (∃ (h : Hcp) (s : State),
      (let cmd := fun (op : Nat) => ({ opcode := op, classC := true } : Cmd); accepts (cmd 0x0205) h s = true ∧
      inaugurating s = false ∧ (s.css.state = .listen ∨ s.css.state = .coldstart ∨ s.css.state = .integrating ∨
      s.css.state = .waitStart))) := by
  refine ⟨?_, ?_, ?_, ?_, ?_, ?_, ?_, ?_, ?_, ?_, ?_⟩
  · refine ⟨hcp0, ready, 1048576, ?_⟩ <;> and_intros <;> first | decide +kernel | rfl
  · refine ⟨hcp0, withSched, 0, schedBytes, schedLoad, ?_⟩ <;> and_intros <;> first | decide +kernel | rfl
  · refine ⟨hcp0, withSched, [3], schedLoad, schedBytes, image1,
        (instantiateImage (readsCorrected { withSched with css := { withSched.css with loads := loadDrop withSched.css.loads hcp0.tenant } } 8 [3]) image1).getD ready,
        ?_⟩ <;> and_intros <;> first | decide +kernel | rfl
  · refine ⟨hcp0, (cssIn .stopped 0), .cold, ?_⟩ <;> and_intros <;> first | decide +kernel | rfl
  · refine ⟨hcp0,
        { cssIn .stopped 0 with tms := { (cssIn .stopped 0).tms with trtState := .leader }, css := { (cssIn .stopped 0).css with image := some { image1 with timedRestart := true } } },
        (.timed 0 2000000 1), 0, 2000000, 1, ?_⟩ <;> and_intros <;> first | decide +kernel | rfl
  · refine ⟨hcp0, (cssIn .leader 0), 2, ?_⟩ <;> and_intros <;> first | decide +kernel | rfl
  · refine ⟨hcp0, (cssIn .active 0), ?_⟩ <;> and_intros <;> first | decide +kernel | rfl
  · refine ⟨hcp0, (cssIn .integrating 0), ?_⟩ <;> and_intros <;> first | decide +kernel | rfl
  · refine ⟨hcp0, ready, ?_⟩ <;> and_intros <;> first | decide +kernel | rfl
  · refine ⟨hcp0, ready, ?_⟩ <;> and_intros <;> first | decide +kernel | rfl
  · refine ⟨hcp0, (cssIn .listen 0), ?_⟩ <;> and_intros <;> first | decide +kernel | rfl

/-- The hypotheses of `TauCommandsComplete`, clause by clause. -/
theorem wit_tau_commands_complete :
    (∃ (h : Hcp) (s : State) (a : TauArm), accepts { opcode := 0x0301 } h s = true ∧ armDenied s h a = none ∧
      armReserved s a = false ∧ armFormed s a = true ∧ s.tms.tsValid = true ∧ armRefused s a = none) ∧
    (∃ (h : Hcp) (s : State) (a : TauArm), accepts { opcode := 0x0301 } h s = true ∧ 56 ≤ a.tau ∧ a.tau < 64) ∧
    (∃ (h : Hcp) (s : State) (k : Nat), accepts { opcode := 0x0302 } h s = true ∧ k < 56 ∧
      tauReadable s h.tenant k = true ∧ (tauOf s k).state = .armed ∧ (((tauOf s k).target < 5 ∨ h.classC = true)) ∧
      scale16 s (tauOf s k).wyt + 1000 * 65536 ≤ (tauOf s k).fire) ∧
    (∃ (h : Hcp) (s : State) (k : Nat), accepts { opcode := 0x0302 } h s = true ∧ k < 56 ∧
      tauReadable s h.tenant k = true ∧ (tauOf s k).state = .armed ∧ (((tauOf s k).target < 5 ∨ h.classC = true)) ∧
      (tauOf s k).fire < scale16 s (tauOf s k).wyt + 1000 * 65536) ∧
    (∃ (h : Hcp) (s : State) (k : Nat), accepts { opcode := 0x0302 } h s = true ∧ k < 56 ∧
      tauReadable s h.tenant k = true ∧ (tauOf s k).state = .committed ∧ (((tauOf s k).target < 5 ∨
      h.classC = true))) ∧
    (∃ (h : Hcp) (s : State) (k : Nat) (d : Bytes), accepts { opcode := 0x0303 } h s = true ∧ k < 56 ∧
      (tauOf s k).state = .idle ∧ 1 ≤ d.length ∧ d.length ≤ 1522) ∧
    (∃ (h : Hcp) (s : State) (k : Nat), accepts { opcode := 0x0306, classC := true, owner := true } h s = true ∧
      k < 4) ∧
    (∃ (h : Hcp) (s : State) (k : Nat), accepts { opcode := 0x0307 } h s = true ∧ k < 64 ∧
      tauReadable s h.tenant k = true) ∧
    (∃ (h : Hcp) (s : State) (k : Nat), accepts { opcode := 0x0308 } h s = true ∧ k < 64 ∧
      tauReadable s h.tenant k = true) ∧
    (∃ (h : Hcp) (s : State) (k : Nat), accepts { opcode := 0x0307 } h s = true ∧ k < 64 ∧
      tauReadable s h.tenant k = false) := by
  refine ⟨?_, ?_, ?_, ?_, ?_, ?_, ?_, ?_, ?_, ?_⟩
  · refine ⟨hcp0, ready, arm1, ?_⟩ <;> and_intros <;> first | decide +kernel | rfl
  · refine ⟨hcp0, ready, { arm1 with tau := 56 }, ?_⟩ <;> and_intros <;> first | decide +kernel | rfl
  · refine ⟨hcp0, (withTau armed1), 0, ?_⟩ <;> and_intros <;> first | decide +kernel | rfl
  · refine ⟨hcp0, (withTau { armed1 with fire := 0 }), 0, ?_⟩ <;> and_intros <;> first | decide +kernel | rfl
  · refine ⟨hcp0, (withTau { armed1 with state := .committed }), 0, ?_⟩ <;> and_intros <;> first | decide +kernel | rfl
  · refine ⟨hcp0, ready, 55, (List.replicate 1522 0), ?_⟩ <;> and_intros <;> first | decide +kernel | rfl
  · refine ⟨hcp0, ready, 0, ?_⟩ <;> and_intros <;> first | decide +kernel | rfl
  · refine ⟨hcp0, ready, 0, ?_⟩ <;> and_intros <;> first | decide +kernel | rfl
  · refine ⟨hcp0, ready, 0, ?_⟩ <;> and_intros <;> first | decide +kernel | rfl
  · refine ⟨hcp1, (withTau armed1), 0, ?_⟩ <;> and_intros <;> first | decide +kernel | rfl

/-- The hypotheses of `IssuerDecidesOncePerAction`, clause by clause. -/
theorem wit_issuer_decides_once_per_action :
    (∃ (k : Nat), k < 64) ∧
    (∃ (h : Hcp) (s : State) (k : Nat) (src : Nat) (key : Nat) (slot : Nat), k < 64 ∧
      accepts { opcode := 0x0304, classC := true } h s = true ∧ decideFault s h k src key slot = none) ∧
    (∃ (h : Hcp) (s : State) (k : Nat), k < 64 ∧
      (let r := tauOf s k; accepts { opcode := 0x0304, classC := true } h s = true ∧ (r.mode ≠ .gated ∨
      r.owner ≠ some h.tenant ∨ r.issuer ≠ nodeUnit s))) ∧
    (∃ (h : Hcp) (s : State) (k : Nat), k < 64 ∧
      (let r := tauOf s k; accepts { opcode := 0x0304, classC := true } h s = true ∧ r.mode = .gated ∧
      r.owner = some h.tenant ∧ r.issuer = nodeUnit s ∧ ((r.decided = true ∨ r.state ≠ .armed)))) ∧
    (∃ (h : Hcp) (s : State) (k : Nat) (src : Nat) (key : Nat) (slot : Nat), k < 64 ∧
      accepts { opcode := 0x0305, classC := true } h s = true ∧ decideFault s h k src key slot = none) := by
  refine ⟨?_, ?_, ?_, ?_, ?_⟩
  · refine ⟨0, ?_⟩ <;> and_intros <;> first | decide +kernel | rfl
  · refine ⟨hcp0, (withTau gated1), 0, 1, 0, 0, ?_⟩ <;> and_intros <;> first | decide +kernel | rfl
  · refine ⟨hcp0, ready, 0, ?_⟩ <;> and_intros <;> first | decide +kernel | rfl
  · refine ⟨hcp0, (withTau { gated1 with decided := true }), 0, ?_⟩ <;> and_intros <;> first | decide +kernel | rfl
  · refine ⟨hcp0, (withTau gated1), 0, 1, 0, 0, ?_⟩ <;> and_intros <;> first | decide +kernel | rfl

/-- The hypotheses of `TauFiresAtItsInstant`, clause by clause. -/
theorem wit_tau_fires_at_its_instant :
    (∃ (s : State) (k : Nat), s.tms.tsValid = true ∧ (tauOf s k).state = .armed ∧ (tauOf s k).mode = .oneShot ∧
      (tauOf s k).wyt = false ∧ (tauOf s k).target = 1 ∧ (tauOf s k).shared = false ∧
      (tauOf s k).arg.toNat / 16 % 4 < 3 ∧
      (let u := untilTrt s ((tauOf s k).fire * 2 ^ 32); (let pin := (tauOf s k).arg.toNat % 8; (tget ({} : TaPin) s.tau.ta pin).tick < u.mono))) ∧
    (∃ (s : State) (k : Nat), s.tms.tsValid = true ∧ (tauOf s k).state = .armed ∧ (tauOf s k).mode = .oneShot ∧
      (tauOf s k).wyt = false ∧ (tauOf s k).target = 4 ∧ (tauOf s k).shared = false) ∧
    (∃ (s : State) (k : Nat), s.tms.tsValid = true ∧ (tauOf s k).state = .armed ∧ (tauOf s k).mode = .oneShot ∧
      (tauOf s k).wyt = true ∧ s.tms.wytState = .invalid ∧ (tauOf s k).target < 0x100) ∧
    (∃ (s : State) (k : Nat), willFire (tauOf s k) = false ∧ sealDue s k = false) ∧
    (∃ (s : State) (k : Nat), willFire (tauOf s k) = false ∧ sealDue s k = true ∧ s.tms.tsValid = true) ∧
    (∃ (s : State) (p : Nat) (a : Nat) (l : Bool), (tget ({} : TaPin) s.tau.ta p).pulse = some (a, l)) ∧
    (∃ (s : State) (p : Nat) (e : Bool) (w : CapWin), tget none s.tau.caps p = some w ∧ s.mono < w.endAt ∧
      w.stamps.length < 16 ∧ ((w.edges = 3 ∨ w.edges = (if e then 1 else 2)))) ∧
    (∃ (s : State) (p : Nat) (w : CapWin), tget none s.tau.caps p = some w) ∧
    (∃ (s : State) (k : Nat), s.tms.tsValid = true ∧ willFire (tauOf s k) = true ∧
      (let r := tauOf s k; (let u := untilScale s r.wyt r.fire; (r.wyt = false ∨ wytValid u = true) ∧
      tauDrives u r = true ∧ r.target = 1))) ∧
    (∃ (s : State) (k : Nat), s.tms.tsValid = true ∧ willFire (tauOf s k) = true ∧
      (let r := tauOf s k; (let u := untilScale s r.wyt r.fire; (r.wyt = false ∨ wytValid u = true) ∧
      tauDrives u r = true ∧ r.target = 2))) ∧
    (∃ (s : State) (k : Nat), s.tms.tsValid = true ∧ willFire (tauOf s k) = true ∧
      (let r := tauOf s k; (let u := untilScale s r.wyt r.fire; (r.wyt = false ∨ wytValid u = true) ∧
      tauDrives u r = true ∧ r.target = 3))) ∧
    (∃ (s : State) (k : Nat), s.tms.tsValid = true ∧ willFire (tauOf s k) = true ∧
      (let r := tauOf s k; (let u := untilScale s r.wyt r.fire; (r.wyt = false ∨ wytValid u = true) ∧
      tauDrives u r = true ∧ r.target = 5 ∧ bitAt r.arg 8 = false))) ∧
    (∃ (s : State) (k : Nat), s.tms.tsValid = true ∧ willFire (tauOf s k) = true ∧
      (let r := tauOf s k; (let u := untilScale s r.wyt r.fire; (r.wyt = false ∨ wytValid u = true) ∧
      tauDrives u r = true ∧ r.target = 6))) ∧
    (∃ (s : State) (k : Nat), s.tms.tsValid = true ∧ willFire (tauOf s k) = true ∧
      (let r := tauOf s k; (let u := untilScale s r.wyt r.fire; (r.wyt = false ∨ wytValid u = true) ∧
      tauDrives u r = true ∧ r.target = 7))) ∧
    (∃ (s : State) (k : Nat), (tauOf s k).mode = .periodic) ∧
    (∃ (s : State) (k : Nat), s.tms.tsValid = true ∧ willFire (tauOf s k) = true ∧ tauDrives s (tauOf s k) = false ∧
      (tauOf s k).wyt = false) := by
  refine ⟨?_, ?_, ?_, ?_, ?_, ?_, ?_, ?_, ?_, ?_, ?_, ?_, ?_, ?_, ?_, ?_⟩
  · refine ⟨(withTau armed1), 0, ?_⟩ <;> and_intros <;> first | decide +kernel | rfl
  · refine ⟨(withTau { armed1 with target := 4 }), 0, ?_⟩ <;> and_intros <;> first | decide +kernel | rfl
  · refine ⟨(withTau { armed1 with wyt := true }), 0, ?_⟩ <;> and_intros <;> first | decide +kernel | rfl
  · refine ⟨ready, 0, ?_⟩ <;> and_intros <;> first | decide +kernel | rfl
  · refine ⟨(tauWith fun x => { x with surveyQueue := [⟨0, false, 5, 0, survey0, false⟩] }), 0, ?_⟩ <;> and_intros <;>
        first | decide +kernel | rfl
  · refine ⟨(tauWith fun x => { x with ta := [(7, { pulse := some (4, true) })] }), 7, 4, true, ?_⟩ <;> and_intros <;>
        first | decide +kernel | rfl
  · refine ⟨(tauWith fun x => { x with caps := [(7, some ⟨0, 1, 9, false, []⟩)] }), 7, true, (⟨0, 1, 9, false, []⟩),
        ?_⟩ <;> and_intros <;> first | decide +kernel | rfl
  · refine ⟨(tauWith fun x => { x with caps := [(7, some ⟨0, 1, 9, false, []⟩)] }), 7, (⟨0, 1, 9, false, []⟩),
        ?_⟩ <;> and_intros <;> first | decide +kernel | rfl
  · refine ⟨(withTau armed1), 0, ?_⟩ <;> and_intros <;> first | decide +kernel | rfl
  · refine ⟨(withTau { armed1 with target := 2 }), 0, ?_⟩ <;> and_intros <;> first | decide +kernel | rfl
  · refine ⟨(withTau { armed1 with target := 3 }), 0, ?_⟩ <;> and_intros <;> first | decide +kernel | rfl
  · refine ⟨(withTau { armed1 with target := 5 }), 0, ?_⟩ <;> and_intros <;> first | decide +kernel | rfl
  · refine ⟨(withTau { armed1 with target := 6 }), 0, ?_⟩ <;> and_intros <;> first | decide +kernel | rfl
  · refine ⟨(withTau { armed1 with target := 7 }), 0, ?_⟩ <;> and_intros <;> first | decide +kernel | rfl
  · refine ⟨(withTau { armed1 with mode := .periodic }), 0, ?_⟩ <;> and_intros <;> first | decide +kernel | rfl
  · refine ⟨{ withTau { armed1 with shared := true } with ine := { ready.ine with twin := { ready.ine.twin with partner := some 5, state := .standby } } },
        0, ?_⟩ <;> and_intros <;> first | decide +kernel | rfl

/-- The hypotheses of `TokensAndSurveysAreJudged`, clause by clause. -/
theorem wit_tokens_and_surveys_are_judged :
    (∃ (s : State) (k : Nat) (r : TauRec) (t : Token) (f : CssFrame), s.tms.tsValid = true ∧ linkIsUp s 94 = true ∧
      f.hdr.fcsOk = true ∧ f.body = .token t ∧ s.tau.units = [(k, r)] ∧ r.mode = .gated ∧ r.state = .armed ∧
      r.wayside = true ∧ r.verdict = 0 ∧ r.target < 0x100 ∧ tokenOk s r t = true) ∧
    (∃ (s : State) (k : Nat) (r : TauRec) (t : Token) (f : CssFrame), s.tms.tsValid = true ∧ linkIsUp s 94 = true ∧
      f.hdr.fcsOk = true ∧ f.body = .token t ∧ s.tau.units = [(k, r)] ∧ r.mode = .gated ∧ r.state = .armed ∧
      r.wayside = true ∧ r.verdict = 0 ∧ r.target < 0x100 ∧ tokenOk s r t = false) ∧
    (∃ (s : State) (k : Nat), s.tms.tsValid = true ∧ (tauOf s k).state = .armed ∧ (tauOf s k).mode = .gated ∧
      (tauOf s k).target < 0x100) ∧
    (∃ (s : State) (k : Nat) (w : WaysideTok), tget none s.tau.tokens k = some w ∧ s.tms.tsValid = true ∧
      (let u := untilMono s w.nextAt; scaleNs u w.wyt + 1000000 ≤ w.commitAt ∧ linkIsUp s 94 = true)) ∧
    (∃ (s : State) (k : Nat) (w : WaysideTok), tget none s.tau.tokens k = some w ∧ s.tms.tsValid = true ∧
      (let u := untilMono s w.nextAt; w.commitAt < scaleNs u w.wyt + 1000000)) ∧
    (∃ (s : State) (p : Nat) (f : CssFrame) (i : Nat) (w : RxWin) (x : Survey) (k : Nat), p < 4 ∧ cssPort s p = true ∧
      s.tms.tsValid = true ∧ lineMatches p f.hdr = true ∧ integrated s = true ∧ f.body = .survey x ∧
      windowsOf s f.hdr.slotId = [i] ∧ s.css.windows[i]? = some w ∧ copyValid s w f.hdr = true ∧ w.gotA = false ∧
      w.gotB = false ∧ w.delivery = 3072 + k ∧ k < 64 ∧ (tauOf s k).surveyOpen = true ∧
      x.actionId = (tauOf s k).actionId ∧ surveySigned s (tauOf s k) x = true ∧
      ((tauOf s k).reports.any fun y => y.reporterId == x.reporterId) = false) ∧
    (∃ (s : State) (k : Nat), s.tms.tsValid = true ∧ (tauOf s k).surveyOpen = true) ∧
    (∃ (s : State) (p : Nat) (f : CssFrame) (i : Nat) (w : RxWin) (t : Token) (k : Nat), p < 4 ∧ cssPort s p = true ∧
      s.tms.tsValid = true ∧ lineMatches p f.hdr = true ∧ integrated s = true ∧ f.body = .token t ∧
      windowsOf s f.hdr.slotId = [i] ∧ s.css.windows[i]? = some w ∧ copyValid s w f.hdr = true ∧ w.gotA = false ∧
      w.gotB = false ∧ w.delivery = 3072 + k ∧ k < 64 ∧ (tauOf s k).mode = .gated ∧ (tauOf s k).state = .armed ∧
      (tauOf s k).verdict = 0 ∧ t.decision = 1 ∧ tokenOk s (tauOf s k) t = true ∧ (tauOf s k).wayside = false) ∧
    (∃ (s : State) (p : Nat) (f : CssFrame) (i : Nat) (w : RxWin) (t : Token) (k : Nat), p < 4 ∧ cssPort s p = true ∧
      s.tms.tsValid = true ∧ lineMatches p f.hdr = true ∧ integrated s = true ∧ f.body = .token t ∧
      windowsOf s f.hdr.slotId = [i] ∧ s.css.windows[i]? = some w ∧ copyValid s w f.hdr = true ∧ w.gotA = false ∧
      w.gotB = false ∧ w.delivery = 3072 + k ∧ k < 64 ∧ (tauOf s k).mode = .gated ∧ (tauOf s k).state = .armed ∧
      (tauOf s k).verdict = 0 ∧ t.decision = 1 ∧ (tokenOk s (tauOf s k) t = false ∨ (tauOf s k).wayside = true)) ∧
    (∃ (s : State) (k : Nat) (r : TauRec) (t : Token) (f : CssFrame), s.tms.tsValid = true ∧ linkIsUp s 94 = true ∧
      f.hdr.fcsOk = true ∧ f.body = .token t ∧ s.tau.units = [(k, r)] ∧ r.mode = .gated ∧ r.state = .armed ∧
      r.wayside = true ∧ r.verdict = 0 ∧ r.target < 0x100 ∧ tokenOk s r t = true ∧ t.decision = 1 ∧
      r.tokenAt = none) ∧
    (∃ (s : State) (k : Nat) (r : TauRec) (t : Token) (f : CssFrame), s.tms.tsValid = true ∧ linkIsUp s 94 = true ∧
      f.hdr.fcsOk = true ∧ f.body = .token t ∧ s.tau.units = [(k, r)] ∧ r.mode = .gated ∧ r.state = .armed ∧
      r.wayside = true ∧ r.verdict = 0 ∧ r.target < 0x100 ∧ tokenOk s r t = true ∧ t.decision = 2) := by
  refine ⟨?_, ?_, ?_, ?_, ?_, ?_, ?_, ?_, ?_, ?_, ?_⟩
  · refine ⟨(withTau gated1), 0, gated1, token1, (⟨hdrA, .token token1⟩), ?_⟩ <;> and_intros <;>
        first | decide +kernel | rfl
  · refine ⟨(withTau gated1), 0, gated1, token0, (⟨hdrA, .token token0⟩), ?_⟩ <;> and_intros <;>
        first | decide +kernel | rfl
  · refine ⟨(withTau gated1), 0, ?_⟩ <;> and_intros <;> first | decide +kernel | rfl
  · refine ⟨(tauWith fun x => { x with tokens := [(63, some ⟨token1, 10000000, false, 0⟩)] }), 63,
        (⟨token1, 10000000, false, 0⟩), ?_⟩ <;> and_intros <;> first | decide +kernel | rfl
  · refine ⟨(tauWith fun x => { x with tokens := [(63, some ⟨token1, 999999, false, 0⟩)] }), 63,
        (⟨token1, 999999, false, 0⟩), ?_⟩ <;> and_intros <;> first | decide +kernel | rfl
  · refine ⟨withSurvey, 0, (⟨hdrA, .survey survey1⟩), 0, (win5 3072), survey1, 0, ?_⟩ <;> and_intros <;>
        first | decide +kernel | rfl
  · refine ⟨withSurvey, 0, ?_⟩ <;> and_intros <;> first | decide +kernel | rfl
  · refine ⟨withGate, 0, (⟨hdrA, .token token2⟩), 0, (win5 3072), token2, 0, ?_⟩ <;> and_intros <;>
        first | decide +kernel | rfl
  · refine ⟨withGate, 0, (⟨hdrA, .token { token2 with cmac := 0 }⟩), 0, (win5 3072), { token2 with cmac := 0 }, 0,
        ?_⟩ <;> and_intros <;> first | decide +kernel | rfl
  · refine ⟨(withTau gated1), 0, gated1, token1, (⟨hdrA, .token token1⟩), ?_⟩ <;> and_intros <;>
        first | decide +kernel | rfl
  · refine ⟨(withTau gated1), 0, gated1, (mkToken (withTau gated1) gated1 2),
        (⟨hdrA, .token (mkToken (withTau gated1) gated1 2)⟩), ?_⟩ <;> and_intros <;> first | decide +kernel | rfl

/-- The hypotheses of `DiscardsAreCountedOnceAndRecorded`, clause by clause. -/
theorem wit_discards_are_counted_once_and_recorded :
    (∃ (s : State) (k : Nat) (w : Watch), (let b := s.fab.bit; tget none b.watches k = some w)) ∧
    (∃ (d : Discard), d.reason < 256 ∧ d.ingress < 256 ∧ d.egress < 256 ∧ d.cls < 8) ∧
    (∃ (d : Discard), d.stream = none) ∧
    (∃ (d : Discard) (i : Nat), d.stream = some i ∧ i < 65536) ∧
    (∃ (d : Discard) (u : Nat), u ≠ d.tenant) ∧
    (∃ (s : State) (u : Nat), u < 256 ∧ poisonedBacking s (0x240000 + u * 0x10) = none) := by
  refine ⟨?_, ?_, ?_, ?_, ?_, ?_⟩
  · refine ⟨(fabWith fun x => { x with bit := { x.bit with watches := [(0, some ⟨⟨none, none, none⟩, 0, 0, 0⟩)] } }),
        0, (⟨⟨none, none, none⟩, 0, 0, 0⟩), ?_⟩ <;> and_intros <;> first | decide +kernel | rfl
  · refine ⟨{ port := 16, reason := 15, ingress := 255, tenant := 255, cls := 7, len := 64 }, ?_⟩ <;> and_intros <;>
        first | decide +kernel | rfl
  · refine ⟨{ port := 16, reason := 15, ingress := 255, tenant := 255, cls := 7, len := 64 }, ?_⟩ <;> and_intros <;>
        first | decide +kernel | rfl
  · refine ⟨{ port := 16, reason := 15, ingress := 255, tenant := 255, cls := 7, len := 64, stream := some 65534 },
        65534, ?_⟩ <;> and_intros <;> first | decide +kernel | rfl
  · refine ⟨{ port := 16, reason := 15, ingress := 255, tenant := 255, cls := 7, len := 64 }, 0,
        ?_⟩ <;> and_intros <;> first | decide +kernel | rfl
  · refine ⟨ready, 0, ?_⟩ <;> and_intros <;> first | decide +kernel | rfl

/-- The hypotheses of `FramesPassTheStages`, clause by clause. -/
theorem wit_frames_pass_the_stages :
    (∃ (s : State) (x : Ingress), portReceives s x.port = true ∧ x.frame.len < 64 ∧ portKind x.port ≠ .can) ∧
    (∃ (s : State) (x : Ingress), portReceives s x.port = false) ∧
    (∃ (s : State) (x : Ingress) (c : Nat), cssKind x = false ∧ portReceives s x.port = true ∧ (64 ≤ x.frame.len ∨
      portKind x.port = .can) ∧ consumedAtPort x.port x.frame = true ∧ x.finds = [] ∧
      stage1 s x.port x.frame = some c) ∧
    (∃ (s : State) (x : Ingress), cssKind x = false ∧ portReceives s x.port = true ∧ (64 ≤ x.frame.len ∨
      portKind x.port = .can) ∧ consumedAtPort x.port x.frame = true ∧ x.finds = [] ∧
      stage1 s x.port x.frame = none) ∧
    (∃ (s : State) (x : Ingress) (u : State) (r : Routed) (p : Nat), cssKind x = false ∧
      portReceives s x.port = true ∧ (64 ≤ x.frame.len ∨ portKind x.port = .can) ∧
      consumedAtPort x.port x.frame = false ∧ stage1 s x.port x.frame = none ∧ x.finds = [] ∧ x.phy = [] ∧
      classify s x.port x.frame none = .pass u r ∧ cutThrough u x.port r = false ∧ r.ports = [p] ∧ p < 96 ∧
      (let v := learnFrom (countRx u x.port x.frame) x.port x.frame r; (requestOf s s x).2.2 ≤ sharedFree s ∧
      (routedAlloc v x.port r).sharedCells ≤ sharedFree v ∧ ((routedAlloc v x.port r).sharedCells = 0 ∨
      thresholdOk s p r.cls = true) ∧ ((∀ h : Held, h.frame = r.frame → h.ingress = x.port →
      h.rcts = prpNumbers v r.frame [p] → egressReason v p r (egressFrame v p h).len = none)))) ∧
    (∃ (s : State) (x : Ingress) (u : State) (c : Nat) (tn : Nat) (cls : Nat) (st : Option Nat) (green : Bool),
      cssKind x = false ∧ portReceives s x.port = true ∧ (64 ≤ x.frame.len ∨ portKind x.port = .can) ∧
      consumedAtPort x.port x.frame = false ∧ stage1 s x.port x.frame = none ∧ x.finds = [] ∧ x.phy = [] ∧
      classify s x.port x.frame none = .deny u c tn cls st green ∧ (green = false ∨ c = 5)) ∧
    (∃ (s : State) (x : Ingress) (u : State) (c : Nat) (tn : Nat) (cls : Nat) (st : Option Nat) (green : Bool),
      cssKind x = false ∧ portReceives s x.port = true ∧ (64 ≤ x.frame.len ∨ portKind x.port = .can) ∧
      consumedAtPort x.port x.frame = false ∧ stage1 s x.port x.frame = none ∧ x.finds = [] ∧ x.phy = [] ∧
      classify s x.port x.frame none = .deny u c tn cls st green ∧ green = true ∧ c ≠ 5) ∧
    (∃ (s : State) (p : Nat) (k : Nat) (h : Held), p < 80 ∧ portSends s p = true ∧ queueOf s p 7 = [k] ∧
      heldOf s k = some h ∧ h.refs = 1 ∧ h.stream = none ∧ h.txRef = none ∧ h.frame.etype = 0x88B5 ∧ h.ingress ≠ 100 ∧
      h.frame.len ≤ maxFrame s p ∧ fitsGate s p 7 h.frame.len = true ∧ ((∀ c j, c < 7 →
      (queueOf s p c).head? = some j → outLen s p j ≤ maxFrame s p))) ∧
    (∃ (s : State) (p : Nat), portSends s p = false) := by
  refine ⟨?_, ?_, ?_, ?_, ?_, ?_, ?_, ?_, ?_⟩
  · refine ⟨ready, (ing 4 63), ?_⟩ <;> and_intros <;> first | decide +kernel | rfl
  · refine ⟨ready, (ing 5 64), ?_⟩ <;> and_intros <;> first | decide +kernel | rfl
  · refine ⟨ready, { ing 4 64 with frame := { frame64 0x8808 with fcsOk := false } }, 9, ?_⟩ <;> and_intros <;>
        first | decide +kernel | rfl
  · refine ⟨ready, { ing 4 64 with frame := frame64 0x8808 }, ?_⟩ <;> and_intros <;> first | decide +kernel | rfl
  · refine ⟨withFdb, (ing 4 64), (passOf (classify withFdb 4 (ing 4 64).frame none)).1,
        (passOf (classify withFdb 4 (ing 4 64).frame none)).2, 16, ?_⟩ <;> and_intros <;>
        first | decide +kernel | rfl | (intro h h1 h2 h3; rw [egressFrame_congr _ _ h { held7 with frame := _, ingress := _, rcts := _ } h1 h2 h3]; decide +kernel)
  · refine ⟨ready, { ing 4 64 with frame := { frame64 0x0800 with gptpDomain := some 2 } }, ready, 4,
        (vlanOf ready 1).tenant, 0, none, false, ?_⟩ <;> and_intros <;> first | decide +kernel | rfl
  · refine ⟨withStream, rogueIn, (denyOf (classify withStream 0 rogueIn.frame none)).1,
        (denyOf (classify withStream 0 rogueIn.frame none)).2.1,
        (denyOf (classify withStream 0 rogueIn.frame none)).2.2.1,
        (denyOf (classify withStream 0 rogueIn.frame none)).2.2.2.1,
        (denyOf (classify withStream 0 rogueIn.frame none)).2.2.2.2.1,
        (denyOf (classify withStream 0 rogueIn.frame none)).2.2.2.2.2, ?_⟩ <;> and_intros <;>
        first | decide +kernel | exact deny_form _ (by decide +kernel) | rfl
  · refine ⟨withHeld, 0, 4, held7, ?_⟩ <;> and_intros <;>
        first | decide +kernel | (intro c j hc hj; simp [queueOf, withHeld, tget] at hj; split at hj <;> simp_all <;> omega)
  · refine ⟨ready, 5, ?_⟩ <;> and_intros <;> first | decide +kernel | rfl

/-- The hypotheses of `FabricEventsComplete`, clause by clause. -/
theorem wit_fabric_events_complete :
    (∃ (s : State) (p : Nat), s.tms.tsValid = true ∧ p < 96 ∧ ((bankIn s p (trtNs s)).isSome = true ∨
      (s.css.gates.any fun g => g.port == p) = true)) ∧
    (∃ (s : State) (mac : Mac) (fid : Nat) (e : FdbEntry), fdbFind s mac fid = some e ∧ e.isStatic = false) ∧
    (∃ (s : State), resaltDue s = true ∧ s.fab.fdb.resalt = .idle ∧ s.fab.fdb.entries.length ≤ 28672 ∧
      s.fab.fdb.lastResalt = none) ∧
    (∃ (s : State) (a : Nat), resaltDue s = true ∧ s.fab.fdb.resalt = .idle ∧ s.fab.fdb.entries.length ≤ 28672 ∧
      s.fab.fdb.lastResalt = some a ∧ s.mono < a + 60000000000) ∧
    (∃ (s : State) (f : Nat), (tget ({} : Recovery) s.fab.recovery f).takeAny = false) ∧
    (∃ (s : State) (f : Nat), (let r := tget ({} : Recovery) s.fab.recovery f; r.latentOn = true)) ∧
    (∃ (s : State) (k : Nat), k < 6 ∧ s.fab.prp.enabled.contains k = true) ∧
    (∃ (s : State) (mac : Mac) (n : PrpNode), s.fab.prp.nodes.find? (fun x => x.mac == mac) = some n) ∧
    (∃ (s : State), resaltDue s = true ∧ s.fab.fdb.resalt ≠ .idle) ∧
    (∃ (s : State), s.fab.fdb.resalt = .migrating ∧ oldWays (migrateAll s.fab.fdb) = []) := by
  refine ⟨?_, ?_, ?_, ?_, ?_, ?_, ?_, ?_, ?_, ?_⟩
  · refine ⟨(fabWith fun x => { x with sluices := [(95, { bank0 := some bank1 })] }), 95, ?_⟩ <;> and_intros <;>
        first | decide +kernel | rfl
  · refine ⟨withFdb, 9, 1, (⟨9, 1, .port 16, false, 0, 0, false, false, 0⟩), ?_⟩ <;> and_intros <;>
        first | decide +kernel | rfl
  · refine ⟨(fabWith fun x => { x with fdb := { x.fdb with failTimes := List.replicate 64 0 } }),
        ?_⟩ <;> and_intros <;> first | decide +kernel | rfl
  · refine ⟨(fabWith fun x => { x with fdb := { x.fdb with failTimes := List.replicate 64 0, lastResalt := some 0 } }),
        0, ?_⟩ <;> and_intros <;> first | decide +kernel | rfl
  · refine ⟨(fabWith fun x => { x with recovery := [(0, { takeAny := false })] }), 0, ?_⟩ <;> and_intros <;>
        first | decide +kernel | rfl
  · refine ⟨(fabWith fun x => { x with recovery := [(0, { latentOn := true })] }), 0, ?_⟩ <;> and_intros <;>
        first | decide +kernel | rfl
  · refine ⟨(fabWith fun x => { x with prp := { x.prp with enabled := [5] } }), 5, ?_⟩ <;> and_intros <;>
        first | decide +kernel | rfl
  · refine ⟨(fabWith fun x => { x with prp := { x.prp with nodes := [⟨9, 1, 0, 0, 0⟩] } }), 9, (⟨9, 1, 0, 0, 0⟩),
        ?_⟩ <;> and_intros <;> first | decide +kernel | rfl
  · refine ⟨(fabWith fun x => { x with fdb := { x.fdb with failTimes := List.replicate 64 0, resalt := .migrating } }),
        ?_⟩ <;> and_intros <;> first | decide +kernel | rfl
  · refine ⟨(fabWith fun x => { x with fdb := { x.fdb with resalt := .migrating } }), ?_⟩ <;> and_intros <;>
        first | decide +kernel | rfl

/-- The hypotheses of `FabricCommandsComplete`, clause by clause. -/
theorem wit_fabric_commands_complete :
    (∃ (h : Hcp) (s : State) (recs : List Param) (c : BrineCfg),
      (let cmd := fun (op : Nat) => ({ opcode := op, classC := true, owner := true } : Cmd); accepts (cmd 0x0401) h s = true ∧
      s.css.state = .stopped ∧ (s.fab.streams.any fun e => e.2.isSome) = false ∧
      recs.findIdx? (recReserved s) = none ∧ applyRecs s (brineRec s) 0 s.fab.brine recs = .ok c ∧
      ((List.range 101).any fun q => decide (guardOf c q < cellsOf (maxFrame s q)) && !(decide (88 ≤ q) && decide (q ≤ 93))) = false ∧
      ((List.range 101).map (guardOf c)).sum + c.tc7 + c.tc6 + c.pool ≤ 65536 ∧ poolUsed s ≤ c.pool)) ∧
    (∃ (h : Hcp) (s : State) (recs : List Param) (i : Nat),
      (let cmd := fun (op : Nat) => ({ opcode := op, classC := true, owner := true } : Cmd); accepts (cmd 0x0401) h s = true ∧
      recs.findIdx? (recReserved s) = some i)) ∧
    (∃ (h : Hcp) (s : State) (recs : List Param) (c : ClassCfg),
      (let cmd := fun (op : Nat) => ({ opcode := op, classC := true, owner := true } : Cmd); accepts (cmd 0x0402) h s = true ∧
      applyRecs s classRec 0 s.fab.cls recs = .ok c)) ∧
    (∃ (h : Hcp) (s : State) (p : Nat) (b : Nat) (k : SluiceBank),
      (let cmd := fun (op : Nat) => ({ opcode := op, classC := true, owner := true } : Cmd); accepts (cmd 0x0403) h s = true ∧
      p < 96 ∧ b < 2 ∧ bankOk s k = true ∧ bankPending s p b = false ∧
      (tget ({} : Sluice) s.fab.sluices p).active ≠ b ∧ streamsHold s p (some (b, k)) = true)) ∧
    (∃ (h : Hcp) (s : State) (recs : List Param) (f : Fabric),
      (let cmd := fun (op : Nat) => ({ opcode := op, classC := true, owner := true } : Cmd); accepts (cmd 0x0404) h s = true ∧
      applyRecs s (tagRec s) 0 s.fab recs = .ok f)) ∧
    (∃ (h : Hcp) (s : State) (recs : List Param) (e : NatSet),
      accepts { opcode := 0x0405, classC := true, owner := true, features := [7] } h s = true ∧
      applyRecs s prpRec 0 s.fab.prp.enabled recs = .ok e) ∧
    (∃ (h : Hcp) (s : State) (f : Nat), accepts { opcode := 0x0406, features := [6] } h s = true ∧ f < 4096) ∧
    (∃ (h : Hcp) (s : State) (mac : Mac) (fid : Nat) (d : FdbDest),
      (let cmd := fun (op : Nat) => ({ opcode := op, classC := true, owner := true } : Cmd); accepts (cmd 0x0407) h s = true ∧
      fid < 4096 ∧ (match d with | .port p => !portReserved s p | .mask i => decide (i < 1024)) = true ∧
      (bucketCount s.fab.fdb (bucketOf (placingSalt s.fab.fdb) mac fid) < 4 ∨ camCount s.fab.fdb < 256))) ∧
    (∃ (h : Hcp) (s : State),
      (let cmd := fun (op : Nat) => ({ opcode := op, classC := true, owner := true } : Cmd); accepts (cmd 0x0408) h s = true)) ∧
    (∃ (h : Hcp) (s : State) (sel : FlushSel),
      (let cmd := fun (op : Nat) => ({ opcode := op, classC := true, owner := true } : Cmd); accepts (cmd 0x0409) h s = true ∧
      ((∀ p, sel = .byPort p → portReserved s p = false)))) ∧
    (∃ (h : Hcp) (s : State),
      (let cmd := fun (op : Nat) => ({ opcode := op, classC := true, owner := true } : Cmd); accepts (cmd 0x040A) h s = true ∧
      s.fab.fdb.resalt = .idle)) ∧
    (∃ (h : Hcp) (s : State) (k : Nat) (f : WatchFilter), accepts { opcode := 0x040B } h s = true ∧ k < 16 ∧
      f.port.any (portReserved s) = false) ∧
    (∃ (h : Hcp) (s : State) (u : Nat), accepts { opcode := 0x040C } h s = true ∧ u < 256 ∧ ((h.tenant = 0 ∨
      u = h.tenant))) ∧
    (∃ (h : Hcp) (s : State), accepts { opcode := 0x040C } h s = true ∧ h.tenant ≠ 0) ∧
    (∃ (h : Hcp) (s : State), accepts { opcode := 0x040C } h s = true ∧ h.tenant = 0) ∧
    (∃ (h : Hcp) (s : State) (p : Nat), accepts { opcode := 0x040C } h s = true ∧ h.tenant = 0 ∧
      portReserved s p = false) ∧
    (∃ (h : Hcp) (s : State) (k : Nat) (w : Watch), accepts { opcode := 0x040C } h s = true ∧
      tget none s.fab.bit.watches k = some w ∧ (h.tenant = 0 ∨ w.owner = h.tenant)) := by
  refine ⟨?_, ?_, ?_, ?_, ?_, ?_, ?_, ?_, ?_, ?_, ?_, ?_, ?_, ?_, ?_, ?_, ?_⟩
  · refine ⟨hcp0, ready, [], ready.fab.brine, ?_⟩ <;> and_intros <;> first | decide +kernel | rfl
  · refine ⟨hcp0, ready, [⟨0, 101, 255, .num 0⟩], 0, ?_⟩ <;> and_intros <;> first | decide +kernel | rfl
  · refine ⟨hcp0, ready, [], ready.fab.cls, ?_⟩ <;> and_intros <;> first | decide +kernel | rfl
  · refine ⟨hcp0, ready, 95, 1, bank1, ?_⟩ <;> and_intros <;> first | decide +kernel | rfl
  · refine ⟨hcp0, ready, [], ready.fab, ?_⟩ <;> and_intros <;> first | decide +kernel | rfl
  · refine ⟨hcp0, ready, [], default, ?_⟩ <;> and_intros <;> first | decide +kernel | rfl
  · refine ⟨hcp0, ready, 0, ?_⟩ <;> and_intros <;> first | decide +kernel | rfl
  · refine ⟨hcp0, ready, default, 0, (.port 16), ?_⟩ <;> and_intros <;> first | decide +kernel | rfl
  · refine ⟨hcp0, ready, ?_⟩ <;> and_intros <;> first | decide +kernel | rfl
  · refine ⟨hcp0, ready, .all, ?_⟩ <;> and_intros <;>
        first | decide +kernel | (intro p h; cases h)
  · refine ⟨hcp0, ready, ?_⟩ <;> and_intros <;> first | decide +kernel | rfl
  · refine ⟨hcp0, ready, 0, (⟨none, none, none⟩), ?_⟩ <;> and_intros <;> first | decide +kernel | rfl
  · refine ⟨hcp0, ready, 0, ?_⟩ <;> and_intros <;> first | decide +kernel | rfl
  · refine ⟨hcp1, ready, ?_⟩ <;> and_intros <;> first | decide +kernel | rfl
  · refine ⟨hcp0, ready, ?_⟩ <;> and_intros <;> first | decide +kernel | rfl
  · refine ⟨hcp0, ready, 0, ?_⟩ <;> and_intros <;> first | decide +kernel | rfl
  · refine ⟨hcp0,
        (fabWith fun x => { x with bit := { x.bit with watches := [(3, some ⟨⟨none, none, none⟩, 0, 1, 1⟩)] } }), 3,
        (⟨⟨none, none, none⟩, 0, 1, 1⟩), ?_⟩ <;> and_intros <;> first | decide +kernel | rfl

/-- The hypotheses of `StreamsAreInstalledInTwoPhases`, clause by clause. -/
theorem wit_streams_are_installed_in_two_phases :
    (∃ (h : Hcp) (s : State) (r : StreamReq) (a : AliasEntry) (q : Nat) (last : PathHop) (bb : List PathHop × List PathHop),
      accepts { opcode := 0x0501, classC := true, features := [5] } h s = true ∧
      portReserved s r.ingressPort = false ∧ hasRight s h.tenant 2 = true ∧ ((r.ingressPort = 96 ∨
      hasPort s h.tenant r.ingressPort = true)) ∧ reqOk r = true ∧ inaugurating s = false ∧
      aliasLookup s r.destTfa = some a ∧ destPosition s a = some q ∧ (lastHop s q a).1 = some last ∧
      pathsOf s r q = some bb ∧ max bb.1.length bb.2.length < 63) ∧
    (∃ (h : Hcp) (s : State) (r : StreamReq) (a : AliasEntry) (last : PathHop) (x : Hold),
      accepts { opcode := 0x0501, classC := true, features := [5] } h s = true ∧
      portReserved s r.ingressPort = false ∧ hasRight s h.tenant 2 = true ∧ ((r.ingressPort = 96 ∨
      hasPort s h.tenant r.ingressPort = true)) ∧ reqOk r = true ∧ inaugurating s = false ∧
      aliasLookup s r.destTfa = some a ∧ destPosition s a = some s.ine.position ∧
      lastHop s s.ine.position a = (some last, s) ∧ r.frer = false ∧ last.position = s.ine.position ∧
      (let o : OriginStream := { streamId := freshId s, txn := s.adm.nextTxn, req := r, owner := h.tenant, hcp := some h, state := .preparing, path := [last], pathB := [], dHops := [], linkDelay := 0, linkDelayB := 0, sum := 0, at_ := s.mono, tAct := 0, confirmed := [], down := [], suspendedAt := 0 }; (s.adm.streams.all fun y => y.streamId != o.streamId) = true ∧
      (s.adm.holds.any fun y => sameAttempt y.name (lineName s o r.lineB)) = false ∧
      hopTry s (prepareOf s o a r.lineB) 1 last.port r.ingressPort = .ok x ∧ x.dHop ≤ r.bound)) ∧
    (∃ (s : State), s.adm.streams.length < 65535) ∧
    (∃ (s : State) (p : Nat) (m : Prepare) (i : Nat) (g : PathHop) (x : Hold), channelUp s p = true ∧
      s.fw.phase = .ready ∧ m.name.origin ≠ s.otp.unitId ∧ ownHops s m = [(i, g)] ∧ hopTry s m i g.port p = .ok x) ∧
    (∃ (s : State) (p : Nat) (m : Prepare) (i : Nat) (g : PathHop) (f : FailRec), channelUp s p = true ∧
      s.fw.phase = .ready ∧ m.name.origin ≠ s.otp.unitId ∧ ownHops s m = [(i, g)] ∧
      hopTry s m i g.port p = .error f) ∧
    (∃ (s : State) (p : Nat), channelUp s p = false ∧ linkIsUp s p = true) ∧
    (∃ (s : State) (r : Reply), r.name.origin ≠ s.otp.unitId ∧ (s.adm.refusals.find? fun e => e.1 == r.name) = none) ∧
    (∃ (s : State) (r : Reply) (o : OriginStream) (f : FailRec), r.name.origin = s.otp.unitId ∧
      originOf s r.name.streamId = some o ∧ o.state = .preparing ∧ o.txn = r.name.txn ∧ r.fail = some f) ∧
    (∃ (s : State) (r : Reply) (o : OriginStream) (f : FailRec) (y : Hold), r.name.origin = s.otp.unitId ∧
      originOf s r.name.streamId = some o ∧ o.state = .preparing ∧ o.txn = r.name.txn ∧ r.fail = some f ∧
      y ∈ (refuseStream (mgpTakes s (.reply r)) o f none).adm.holds) ∧
    (∃ (s : State) (r : Reply) (o : OriginStream), r.name.origin = s.otp.unitId ∧
      originOf s r.name.streamId = some o ∧ o.state = .preparing ∧ o.txn = r.name.txn ∧ r.fail = none) ∧
    (∃ (s : State) (p : Nat), channelUp s p = true) ∧
    (∃ (s : State) (n : StreamName) (h : Hold) (a : Nat),
      (s.adm.holds.filter fun x => sameAttempt x.name n && x.installAt.isSome) = [h] ∧ h.installAt = some a) ∧
    (∃ (s : State) (n : StreamName) (h : Hold) (a : Nat),
      (s.adm.holds.filter fun x => sameAttempt x.name n && x.installAt.isSome) = [h] ∧ h.installAt = some a ∧
      h.name.origin ≠ s.otp.unitId ∧ tget none s.fab.streams (freeStream s.fab.streams) = none) ∧
    (∃ (s : State) (n : StreamName) (h : Hold) (a : Nat) (j : Nat),
      (s.adm.holds.filter fun x => sameAttempt x.name n && x.installAt.isSome) = [h] ∧ h.installAt = some a ∧
      h.name.origin ≠ s.otp.unitId ∧ tget none s.fab.streams (freeStream s.fab.streams) = none ∧
      j ≠ freeStream s.fab.streams) ∧
    (∃ (s : State) (n : StreamName) (o : OriginStream) (c : Hcp) (g : PathHop), n.origin = s.otp.unitId ∧
      originOf s n.streamId = some o ∧ o.state = .installing ∧ o.path = [g] ∧ o.pathB = [] ∧ o.req.frer = false ∧
      o.hcp = some c ∧ ((o.down = [] ∨ o.down = [g]))) ∧
    (∃ (s : State) (n : StreamName), n.origin ≠ s.otp.unitId) ∧
    (∃ (s : State) (k : Nat) (x : Stream), tget none s.fab.streams k = some x) ∧
    (∃ (s : State) (p : Nat) (m : Prepare) (i : Nat) (g : PathHop) (x : Hold), channelUp s p = true ∧
      s.fw.phase = .ready ∧ m.name.origin ≠ s.otp.unitId ∧ ownHops s m = [(i, g)] ∧ hopTry s m i g.port p = .ok x ∧
      (m.hops.getLast?.map PathHop.position) = some s.ine.position) := by
  refine ⟨?_, ?_, ?_, ?_, ?_, ?_, ?_, ?_, ?_, ?_, ?_, ?_, ?_, ?_, ?_, ?_, ?_, ?_⟩
  · refine ⟨hcp0, withAlias, req1, alias2, withAlias.ine.position, (⟨withAlias.ine.position, 16⟩), ([], []),
        ?_⟩ <;> and_intros <;> first | decide +kernel | rfl
  · refine ⟨hcp0, withAlias, req1, alias2, (⟨withAlias.ine.position, 16⟩),
        (holdOf (hopTry withAlias (prepareOf withAlias { origin1 .preparing with path := [⟨withAlias.ine.position, 16⟩] } alias2 false) 1 16 96)),
        ?_⟩ <;> and_intros <;>
        first | decide +kernel | rfl
  · refine ⟨ready, ?_⟩ <;> and_intros <;> first | decide +kernel | rfl
  · refine ⟨ready, 0, prep1, 1, (⟨ready.ine.position, 16⟩), (holdOf (hopTry ready prep1 1 16 0)),
        ?_⟩ <;> and_intros <;> first | decide +kernel | rfl
  · refine ⟨(fabWith fun x => { x with admitted := false }), 0, prep1, 1, (⟨ready.ine.position, 16⟩),
        (failOf (hopTry (fabWith fun x => { x with admitted := false }) prep1 1 16 0)), ?_⟩ <;> and_intros <;>
        first | decide +kernel | rfl
  · refine ⟨ready, 3, ?_⟩ <;> and_intros <;> first | decide +kernel | rfl
  · refine ⟨ready, (⟨⟨5, 1, 1, false⟩, none, []⟩), ?_⟩ <;> and_intros <;> first | decide +kernel | rfl
  · refine ⟨(admWith fun x => { x with streams := [origin1 .preparing], holds := [hold1 1 none, hold1 7 none] }),
        (⟨⟨1, 1, 1, false⟩, some fail1, []⟩), (origin1 .preparing), fail1, ?_⟩ <;> and_intros <;>
        first | decide +kernel | rfl
  · refine ⟨(admWith fun x => { x with streams := [origin1 .preparing], holds := [hold1 1 none, hold1 7 none] }),
        (⟨⟨1, 1, 1, false⟩, some fail1, []⟩), (origin1 .preparing), fail1, (hold1 7 none), ?_⟩ <;> and_intros <;>
        first | decide +kernel | rfl
  · refine ⟨(withOrigin .preparing), (⟨⟨1, 1, 1, false⟩, none, []⟩), (origin1 .preparing), ?_⟩ <;> and_intros <;>
        first | decide +kernel | rfl
  · refine ⟨ready, 0, ?_⟩ <;> and_intros <;> first | decide +kernel | rfl
  · refine ⟨(admWith fun x => { x with holds := [hold1 5 (some 4)] }), (⟨5, 1, 1, false⟩), (hold1 5 (some 4)), 4,
        ?_⟩ <;> and_intros <;> first | decide +kernel | rfl
  · refine ⟨(admWith fun x => { x with holds := [hold1 5 (some 4)] }), (⟨5, 1, 1, false⟩), (hold1 5 (some 4)), 4,
        ?_⟩ <;> and_intros <;> first | decide +kernel | rfl
  · refine ⟨(admWith fun x => { x with holds := [hold1 5 (some 4)] }), (⟨5, 1, 1, false⟩), (hold1 5 (some 4)), 4, 7,
        ?_⟩ <;> and_intros <;> first | decide +kernel | rfl
  · refine ⟨(withOrigin .installing), (⟨1, 1, 1, false⟩), (origin1 .installing), hcp0, (⟨ready.ine.position, 16⟩),
        ?_⟩ <;> and_intros <;> first | decide +kernel | rfl
  · refine ⟨(admWith fun x => { x with holds := [hold1 5 (some 4)] }), (⟨5, 1, 1, false⟩), ?_⟩ <;> and_intros <;>
        first | decide +kernel | rfl
  · refine ⟨withStream, 3, stream1, ?_⟩ <;> and_intros <;> first | decide +kernel | rfl
  · refine ⟨ready, 0, prep1, 1, (⟨ready.ine.position, 16⟩), (holdOf (hopTry ready prep1 1 16 0)),
        ?_⟩ <;> and_intros <;> first | decide +kernel | rfl

/-- The hypotheses of `StreamsEndAndAreRead`, clause by clause. -/
theorem wit_streams_end_and_are_read :
    (∃ (s : State) (i : Nat) (o : OriginStream), originOf s i = some o ∧ o.state = .preparing) ∧
    (∃ (s : State) (i : Nat) (o : OriginStream), originOf s i = some o ∧ o.state = .installing) ∧
    (∃ (s : State) (n : StreamName), n.origin ≠ s.otp.unitId) ∧
    (∃ (s : State) (n : StreamName) (h : Hold), (holdsOf s n).find? (fun h => h.installAt.isNone) = some h) ∧
    (∃ (s : State) (n : Notice) (o : OriginStream), n.name.origin = s.otp.unitId ∧
      originOf s n.name.streamId = some o) ∧
    (∃ (s : State) (n : StreamName) (o : OriginStream) (k : Nat) (g : PathHop), n.origin = s.otp.unitId ∧
      originOf s n.streamId = some o ∧ hopAt o (keyOf o n k) = some g ∧ o.state = .active ∧ o.down = []) ∧
    (∃ (s : State) (n : StreamName) (o : OriginStream) (k : Nat) (g : PathHop), n.origin = s.otp.unitId ∧
      originOf s n.streamId = some o ∧ hopAt o (keyOf o n k) = some g ∧ o.state = .installing ∧ o.down = []) ∧
    (∃ (s : State) (n : StreamName) (o : OriginStream) (k : Nat) (g : PathHop), n.origin = s.otp.unitId ∧
      originOf s n.streamId = some o ∧ hopAt o (keyOf o n k) = some g ∧ o.state = .suspended ∧ o.down = [g]) ∧
    (∃ (s : State) (n : StreamName) (o : OriginStream) (k : Nat) (g : PathHop), n.origin = s.otp.unitId ∧
      originOf s n.streamId = some o ∧ hopAt o (keyOf o n k) = some g ∧ (o.state = .active ∨ o.state = .suspended)) ∧
    (∃ (s : State) (i : Nat) (o : OriginStream), originOf s i = some o ∧ o.state = .suspended) ∧
    (∃ (h : Hcp) (s : State) (i : Nat) (o : OriginStream),
      accepts { opcode := 0x0502, classC := true, features := [5] } h s = true ∧ originOf s i = some o ∧
      ((h.tenant = 0 ∨ h.tenant = o.owner)) ∧ ((o.state = .active ∨ o.state = .suspended))) ∧
    (∃ (h : Hcp) (s : State) (i : Nat) (o : OriginStream), accepts { opcode := 0x0503, features := [5] } h s = true ∧
      originOf s i = some o ∧ ((h.tenant = 0 ∨ h.tenant = o.owner))) ∧
    (∃ (h : Hcp) (s : State) (recs : List Param) (a : Admission),
      accepts { opcode := 0x0504, classC := true, owner := true, features := [5] } h s = true ∧
      applyRecs s admRec 0 s.adm recs = .ok a ∧ ((recs.all fun p => p.key != 1) = true ∨
      capFits { s with adm := a } a.cap = true)) ∧
    (∃ (s : State) (n : StreamName) (o : OriginStream), n.origin = s.otp.unitId ∧ originOf s n.streamId = some o ∧
      (o.state = .active ∨ o.state = .suspended)) ∧
    (∃ (h : Hcp) (s : State) (g : UnitId) (i : Nat),
      accepts { opcode := 0x0502, classC := true, features := [5] } h s = true ∧ g ≠ s.otp.unitId ∧
      ownsRemote h.tenant g i = true) ∧
    (∃ (h : Hcp) (s : State) (g : UnitId) (i : Nat), accepts { opcode := 0x0503, features := [5] } h s = true ∧
      g ≠ s.otp.unitId ∧ ownsRemote h.tenant g i = true) := by
  refine ⟨?_, ?_, ?_, ?_, ?_, ?_, ?_, ?_, ?_, ?_, ?_, ?_, ?_, ?_, ?_, ?_⟩
  · refine ⟨(withOrigin .preparing), 1, (origin1 .preparing), ?_⟩ <;> and_intros <;> first | decide +kernel | rfl
  · refine ⟨(withOrigin .installing), 1, (origin1 .installing), ?_⟩ <;> and_intros <;> first | decide +kernel | rfl
  · refine ⟨(withOrigin .preparing), (⟨5, 1, 1, false⟩), ?_⟩ <;> and_intros <;> first | decide +kernel | rfl
  · refine ⟨(withOrigin .preparing), (⟨1, 1, 1, false⟩), (hold1 1 none), ?_⟩ <;> and_intros <;>
        first | decide +kernel | rfl
  · refine ⟨(withOrigin .preparing), (⟨⟨1, 1, 1, false⟩, 1, 16, 1, 0, 0, 1, 2⟩), (origin1 .preparing),
        ?_⟩ <;> and_intros <;> first | decide +kernel | rfl
  · refine ⟨(withOrigin .active), (⟨1, 1, 1, false⟩), (origin1 .active), 1, (⟨ready.ine.position, 16⟩),
        ?_⟩ <;> and_intros <;> first | decide +kernel | rfl
  · refine ⟨(withOrigin .installing), (⟨ready.otp.unitId, 1, 1, false⟩), (origin1 .installing), 1,
        (⟨ready.ine.position, 16⟩), ?_⟩ <;> and_intros <;> first | decide +kernel | rfl
  · refine ⟨(admWith fun x => { x with streams := [{ origin1 .suspended with down := [⟨ready.ine.position, 16⟩] }] }),
        (⟨1, 1, 1, false⟩), { origin1 .suspended with down := [⟨ready.ine.position, 16⟩] }, 1,
        (⟨ready.ine.position, 16⟩), ?_⟩ <;> and_intros <;> first | decide +kernel | rfl
  · refine ⟨(withOrigin .active), (⟨1, 1, 1, false⟩), (origin1 .active), 1, (⟨ready.ine.position, 16⟩),
        ?_⟩ <;> and_intros <;> first | decide +kernel | rfl
  · refine ⟨(withOrigin .suspended), 1, (origin1 .suspended), ?_⟩ <;> and_intros <;> first | decide +kernel | rfl
  · refine ⟨hcp0, (withOrigin .suspended), 1, (origin1 .suspended), ?_⟩ <;> and_intros <;> first | decide +kernel | rfl
  · refine ⟨hcp0, (withOrigin .preparing), 1, (origin1 .preparing), ?_⟩ <;> and_intros <;> first | decide +kernel | rfl
  · refine ⟨hcp0, ready, [], ready.adm, ?_⟩ <;> and_intros <;> first | decide +kernel | rfl
  · refine ⟨(withOrigin .active), (⟨1, 1, 1, false⟩), (origin1 .active), ?_⟩ <;> and_intros <;>
        first | decide +kernel | rfl
  · refine ⟨hcp0, (withOrigin .preparing), 5, 1, ?_⟩ <;> and_intros <;> first | decide +kernel | rfl
  · refine ⟨hcp0, (withOrigin .preparing), 5, 1, ?_⟩ <;> and_intros <;> first | decide +kernel | rfl

/-- The hypotheses of `LinksFollowTheirPorts`, clause by clause. -/
theorem wit_links_follow_their_ports :
    (∃ (s : State) (p : Nat) (n : Nat) (d : Bool), ((portKind p = .bb ∨ portKind p = .wl ∨ portKind p = .tw)) ∧
      (linkRec s p).up = false ∧ (portCfg s p).enabled = true ∧ portsHeld s = false ∧ bbHeld s p = false ∧
      (portCfg s p).holdoff * 1000000 ≤ n ∧ ((negotiates s p = false ∨ d = true)) ∧ ((portKind p = .bb →
      s.ine.twin.state ≠ .standby))) ∧
    (∃ (s : State) (p : Nat) (n : Nat), ((portKind p = .bb ∨ portKind p = .wl ∨ portKind p = .tw)) ∧
      (linkRec s p).up = false ∧ (portCfg s p).enabled = true ∧ bbHeld s p = false ∧
      (portCfg s p).holdoff * 1000000 ≤ n ∧ negotiates s p = true) ∧
    (∃ (s : State) (p : Nat) (n : Nat), (((linkRec s p).up = true ∨ (portCfg s p).enabled = false ∨
      bbHeld s p = true ∨ n < (portCfg s p).holdoff * 1000000))) ∧
    (∃ (s : State) (p : Nat), ((portKind p = .bb ∨ portKind p = .wl ∨ portKind p = .tw)) ∧ (linkRec s p).up = true) ∧
    (∃ (s : State) (p : Nat), ((portKind p = .bb ∨ portKind p = .wl ∨ portKind p = .tw)) ∧ (linkRec s p).up = false) ∧
    (∃ (p : Nat), (¬ (portKind p = .bb ∨ portKind p = .wl ∨ portKind p = .tw))) ∧
    (∃ (s : State) (p : Nat), portKind p = .cp ∧ (portCfg s p).enabled = true ∧ (linkRec s p).up = false ∧
      portsHeld s = false) ∧
    (∃ (s : State) (p : Nat), portKind p = .cp ∧ (portCfg s p).enabled = true) ∧
    (∃ (l : Nat), l < 3) ∧
    (∃ (h : Hcp) (s : State) (recs : List Param) (u : State),
      accepts { opcode := 0x0601, classC := true, owner := true } h s = true ∧
      applyChecked portRec 0 s recs = .ok u) ∧
    (∃ (h : Hcp) (s : State) (r : Param), accepts { opcode := 0x0601, classC := true, owner := true } h s = true ∧
      r.key = 1 ∧ r.port < 96 ∧ portKind r.port ≠ .reserved ∧ recFlag r 0 = some false ∧
      (portCfg s r.port).enabled = true) := by
  refine ⟨?_, ?_, ?_, ?_, ?_, ?_, ?_, ?_, ?_, ?_, ?_⟩
  · refine ⟨(withLink 95 { up := false }), 95, 1000000, false, ?_⟩ <;> and_intros <;> first | decide +kernel | rfl
  · refine ⟨(portsWith fun y => { y with cfg := [(94, { enabled := true, speed := some 3 })], links := [(94, {})] }),
        94, 1000000, ?_⟩ <;> and_intros <;> first | decide +kernel | rfl
  · refine ⟨ready, 0, 0, ?_⟩ <;> and_intros <;> first | decide +kernel | rfl
  · refine ⟨ready, 0, ?_⟩ <;> and_intros <;> first | decide +kernel | rfl
  · refine ⟨(withLink 95 { up := false }), 95, ?_⟩ <;> and_intros <;> first | decide +kernel | rfl
  · refine ⟨4, ?_⟩ <;> and_intros <;> first | decide +kernel | rfl
  · refine ⟨(withLink 15 { up := false }), 15, ?_⟩ <;> and_intros <;> first | decide +kernel | rfl
  · refine ⟨ready, 4, ?_⟩ <;> and_intros <;> first | decide +kernel | rfl
  · refine ⟨2, ?_⟩ <;> and_intros <;> first | decide +kernel | rfl
  · refine ⟨hcp0, ready, [], ready, ?_⟩ <;> and_intros <;> first | decide +kernel | rfl
  · refine ⟨hcp0, ready, (⟨1, 16, 255, .enum 1⟩), ?_⟩ <;> and_intros <;> first | decide +kernel | rfl

/-- The hypotheses of `PauseHaltsAndIsReleased`, clause by clause. -/
theorem wit_pause_halts_and_is_released :
    (∃ (s : State) (p : Nat) (n : Nat), (linkRec s p).up = true ∧ pausesOn s p = true ∧
      (linkRec s p).ignoring = false ∧ n ≠ 0 ∧ haltedNow s p = false) ∧
    (∃ (s : State) (p : Nat), (linkRec s p).up = true ∧ pausesOn s p = true) ∧
    (∃ (s : State) (p : Nat), (linkRec s p).up = true ∧ pausesOn s p = false) ∧
    (∃ (s : State) (p : Nat) (u : Nat), (linkRec s p).haltUntil = some u) ∧
    (∃ (s : State) (p : Nat) (u : Nat), (linkRec s p).haltUntil = some u ∧
      (linkRec s p).haltSince + (portCfg s p).pauseLimit * 1000000 ≤ u) ∧
    (∃ (s : State) (p : Nat), (linkRec s p).ignoring = true) := by
  refine ⟨?_, ?_, ?_, ?_, ?_, ?_⟩
  · refine ⟨(withLink 15 { up := true }), 15, 65535, ?_⟩ <;> and_intros <;> first | decide +kernel | rfl
  · refine ⟨(withLink 15 { up := true }), 15, ?_⟩ <;> and_intros <;> first | decide +kernel | rfl
  · refine ⟨ready, 0, ?_⟩ <;> and_intros <;> first | decide +kernel | rfl
  · refine ⟨(withLink 15 { up := true, haltUntil := some 4 }), 15, 4, ?_⟩ <;> and_intros <;>
        first | decide +kernel | rfl
  · refine ⟨(withLink 15 { up := true, haltUntil := some (10 ^ 12) }), 15, (10 ^ 12), ?_⟩ <;> and_intros <;>
        first | decide +kernel | rfl
  · refine ⟨(withLink 15 { up := true, ignoring := true }), 15, ?_⟩ <;> and_intros <;> first | decide +kernel | rfl

/-- The hypotheses of `SegmentsTakeTheirStates`, clause by clause. -/
theorem wit_segments_take_their_states :
    (∃ (h : Hcp) (s : State) (recs : List Param) (u : State),
      accepts { opcode := 0x0602, classC := true, owner := true } h s = true ∧ applyChecked segRec 0 s recs = .ok u) ∧
    (∃ (s : State) (r : Param), portKind r.port = .sg ∧ (segOf s (r.port - 16)).state = .normal) ∧
    (∃ (s : State) (r : Param) (v : Nat), portKind r.port = .sg ∧ (segOf s (r.port - 16)).state ≠ .normal ∧
      r.key = 1 ∧ recNat r 2 8 = some v) ∧
    (∃ (h : Hcp) (s : State) (g : Nat) (st : SegState), accepts { opcode := 0x0603, classC := true } h s = true ∧
      g < 64 ∧ hasRight s h.tenant 3 = true ∧ hasPort s h.tenant (16 + g) = true ∧ (segOf s g).state = st) ∧
    (∃ (h : Hcp) (s : State) (g : Nat) (st : SegState), accepts { opcode := 0x0603, classC := true } h s = true ∧
      g < 64 ∧ hasRight s h.tenant 3 = true ∧ hasPort s h.tenant (16 + g) = true ∧ (segOf s g).state ≠ st ∧
      st ≠ .sleep ∧ (segOf s g).state ≠ .sleep) ∧
    (∃ (h : Hcp) (s : State) (g : Nat), accepts { opcode := 0x0603, classC := true } h s = true ∧ g < 64 ∧
      hasRight s h.tenant 3 = true ∧ hasPort s h.tenant (16 + g) = true ∧ (segOf s g).state ≠ .sleep) ∧
    (∃ (h : Hcp) (s : State) (g : Nat) (st : SegState), accepts { opcode := 0x0603, classC := true } h s = true ∧
      g < 64 ∧ hasRight s h.tenant 3 = true ∧ hasPort s h.tenant (16 + g) = true ∧ (segOf s g).state = .sleep ∧
      st ≠ .sleep) ∧
    (∃ (g : Nat) (j : Nat), j ≠ g) ∧
    (∃ (s : State) (g : Nat) (i : Nat) (h : Hcp) (r : List (Nat × Hcp)), segSleeps s g = (i, h) :: r ∧
      s.mono ≤ i + 100000000 ∧ segBursts s g = false) ∧
    (∃ (s : State) (g : Nat), segSleeps s g = []) ∧
    (∃ (s : State) (g : Nat) (i : Nat) (h : Hcp) (r : List (Nat × Hcp)), segSleeps s g = (i, h) :: r) ∧
    (∃ (s : State) (g : Nat) (st : SegState) (h : Hcp), (segOf s g).state = .sleep ∧
      (segOf s g).pending = [.powerUp st h]) ∧
    (∃ (s : State) (g : Nat) (h : Hcp), (segOf s g).state = .sleep ∧ (segOf s g).pending = [.powerUpWake h] ∧
      portsHeld s = false) ∧
    (∃ (h : Hcp) (s : State) (g : Nat), accepts { opcode := 0x0604 } h s = true ∧ g < 64 ∧
      hasRight s h.tenant 3 = true ∧ hasPort s h.tenant (16 + g) = true ∧ portsHeld s = false ∧
      (segOf s g).state ≠ .sleep) ∧
    (∃ (h : Hcp) (s : State) (g : Nat), accepts { opcode := 0x0604 } h s = true ∧ g < 64 ∧
      hasRight s h.tenant 3 = true ∧ hasPort s h.tenant (16 + g) = true ∧ portsHeld s = false ∧
      (segOf s g).state = .sleep) ∧
    (∃ (h : Hcp) (s : State) (g : Nat), accepts { opcode := 0x0604 } h s = true ∧ g < 64 ∧
      hasRight s h.tenant 3 = true ∧ hasPort s h.tenant (16 + g) = true ∧ portsHeld s = true) ∧
    (∃ (s : State) (g : Nat) (i : Nat) (a : SegState) (h : Hcp), (segOf s g).pending = [.burst i a h]) ∧
    (∃ (s : State) (g : Nat) (p : SegPulse), (segOf s g).state = .standby ∧ wakeRule p = true ∧
      (segOf s g).autoWake = false) ∧
    (∃ (s : State) (g : Nat) (p : SegPulse), (segOf s g).state = .standby ∧ wakeRule p = true ∧
      (segOf s g).autoWake = true) ∧
    (∃ (s : State) (g : Nat) (p : SegPulse), (((segOf s g).state ≠ .standby ∨ wakeRule p = false))) := by
  refine ⟨?_, ?_, ?_, ?_, ?_, ?_, ?_, ?_, ?_, ?_, ?_, ?_, ?_, ?_, ?_, ?_, ?_, ?_, ?_, ?_⟩
  · refine ⟨hcp0, ready, [], ready, ?_⟩ <;> and_intros <;> first | decide +kernel | rfl
  · refine ⟨(withSeg { state := .normal }), (⟨1, 16, 255, .num 8⟩), ?_⟩ <;> and_intros <;> first | decide +kernel | rfl
  · refine ⟨ready, (⟨1, 16, 255, .num 8⟩), 8, ?_⟩ <;> and_intros <;> first | decide +kernel | rfl
  · refine ⟨hcp0, (withSeg { state := .normal }), 0, .normal, ?_⟩ <;> and_intros <;> first | decide +kernel | rfl
  · refine ⟨hcp0, (withSeg { state := .normal }), 0, .listenOnly, ?_⟩ <;> and_intros <;> first | decide +kernel | rfl
  · refine ⟨hcp0, (withSeg { state := .normal }), 0, ?_⟩ <;> and_intros <;> first | decide +kernel | rfl
  · refine ⟨hcp0, (withSeg { state := .sleep }), 0, .listenOnly, ?_⟩ <;> and_intros <;> first | decide +kernel | rfl
  · refine ⟨0, 1, ?_⟩ <;> and_intros <;> first | decide +kernel | rfl
  · refine ⟨(withSeg { pending := [.sleep 0 hcp0] }), 0, 0, hcp0, [], ?_⟩ <;> and_intros <;>
        first | decide +kernel | rfl
  · refine ⟨ready, 0, ?_⟩ <;> and_intros <;> first | decide +kernel | rfl
  · refine ⟨(withSeg { pending := [.sleep 0 hcp0] }), 0, 0, hcp0, [], ?_⟩ <;> and_intros <;>
        first | decide +kernel | rfl
  · refine ⟨(withSeg { pending := [.powerUp .normal hcp0] }), 0, .normal, hcp0, ?_⟩ <;> and_intros <;>
        first | decide +kernel | rfl
  · refine ⟨(withSeg { pending := [.powerUpWake hcp0] }), 0, hcp0, ?_⟩ <;> and_intros <;> first | decide +kernel | rfl
  · refine ⟨hcp0, (withSeg { state := .normal }), 0, ?_⟩ <;> and_intros <;> first | decide +kernel | rfl
  · refine ⟨hcp0, ready, 0, ?_⟩ <;> and_intros <;> first | decide +kernel | rfl
  · refine ⟨hcp0, (globWith fun x => { x with degraded := true }), 0, ?_⟩ <;> and_intros <;>
        first | decide +kernel | rfl
  · refine ⟨(withSeg { pending := [.burst 0 .normal hcp0] }), 0, 0, .normal, hcp0, ?_⟩ <;> and_intros <;>
        first | decide +kernel | rfl
  · refine ⟨(withSeg { state := .standby, autoWake := false }), 0, pulse1, ?_⟩ <;> and_intros <;>
        first | decide +kernel | rfl
  · refine ⟨(withSeg { state := .standby }), 0, pulse1, ?_⟩ <;> and_intros <;> first | decide +kernel | rfl
  · refine ⟨(withSeg { state := .sleep }), 0, pulse1, ?_⟩ <;> and_intros <;> first | decide +kernel | rfl

/-- The hypotheses of `CanMdioStatusAndHarvest`, clause by clause. -/
theorem wit_can_mdio_status_and_harvest :
    (∃ (h : Hcp) (s : State) (recs : List Param) (u : State),
      accepts { opcode := 0x0605, classC := true, owner := true } h s = true ∧ applyChecked canRec 0 s recs = .ok u ∧
      ((∀ n, n < 8 → canRatesOk (canOf u n) = true))) ∧
    (∃ (h : Hcp) (s : State) (p : Nat), accepts { opcode := 0x0606 } h s = true ∧ portKind p = .can ∧
      hasRight s h.tenant 3 = true ∧ hasPort s h.tenant p = true ∧ (canOf s (p - 80)).busOff = true) ∧
    (∃ (s : State) (p : Nat), portKind p = .can ∧ (canOf s (p - 80)).busOff = false) ∧
    (∃ (s : State) (p : Nat) (n : Nat), portKind p = .can ∧ (canOf s (p - 80)).busOff = true ∧
      (((canOf s (p - 80)).manual = false ∨ (canOf s (p - 80)).recovering = true)) ∧ 1408 ≤ n) ∧
    (∃ (s : State) (p : Nat), (canOf s (p - 80)).manual = true ∧ (canOf s (p - 80)).recovering = false) ∧
    (∃ (h : Hcp) (s : State) (ops : List MdioOp), accepts { opcode := 0x0607 } h s = true ∧
      hasRight s h.tenant 3 = true ∧ (ops.any fun o => !hasPort s h.tenant (Config.phyPort o.phy)) = false ∧
      ops ≠ [] ∧ ops.length ≤ 16) ∧
    (∃ (o : MdioOp) (v : BitVec 16), o.isWrite = false ∧ o.phyData = some v) ∧
    (∃ (o : MdioOp), o.isWrite = false ∧ o.phyData = none) ∧
    (∃ (h : Hcp) (s : State) (p : Nat), accepts { opcode := 0x0608 } h s = true ∧ portReserved s p = false ∧
      hasRight s h.tenant 4 = true ∧ hasPort s h.tenant p = true) ∧
    (∃ (h : Hcp) (s : State) (a : HarvestArgs), accepts { opcode := 0x0609, features := [16] } h s = true ∧
      hasRight s h.tenant 4 = true ∧ a.bank < 4 ∧ a.ns < 1000000000 ∧
      (tget ({} : HarvestBank) s.ports.banks a.bank).state ≠ .pending ∧
      (tget ({} : HarvestBank) s.ports.banks a.bank).state ≠ .filling ∧ maskReserved s a.mask = false ∧
      ((setOf a.mask).any fun p => !hasPort s h.tenant p) = false ∧ a.immediate = true) ∧
    (∃ (h : Hcp) (s : State) (a : HarvestArgs), accepts { opcode := 0x0609, features := [16] } h s = true ∧
      hasRight s h.tenant 4 = true ∧ a.bank < 4 ∧ a.ns < 1000000000 ∧
      (tget ({} : HarvestBank) s.ports.banks a.bank).state ≠ .pending ∧
      (tget ({} : HarvestBank) s.ports.banks a.bank).state ≠ .filling ∧ maskReserved s a.mask = false ∧
      ((setOf a.mask).any fun p => !hasPort s h.tenant p) = false ∧ a.immediate = false ∧ s.tms.tsValid = true ∧
      trtNs s + 100000 ≤ linNs a.sec a.ns ∧ linNs a.sec a.ns ≤ trtNs s + 3600000000000) ∧
    (∃ (h : Hcp) (s : State) (a : HarvestArgs), accepts { opcode := 0x0609, features := [16] } h s = true ∧
      maskReserved s a.mask = true) ∧
    (∃ (h : Hcp) (s : State) (a : HarvestArgs), accepts { opcode := 0x0609, features := [16] } h s = true ∧
      maskReserved s a.mask = false ∧ ((hasRight s h.tenant 4 = false ∨
      ((setOf a.mask).any fun p => !hasPort s h.tenant p) = true))) ∧
    (∃ (s : State) (b : Nat), (tget ({} : HarvestBank) s.ports.banks b).state = .filling) ∧
    (∃ (s : State) (p : Nat) (n : Nat), portKind p = .can ∧ (canOf s (p - 80)).busOff = true ∧
      (((canOf s (p - 80)).manual = false ∨ (canOf s (p - 80)).recovering = true)) ∧ 1408 ≤ n ∧
      (portCfg s p).enabled = true ∧ portsHeld s = false) := by
  refine ⟨?_, ?_, ?_, ?_, ?_, ?_, ?_, ?_, ?_, ?_, ?_, ?_, ?_, ?_, ?_⟩
  · refine ⟨hcp0, ready, [], ready, ?_⟩ <;> and_intros <;>
        first | decide +kernel | (intro n _; simp [canOf, canRatesOk, ready, tget])
  · refine ⟨hcp0, (withCan { busOff := true }), 80, ?_⟩ <;> and_intros <;> first | decide +kernel | rfl
  · refine ⟨ready, 87, ?_⟩ <;> and_intros <;> first | decide +kernel | rfl
  · refine ⟨(withCan { busOff := true }), 80, 1408, ?_⟩ <;> and_intros <;> first | decide +kernel | rfl
  · refine ⟨(withCan { busOff := true, manual := true }), 80, ?_⟩ <;> and_intros <;> first | decide +kernel | rfl
  · refine ⟨hcp0, ready, [⟨false, false, 1, 2, 0, none⟩], ?_⟩ <;> and_intros <;> first | decide +kernel | rfl
  · refine ⟨(⟨false, false, 1, 2, 0, some 5⟩), 5, ?_⟩ <;> and_intros <;> first | decide +kernel | rfl
  · refine ⟨(⟨false, false, 1, 2, 0, none⟩), ?_⟩ <;> and_intros <;> first | decide +kernel | rfl
  · refine ⟨hcp0, ready, 96, ?_⟩ <;> and_intros <;> first | decide +kernel | rfl
  · refine ⟨hcp0, ready, (⟨3, true, 0, 0, 999999999, 0⟩), ?_⟩ <;> and_intros <;> first | decide +kernel | rfl
  · refine ⟨hcp0, ready, (⟨3, false, 0, 0, 999999999, 0⟩), ?_⟩ <;> and_intros <;> first | decide +kernel | rfl
  · refine ⟨hcp0, ready, (⟨0, true, 0, 0, 0, 1 <<< 101⟩), ?_⟩ <;> and_intros <;> first | decide +kernel | rfl
  · refine ⟨(⟨1, true, 7⟩), (hostWith fun x => { x with tenants := [(1, { guest .pcie with rights := 0 })] }),
        (⟨0, true, 0, 0, 0, 1⟩), ?_⟩ <;> and_intros <;> first | decide +kernel | rfl
  · refine ⟨(portsWith fun x => { x with banks := [(3, { state := .filling })] }), 3, ?_⟩ <;> and_intros <;>
        first | decide +kernel | rfl
  · refine ⟨(portsWith fun y => { y with can := [(0, { busOff := true })], cfg := [(80, { enabled := true })] }), 80,
        1408, ?_⟩ <;> and_intros <;> first | decide +kernel | rfl

/-- The hypotheses of `HelloConfirmsOrFallsBack`, clause by clause. -/
theorem wit_hello_confirms_or_falls_back :
    (∃ (s : State) (p : Nat) (y : HelloLink), p < 4 ∧ linkIsUp s p = true ∧ (helloOf s p).running = true ∧
      (helloOf s p).confirmed = false ∧ (helloOf s p).fabricUp = false ∧
      y = { helloOf s p with seq := (helloOf s p).seq + 1, sentAt := some (max s.mono (nextBeat (helloOf s p).sentAt 100000 s.mono)), echoed := if (helloOf s p).partner = 0 then 0 else (helloOf s p).echoed + 1 }) ∧
    (∃ (s : State) (p : Nat), ((4 ≤ p ∨ linkIsUp s p = false ∨ (helloOf s p).running = false))) ∧
    (∃ (s : State) (p : Nat), ((4 ≤ p ∨ linkIsUp s p = false ∨ (helloOf s p).running = false)) ∧ (4 ≤ p ∨
      linkIsUp s p = false)) ∧
    (∃ (s : State) (p : Nat) (m : Hello), p < 4 ∧ linkIsUp s p = true ∧ (((helloOf s p).running = false ∨
      (helloOf s p).fabricUp = true ∨ m.hdr.version ≠ 1))) ∧
    (∃ (s : State) (p : Nat) (m : Hello) (k : Nat) (e : Nat) (y : HelloLink), p < 4 ∧ linkIsUp s p = true ∧
      (helloOf s p).running = true ∧ (helloOf s p).fabricUp = false ∧ m.hdr.version = 1 ∧
      k = (if (m.echo == BitVec.ofNat 16 (helloOf s p).seq.toNat && (helloOf s p).seq != 0) = true then (if (helloOf s p).partner = m.hdr.senderId then (helloOf s p).run + 1 else 1) else 0) ∧
      e = (if (helloOf s p).partner = m.hdr.senderId then (if k = 0 then (helloOf s p).echoed - 1 else (helloOf s p).echoed) else 0) ∧
      y = { helloOf s p with partner := m.hdr.senderId, rxSeq := m.seq, run := k, nodes := m.nodeCount, leader := m.leaderId, epoch := m.hdr.domainEpoch, topo := m.hdr.topoCount, ttdp := false, echoed := e } ∧
      ¬ (3 ≤ k ∧ 3 ≤ e)) ∧
    (∃ (s : State) (p : Nat) (m : Hello) (k : Nat) (e : Nat) (y : HelloLink), p < 4 ∧ linkIsUp s p = true ∧
      (helloOf s p).running = true ∧ (helloOf s p).fabricUp = false ∧ m.hdr.version = 1 ∧
      k = (if (m.echo == BitVec.ofNat 16 (helloOf s p).seq.toNat && (helloOf s p).seq != 0) = true then (if (helloOf s p).partner = m.hdr.senderId then (helloOf s p).run + 1 else 1) else 0) ∧
      e = (if (helloOf s p).partner = m.hdr.senderId then (if k = 0 then (helloOf s p).echoed - 1 else (helloOf s p).echoed) else 0) ∧
      y = { helloOf s p with partner := m.hdr.senderId, rxSeq := m.seq, run := k, nodes := m.nodeCount, leader := m.leaderId, epoch := m.hdr.domainEpoch, topo := m.hdr.topoCount, ttdp := false, echoed := e } ∧
      3 ≤ k ∧ 3 ≤ e ∧ m.leaderId = s.tms.leaderId ∧ m.hdr.domainEpoch = s.tms.domainEpoch ∧
      m.hdr.topoCount = s.ine.topo ∧ (inaugurating s = false ∨ s.ine.state = .hello)) ∧
    (∃ (s : State) (p : Nat) (m : Hello) (k : Nat) (e : Nat) (y : HelloLink), p < 4 ∧ linkIsUp s p = true ∧
      (helloOf s p).running = true ∧ (helloOf s p).fabricUp = false ∧ m.hdr.version = 1 ∧
      k = (if (m.echo == BitVec.ofNat 16 (helloOf s p).seq.toNat && (helloOf s p).seq != 0) = true then (if (helloOf s p).partner = m.hdr.senderId then (helloOf s p).run + 1 else 1) else 0) ∧
      e = (if (helloOf s p).partner = m.hdr.senderId then (if k = 0 then (helloOf s p).echoed - 1 else (helloOf s p).echoed) else 0) ∧
      y = { helloOf s p with partner := m.hdr.senderId, rxSeq := m.seq, run := k, nodes := m.nodeCount, leader := m.leaderId, epoch := m.hdr.domainEpoch, topo := m.hdr.topoCount, ttdp := false, echoed := e } ∧
      3 ≤ k ∧ 3 ≤ e ∧ m.leaderId = s.tms.leaderId ∧ m.hdr.domainEpoch = s.tms.domainEpoch ∧
      m.hdr.topoCount = s.ine.topo ∧ inaugurating s = true ∧ s.ine.state ≠ .hello) ∧
    (∃ (s : State) (p : Nat) (m : Hello) (k : Nat) (e : Nat) (y : HelloLink), p < 4 ∧ linkIsUp s p = true ∧
      (helloOf s p).running = true ∧ (helloOf s p).fabricUp = false ∧ m.hdr.version = 1 ∧
      k = (if (m.echo == BitVec.ofNat 16 (helloOf s p).seq.toNat && (helloOf s p).seq != 0) = true then (if (helloOf s p).partner = m.hdr.senderId then (helloOf s p).run + 1 else 1) else 0) ∧
      e = (if (helloOf s p).partner = m.hdr.senderId then (if k = 0 then (helloOf s p).echoed - 1 else (helloOf s p).echoed) else 0) ∧
      y = { helloOf s p with partner := m.hdr.senderId, rxSeq := m.seq, run := k, nodes := m.nodeCount, leader := m.leaderId, epoch := m.hdr.domainEpoch, topo := m.hdr.topoCount, ttdp := false, echoed := e } ∧
      3 ≤ k ∧ 3 ≤ e ∧ m.leaderId ≠ s.tms.leaderId ∧ (ownTable s).length + m.nodeCount ≤ 63 ∧ s.ine.inhibited = false ∧
      ((s.ine.state = .idle ∨ s.ine.state = .hello ∨ s.ine.state = .held ∨ autoStable s = true))) ∧
    (∃ (s : State) (p : Nat) (m : Hello) (k : Nat) (e : Nat) (y : HelloLink), p < 4 ∧ linkIsUp s p = true ∧
      (helloOf s p).running = true ∧ (helloOf s p).fabricUp = false ∧ m.hdr.version = 1 ∧
      k = (if (m.echo == BitVec.ofNat 16 (helloOf s p).seq.toNat && (helloOf s p).seq != 0) = true then (if (helloOf s p).partner = m.hdr.senderId then (helloOf s p).run + 1 else 1) else 0) ∧
      e = (if (helloOf s p).partner = m.hdr.senderId then (if k = 0 then (helloOf s p).echoed - 1 else (helloOf s p).echoed) else 0) ∧
      y = { helloOf s p with partner := m.hdr.senderId, rxSeq := m.seq, run := k, nodes := m.nodeCount, leader := m.leaderId, epoch := m.hdr.domainEpoch, topo := m.hdr.topoCount, ttdp := false, echoed := e } ∧
      3 ≤ k ∧ 3 ≤ e ∧ m.leaderId ≠ s.tms.leaderId ∧ (ownTable s).length + m.nodeCount ≤ 63 ∧ s.ine.inhibited = true ∧
      s.ine.state = .hello) ∧
    (∃ (s : State) (p : Nat), p < 4 ∧ linkIsUp s p = true ∧ (helloOf s p).running = true ∧ (helloOf s p).partner = 0 ∧
      s.ine.identNext.mode = 2 ∧ s.ine.twin.state ≠ .standby) ∧
    (∃ (s : State) (p : Nat), p < 4 ∧ linkIsUp s p = true ∧ (helloOf s p).running = true ∧ (helloOf s p).partner = 0 ∧
      s.ine.identNext.mode ≠ 2) ∧
    (∃ (s : State) (p : Nat) (r : TtdpResult), linkIsUp s p = true ∧ s.fw.phase = .ready ∧ s.ine.state = .standard ∧
      ((r = .hello ∨ r = .topology))) ∧
    (∃ (s : State) (p : Nat), linkIsUp s p = true ∧ s.fw.phase = .ready ∧ s.ine.state = .standard ∧
      s.ine.inhibited = true) ∧
    (∃ (s : State) (p : Nat), linkIsUp s p = true ∧ s.fw.phase = .ready ∧ s.ine.state = .standard ∧
      s.ine.inhibited = false) ∧
    (∃ (s : State) (u : Nat), s.ine.run.holdUntil = some u) := by
  refine ⟨?_, ?_, ?_, ?_, ?_, ?_, ?_, ?_, ?_, ?_, ?_, ?_, ?_, ?_, ?_⟩
  · refine ⟨ready, 3,
        { helloOf ready 3 with seq := (helloOf ready 3).seq + 1, sentAt := some (max ready.mono (nextBeat (helloOf ready 3).sentAt 100000 ready.mono)), echoed := if (helloOf ready 3).partner = 0 then 0 else (helloOf ready 3).echoed + 1 },
        ?_⟩ <;> and_intros <;> first | decide +kernel | rfl
  · refine ⟨ready, 4, ?_⟩ <;> and_intros <;>
        exact Or.inl (by decide)
  · refine ⟨ready, 4, ?_⟩ <;> and_intros <;>
        exact Or.inl (by decide)
  · refine ⟨ready, 0, (hello5 0), ?_⟩ <;> and_intros <;> first | decide +kernel | rfl
  · refine ⟨ready, 3, (hello5 0), 0, 0,
        { helloOf ready 3 with partner := 5, rxSeq := 1, run := 0, nodes := 1, leader := 0, epoch := 0, topo := 0, ttdp := false, echoed := 0 },
        ?_⟩ <;> and_intros <;> first | decide +kernel | rfl
  · refine ⟨(withHello { running := true, seq := 7, partner := 5, run := 2, echoed := 3 }), 3, (hello5 0), 3, 3,
        { running := true, seq := 7, partner := 5, rxSeq := 1, run := 3, nodes := 1, echoed := 3 },
        ?_⟩ <;> and_intros <;> first | decide +kernel | rfl
  · refine ⟨{ withHello { running := true, seq := 7, partner := 5, run := 2, echoed := 3 } with ine := { (withHello { running := true, seq := 7, partner := 5, run := 2, echoed := 3 }).ine with state := .topology } },
        3, (hello5 0), 3, 3,
        { running := true, seq := 7, partner := 5, rxSeq := 1, run := 3, nodes := 1, echoed := 3 },
        ?_⟩ <;> and_intros <;> first | decide +kernel | rfl
  · refine ⟨(withHello { running := true, seq := 7, partner := 5, run := 2, echoed := 3 }), 3, (hello5 5), 3, 3,
        { running := true, seq := 7, partner := 5, rxSeq := 1, run := 3, nodes := 1, leader := 5, echoed := 3 },
        ?_⟩ <;> and_intros <;> first | decide +kernel | rfl
  · refine ⟨{ withHello { running := true, seq := 7, partner := 5, run := 2, echoed := 3 } with ine := { (withHello { running := true, seq := 7, partner := 5, run := 2, echoed := 3 }).ine with state := .hello, inhibited := true } },
        3, (hello5 5), 3, 3,
        { running := true, seq := 7, partner := 5, rxSeq := 1, run := 3, nodes := 1, leader := 5, echoed := 3 },
        ?_⟩ <;> and_intros <;> first | decide +kernel | rfl
  · refine ⟨ready, 3, ?_⟩ <;> and_intros <;> first | decide +kernel | rfl
  · refine ⟨(ineWith fun x => { x with identNext := { x.identNext with mode := 0 }, hello := [(3, { running := true })] }),
        3, ?_⟩ <;> and_intros <;> first | decide +kernel | rfl
  · refine ⟨(ineWith fun x => { x with state := .standard }), 3, .hello, ?_⟩ <;> and_intros <;>
        first | decide +kernel | rfl
  · refine ⟨(ineWith fun x => { x with state := .standard, inhibited := true }), 3, ?_⟩ <;> and_intros <;>
        first | decide +kernel | rfl
  · refine ⟨(ineWith fun x => { x with state := .standard }), 3, ?_⟩ <;> and_intros <;> first | decide +kernel | rfl
  · refine ⟨(withRun .stopped .idle { holdUntil := some 4 }), 4, ?_⟩ <;> and_intros <;> first | decide +kernel | rfl

/-- The hypotheses of `InaugurationPhasesFollowTheFrames`, clause by clause. -/
theorem wit_inauguration_phases_follow_the_frames :
    (∃ (s : State) (p : Nat) (h : InaugHdr) (i : Nat) (n : Nat) (l : List NodeRec), inaugHears s p h = true ∧
      s.ine.state = .topology ∧ i < n ∧ (∃ r ∈ l, ∀ m ∈ ownTable s, m.unit ≠ r.unit) ∧ (∃ j, j < n ∧ j ≠ i ∧
      ∀ e ∈ s.ine.run.otherParts.got, e.1 ≠ j)) ∧
    (∃ (s : State) (p : Nat) (h : InaugHdr) (l : List NodeRec), inaugHears s p h = true ∧ s.ine.state = .idle ∧
      (∀ r ∈ l, ∃ m ∈ ownTable s, m.unit = r.unit) ∧ (∃ r ∈ l, r.unit ≠ nodeUnit s)) ∧
    (∃ (s : State) (p : Nat) (h : InaugHdr), inaugHears s p h = true ∧ inaugurating s = true ∧
      s.ine.state ≠ .merging) ∧
    (∃ (s : State) (p : Nat) (h : InaugHdr) (u : UnitId), inaugHears s p h = true ∧ inaugurating s = true ∧
      s.ine.state = .merging ∧ s.ine.run.merged = true ∧ mergeOver s = true ∧ coordinates s = false ∧
      ((∀ n ∈ s.ine.run.joint, n.unit = nodeUnit s ∨ n.unit = u ∨ n.unit ∈ s.ine.run.funcsFrom))) ∧
    (∃ (s : State) (p : Nat) (h : InaugHdr), inaugHears s p h = true ∧ s.ine.state = .topology ∧
      coordinates s = false) ∧
    (∃ (s : State) (p : Nat) (h : InaugHdr) (c : Word) (n : Nat), inaugHears s p h = true ∧ s.ine.state = .topology ∧
      coordinates s = true ∧ s.ine.run.joint ≠ [] ∧ s.ine.run.keeps = false ∧ s.css.state = .leader ∧
      c = tableCrc s.ine.run.joint ∧ n = s.ine.run.joint.length ∧ ((∀ m ∈ s.ine.run.joint, m.unit = h.senderId ∨
      ∃ d ∈ s.ine.run.digests, d.1 = m.unit ∧ d.2.1 = c ∧ d.2.2.1 = n))) ∧
    (∃ (s : State), s.ine.state = .topology ∧ coordinates s = false ∧ s.ine.run.repeated = false) ∧
    (∃ (s : State), s.ine.state = .topology ∧ coordinates s = false ∧ s.ine.run.repeated = true) ∧
    (∃ (s : State) (p : Nat) (h : InaugHdr), inaugHears s p h = true ∧ s.ine.state = .topology ∧
      fromCoordinator s h = true ∧ s.css.state = .leader) ∧
    (∃ (s : State) (p : Nat) (h : InaugHdr), inaugHears s p h = true ∧ s.ine.state = .topology ∧
      fromCoordinator s h = true ∧ s.css.state = .active) ∧
    (∃ (s : State) (p : Nat) (h : InaugHdr), inaugHears s p h = true ∧ s.ine.state = .topology ∧
      fromCoordinator s h = true ∧ s.css.state = .stopped ∧ s.ine.run.merge = true ∧ coordinates s = false) ∧
    (∃ (s : State) (p : Nat) (h : InaugHdr), inaugHears s p h = true ∧ s.ine.state = .topology ∧
      fromCoordinator s h = true ∧ s.css.state = .stopped ∧ s.ine.run.merge = false ∧ funcsComplete s = false) ∧
    (∃ (s : State) (p : Nat) (h : InaugHdr), inaugHears s p h = false) ∧
    (∃ (s : State) (p : Nat) (h : InaugHdr), inaugHears s p h = true ∧ s.ine.state = .merging ∧
      s.ine.run.merge = true ∧ s.ine.run.merged = false ∧ fromCoordinator s h = true ∧ coordinates s = false ∧
      s.ine.run.stepping = false ∧ mergeOver s = true ∧ funcsComplete s = true) ∧
    (∃ (s : State) (p : Nat) (h : InaugHdr), inaugHears s p h = true ∧ s.ine.state = .merging ∧
      s.ine.run.merge = true ∧ s.ine.run.merged = false ∧ fromCoordinator s h = true ∧ coordinates s = false ∧
      s.ine.run.stepping = true ∧ s.tms.trtState ≠ .none ∧ s.ine.run.survivor ≠ 0) ∧
    (∃ (s : State), s.ine.state = .merging ∧ ((s.ine.run.merge = false ∨ s.ine.run.merged = true ∧
      mergeOver s = true)) ∧ funcsComplete s = true ∧ coordinates s = false) ∧
    (∃ (s : State) (p : Nat) (h : InaugHdr) (k : Word), inaugHears s p h = true ∧ s.ine.state = .renumbering ∧
      fromCoordinator s h = true ∧ tableCrc (numberTable s.ine.run.joint).out ≠ k) ∧
    (∃ (s : State) (p : Nat) (h : InaugHdr) (k : Word), inaugHears s p h = true ∧ s.ine.state = .renumbering ∧
      fromCoordinator s h = true ∧ tableCrc (numberTable s.ine.run.joint).out = k ∧ s.ine.run.keeps = false ∧
      s.ine.run.merge = true ∧ s.ine.run.survivor = 0) ∧
    (∃ (s : State) (p : Nat) (h : InaugHdr) (k : Word), inaugHears s p h = true ∧ s.ine.state = .renumbering ∧
      fromCoordinator s h = true ∧ tableCrc (numberTable s.ine.run.joint).out = k ∧ s.ine.run.keeps = false ∧
      ((s.ine.run.merge = false ∨ s.ine.run.survivor ≠ 0))) ∧
    (∃ (s : State) (p : Nat) (h : InaugHdr), inaugHears s p h = true ∧ coordinates s = true ∧
      s.ine.state = .stopping) ∧
    (∃ (s : State) (p : Nat) (h : InaugHdr) (a : Nat) (b : Nat), inaugHears s p h = true ∧ coordinates s = true ∧
      s.ine.state = .renumbering ∧ a = 0x45 ∧ b = 0 ∧ s.ine.run.keeps = false ∧ ((s.ine.run.merge = false ∨
      s.ine.run.survivor ≠ 0)) ∧ ((∀ m ∈ s.ine.run.joint, m.unit = h.senderId ∨ ∃ x ∈ s.ine.run.acks, x.1 = m.unit ∧
      x.2.1 = 0x45 ∧ x.2.2 = 0))) ∧
    (∃ (s : State) (p : Nat) (h : InaugHdr) (r : Nat), inaugHears s p h = true ∧ s.ine.state = .topology ∧ r ≠ 6) ∧
    (∃ (s : State) (p : Nat) (h : InaugHdr) (r : Nat), inaugHears s p h = true ∧ s.ine.state = .topology ∧ r = 6 ∧
      s.ine.identNext.mode ≠ 0 ∧ s.ine.twin.state ≠ .standby) ∧
    (∃ (s : State) (p : Nat) (h : InaugHdr), inaugHears s p h = true ∧ s.ine.state = .topology ∧
      fromCoordinator s h = true ∧ s.css.state = .stopped ∧ s.ine.run.merge = true ∧ coordinates s = false ∧
      s.ine.run.keeps = false ∧ s.ine.run.stepping = true) := by
  refine ⟨?_, ?_, ?_, ?_, ?_, ?_, ?_, ?_, ?_, ?_, ?_, ?_, ?_, ?_, ?_, ?_, ?_, ?_, ?_, ?_, ?_, ?_, ?_, ?_⟩
  · refine ⟨(withRun .active .topology {}), 0, (hdrI 5 true), 0, 2, [node7 5], ?_⟩ <;> and_intros <;>
        first | decide +kernel | rfl
  · refine ⟨(ineWith fun x => { x with nodes := pairTable }), 0, (hdrI 5 true), pairTable, ?_⟩ <;> and_intros <;>
        first | decide +kernel | rfl
  · refine ⟨(withRun .active .topology {}), 0, (hdrI 5 true), ?_⟩ <;> and_intros <;> first | decide +kernel | rfl
  · refine ⟨{ withRun .active .merging { merge := true, merged := true, survivor := 5, joint := pairTable, funcsFrom := [1] } with tms := { ready.tms with trtState := .locked } },
        0, (hdrI 5 false), 5, ?_⟩ <;> and_intros <;> first | decide +kernel | rfl
  · refine ⟨(withRun .active .topology { survivor := 5 }), 0, (hdrI 5 true), ?_⟩ <;> and_intros <;>
        first | decide +kernel | rfl
  · refine ⟨(withRun .leader .topology { survivor := 1, joint := pairTable, digests := [(1, tableCrc pairTable, 2, false)] }),
        0, (hdrI 5 false), (tableCrc pairTable), 2, ?_⟩ <;> and_intros <;>
        first | decide +kernel | rfl | (intro m hm; simp [withRun, ineWith, pairTable] at hm ⊢; rcases hm with rfl | rfl <;> simp [node7, hdrI])
  · refine ⟨(withRun .active .topology { survivor := 5 }), ?_⟩ <;> and_intros <;> first | decide +kernel | rfl
  · refine ⟨(withRun .active .topology { survivor := 5, repeated := true }), ?_⟩ <;> and_intros <;>
        first | decide +kernel | rfl
  · refine ⟨(withRun .leader .topology { survivor := 5 }), 0, (hdrI 5 true), ?_⟩ <;> and_intros <;>
        first | decide +kernel | rfl
  · refine ⟨(withRun .active .topology { survivor := 5 }), 0, (hdrI 5 true), ?_⟩ <;> and_intros <;>
        first | decide +kernel | rfl
  · refine ⟨(withRun .stopped .topology { survivor := 5 }), 0, (hdrI 5 true), ?_⟩ <;> and_intros <;>
        first | decide +kernel | rfl
  · refine ⟨(withRun .stopped .topology { joint := pairTable, merge := false }), 0, (hdrI 1 true),
        ?_⟩ <;> and_intros <;> first | decide +kernel | rfl
  · refine ⟨ready, 3, { hdrI 5 true with lineB := false }, ?_⟩ <;> and_intros <;> first | decide +kernel | rfl
  · refine ⟨{ withRun .stopped .merging { survivor := 5 } with tms := { ready.tms with trtState := .locked } }, 0,
        (hdrI 5 true), ?_⟩ <;> and_intros <;> first | decide +kernel | rfl
  · refine ⟨{ withRun .active .merging { merge := true, survivor := 5, stepping := true } with tms := { ready.tms with trtState := .locked } },
        0, (hdrI 5 true), ?_⟩ <;> and_intros <;> first | decide +kernel | rfl
  · refine ⟨{ withRun .stopped .merging { survivor := 5, merged := true } with tms := { ready.tms with trtState := .locked } },
        ?_⟩ <;> and_intros <;> first | decide +kernel | rfl
  · refine ⟨(withRun .stopped .renumbering { survivor := 5, joint := pairTable }), 0, (hdrI 5 true),
        (tableCrc (numberTable pairTable).out + 1), ?_⟩ <;> and_intros <;>
        first | decide +kernel | exact word_ne_succ _
  · refine ⟨(withRun .stopped .renumbering { merge := true, joint := pairTable }), 0, (hdrI 1 true),
        (tableCrc (numberTable pairTable).out), ?_⟩ <;> and_intros <;> first | decide +kernel | rfl
  · refine ⟨(withRun .stopped .renumbering { merge := true, survivor := 5, joint := pairTable }), 0, (hdrI 5 true),
        (tableCrc (numberTable pairTable).out), ?_⟩ <;> and_intros <;> first | decide +kernel | rfl
  · refine ⟨(withRun .active .stopping { survivor := 1 }), 0, (hdrI 1 true), ?_⟩ <;> and_intros <;>
        first | decide +kernel | rfl
  · refine ⟨(withRun .stopped .renumbering { survivor := 1, joint := pairTable, acks := [(1, 0x45, 0)] }), 0,
        (hdrI 5 false), 0x45, 0, ?_⟩ <;> and_intros <;> first | decide +kernel | rfl
  · refine ⟨(withRun .active .topology {}), 0, (hdrI 5 true), 1, ?_⟩ <;> and_intros <;> first | decide +kernel | rfl
  · refine ⟨(withRun .active .topology {}), 0, (hdrI 5 true), 6, ?_⟩ <;> and_intros <;> first | decide +kernel | rfl
  · refine ⟨(withRun .stopped .topology { survivor := 5, stepping := true }), 0, (hdrI 5 true), ?_⟩ <;> and_intros <;>
        first | decide +kernel | rfl

/-- The hypotheses of `InaugurationAndAliasCommands`, clause by clause. -/
theorem wit_inauguration_and_alias_commands :
    (∃ (h : Hcp) (s : State) (recs : List Param) (fs : List FuncEntry) (d : Identity),
      accepts { opcode := 0x0701, classC := true, owner := true, features := [3, 4] } h s = true ∧
      applyRecs s identRec 0 s.ine.identNext recs = .ok d ∧ fs.length ≤ 64 ∧ fs.all funcOk = true) ∧
    (∃ (h : Hcp) (s : State) (c : Nat) (l : List NodeRec),
      accepts { opcode := 0x0702, classC := true, owner := true, features := [3, 4] } h s = true ∧
      inaugurating s = false ∧ ((c = 0 ∨ c = s.ine.ident.cab ∨ c = s.ine.identNext.cab)) ∧
      l = ownTable { s with ine := { s.ine with lead := c } } ∧ ((c = 0 ∨ ∀ n ∈ ownTable s, n.unit ≠ nodeUnit s →
      n.lead = false)) ∧ ((s.ine.nodes = [] ∨ orientTable l (fun _ => true) (some true) = l))) ∧
    (∃ (h : Hcp) (s : State) (c : Nat) (l : List NodeRec),
      accepts { opcode := 0x0702, classC := true, owner := true, features := [3, 4] } h s = true ∧
      inaugurating s = false ∧ ((c = 0 ∨ c = s.ine.ident.cab ∨ c = s.ine.identNext.cab)) ∧
      l = ownTable { s with ine := { s.ine with lead := c } } ∧ ((c = 0 ∨ ∀ n ∈ ownTable s, n.unit ≠ nodeUnit s →
      n.lead = false)) ∧ s.ine.nodes ≠ [] ∧ orientTable l (fun _ => true) (some true) ≠ l) ∧
    (∃ (h : Hcp) (s : State) (c : Nat),
      accepts { opcode := 0x0702, classC := true, owner := true, features := [3, 4] } h s = true ∧
      inaugurating s = false ∧ c ≠ 0 ∧ ((c = s.ine.ident.cab ∨ c = s.ine.identNext.cab)) ∧ (∃ n ∈ ownTable s,
      n.unit ≠ nodeUnit s ∧ n.lead = true)) ∧
    (∃ (h : Hcp) (s : State),
      accepts { opcode := 0x0703, classC := true, owner := true, features := [3, 4] } h s = true) ∧
    (∃ (h : Hcp) (s : State),
      accepts { opcode := 0x0703, classC := true, owner := true, features := [3, 4] } h s = true ∧ ((∀ p, p < 4 →
      (helloOf s p).confirmed = true → (helloOf s p).fabricUp = false → linkIsUp s p = false))) ∧
    (∃ (h : Hcp) (s : State), accepts { opcode := 0x0704, features := [3, 4] } h s = true) ∧
    (∃ (h : Hcp) (s : State) (a : AliasArgs) (k : Nat),
      accepts { opcode := 0x0705, classC := true, owner := true, features := [3, 4] } h s = true ∧
      aliasBusy s = false ∧ a.tfa < 65536 ∧ a.vlan < 4096 ∧ ((∀ i, a.stream = some i → i < 8192)) ∧
      k = (staticAt (bankRead s (1 - s.ine.activeBank)) a.tfa).getD (aliasFree (bankRead s (1 - s.ine.activeBank))) ∧
      poisonedWord s 4 ((1 - s.ine.activeBank) * 4096 + k) = none ∧ k < 4096) ∧
    (∃ (h : Hcp) (s : State) (f : Nat) (k : Nat),
      accepts { opcode := 0x0706, classC := true, owner := true, features := [3, 4] } h s = true ∧
      aliasBusy s = false ∧ (∃ x ∈ s.ine.statics, x.tfa = f) ∧
      staticAt (bankRead s (1 - s.ine.activeBank)) f = some k) ∧
    (∃ (h : Hcp) (s : State) (c : Nat) (n : Nat),
      accepts { opcode := 0x0707, classC := true, owner := true, features := [3, 4] } h s = true ∧
      aliasBusy s = false ∧ n < 1000000000 ∧ s.tms.tsValid = true ∧ trtNs s + 20000 ≤ linNs c n ∧
      linNs c n ≤ trtNs s + 3600000000000) := by
  refine ⟨?_, ?_, ?_, ?_, ?_, ?_, ?_, ?_, ?_, ?_⟩
  · refine ⟨hcp0, ready, [], [], ready.ine.identNext, ?_⟩ <;> and_intros <;> first | decide +kernel | rfl
  · refine ⟨hcp0, ready, 0, (ownTable { ready with ine := { ready.ine with lead := 0 } }), ?_⟩ <;> and_intros <;>
        first | decide +kernel | rfl
  · refine ⟨hcp0, ledTrain, 1, (ownTable { ledTrain with ine := { ledTrain.ine with lead := 1 } }),
        ?_⟩ <;> and_intros <;> first | decide +kernel | rfl
  · refine ⟨hcp0,
        (ineWith fun x => { x with nodes := [{ node7 5 with lead := true }], ident := { x.ident with cab := 1 } }), 1,
        ?_⟩ <;> and_intros <;> first | decide +kernel | rfl
  · refine ⟨hcp0, ready, ?_⟩ <;> and_intros <;> first | decide +kernel | rfl
  · refine ⟨hcp0, ready, ?_⟩ <;> and_intros <;> first | decide +kernel | rfl
  · refine ⟨hcp0, ready, ?_⟩ <;> and_intros <;> first | decide +kernel | rfl
  · refine ⟨hcp0, ready, static1, 0, ?_⟩ <;> and_intros <;>
        first | decide +kernel | rfl | (intro i h; cases h)
  · refine ⟨hcp0, withStatic, 1025, 0, ?_⟩ <;> and_intros <;> first | decide +kernel | rfl
  · refine ⟨hcp0, ready, 1, 0, ?_⟩ <;> and_intros <;> first | decide +kernel | rfl

/-- The hypotheses of `TwinPairTransitions`, clause by clause. -/
theorem wit_twin_pair_transitions :
    (∃ (h : Hcp) (s : State) (recs : List Param) (x : Twin),
      accepts { opcode := 0x0708, classC := true, owner := true, features := [14] } h s = true ∧
      applyRecs s twinRec 0 s.ine.twin recs = .ok x ∧ linkIsUp s 95 = false) ∧
    (∃ (h : Hcp) (s : State),
      accepts { opcode := 0x0709, classC := true, owner := true, features := [14] } h s = true ∧
      inaugurating s = false ∧ ((s.ine.twin.state = .active ∨ s.ine.twin.state = .standby))) ∧
    (∃ (s : State), s.ine.twin.state = .active ∧ linkIsUp s 95 = true ∧ s.ine.twin.finalSent = false ∧
      s.ine.twin.imagesOn = true ∧ ((150 ≤ panUs s ∨ s.ine.twin.oddPan = true ∨
      s.ine.twin.atBoundary = some .standby))) ∧
    (∃ (s : State), s.ine.twin.state = .active ∧ linkIsUp s 95 = true ∧ s.ine.twin.finalSent = false ∧
      s.ine.twin.imagesOn = true ∧ panUs s < 150 ∧ s.ine.twin.oddPan = false ∧
      s.ine.twin.atBoundary ≠ some .standby) ∧
    (∃ (s : State), s.ine.twin.state ≠ .active) ∧
    (∃ (s : State), s.ine.twin.state ≠ .active ∧ s.ine.twin.state ≠ .alone) ∧
    (∃ (s : State), s.ine.twin.state ≠ .standby) ∧
    (∃ (s : State), s.ine.twin.state ≠ .syncing) ∧
    (∃ (s : State) (im : TwinImage), s.ine.twin.state = .standby ∧ im.crcOk = true) ∧
    (∃ (s : State) (im : TwinImage), s.ine.twin.state = .standby ∧ im.crcOk = false) ∧
    (∃ (s : State), s.ine.twin.state = .standby) ∧
    (∃ (s : State) (im : TwinImage), s.ine.twin.state = .syncing ∧ im.crcOk = true ∧
      s.mono ≤ s.ine.twin.syncAt + 2000000000 ∧ s.ine.state ≠ .standard) ∧
    (∃ (s : State), s.ine.twin.state = .syncing ∧ max s.mono (s.ine.twin.syncAt + 2000000000) < ltmSilentAt s) ∧
    (∃ (s : State), s.ine.twin.state = .active) ∧
    (∃ (s : State), s.ine.twin.state = .unpaired ∧ s.ine.twin.partner ≠ none ∧ s.glob.fwReady = true ∧
      linkIsUp s 95 = false) ∧
    (∃ (s : State), ((s.ine.twin.state = .active ∨ s.ine.twin.state = .standby))) ∧
    (∃ (s : State), s.ine.twin.atBoundary = none ∧ s.ine.twin.due = true ∧ ((s.ine.twin.state = .active ∨
      s.ine.twin.state = .standby)) ∧ s.mono ≤ s.ine.twin.dueAt + 1000000000 ∧ swapPermitted s = true) ∧
    (∃ (s : State), s.ine.twin.atBoundary = none ∧ s.ine.twin.due = true ∧ ((s.ine.twin.state = .active ∨
      s.ine.twin.state = .standby)) ∧ (s.ine.twin.dueAt + 1000000000 < s.mono ∨ swapPermitted s = false)) ∧
    (∃ (s : State) (r : TwinState), s.ine.twin.atBoundary = some r) ∧
    (∃ (s : State) (r : TwinState), s.ine.twin.atBoundary = some r ∧ s.ine.twin.state = .active ∧ r = .standby) ∧
    (∃ (s : State), ((s.ine.twin.state = .active ∨ s.ine.twin.state = .standby)) ∧ s.ine.twin.due = false) ∧
    (∃ (s : State), ((s.ine.twin.state = .active ∨ s.ine.twin.state = .standby)) ∧ s.ine.twin.due = true) ∧
    (∃ (s : State) (k : Nat) (i : Nat) (x : TxSlot), slotIndex s k = some i ∧ s.css.slots[i]? = some x ∧
      x.shared = false) ∧
    (∃ (s : State) (k : Nat) (i : Nat) (x : TxSlot), slotIndex s k = some i ∧ s.css.slots[i]? = some x ∧
      x.shared = true) ∧
    (∃ (s : State) (k : Nat) (i : Nat) (x : TxSlot) (w : Word) (d : Bytes), slotIndex s k = some i ∧
      s.css.slots[i]? = some x ∧ x.mirrored = some d ∧ x.prodSeq = w) ∧
    (∃ (s : State), s.ine.twin.state = .alone) ∧
    (∃ (s : State) (im : TwinImage), s.ine.twin.state = .standby ∧ im.crcOk = true ∧ im.nodes ≠ [] ∧
      im.sessions.length = 1) ∧
    (∃ (s : State), panRuns s = true) ∧
    (∃ (s : State) (r : TwinState), s.ine.twin.atBoundary = some r ∧ s.ine.twin.state = .active ∧ r = .standby ∧
      panRuns s = true) := by
  refine ⟨?_, ?_, ?_, ?_, ?_, ?_, ?_, ?_, ?_, ?_, ?_, ?_, ?_, ?_, ?_, ?_, ?_, ?_, ?_, ?_, ?_, ?_, ?_, ?_, ?_, ?_, ?_,
    ?_, ?_⟩
  · refine ⟨hcp0, (withLink 95 { up := false }), [], ready.ine.twin, ?_⟩ <;> and_intros <;>
        first | decide +kernel | rfl
  · refine ⟨hcp0, (withTwin .active), ?_⟩ <;> and_intros <;> first | decide +kernel | rfl
  · refine ⟨(withTwin .active), ?_⟩ <;> and_intros <;> first | decide +kernel | rfl
  · refine ⟨{ withTwin .active with css := { ready.css with image := some { image1 with panLen := 125 } } },
        ?_⟩ <;> and_intros <;> first | decide +kernel | rfl
  · refine ⟨ready, ?_⟩ <;> and_intros <;> first | decide +kernel | rfl
  · refine ⟨ready, ?_⟩ <;> and_intros <;> first | decide +kernel | rfl
  · refine ⟨ready, ?_⟩ <;> and_intros <;> first | decide +kernel | rfl
  · refine ⟨ready, ?_⟩ <;> and_intros <;> first | decide +kernel | rfl
  · refine ⟨(withTwin .standby), (twinImg true), ?_⟩ <;> and_intros <;> first | decide +kernel | rfl
  · refine ⟨(withTwin .standby), (twinImg false), ?_⟩ <;> and_intros <;> first | decide +kernel | rfl
  · refine ⟨(withTwin .standby), ?_⟩ <;> and_intros <;> first | decide +kernel | rfl
  · refine ⟨(withTwin .syncing), (twinImg true), ?_⟩ <;> and_intros <;> first | decide +kernel | rfl
  · refine ⟨{ withTwin .syncing with tms := { ready.tms with links := [(4, { peer := some ⟨5, 5, 0, 0, true, false, true, 0, 10 ^ 10⟩ })] } },
        ?_⟩ <;> and_intros <;> first | decide +kernel | rfl
  · refine ⟨(withTwin .active), ?_⟩ <;> and_intros <;> first | decide +kernel | rfl
  · refine ⟨{ withTwin .unpaired with ports := { ready.ports with links := [] } }, ?_⟩ <;> and_intros <;>
        first | decide +kernel | rfl
  · refine ⟨(withTwin .active), ?_⟩ <;> and_intros <;> first | decide +kernel | rfl
  · refine ⟨{ ineWith (fun x => { x with twin := { x.twin with state := .active, partner := some 5, due := true } }) with tms := { ready.tms with links := [(4, { qualified := true })] } },
        ?_⟩ <;> and_intros <;> first | decide +kernel | rfl
  · refine ⟨(ineWith fun x => { x with twin := { x.twin with state := .active, partner := some 5, due := true } }),
        ?_⟩ <;> and_intros <;> first | decide +kernel | rfl
  · refine ⟨(ineWith fun x => { x with twin := { x.twin with state := .standby, partner := some 5, atBoundary := some .active } }),
        .active, ?_⟩ <;> and_intros <;> first | decide +kernel | rfl
  · refine ⟨(ineWith fun x => { x with twin := { x.twin with state := .active, partner := some 5, atBoundary := some .standby } }),
        .standby, ?_⟩ <;> and_intros <;> first | decide +kernel | rfl
  · refine ⟨(withTwin .active), ?_⟩ <;> and_intros <;> first | decide +kernel | rfl
  · refine ⟨(ineWith fun x => { x with twin := { x.twin with state := .active, partner := some 5, due := true } }),
        ?_⟩ <;> and_intros <;> first | decide +kernel | rfl
  · refine ⟨(cssIn .active 0), 5, 0, { slot5 with ready := true, built := some (1, .data 1 []) },
        ?_⟩ <;> and_intros <;> first | decide +kernel | rfl
  · refine ⟨(cssWith fun x => { x with slots := [{ slot5 with shared := true }] }), 5, 0,
        { slot5 with shared := true }, ?_⟩ <;> and_intros <;> first | decide +kernel | rfl
  · refine ⟨{ ready with css := { ready.css with slots := [{ slot5 with mirrored := some [1] }] } }, 5, 0,
        { slot5 with mirrored := some [1] }, 0, [1], ?_⟩ <;> and_intros <;> first | decide +kernel | rfl
  · refine ⟨(withTwin .alone), ?_⟩ <;> and_intros <;> first | decide +kernel | rfl
  · refine ⟨(withTwin .standby), { twinImg true with nodes := [node7 5], sessions := [⟨1, 7, 0, 0, 0⟩] },
        ?_⟩ <;> and_intros <;> first | decide +kernel | rfl
  · refine ⟨{ withTwin .standby with css := { ready.css with slotsRun := true } }, ?_⟩ <;> and_intros <;>
        first | decide +kernel | rfl
  · refine ⟨{ ineWith (fun x => { x with twin := { x.twin with state := .active, partner := some 5, atBoundary := some .standby } }) with css := { ready.css with slotsRun := true } },
        .standby, ?_⟩ <;> and_intros <;> first | decide +kernel | rfl

/-- The hypotheses of `BusesAndTrdpMoveProcessData`, clause by clause. -/
theorem wit_buses_and_trdp_move_process_data :
    (∃ (s : State) (n : Nat) (u : State), mvbRuns s n = true ∧
      u = untilMono s ((mvbOf s n).at_ + (mvbOf s n).basicUs * 1000)) ∧
    (∃ (n : Nat) (r : MapRec), r.next = none ∧ r.entry.bus = .mvb n ∧ r.applied = false) ∧
    (∃ (n : Nat) (r : MapRec) (e : MapEntry), r.next = some e ∧ e.bus = .mvb n) ∧
    (∃ (s : State) (n : Nat) (a : BusData) (k : Nat) (r : MapRec) (v : Bytes), mvbRuns s n = true ∧
      lineHears (mvbOf s n).lineB a = true ∧ liveMap s = [(k, r)] ∧ r.entry.bus = .mvb n ∧ r.entry.source = true ∧
      r.entry.busAddr = a.addr ∧ fieldGet a.data r.entry.bitOffset r.entry.bitLen = some v ∧
      (pdVar s r.entry.var).writer = some (.legacyBus (.mvb n) (k % 4096)) ∧ pdBlocked s r.entry.var = false) ∧
    (∃ (s : State) (n : Nat) (a : BusData) (k : Nat) (r : MapRec) (v : Bytes), mvbRuns s n = true ∧
      lineHears (mvbOf s n).lineB a = true ∧ liveMap s = [(k, r)] ∧ r.entry.bus = .mvb n ∧ r.entry.source = true ∧
      r.entry.busAddr = a.addr ∧ fieldGet a.data r.entry.bitOffset r.entry.bitLen = some v ∧
      (pdVar s r.entry.var).writer ≠ some (.legacyBus (.mvb n) (k % 4096))) ∧
    (∃ (s : State) (n : Nat) (a : BusData), mvbRuns s n = true ∧ lineHears (mvbOf s n).lineB a = false) ∧
    (∃ (s : State) (n : Nat) (d : Nat), mvbRuns s n = true ∧ d = (mvbOf s n).device) ∧
    (∃ (s : State) (n : Nat) (d : Nat), mvbRuns s n = true ∧ d = (mvbOf s n).device ∧
      (mvbOf s n).administrator = true) ∧
    (∃ (s : State) (n : Nat) (d : Nat), mvbRuns s n = true ∧ d ≠ (mvbOf s n).device) ∧
    (∃ (s : State) (n : Nat), mvbRuns s n = true) ∧
    (∃ (s : State) (n : Nat) (g : Nat), mvbRuns s n = true ∧ ((farOf s g).cfg.any fun c => c.port == 88 + n) = true) ∧
    (∃ (s : State) (n : Nat), mvbRuns s n = false) ∧
    (∃ (s : State), s.glob.fwReady = true ∧ ((linkIsUp s 92 = true ∨ linkIsUp s 93 = true))) ∧
    (∃ (s : State) (n : Int) (x : BusData), s.lgb.wtb.inaugurated = true ∧ n ∈ s.lgb.wtb.nodes ∧ x.data.length ≤ 128 ∧
      linkIsUp s (wtbPort n) = true ∧ lineHears (if n < 0 then s.lgb.wtb.lineB1 else s.lgb.wtb.lineB2) x = true) ∧
    (∃ (s : State), s.lgb.wtb.inaugurated = true ∧ ((linkIsUp s 92 = true ∨ linkIsUp s 93 = true))) ∧
    (∃ (s : State) (f : TrdpFrame), f.etbTopo ≠ 0 ∧ f.etbTopo ≠ s.ine.topo) ∧
    (∃ (s : State) (f : TrdpFrame) (b : Bytes), ((f.etbTopo = 0 ∨ f.etbTopo = s.ine.topo)) ∧ f.isRequest = true ∧
      dataset s f.comid ≠ [] ∧ datasetBytes s f.comid = some b) ∧
    (∃ (s : State) (f : TrdpFrame) (x : TrdpSub), ((f.etbTopo = 0 ∨ f.etbTopo = s.ine.topo)) ∧ f.isRequest = false ∧
      f.data.length ≤ 1432 ∧ s.lgb.subs.filter (fun y => y.comid == f.comid) = [x] ∧ x.src = f.src ∧
      (pdVar s x.var).writer = some (.trdp f.comid f.src) ∧ x.offset + (pdVar s x.var).len ≤ f.data.length ∧
      pdBlocked s x.var = false) ∧
    (∃ (s : State) (f : TrdpFrame) (x : TrdpSub), ((f.etbTopo = 0 ∨ f.etbTopo = s.ine.topo)) ∧ f.isRequest = false ∧
      f.data.length ≤ 1432 ∧ subsFor s f = [x] ∧ (pdVar s x.var).writer ≠ some (.trdp f.comid f.src)) ∧
    (∃ (s : State) (b : Bus) (i : Nat) (k : Nat) (r : MapRec) (u : Nat),
      (liveMap s).find? (fun e => e.1 == mapKey b i && e.2.entry.bus == b) = some (k, r) ∧ r.entry.source = true ∧
      r.entry.ethKind = .trdp ∧ ethDue s r = some u) ∧
    (∃ (s : State) (c : Word), datasetBytes s c = none) ∧
    (∃ (s : State) (c : Word) (d : Bytes), datasetBytes s c = some d) ∧
    (∃ (s : State) (n : Nat) (i : Nat) (k : Nat) (r : MapRec) (d : Bytes),
      (liveMap s).find? (fun e => e.1 == mapKey (.mvb n) i && e.2.entry.bus == .mvb n) = some (k, r) ∧
      r.entry.bus = .mvb n ∧ mvbRuns s n = true ∧ r.entry.source = false ∧ r.entry.ethKind = .none ∧
      mvbPortData s (.mvb n) r.entry.busAddr = some d) ∧
    (∃ (s : State) (v : Nat) (m : Nat), (pdVar s v).timeout = some m ∧ (∀ w,
      (pdVar s v).writer ≠ some (.cssWindow w)) ∧ (pdVar s v).stale = false ∧ (pdVar s v).len ≠ 0) := by
  refine ⟨?_, ?_, ?_, ?_, ?_, ?_, ?_, ?_, ?_, ?_, ?_, ?_, ?_, ?_, ?_, ?_, ?_, ?_, ?_, ?_, ?_, ?_, ?_, ?_⟩
  · refine ⟨ready, 0, (untilMono ready ((mvbOf ready 0).at_ + (mvbOf ready 0).basicUs * 1000)), ?_⟩ <;> and_intros <;>
        first | decide +kernel | rfl
  · refine ⟨0, { mapR (mapE true .none) with applied := false }, ?_⟩ <;> and_intros <;> first | decide +kernel | rfl
  · refine ⟨0, { mapR (mapE true .none) with next := some (mapE true .none) }, (mapE true .none),
        ?_⟩ <;> and_intros <;> first | decide +kernel | rfl
  · refine ⟨(withMap (mapE true .none) (.legacyBus (.mvb 0) 0)), 0, (⟨5, [1, 2], true, true⟩), 0,
        (mapR (mapE true .none)), [1, 2], ?_⟩ <;> and_intros <;> first | decide +kernel | rfl
  · refine ⟨(withMap (mapE true .none) .mgp), 0, (⟨5, [1, 2], true, true⟩), 0, (mapR (mapE true .none)), [1, 2],
        ?_⟩ <;> and_intros <;> first | decide +kernel | rfl
  · refine ⟨ready, 0, (⟨5, [], false, true⟩), ?_⟩ <;> and_intros <;> first | decide +kernel | rfl
  · refine ⟨ready, 0, 0, ?_⟩ <;> and_intros <;> first | decide +kernel | rfl
  · refine ⟨(lgbWith fun x => { x with mvb := [(0, { administrator := true })] }), 0, 0, ?_⟩ <;> and_intros <;>
        first | decide +kernel | rfl
  · refine ⟨ready, 0, 1, ?_⟩ <;> and_intros <;> first | decide +kernel | rfl
  · refine ⟨ready, 0, ?_⟩ <;> and_intros <;> first | decide +kernel | rfl
  · refine ⟨(farWith fun y => { y with targets := [(0, { cfg := some { farC with port := 88 } })] }), 0, 0,
        ?_⟩ <;> and_intros <;> first | decide +kernel | rfl
  · refine ⟨ready, 4, ?_⟩ <;> and_intros <;> first | decide +kernel | rfl
  · refine ⟨ready, ?_⟩ <;> and_intros <;> first | decide +kernel | rfl
  · refine ⟨{ withWtb with ports := { ready.ports with links := [(wtbPort 3, { up := true })] } }, 3,
        (⟨3, [], true, true⟩), ?_⟩ <;> and_intros <;> first | decide +kernel | rfl
  · refine ⟨withWtb, ?_⟩ <;> and_intros <;> first | decide +kernel | rfl
  · refine ⟨ready, (⟨0x100, 9, 7, false, []⟩), ?_⟩ <;> and_intros <;> first | decide +kernel | rfl
  · refine ⟨(withMap (mapE false .trdp) .mgp), (⟨0x100, 9, 0, true, []⟩), [1, 2], ?_⟩ <;> and_intros <;>
        first | decide +kernel | rfl
  · refine ⟨withSub, (⟨0x100, 9, 0, false, [1, 2]⟩), (⟨0x100, 9, 3, 0⟩), ?_⟩ <;> and_intros <;>
        first | decide +kernel | rfl
  · refine ⟨(lgbWith fun x => { x with subs := [⟨0x100, 9, 3, 0⟩], vars := [(3, { len := 2, writer := some .mgp, value := [1, 2] })] }),
        (⟨0x100, 9, 0, false, [1, 2]⟩), (⟨0x100, 9, 3, 0⟩), ?_⟩ <;> and_intros <;> first | decide +kernel | rfl
  · refine ⟨(withMap (mapE true .trdp) .mgp), (.mvb 0), 0, 0, (mapR (mapE true .trdp)), 10000000,
        ?_⟩ <;> and_intros <;> first | decide +kernel | rfl
  · refine ⟨(lgbWith fun x => { x with map := [(0, some (mapR { mapE false .trdp with onStale := .suppress }))] }),
        0x100, ?_⟩ <;> and_intros <;> first | decide +kernel | rfl
  · refine ⟨ready, 0, [], ?_⟩ <;> and_intros <;> first | decide +kernel | rfl
  · refine ⟨(withMap (mapE false .none) .mgp), 0, 0, 0, (mapR (mapE false .none)), [1, 2], ?_⟩ <;> and_intros <;>
        first | decide +kernel | rfl
  · refine ⟨withTimeout, 3, 5, ?_⟩ <;> and_intros <;>
        first | decide +kernel | rfl | (intro w h; cases h)

/-- The hypotheses of `BridgeAndProcessDataCommands`, clause by clause. -/
theorem wit_bridge_and_process_data_commands :
    (∃ (h : Hcp) (s : State) (c : LgbConfig),
      accepts { opcode := 0x0801, classC := true, owner := true, features := busFeature (lgbBus c) } h s = true ∧
      lgbBad c = none) ∧
    (∃ (h : Hcp) (s : State) (c : LgbConfig) (i : Nat),
      accepts { opcode := 0x0801, classC := true, owner := true, features := busFeature (lgbBus c) } h s = true ∧
      lgbBad c = some i) ∧
    (∃ (m : Nat), m ≠ 0) ∧
    (∃ (p : Nat) (d : Nat) (b : Nat) (l : List MasterFrame) (g : List Nat), p < 4 ∧ d < 4096 ∧ ((b = 1000 ∨
      b = 2000)) ∧ l.length ≤ 4096 ∧ (∀ x ∈ l, x.addr < 4096 ∧ x.log2 ≤ 10) ∧ g.length ≤ 16 ∧ (∀ x ∈ g, x < 4096)) ∧
    (∃ (h : Hcp) (s : State) (e : MapEntry) (k : Nat),
      accepts { opcode := 0x0802, classC := true, owner := true, features := busFeature e.bus } h s = true ∧
      entryBad s e = some k) ∧
    (∃ (h : Hcp) (s : State) (i : Nat) (e : MapEntry),
      accepts { opcode := 0x0802, classC := true, owner := true, features := busFeature e.bus } h s = true ∧
      entryBad s e = none ∧ i < 4096 ∧ e.source = true ∧ (pdVar s e.var).writer ≠ some (.legacyBus e.bus i)) ∧
    (∃ (h : Hcp) (s : State) (i : Nat) (e : MapEntry),
      accepts { opcode := 0x0802, classC := true, owner := true, features := busFeature e.bus } h s = true ∧
      entryBad s e = none ∧ i < 4096 ∧ ((e.source = true → (pdVar s e.var).writer = some (.legacyBus e.bus i)))) ∧
    (∃ (h : Hcp) (s : State) (b : Bus) (i : Nat) (r : MapRec),
      accepts { opcode := 0x0803, classC := true, owner := true, features := busFeature b } h s = true ∧
      busOk b = true ∧ i < 4096 ∧ tget none s.lgb.map (mapKey b i) = some r ∧ (r.next.getD r.entry).bus = b) ∧
    (∃ (h : Hcp) (s : State) (l : List TrdpSub),
      accepts { opcode := 0x0804, classC := true, owner := true } h s = true ∧ (∀ x ∈ l, x.var < 8192 ∧
      x.offset < 1432)) ∧
    (∃ (h : Hcp) (s : State) (v : Nat) (n : Nat) (w : Writer) (a : Nat),
      accepts { opcode := 0x0805, classC := true, owner := true } h s = true ∧ v < 8192 ∧ n ≠ 0 ∧ n ≤ 128 ∧
      writerOk w = true ∧ pdUsed s - pdBytes (pdVar s v).len + pdBytes n ≤ 524288 ∧ (((∀ k, w ≠ .cssWindow k) →
      a = (pdVar s v).agePans)) ∧ ((∀ k, w = .cssWindow k →
      a = ((s.css.windows[k]?).map fun y => y.age).getD (pdVar s v).agePans)) ∧ (pdVar s v).len = n) ∧
    (∃ (h : Hcp) (s : State) (v : Nat) (n : Nat) (w : Writer) (a : Nat),
      accepts { opcode := 0x0805, classC := true, owner := true } h s = true ∧ v < 8192 ∧ n ≠ 0 ∧ n ≤ 128 ∧
      writerOk w = true ∧ pdUsed s - pdBytes (pdVar s v).len + pdBytes n ≤ 524288 ∧ (((∀ k, w ≠ .cssWindow k) →
      a = (pdVar s v).agePans)) ∧ ((∀ k, w = .cssWindow k →
      a = ((s.css.windows[k]?).map fun y => y.age).getD (pdVar s v).agePans)) ∧ (pdVar s v).len ≠ n) ∧
    (∃ (h : Hcp) (s : State) (v : Nat), accepts { opcode := 0x0806 } h s = true ∧ hasRight s h.tenant 6 = true ∧
      v < 8192 ∧ (pdVar s v).len ≠ 0 ∧ (pdVar s v).writer ≠ some (.tenant h.tenant)) ∧
    (∃ (h : Hcp) (s : State) (v : Nat) (d : Bytes), accepts { opcode := 0x0806 } h s = true ∧
      hasRight s h.tenant 6 = true ∧ v < 8192 ∧ (pdVar s v).len ≠ 0 ∧ (pdVar s v).writer = some (.tenant h.tenant) ∧
      d.length = (pdVar s v).len ∧ pdBlocked s v = false) ∧
    (∃ (h : Hcp) (s : State) (v : Nat), accepts { opcode := 0x0807 } h s = true ∧ hasRight s h.tenant 6 = true ∧
      v < 8192 ∧ (pdVar s v).len ≠ 0) ∧
    (∃ (h : Hcp) (s : State) (b : Bus) (i : Nat), accepts { opcode := 0x0808, features := busFeature b } h s = true ∧
      busOk b = true ∧ i < 4096) := by
  refine ⟨?_, ?_, ?_, ?_, ?_, ?_, ?_, ?_, ?_, ?_, ?_, ?_, ?_, ?_, ?_⟩
  · refine ⟨hcp0, ready, (.wtb .weak 25), ?_⟩ <;> and_intros <;> first | decide +kernel | rfl
  · refine ⟨hcp0, ready, (.mvb 4 false 1 1000 [] []), 0, ?_⟩ <;> and_intros <;> first | decide +kernel | rfl
  · refine ⟨1, ?_⟩ <;> and_intros <;> first | decide +kernel | rfl
  · refine ⟨0, 0, 1000, [], [], ?_⟩ <;> and_intros <;> first | decide +kernel | rfl
  · refine ⟨hcp0, (withMap (mapE true .none) .mgp), { mapE true .none with bitOffset := 2000 }, 3,
        ?_⟩ <;> and_intros <;> first | decide +kernel | rfl
  · refine ⟨hcp0, (withMap (mapE true .none) .mgp), 0, (mapE true .none), ?_⟩ <;> and_intros <;>
        first | decide +kernel | rfl
  · refine ⟨hcp0, (withMap (mapE true .none) (.legacyBus (.mvb 0) 0)), 0, (mapE true .none), ?_⟩ <;> and_intros <;>
        first | decide +kernel | rfl
  · refine ⟨hcp0, (withMap (mapE true .none) .mgp), (.mvb 0), 0, (mapR (mapE true .none)), ?_⟩ <;> and_intros <;>
        first | decide +kernel | rfl
  · refine ⟨hcp0, ready, [], ?_⟩ <;> and_intros <;> first | decide +kernel | rfl
  · refine ⟨hcp0, (withMap (mapE true .none) .mgp), 3, 2, .mgp, 0, ?_⟩ <;> and_intros <;>
        first | decide +kernel | (intro _; rfl) | (intro k h; cases h)
  · refine ⟨hcp0, (withMap (mapE true .none) .mgp), 3, 4, .mgp, 0, ?_⟩ <;> and_intros <;>
        first | decide +kernel | (intro _; rfl) | (intro k h; cases h)
  · refine ⟨hcp0, (withMap (mapE true .none) .mgp), 3, ?_⟩ <;> and_intros <;> first | decide +kernel | rfl
  · refine ⟨hcp0, (withMap (mapE true .none) (.tenant 0)), 3, [1, 2], ?_⟩ <;> and_intros <;>
        first | decide +kernel | rfl
  · refine ⟨hcp0, (withMap (mapE true .none) .mgp), 3, ?_⟩ <;> and_intros <;> first | decide +kernel | rfl
  · refine ⟨hcp0, ready, (.mvb 0), 0, ?_⟩ <;> and_intros <;> first | decide +kernel | rfl

/-- The hypotheses of `FarAccessesAreQueuedSentAndAnswered`, clause by clause. -/
theorem wit_far_accesses_are_queued_sent_and_answered :
    (∃ (h : Hcp) (s : State) (f : Nat) (c : Option FarCfg) (x : FarCfg) (i : Nat),
      accepts { opcode := 0x0809, classC := true, owner := true, features := [11] } h s = true ∧ f < 256 ∧
      (farOf s f).queue = [] ∧ c = some x ∧ farCfgBad s x = some i) ∧
    (∃ (h : Hcp) (s : State) (f : Nat) (c : Option FarCfg),
      accepts { opcode := 0x0809, classC := true, owner := true, features := [11] } h s = true ∧ f < 256 ∧
      (farOf s f).queue = [] ∧ ((∀ x, c = some x → farCfgBad s x = none))) ∧
    (∃ (h : Hcp) (s : State) (f : Nat) (a : Nat) (n : Nat) (c : FarCfg), hasRight s h.tenant 7 = true ∧ f < 256 ∧
      (farOf s f).cfg = some c ∧ farPortUp s c = true ∧ accepts { opcode := 0x080A, features := [11] } h s = true ∧
      n ≠ 0 ∧ a + n ≤ c.size) ∧
    (∃ (h : Hcp) (s : State) (f : Nat) (a : Nat) (n : Nat) (c : FarCfg), hasRight s h.tenant 7 = true ∧ f < 256 ∧
      (farOf s f).cfg = some c ∧ farPortUp s c = true ∧ accepts { opcode := 0x080A, features := [11] } h s = true ∧
      n ≠ 0 ∧ c.size < a + n) ∧
    (∃ (h : Hcp) (s : State) (f : Nat) (a : Nat) (n : Nat) (c : FarCfg) (d : Bytes), hasRight s h.tenant 7 = true ∧
      f < 256 ∧ (farOf s f).cfg = some c ∧ farPortUp s c = true ∧
      accepts { opcode := 0x080B, classC := true, features := [11] } h s = true ∧ d.length = n ∧ n ≠ 0 ∧
      a + n ≤ c.size) ∧
    (∃ (h : Hcp) (s : State) (f : Nat) (a : Nat) (n : Nat) (c : FarCfg) (d : Bytes), hasRight s h.tenant 7 = true ∧
      f < 256 ∧ (farOf s f).cfg = some c ∧ farPortUp s c = true ∧
      accepts { opcode := 0x080B, classC := true, features := [11] } h s = true ∧ d.length = n ∧ n ≠ 0 ∧
      c.size < a + n) ∧
    (∃ (s : State) (f : Nat) (a : Nat) (n : Nat) (c : FarCfg), f < 256 ∧ (farOf s f).cfg = some c ∧
      farPortUp s c = true ∧ 4 ≤ n ∧ n ≤ 64 ∧ a / 64 = (a + n - 1) / 64 ∧ a + n ≤ c.size ∧ heldReads s < 24) ∧
    (∃ (s : State) (f : Nat) (a : Nat) (n : Nat) (c : FarCfg), f < 256 ∧ (farOf s f).cfg = some c ∧
      farPortUp s c = true ∧ ((n < 4 ∨ 64 < n ∨ c.size < a + n))) ∧
    (∃ (s : State) (f : Nat) (a : Nat) (n : Nat) (c : FarCfg) (d : Bytes), f < 256 ∧ (farOf s f).cfg = some c ∧
      farPortUp s c = true ∧ d.length = n ∧ n ≠ 0 ∧ a + n ≤ c.size) ∧
    (∃ (s : State) (f : Nat) (c : FarCfg) (a : FarAcc) (r : List FarAcc), (farOf s f).cfg = some c ∧
      (farOf s f).txn = none ∧ farPortUp s c = true ∧ farNext (farOf s f) = some (a, r) ∧ a.sent < a.len ∧
      s.mono < a.at_ + farTimeoutNs c ∧ farRoom s c a (min (farChunk c.port) (a.len - a.sent)) = false) ∧
    (∃ (s : State) (f : Nat) (c : FarCfg) (a : FarAcc) (r : List FarAcc), (farOf s f).cfg = some c ∧
      (farOf s f).txn = none ∧ farPortUp s c = true ∧ farNext (farOf s f) = some (a, r) ∧ a.sent < a.len ∧
      s.mono < a.at_ + farTimeoutNs c ∧ farRoom s c a (min (farChunk c.port) (a.len - a.sent)) = true) ∧
    (∃ (x : FarTarget) (a : FarAcc) (r : List FarAcc), x.queue = a :: r ∧ (a.sent ≠ 0 ∨ lockLets x a = true)) ∧
    (∃ (x : FarTarget) (a : FarAcc) (r : List FarAcc) (b : FarAcc), x.queue = a :: r ∧ a.sent = 0 ∧
      lockLets x a = false ∧ r.find? (lockLets x) = some b) ∧
    (∃ (u : State) (c : FarCfg) (x : FarTxn), portKind c.port = .sg ∧
      (let r : Routed := { cls := pcpClass (tget ({} : TagPort) u.fab.tags 97).pcp, tenant := c.owner, stream := none, conforming := false, vid := frameVid u 97 (farFrame u c x), frame := farFrame u c x, ports := [c.port] }; (let v := countGot u 97 r.frame.len; (routedAlloc v 97 r).sharedCells = 0 ∧
      ((∀ h : Held, h.frame = r.frame → h.ingress = 97 → h.rcts = prpNumbers v r.frame [c.port] →
      egressReason v c.port r (egressFrame v c.port h).len = none))))) ∧
    (∃ (s : State) (f : Nat) (c : FarCfg) (x : FarTxn), (farOf s f).cfg = some c ∧ (farOf s f).txn = some x ∧
      x.resends < 3 ∧ farPortUp s c = true) ∧
    (∃ (s : State) (f : Nat) (x : FarTxn) (a : FarAcc) (r : List FarAcc) (m : FarResp), (farOf s f).txn = some x ∧
      (farOf s f).queue = a :: r ∧ answers x m = true ∧ m.status = 0 ∧ a.answered + x.len < a.len) ∧
    (∃ (s : State) (f : Nat) (x : FarTxn) (a : FarAcc) (r : List FarAcc) (m : FarResp) (h : Hcp),
      (farOf s f).txn = some x ∧ (farOf s f).queue = a :: r ∧ answers x m = true ∧ m.status = 0 ∧ a.hcp = some h ∧
      a.isRead = true ∧ x.isRead = true ∧ a.len ≤ a.answered + x.len) ∧
    (∃ (s : State) (f : Nat) (x : FarTxn) (a : FarAcc) (r : List FarAcc) (m : FarResp) (h : Hcp),
      (farOf s f).txn = some x ∧ (farOf s f).queue = a :: r ∧ answers x m = true ∧ m.status ≠ 0 ∧ a.hcp = some h) ∧
    (∃ (s : State) (f : Nat) (x : FarTxn) (a : FarAcc) (r : List FarAcc) (m : FarResp), (farOf s f).txn = some x ∧
      (farOf s f).queue = a :: r ∧ answers x m = false) ∧
    (∃ (x : FarTxn) (m : FarResp), answers x m = true) ∧
    (∃ (x : FarTxn) (m : FarResp), answers x m = true ∧ x.isRead = true ∧ m.status = 0) ∧
    (∃ (s : State) (f : Nat) (c : FarCfg) (a : FarAcc) (r : List FarAcc), (farOf s f).cfg = some c ∧
      (farOf s f).queue = a :: r ∧ ((∀ b, b ∈ r → a.at_ ≤ b.at_))) ∧
    (∃ (s : State) (f : Nat) (g : Nat) (u : Nat), tget 0 (farOf s f).reserved g = u + 1) := by
  refine ⟨?_, ?_, ?_, ?_, ?_, ?_, ?_, ?_, ?_, ?_, ?_, ?_, ?_, ?_, ?_, ?_, ?_, ?_, ?_, ?_, ?_, ?_, ?_⟩
  · refine ⟨hcp0, ready, 0, (some { farC with size := 0 }), { farC with size := 0 }, 6, ?_⟩ <;> and_intros <;>
        first | decide +kernel | rfl
  · refine ⟨hcp0, ready, 0, (some farC), ?_⟩ <;> and_intros <;>
        first | decide +kernel | rfl | (intro x h; cases h; decide +kernel)
  · refine ⟨hcp0, (withFar {}), 0, 0, 64, farC, ?_⟩ <;> and_intros <;> first | decide +kernel | rfl
  · refine ⟨hcp0, (withFar {}), 0, 0x1000, 64, farC, ?_⟩ <;> and_intros <;> first | decide +kernel | rfl
  · refine ⟨hcp0, (withFar {}), 0, 0, 1, farC, [1], ?_⟩ <;> and_intros <;> first | decide +kernel | rfl
  · refine ⟨hcp0, (withFar {}), 0, 0x1000, 1, farC, [1], ?_⟩ <;> and_intros <;> first | decide +kernel | rfl
  · refine ⟨(withFar {}), 0, 0, 64, farC, ?_⟩ <;> and_intros <;> first | decide +kernel | rfl
  · refine ⟨(withFar {}), 0, 0, 3, farC, ?_⟩ <;> and_intros <;> first | decide +kernel | rfl
  · refine ⟨(withFar {}), 0, 0, 1, farC, [1], ?_⟩ <;> and_intros <;> first | decide +kernel | rfl
  · refine ⟨(farWith fun y => { y with targets := [(0, { cfg := some farC, queue := [acc1 100] }), (1, { cfg := some farC, txn := some { txn1 with len := 49152 } })] }),
        0, farC, (acc1 100), [], ?_⟩ <;> and_intros <;> first | decide +kernel | rfl
  · refine ⟨(withFar { queue := [acc1 100] }), 0, farC, (acc1 100), [], ?_⟩ <;> and_intros <;>
        first | decide +kernel | rfl
  · refine ⟨{ queue := [acc1 4] }, (acc1 4), [], ?_⟩ <;> and_intros <;> first | decide +kernel | rfl
  · refine ⟨{ queue := [acc1 4, { acc1 4 with path := .bar0 }], lock := some (lockOf .bar0) }, (acc1 4),
        [{ acc1 4 with path := .bar0 }], { acc1 4 with path := .bar0 }, ?_⟩ <;> and_intros <;>
        first | decide +kernel | rfl
  · refine ⟨ready, farC, txn1, ?_⟩ <;> and_intros <;>
        first | decide +kernel | rfl | (intro h h1 h2 h3; rw [egressFrame_congr _ _ h { held7 with frame := _, ingress := _, rcts := _ } h1 h2 h3]; decide +kernel)
  · refine ⟨(openAcc 100), 0, farC, txn1, ?_⟩ <;> and_intros <;> first | decide +kernel | rfl
  · refine ⟨(openAcc 100), 0, txn1, (acc1 100), [], (⟨0x81, 7, 0, 64, List.replicate 64 0⟩), ?_⟩ <;> and_intros <;>
        first | decide +kernel | rfl
  · refine ⟨(openAcc 64), 0, txn1, (acc1 64), [], (⟨0x81, 7, 0, 64, List.replicate 64 0⟩), hcp0,
        ?_⟩ <;> and_intros <;> first | decide +kernel | rfl
  · refine ⟨(openAcc 100), 0, txn1, (acc1 100), [], (⟨0x81, 7, 1, 0, []⟩), hcp0, ?_⟩ <;> and_intros <;>
        first | decide +kernel | rfl
  · refine ⟨(openAcc 100), 0, txn1, (acc1 100), [], (⟨0x81, 8, 0, 0, []⟩), ?_⟩ <;> and_intros <;>
        first | decide +kernel | rfl
  · refine ⟨txn1, (⟨0x81, 7, 1, 0, []⟩), ?_⟩ <;> and_intros <;> first | decide +kernel | rfl
  · refine ⟨txn1, (⟨0x81, 7, 0, 64, List.replicate 64 0⟩), ?_⟩ <;> and_intros <;> first | decide +kernel | rfl
  · refine ⟨(openAcc 100), 0, farC, (acc1 100), [], ?_⟩ <;> and_intros <;> first | decide +kernel | rfl
  · refine ⟨(withFar { reserved := [(7, 5)] }), 0, 7, 4, ?_⟩ <;> and_intros <;> first | decide +kernel | rfl

/-- The hypotheses of `FarLocksAndCanReception`, clause by clause. -/
theorem wit_far_locks_and_can_reception :
    (∃ (h : Hcp) (s : State) (f : Nat) (k : Nat) (l : Nat),
      accepts { opcode := 0x080C, features := [11] } h s = true ∧ hasRight s h.tenant 7 = true ∧ f < 256 ∧ k < 65536 ∧
      l ≠ 0 ∧ l ≤ 1000 ∧ (farOf s f).cfg ≠ none ∧ (farOf s f).lock = none ∧ (farOf s f).waiters = []) ∧
    (∃ (h : Hcp) (s : State) (f : Nat) (k : Nat) (l : Nat) (x : FarLockRec),
      accepts { opcode := 0x080C, features := [11] } h s = true ∧ hasRight s h.tenant 7 = true ∧ f < 256 ∧ k < 65536 ∧
      l ≠ 0 ∧ l ≤ 1000 ∧ (farOf s f).cfg ≠ none ∧ (farOf s f).lock = some x ∧ x.path = .tenant h.tenant ∧
      x.token = k) ∧
    (∃ (h : Hcp) (s : State) (f : Nat) (k : Nat) (l : Nat) (x : FarLockRec),
      accepts { opcode := 0x080C, features := [11] } h s = true ∧ hasRight s h.tenant 7 = true ∧ f < 256 ∧ k < 65536 ∧
      l ≠ 0 ∧ l ≤ 1000 ∧ (farOf s f).cfg ≠ none ∧ (farOf s f).lock = some x ∧ x.path ≠ .tenant h.tenant) ∧
    (∃ (h : Hcp) (s : State) (f : Nat) (k : Nat) (x : FarLockRec),
      accepts { opcode := 0x080D, features := [11] } h s = true ∧ hasRight s h.tenant 7 = true ∧ f < 256 ∧
      (farOf s f).lock = some x ∧ x.path = .tenant h.tenant ∧ x.token = k ∧ (farOf s f).waiters = []) ∧
    (∃ (h : Hcp) (s : State) (f : Nat) (k : Nat), accepts { opcode := 0x080D, features := [11] } h s = true ∧
      hasRight s h.tenant 7 = true ∧ f < 256 ∧ (farOf s f).lock = none ∧
      (farOf s f).released = some (.tenant h.tenant, k)) ∧
    (∃ (h : Hcp) (s : State) (f : Nat), accepts { opcode := 0x080D, features := [11] } h s = true ∧
      hasRight s h.tenant 7 = true ∧ f < 256 ∧ (farOf s f).lock = none ∧ (farOf s f).released = none) ∧
    (∃ (s : State) (f : Nat) (v : Word), f < 256 ∧ v.toNat % 65536 ≠ 0 ∧ v.toNat % 65536 ≤ 1000 ∧
      (farOf s f).lock = none) ∧
    (∃ (s : State) (f : Nat) (v : Word) (x : FarLockRec), f < 256 ∧ v.toNat % 65536 = 0 ∧ (farOf s f).lock = some x ∧
      x.path = .bar0 ∧ x.token = v.toNat / 65536 ∧ (farOf s f).waiters = []) ∧
    (∃ (s : State) (f : Nat) (v : Word) (x : FarLockRec), f < 256 ∧ v.toNat % 65536 = 0 ∧ (farOf s f).lock = some x ∧
      (x.path ≠ .bar0 ∨ x.token ≠ v.toNat / 65536)) ∧
    (∃ (s : State) (f : Nat) (x : FarLockRec), (farOf s f).lock = some x ∧ (farOf s f).waiters = []) ∧
    (∃ (s : State) (f : Nat) (x : FarLockRec) (w : FarLockReq) (r : List FarLockReq), (farOf s f).lock = some x ∧
      (farOf s f).waiters = w :: r ∧ w.hcp = none ∧ ((∀ v ∈ r, v.path ≠ w.path ∨ v.token ≠ w.token))) ∧
    (∃ (s : State) (p : Nat), ((portKind p ≠ .can ∨ linkIsUp s p = false))) ∧
    (∃ (s : State) (p : Nat) (phy : List PhyCount), portKind p = .can ∧ linkIsUp s p = true ∧
      phy.any (phyCounts s p) = true) ∧
    (∃ (s : State) (p : Nat) (r : CanRecord), portKind p = .can ∧ linkIsUp s p = true ∧
      canFormatOk (canOf s (p - 80)) r.format = false) ∧
    (∃ (s : State) (p : Nat) (r : CanRecord), portKind p = .can ∧ linkIsUp s p = true ∧
      canFormatOk (canOf s (p - 80)) r.format = true ∧ canData (canOf s (p - 80)) < r.data.length) ∧
    (∃ (s : State) (p : Nat) (r : CanRecord), portKind p = .can ∧ linkIsUp s p = true ∧
      canFormatOk (canOf s (p - 80)) r.format = true ∧ r.data.length ≤ canData (canOf s (p - 80)) ∧
      (let first := ((canOf s (p - 80)).accept.filterMap fun e => e.2.map fun a => (e.1, a)).find? fun e => canMatches e.2 r; first = none)) ∧
    (∃ (s : State) (p : Nat) (r : CanRecord) (i : Nat) (e : CanAccept), portKind p = .can ∧ linkIsUp s p = true ∧
      canFormatOk (canOf s (p - 80)) r.format = true ∧ r.data.length ≤ canData (canOf s (p - 80)) ∧
      (let first := ((canOf s (p - 80)).accept.filterMap fun e => e.2.map fun a => (e.1, a)).find? fun e => canMatches e.2 r; first = some (i,
      e) ∧ e.dest = .discard)) ∧
    (∃ (s : State) (p : Nat) (r : CanRecord) (i : Nat) (e : CanAccept) (g : Nat) (x : FarTarget), portKind p = .can ∧
      linkIsUp s p = true ∧ canFormatOk (canOf s (p - 80)) r.format = true ∧
      r.data.length ≤ canData (canOf s (p - 80)) ∧
      (let first := ((canOf s (p - 80)).accept.filterMap fun e => e.2.map fun a => (e.1, a)).find? fun e => canMatches e.2 r; first = some (i,
      e) ∧ e.dest = .farWindow ∧
      (s.far.targets.find? fun t => t.2.cfg.any fun c => c.port == p && c.canResp == r.ident) = some (g, x))) ∧
    (∃ (s : State) (p : Nat) (r : CanRecord) (i : Nat) (e : CanAccept) (k : Nat) (n : Nat) (q : Nat),
      portKind p = .can ∧ linkIsUp s p = true ∧ canFormatOk (canOf s (p - 80)) r.format = true ∧
      r.data.length ≤ canData (canOf s (p - 80)) ∧
      (let first := ((canOf s (p - 80)).accept.filterMap fun e => e.2.map fun a => (e.1, a)).find? fun e => canMatches e.2 r; first = some (i,
      e) ∧ e.dest = .steer k ∧ tget none s.host.steering k = some (n, q) ∧
      (tget ({} : HostQueue) (tenant s n).rxq q).enabled = true)) := by
  refine ⟨?_, ?_, ?_, ?_, ?_, ?_, ?_, ?_, ?_, ?_, ?_, ?_, ?_, ?_, ?_, ?_, ?_, ?_, ?_⟩
  · refine ⟨hcp0, (withFar {}), 0, 5, 10, ?_⟩ <;> and_intros <;> first | decide +kernel | rfl
  · refine ⟨hcp0, (withFar { lock := some (lockOf (.tenant 0)) }), 0, 5, 10, (lockOf (.tenant 0)),
        ?_⟩ <;> and_intros <;> first | decide +kernel | rfl
  · refine ⟨hcp0, (withFar { lock := some (lockOf .bar0) }), 0, 5, 10, (lockOf .bar0), ?_⟩ <;> and_intros <;>
        first | decide +kernel | rfl
  · refine ⟨hcp0, (withFar { lock := some (lockOf (.tenant 0)) }), 0, 5, (lockOf (.tenant 0)), ?_⟩ <;> and_intros <;>
        first | decide +kernel | rfl
  · refine ⟨hcp0, (withFar { released := some (.tenant 0, 5) }), 0, 5, ?_⟩ <;> and_intros <;>
        first | decide +kernel | rfl
  · refine ⟨hcp0, (withFar {}), 0, ?_⟩ <;> and_intros <;> first | decide +kernel | rfl
  · refine ⟨(withFar {}), 0, 10, ?_⟩ <;> and_intros <;> first | decide +kernel | rfl
  · refine ⟨(withFar { lock := some (lockOf .bar0) }), 0, 0x50000, (lockOf .bar0), ?_⟩ <;> and_intros <;>
        first | decide +kernel | rfl
  · refine ⟨(withFar { lock := some (lockOf .bar0) }), 0, 0x60000, (lockOf .bar0), ?_⟩ <;> and_intros <;>
        first | decide +kernel | rfl
  · refine ⟨(withFar { lock := some (lockOf .bar0) }), 0, (lockOf .bar0), ?_⟩ <;> and_intros <;>
        first | decide +kernel | rfl
  · refine ⟨(withFar { lock := some (lockOf .bar0), waiters := [waiter1] }), 0, (lockOf .bar0), waiter1, [],
        ?_⟩ <;> and_intros <;> first | decide +kernel | rfl
  · refine ⟨ready, 0, ?_⟩ <;> and_intros <;> first | decide +kernel | rfl
  · refine ⟨ready, 80, [.canBit], ?_⟩ <;> and_intros <;> first | decide +kernel | rfl
  · refine ⟨ready, 80, { can1 4 with format := 2 }, ?_⟩ <;> and_intros <;> first | decide +kernel | rfl
  · refine ⟨ready, 80, (can1 65), ?_⟩ <;> and_intros <;> first | decide +kernel | rfl
  · refine ⟨ready, 80, (can1 1), ?_⟩ <;> and_intros <;> first | decide +kernel | rfl
  · refine ⟨(withAccept .discard), 80, (can1 1), 0, (accept1 .discard), ?_⟩ <;> and_intros <;>
        first | decide +kernel | rfl
  · refine ⟨{ withAccept .farWindow with far := { ready.far with targets := [(0, { cfg := some { farC with port := 80, canResp := 0x10 } })] } },
        80, (can1 1), 0, (accept1 .farWindow), 0, { cfg := some { farC with port := 80, canResp := 0x10 } },
        ?_⟩ <;> and_intros <;> first | decide +kernel | rfl
  · refine ⟨(withAccept (.steer 3)), 80, (can1 1), 0, (accept1 (.steer 3)), 3, 0, 0, ?_⟩ <;> and_intros <;>
        first | decide +kernel | rfl

/-- The hypotheses of `SafetyCyclesAndTelegrams`, clause by clause. -/
theorem wit_safety_cycles_and_telegrams :
    (∃ (s : State) (ch : Chan), chanRuns s ch = true) ∧
    (∃ (s : State) (ch : Chan), chanRuns s ch = false) ∧
    (∃ (s : State) (p : Nat) (x : Telegram) (ch : Chan) (k : Nat) (c : ChanPar) (f : FuncPar), k < 64 ∧
      x.channel = k ∧ chanPar s k = some c ∧ funcPar s k = some f ∧ chanRuns s ch = true ∧ safetySegment s p = true ∧
      portReceives s p = true ∧ (policerFrame s p 64).1 = true) ∧
    (∃ (s : State) (p : Nat), safetySegment s p = true ∧ portReceives s p = true ∧ (policerFrame s p 64).1 = false) ∧
    (∃ (s : State) (p : Nat), ((safetySegment s p = false ∨ portReceives s p = false))) ∧
    (∃ (s : State), s.isl.sfpRestart = none) ∧
    (∃ (s : State), islandRuns s = false) ∧
    (∃ (s : State) (ch : Chan) (k : Nat) (w : PairWait), chanRuns s ch = true ∧
      (axisOf s ch k).waiting.reverse.find? (fun w => !w.late) = some w) ∧
    (∃ (s : State) (ch : Chan) (k : Nat), chanRuns s ch = true ∧ s.tms.tsValid = true ∧
      (axisOf s ch k).state ≠ .disabled ∧ (axisOf s ch k).state ≠ .safe) ∧
    (∃ (s : State) (ch : Chan) (k : Nat) (p : SafetyPar) (c : ChanPar) (u : State) (b : Bytes), s.isl.par = some p ∧
      chanPar s k = some c ∧ chanRuns s ch = true ∧ (axisOf s ch k).state ≠ .disabled ∧
      u = untilMono s (driveDue s ch k) ∧
      b = driveBytes u ch k ++ beBytes 4 (crcSafety (seedOf p k ^^^ 0x80000000) (driveBytes u ch k)).toNat) ∧
    (∃ (u : State) (p : Nat) (f : Frame), portKind p = .sg ∧
      (let r : Routed := { cls := 6, tenant := 0, stream := none, conforming := false, vid := frameVid u 98 f, frame := f, ports := [p] }; (let v := countGot u 98 f.len; (routedAlloc v 98 r).sharedCells = 0 ∧
      ((∀ h : Held, h.frame = f → h.ingress = 98 → h.rcts = prpNumbers v f [p] →
      egressReason v p r (egressFrame v p h).len = none))))) ∧
    (∃ (s : State) (u : Nat), s.isl.sfpRestart = some u ∧ islandRuns s = true ∧ s.mono ≤ u + 600000000 ∧ ((∀ a,
      s.fw.activation = some a → a.loaded = true))) ∧
    (∃ (s : State) (u : Nat), islandRuns s = true ∧ s.isl.sfpRestart = some u) ∧
    (∃ (s : State), islandRuns s = true ∧ s.isl.sfpRestart = none ∧ s.fw.phase = .ready ∧ ((s.isl.sfp.ok = false ∨
      s.isl.sla.ok = false))) ∧
    (∃ (s : State) (p : Nat) (x : Telegram) (ch : Chan) (k : Nat) (c : ChanPar) (f : FuncPar), k < 64 ∧
      x.channel = k ∧ chanPar s k = some c ∧ funcPar s k = some f ∧ chanRuns s ch = true ∧ safetySegment s p = true ∧
      portReceives s p = true ∧ (policerFrame s p 64).1 = true ∧ (telegramOk s ch k p x).isSome = true ∧
      (axisOf s ch k).waiting = []) ∧
    (∃ (s : State) (p : Nat) (x : Telegram) (ch : Chan) (k : Nat) (c : ChanPar) (f : FuncPar), k < 64 ∧
      x.channel = k ∧ chanPar s k = some c ∧ funcPar s k = some f ∧ chanRuns s ch = true ∧ safetySegment s p = true ∧
      portReceives s p = true ∧ (policerFrame s p 64).1 = true ∧ (telegramOk s ch k p x).isSome = true ∧
      (axisOf s ch k).waiting = [{ wait1 with segB := true }] ∧ s.mono ≤ wait1.at_ + windowNs s ∧
      telegramBytes wait1.tel = telegramBytes x) ∧
    (∃ (s : State) (p : Nat) (x : Telegram) (ch : Chan) (k : Nat) (c : ChanPar) (f : FuncPar), k < 64 ∧
      x.channel = k ∧ chanPar s k = some c ∧ funcPar s k = some f ∧ chanRuns s ch = true ∧ safetySegment s p = true ∧
      portReceives s p = true ∧ (policerFrame s p 64).1 = true ∧ (telegramOk s ch k p x).isSome = true ∧
      (axisOf s ch k).waiting = [{ wait1 with segB := true }] ∧ s.mono ≤ wait1.at_ + windowNs s ∧
      telegramBytes wait1.tel ≠ telegramBytes x ∧ (axisOf s ch k).state = .locked) ∧
    (∃ (s : State) (ch : Chan) (k : Nat) (w : PairWait), chanRuns s ch = true ∧
      (axisOf s ch k).waiting.reverse.find? (fun w => !w.late) = some w ∧ s.isl.par = some par1 ∧
      par1.singleLimit < (axisOf s ch k).streak + 1 ∧ (axisOf s ch k).state = .locked) := by
  refine ⟨?_, ?_, ?_, ?_, ?_, ?_, ?_, ?_, ?_, ?_, ?_, ?_, ?_, ?_, ?_, ?_, ?_, ?_⟩
  · refine ⟨ready, .sfp, ?_⟩ <;> and_intros <;> first | decide +kernel | rfl
  · refine ⟨(islWith fun x => { x with sfpRestart := some 5 }), .sfp, ?_⟩ <;> and_intros <;>
        first | decide +kernel | rfl
  · refine ⟨(withAxis {}), 16, (tel1 0), .sfp, 0, chan1, func1, ?_⟩ <;> and_intros <;> first | decide +kernel | rfl
  · refine ⟨{ islPar id with fab := { ready.fab with policers := [(16, { used := true })] } }, 16,
        ?_⟩ <;> and_intros <;> first | decide +kernel | rfl
  · refine ⟨ready, 0, ?_⟩ <;> and_intros <;> first | decide +kernel | rfl
  · refine ⟨ready, ?_⟩ <;> and_intros <;> first | decide +kernel | rfl
  · refine ⟨(inPhase .rom), ?_⟩ <;> and_intros <;> first | decide +kernel | rfl
  · refine ⟨(withAxis { waiting := [wait1] }), .sfp, 0, wait1, ?_⟩ <;> and_intros <;> first | decide +kernel | rfl
  · refine ⟨(withAxis { state := .locked }), .sfp, 0, ?_⟩ <;> and_intros <;> first | decide +kernel | rfl
  · refine ⟨(withAxis { state := .locked }), .sfp, 0, par1, chan1,
        (untilMono (withAxis { state := .locked }) (driveDue (withAxis { state := .locked }) .sfp 0)),
        (driveBytes (untilMono (withAxis { state := .locked }) (driveDue (withAxis { state := .locked }) .sfp 0)) .sfp 0 ++ beBytes 4 (crcSafety (seedOf par1 0 ^^^ 0x80000000) (driveBytes (untilMono (withAxis { state := .locked }) (driveDue (withAxis { state := .locked }) .sfp 0)) .sfp 0)).toNat),
        ?_⟩ <;> and_intros <;> first | decide +kernel | rfl
  · refine ⟨ready, 16, (frame64 0x88B6), ?_⟩ <;> and_intros <;>
        first | decide +kernel | rfl | (intro h h1 h2 h3; rw [egressFrame_congr _ _ h { held7 with frame := _, ingress := _, rcts := _ } h1 h2 h3]; decide +kernel)
  · refine ⟨(islWith fun x => { x with sfpRestart := some 5 }), 5, ?_⟩ <;> and_intros <;>
        first | decide +kernel | rfl | (intro a h; cases h)
  · refine ⟨(islWith fun x => { x with sfpRestart := some 5 }), 5, ?_⟩ <;> and_intros <;> first | decide +kernel | rfl
  · refine ⟨ready, ?_⟩ <;> and_intros <;> first | decide +kernel | rfl
  · refine ⟨(withAxis {}), 16, (tel1 0), .sfp, 0, chan1, func1, ?_⟩ <;> and_intros <;> first | decide +kernel | rfl
  · refine ⟨(withAxis { waiting := [{ wait1 with segB := true }] }), 16, (tel1 0), .sfp, 0, chan1, func1,
        ?_⟩ <;> and_intros <;> first | decide +kernel | rfl
  · refine ⟨(withAxis { state := .locked, waiting := [{ wait1 with segB := true }] }), 16, (tel1 8), .sfp, 0, chan1,
        func1, ?_⟩ <;> and_intros <;> first | decide +kernel | rfl
  · refine ⟨(withAxis { state := .locked, streak := par1.singleLimit, waiting := [wait1] }), .sfp, 0, wait1,
        ?_⟩ <;> and_intros <;> first | decide +kernel | rfl

/-- The hypotheses of `OutputsInputsAndAxisTimers`, clause by clause. -/
theorem wit_outputs_inputs_and_axis_timers :
    (∃ (s : State) (ch : Chan) (n : Nat) (o : OutPar), outPar s n = some o ∧ chanRuns s ch = true ∧ n < 8 ∧
      bitAt s.isl.sfp.halves n = true ∧ bitAt s.isl.sla.halves n = true) ∧
    (∃ (s : State) (ch : Chan) (n : Nat) (o : OutPar), outPar s n = some o ∧ n < 8 ∧
      bitAt (chanOf s ch).dark n = true) ∧
    (∃ (s : State) (ch : Chan) (n : Nat) (o : OutPar), outPar s n = some o ∧ n < 8 ∧
      bitAt (chanOf s ch).dark n = true ∧ bitAt s.isl.outFault n = false) ∧
    (∃ (s : State) (ch : Chan) (n : Nat) (o : OutPar) (u : Nat), tget none (chanOf s ch).fbSince n = some u ∧
      outPar s n = some o ∧ chanRuns s ch = true ∧ n < 8 ∧ bitAt s.isl.outFault n = false) ∧
    (∃ (s : State) (ch : Chan) (i : Nat) (p : InPar) (u : Nat), tget none (chanOf s ch).disagree i = some u ∧
      inPar s i = some p ∧ chanRuns s ch = true ∧ i < 16) ∧
    (∃ (s : State) (n : Nat) (u : Nat),
      firstOf (tget none s.isl.sfp.handSince n) (tget none s.isl.sla.handSince n) = some u ∧ n < 8 ∧
      islandRuns s = true ∧ bitAt s.isl.outFault n = false) ∧
    (∃ (s : State) (ch : Chan) (k : Nat) (u : Nat), (axisOf s ch k).testAt = some u ∧ chanRuns s ch = true ∧
      (((axisOf s ch k).state = .guardOpenWait ∨ (axisOf s ch k).state = .guardCloseWait))) ∧
    (∃ (s : State) (ch : Chan) (k : Nat) (u : Nat) (c : ChanPar) (f : FuncPar), (axisOf s ch k).pairsSince = some u ∧
      chanPar s k = some c ∧ funcPar s k = some f ∧ (axisOf s ch k).state = .safe ∧ (((axisOf s ch k).reason = 1 ∨
      (axisOf s ch k).reason = 3)) ∧ f.autoRecover = true ∧ chanRuns s ch = true ∧ s.isl.sfpRestart = none ∧
      s.isl.deviceSafe = false ∧ trtNs (untilMono s (u + 1000000000)) < (axisOf s ch k).deadline) ∧
    (∃ (s : State), s.otp.island = true ∧ s.glob.fwReady = true) ∧
    (∃ (s : State) (ch : Chan) (n : Nat), ((chanRuns s ch = false ∨ 8 ≤ n ∨ bitAt s.isl.sfp.halves n = false ∨
      bitAt s.isl.sla.halves n = false))) ∧
    (∃ (s : State) (ch : Chan) (n : Nat), ((8 ≤ n ∨ bitAt (chanOf s ch).dark n = false))) ∧
    (∃ (s : State) (ch : Chan) (n : Nat), ((chanRuns s ch = false ∨ tget none (chanOf s ch).fbSince n = none))) ∧
    (∃ (s : State) (ch : Chan) (i : Nat), ((chanRuns s ch = false ∨ tget none (chanOf s ch).disagree i = none))) ∧
    (∃ (s : State) (n : Nat), ((islandRuns s = false ∨ (tget none s.isl.sfp.handSince n = none ∧
      tget none s.isl.sla.handSince n = none)))) ∧
    (∃ (s : State) (ch : Chan) (k : Nat), (((axisOf s ch k).testAt = none ∨ chanRuns s ch = false))) ∧
    (∃ (s : State) (ch : Chan) (k : Nat), (((axisOf s ch k).pairsSince = none ∨ (axisOf s ch k).state ≠ .safe ∨
      s.isl.deviceSafe = true))) ∧
    (∃ (s : State), ((s.otp.island = false ∨ s.glob.fwReady = false))) ∧
    (∃ (s : State), s.otp.island = true ∧ s.glob.fwReady = true ∧ (∀ e ∈ s.isl.since, 1024 ≤ e.2) ∧
      s.isl.since.length = 1) := by
  refine ⟨?_, ?_, ?_, ?_, ?_, ?_, ?_, ?_, ?_, ?_, ?_, ?_, ?_, ?_, ?_, ?_, ?_, ?_⟩
  · refine ⟨(withChan fun x => { x with halves := 1 }), .sfp, 0, out1, ?_⟩ <;> and_intros <;>
        first | decide +kernel | rfl
  · refine ⟨(withChan fun x => { x with dark := 1 }), .sfp, 0, out1, ?_⟩ <;> and_intros <;>
        first | decide +kernel | rfl
  · refine ⟨(withChan fun x => { x with dark := 1 }), .sfp, 0, out1, ?_⟩ <;> and_intros <;>
        first | decide +kernel | rfl
  · refine ⟨(withChan fun x => { x with fbSince := [(0, some 5)] }), .sfp, 0, out1, 5, ?_⟩ <;> and_intros <;>
        first | decide +kernel | rfl
  · refine ⟨(withChan fun x => { x with disagree := [(0, some 5)] }), .sfp, 0, (in1 1), 5, ?_⟩ <;> and_intros <;>
        first | decide +kernel | rfl
  · refine ⟨(withChan fun x => { x with handSince := [(0, some 5)] }), 0, 5, ?_⟩ <;> and_intros <;>
        first | decide +kernel | rfl
  · refine ⟨(withAxis { state := .guardOpenWait, testAt := some 5 }), .sfp, 0, 5, ?_⟩ <;> and_intros <;>
        first | decide +kernel | rfl
  · refine ⟨(awake { state := .safe, reason := 1, pairsSince := some 5, deadline := 10 ^ 12 }), .sfp, 0, 5, chan1,
        func1, ?_⟩ <;> and_intros <;> first | decide +kernel | rfl
  · refine ⟨ready, ?_⟩ <;> and_intros <;> first | decide +kernel | rfl
  · refine ⟨ready, .sfp, 0, ?_⟩ <;> and_intros <;> first | decide +kernel | rfl
  · refine ⟨ready, .sfp, 0, ?_⟩ <;> and_intros <;> first | decide +kernel | rfl
  · refine ⟨ready, .sfp, 0, ?_⟩ <;> and_intros <;> first | decide +kernel | rfl
  · refine ⟨ready, .sfp, 0, ?_⟩ <;> and_intros <;> first | decide +kernel | rfl
  · refine ⟨ready, 0, ?_⟩ <;> and_intros <;> first | decide +kernel | rfl
  · refine ⟨ready, .sfp, 0, ?_⟩ <;> and_intros <;> first | decide +kernel | rfl
  · refine ⟨ready, .sfp, 0, ?_⟩ <;> and_intros <;> first | decide +kernel | rfl
  · refine ⟨{ ready with otp := { ready.otp with island := false } }, ?_⟩ <;> and_intros <;>
        exact Or.inl rfl
  · refine ⟨(islWith fun x => { x with since := [(0, 1024)] }), ?_⟩ <;> and_intros <;> first | decide +kernel | rfl

/-- The hypotheses of `SafetyCommandsComplete`, clause by clause. -/
theorem wit_safety_commands_complete :
    (∃ (h : Hcp) (s : State), accepts { opcode := 0x0901, classC := true, features := [13] } h s = true ∧
      s.otp.island = true ∧ allSafe s = false) ∧
    (∃ (h : Hcp) (s : State) (n : Nat), accepts { opcode := 0x0901, classC := true, features := [13] } h s = true ∧
      s.otp.island = true ∧ allSafe s = true ∧ loadBusy s.isl.loads h.tenant = false ∧ n = 5517) ∧
    (∃ (h : Hcp) (s : State) (o : Nat) (d : Bytes) (l : LoadStage),
      accepts { opcode := 0x0902, classC := true, features := [13] } h s = true ∧ s.otp.island = true ∧
      allSafe s = true ∧ loadOf s.isl.loads h.tenant = some l ∧ blockOk l o d = true) ∧
    (∃ (h : Hcp) (s : State), s.otp.island = false ∧
      accepts { opcode := 0x0901, classC := true, features := [13] } h s = true) ∧
    (∃ (h : Hcp) (s : State), s.otp.island = false ∧
      accepts { opcode := 0x0902, classC := true, features := [13] } h s = true) ∧
    (∃ (h : Hcp) (s : State), s.otp.island = false ∧
      accepts { opcode := 0x0903, classC := true, features := [13] } h s = true) ∧
    (∃ (h : Hcp) (s : State), s.otp.island = false ∧
      accepts { opcode := 0x0904, classC := true, features := [13] } h s = true) ∧
    (∃ (h : Hcp) (s : State), s.otp.island = false ∧
      accepts { opcode := 0x0905, classC := true, features := [13] } h s = true) ∧
    (∃ (h : Hcp) (s : State), s.otp.island = false ∧
      accepts { opcode := 0x0906, classC := true, features := [13] } h s = true) ∧
    (∃ (h : Hcp) (s : State), s.otp.island = false ∧
      accepts { opcode := 0x0907, classC := true, owner := true, features := [13] } h s = true) ∧
    (∃ (h : Hcp) (s : State), s.otp.island = false ∧ accepts { opcode := 0x0908, features := [13] } h s = true) ∧
    (∃ (h : Hcp) (s : State), accepts { opcode := 0x0903, classC := true, features := [13] } h s = true ∧
      s.otp.island = true ∧ allSafe s = false) ∧
    (∃ (h : Hcp) (s : State) (l : LoadStage) (b : Bytes),
      accepts { opcode := 0x0903, classC := true, features := [13] } h s = true ∧ s.otp.island = true ∧
      allSafe s = true ∧ loadOf s.isl.loads h.tenant = some l ∧ loadBytes l.blocks l.len = some b ∧
      parCheck s b = none) ∧
    (∃ (h : Hcp) (s : State) (l : LoadStage) (b : Bytes) (p : SafetyPar),
      accepts { opcode := 0x0903, classC := true, features := [13] } h s = true ∧ s.otp.island = true ∧
      allSafe s = true ∧ loadOf s.isl.loads h.tenant = some l ∧ loadBytes l.blocks l.len = some b ∧
      parCheck s b = some p ∧ p.ident = l.ident) ∧
    (∃ (h : Hcp) (s : State), accepts { opcode := 0x0904, classC := true, features := [13] } h s = true ∧
      s.otp.island = true ∧ hasRight s h.tenant 5 = true ∧ causePresent s = true) ∧
    (∃ (h : Hcp) (s : State), accepts { opcode := 0x0904, classC := true, features := [13] } h s = true ∧
      s.otp.island = true ∧ hasRight s h.tenant 5 = true ∧ causePresent s = false) ∧
    (∃ (h : Hcp) (s : State), accepts { opcode := 0x0905, classC := true, features := [13] } h s = true ∧
      s.otp.island = true ∧ hasRight s h.tenant 5 = true ∧ s.isl.ready = false) ∧
    (∃ (h : Hcp) (s : State), accepts { opcode := 0x0905, classC := true, features := [13] } h s = true ∧
      s.otp.island = true ∧ hasRight s h.tenant 5 = true ∧ s.isl.ready = true ∧ s.isl.deviceSafe = false) ∧
    (∃ (h : Hcp) (s : State), accepts { opcode := 0x0906, classC := true, features := [13] } h s = true ∧
      s.otp.island = true ∧ hasRight s h.tenant 5 = true ∧ s.isl.ready = true) ∧
    (∃ (h : Hcp) (s : State) (k : Nat),
      accepts { opcode := 0x0907, classC := true, owner := true, features := [13] } h s = true ∧ s.otp.island = true ∧
      s.isl.ready = true ∧ k < 64) ∧
    (∃ (h : Hcp) (s : State) (k : Nat), accepts { opcode := 0x0908, features := [13] } h s = true ∧
      s.otp.island = true ∧ s.isl.ready = true ∧ k < 64) ∧
    (∃ (h : Hcp) (s : State), accepts { opcode := 0x0904, classC := true, features := [13] } h s = true ∧
      s.otp.island = true ∧ hasRight s h.tenant 5 = true ∧ causePresent s = false ∧ s.isl.fault &&& ~~~0x320 = 0 ∧
      s.isl.par.isSome = true ∧ s.isl.sfp.ok = true ∧ s.isl.sla.ok = true ∧ s.isl.sfpRestart = none) := by
  refine ⟨?_, ?_, ?_, ?_, ?_, ?_, ?_, ?_, ?_, ?_, ?_, ?_, ?_, ?_, ?_, ?_, ?_, ?_, ?_, ?_, ?_, ?_⟩
  · refine ⟨hcp0, (withAxis { state := .locked }), ?_⟩ <;> and_intros <;> first | decide +kernel | rfl
  · refine ⟨hcp0, ready, 5517, ?_⟩ <;> and_intros <;> first | decide +kernel | rfl
  · refine ⟨hcp0, withLoad, 0, [7], (⟨4, 9, 0, [(0, [1, 2, 3, 4])]⟩), ?_⟩ <;> and_intros <;>
        first | decide +kernel | rfl
  · refine ⟨hcp0, { ready with otp := { ready.otp with island := false } }, ?_⟩ <;> and_intros <;>
        first | decide +kernel | rfl
  · refine ⟨hcp0, { ready with otp := { ready.otp with island := false } }, ?_⟩ <;> and_intros <;>
        first | decide +kernel | rfl
  · refine ⟨hcp0, { ready with otp := { ready.otp with island := false } }, ?_⟩ <;> and_intros <;>
        first | decide +kernel | rfl
  · refine ⟨hcp0, { ready with otp := { ready.otp with island := false } }, ?_⟩ <;> and_intros <;>
        first | decide +kernel | rfl
  · refine ⟨hcp0, { ready with otp := { ready.otp with island := false } }, ?_⟩ <;> and_intros <;>
        first | decide +kernel | rfl
  · refine ⟨hcp0, { ready with otp := { ready.otp with island := false } }, ?_⟩ <;> and_intros <;>
        first | decide +kernel | rfl
  · refine ⟨hcp0, { ready with otp := { ready.otp with island := false } }, ?_⟩ <;> and_intros <;>
        first | decide +kernel | rfl
  · refine ⟨hcp0, { ready with otp := { ready.otp with island := false } }, ?_⟩ <;> and_intros <;>
        first | decide +kernel | rfl
  · refine ⟨hcp0, (withAxis { state := .locked }), ?_⟩ <;> and_intros <;> first | decide +kernel | rfl
  · refine ⟨hcp0, withLoad, (⟨4, 9, 0, [(0, [1, 2, 3, 4])]⟩), [1, 2, 3, 4], ?_⟩ <;> and_intros <;>
        first | decide +kernel | rfl
  · exact ⟨hcp0, parLoaded, parLoad, parBytes, parOf parBytes, by decide +kernel, rfl, by decide +kernel, par_held, par_loads, par_checks, par_form.2.2.2.2⟩
  · refine ⟨hcp0, (islWith fun x => { x with tj := 1400 }), ?_⟩ <;> and_intros <;> first | decide +kernel | rfl
  · refine ⟨hcp0, ready, ?_⟩ <;> and_intros <;> first | decide +kernel | rfl
  · refine ⟨hcp0, ready, ?_⟩ <;> and_intros <;> first | decide +kernel | rfl
  · refine ⟨hcp0, (awake {}), ?_⟩ <;> and_intros <;> first | decide +kernel | rfl
  · refine ⟨hcp0, (awake {}), ?_⟩ <;> and_intros <;> first | decide +kernel | rfl
  · refine ⟨hcp0, (awake {}), 0, ?_⟩ <;> and_intros <;> first | decide +kernel | rfl
  · refine ⟨hcp0, (awake {}), 0, ?_⟩ <;> and_intros <;> first | decide +kernel | rfl
  · refine ⟨hcp0, (withChan fun x => { x with ok := true }), ?_⟩ <;> and_intros <;> first | decide +kernel | rfl

/-- The hypotheses of `ImagesAreLoadedVerifiedAndActivated`, clause by clause. -/
theorem wit_images_are_loaded_verified_and_activated :
    (∃ (h : Hcp) (s : State) (n : Nat),
      accepts { opcode := 0x0A01, classC := true, owner := true, recovery := true } h s = true ∧ n ≠ 0 ∧
      n ≤ 14680064 ∧ ((s.fw.trial = false ∨ inRecovery s = true))) ∧
    (∃ (h : Hcp) (s : State) (o : Nat) (d : Bytes),
      accepts { opcode := 0x0A02, classC := true, owner := true, recovery := true } h s = true ∧
      slotLoads (fwSlot s (loadSlot s)) = true ∧ 1 ≤ d.length ∧ d.length ≤ 4096 ∧
      o + d.length ≤ (fwSlot s (loadSlot s)).len) ∧
    (∃ (h : Hcp) (s : State) (x : Bytes) (im : ImageInfo),
      accepts { opcode := 0x0A03, classC := true, owner := true, recovery := true } h s = true ∧
      slotLoads (fwSlot s (loadSlot s)) = true ∧
      loadBytes (fwSlot s (loadSlot s)).blocks (fwSlot s (loadSlot s)).len = some x ∧ imageCheck s x = .ok im) ∧
    (∃ (h : Hcp) (s : State) (x : Bytes) (r : Nat),
      accepts { opcode := 0x0A03, classC := true, owner := true, recovery := true } h s = true ∧
      slotLoads (fwSlot s (loadSlot s)) = true ∧
      loadBytes (fwSlot s (loadSlot s)).blocks (fwSlot s (loadSlot s)).len = some x ∧ imageCheck s x = .error r) ∧
    (∃ (h : Hcp) (s : State) (w : Word) (x : FwSlot),
      accepts { opcode := 0x0A04, classC := true, owner := true, recovery := true } h s = true ∧
      inRecovery s = false ∧ activateBusy s = false ∧ x = fwSlot s (!s.fw.activeB) ∧ x.state = .verified ∧
      x.imageId = w ∧ recheck s x = none ∧ sfpChanges s x = false ∧ engineChanges s x = false) ∧
    (∃ (h : Hcp) (s : State) (w : Word) (x : FwSlot),
      accepts { opcode := 0x0A04, classC := true, owner := true, recovery := true } h s = true ∧
      inRecovery s = false ∧ activateBusy s = false ∧ x = fwSlot s (!s.fw.activeB) ∧ x.state = .verified ∧
      x.imageId = w ∧ recheck s x = none ∧ sfpChanges s x = false ∧ engineChanges s x = true) ∧
    (∃ (h : Hcp) (s : State) (w : Word) (x : FwSlot),
      accepts { opcode := 0x0A04, classC := true, owner := true, recovery := true } h s = true ∧
      inRecovery s = false ∧ activateBusy s = false ∧ x = fwSlot s (!s.fw.activeB) ∧ x.state = .verified ∧
      x.imageId = w ∧ recheck s x = none ∧ sfpChanges s x = false) ∧
    (∃ (h : Hcp) (s : State) (w : Word) (x : FwSlot),
      accepts { opcode := 0x0A04, classC := true, owner := true, recovery := true } h s = true ∧
      inRecovery s = false ∧ activateBusy s = false ∧ x = fwSlot s (!s.fw.activeB) ∧ x.state = .verified ∧
      x.imageId = w ∧ recheck s x = none ∧ sfpChanges s x = true ∧ allSafe s = false) ∧
    (∃ (h : Hcp) (s : State) (w : Word) (x : FwSlot),
      accepts { opcode := 0x0A04, classC := true, owner := true, recovery := true } h s = true ∧
      inRecovery s = false ∧ activateBusy s = false ∧ x = fwSlot s (!s.fw.activeB) ∧ x.state = .verified ∧
      x.imageId = w ∧ recheck s x = none ∧ sfpChanges s x = true ∧ allSafe s = true ∧ engineChanges s x = false) ∧
    (∃ (h : Hcp) (s : State) (w : Word) (x : FwSlot),
      accepts { opcode := 0x0A04, classC := true, owner := true, recovery := true } h s = true ∧ inRecovery s = true ∧
      activateBusy s = false ∧ x = fwSlot s (loadSlot s) ∧ x.state = .verified ∧ x.imageId = w ∧ recheck s x = none) ∧
    (∃ (h : Hcp) (s : State),
      accepts { opcode := 0x0A04, classC := true, owner := true, recovery := true } h s = true ∧
      activateBusy s = true) ∧
    (∃ (h : Hcp) (s : State),
      accepts { opcode := 0x0A04, classC := true, owner := true, recovery := true } h s = true ∧
      activateBusy s = false ∧ (fwSlot s (loadSlot s)).state ≠ .verified) ∧
    (∃ (s : State), s.fw.activation = none) ∧
    (∃ (s : State) (a : Activation), s.fw.activation = some a ∧ s.fw.phase = .ready) ∧
    (∃ (s : State) (a : Activation), s.fw.activation = some a ∧ s.fw.phase = .paused ∧ a.fellBack = false) ∧
    (∃ (h : Hcp) (s : State), accepts { opcode := 0x0A05, classC := true, owner := true } h s = true ∧
      s.fw.activation = none) ∧
    (∃ (h : Hcp) (s : State), accepts { opcode := 0x0A06, recovery := true } h s = true) ∧
    (∃ (h : Hcp) (s : State) (i : Nat), accepts { opcode := 0x0A07, classC := true, owner := true } h s = true ∧
      i < 4 ∧ rootInUse s i = true) ∧
    (∃ (h : Hcp) (s : State) (i : Nat), accepts { opcode := 0x0A07, classC := true, owner := true } h s = true ∧
      i < 4 ∧ rootInUse s i = false ∧ (∃ j, j < 4 ∧ j ≠ i ∧ bitAt s.otp.revoked j = false)) ∧
    (∃ (h : Hcp) (s : State), accepts { opcode := 0x0A08, owner := true, recovery := true } h s = true ∧
      s.fw.phase = .recovery true) ∧
    (∃ (h : Hcp) (s : State), accepts { opcode := 0x0A08, owner := true, recovery := true } h s = true ∧
      s.fw.phase ≠ .recovery true) := by
  refine ⟨?_, ?_, ?_, ?_, ?_, ?_, ?_, ?_, ?_, ?_, ?_, ?_, ?_, ?_, ?_, ?_, ?_, ?_, ?_, ?_, ?_⟩
  · refine ⟨hcp0, ready, 1, ?_⟩ <;> and_intros <;> first | decide +kernel | rfl
  · refine ⟨hcp0, (withSlot (slotIn .loading [])), 0, [1], ?_⟩ <;> and_intros <;> first | decide +kernel | rfl
  · exact ⟨hcp0, imgLoaded, imgBytes, infoOf imgBytes, by decide +kernel, by rfl, img_loads, img_checks⟩
  · refine ⟨hcp0, (withSlot (slotIn .loading [])), [1], 0x601, ?_⟩ <;> and_intros <;> first | decide +kernel | rfl
  · refine ⟨hcp0, (withSlot (slotIn .verified [])), 7, (slotIn .verified []), ?_⟩ <;> and_intros <;>
        first | decide +kernel | rfl
  · refine ⟨hcp0, (withSlot (slotIn .verified [(3, 0, 5)])), 7, (slotIn .verified [(3, 0, 5)]), ?_⟩ <;> and_intros <;>
        first | decide +kernel | rfl
  · refine ⟨hcp0, (withSlot (slotIn .verified [])), 7, (slotIn .verified []), ?_⟩ <;> and_intros <;>
        first | decide +kernel | rfl
  · refine ⟨hcp0,
        { withAxis { state := .locked } with fw := { ready.fw with slotB := slotIn .verified [(2, 0, 5)] } }, 7,
        (slotIn .verified [(2, 0, 5)]), ?_⟩ <;> and_intros <;> first | decide +kernel | rfl
  · refine ⟨hcp0, (withSlot (slotIn .verified [(2, 0, 5)])), 7, (slotIn .verified [(2, 0, 5)]), ?_⟩ <;> and_intros <;>
        first | decide +kernel | rfl
  · refine ⟨hcp0, (fwWith fun y => { y with phase := .recovery true, slotA := slotIn .verified [] }), 7,
        (slotIn .verified []), ?_⟩ <;> and_intros <;> first | decide +kernel | rfl
  · refine ⟨hcp0, (fwWith fun x => { x with activation := some (activation1 false) }), ?_⟩ <;> and_intros <;>
        first | decide +kernel | rfl
  · refine ⟨hcp0, ready, ?_⟩ <;> and_intros <;> first | decide +kernel | rfl
  · refine ⟨ready, ?_⟩ <;> and_intros <;> first | decide +kernel | rfl
  · refine ⟨(fwWith fun x => { x with activation := some (activation1 false) }), (activation1 false),
        ?_⟩ <;> and_intros <;> first | decide +kernel | rfl
  · refine ⟨(fwWith fun x => { x with activation := some (activation1 false), phase := .paused }),
        (activation1 false), ?_⟩ <;> and_intros <;> first | decide +kernel | rfl
  · refine ⟨hcp0, ready, ?_⟩ <;> and_intros <;> first | decide +kernel | rfl
  · refine ⟨hcp0, ready, ?_⟩ <;> and_intros <;> first | decide +kernel | rfl
  · refine ⟨hcp0, (withSlot (slotIn .verified [])), 0, ?_⟩ <;> and_intros <;> first | decide +kernel | rfl
  · refine ⟨hcp0, ready, 0, ?_⟩ <;> and_intros <;> first | decide +kernel | rfl
  · refine ⟨hcp0, (inPhase (.recovery true)), ?_⟩ <;> and_intros <;> first | decide +kernel | rfl
  · refine ⟨hcp0, ready, ?_⟩ <;> and_intros <;> first | decide +kernel | rfl

/-- The hypotheses of `StartUpBootsLoadsAndRecovers`, clause by clause. -/
theorem wit_start_up_boots_loads_and_recovers :
    (∃ (s : State) (b : Bool), s.fw.phase = .rom ∧ b = true ∧ s.fw.noStrap = false) ∧
    (∃ (s : State) (b : Bool) (fl : FlashView), s.fw.phase = .rom ∧
      (let other := if s.fw.activeB then fl.okA else fl.okB; b = false ∧ s.fw.trial = true ∧ 1 ≤ s.fw.failed ∧
      other = true)) ∧
    (∃ (s : State) (b : Bool), s.fw.phase = .rom ∧ b = false ∧ s.fw.trial = false ∧ 3 ≤ s.fw.failed) ∧
    (∃ (s : State) (b : Bool) (fl : FlashView), s.fw.phase = .rom ∧
      (let good := if s.fw.activeB then fl.okB else fl.okA; b = false ∧ s.fw.trial = false ∧ s.fw.failed < 3 ∧
      good = true)) ∧
    (∃ (s : State) (b : Bool) (fl : FlashView), s.fw.phase = .rom ∧
      (let good := if s.fw.activeB then fl.okB else fl.okA; (let other := if s.fw.activeB then fl.okA else fl.okB; b = false ∧
      s.fw.trial = false ∧ s.fw.failed < 3 ∧ good = false ∧ other = true))) ∧
    (∃ (s : State) (b : Bool) (fl : FlashView), s.fw.phase = .rom ∧
      (let good := if s.fw.activeB then fl.okB else fl.okA; (let other := if s.fw.activeB then fl.okA else fl.okB; b = false ∧
      s.fw.trial = false ∧ s.fw.failed < 3 ∧ good = false ∧ other = false))) ∧
    (∃ (s : State) (l : List LoadCheck), s.fw.phase = .booting ∧ (∀ x ∈ l, x.ok = true)) ∧
    (∃ (s : State) (l : List LoadCheck), s.fw.phase = .booting ∧ (∃ x ∈ l, x.ok = false ∧ x.typ ≠ 2)) ∧
    (∃ (s : State) (l : List LoadCheck) (a : Activation), s.fw.phase = .paused ∧ s.fw.activation = some a ∧ (∀ x ∈ l,
      x.ok = true)) ∧
    (∃ (s : State), s.fw.phase ≠ .rom) ∧
    (∃ (s : State), s.fw.phase ≠ .booting ∧ ((s.fw.phase ≠ .paused ∨ s.fw.activation = none))) ∧
    (∃ (s : State), s.fw.phase ≠ .loaded ∧ s.fw.phase ≠ .paused) ∧
    (∃ (s : State), s.fw.phase ≠ .booting ∧ s.fw.phase ≠ .loaded) ∧
    (∃ (s : State), inRecovery s = false) ∧
    (∃ (s : State), s.fw.phase = .loaded ∧ s.fw.leftRom + 2000000000 < s.mono) ∧
    (∃ (s : State), s.fw.phase = .loaded ∧ s.mono ≤ s.fw.leftRom + 2000000000) ∧
    (∃ (s : State) (a : Activation), s.fw.phase = .paused ∧ s.fw.activation = some a ∧ a.loaded = true ∧
      s.pwc.entryWaits = false ∧ ((a.fellBack = true ∨ s.mono ≤ a.at_ + 250000000))) ∧
    (∃ (s : State), ((s.fw.phase = .booting ∨ s.fw.phase = .loaded))) ∧
    (∃ (s : State) (d : Bytes) (n : Nat) (m : List Byte), inRecovery s = true ∧ n = leAt d 0 2 ∧ d.length = n + 6 ∧
      40 ≤ n ∧ m = (d.drop 2).take n ∧ Config.crc32 (d.take (n + 2)) ≠ word (leAt d (n + 2) 4)) ∧
    (∃ (s : State) (d : Bytes) (n : Nat) (m : List Byte), inRecovery s = true ∧ n = leAt d 0 2 ∧ d.length = n + 6 ∧
      40 ≤ n ∧ m = (d.drop 2).take n ∧ Config.crc32 (d.take (n + 2)) = word (leAt d (n + 2) 4) ∧ leAt m 0 2 = 0x0A06 ∧
      (∀ i ∈ (tenant s 0).inflight, i.opcode ≠ 0x0A06)) := by
  refine ⟨?_, ?_, ?_, ?_, ?_, ?_, ?_, ?_, ?_, ?_, ?_, ?_, ?_, ?_, ?_, ?_, ?_, ?_, ?_, ?_⟩
  · refine ⟨(inPhase .rom), true, ?_⟩ <;> and_intros <;> first | decide +kernel | rfl
  · refine ⟨(fwWith fun x => { x with phase := .rom, trial := true, failed := 1 }), false, (⟨false, true⟩),
        ?_⟩ <;> and_intros <;> first | decide +kernel | rfl
  · refine ⟨(fwWith fun x => { x with phase := .rom, failed := 3 }), false, ?_⟩ <;> and_intros <;>
        first | decide +kernel | rfl
  · refine ⟨(inPhase .rom), false, (⟨true, true⟩), ?_⟩ <;> and_intros <;> first | decide +kernel | rfl
  · refine ⟨(inPhase .rom), false, (⟨false, true⟩), ?_⟩ <;> and_intros <;> first | decide +kernel | rfl
  · refine ⟨(inPhase .rom), false, (⟨false, false⟩), ?_⟩ <;> and_intros <;> first | decide +kernel | rfl
  · refine ⟨(inPhase .booting), [], ?_⟩ <;> and_intros <;> first | decide +kernel | rfl
  · refine ⟨(inPhase .booting), [⟨1, 0, false⟩], ?_⟩ <;> and_intros <;> first | decide +kernel | rfl
  · refine ⟨(fwWith fun x => { x with activation := some (activation1 false), phase := .paused }), [],
        (activation1 false), ?_⟩ <;> and_intros <;> first | decide +kernel | rfl
  · refine ⟨(inPhase .loaded), ?_⟩ <;> and_intros <;> first | decide +kernel | rfl
  · refine ⟨ready, ?_⟩ <;> and_intros <;> first | decide +kernel | rfl
  · refine ⟨ready, ?_⟩ <;> and_intros <;> first | decide +kernel | rfl
  · refine ⟨ready, ?_⟩ <;> and_intros <;> first | decide +kernel | rfl
  · refine ⟨ready, ?_⟩ <;> and_intros <;> first | decide +kernel | rfl
  · refine ⟨{ inPhase .loaded with mono := 2000000001 }, ?_⟩ <;> and_intros <;> first | decide +kernel | rfl
  · refine ⟨(inPhase .loaded), ?_⟩ <;> and_intros <;> first | decide +kernel | rfl
  · refine ⟨(fwWith fun x => { x with activation := some (activation1 true), phase := .paused }), (activation1 true),
        ?_⟩ <;> and_intros <;> first | decide +kernel | rfl
  · refine ⟨(inPhase .booting), ?_⟩ <;> and_intros <;> first | decide +kernel | rfl
  · refine ⟨(inPhase (.recovery true)), (uartOf (Config.crc32 uartHead + 1)), 40,
        ([0x06, 0x0A] ++ List.replicate 38 0 : Bytes), ?_⟩ <;> and_intros <;>
        first | (rw [uart_word]; exact word_ne_succ _) | decide +kernel | rfl
  · refine ⟨(inPhase (.recovery true)), (uartOf (Config.crc32 uartHead)), 40,
        ([0x06, 0x0A] ++ List.replicate 38 0 : Bytes), ?_⟩ <;> and_intros <;>
        first | (rw [uart_word]; rfl) | decide +kernel | rfl

/-- The hypotheses of `PowerStatesAndSleepAgreement`, clause by clause. -/
theorem wit_power_states_and_sleep_agreement :
    (∃ (h : Hcp) (s : State) (recs : List Param) (c : PowerCfg),
      accepts { opcode := 0x0B01, classC := true, owner := true } h s = true ∧
      applyRecs s powerRec 0 s.pwc.cfg recs = .ok c) ∧
    (∃ (h : Hcp) (s : State), accepts { opcode := 0x0B02 } h s = true) ∧
    (∃ (h : Hcp) (s : State), accepts { opcode := 0x0B03 } h s = true) ∧
    (∃ (h : Hcp) (s : State), accepts { opcode := 0x0B04, classC := true, owner := true } h s = true) ∧
    (∃ (h : Hcp) (s : State), accepts { opcode := 0x0B04, classC := true, owner := true } h s = true ∧
      othersKeep s h.tenant = true) ∧
    (∃ (h : Hcp) (s : State), accepts { opcode := 0x0B04, classC := true, owner := true } h s = true ∧
      othersKeep s h.tenant = false ∧ s.pwc.heldWake ≠ none) ∧
    (∃ (h : Hcp) (s : State), accepts { opcode := 0x0B04, classC := true, owner := true } h s = true ∧
      othersKeep s h.tenant = false ∧ s.pwc.heldWake = none) ∧
    (∃ (h : Hcp) (s : State), accepts { opcode := 0x0B05 } h s = true) ∧
    (∃ (s : State), s.fw.phase = .ready) ∧
    (∃ (s : State) (u : Nat), s.fw.phase = .ready ∧ s.pwc.dozeSince = some u ∧ s.pwc.state < 2 ∧
      2 ≤ (permitted (untilMono s (u + s.pwc.cfg.dozeHold * 1000))).1) ∧
    (∃ (s : State) (u : Nat), s.fw.phase = .ready ∧ s.pwc.napSince = some u ∧ s.pwc.state < 3 ∧
      3 ≤ (permitted (untilMono s (u + s.pwc.cfg.napHold * 1000000))).1) ∧
    (∃ (s : State), s.pwc.graceOn = true) ∧
    (∃ (s : State), s.fw.phase = .ready ∧ keeps s = true ∧ s.tms.tsValid = true) ∧
    (∃ (s : State), ((s.fw.phase ≠ .ready ∨ keeps s = false ∨ s.tms.tsValid = false))) ∧
    (∃ (s : State) (p : Nat) (k : KeepAlive), ((inaugPort s p = false ∨ lineAgrees p k.lineB = false ∨
      k.sender = nodeUnit s))) ∧
    (∃ (s : State) (p : Nat) (k : KeepAlive), inaugPort s p = true ∧ lineAgrees p k.lineB = true ∧
      k.sender ≠ nodeUnit s ∧ s.fw.phase ≠ .ready) ∧
    (∃ (s : State) (p : Nat) (k : KeepAlive), inaugPort s p = true ∧ lineAgrees p k.lineB = true ∧
      k.sender ≠ nodeUnit s ∧ (policerFrame s p (sentLen (.keepAlive k))).1 = false) ∧
    (∃ (s : State) (p : Nat) (k : KeepAlive), inaugPort s p = true ∧ lineAgrees p k.lineB = true ∧
      k.sender ≠ nodeUnit s ∧ s.fw.phase = .ready ∧ (policerFrame s p (sentLen (.keepAlive k))).1 = true) ∧
    (∃ (s : State) (p : Nat) (k : KeepAlive), inaugPort s p = true ∧ lineAgrees p k.lineB = true ∧
      k.sender ≠ nodeUnit s ∧ s.fw.phase = .ready ∧ agreeing s = false) ∧
    (∃ (s : State) (p : Nat) (k : KeepAlive), inaugPort s p = true ∧ lineAgrees p k.lineB = true ∧
      k.sender ≠ nodeUnit s ∧ s.fw.phase = .ready ∧ agreeing s = true ∧ s.pwc.sleep = .pending ∧
      s.pwc.sleepAt < linNs k.sleepSec k.sleepNs) ∧
    (∃ (s : State) (p : Nat) (k : KeepAlive), inaugPort s p = true ∧ lineAgrees p k.lineB = true ∧
      k.sender ≠ nodeUnit s ∧ s.fw.phase = .ready ∧ agreeing s = true ∧ s.pwc.sleep = .awake ∧ keeps s = true) ∧
    (∃ (s : State) (p : Nat) (k : KeepAlive), inaugPort s p = true ∧ lineAgrees p k.lineB = true ∧
      k.sender ≠ nodeUnit s ∧ s.fw.phase = .ready ∧ agreeing s = true ∧ s.pwc.sleep = .awake ∧ keeps s = false) ∧
    (∃ (s : State), s.fw.phase = .ready ∧ agreeing s = true ∧ keeps s = false ∧ s.pwc.sleep = .awake) ∧
    (∃ (s : State), s.pwc.sleep = .pending ∧ s.fw.phase = .ready) ∧
    (∃ (s : State), s.fw.phase = .ready ∧ (permitted s).1 < s.pwc.state) ∧
    (∃ (s : State) (p : Nat) (k : KeepAlive), inaugPort s p = true ∧ lineAgrees p k.lineB = true ∧
      k.sender ≠ nodeUnit s ∧ s.fw.phase = .ready ∧ (policerFrame s p (sentLen (.keepAlive k))).1 = true ∧
      s.pwc.lastKa < kaStamp s k ∧ s.pwc.sleep = .pending ∧ s.pwc.senders.length < 128) := by
  refine ⟨?_, ?_, ?_, ?_, ?_, ?_, ?_, ?_, ?_, ?_, ?_, ?_, ?_, ?_, ?_, ?_, ?_, ?_, ?_, ?_, ?_, ?_, ?_, ?_, ?_, ?_⟩
  · refine ⟨hcp0, ready, [], ready.pwc.cfg, ?_⟩ <;> and_intros <;> first | decide +kernel | rfl
  · refine ⟨hcp0, ready, ?_⟩ <;> and_intros <;> first | decide +kernel | rfl
  · refine ⟨hcp0, ready, ?_⟩ <;> and_intros <;> first | decide +kernel | rfl
  · refine ⟨hcp0, ready, ?_⟩ <;> and_intros <;> first | decide +kernel | rfl
  · refine ⟨hcp0, (pwcWith fun x => { x with keepers := [1] }), ?_⟩ <;> and_intros <;> first | decide +kernel | rfl
  · refine ⟨hcp0, (pwcWith fun x => { x with heldWake := some (2, 0) }), ?_⟩ <;> and_intros <;>
        first | decide +kernel | rfl
  · refine ⟨hcp0, ready, ?_⟩ <;> and_intros <;> first | decide +kernel | rfl
  · refine ⟨hcp0, ready, ?_⟩ <;> and_intros <;> first | decide +kernel | rfl
  · refine ⟨ready, ?_⟩ <;> and_intros <;> first | decide +kernel | rfl
  · refine ⟨(calm fun x => { x with dozeSince := some 5, state := 1 }), 5, ?_⟩ <;> and_intros <;>
        first | decide +kernel | rfl
  · refine ⟨(calm fun x => { x with napSince := some 5, state := 2 }), 5, ?_⟩ <;> and_intros <;>
        first | decide +kernel | rfl
  · refine ⟨(pwcWith fun x => { x with graceOn := true }), ?_⟩ <;> and_intros <;> first | decide +kernel | rfl
  · refine ⟨(pwcWith fun x => { x with keepers := [1] }), ?_⟩ <;> and_intros <;> first | decide +kernel | rfl
  · refine ⟨ready, ?_⟩ <;> and_intros <;> first | decide +kernel | rfl
  · refine ⟨ready, 0, { ka1 with lineB := true }, ?_⟩ <;> and_intros <;>
        exact Or.inr (Or.inl rfl)
  · refine ⟨{ ready with fw := { ready.fw with phase := .paused } }, 0, ka1, ?_⟩ <;> and_intros <;>
        first | decide +kernel | rfl
  · refine ⟨(fabWith fun x => { x with policers := [(0, { used := true })] }), 0, ka1, ?_⟩ <;> and_intros <;>
        first | decide +kernel | rfl
  · refine ⟨ready, 0, ka1, ?_⟩ <;> and_intros <;> first | decide +kernel | rfl
  · refine ⟨(pwcWith fun x => { x with cfg := { x.cfg with agree := false } }), 0, ka1, ?_⟩ <;> and_intros <;>
        first | decide +kernel | rfl
  · refine ⟨(pwcWith fun x => { x with sleep := .pending }), 0, ka1, ?_⟩ <;> and_intros <;>
        first | decide +kernel | rfl
  · refine ⟨(pwcWith fun x => { x with keepers := [1] }), 0, ka1, ?_⟩ <;> and_intros <;> first | decide +kernel | rfl
  · refine ⟨ready, 0, ka1, ?_⟩ <;> and_intros <;> first | decide +kernel | rfl
  · refine ⟨ready, ?_⟩ <;> and_intros <;> first | decide +kernel | rfl
  · refine ⟨(pwcWith fun x => { x with sleep := .pending }), ?_⟩ <;> and_intros <;> first | decide +kernel | rfl
  · refine ⟨(pwcWith fun x => { x with state := 3 }), ?_⟩ <;> and_intros <;> first | decide +kernel | rfl
  · refine ⟨(pwcWith fun x => { x with sleep := .pending }), 0,
        { ka1 with sec := 1, domainEpoch := ready.tms.domainEpoch }, ?_⟩ <;> and_intros <;>
        first | decide +kernel | rfl

/-- The hypotheses of `WakeEventsAndTheWakeSequence`, clause by clause. -/
theorem wit_wake_events_and_the_wake_sequence :
    (∃ (s : State), s.pwc.phase = .standby ∧ s.pwc.phaseAt + 100000000 ≤ s.mono ∧ bitAt s.pwc.pgs 0 = false) ∧
    (∃ (s : State) (g : Nat) (p : SegPulse), s.pwc.phase = .standby ∧ g ∈ s.pwc.armed ∧ wakeRule p = true) ∧
    (∃ (s : State) (g : Nat) (p : SegPulse), ((wakeRule p = false ∨ (s.pwc.phase = .standby ∧ g ∉ s.pwc.armed)))) ∧
    (∃ (s : State) (g : Nat) (p : SegPulse), s.pwc.phase = .running ∧ wakeRule p = true ∧ (segOf s g).state = .sleep ∧
      (segOf s g).wakeDet = true) ∧
    (∃ (s : State), bitAt s.pwc.inh 0 = false ∧ s.pwc.phase = .standby) ∧
    (∃ (s : State), ((bitAt s.pwc.inh 0 = true ∨ s.pwc.phase ≠ .standby))) ∧
    (∃ (s : State), ((s.pwc.phase ≠ .standby ∨ s.pwc.timer = 0))) ∧
    (∃ (s : State), s.pwc.phase = .standby ∧ s.pwc.timer ≠ 0) ∧
    (∃ (s : State) (a : Nat) (b : Nat), s.pwc.phase = .standby ∧ s.pwc.heldWake = some (a, b)) ∧
    (∃ (s : State) (n : Nat), n < 3 ∧ s.pwc.phase = .pg n ∧ tget none s.pwc.pgLow n = none) ∧
    (∃ (s : State) (n : Nat), s.pwc.phase = .pg n) ∧
    (∃ (s : State), s.pwc.phase ≠ .xin) ∧
    (∃ (s : State), s.pwc.phase ≠ .retry) ∧
    (∃ (s : State), s.pwc.phase = .xin) ∧
    (∃ (s : State) (a : Bool) (b : Bool), s.pwc.phase = .lock a b) ∧
    (∃ (s : State), s.pwc.phase = .retry ∧ bitAt s.pwc.pgs 0 = false) ∧
    (∃ (s : State) (u : Nat), s.pwc.wakeOut = some u) ∧
    (∃ (s : State) (u : Nat), s.pwc.wakeOut = none ∧ s.pwc.wakeOutFail = some u ∧ u ≤ s.mono) ∧
    (∃ (s : State) (n : Nat), n < 3 ∧ s.pwc.phase = .pg n ∧ tget none s.pwc.pgLow n = none ∧
      bitAt s.pwc.pgs (n + 1) = false ∧ n < 2) ∧
    (∃ (s : State) (n : Nat), n < 3 ∧ s.pwc.phase = .pg n ∧ tget none s.pwc.pgLow n = none ∧ n = 2) ∧
    (∃ (s : State) (n : Nat), s.pwc.phase = .pg n ∧ 4 ≤ s.pwc.attempts) ∧
    (∃ (s : State) (a : Bool) (b : Bool), s.pwc.phase = .lock a b ∧ s.pwc.wakeFail = true) := by
  refine ⟨?_, ?_, ?_, ?_, ?_, ?_, ?_, ?_, ?_, ?_, ?_, ?_, ?_, ?_, ?_, ?_, ?_, ?_, ?_, ?_, ?_, ?_⟩
  · refine ⟨{ inPower .standby with mono := 10 ^ 9, pwc := { (inPower .standby).pwc with pgs := 0 } },
        ?_⟩ <;> and_intros <;> first | decide +kernel | rfl
  · refine ⟨(pwcWith fun x => { x with phase := .standby, armed := [0] }), 0, pulse1, ?_⟩ <;> and_intros <;>
        first | decide +kernel | rfl
  · refine ⟨ready, 0, { pulse1 with transitions := 15 }, ?_⟩ <;> and_intros <;>
        exact Or.inl (by decide +kernel)
  · refine ⟨sleeper, 0, pulse1, ?_⟩ <;> and_intros <;> first | decide +kernel | rfl
  · refine ⟨(pwcWith fun x => { x with phase := .standby, inh := 0 }), ?_⟩ <;> and_intros <;>
        first | decide +kernel | rfl
  · refine ⟨ready, ?_⟩ <;> and_intros <;> first | decide +kernel | rfl
  · refine ⟨ready, ?_⟩ <;> and_intros <;> first | decide +kernel | rfl
  · refine ⟨(pwcWith fun x => { x with phase := .standby, timer := 60 }), ?_⟩ <;> and_intros <;>
        first | decide +kernel | rfl
  · refine ⟨(pwcWith fun x => { x with phase := .standby, heldWake := some (2, 0) }), 2, 0, ?_⟩ <;> and_intros <;>
        first | decide +kernel | rfl
  · refine ⟨(inPower (.pg 1)), 1, ?_⟩ <;> and_intros <;> first | decide +kernel | rfl
  · refine ⟨(inPower (.pg 1)), 1, ?_⟩ <;> and_intros <;> first | decide +kernel | rfl
  · refine ⟨ready, ?_⟩ <;> and_intros <;> first | decide +kernel | rfl
  · refine ⟨ready, ?_⟩ <;> and_intros <;> first | decide +kernel | rfl
  · refine ⟨(inPower .xin), ?_⟩ <;> and_intros <;> first | decide +kernel | rfl
  · refine ⟨(inPower (.lock false false)), false, false, ?_⟩ <;> and_intros <;> first | decide +kernel | rfl
  · refine ⟨(pwcWith fun x => { x with phase := .retry, pgs := 0 }), ?_⟩ <;> and_intros <;>
        first | decide +kernel | rfl
  · refine ⟨(pwcWith fun x => { x with wakeOut := some 5 }), 5, ?_⟩ <;> and_intros <;> first | decide +kernel | rfl
  · refine ⟨(pwcWith fun x => { x with wakeOutFail := some 0 }), 0, ?_⟩ <;> and_intros <;> first | decide +kernel | rfl
  · refine ⟨{ inPower (.pg 1) with pwc := { (inPower (.pg 1)).pwc with pgs := 3 } }, 1, ?_⟩ <;> and_intros <;>
        first | decide +kernel | rfl
  · refine ⟨(inPower (.pg 2)), 2, ?_⟩ <;> and_intros <;> first | decide +kernel | rfl
  · refine ⟨(pwcWith fun x => { x with phase := .pg 1, attempts := 4 }), 1, ?_⟩ <;> and_intros <;>
        first | decide +kernel | rfl
  · refine ⟨(pwcWith fun x => { x with phase := .lock false false, wakeFail := true }), false, false,
        ?_⟩ <;> and_intros <;> first | decide +kernel | rfl

/-- The hypotheses of `ResetsAndLossesOfSupply`, clause by clause. -/
theorem wit_resets_and_losses_of_supply :
    (∃ (s : State), s.pwc.vaonOk = true) ∧
    (∃ (s : State), s.pwc.porstLow = false) ∧
    (∃ (s : State), s.pwc.pfail = false) ∧
    (∃ (s : State), ((s.pwc.rstoutLow = false ∨ s.pwc.phase ≠ .running))) ∧
    (∃ (s : State), s.pwc.vaonOk = false) ∧
    (∃ (s : State), s.pwc.porstLow = true ∧ s.pwc.vaonOk = true ∧ bitAt s.pwc.pgs 0 = false) ∧
    (∃ (s : State) (n : Nat), n < 3 ∧ s.pwc.phase = .running) ∧
    (∃ (s : State) (n : Nat), n < 3 ∧ ((s.pwc.phase = .xin ∨ ∃ k, s.pwc.phase = .pg k ∧ n < k))) ∧
    (∃ (s : State) (n : Nat) (u : Nat), tget none s.pwc.pgLow n = some u ∧ s.pwc.phase = .running) ∧
    (∃ (s : State), s.pwc.phase = .running) ∧
    (∃ (s : State), s.pwc.pfail = true) ∧
    (∃ (s : State), s.pwc.rstoutLow = true ∧ s.pwc.phase = .running) ∧
    (∃ (s : State), s.pwc.vaonOk = false ∧ s.pwc.porstLow = false ∧ bitAt s.pwc.pgs 0 = false) ∧
    (∃ (s : State) (n : Nat), n < 3 ∧ ((s.pwc.phase = .xin ∨ ∃ k, s.pwc.phase = .pg k ∧ n < k)) ∧
      4 ≤ s.pwc.attempts) ∧
    (∃ (s : State), s.pwc.pfail = true ∧ s.evr.pfailDone = true) := by
  refine ⟨?_, ?_, ?_, ?_, ?_, ?_, ?_, ?_, ?_, ?_, ?_, ?_, ?_, ?_, ?_⟩
  · refine ⟨ready, ?_⟩ <;> and_intros <;> first | decide +kernel | rfl
  · refine ⟨ready, ?_⟩ <;> and_intros <;> first | decide +kernel | rfl
  · refine ⟨ready, ?_⟩ <;> and_intros <;> first | decide +kernel | rfl
  · refine ⟨ready, ?_⟩ <;> and_intros <;> first | decide +kernel | rfl
  · refine ⟨(pwcWith fun x => { x with vaonOk := false }), ?_⟩ <;> and_intros <;> first | decide +kernel | rfl
  · refine ⟨(pwcWith fun x => { x with porstLow := true, pgs := 0 }), ?_⟩ <;> and_intros <;>
        first | decide +kernel | rfl
  · refine ⟨ready, 0, ?_⟩ <;> and_intros <;> first | decide +kernel | rfl
  · refine ⟨(inPower (.pg 1)), 0, ?_⟩ <;> and_intros <;>
        first | decide +kernel | rfl | exact Or.inr ⟨1, rfl, by decide⟩
  · refine ⟨(pwcWith fun x => { x with pgLow := [(0, some 5)] }), 0, 5, ?_⟩ <;> and_intros <;>
        first | decide +kernel | rfl
  · refine ⟨ready, ?_⟩ <;> and_intros <;> first | decide +kernel | rfl
  · refine ⟨(pwcWith fun x => { x with pfail := true }), ?_⟩ <;> and_intros <;> first | decide +kernel | rfl
  · refine ⟨(pwcWith fun x => { x with rstoutLow := true }), ?_⟩ <;> and_intros <;> first | decide +kernel | rfl
  · refine ⟨(pwcWith fun x => { x with vaonOk := false, porstLow := false, pgs := 0 }), ?_⟩ <;> and_intros <;>
        first | decide +kernel | rfl
  · refine ⟨(pwcWith fun x => { x with phase := .pg 1, attempts := 4 }), 0, ?_⟩ <;> and_intros <;>
        first | decide +kernel | rfl | exact Or.inr ⟨1, rfl, by decide⟩
  · refine ⟨{ pwcWith (fun x => { x with pfail := true }) with evr := { ready.evr with pfailDone := true } },
        ?_⟩ <;> and_intros <;> first | decide +kernel | rfl

/-- The hypotheses of `RecorderReportsAndWrites`, clause by clause. -/
theorem wit_recorder_reports_and_writes :
    (∃ (s : State) (c : Nat) (d : Bytes) (st : List Windrow), windrowListed c = true ∧ evrStopped s = false ∧
      windrowExempt c = true ∧ stagingRoom s (windrowClass c) = some (st, none) ∧ ((∀ w, st.head? = some w →
      w.at_ = s.mono → w.written = false → windrowRank w ≤ windrowRank (mkWindrow s c d)))) ∧
    (∃ (s : State) (c : Nat) (d : Bytes) (x : Windrow) (r : List Windrow), windrowListed c = true ∧
      evrStopped s = false ∧ windrowExempt c = true ∧ stagingRoom s (windrowClass c) = some (x :: r, none) ∧
      x.at_ = s.mono ∧ x.written = false ∧ windrowRank (mkWindrow s c d) < windrowRank x ∧ ((∀ y, r.head? = some y →
      y.at_ < s.mono))) ∧
    (∃ (s : State) (c : Nat) (d : Bytes) (w : Windrow) (r : List Windrow), windrowListed c = true ∧
      evrStopped s = false ∧ windrowExempt c = false ∧ s.evr.staging = w :: r ∧ mergesWith s w c d = true) ∧
    (∃ (s : State) (c : Nat) (d : Bytes) (st : List Windrow), windrowListed c = true ∧ evrStopped s = false ∧
      windrowExempt c = false ∧ ((∀ w, s.evr.staging.head? = some w → mergesWith s w c d = false)) ∧
      bucketHas (bucketNow (tget {} s.evr.buckets c) (evrClock s)) = true ∧ stagingRoom s (windrowClass c) = some (st,
      none) ∧ ((∀ w, st.head? = some w → w.at_ = s.mono → w.written = false →
      windrowRank w ≤ windrowRank (mkWindrow s c d)))) ∧
    (∃ (s : State) (c : Nat) (d : Bytes), windrowListed c = true ∧ evrStopped s = false ∧ windrowExempt c = false ∧
      ((∀ w, s.evr.staging.head? = some w → mergesWith s w c d = false)) ∧
      bucketHas (bucketNow (tget {} s.evr.buckets c) (evrClock s)) = false) ∧
    (∃ (c : Nat), windrowListed c = false) ∧
    (∃ (s : State) (c : Nat), windrowListed c = true ∧ evrStopped s = true ∧ windrowClass c ≠ 3) ∧
    (∃ (s : State) (c : Nat), windrowListed c = true ∧ windrowExempt c = true ∧ ((evrStopped s = false ∨
      windrowClass c = 3)) ∧ stagingRoom s (windrowClass c) = none) ∧
    (∃ (s : State) (c : Nat) (st : List Windrow) (v : Windrow), windrowListed c = true ∧ windrowExempt c = true ∧
      ((evrStopped s = false ∨ windrowClass c = 3)) ∧ stagingRoom s (windrowClass c) = some (st, some v)) ∧
    (∃ (s : State), evrWritable s = false) ∧
    (∃ (s : State), ((∀ w, s.evr.staging.head? = some w → w.final = true))) ∧
    (∃ (s : State) (c : Nat) (n : Nat) (st : List Windrow), s.evr.supNow = [(c, n)] ∧ s.evr.lossNow = 0 ∧
      evrStopped s = false ∧ stagingRoom s 1 = some (st, none) ∧ ((∀ x, st.head? = some x → x.written = true ∨
      windrowRank x ≤ 1))) ∧
    (∃ (s : State), evrWritable s = true ∧ s.evr.flushing = false ∧ s.evr.pfailDone = false) ∧
    (∃ (s : State) (w : Windrow), evrWritable s = true ∧ s.evr.flushing = false ∧ s.evr.pfailDone = false ∧
      s.evr.burst ≠ 0 ∧ s.evr.counterWrites = [] ∧ s.evr.checkpointDue = false ∧ dirtyFinal s = [w] ∧
      s.evr.lossNow = 0) ∧
    (∃ (s : State), evrWritable s = true) ∧
    (∃ (s : State) (w : Windrow) (r : List Windrow), s.evr.staging = w :: r ∧ w.final = false) ∧
    (∃ (h : Hcp) (s : State) (e : BucketCfg), accepts { opcode := 0x0C01, classC := true, owner := true } h s = true ∧
      bucketOk e = true ∧ e.code ≠ 0xFFFF) ∧
    (∃ (h : Hcp) (s : State) (l : List BucketCfg),
      accepts { opcode := 0x0C01, classC := true, owner := true } h s = true ∧ l.all bucketOk = true) ∧
    (∃ (h : Hcp) (s : State) (f : Nat) (n : Nat), accepts { opcode := 0x0C02 } h s = true ∧ 1 ≤ n ∧ n ≤ 32 ∧
      f < 2 ^ 32 ∧ s.evr.memFault = false ∧ (evrOldest s : Int) ≤ resolveSeq (evrHead s) (word f)) ∧
    (∃ (h : Hcp) (s : State), accepts { opcode := 0x0C03 } h s = true ∧ s.evr.memFault = false ∧
      s.evr.unformatted = false ∧ s.evr.foreign = false) ∧
    (∃ (h : Hcp) (s : State) (a : BitVec 64) (n : Nat),
      accepts { opcode := 0x0C04, classC := true, owner := true } h s = true ∧ 1 ≤ n ∧ n ≤ 16 ∧
      s.evr.memFault = false ∧ ((s.evr.unformatted = false ∧ s.evr.foreign = false ∨ a = Config.trng s.evr.nonce))) ∧
    (∃ (h : Hcp) (s : State) (a : BitVec 64) (n : Nat),
      accepts { opcode := 0x0C04, classC := true, owner := true } h s = true ∧ 1 ≤ n ∧ n ≤ 16 ∧
      s.evr.memFault = false ∧ ((s.evr.unformatted = true ∨ s.evr.foreign = true)) ∧ a ≠ Config.trng s.evr.nonce) ∧
    (∃ (h : Hcp) (s : State), accepts { opcode := 0x0C05 } h s = true) ∧
    (∃ (s : State) (c : Nat) (n : Nat) (st : List Windrow), s.evr.supNow = [(c, n)] ∧ s.evr.lossNow = 0 ∧
      evrStopped s = false ∧ stagingRoom s 1 = some (st, none) ∧ ((∀ x, st.head? = some x → x.written = true ∨
      windrowRank x ≤ 1)) ∧ s.tms.tsValid = false ∧ s.glob.startAt ≤ s.mono) := by
  refine ⟨?_, ?_, ?_, ?_, ?_, ?_, ?_, ?_, ?_, ?_, ?_, ?_, ?_, ?_, ?_, ?_, ?_, ?_, ?_, ?_, ?_, ?_, ?_, ?_⟩
  · refine ⟨ready, 1, [], [], ?_⟩ <;> and_intros <;> first | decide +kernel | rfl
  · refine ⟨(evrWith fun x => { x with staging := [{ wind1 0x1001 false with at_ := (evrWith id).mono }] }), 1, [],
        { wind1 0x1001 false with at_ := (evrWith id).mono }, [], ?_⟩ <;> and_intros <;>
        first | decide +kernel | rfl | (intro y h; cases h)
  · refine ⟨(evrWith fun x => { x with staging := [wind1 0x1001 false] }), 0x1001, [], (wind1 0x1001 false), [],
        ?_⟩ <;> and_intros <;> first | decide +kernel | rfl
  · refine ⟨ready, 0x1001, [], [], ?_⟩ <;> and_intros <;> first | decide +kernel | rfl
  · refine ⟨(evrWith fun x => { x with buckets := [(0x1001, { rate := 0 })] }), 0x1001, [], ?_⟩ <;> and_intros <;>
        first | decide +kernel | rfl | (intro w h; cases h)
  · refine ⟨0, ?_⟩ <;> and_intros <;> first | decide +kernel | rfl
  · refine ⟨(evrWith fun x => { x with flushing := true }), 0x1001, ?_⟩ <;> and_intros <;> first | decide +kernel | rfl
  · refine ⟨(evrWith fun x => { x with staging := List.replicate 160 (wind1 0x1001 false) }), 1,
        ?_⟩ <;> and_intros <;> first | decide +kernel | rfl
  · refine ⟨(evrWith fun x => { x with staging := List.replicate 31 { wind1 0xA001 false with cls := 3, num := 4 } ++ List.replicate 160 (wind1 0x1001 false) }),
        0xA001, (List.replicate 31 { wind1 0xA001 false with cls := 3, num := 4 }), (wind1 0x1001 false),
        ?_⟩ <;> and_intros <;> first | decide +kernel | rfl
  · refine ⟨(evrWith fun x => { x with ready := false }), ?_⟩ <;> and_intros <;> first | decide +kernel | rfl
  · refine ⟨ready, ?_⟩ <;> and_intros <;> first | decide +kernel | rfl
  · refine ⟨(evrWith fun x => { x with supNow := [(0x1001, 3)] }), 0x1001, 3, [], ?_⟩ <;> and_intros <;>
        first | decide +kernel | rfl
  · refine ⟨ready, ?_⟩ <;> and_intros <;> first | decide +kernel | rfl
  · refine ⟨(evrWith fun x => { x with staging := [wind1 0x1001 true], burst := 1 }), (wind1 0x1001 true),
        ?_⟩ <;> and_intros <;> first | decide +kernel | rfl
  · refine ⟨ready, ?_⟩ <;> and_intros <;> first | decide +kernel | rfl
  · refine ⟨(evrWith fun x => { x with staging := [wind1 0x1001 false] }), (wind1 0x1001 false), [],
        ?_⟩ <;> and_intros <;> first | decide +kernel | rfl
  · refine ⟨hcp0, ready, (⟨0x1001, 10, 50⟩), ?_⟩ <;> and_intros <;> first | decide +kernel | rfl
  · refine ⟨hcp0, ready, [], ?_⟩ <;> and_intros <;> first | decide +kernel | rfl
  · refine ⟨hcp0, ready, 0, 1, ?_⟩ <;> and_intros <;> first | decide +kernel | rfl
  · refine ⟨hcp0, ready, ?_⟩ <;> and_intros <;> first | decide +kernel | rfl
  · refine ⟨hcp0, ready, 0, 1, ?_⟩ <;> and_intros <;> first | decide +kernel | rfl
  · refine ⟨hcp0, (evrWith fun x => { x with unformatted := true }), (Config.trng 0 + 1), 1, ?_⟩ <;> and_intros <;>
        first | decide +kernel | rfl | (show Config.trng 0 + 1 ≠ Config.trng 0; simp)
  · refine ⟨hcp0, ready, ?_⟩ <;> and_intros <;> first | decide +kernel | rfl
  · refine ⟨{ evrWith (fun x => { x with supNow := [(0x1001, 3)] }) with tms := { ready.tms with tsValid := false } },
        0x1001, 3, [], ?_⟩ <;> and_intros <;> first | decide +kernel | rfl

/-- The hypotheses of `AgeingIsMeasuredAndCorrected`, clause by clause. -/
theorem wit_ageing_is_measured_and_corrected :
    (∃ (s : State), s.fw.phase = .ready ∧ s.agm.settling = false) ∧
    (∃ (v : Int), -2000 ≤ v ∧ v ≤ 2000) ∧
    (∃ (s : State) (r : Nat), s.agm.settling = true ∧ r ≤ s.agm.vcore + 10 ∧ s.agm.vcore ≤ r + 10 ∧
      s.agm.lowering = true) ∧
    (∃ (s : State) (r : Nat), s.agm.settling = true ∧ r ≤ s.agm.vcore + 10 ∧ s.agm.vcore ≤ r + 10 ∧
      s.agm.lowering = false) ∧
    (∃ (s : State) (r : Nat), s.agm.settling = true ∧ ((s.agm.vcore + 10 < r ∨ r + 10 < s.agm.vcore)) ∧
      s.agm.retried = false) ∧
    (∃ (s : State) (r : Nat), s.agm.settling = true ∧ ((s.agm.vcore + 10 < r ∨ r + 10 < s.agm.vcore)) ∧
      s.agm.retried = true) ∧
    (∃ (s : State), ((s.fw.phase ≠ .ready ∨ s.agm.settling = true))) ∧
    (∃ (s : State), s.agm.settling = false) ∧
    (∃ (s : State), s.fw.phase ≠ .ready) ∧
    (∃ (s : State), s.fw.phase = .ready) ∧
    (∃ (h : Hcp) (s : State), accepts { opcode := 0x0C08, classC := true, owner := true } h s = true ∧
      s.agm.measuring = true) ∧
    (∃ (h : Hcp) (s : State), accepts { opcode := 0x0C08, classC := true, owner := true } h s = true ∧
      s.agm.measuring = false) ∧
    (∃ (h : Hcp) (s : State) (l : List Param) (u : State),
      accepts { opcode := 0x0C06, classC := true, owner := true } h s = true ∧ applyChecked agmRec 0 s l = .ok u ∧
      u.agm.cfg.vmin ≤ u.agm.cfg.vmax) ∧
    (∃ (h : Hcp) (s : State) (l : List Param) (i : Nat) (st : Status) (r : Nat),
      accepts { opcode := 0x0C06, classC := true, owner := true } h s = true ∧ applyChecked agmRec 0 s l = .error (i,
      st, r)) ∧
    (∃ (p : Param) (v : Int), p.key = 3 ∧ recNum p 40 300 = some v) ∧
    (∃ (h : Hcp) (s : State), accepts { opcode := 0x0C07 } h s = true) ∧
    (∃ (s : State) (r : Nat), s.agm.settling = true ∧ r ≤ s.agm.vcore + 10 ∧ s.agm.vcore ≤ r + 10 ∧
      s.agm.lowering = true ∧ s.agm.stepFrom ≠ s.agm.vcore) := by
  refine ⟨?_, ?_, ?_, ?_, ?_, ?_, ?_, ?_, ?_, ?_, ?_, ?_, ?_, ?_, ?_, ?_, ?_⟩
  · refine ⟨ready, ?_⟩ <;> and_intros <;> first | decide +kernel | rfl
  · refine ⟨0, ?_⟩ <;> and_intros <;> first | decide +kernel | rfl
  · refine ⟨(agmWith fun x => { x with settling := true, lowering := true }), 750, ?_⟩ <;> and_intros <;>
        first | decide +kernel | rfl
  · refine ⟨(agmWith fun x => { x with settling := true }), 750, ?_⟩ <;> and_intros <;> first | decide +kernel | rfl
  · refine ⟨(agmWith fun x => { x with settling := true }), 0, ?_⟩ <;> and_intros <;> first | decide +kernel | rfl
  · refine ⟨(agmWith fun x => { x with settling := true, retried := true }), 0, ?_⟩ <;> and_intros <;>
        first | decide +kernel | rfl
  · refine ⟨(inPhase .rom), ?_⟩ <;> and_intros <;>
        exact Or.inl (by decide +kernel)
  · refine ⟨ready, ?_⟩ <;> and_intros <;> first | decide +kernel | rfl
  · refine ⟨(inPhase .rom), ?_⟩ <;> and_intros <;> first | decide +kernel | rfl
  · refine ⟨ready, ?_⟩ <;> and_intros <;> first | decide +kernel | rfl
  · refine ⟨hcp0, (agmWith fun x => { x with measuring := true }), ?_⟩ <;> and_intros <;> first | decide +kernel | rfl
  · refine ⟨hcp0, ready, ?_⟩ <;> and_intros <;> first | decide +kernel | rfl
  · refine ⟨hcp0, ready, [], ready, ?_⟩ <;> and_intros <;> first | decide +kernel | rfl
  · refine ⟨hcp0, ready, [⟨99, 0, 0, .num 0⟩], 0, .invalidArgument, 0, ?_⟩ <;> and_intros <;>
        first | decide +kernel | rfl
  · refine ⟨(⟨3, 255, 255, .num 80⟩), 80, ?_⟩ <;> and_intros <;> first | decide +kernel | rfl
  · refine ⟨hcp0, ready, ?_⟩ <;> and_intros <;> first | decide +kernel | rfl
  · refine ⟨(agmWith fun x => { x with settling := true, lowering := true, stepFrom := 760 }), 750,
        ?_⟩ <;> and_intros <;> first | decide +kernel | rfl

/-- The hypotheses of `StepTakesTheFrontCommand`, clause by clause. -/
theorem wit_step_takes_the_front_command :
    (∃ (s : State) (c : Instr) (rest : List Instr), s.pending = c :: rest) ∧
    (∃ (s : State), s.pending = []) := by
  refine ⟨?_, ?_⟩
  · refine ⟨{ ready with pending := [.fwReady] }, .fwReady, [], ?_⟩ <;> and_intros <;> first | decide +kernel | rfl
  · refine ⟨ready, ?_⟩ <;> and_intros <;> first | decide +kernel | rfl

/-- The hypotheses of `FusesNeverClear`. -/
theorem wit_fuses_never_clear :
    ∃ (s : State) (t : State), step s = .next t := by
  refine ⟨ready, (ready.advance 1), ?_⟩ <;> and_intros <;> first | decide +kernel | rfl

/-- The hypotheses of `BuffersStayCanonical`. -/
theorem wit_buffers_stay_canonical :
    ∃ (s : State) (t : State), s.buffersWf = true ∧ step s = .next t := by
  refine ⟨stored, (stored.advance 1), ?_⟩ <;> and_intros <;> first | decide +kernel | rfl

/-- The hypotheses of `ResetLeavesTheStatedValues`, clause by clause. -/
theorem wit_reset_leaves_the_stated_values :
    (∃ (off : Nat), off ∈ [0x0C, 0x14, 0x18, 0x4C, 0x300004, 0x300008, 0x300040, 0x340000, 0x340004, 0x340008,
      0x200000, 0x200004, 0x200008, 0x380000, 0x380004, 0x380008, 0x480000, 0x480004, 0x480008, 0x480100, 0x440000,
      0x440004, 0x440008, 0x441000, 0x441004, 0x441008]) ∧
    (∃ (k : Nat), k < 8) := by
  refine ⟨?_, ?_⟩
  · refine ⟨0x0C, ?_⟩ <;> and_intros <;> first | decide +kernel | rfl
  · refine ⟨0, ?_⟩ <;> and_intros <;> first | decide +kernel | rfl

end Sys2Proof.Tests
end

section
/-! SUPPORT. The ports: what links, CAN ports and bus-off counts keep, and the commands of Tables 7-5, 7-9 and 7-10. -/

namespace Sys2Proof.Proofs

open Sys2Proof Sys2Proof.Machine

/-! ## Folds -/

/-- What every step of a fold keeps, the fold keeps. -/
theorem foldl_keeps {α β : Type} (v : State → β) (f : State → α → State) (h : ∀ s a, v (f s a) = v s)
    (l : List α) (s : State) : v (l.foldl f s) = v s := by
  induction l generalizing s with
  | nil => rfl
  | cons a r ih => rw [List.foldl_cons, ih, h]

/-! ## What the ports keep -/

/-- The links, the CAN ports, and the bus-off count (counter 38, Table 7-7) of every port. -/
def portView (s : State) : Table LinkRec × Table CanPort × (Nat → BitVec 64) :=
  (s.ports.links, s.ports.can, fun q => tget 0 s.ports.counters (q * 64 + 38))

theorem portView_congr {s t : State} (h : t.ports = s.ports) : portView t = portView s := by
  simp only [portView, h]

theorem linkRec_of_view {s t : State} (h : portView t = portView s) (q : Nat) : linkRec t q = linkRec s q := by
  simp only [portView, Prod.mk.injEq] at h
  simp only [linkRec, h.1]

theorem canOf_of_view {s t : State} (h : portView t = portView s) (n : Nat) : canOf t n = canOf s n := by
  simp only [portView, Prod.mk.injEq] at h
  simp only [canOf, h.2.1]

theorem busOffCount_of_view {s t : State} (h : portView t = portView s) (q : Nat) :
    tget 0 t.ports.counters (q * 64 + 38) = tget 0 s.ports.counters (q * 64 + 38) := by
  simp only [portView, Prod.mk.injEq] at h
  exact congrFun h.2.2 q

/-- Only counter 38 is the bus-off count. -/
theorem portView_countPort (s : State) (p n : Nat) {c : Nat} (hc : c % 64 ≠ 38) :
    portView (countPort s p c n) = portView s := by
  have hk : ∀ q, q * 64 + 38 ≠ p * 64 + c := by omega
  simp only [portView, countPort, tget_tmod_other 0 s.ports.counters _ (hk _)]

theorem portView_countGot (s : State) (p len : Nat) (m b : Bool) : portView (countGot s p len m b) = portView s := by
  unfold countGot
  dsimp only
  split
  · simp [portView_countPort]
  · split <;> simp [portView_countPort]

theorem portView_countSent (s : State) (p len : Nat) (m b : Bool) : portView (countSent s p len m b) = portView s := by
  unfold countSent
  dsimp only
  split
  · simp [portView_countPort]
  · split <;> simp [portView_countPort]

theorem portView_emit (s : State) (x : Sent) : portView (emit s x) = portView s := rfl

theorem portView_mgpSends (s : State) (via : Option Nat) (x : Sent) : portView (mgpSends s via x) = portView s := by
  cases via with
  | none => rw [mgpSends_none, portView_emit, portView_countGot]
  | some p => rw [mgpSends_some, portView_emit, portView_countSent, portView_countGot]

theorem portsOf_report (s : State) (c : Nat) (d : Bytes) : (report s c d).ports = s.ports := by simp

theorem portsOf_setAlarm (s : State) (r : AlarmReg) (b : Nat) : (setAlarm s r b).ports = s.ports := by simp

theorem portView_event (s : State) (t typ : Nat) (d : Bytes) : portView (event s t typ d) = portView s :=
  portView_congr (by simp)

/-! ## What a frame's discard with PORT_DOWN keeps (reason 13, Table 5-9) -/

theorem portView_discard (s : State) (d : Discard) (hr : d.reason = 13) : portView (Machine.discard s d) = portView s := by
  have hc : (48 + d.reason) % 64 ≠ 38 := by omega
  unfold Machine.discard
  dsimp only
  split
  · rw [portView_congr (s := countPort { s with fab := { s.fab with bit := discardRecord s d } } d.port (48 + d.reason) 1)
      (by simp), portView_countPort _ _ _ hc]; rfl
  · rw [portView_congr (s := countPort { s with fab := { s.fab with bit := discardRecord s d } } d.port (48 + d.reason) 1)
      (by simp), portView_countPort _ _ _ hc]; rfl

@[simp] theorem tc6Check_ports (s : State) (p : Nat) : (tc6Check s p).ports = s.ports := by
  unfold tc6Check
  dsimp only
  split <;> rfl

theorem portView_violation (s : State) (i at_ kind reason residence : Nat) :
    portView (violation s i at_ kind reason residence) = portView s := by
  unfold violation
  split
  · rfl
  · dsimp only
    rw [apply_ite portView, portView_event, portView_mgpSends, ite_self]
    exact portView_congr (by rw [portsOf_report, portsOf_setAlarm]; exact tc6Check_ports _ _)

theorem portView_discardHeld (s : State) (h : Held) (p e : Nat) : portView (discardHeld s h p e 13) = portView s := by
  unfold discardHeld lose
  dsimp only
  split
  · exact portView_discard _ _ rfl
  · split
    · rw [portView_violation, portView_discard _ _ rfl]
    · exact portView_discard _ _ rfl

@[simp] theorem releaseFrame_ports (s : State) (k : Nat) : (releaseFrame s k).ports = s.ports := by
  unfold releaseFrame
  split
  · rfl
  · split <;> rfl

theorem portView_dropQueued (s : State) (p cls k : Nat) : portView (dropQueued s p cls k 13) = portView s := by
  unfold dropQueued
  split
  · rfl
  · rw [portView_congr (releaseFrame_ports _ _), portView_discardHeld]; rfl

/-- A CAN port with nothing in its transmit buffers. -/
def clearBuffers (s : State) (p : Nat) : State := putCan s (p - 80) { canOf s (p - 80) with buffers := [] }

theorem portView_drainCan (s : State) {p : Nat} (hp : portKind p = .can) :
    portView (drainCan s p 13) = portView (clearBuffers s p) := by
  unfold drainCan
  rw [if_pos hp]
  refine (foldl_keeps portView _ (fun s k => ?_) _ _).trans rfl
  split
  · rw [portView_congr (releaseFrame_ports _ _), portView_discardHeld]
  · rfl

/-- The links, the bus-off counts and the CAN ports of a drained CAN port are those before, its buffers apart. -/
theorem drainPort_can (s : State) {p : Nat} (hp : portKind p = .can) :
    ∃ u, portView u = portView s ∧ portView (drainPort s p 13) = portView (clearBuffers u p) := by
  refine ⟨_, ?_, portView_drainCan _ hp⟩
  exact foldl_keeps portView _ (fun s c => foldl_keeps portView _ (fun s k => portView_dropQueued s p c k) _ s) _ s

/-! ## Streams and far accesses of a port that goes down or comes up -/

theorem hopDown_ports (s : State) (o : OriginStream) (k : Nat) : (hopDown s o k).ports = s.ports := by
  unfold hopDown
  split
  · rfl
  · dsimp only
    split <;> simp [suspend, streamEvent, mirrorState, mirrorLocal, putOrigin]

theorem hopUp_ports (s : State) (o : OriginStream) (k : Nat) : (hopUp s o k).ports = s.ports := by
  unfold hopUp
  split
  · rfl
  · dsimp only
    (repeat' split) <;> simp [streamEvent, mirrorState, mirrorLocal, putOrigin]

theorem portView_markStreams (s : State) (p : Nat) (down : Bool) : portView (markStreams s p down) = portView s := by
  refine foldl_keeps portView _ (fun s e => ?_) _ s
  split
  · rfl
  · split
    · rfl
    · dsimp only
      split
      · rw [portView_mgpSends]; rfl
      · split
        · rw [apply_ite portView, portView_congr (hopDown_ports _ _ _), portView_congr (hopUp_ports _ _ _), ite_self]; rfl
        · rfl

@[simp] theorem farErr_ports (s : State) (f b : Nat) : (farErr s f b).ports = s.ports := rfl

@[simp] theorem farLog_ports (s : State) (f bits addr status : Nat) : (farLog s f bits addr status).ports = s.ports := by
  unfold farLog
  dsimp only
  split <;> simp [putFar]

@[simp] theorem farReserve_ports (s : State) (f : Nat) : (farReserve s f).ports = s.ports := by
  unfold farReserve
  dsimp only
  split <;> rfl

@[simp] theorem farEnd_ports (s : State) (f : Nat) (a : FarAcc) (e : FarEnd) : (farEnd s f a e).ports = s.ports := by
  unfold farEnd
  dsimp only
  (repeat' split) <;> simp

@[simp] theorem farHeadEnd_ports (s : State) (f : Nat) (e : FarEnd) : (farHeadEnd s f e).ports = s.ports := by
  unfold farHeadEnd
  split
  · rfl
  · simp [putFar]

theorem farFlush_ports (n : Nat) (s : State) (f : Nat) (e : FarEnd) : (farFlush n s f e).ports = s.ports := by
  induction n generalizing s with
  | zero => rfl
  | succ n ih =>
    unfold farFlush
    split
    · rfl
    · rw [ih, farHeadEnd_ports]

theorem farPortDown_ports (s : State) (p : Nat) : (farPortDown s p).ports = s.ports := by
  refine foldl_keeps State.ports _ (fun s f => ?_) _ s
  split
  · exact farFlush_ports _ _ _ _
  · rfl

/-! ## CAN ports (R180 to R182) -/

/-- The CAN ports are logical ports 80 to 87 (Table 0-4). -/
theorem can_range {p : Nat} (hp : portKind p = .can) : 80 ≤ p ∧ p < 88 := by
  unfold portKind at hp
  split_ifs at hp
  · omega
  · split at hp <;> cases hp

theorem linkOf_can {p : Nat} (hp : portKind p = .can) : linkOf p = none := by
  have := can_range hp
  simp only [linkOf, if_neg (show ¬ p < 4 by omega), if_neg (show ¬ p = 95 by omega)]

theorem portView_linkEvent (s : State) (p f r : Nat) : portView (linkEvent s p f r) = portView s := portView_event ..

theorem portView_countPaused (s : State) (p : Nat) : portView (countPaused s p) = portView s :=
  portView_countPort _ _ _ (by decide)

/-- What a halt of the port holds is discarded. -/
def dropHeldOut (s : State) (p : Nat) : State :=
  (s.ports.heldOut.filter fun e => e.port == p).foldl
    (fun s e => Machine.discard s
      { port := p, reason := 13, ingress := 255, egress := p, tenant := 0, len := sentLen e.item })
    { s with ports := { s.ports with heldOut := s.ports.heldOut.filter fun e => e.port != p } }

theorem portView_dropHeldOut (s : State) (p : Nat) : portView (dropHeldOut s p) = portView s :=
  foldl_keeps portView _ (fun s _ => portView_discard s _ rfl) _ _

/-- The link of a port that has gone down (R170). -/
def downLink (x : LinkRec) : LinkRec :=
  { x with up := false, partner := none, haltUntil := none, ignoring := false, lpiNow := false }

/-- What is left of the ports when a CAN port that was up has gone down. -/
theorem portDown_can_view (s : State) {p : Nat} (f r : Nat) (hp : portKind p = .can) (hu : (linkRec s p).up = true) :
    ∃ u v, portView u = portView s ∧ portView v = portView (putLink u p (downLink (linkRec s p)))
      ∧ portView (portDown s p f r) = portView (clearBuffers v p) := by
  have hpaused : portView (if txHalted s p then countPaused s p else s) = portView s := by
    rw [apply_ite portView, portView_countPaused, ite_self]
  let u := dropHeldOut (if txHalted s p then countPaused s p else s) p
  obtain ⟨v, hv, hd⟩ := drainPort_can (putLink u p (downLink (linkRec s p))) hp
  refine ⟨u, v, (portView_dropHeldOut _ p).trans hpaused, hv, ?_⟩
  unfold portDown
  rw [if_neg (by simp [hu])]
  dsimp only
  rw [linkOf_can hp, if_neg (by simp [hp])]
  dsimp only
  rw [portView_congr (farPortDown_ports _ _), portView_markStreams, portView_linkEvent, portView_countPort _ _ _ (by decide)]
  exact hd

/-- A CAN port that goes down: its link is down, its buffers are empty, and every other link, CAN port and every bus-off count
stays. -/
theorem portDown_can (s : State) {p : Nat} (f r : Nat) (hp : portKind p = .can) :
    (linkRec (portDown s p f r) p).up = false
    ∧ (∀ q, q ≠ p → linkRec (portDown s p f r) q = linkRec s q)
    ∧ (canOf (portDown s p f r) (p - 80)).busOff = (canOf s (p - 80)).busOff
    ∧ (canOf (portDown s p f r) (p - 80)).recovering = (canOf s (p - 80)).recovering
    ∧ (∀ n, n ≠ p - 80 → canOf (portDown s p f r) n = canOf s n)
    ∧ ∀ q, tget 0 (portDown s p f r).ports.counters (q * 64 + 38) = tget 0 s.ports.counters (q * 64 + 38) := by
  cases hu : (linkRec s p).up with
  | false => simp [portDown, hu]
  | true =>
    obtain ⟨u, v, hus, hvu, hd⟩ := portDown_can_view s f r hp hu
    have hlink : ∀ q, linkRec (portDown s p f r) q = linkRec v q := fun q => linkRec_of_view hd q
    have hcan : ∀ n, canOf v n = canOf s n := fun n => (canOf_of_view hvu n).trans (canOf_of_view hus n)
    have hbuf := canOf_of_view hd
    refine ⟨?_, fun q hq => ?_, ?_, ?_, fun n hn => ?_, fun q => ?_⟩
    · rw [hlink, linkRec_of_view hvu, linkRec_putLink_self]; rfl
    · rw [hlink, linkRec_of_view hvu, linkRec_putLink_other _ _ hq, linkRec_of_view hus]
    · rw [hbuf, clearBuffers, canOf_putCan_self, hcan]
    · rw [hbuf, clearBuffers, canOf_putCan_self, hcan]
    · rw [hbuf, clearBuffers, canOf_putCan_other _ _ hn, hcan]
    · exact (busOffCount_of_view hd q).trans ((busOffCount_of_view hvu q).trans (busOffCount_of_view hus q))

/-- What a CAN port's link up brings, where ports are not held down: its link is up and nothing else of the ports changes. -/
theorem portUp_can (s : State) {p : Nat} (hp : portKind p = .can) (hh : portsHeld s = false) :
    portView (portUp s p 0 none) = portView (putLink s p { linkRec s p with
      up := true, halfDuplex := false, noSync := false, partner := none, lpiNow := lpiOf s s.pwc.state p }) := by
  unfold portUp
  dsimp only
  rw [if_neg (by simp [hh]), linkOf_can hp, hp]
  dsimp only
  rw [if_neg (by decide), portView_markStreams, portView_linkEvent]

theorem portUp_held {s : State} (p f : Nat) (x : Option Partner) (hh : portsHeld s = true) : portUp s p f x = s := by
  simp [portUp, hh]

/-- CAN_BUS_OFF of a CAN port that is not bus-off yet. -/
theorem canOff_effect {s : State} {p : Nat} (hp : portKind p = .can) (ho : (canOf s (p - 80)).busOff = false) :
    canOff p s = portDown (countPort (putCan s (p - 80)
      { canOf s (p - 80) with busOff := true, recovering := false }) p 38 1) p 0 0 := by
  simp [canOff, hp, ho]

/-- CAN_AUTO_RECOVERY where it takes place. -/
theorem canRejoin_effect {s : State} {p n : Nat} (hp : portKind p = .can) (ho : (canOf s (p - 80)).busOff = true)
    (hm : (canOf s (p - 80)).manual = false ∨ (canOf s (p - 80)).recovering = true) (hn : 1408 ≤ n) :
    canRejoin p n s =
      (let u := putCan s (p - 80) { canOf s (p - 80) with busOff := false, recovering := false }
       if (portCfg s p).enabled && !(linkRec s p).up then portUp u p 0 none else u) := by
  unfold canRejoin
  rw [if_pos ⟨hp, ho, by simpa using hm, hn⟩]
  rfl

theorem canBusOff_clause (s : State) (p : Nat) (hp : portKind p = .can) (ho : (canOf s (p - 80)).busOff = false) :
    ∃ t, exec (.canBusOff p) s = .next t
      ∧ (canOf t (p - 80)).busOff = true ∧ (canOf t (p - 80)).recovering = false
      ∧ (∀ n, n ≠ p - 80 → canOf t n = canOf s n) ∧ (linkRec t p).up = false
      ∧ tget 0 t.ports.counters (p * 64 + 38) = tget 0 s.ports.counters (p * 64 + 38) + 1
      ∧ ∀ q, q ≠ p → linkRec t q = linkRec s q := by
  refine ⟨canOff p s, rfl, ?_⟩
  rw [canOff_effect hp ho]
  obtain ⟨hdown, hlinks, hoff, hrec, hcans, hcount⟩ := portDown_can (countPort (putCan s (p - 80)
      { canOf s (p - 80) with busOff := true, recovering := false }) p 38 1) 0 0 hp
  have hself : ∀ x, canOf (countPort (putCan s (p - 80) x) p 38 1) (p - 80) = x := canOf_putCan_self s (p - 80)
  refine ⟨?_, ?_, fun n hn => ?_, hdown, ?_, fun q hq => ?_⟩
  · rw [hoff, hself]
  · rw [hrec, hself]
  · rw [hcans n hn]; exact canOf_putCan_other s _ hn
  · rw [hcount p]; exact tget_tmod_self 0 s.ports.counters (p * 64 + 38) (· + 1)
  · rw [hlinks q hq]; rfl

theorem canAutoRecovery_clause (s : State) (p n : Nat) (hp : portKind p = .can) (ho : (canOf s (p - 80)).busOff = true)
    (hm : (canOf s (p - 80)).manual = false ∨ (canOf s (p - 80)).recovering = true) (hn : 1408 ≤ n) :
    ∃ t, exec (.canAutoRecovery p n) s = .next t
      ∧ canOf t (p - 80) = { canOf s (p - 80) with busOff := false, recovering := false }
      ∧ ((portCfg s p).enabled = true → portsHeld s = false → (linkRec t p).up = true)
      ∧ ∀ q, q ≠ p → linkRec t q = linkRec s q := by
  refine ⟨canRejoin p n s, rfl, ?_⟩
  rw [canRejoin_effect hp ho hm hn]
  dsimp only
  split
  case isFalse hup =>
    refine ⟨canOf_putCan_self s _ _, fun he _ => ?_, fun q _ => rfl⟩
    have : (linkRec s p).up = true := by simpa [he] using hup
    exact this
  case isTrue hup =>
    cases hh : portsHeld s with
    | true =>
      rw [portUp_held p 0 none (by exact hh)]
      exact ⟨canOf_putCan_self s _ _, fun _ h => by simp at h, fun q _ => rfl⟩
    | false =>
      have hv := portUp_can (putCan s (p - 80) { canOf s (p - 80) with busOff := false, recovering := false }) hp hh
      refine ⟨?_, fun _ _ => ?_, fun q hq => ?_⟩
      · rw [canOf_of_view hv]; exact canOf_putCan_self s _ _
      · rw [linkRec_of_view hv, linkRec_putLink_self]
      · rw [linkRec_of_view hv, linkRec_putLink_other _ _ hq]; rfl

/-! ## The commands of Table 7-10 -/

/-- CAN_CONFIG with records that apply and rates that fit (R180, R308). -/
theorem canConfig_sets {h : Hcp} {s u : State} {recs : List Param}
    (ha : accepts { opcode := 0x0605, classC := true, owner := true } h s = true)
    (hr : applyChecked canRec 0 s recs = .ok u) (hok : ∀ n, n < 8 → canRatesOk (canOf u n) = true) :
    exec (.canConfig h recs) s = .next (respond u h 0x0605 .ok 0 []) := by
  have hnone : ((List.range 8).find? fun n => !canRatesOk (canOf u n)) = none :=
    List.find?_eq_none.2 fun n hn => by simp [hok n (List.mem_range.1 hn)]
  refine congrArg Host.Outcome.next ((runHcp_accepted _ ha).trans ?_)
  simp only [hr, hnone, conclude_okay]

/-- CAN_RECOVER of a bus-off port by a tenant that may act on it (R180, R286). -/
theorem canRecover_rejoins {h : Hcp} {s : State} {p : Nat} (ha : accepts { opcode := 0x0606 } h s = true)
    (hk : portKind p = .can) (hright : hasRight s h.tenant 3 = true) (hport : hasPort s h.tenant p = true)
    (ho : (canOf s (p - 80)).busOff = true) :
    exec (.canRecover h p) s
      = .next (respond (putCan s (p - 80) { canOf s (p - 80) with recovering := true }) h 0x0606 .ok 0 []) := by
  refine congrArg Host.Outcome.next ((runHcp_accepted _ ha).trans ?_)
  simp [hk, hright, hport, ho]

/-- A port in manual recovery that no CAN_RECOVER has released stays bus-off. -/
theorem canAutoRecovery_manual {s : State} {p : Nat} (n : Nat) (hm : (canOf s (p - 80)).manual = true)
    (hr : (canOf s (p - 80)).recovering = false) : exec (.canAutoRecovery p n) s = .next s :=
  congrArg Host.Outcome.next (by simp [canRejoin, hm, hr])

/-- MDIO_ACCESS of 1 to 16 operations on ports of the tenant (R173, R286). -/
theorem mdioAccess_sends {h : Hcp} {s : State} {ops : List MdioOp} (ha : accepts { opcode := 0x0607 } h s = true)
    (hright : hasRight s h.tenant 3 = true)
    (hports : (ops.any fun o => !hasPort s h.tenant (Config.phyPort o.phy)) = false) (hne : ops ≠ [])
    (hlen : ops.length ≤ 16) :
    exec (.mdioAccess h ops) s = .next (respond (emitAll s (ops.map fun o => .mdio o.clause45 o.isWrite o.phy o.reg o.data))
      h 0x0607 .ok 0 (ops.flatMap mdioAnswer)) := by
  have hsize : ¬ (ops.isEmpty = true ∨ 16 < ops.length) := by simp [hne]; omega
  refine congrArg Host.Outcome.next ((runHcp_accepted _ ha).trans ?_)
  simp only [hright, hports, Bool.not_true, Bool.or_self, Bool.false_eq_true, if_false, if_neg hsize, conclude_okWith]

/-- PORT_STATUS of a port the tenant may read (R286). -/
theorem portStatus_answers {h : Hcp} {s : State} {p : Nat} (ha : accepts { opcode := 0x0608 } h s = true)
    (hres : portReserved s p = false) (hright : hasRight s h.tenant 4 = true) (hport : hasPort s h.tenant p = true) :
    ∃ d, exec (.portStatus h p) s = .next (respond s h 0x0608 .ok 0 d)
      ∧ d.length = 8 ∧ d.head? = some (BitVec.ofNat 8 p) ∧ d[1]? = some (if (linkRec s p).up then 1 else 0) := by
  refine ⟨leBytes 1 p ++ leBytes 1 (b2n (linkRec s p).up) ++ leBytes 1 (b2n (linkRec s p).halfDuplex)
    ++ leBytes 1 (speedByte s p) ++ leBytes 1 (b2n (portCfg s p).enabled) ++ [0, 0, 0],
    congrArg Host.Outcome.next ((runHcp_accepted _ ha).trans ?_), ?_⟩
  · simp only [hres, hright, hport, Bool.not_true, Bool.or_self, Bool.false_eq_true, if_false, conclude_okWith]
  · cases (linkRec s p).up <;> simp [leBytes, b2n]

/-- Bank `a.bank` waits for the instant of its harvest for tenant `t`; its content stays (R190). -/
def harvestPending (s : State) (t : Nat) (a : HarvestArgs) : State :=
  let x : HarvestBank := tget {} s.ports.banks a.bank
  { s with ports := { s.ports with
      banks := tset {} s.ports.banks a.bank { x with state := .pending, next := some (t, a) } } }

section harvest
variable {h : Hcp} {s : State} {a : HarvestArgs}

/-- HARVEST_TAKE with a reserved port in its mask, before any other test (R8). -/
theorem harvestTake_reserved (ha : accepts { opcode := 0x0609, features := [16] } h s = true)
    (hm : maskReserved s a.mask = true) :
    exec (.harvestTake h a) s = .next (respond s h 0x0609 .invalidArgument 0 []) := by
  refine congrArg Host.Outcome.next ((runHcp_accepted _ ha).trans ?_)
  simp only [hm, if_true, conclude_fails]

/-- HARVEST_TAKE without the right, or with a port outside the tenant's set (R286). -/
theorem harvestTake_notPermitted (ha : accepts { opcode := 0x0609, features := [16] } h s = true)
    (hm : maskReserved s a.mask = false)
    (hd : hasRight s h.tenant 4 = false ∨ ((setOf a.mask).any fun p => !hasPort s h.tenant p) = true) :
    exec (.harvestTake h a) s = .next (respond s h 0x0609 .notPermitted 0x0703 []) := by
  have hd' : (!hasRight s h.tenant 4) = true ∨ ((setOf a.mask).any fun p => !hasPort s h.tenant p) = true := by
    simpa using hd
  refine congrArg Host.Outcome.next ((runHcp_accepted _ ha).trans ?_)
  simp only [hm, Bool.false_eq_true, if_false, if_pos hd', conclude_fails]

/-- The tests that HARVEST_TAKE makes before it looks at the instant: mask, right, port set, bank and its state. -/
structure Harvestable (h : Hcp) (s : State) (a : HarvestArgs) : Prop where
  accepted : accepts { opcode := 0x0609, features := [16] } h s = true
  right : hasRight s h.tenant 4 = true
  bank : a.bank < 4
  ns : a.ns < 1000000000
  notPending : (tget ({} : HarvestBank) s.ports.banks a.bank).state ≠ .pending
  notFilling : (tget ({} : HarvestBank) s.ports.banks a.bank).state ≠ .filling
  mask : maskReserved s a.mask = false
  ports : ((setOf a.mask).any fun p => !hasPort s h.tenant p) = false

/-- What the tests of a harvest leave to do. -/
theorem harvestTake_passes (hh : Harvestable h s a) :
    exec (.harvestTake h a) s = .next (conclude h 0x0609
      (if a.immediate then okay (harvestFill s a.bank h.tenant a (trtNs s) (!trtValid s))
        else if !s.tms.tsValid then fails s .refused rNoTime
        else if linNs a.sec a.ns < trtNs s + 100000 then fails s .refused 0x0101
        else if trtNs s + 3600000000000 < linNs a.sec a.ns then fails s .refused 0x0102
        else okay (armDevice (harvestPending s h.tenant a) (60 + a.bank) targetHarvest (word a.bank) (linNs a.sec a.ns)))) := by
  obtain ⟨ha, hr, hb, hn, hp, hf, hm, hs⟩ := hh
  have hright : ¬ ((!hasRight s h.tenant 4) = true ∨ ((setOf a.mask).any fun p => !hasPort s h.tenant p) = true) := by
    simp [hr, hs]
  have hrange : ¬ (4 ≤ a.bank ∨ 1000000000 ≤ a.ns) := by omega
  refine congrArg Host.Outcome.next ((runHcp_accepted _ ha).trans (congrArg (conclude h 0x0609) ?_))
  dsimp only
  rw [hm, if_neg Bool.false_ne_true, if_neg hright, if_neg hrange, if_neg (not_or.2 ⟨hp, hf⟩)]
  rfl

/-- HARVEST_TAKE immediate fills the bank now (R189). -/
theorem harvestTake_immediate (hh : Harvestable h s a) (hi : a.immediate = true) :
    exec (.harvestTake h a) s
      = .next (respond (harvestFill s a.bank h.tenant a (trtNs s) (!trtValid s)) h 0x0609 .ok 0 []) := by
  rw [harvestTake_passes hh, if_pos hi, conclude_okay]

/-- HARVEST_TAKE deferred arms the bank's device TAU (R190). -/
theorem harvestTake_deferred (hh : Harvestable h s a) (hi : a.immediate = false) (hv : s.tms.tsValid = true)
    (hlo : trtNs s + 100000 ≤ linNs a.sec a.ns) (hhi : linNs a.sec a.ns ≤ trtNs s + 3600000000000) :
    exec (.harvestTake h a) s = .next (respond (armDevice (harvestPending s h.tenant a) (60 + a.bank) targetHarvest
      (word a.bank) (linNs a.sec a.ns)) h 0x0609 .ok 0 []) := by
  rw [harvestTake_passes hh, hi, if_neg Bool.false_ne_true, hv, if_neg (by decide), if_neg (Nat.not_lt.2 hlo),
    if_neg (Nat.not_lt.2 hhi), conclude_okay]

end harvest

/-- HARVEST_FILL_DONE of a bank that is being filled (R191, R192). -/
theorem harvestFillDone_valid {s : State} {b : Nat} {x : HarvestBank} (hx : x = tget {} s.ports.banks b)
    (hf : x.state = .filling) :
    exec (.harvestFillDone b) s = .next (event { s with ports := { s.ports with
        banks := tset {} s.ports.banks b { x with state := .valid, seq := x.seq + 1 } } } x.tenant 6
      (leBytes 1 b ++ leBytes 4 x.ident.toNat ++ [3])) := by
  subst hx
  exact congrArg Host.Outcome.next (if_pos hf)

/-- Settles O37: the effects of the commands and events of Tables 7-5, 7-9 and 7-10, each by its own lemma. -/
theorem canMdioStatusAndHarvest : Obligations.CanMdioStatusAndHarvest := by
  unfold Obligations.CanMdioStatusAndHarvest
  refine ⟨fun h s recs u => canConfig_sets, fun h s p => canRecover_rejoins, canBusOff_clause, canAutoRecovery_clause,
    fun s p n => canAutoRecovery_manual n, fun h s ops => mdioAccess_sends, fun o ho => ?_, fun h s p => portStatus_answers,
    fun h s a ha hr hb hn hp hf hm hs => ⟨fun hi => ?_, fun hi hv hlo hhi => ?_⟩,
    fun h s a ha => ⟨harvestTake_reserved ha, harvestTake_notPermitted ha⟩, fun s b hf => ?_⟩
  · exact ⟨fun v hv => by simp [mdioAnswer, ho, hv], fun hn => by simp [mdioAnswer, ho, hn, leBytes]⟩
  · refine ⟨_, harvestTake_immediate ⟨ha, hr, hb, hn, hp, hf, hm, hs⟩ hi, ?_⟩
    have hbank : ∀ b, b ≠ a.bank → tget {} (harvestFill s a.bank h.tenant a (trtNs s) (!trtValid s)).ports.banks b
        = tget ({} : HarvestBank) s.ports.banks b := fun b hne => tget_tset_other _ _ _ hne
    simpa [harvestFill] using hbank
  · refine ⟨_, harvestTake_deferred ⟨ha, hr, hb, hn, hp, hf, hm, hs⟩ hi hv hlo hhi, ?_⟩
    exact ⟨tget_tset_self _ _ _ _, by rw [armDevice, tauOf_putTau_self], by rw [armDevice, tauOf_putTau_self]⟩
  · exact ⟨_, _, harvestFillDone_valid rfl hf, rfl, by simp, rfl⟩

end Sys2Proof.Proofs
end

section
/-! SUPPORT. Host writes: the map of BAR0, the Far Window, BAR2 and configuration space. -/

namespace Sys2Proof.Proofs

open Sys2Proof Sys2Proof.Machine

/-! ## Alarms, windrows and memory errors in the GLOBAL block -/

/-- A vector raised changes the host interface alone. -/
theorem msixRaise_form (s : State) (v : Nat) : msixRaise s v = { s with host := (msixRaise s v).host } := by
  unfold msixRaise
  dsimp only
  split <;> rfl

/-- A bit of GLOBAL_ERR set changes that register, and the vectors of the host interface. -/
theorem setAlarm_glob_form (s : State) (b : Nat) : setAlarm s .glob b
    = { s with glob := { s.glob with err := setBit s.glob.err b true }, host := (setAlarm s .glob b).host } := by
  unfold setAlarm
  dsimp only
  split
  · rw [msixRaise_form]; rfl
  · rfl

/-- An alarm of another block leaves the GLOBAL block as it was. -/
theorem setAlarm_other_glob (s : State) {r : AlarmReg} (b : Nat) (h : r ≠ .glob) : (setAlarm s r b).glob = s.glob := by
  have hput : ∀ v, (putAlarm s r v).glob = s.glob := by
    intro v
    cases r with
    | glob => exact absurd rfl h
    | _ => rfl
  unfold setAlarm
  dsimp only
  split <;> simp [hput]

theorem windrowLost_glob (s : State) (b : Bool) : (windrowLost s b).glob = s.glob := by
  unfold windrowLost setAlarmIf
  split <;> simp [setAlarm_other_glob]

theorem newWindrow_glob (s : State) (c : Nat) (d : Bytes) : (newWindrow s c d).glob = s.glob := by
  unfold newWindrow
  split <;> simp [windrowLost_glob]

/-- A windrow leaves the GLOBAL block as it was. -/
theorem report_glob (s : State) (c : Nat) (d : Bytes) : (report s c d).glob = s.glob := by
  rcases report_cases s c d with h | h | h | ⟨_, h⟩ | ⟨_, _, h⟩ <;> rw [h]
  · exact windrowLost_glob _ _
  · exact newWindrow_glob _ _ _
  · simp [suppressReport, setAlarm_other_glob]
  · exact newWindrow_glob _ _ _

/-- A capture leaves the counts, the poison and the alarms as they were. -/
theorem eccCapture_keeps (g : Global) (ue : Bool) (m w : Nat) :
    (eccCapture g ue m w).poison = g.poison ∧ (eccCapture g ue m w).ueCount = g.ueCount
      ∧ (eccCapture g ue m w).readData = g.readData ∧ (eccCapture g ue m w).readPoisoned = g.readPoisoned := by
  unfold eccCapture
  split <;> exact ⟨rfl, rfl, rfl, rfl⟩

theorem correctable_poison (s : State) (m w : Nat) : (correctable s m w).glob.poison = s.glob.poison := by
  simp [correctable, eccCapture_keeps]

/-- An uncorrectable error is counted and reported in ecc_ue; what the host's last read returned stays. -/
theorem uncorrectable_reports (s : State) (m w : Nat) :
    bitAt (uncorrectable s m w).glob.err 1 = true ∧ (uncorrectable s m w).glob.ueCount = sat32 (s.glob.ueCount + 1)
      ∧ (uncorrectable s m w).glob.readData = s.glob.readData
      ∧ (uncorrectable s m w).glob.readPoisoned = s.glob.readPoisoned := by
  unfold uncorrectable
  dsimp only
  rw [report_glob, setAlarm_glob_form]
  exact ⟨bitAt_setBit_self _ 1 (by decide), (eccCapture_keeps _ _ _ _).2⟩

/-! ## Writes of BAR0 below the Far Window (R9, R31) -/

section plainWrite
variable {s : State} {off : Nat} {x : HostWrite}

theorem registerWrite_word (bar : Bar) (off : Nat) (x : HostWrite) (s : State) :
    exec (.registerWrite bar off [x]) s = .next (wordWrite bar s off x) := rfl

theorem registerWrite_low (s : State) (x : HostWrite) (hoff : off < 0x800000) :
    exec (.registerWrite .bar0 off [x]) s = .next (busWrite s off x) :=
  congrArg Host.Outcome.next (if_pos hoff)

/-- A register that is not reserved and whose word is sound takes the write by its access code. -/
theorem busWrite_sound (hr : (readReg s off).isSome = true) (hp : poisonedBacking s off = none) (hx : x.single = false) :
    busWrite s off x = regPut s off x.v x.setNow := by
  obtain ⟨v, hv⟩ := Option.isSome_iff_exists.1 hr
  simp [busWrite, hv, posted_sound _ hp, hx]

theorem busWrite_poisoned {m w : Nat} (hr : (readReg s off).isSome = true) (hp : poisonedBacking s off = some (m, w)) :
    busWrite s off x = dropWrite s m w := by
  obtain ⟨v, hv⟩ := Option.isSome_iff_exists.1 hr
  simp only [busWrite, hv, posted_poisoned _ hp]

theorem busWrite_reserved (hr : readReg s off = none) : busWrite s off x = rsvAccess s off := by
  simp only [busWrite, hr]

/-- A single-bit error in the word written is corrected and counted before the write (R29). -/
theorem busWrite_single {m w : Nat} (hr : (readReg s off).isSome = true) (hp : poisonedBacking s off = none)
    (hb : Config.backing off = (m, w)) (hr' : (readReg (correctable s m w) off).isSome = true) :
    busWrite s off { x with single := true } = busWrite (correctable s m w) off { x with single := false } := by
  have hp' : poisonedBacking (correctable s m w) off = none := by
    rw [← hp]; simp only [poisonedBacking, correctable_poison]
  obtain ⟨v, hv⟩ := Option.isSome_iff_exists.1 hr
  rw [busWrite_sound hr' hp' rfl]
  simp [busWrite, hv, posted_sound _ hp, hb]

/-- A write to a sound register of the map comes to `regPut`. -/
theorem registerWrite_sound (hoff : off < 0x800000) (hr : (readReg s off).isSome = true)
    (hp : poisonedBacking s off = none) (v n : Word) :
    exec (.registerWrite .bar0 off [⟨v, n, false⟩]) s = .next (regPut s off v n) := by
  rw [registerWrite_low s _ hoff, busWrite_sound hr hp rfl]

end plainWrite

/-! ### The map and the access codes -/

/-- The offsets of the ALARM registers and of the other registers that a write changes are registers in every state. -/
theorem alarm_isRegister (s : State) {off : Nat} {r : AlarmReg} {m : Word} (h : (off, r, m) ∈ alarmRegs) :
    off < 0x800000 ∧ (readReg s off).isSome = true ∧ off + 4 < 0x800000 ∧ (readReg s (off + 4)).isSome = true := by
  simp only [alarmRegs, List.mem_cons, Prod.mk.injEq, List.not_mem_nil, or_false] at h
  rcases h with ⟨rfl, -⟩ | ⟨rfl, -⟩ | ⟨rfl, -⟩ | ⟨rfl, -⟩ | ⟨rfl, -⟩ | ⟨rfl, -⟩ | ⟨rfl, -⟩ | ⟨rfl, -⟩ <;>
    exact ⟨by decide, rfl, by decide, rfl⟩

theorem writable_isRegister (s : State) {off : Nat} (h : off ∈ [0x48, 0x4C, 0x20001C, 0x440030, 0x480100]) :
    off < 0x800000 ∧ (readReg s off).isSome = true := by
  simp only [List.mem_cons, List.not_mem_nil, or_false] at h
  rcases h with rfl | rfl | rfl | rfl | rfl <;> exact ⟨by decide, rfl⟩

/-- A write to a sound register that has an access code of its own. -/
theorem registerWrite_access (s : State) {off : Nat} (h : off ∈ [0x48, 0x4C, 0x20001C, 0x440030, 0x480100])
    (hp : poisonedBacking s off = none) (v n : Word) :
    exec (.registerWrite .bar0 off [⟨v, n, false⟩]) s = .next (regPut s off v n) :=
  have hreg := writable_isRegister s h
  registerWrite_sound hreg.1 hreg.2 hp v n

theorem bitAt_andNot {k : Nat} (v n : BitVec k) {i : Nat} (h : i < k) :
    bitAt (v &&& ~~~n) i = (bitAt v i && !bitAt n i) := by
  simp [bitAt, h]

/-- A capture that falls at the instant of the release stays (R9). -/
theorem eccRelease_andNot (s : State) (v n : Word) :
    eccRelease s (v &&& ~~~n) = if bitAt n 31 then s else eccRelease s v := by
  unfold eccRelease
  rw [bitAt_andNot v n (by decide)]
  cases bitAt n 31 <;> simp

/-- A write to an ALARM register: ones clear, but for bits set at that instant (R9). -/
theorem regPut_alarm (s : State) {off : Nat} {r : AlarmReg} {m : Word} (h : (off, r, m) ∈ alarmRegs) (v n : Word) :
    regPut s off v n = putAlarm s r (alarmOf s r &&& ~~~(v &&& ~~~n)) := by
  simp only [alarmRegs, List.mem_cons, Prod.mk.injEq, List.not_mem_nil, or_false] at h
  rcases h with ⟨rfl, rfl, -⟩ | ⟨rfl, rfl, -⟩ | ⟨rfl, rfl, -⟩ | ⟨rfl, rfl, -⟩ | ⟨rfl, rfl, -⟩ | ⟨rfl, rfl, -⟩ |
    ⟨rfl, rfl, -⟩ | ⟨rfl, rfl, -⟩ <;> rfl

/-- A write to an ALARM_EN register sets its defined bits. -/
theorem regPut_alarmEn (s : State) {off : Nat} {r : AlarmReg} {m : Word} (h : (off, r, m) ∈ alarmRegs) (v n : Word) :
    regPut s (off + 4) v n = putAlarmEn s r (v &&& m) := by
  simp only [alarmRegs, List.mem_cons, Prod.mk.injEq, List.not_mem_nil, or_false] at h
  rcases h with ⟨rfl, rfl, rfl⟩ | ⟨rfl, rfl, rfl⟩ | ⟨rfl, rfl, rfl⟩ | ⟨rfl, rfl, rfl⟩ | ⟨rfl, rfl, rfl⟩ |
    ⟨rfl, rfl, rfl⟩ | ⟨rfl, rfl, rfl⟩ | ⟨rfl, rfl, rfl⟩ <;> rfl

/-- Elsewhere a write goes by the offset alone. -/
theorem regPut_plain (s : State) {off : Nat} (hw : off ∉ [0x48, 0x4C, 0x20001C, 0x440030, 0x480100])
    (ha : ∀ e ∈ alarmRegs, off ≠ e.1 ∧ off ≠ e.1 + 4) (v n : Word) :
    regPut s off v n = if 0x100000 ≤ off ∧ off < 0x200000 then
        (if pageOn (tenant s (off / 0x1000 - 0x100)) (off / 0x1000 - 0x100) .pcie then
          (pageWrite s (off / 0x1000 - 0x100) (off % 0x1000) v .pcie off).getD s else s)
      else s := by
  have h1 : (alarmRegs.find? fun e => e.1 == off) = none :=
    List.find?_eq_none.2 fun e he => by simpa using (ha e he).1.symm
  have h2 : (alarmRegs.find? fun e => e.1 + 4 == off) = none :=
    List.find?_eq_none.2 fun e he => by simpa using (ha e he).2.symm
  unfold regPut
  rw [h1, h2]
  dsimp only
  split
  · exact absurd (by decide) hw
  · exact absurd (by decide) hw
  · exact absurd (by decide) hw
  · exact absurd (by decide) hw
  · exact absurd (by decide) hw
  · rfl

/-- The doorbell pages hold none of the registers with an access code of their own. -/
theorem page_plain {off : Nat} (hlo : 0x100000 ≤ off) (hhi : off < 0x200000) :
    off ∉ [0x48, 0x4C, 0x20001C, 0x440030, 0x480100] ∧ ∀ e ∈ alarmRegs, off ≠ e.1 ∧ off ≠ e.1 + 4 := by
  constructor
  · simp only [List.mem_cons, List.not_mem_nil, or_false]; omega
  · simp only [alarmRegs, List.forall_mem_cons, List.not_mem_nil, false_imp_iff, implies_true, and_true]; omega

theorem readReg_page (s : State) {t o : Nat} (ht : t < 256) (ho : o < 0x1000) :
    readReg s (0x100000 + t * 0x1000 + o) = pageReg s t o := by
  have hoff : 0x100000 + t * 0x1000 + o < 0x200000 := by omega
  have htenant : (0x100000 + t * 0x1000 + o) / 0x1000 - 0x100 = t := by omega
  have hreg : (0x100000 + t * 0x1000 + o) % 0x1000 = o := by omega
  unfold readReg
  rw [if_neg (by omega), if_neg (by omega), if_neg (by omega), if_pos hoff, htenant, hreg]

theorem regPut_page (s : State) {t o : Nat} (ht : t < 256) (ho : o < 0x1000) (v n : Word) :
    regPut s (0x100000 + t * 0x1000 + o) v n
      = if pageOn (tenant s t) t .pcie then (pageWrite s t o v .pcie (0x100000 + t * 0x1000 + o)).getD s else s := by
  have hoff : 0x100000 + t * 0x1000 + o < 0x200000 := by omega
  have htenant : (0x100000 + t * 0x1000 + o) / 0x1000 - 0x100 = t := by omega
  have hreg : (0x100000 + t * 0x1000 + o) % 0x1000 = o := by omega
  obtain ⟨hw, ha⟩ := page_plain (off := 0x100000 + t * 0x1000 + o) (by omega) hoff
  rw [regPut_plain s hw ha, if_pos ⟨by omega, hoff⟩, htenant, hreg]

theorem dropWrite_reports (s : State) (m w : Nat) :
    (dropWrite s m w).glob.aer = true ∧ bitAt (dropWrite s m w).glob.err 1 = true
      ∧ (dropWrite s m w).glob.ueCount = sat32 (s.glob.ueCount + 1) :=
  have h := uncorrectable_reports s m w
  ⟨rfl, h.1, h.2.1⟩

/-! ## Writes of the Far Window (R232, Table 9-7) -/

section farWindow
variable {f o : Nat}

/-- The target and the offset that an address of the Far Window names. -/
theorem far_target (hf : f < 256) (ho : o < 0x8000) :
    ¬ 0x800000 + f * 0x8000 + o < 0x800000 ∧ 0x800000 + f * 0x8000 + o < 0x1000000
      ∧ (0x800000 + f * 0x8000 + o - 0x800000) / 0x8000 = f ∧ (0x800000 + f * 0x8000 + o) % 0x8000 = o := by
  omega

theorem registerWrite_far (hf : f < 256) (ho : o < 0x8000) (s : State) (x : HostWrite) :
    exec (.registerWrite .bar0 (0x800000 + f * 0x8000 + o) [x]) s
      = .next (if o < 0x7FC0 then hostWrite f o (leBytes 4 x.v.toNat) s
        else if o = 0x7FC4 then putFar s f { farOf s f with err := (farOf s f).err &&& ~~~(x.v &&& ~~~x.setNow) }
        else if o = 0x7FCC then fwLock f x.v s else s) := by
  obtain ⟨hlo, hhi, htarget, hoff⟩ := far_target hf ho
  rw [registerWrite_word]
  simp only [wordWrite, farBusWrite, if_neg hlo, if_pos hhi, htarget, hoff]

/-- A 64-bit write below the control words is one write of 8 B (R235). -/
theorem registerWrite_far64 (hf : f < 256) (ho : o < 0x7FC0) (s : State) (x y : HostWrite) :
    exec (.registerWrite .bar0 (0x800000 + f * 0x8000 + o) [x, y]) s
      = exec (.farHostWrite f o (leBytes 4 x.v.toNat ++ leBytes 4 y.v.toNat)) s := by
  obtain ⟨hlo, hhi, htarget, hoff⟩ := far_target hf (show o < 0x8000 by omega)
  have hwide : farWide .bar0 (0x800000 + f * 0x8000 + o) = true := by
    simp only [farWide, beq_self_eq_true, Bool.true_and, decide_eq_true_eq]; omega
  change Host.Outcome.next (if farWide .bar0 (0x800000 + f * 0x8000 + o) = true then _ else _) = _
  rw [if_pos hwide, htarget, hoff]
  rfl

end farWindow

/-! ## Writes of BAR2 (R34) and of configuration space -/

/-- A write of word `k` of the MSI-X table's entry `n`. -/
theorem bar2Write_entry (s : State) {n k : Nat} (hn : n < 257) (hk : k < 4) (v : Word) :
    bar2Write s (n * 16 + 4 * k) v =
      (let u := { s with host := { s.host with msix := tset none s.host.msix (4 * n + k) (some v) } }
       if k = 3 ∧ ¬ bitAt v 0 = true ∧ s.host.pba.contains n = true then
        { u with host := { u.host with pba := sdel s.host.pba n, sent := s.host.sent ++ [n] } } else u) := by
  have hword : (n * 16 + 4 * k) / 4 = 4 * n + k := by omega
  have hin : ¬ ((n * 16 + 4 * k) % 4 ≠ 0 ∨ 257 * 4 ≤ 4 * n + k) := by omega
  have hreg : (4 * n + k) % 4 = k := by omega
  have hentry : (4 * n + k) / 4 = n := by omega
  unfold bar2Write
  dsimp only
  rw [hword, if_neg hin, hreg, hentry]

theorem bar2Write_outside (s : State) {off : Nat} (h : 0x1010 ≤ off) (v : Word) : bar2Write s off v = s := by
  unfold bar2Write
  exact if_pos (.inr (by omega))

theorem configWrite_other (s : State) {off : Nat} (h : off ∉ [0x10, 0x14, 0x18, 0x1C]) (v : Word) :
    configWrite s off v = { s with host :=
      if off = Config.devCtl2 then { s.host with completionUs := completionCode (v.toNat % 16) }
      else if off = Config.devCtl2 - 0x20 then { s.host with devCtl := v &&& 0xFFFF } else s.host } := by
  simp only [List.mem_cons, List.not_mem_nil, or_false, not_or] at h
  obtain ⟨h0, h1, h2, h3⟩ := h
  unfold configWrite
  dsimp only
  rw [if_neg h0, if_neg h1, if_neg h2, if_neg h3]

/-- Outside the modules' space no 64-bit access stays whole. -/
theorem farWide_false {bar : Bar} {off : Nat}
    (h : bar = .bar0 → off < 0x800000 ∨ 0x1000000 ≤ off ∨ 0x7FC0 ≤ off % 0x8000) : farWide bar off = false := by
  cases bar with
  | bar0 =>
    have := h rfl
    simp only [farWide, beq_self_eq_true, Bool.true_and, decide_eq_false_iff_not]; omega
  | bar2 => rfl
  | config => rfl

/-- A 64-bit write is its two halves, the lower address first (R31). -/
theorem registerWrite_halves {bar : Bar} {off : Nat} (x y : HostWrite) (s : State)
    (h : bar = .bar0 → off < 0x800000 ∨ 0x1000000 ≤ off ∨ 0x7FC0 ≤ off % 0x8000) :
    exec (.registerWrite bar off [x, y]) s = exec (.registerWrite bar (off + 4) [y]) (wordWrite bar s off x) := by
  change Host.Outcome.next (if farWide bar off = true then _ else _) = _
  rw [farWide_false h]
  rfl

/-- Settles O1: a write to BAR0 by the register's access code (`regPut`), to a poisoned or a reserved word, to the Far Window, to
BAR2, to configuration space, and in two halves. -/
theorem registerWriteActsByAccessCode : Obligations.RegisterWriteActsByAccessCode := by
  unfold Obligations.RegisterWriteActsByAccessCode
  refine ⟨fun s off r m v n h hp => ?_, fun s off r m v n h hp => ?_,
    fun s v n hp => registerWrite_access s (by simp) hp v n, fun s off v n hoff hr hp hpage hw ha => ?_,
    fun s off x hoff hr => ?_, fun s off x m w hoff hr hp => ?_, fun s n x hn hb hpend => ?_, fun s n x hn hb => ?_,
    fun s n k x hn hk => ?_, fun s off x h => congrArg Host.Outcome.next (bar2Write_outside s h x.v),
    fun s v n hp => ?_, fun s v n hp => ?_, fun s v n hp => ?_, fun s v n hp hv hn => ?_, fun s t o v n ht ho hr hp => ?_,
    fun s off x m w hoff hr hp hb hr' => ?_, fun s f o x hf ho => ?_, fun s f x hf => registerWrite_far hf (by decide) s x,
    fun s f x hf => registerWrite_far hf (by decide) s x, fun s f o x hf hlo ho herr hlock => ?_,
    fun s x => ⟨rfl, rfl, rfl, rfl⟩, fun s off x h => congrArg Host.Outcome.next (configWrite_other s h x.v),
    fun s f o x y hf ho => registerWrite_far64 hf ho s x y, fun bar off x y s h => ⟨_, rfl, registerWrite_halves x y s h⟩⟩
  -- an ALARM register, an ALARM_EN register and a register without an access code of its own
  · obtain ⟨hoff, hr, -, -⟩ := alarm_isRegister s h
    rw [registerWrite_sound hoff hr hp, regPut_alarm s h]
  · obtain ⟨-, -, hoff, hr⟩ := alarm_isRegister s h
    rw [registerWrite_sound hoff hr hp, regPut_alarmEn s h]
  · rw [registerWrite_sound hoff hr hp, regPut_plain s hw ha, if_neg (by omega)]
  -- a reserved offset and a poisoned word
  · rw [registerWrite_low s x hoff, busWrite_reserved hr]
  · exact ⟨_, (registerWrite_low s x hoff).trans (congrArg Host.Outcome.next (busWrite_poisoned hr hp)),
      dropWrite_reports s m w⟩
  -- the vector control and the other words of the MSI-X table
  · refine congrArg Host.Outcome.next ((bar2Write_entry s hn (k := 3) (by decide) x.v).trans (if_pos ⟨rfl, ?_, hpend⟩))
    exact Bool.eq_false_iff.1 hb
  · refine congrArg Host.Outcome.next ((bar2Write_entry s hn (k := 3) (by decide) x.v).trans (if_neg fun h => ?_))
    exact hb.elim h.2.1 fun hpend => Bool.false_ne_true (hpend.symm.trans h.2.2)
  · exact congrArg Host.Outcome.next ((bar2Write_entry s hn (by omega) x.v).trans (if_neg fun h => by omega))
  -- the error counts, the capture, FF_BRINE and wake_fail
  · exact (registerWrite_access s (by simp) hp v n).trans
      (congrArg Host.Outcome.next (posted_sound (fun s => eccClear s v false false) hp).symm)
  · exact (registerWrite_access s (by simp) hp v n).trans
      (congrArg Host.Outcome.next ((eccRelease_andNot s v n).trans
        (posted_sound (fun s => if bitAt n 31 then s else eccRelease s v) hp).symm))
  · exact (registerWrite_access s (by simp) hp v n).trans
      (congrArg Host.Outcome.next (posted_sound (fun s => brineClear s v) hp).symm)
  · have hbit : bitAt (v &&& ~~~n) 31 = true := by rw [bitAt_andNot v n (by decide), hv, hn]; rfl
    exact (registerWrite_access s (by simp) hp v n).trans (congrArg Host.Outcome.next (if_pos hbit))
  -- a doorbell page, a word with a single-bit error, and the Far Window
  · have hr' : (readReg s (0x100000 + t * 0x1000 + o)).isSome = true := (congrArg Option.isSome (readReg_page s ht ho)).trans hr
    rw [registerWrite_sound (by omega) hr' hp, regPut_page s ht ho]
  · rw [registerWrite_low s _ hoff, registerWrite_low _ _ hoff, busWrite_single hr hp hb hr']
  · exact (registerWrite_far hf (by omega) s x).trans (congrArg Host.Outcome.next (if_pos ho))
  · rw [registerWrite_far hf ho, if_neg (by omega), if_neg herr, if_neg hlock]

end Sys2Proof.Proofs
end

section
/-! SUPPORT. Bad accesses, and host reads of BAR0, the Far Window, BAR2 and configuration space. -/

namespace Sys2Proof.Proofs

open Sys2Proof Sys2Proof.Machine

/-! ## Accesses that the map does not allow (R31) -/

/-- A bad access sets its bit, captures the offset if it is the first, and leaves all else but the vectors it raises. -/
theorem badAccess_form (s : State) (bit off : Nat) : badAccess s bit off = { s with
    glob := { s.glob with
      err := setBit s.glob.err bit true
      badAddr := if bitAt s.glob.err 2 || bitAt s.glob.err 3 then s.glob.badAddr else BitVec.ofNat 24 off }
    host := (badAccess s bit off).host } := by
  unfold badAccess
  dsimp only
  rw [setAlarm_glob_form]
  split <;> rfl

/-- What a bad access leaves in GLOBAL_ERR, in the captured offset and in the data last read; the rest of the state stays. -/
theorem badAccess_effect (s : State) (bit off : Nat) :
    (badAccess s bit off).glob.err = setBit s.glob.err bit true
      ∧ (badAccess s bit off).glob.badAddr
        = (if bitAt s.glob.err 2 || bitAt s.glob.err 3 then s.glob.badAddr else BitVec.ofNat 24 off)
      ∧ (badAccess s bit off).glob.readData = s.glob.readData
      ∧ (badAccess s bit off).glob.readPoisoned = s.glob.readPoisoned
      ∧ { badAccess s bit off with glob := s.glob, host := s.host } = s := by
  rw [badAccess_form]
  exact ⟨rfl, rfl, rfl, rfl, rfl⟩

/-- At a reserved offset a narrow write sets both bits and captures the offset once. -/
theorem narrow_reserved_effect (s : State) (off : Nat) :
    (badAccess (rsvAccess s off) 3 off).glob.err = setBit (setBit s.glob.err 2 true) 3 true
      ∧ (badAccess (rsvAccess s off) 3 off).glob.badAddr
        = (if bitAt s.glob.err 2 || bitAt s.glob.err 3 then s.glob.badAddr else BitVec.ofNat 24 off)
      ∧ { badAccess (rsvAccess s off) 3 off with glob := s.glob, host := s.host } = s := by
  obtain ⟨herr, haddr, -, -, -⟩ := badAccess_effect s 2 off
  obtain ⟨herr', haddr', -, -, -⟩ := badAccess_effect (rsvAccess s off) 3 off
  have hset : bitAt (rsvAccess s off).glob.err 2 = true := by
    rw [rsvAccess, herr]; exact bitAt_setBit_self _ 2 (by decide)
  refine ⟨herr'.trans (congrArg (setBit · 3 true) herr), ?_, ?_⟩
  · rw [haddr', hset, Bool.true_or, if_pos rfl]; exact haddr
  · rw [badAccess_form, rsvAccess, badAccess_form]

theorem narrowWrite_low (s : State) {off : Nat} {be : BitVec 4} (v : Word) (hoff : off < 0x800000) (hbe : be ≠ 15) :
    exec (.narrowWrite off be v) s
      = .next (badAccess (if (readReg s off).isNone then rsvAccess s off else s) 3 off) := by
  refine congrArg Host.Outcome.next ((if_neg hbe).trans (if_neg (by omega)))

theorem narrowWrite_far {f o : Nat} (hf : f < 256) (ho : o < 0x8000) (s : State) {be : BitVec 4} (v : Word) (hbe : be ≠ 15) :
    exec (.narrowWrite (0x800000 + f * 0x8000 + o) be v) s
      = .next (if 0x7FC0 ≤ o then badAccess s 3 (0x800000 + f * 0x8000 + o)
        else (byteRuns be 4 0).foldl (fun s r => hostWrite f (o + r.1) (bytesAt (leBytes 4 v.toNat) r.1 r.2) s) s) := by
  obtain ⟨hlo, hhi, htarget, hoff⟩ := far_target hf ho
  refine congrArg Host.Outcome.next ((if_neg hbe).trans ((if_pos (Nat.le_of_not_lt hlo)).trans ((if_pos hhi).trans ?_)))
  unfold farNarrow
  simp only [htarget, hoff]

/-! ## Reads -/

theorem read_word (bar : Bar) (off : Nat) (s : State) :
    exec (.reservedAccess .read ⟨bar, off⟩) s = .next (wordRead bar s off) := rfl

theorem read_low (s : State) {off : Nat} (hoff : off < 0x800000) :
    exec (.reservedAccess .read ⟨.bar0, off⟩) s = .next (busRead s off) :=
  congrArg Host.Outcome.next (if_pos hoff)

theorem busRead_reserved {s : State} {off : Nat} (hr : readReg s off = none) :
    busRead s off = rsvAccess (returned s [0] false) off := by
  simp only [busRead, hr]

theorem busRead_sound {s : State} {off : Nat} {v : Word} (hr : readReg s off = some v)
    (hp : poisonedBacking s off = none) : busRead s off = readEffect (returned s [v] false) off := by
  simp only [busRead, hr, hp]

theorem busRead_poisoned {s : State} {off m w : Nat} {v : Word} (hr : readReg s off = some v)
    (hp : poisonedBacking s off = some (m, w)) :
    busRead s off = memReact (uncorrectable (returned (draw s).2 [word (Config.free s.draws)] true) m w) m w := by
  simp only [busRead, hr, hp]
  rfl

/-- A write performed as RESERVED_ACCESS. -/
theorem reserved_write (s : State) {off : Nat} (hoff : off < 0x800000) :
    exec (.reservedAccess .write ⟨.bar0, off⟩) s = .next (if (readReg s off).isNone then rsvAccess s off else s) := by
  refine congrArg Host.Outcome.next ?_
  simp [hoff]

theorem read_far {f o : Nat} (hf : f < 256) (ho : o < 0x8000) (s : State) :
    exec (.reservedAccess .read ⟨.bar0, (0x800000 + f * 0x8000 + o)⟩) s
      = .next (if 0x7FC0 ≤ o then returned s [farWord s f o] false else hostRead f o 4 s) := by
  obtain ⟨hlo, hhi, htarget, hoff⟩ := far_target hf ho
  rw [read_word]
  simp only [wordRead, farBusRead, if_neg hlo, if_pos hhi, htarget, hoff]

/-- A 64-bit read below the control words is one read of 8 B (R235). -/
theorem read64_far {f o : Nat} (hf : f < 256) (ho : o < 0x7FC0) (s : State) :
    exec (.reservedAccess .read64 ⟨.bar0, (0x800000 + f * 0x8000 + o)⟩) s = exec (.farHostRead f o 8) s := by
  obtain ⟨hlo, hhi, htarget, hoff⟩ := far_target hf (show o < 0x8000 by omega)
  have hwide : farWide .bar0 (0x800000 + f * 0x8000 + o) = true := by
    simp only [farWide, beq_self_eq_true, Bool.true_and, decide_eq_true_eq]; omega
  refine congrArg Host.Outcome.next ((if_pos hwide).trans ?_)
  rw [htarget, hoff]

/-- Of a word made up of given and of free bits the given ones read as given. -/
theorem given_bits {k : Nat} (v given free : BitVec k) :
    (v &&& given ||| free &&& ~~~given) &&& given = v &&& given := by
  ext i hi
  simp only [BitVec.getElem_and, BitVec.getElem_or, BitVec.getElem_not]
  cases given[i] <;> simp

/-- A read of configuration space returns the bits that the spec gives and draws at most one free value. -/
theorem configRead_given (s : State) (off : Nat) :
    (configRead s off).1 &&& (configGiven s off).1 = (configGiven s off).2 &&& (configGiven s off).1
      ∧ { (configRead s off).2 with draws := s.draws } = s := by
  unfold configRead
  dsimp only
  split
  · exact ⟨rfl, rfl⟩
  · refine ⟨?_, rfl⟩
    exact given_bits _ _ _

/-- Settles O2: bad accesses by `badAccess_effect`, reads of BAR0 by the word that backs them, of the Far Window, BAR2 and configuration
space, and in two halves. -/
theorem reservedAndNarrowAccessesCapture : Obligations.ReservedAndNarrowAccessesCapture := by
  unfold Obligations.ReservedAndNarrowAccessesCapture
  refine ⟨fun s off hoff hr => ?_, fun s off hoff hr => ?_, fun s off be v hoff hbe => ?_, fun s off hoff hr => ?_,
    fun s off v hoff hr hp => ?_, fun s off v m w hoff hr hp => ?_, fun s f o hf hlo ho => ?_, fun s f o hf ho => ?_,
    fun s off => rfl, fun s off => ?_, fun s => ?_, fun s f o hf ho => read64_far hf ho s, fun bar off s h => ?_,
    fun bar off h s => rfl, fun off v s => congrArg Host.Outcome.next (if_pos rfl), fun s f o be v hf hlo ho hbe => ?_,
    fun s f o v hf ho => ?_⟩
  -- reserved offsets and narrow writes below the Far Window
  · obtain ⟨herr, haddr, hdata, hpois, hrest⟩ := badAccess_effect (returned s [0] false) 2 off
    refine ⟨_, (read_low s hoff).trans (congrArg Host.Outcome.next (busRead_reserved hr)), hdata, hpois, herr, haddr, ?_⟩
    exact congrArg (fun u : State => { u with glob := s.glob }) hrest
  · obtain ⟨herr, haddr, hdata, -, hrest⟩ := badAccess_effect s 2 off
    exact ⟨_, (reserved_write s hoff).trans (by rw [hr]; rfl), hdata, herr, haddr, hrest⟩
  · refine ⟨_, narrowWrite_low s v hoff hbe, ?_⟩
    cases hn : (readReg s off).isNone
    · obtain ⟨herr, haddr, -, -, hrest⟩ := badAccess_effect s 3 off
      exact ⟨herr, haddr, hrest⟩
    · exact narrow_reserved_effect s off
  · obtain ⟨v, hv⟩ := Option.isSome_iff_exists.1 hr
    rw [reserved_write s hoff, hv]; rfl
  -- reads of a sound and of a poisoned word, and of the Far Window
  · rw [read_low s hoff, busRead_sound hr hp]; rfl
  · obtain ⟨herr, hcount, hdata, hpois⟩ :=
      uncorrectable_reports (returned (draw s).2 [word (Config.free s.draws)] true) m w
    exact ⟨_, (read_low s hoff).trans (congrArg Host.Outcome.next (busRead_poisoned hr hp)), hdata, hpois, hcount, herr⟩
  · rw [read_far hf ho, if_pos hlo]; rfl
  · rw [read_far hf (by omega), if_neg (by omega)]; rfl
  -- configuration space and the two halves of a 64-bit read
  · obtain ⟨hgiven, hrest⟩ := configRead_given s off
    exact ⟨_, _, rfl, rfl, rfl, hgiven, congrArg (fun u : State => { u with glob := s.glob }) hrest⟩
  · refine ⟨rfl, rfl, rfl, rfl, rfl, fun off h => ?_⟩
    simp only [List.mem_cons, List.not_mem_nil, or_false] at h
    rcases h with rfl | rfl | rfl | rfl | rfl <;> rfl
  · refine ⟨_, _, rfl, rfl, congrArg Host.Outcome.next (if_neg ?_)⟩
    simp [farWide_false h]
  -- narrow writes in the Far Window
  · obtain ⟨herr, -, -, -, hrest⟩ := badAccess_effect s 3 (0x800000 + f * 0x8000 + o)
    exact ⟨_, (narrowWrite_far hf ho s v hbe).trans (by rw [if_pos hlo]), herr, hrest⟩
  · rw [narrowWrite_far hf (by omega) s v (by decide), if_neg (by omega)]
    have hruns : byteRuns 6 4 0 = [(1, 2)] := by decide
    have hbytes : bytesAt (leBytes 4 v.toNat) 1 2 = [BitVec.ofNat 8 (v.toNat / 256), BitVec.ofNat 8 (v.toNat / 65536)] := by
      simp [bytesAt, leBytes, List.range_succ, Nat.div_div_eq_div_mul]
    rw [hruns, List.foldl_cons, hbytes]
    rfl

end Sys2Proof.Proofs
end

section
/-! SUPPORT. Memory errors: what a windrow leaves as it was, the capture of GLOBAL_ECC_LAST and the counts, the passes of the
scrubber and the MGP's shadow copies. -/

namespace Sys2Proof.Proofs

open Sys2Proof Sys2Proof.Machine

/-! ## A windrow changes the recorder and the host interface alone -/

/-- `t` is `s` in every block but the recorder and the host interface. -/
def recorderOnly (s t : State) : Prop := { t with evr := s.evr, host := s.host } = s

theorem recorderOnly_trans {s t u : State} (h : recorderOnly s t) (k : recorderOnly t u) : recorderOnly s u := by
  unfold recorderOnly at h k ⊢
  exact (congrArg (fun x : State => { x with evr := s.evr, host := s.host }) k).trans h

theorem recorderOnly_evr (s : State) (e : Evr) : recorderOnly s { s with evr := e } := rfl

theorem setAlarm_evr_recorderOnly (s : State) (b : Nat) : recorderOnly s (setAlarm s .evr b) := by
  unfold recorderOnly setAlarm
  dsimp only
  split
  · rw [msixRaise_form]; rfl
  · rfl

theorem windrowLost_recorderOnly (s : State) (b : Bool) : recorderOnly s (windrowLost s b) := by
  have hlost := recorderOnly_trans (recorderOnly_evr s { s.evr with
    lost := s.evr.lost + 1, lossNow := s.evr.lossNow + 1, lossSafety := s.evr.lossSafety + b2n b })
    (setAlarm_evr_recorderOnly _ 0)
  cases b with
  | false => exact hlost
  | true => exact recorderOnly_trans hlost (setAlarm_evr_recorderOnly _ 2)

theorem newWindrow_recorderOnly (s : State) (c : Nat) (d : Bytes) : recorderOnly s (newWindrow s c d) := by
  unfold newWindrow
  split
  · exact windrowLost_recorderOnly s _
  · exact recorderOnly_evr s _
  · exact recorderOnly_trans (recorderOnly_evr s _) (windrowLost_recorderOnly _ _)

theorem report_recorderOnly (s : State) (c : Nat) (d : Bytes) : recorderOnly s (report s c d) := by
  rcases report_cases s c d with h | h | h | ⟨b, h⟩ | ⟨st, m, h⟩ <;> rw [h]
  · exact windrowLost_recorderOnly s false
  · exact newWindrow_recorderOnly s c d
  · exact recorderOnly_trans (recorderOnly_evr s _) (setAlarm_evr_recorderOnly _ 1)
  · exact recorderOnly_trans (recorderOnly_evr s _) (newWindrow_recorderOnly _ c d)
  · exact recorderOnly_evr s _

theorem report_fab (s : State) (c : Nat) (d : Bytes) : (report s c d).fab = s.fab := by
  have h : { report s c d with evr := s.evr, host := s.host } = s := report_recorderOnly s c d
  have hfab := congrArg State.fab h
  exact hfab

/-! ## The capture and the counts (R33) -/

theorem mem_sadd_self (t : NatSet) (k : Nat) : k ∈ sadd t k := by
  induction t with
  | nil => simp [sadd]
  | cons j r ih =>
    simp only [sadd]
    split
    · simp
    · split
      · rename_i h; simp [h]
      · simp [ih]

/-- What GLOBAL_ECC_LAST shows of a capture: its kind, memory and word. -/
def captured (g : Global) : Bool × BitVec 6 × BitVec 24 := (g.eccUe, g.eccMem, g.eccWord)

theorem eccCapture_correctable (g : Global) (m w : Nat) :
    (eccCapture g false m w).ceCount = g.ceCount ∧ (eccCapture g false m w).eccValid = true
      ∧ captured (eccCapture g false m w)
        = if g.eccValid then captured g else (false, BitVec.ofNat 6 m, BitVec.ofNat 24 w) := by
  unfold eccCapture
  cases hv : g.eccValid <;> simp [hv, captured]

theorem eccCapture_uncorrectable (g : Global) (m w : Nat) :
    (eccCapture g true m w).eccValid = true
      ∧ captured (eccCapture g true m w)
        = if g.eccValid ∧ g.eccUe then (true, g.eccMem, g.eccWord)
          else (true, BitVec.ofNat 6 m, BitVec.ofNat 24 w) := by
  unfold eccCapture
  cases hv : g.eccValid <;> cases hu : g.eccUe <;> simp [hv, hu, captured]

theorem correctable_captures (s : State) (m w : Nat) :
    (correctable s m w).glob.ceCount = sat32 (s.glob.ceCount + 1) ∧ (correctable s m w).glob.eccValid = true
      ∧ captured (correctable s m w).glob
        = if s.glob.eccValid then captured s.glob else (false, BitVec.ofNat 6 m, BitVec.ofNat 24 w) := by
  unfold correctable
  rw [setAlarm_glob_form]
  exact eccCapture_correctable { s.glob with ceCount := sat32 (s.glob.ceCount + 1) } m w

theorem uncorrectable_captures (s : State) (m w : Nat) :
    (uncorrectable s m w).glob.eccValid = true
      ∧ captured (uncorrectable s m w).glob
        = if s.glob.eccValid ∧ s.glob.eccUe then (true, s.glob.eccMem, s.glob.eccWord)
          else (true, BitVec.ofNat 6 m, BitVec.ofNat 24 w) := by
  unfold uncorrectable
  dsimp only
  rw [report_glob, setAlarm_glob_form]
  exact eccCapture_uncorrectable { s.glob with ueCount := _, poison := _ } m w

/-- The word of an uncorrectable error reads poisoned (R27). -/
theorem uncorrectable_poisons (s : State) (m w : Nat) : poisoned (uncorrectable s m w) m w = true := by
  have hpoison : (uncorrectable s m w).glob.poison = tmod [] s.glob.poison m (fun t => sadd t w) := by
    unfold uncorrectable
    dsimp only
    rw [report_glob, setAlarm_glob_form]
    exact (eccCapture_keeps _ _ _ _).1
  simp [poisoned, hpoison, mem_sadd_self]

theorem dropWrite_fab (s : State) (m w : Nat) : (dropWrite s m w).fab = s.fab := by
  refine (report_fab _ _ _).trans ?_
  rw [setAlarm_glob_form]

/-! ## The passes of the scrubber (R27) -/

/-- What a pass finds in one of the memories 0x01 to 0x10 acts. -/
theorem patrolScrub_inRange (s : State) (e : EccFind) (hlo : 1 ≤ e.mem) (hhi : e.mem ≤ 16) :
    exec (.patrolScrub [e]) s = .next (scrubOne s e) := by
  have hin : ([e].filter fun e => decide (1 ≤ e.mem ∧ e.mem ≤ 16)) = [e] :=
    List.filter_eq_self.2 (by simpa using ⟨hlo, hhi⟩)
  exact congrArg (fun l : List EccFind => Host.Outcome.next (l.foldl scrubOne s)) hin

/-- The finds of a pass act in their order. -/
theorem patrolScrub_cons (s : State) (a : EccFind) (l : List EccFind) :
    ∃ t, exec (.patrolScrub [a]) s = .next t ∧ exec (.patrolScrub (a :: l)) s = exec (.patrolScrub l) t := by
  refine ⟨_, rfl, ?_⟩
  change Host.Outcome.next (((a :: l).filter _).foldl scrubOne s) = _
  rw [← List.singleton_append, List.filter_append, List.foldl_append]
  rfl

theorem scrubOne_double {m : Nat} {f : Bool} (s : State) (w : Nat) (h : m ≠ 8 ∨ f = false) :
    scrubOne s ⟨m, w, .double, false, f⟩ = memReact (uncorrectable s m w) m w := by
  have hstay : ¬ (m = 8 ∧ f = true) := fun ⟨hm, hf⟩ => h.elim (· hm) fun hf' => by simp [hf'] at hf
  simp only [scrubOne, if_neg hstay, Bool.false_eq_true, if_false]

theorem scrubOne_raced (s : State) (m w : Nat) (f : Bool) :
    scrubOne s ⟨m, w, .double, true, f⟩ = unpoison (scrubOne s ⟨m, w, .double, false, f⟩) m w := rfl

theorem scrubOne_fatal (s : State) (w : Nat) :
    scrubOne s ⟨8, w, .double, false, true⟩ = controlRestart (scrubOne s ⟨8, w, .double, false, false⟩) := rfl

/-! ## Writes of GLOBAL_ECC_CLEAR and GLOBAL_ECC_LAST (R33) -/

theorem sat32_b2n (b : Bool) : sat32 (0 + b2n b) = b2n b := by cases b <;> rfl

theorem eccClear_clears (s : State) {v : Word} (hv : bitAt v 0 = true) (c u : Bool) :
    eccClear s v c u = { s with glob := { s.glob with ceCount := b2n c, ueCount := b2n u } } := by
  simp only [eccClear, hv, if_true, sat32_b2n]

theorem eccClear_keeps (s : State) {v : Word} (hv : bitAt v 0 = false) :
    eccClear s v false false
      = { s with glob := { s.glob with ceCount := sat32 s.glob.ceCount, ueCount := sat32 s.glob.ueCount } } := by
  simp only [eccClear, hv, Bool.false_eq_true, if_false]
  rfl

/-- Settles O3: an error by the capture it meets (`correctable_captures`, `uncorrectable_captures`), a pass by what the scrubber
does with each find, a write by the poison of its word. -/
theorem eccLastCapturesFirstError : Obligations.EccLastCapturesFirstError := by
  unfold Obligations.EccLastCapturesFirstError
  refine ⟨fun s m w r f hlo hhi => ?_, fun s m w f hlo hhi hf => ?_, fun s v hp hv => ?_, fun s v c u hp hv => ?_,
    fun s v hp => congrArg Host.Outcome.next (posted_sound _ hp), fun s m w => ?_, fun s m w f u hlo hhi hu => ?_,
    fun s w u hu => ?_, patrolScrub_cons, fun s v hp hv => ?_⟩
  -- an error found
  · exact ⟨_, patrolScrub_inRange s _ hlo hhi, correctable_captures s m w⟩
  · refine ⟨_, ?_, (uncorrectable_reports s m w).2.1, uncorrectable_poisons s m w, uncorrectable_captures s m w⟩
    rw [patrolScrub_inRange s _ hlo hhi, scrubOne_double s w hf]
  -- a release and a clear
  · exact congrArg Host.Outcome.next ((posted_sound _ hp).trans (if_pos hv))
  · exact congrArg Host.Outcome.next ((posted_sound _ hp).trans (eccClear_clears s hv c u))
  -- writes of a poisoned word
  · obtain ⟨haer, herr, hcount⟩ := dropWrite_reports s m w
    exact ⟨fun hp v => congrArg Host.Outcome.next (posted_poisoned _ hp),
      fun hp v c u => congrArg Host.Outcome.next (posted_poisoned _ hp), haer, herr, hcount, dropWrite_fab s m w⟩
  -- a functional write in between, and an error of the MGP's SRAM
  · rw [patrolScrub_inRange s _ hlo hhi] at hu ⊢
    obtain rfl := Host.Outcome.next.inj hu
    rw [scrubOne_raced]
  · rw [patrolScrub_inRange s _ (Nat.le_add_left 1 7) (Nat.le_add_right 8 8)] at hu ⊢
    obtain rfl := Host.Outcome.next.inj hu
    rw [scrubOne_fatal]
  -- a write that clears nothing
  · exact congrArg Host.Outcome.next ((posted_sound _ hp).trans (eccClear_keeps s hv))

/-! ## Entries restored from their shadow copies (R26, R28) -/

/-- The poison of an entry written whole is gone, every other word keeps its own (R28). -/
theorem poisoned_unpoisonEntry (s : State) (m k j w : Nat) :
    poisoned (unpoisonEntry s m k) j w = (poisoned s j w && !(j == m && Config.entryOf m w == k)) := by
  unfold poisoned unpoisonEntry
  rw [poison_unpoisonWhere]
  by_cases hj : j = m
  · subst hj
    rw [tget_tmod_self, Bool.eq_iff_iff]
    simp
  · rw [tget_tmod_other _ _ _ hj]
    simp [hj]

/-- A restored entry of a memory other than the FDB is sound, and nothing else changes. -/
theorem restoreWord_plain {s : State} {m w : Nat} (hlo : 3 ≤ m) (hhi : m ≤ 7) (hp : poisoned s m w = true)
    (hr : mgpRuns s = true) : restoreWord m w s = unpoisonEntry s m (Config.entryOf m w) := by
  unfold restoreWord
  rw [if_pos ⟨by omega, hhi, hp, hr⟩]
  exact if_neg (by omega)

/-- The entry of the FDB that a restored word belongs to loses what it has learned. -/
def relearned (s : State) (w : Nat) : List FdbEntry :=
  s.fab.fdb.entries.filter fun e => !(!e.isStatic && fdbKey s.fab.fdb e == Config.entryOf 2 w)

theorem relearned_keeps_static (s : State) (w : Nat) :
    (relearned s w).filter FdbEntry.isStatic = s.fab.fdb.entries.filter FdbEntry.isStatic := by
  unfold relearned
  rw [List.filter_filter]
  refine List.filter_congr fun e _ => ?_
  cases e.isStatic <;> rfl

theorem restoreWord_fdb {s : State} {w : Nat} (hp : poisoned s 2 w = true) (hr : mgpRuns s = true) :
    restoreWord 2 w s = { unpoisonEntry s 2 (Config.entryOf 2 w) with
      fab := { s.fab with fdb := { s.fab.fdb with entries := relearned s w } } } := by
  unfold restoreWord
  rw [if_pos ⟨by decide, by decide, hp, hr⟩]
  rfl

theorem restoreWord_idle {s : State} {m w : Nat} (h : poisoned s m w = false ∨ mgpRuns s = false) :
    restoreWord m w s = s := by
  refine if_neg fun ⟨_, _, hp, hr⟩ => ?_
  rcases h with h | h
  · rw [h] at hp; exact Bool.false_ne_true hp
  · rw [h] at hr; exact Bool.false_ne_true hr

/-- Settles O4: a restore by its memory (`restoreWord_plain`, `restoreWord_fdb`), and the poison it leaves. -/
theorem shadowCopyRestoresPoisonedEntry : Obligations.ShadowCopyRestoresPoisonedEntry := by
  unfold Obligations.ShadowCopyRestoresPoisonedEntry
  refine ⟨fun s m w hlo hhi hp hr => congrArg Host.Outcome.next (restoreWord_plain hlo hhi hp hr), fun s w hp hr => ?_,
    fun s m w h => congrArg Host.Outcome.next (restoreWord_idle h), poisoned_unpoisonEntry⟩
  exact ⟨_, congrArg Host.Outcome.next (restoreWord_fdb hp hr), rfl, relearned_keeps_static s w,
    fun e he => (List.mem_filter.1 he).1, rfl⟩

end Sys2Proof.Proofs
end

section
/-! SUPPORT. The doorbell pages: what a write of a page's register comes to by its path and its poison, the faults of a tenant,
the producers it advances, and the holdoff of its vector. -/

namespace Sys2Proof.Proofs

open Sys2Proof Sys2Proof.Machine

/-! ## The page a write meets (R29, R285) -/

section pageRow
variable {s : State} {t off : Nat}

theorem pageRow_takes (f : State → State) (ht : t < 256)
    (h : (tenant s t).attach = .spi ∨ poisonedBacking s (0x100000 + t * 0x1000 + off) = none) :
    pageRow s t off f = f s := by
  unfold pageRow
  rw [if_neg (by omega)]
  split
  · rfl
  next hpcie => exact posted_sound f (h.resolve_left hpcie)

theorem pageRow_dropped (f : State → State) {m w : Nat} (ht : t < 256) (ha : (tenant s t).attach ≠ .spi)
    (hp : poisonedBacking s (0x100000 + t * 0x1000 + off) = some (m, w)) : pageRow s t off f = dropWrite s m w := by
  unfold pageRow
  rw [if_neg (by omega), if_neg ha, posted_poisoned f hp]

theorem pageRow_outside (f : State → State) (ht : 256 ≤ t) : pageRow s t off f = s := if_pos ht

end pageRow

/-! ## Faults of a tenant (Table 12-5) -/

theorem faultTenant_serving {s : State} {t : Nat} (h : (tenant s t).state = .opened ∨ (tenant s t).state = .configured)
    (wh code : Nat) : faultTenant s t wh code
      = raiseTenant (modTenant s t fun x => { x with state := .faulted, faultWhere := wh, faultCode := code }) t :=
  if_pos h

theorem faultTenant_other {s : State} {t : Nat} (ho : (tenant s t).state ≠ .opened) (hc : (tenant s t).state ≠ .configured)
    (wh code : Nat) : faultTenant s t wh code = s :=
  if_neg fun h => h.elim ho hc

/-! ## The command producer (R288) -/

/-- The tenant after the doorbell has its new producer, and NAP's end leaves it so. -/
theorem tenant_rung (s : State) (t : Nat) (p : Word) :
    tenant (napEnd (modTenant s t fun x => { x with cmdProd := p })) t = { tenant s t with cmdProd := p } := by
  rw [tenant_congr (s := modTenant s t fun x => { x with cmdProd := p }) (by simp), tenant_modTenant_self]

theorem doorbell_within {s : State} {t : Nat} {p : Word} (h : (p - (tenant s t).cmdCons).toNat ≤ 64) :
    doorbell s t p = napEnd (modTenant s t fun x => { x with cmdProd := p }) := by
  refine if_neg ?_
  rw [tenant_rung]
  exact Nat.not_lt.2 h

theorem doorbell_overrun {s : State} {t : Nat} {p : Word} (h : 64 < (p - (tenant s t).cmdCons).toNat) :
    doorbell s t p = faultTenant (napEnd (modTenant s t fun x => { x with cmdProd := p })) t 0x20 2 := by
  refine if_pos ?_
  rw [tenant_rung]
  exact h

/-- A tenant whose rings are not served has no RING_OVERRUN. -/
theorem doorbell_unserved {s : State} {t : Nat} (p : Word) (ho : (tenant s t).state ≠ .opened)
    (hc : (tenant s t).state ≠ .configured) :
    doorbell s t p = napEnd (modTenant s t fun x => { x with cmdProd := p }) := by
  rcases Nat.lt_or_ge 64 (p - (tenant s t).cmdCons).toNat with h | h
  · rw [doorbell_overrun h, faultTenant_other (by rw [tenant_rung]; exact ho) (by rw [tenant_rung]; exact hc)]
  · exact doorbell_within h

/-! ## Resets and the room of the event ring (R289, R305) -/

theorem requestReset_free {s : State} {t : Nat} (h : (tenant s t).state = .free) : requestReset s t = s := by
  unfold requestReset
  rw [h]

theorem requestReset_begins {s : State} {t : Nat} (h : (tenant s t).state ≠ .free) :
    requestReset s t = modTenant s t fun x => { x with state := .resetting, resetDue := true } := by
  unfold requestReset
  split
  next hfree => exact absurd hfree h
  · rfl

/-- The condition under which lost events are told reads the tenant before the write, but for the consumer. -/
theorem eventRoom_eq (s : State) (t : Nat) (c : Word) :
    eventRoom s t c =
      if (tenant s t).lostNow ≠ 0 ∧ bitAt (tenant s t).ctrl 1 = true
          ∧ ((tenant s t).evtProd - c).toNat < eventRing (tenant s t) then
        event (modTenant (modTenant s t fun x => irqSettle { x with evtCons := c }) t fun x => { x with lostNow := 0 }) t 11
          (leBytes 4 (tenant s t).lostNow)
      else modTenant s t fun x => irqSettle { x with evtCons := c } := by
  unfold eventRoom
  dsimp only
  rw [tenant_modTenant_self]
  rfl

/-! ## The queue producers (Table 12-5) -/

theorem queueRead_queuePut_self (x : Tenant) (r : Bool) (q : Nat) (v : HostQueue) : queueRead (queuePut x r q v) r q = v := by
  cases r <;> simp [queueRead, queuePut]

theorem queuePut_state (x : Tenant) (r : Bool) (q : Nat) (v : HostQueue) : (queuePut x r q v).state = x.state := by
  cases r <;> rfl

/-- A tenant's queue with a new producer. -/
def queueAdvance (s : State) (t : Nat) (r : Bool) (q : Nat) (p : Word) : State :=
  modTenant s t fun y => queuePut y r q { queueRead (tenant s t) r q with prod := p }

theorem queueProd_eq (s : State) (t : Nat) (r : Bool) (q : Nat) (p : Word) :
    queueProd s t r q p =
      if (queueRead (tenant s t) r q).enabled = true
          ∧ 2 ^ (queueRead (tenant s t) r q).log2 < (p - (queueRead (tenant s t) r q).cons).toNat then
        faultTenant (queueAdvance s t r q p) t (q + 16 * b2n r) 2
      else queueAdvance s t r q p := by
  unfold queueProd queueCheck queueAdvance
  dsimp only
  rw [tenant_modTenant_self, queueRead_queuePut_self]

theorem queueAdvance_state (s : State) (t : Nat) (r : Bool) (q : Nat) (p : Word) :
    (tenant (queueAdvance s t r q p) t).state = (tenant s t).state := by
  unfold queueAdvance
  rw [tenant_modTenant_self, queuePut_state]

/-- A queue of a tenant that has queues takes its producer by its page. -/
theorem queueProducerWrite_page {s : State} {t q : Nat} (r : Bool) (p : Word) (hq : q < 8) (ha : (tenant s t).attach ≠ .spi) :
    exec (.queueProducerWrite t r q p) s
      = .next (pageRow s t (0x10C + 0x100 * b2n r + 0x20 * q) fun s => queueProd s t r q p) :=
  congrArg Host.Outcome.next (if_pos ⟨hq, ha⟩)

theorem queueProducerWrite_none {s : State} {t q : Nat} (r : Bool) (p : Word) (h : 8 ≤ q ∨ (tenant s t).attach = .spi) :
    exec (.queueProducerWrite t r q p) s = .next s :=
  congrArg Host.Outcome.next (if_neg fun ⟨hq, ha⟩ => h.elim (by omega) ha)

theorem queueProducerWrite_outside {s : State} {t : Nat} (r : Bool) (q : Nat) (p : Word) (ht : 256 ≤ t) :
    exec (.queueProducerWrite t r q p) s = .next s := by
  by_cases h : q < 8 ∧ (tenant s t).attach ≠ .spi
  · rw [queueProducerWrite_page r p h.1 h.2, pageRow_outside _ ht]
  · exact congrArg Host.Outcome.next (if_neg h)

/-! ## The holdoff of a tenant's vector (R290) -/

theorem irqHoldoffEnd_idle {s : State} {t : Nat} (h : (tenant s t).raisedAt = none ∨ (tenant s t).irqWait = false) :
    irqHoldoffEnd t s = s := by
  unfold irqHoldoffEnd
  dsimp only
  split
  next hr hw =>
    rcases h with h | h
    · exact absurd (h.symm.trans hr) (by simp)
    · exact absurd (h.symm.trans hw) (by simp)
  · rfl

theorem irqHoldoffEnd_raises {s : State} {t r : Nat} (hr : (tenant s t).raisedAt = some r)
    (hw : (tenant s t).irqWait = true) :
    irqHoldoffEnd t s = raiseTenant (untilMono s (r + holdoffTicks (tenant s t))) t := by
  unfold irqHoldoffEnd
  simp only [hr, hw]

/-- Settles O7: a write of the doorbell page by `pageRow` and the register it names, a DMA timeout by the tenant's state, the
holdoff by what waits for its end. -/
theorem doorbellPageWritesTakeEffect : Obligations.DoorbellPageWritesTakeEffect := by
  unfold Obligations.DoorbellPageWritesTakeEffect
  refine ⟨fun s t p ht hp h => ?_, fun s t p ht hp h hs => ?_, fun s t p ht hp ho hc => ?_, fun s t w ht => ?_,
    fun s t w m k ht ha => ?_, fun s t v ht hp h => ?_, fun s t v ht hp hv hs => ?_, fun s t c ht hp h => ?_,
    fun s t c ht hp hl hc hroom => ?_, fun s t r q p hq ht ha hp h => ?_, fun s t r q p hq ht ha hp hs he h => ?_,
    fun s t r q p h => queueProducerWrite_none r p h,
    fun s t r ho hc => congrArg Host.Outcome.next (faultTenant_other (s := untilMono s _) ?_ ?_ _ _),
    fun s t h => congrArg Host.Outcome.next (irqHoldoffEnd_idle h),
    fun s t r hs => congrArg Host.Outcome.next (faultTenant_serving (s := untilMono s _) ?_ _ _),
    fun s t r hr hw => congrArg Host.Outcome.next (irqHoldoffEnd_raises hr hw)⟩
  -- the command doorbell
  · exact congrArg Host.Outcome.next ((pageRow_takes _ ht hp).trans (doorbell_within h))
  · refine congrArg Host.Outcome.next ((pageRow_takes _ ht hp).trans ((doorbell_overrun h).trans ?_))
    exact faultTenant_serving (by rw [tenant_rung]; exact hs) _ _
  · exact congrArg Host.Outcome.next ((pageRow_takes _ ht hp).trans (doorbell_unserved p ho hc))
  -- pages that are not there, and poisoned words
  · exact ⟨congrArg Host.Outcome.next (pageRow_outside _ ht), congrArg Host.Outcome.next (pageRow_outside _ ht),
      congrArg Host.Outcome.next (pageRow_outside _ ht), fun r q => queueProducerWrite_outside r q w ht⟩
  · exact ⟨fun hp => congrArg Host.Outcome.next (pageRow_dropped _ ht ha hp),
      fun hp => congrArg Host.Outcome.next (pageRow_dropped _ ht ha hp),
      fun hp => congrArg Host.Outcome.next (pageRow_dropped _ ht ha hp),
      fun r q hq hp => by rw [queueProducerWrite_page r w hq ha, pageRow_dropped _ ht ha hp]⟩
  -- a reset
  · refine congrArg Host.Outcome.next ((pageRow_takes _ ht hp).trans ?_)
    unfold resetWrite
    rcases h with h | h
    · rw [h]; rfl
    · rw [requestReset_free h, ite_self]
  · exact congrArg Host.Outcome.next ((pageRow_takes _ ht hp).trans ((if_pos hv).trans (requestReset_begins hs)))
  -- the room of the event ring
  · refine congrArg Host.Outcome.next ((pageRow_takes _ ht hp).trans ((eventRoom_eq s t c).trans (if_neg ?_)))
    rintro ⟨hl, hc, hroom⟩
    rcases h with h | h | h
    · exact hl h
    · exact Bool.false_ne_true (h.symm.trans hc)
    · exact absurd hroom (Nat.not_lt.2 h)
  · exact congrArg Host.Outcome.next ((pageRow_takes _ ht hp).trans ((eventRoom_eq s t c).trans (if_pos ⟨hl, hc, hroom⟩)))
  -- a queue's producer
  · rw [queueProducerWrite_page r p hq ha, pageRow_takes _ ht (.inr hp), queueProd_eq,
      if_neg fun hover => absurd hover.2 (Nat.not_lt.2 (h hover.1))]
    rfl
  · rw [queueProducerWrite_page r p hq ha, pageRow_takes _ ht (.inr hp), queueProd_eq, if_pos ⟨he, h⟩,
      faultTenant_serving (by rw [queueAdvance_state]; exact hs)]
    rfl
  -- a DMA read that is not answered
  · rw [tenant_congr (s := s) (by simp)]; exact ho
  · rw [tenant_congr (s := s) (by simp)]; exact hc
  · rw [tenant_congr (s := s) (by simp)]; exact hs

end Sys2Proof.Proofs
end

section
/-! SUPPORT. The wake sequence: how time passes until an instant, the waits for the power-goods, wake events, failed attempts and
the loss of time service. -/

namespace Sys2Proof.Proofs

open Sys2Proof Sys2Proof.Machine

/-! ## Time -/

/-- The model time becomes the instant waited for, unless that is past. -/
@[simp] theorem untilMono_mono (s : State) (m : Nat) : (untilMono s m).mono = max s.mono m := by
  have hmono : (untilMono s m).mono = s.mono + (m - s.mono) := by
    unfold untilMono State.advance
    split <;> rfl
  omega

/-- An alarm of the PWC changes its register, and the vectors of the host interface. -/
theorem setAlarm_pwc_form (s : State) (b : Nat) : setAlarm s .pwc b
    = { s with pwc := { s.pwc with alarm := setBit s.pwc.alarm b true }, host := (setAlarm s .pwc b).host } := by
  unfold setAlarm
  dsimp only
  split
  · rw [msixRaise_form]; rfl
  · rfl

theorem setAlarmIf_pwc_form (s : State) (c : Bool) (b : Nat) : ∃ v h,
    setAlarmIf s c .pwc b = { s with pwc := { s.pwc with alarm := v }, host := h } := by
  cases c with
  | false => exact ⟨_, _, rfl⟩
  | true => exact ⟨_, _, setAlarm_pwc_form s b⟩

/-! ## The waits for PG0 to PG2 (R340) -/

/-- All that the waits change: the phase, its begin and the INH outputs. -/
theorem enterPg_form (k : Nat) (s : State) (n : Nat) : ∃ ph i,
    enterPg k s n = { s with pwc := { s.pwc with phase := ph, phaseAt := s.mono, inh := i } } := by
  induction k generalizing s n with
  | zero => exact ⟨_, _, rfl⟩
  | succ k ih =>
    unfold enterPg
    split
    · exact ⟨_, _, rfl⟩
    · dsimp only
      split
      · exact ih _ _
      · exact ⟨_, _, rfl⟩

/-- A PG that is not high yet is awaited with its INH asserted. -/
theorem enterPg_waits {s : State} {n : Nat} (hn : n < 3) (hp : bitAt s.pwc.pgs n = false) :
    enterPg 4 s n
      = { s with pwc := { s.pwc with phase := .pg n, phaseAt := s.mono, inh := setBit s.pwc.inh n true } } := by
  unfold enterPg
  rw [if_neg (by omega)]
  exact if_neg (by simp [hp])

/-! ## Wake events (R338, R339, R342) -/

/-- What the start of a wake sequence records, before PG0 is awaited. -/
def wakeBegun (s : State) (src seg : Nat) : State :=
  { s with pwc := { s.pwc with
    source := src, segment := seg, vaonFresh := false
    standbyS := if s.pwc.phase = .standby then word ((s.mono - s.pwc.entryAt) / 1000000000) else s.pwc.standbyS
    attempts := 1, wakeOut := some (s.mono + 50000000), wakeOutFail := none, heldWake := none } }

theorem startWake_eq (s : State) (src seg : Nat) : startWake s src seg = enterPg 4 (wakeBegun s src seg) 0 := rfl

theorem startWake_begins (s : State) (src seg : Nat) :
    (startWake s src seg).pwc.source = src ∧ (startWake s src seg).pwc.segment = seg
      ∧ (startWake s src seg).pwc.attempts = 1 ∧ (startWake s src seg).pwc.wakeOut = some (s.mono + 50000000)
      ∧ (startWake s src seg).pwc.heldWake = none ∧ (startWake s src seg).pwc.wakeSw = s.pwc.wakeSw
      ∧ (startWake s src seg).mono = s.mono := by
  obtain ⟨ph, i, h⟩ := enterPg_form 4 (wakeBegun s src seg) 0
  rw [startWake_eq, h]
  exact ⟨rfl, rfl, rfl, rfl, rfl, rfl, rfl⟩

theorem startWake_waits {s : State} (src seg : Nat) (hp : bitAt s.pwc.pgs 0 = false) :
    (startWake s src seg).pwc.phase = .pg 0 ∧ bitAt (startWake s src seg).pwc.inh 0 = true := by
  rw [startWake_eq, enterPg_waits (s := wakeBegun s src seg) (by decide) hp]
  exact ⟨rfl, bitAt_setBit_self _ 0 (by decide)⟩

/-- From 100 ms after the release of INH0 a wake event of STANDBY starts the sequence. -/
theorem wakeEvent_starts {s : State} (src seg : Nat) (hph : s.pwc.phase = .standby)
    (hat : s.pwc.phaseAt + 100000000 ≤ s.mono) : wakeEvent s src seg = startWake s src seg := by
  unfold wakeEvent
  rw [if_neg (not_not.2 hph), if_neg (Nat.not_lt.2 hat)]

theorem wakeEvent_wakeSw (s : State) (src seg : Nat) : (wakeEvent s src seg).pwc.wakeSw = s.pwc.wakeSw := by
  obtain ⟨-, -, -, -, -, hsw, -⟩ := startWake_begins s src seg
  unfold wakeEvent
  dsimp only
  split
  · split <;> rfl
  · split
    · rfl
    · exact hsw

/-! ### The pattern of a segment (R178, Table 7-4) -/

theorem wakePattern_standby {s : State} {g : Nat} {p : SegPulse} (hw : wakeRule p = true) (hph : s.pwc.phase = .standby) :
    wakePattern g p s = if g ∈ s.pwc.armed then wakeEvent s 3 g else s := by
  simp [wakePattern, hw, hph]

theorem wakePattern_unruly {g : Nat} {p : SegPulse} (hw : wakeRule p = false) (s : State) : wakePattern g p s = s := by
  simp [wakePattern, hw]

/-- What is under way on a sleeping segment once its pattern has come. -/
def wakened (x : Segment) : Segment := { x with pending := if x.pending = [] then [.wakeUp] else x.pending }

theorem wakePattern_running {s : State} {g : Nat} {p : SegPulse} (hph : s.pwc.phase = .running) (hw : wakeRule p = true)
    (hst : (segOf s g).state = .sleep) (hdet : (segOf s g).wakeDet = true) :
    wakePattern g p s = segEvent (putSeg (countPort s (16 + g) 19 1) g (wakened (segOf s g))) g 1 := by
  simp [wakePattern, hw, hph, hst, hdet, wakened]

theorem segOf_segEvent (s : State) (g k j : Nat) : segOf (segEvent s g k) j = segOf s j := by
  simp [segOf, segEvent]

theorem segOf_countPort (s : State) (p c n j : Nat) : segOf (countPort s p c n) j = segOf s j := rfl

/-! ## A power-good that rises (R340) -/

/-- PGn is high, and has not fallen. -/
def pgHigh (s : State) (n : Nat) : State :=
  { s with pwc := { s.pwc with pgs := setBit s.pwc.pgs n true, pgLow := tset none s.pwc.pgLow n none } }

/-- What PGn brings while the sequence waits for it and it has not fallen before. -/
theorem pgRise_awaited {s : State} {n : Nat} (hn : n < 3) (hph : s.pwc.phase = .pg n)
    (hlow : tget none s.pwc.pgLow n = none) : pgRise n s = enterPg 4 (pgHigh s n) (n + 1) := by
  unfold pgRise
  rw [if_neg (by omega)]
  simp only [hlow, Option.isSome_none, Bool.false_and, Bool.false_eq_true, if_false, hph, if_true, pgHigh]

theorem pgRise_pgs {s : State} {n : Nat} (hn : n < 3) (hph : s.pwc.phase = .pg n)
    (hlow : tget none s.pwc.pgLow n = none) : bitAt (pgRise n s).pwc.pgs n = true := by
  obtain ⟨ph, i, h⟩ := enterPg_form 4 (pgHigh s n) (n + 1)
  rw [pgRise_awaited hn hph hlow, h]
  exact bitAt_setBit_self _ n hn

theorem pgRise_next {s : State} {n : Nat} (hn : n < 2) (hph : s.pwc.phase = .pg n)
    (hlow : tget none s.pwc.pgLow n = none) (hp : bitAt s.pwc.pgs (n + 1) = false) :
    (pgRise n s).pwc.phase = .pg (n + 1) ∧ bitAt (pgRise n s).pwc.inh (n + 1) = true
      ∧ (pgRise n s).pwc.phaseAt = s.mono := by
  have hlow' : bitAt (pgHigh s n).pwc.pgs (n + 1) = false := (bitAt_setBit_other _ _ (by omega)).trans hp
  rw [pgRise_awaited (by omega) hph hlow, enterPg_waits (by omega) hlow']
  exact ⟨rfl, bitAt_setBit_self _ _ (by omega), rfl⟩

theorem pgRise_last {s : State} (hph : s.pwc.phase = .pg 2) (hlow : tget none s.pwc.pgLow 2 = none) :
    (pgRise 2 s).pwc.phase = .xin ∧ (pgRise 2 s).pwc.phaseAt = s.mono := by
  rw [pgRise_awaited (by decide) hph hlow]
  exact ⟨rfl, rfl⟩

/-! ## Failed attempts (R341, Table 14-7) -/

/-- A failed attempt releases INH; the next follows, or after the fourth wake_fail is latched. -/
theorem attemptFail_effect (s : State) (code : Nat) :
    (attemptFail s code).pwc.inh = 0 ∧ (attemptFail s code).pwc.fails = s.pwc.fails + 1
      ∧ (attemptFail s code).mono = s.mono ∧ (attemptFail s code).otp = s.otp
      ∧ (s.pwc.attempts < 4 → (attemptFail s code).pwc.phase = .retry
          ∧ (attemptFail s code).pwc.wakeFail = s.pwc.wakeFail)
      ∧ (4 ≤ s.pwc.attempts → (attemptFail s code).pwc.phase = .standby ∧ (attemptFail s code).pwc.wakeFail = true
          ∧ (attemptFail s code).pwc.failCode = code) := by
  rcases Nat.lt_or_ge s.pwc.attempts 4 with h | h
  · have hnot : ¬ 4 ≤ s.pwc.attempts := Nat.not_le.2 h
    simp [attemptFail, hnot, h, mainReset, pwcReset]
  · have hnot : ¬ s.pwc.attempts < 4 := Nat.not_lt.2 h
    simp [attemptFail, hnot, h, mainReset, pwcReset]

/-! ## The next attempt (R341) -/

theorem nextAttempt_waits {s : State} (hp : bitAt s.pwc.pgs 0 = false) :
    (nextAttempt s).pwc.phase = .pg 0 ∧ (nextAttempt s).pwc.attempts = s.pwc.attempts + 1
      ∧ bitAt (nextAttempt s).pwc.inh 0 = true ∧ (nextAttempt s).mono = s.mono := by
  have hfirst := enterPg_waits (n := 0) (s := { s with pwc := { s.pwc with
    attempts := 1, wakeOut := some (s.mono + 50000000), wakeOutFail := none, heldWake := none } }) (by decide) hp
  have hnext := enterPg_waits (n := 0) (s := { s with pwc := { s.pwc with attempts := s.pwc.attempts + 1 } }) (by decide) hp
  have hinh := bitAt_setBit_self s.pwc.inh 0 (by decide)
  unfold nextAttempt
  split
  next hzero =>
    rw [hzero, wakeFirst, hfirst]
    exact ⟨rfl, rfl, hinh, rfl⟩
  · rw [hnext]
    exact ⟨rfl, rfl, hinh, rfl⟩

/-! ## Time service is lost (R14, Table 1-3) -/

/-- What the loss of time service leaves as it was: the phase of the sequence, the time reference, the island, OTP and the model
time. -/
def clockView (s : State) : PowerPhase × Bool × Bool × Nat × Island × Otp × Nat :=
  (s.pwc.phase, s.glob.degraded, s.tms.tsValid, s.tms.refSource, s.isl, s.otp, s.mono)

theorem clockView_setAlarm (s : State) (r : AlarmReg) (b : Nat) : clockView (setAlarm s r b) = clockView s := by
  simp [clockView]

theorem clockView_report (s : State) (c : Nat) (d : Bytes) : clockView (report s c d) = clockView s := by
  simp [clockView]

theorem clockView_event (s : State) (t typ : Nat) (d : Bytes) : clockView (event s t typ d) = clockView s := by
  simp [clockView]

theorem clockView_respond (s : State) (h : Hcp) (op : Nat) (st : Status) (r : Nat) (p : Bytes) :
    clockView (respond s h op st r p) = clockView s := by
  simp [clockView]

theorem clockView_emitVia (s : State) (l : List Nat) (x : Sent) : clockView (emitVia s l x) = clockView s := by
  simp [clockView]

/-! ### The schedule and CSS -/

theorem clockView_cssHalt (s : State) : clockView (cssHalt s) = clockView s := by
  unfold cssHalt
  dsimp only
  split <;> rfl

theorem clockView_cssStopped (s : State) (reason : Nat) : clockView (cssStopped s reason) = clockView s := by
  unfold cssStopped
  dsimp only
  rw [clockView_setAlarm]
  split <;> exact clockView_cssHalt s

theorem clockView_cssListen (s : State) : clockView (cssListen s) = clockView s := clockView_cssHalt s

theorem clockView_ownWindows (s : State) : clockView (ownWindows s) = clockView s := by
  refine foldl_keeps clockView _ (fun s e => ?_) _ s
  split
  · rw [clockView_report]; rfl
  · rfl

theorem clockView_instantiateImage {s s' : State} {im : SchedImage} (h : instantiateImage s im = some s') :
    clockView s' = clockView s := by
  unfold instantiateImage at h
  dsimp only at h
  split at h
  · cases h
  · obtain ⟨x, -, rfl⟩ := Option.map_eq_some_iff.1 h
    unfold guardUpdate setAlarmIf
    dsimp only
    split
    · rw [clockView_setAlarm]; rfl
    · rfl

theorem clockView_agesKept (old s : State) : clockView (agesKept old s) = clockView s := rfl

theorem clockView_reinstantiate (s : State) : clockView (reinstantiate s) = clockView s := by
  unfold reinstantiate
  split
  · rfl
  · split
    next h => rw [clockView_ownWindows, clockView_agesKept, clockView_instantiateImage h]
    · rw [clockView_setAlarm]; rfl

theorem clockView_selfTimedStart (s : State) (t : Nat) (leader : UnitId) :
    clockView (selfTimedStart s t leader) = clockView s := by
  unfold selfTimedStart
  dsimp only
  split
  · split <;> exact clockView_cssHalt s
  · rfl

/-! ### The inauguration -/

theorem clockView_inaugSend (s : State) (mk : InaugHdr → Sent) : clockView (inaugSend s mk) = clockView s := by
  unfold inaugSend
  split
  · exact foldl_keeps clockView _ (fun s l => clockView_emitVia _ _ _) _ s
  · rfl

theorem clockView_releaseHeld (s : State) : clockView (releaseHeld s) = clockView s := by
  refine foldl_keeps clockView _ (fun s p => ?_) _ s
  split
  · unfold startHello
    dsimp only
    split <;> rfl
  · rfl

theorem clockView_restoreNumbers (s : State) : clockView (restoreNumbers s) = clockView s := by
  unfold restoreNumbers takeNumbers
  split
  · rfl
  · split <;> rfl

theorem clockView_followLeader (s : State) (id : UnitId) : clockView (followLeader s id) = clockView s := by
  unfold followLeader
  split <;> rfl

theorem clockView_leadTime (s : State) : clockView (leadTime s false) = clockView s := rfl

theorem clockView_inaugAbort (s : State) (reason : Nat) : clockView (inaugAbort s reason) = clockView s := by
  unfold inaugAbort
  extract_lets r late begun _ told uncoupled _ disarmed restored idle _ unmerged renumbered stopped followed
  have htold : clockView told = clockView s := clockView_setAlarm _ _ _
  have huncoupled : clockView uncoupled = clockView told := foldl_keeps clockView
    (fun s p => putHello s p { helloOf s p with running := false, confirmed := false, run := 0 }) (fun _ _ => rfl) _ _
  have hdisarmed : clockView disarmed = clockView uncoupled := by unfold disarmed; split <;> rfl
  have hrestored : clockView restored = clockView disarmed := by unfold restored; split <;> rfl
  have hidle : clockView idle = clockView s := by
    rw [← htold, ← huncoupled, ← hdisarmed, ← hrestored]; rfl
  have hunmerged : clockView unmerged = clockView idle := by unfold unmerged; split <;> rfl
  have hrenumbered : clockView renumbered = clockView unmerged := by
    unfold renumbered
    rw [apply_ite clockView, clockView_reinstantiate, clockView_restoreNumbers, ite_self]
  have hstopped : clockView stopped = clockView s := by
    unfold stopped
    rw [apply_ite clockView, clockView_cssStopped, ite_self, hrenumbered, hunmerged, hidle]
  split
  · rw [clockView_releaseHeld, hidle]
  · split
    · rw [clockView_releaseHeld, clockView_selfTimedStart, clockView_leadTime, hstopped]
    · rw [clockView_releaseHeld, apply_ite clockView, clockView_cssListen, ite_self, clockView_followLeader, hstopped]

theorem clockView_inaugTimeLost (s : State) : clockView (inaugTimeLost s) = clockView s := by
  have hleft : clockView (if coordinates s then orderAbort s 4
      else putRun (putIne s .idle) { s.ine.run with couplers := [], joint := [] }) = clockView s := by
    split
    · unfold orderAbort
      rw [clockView_inaugAbort, clockView_inaugSend]
    · rfl
  unfold inaugTimeLost
  split
  any_goals exact hleft
  rfl

/-! ### Admission -/

theorem clockView_originDrop (s : State) (o : OriginStream) : clockView (originDrop s o) = clockView s := rfl

theorem clockView_withdraw (s : State) (o : OriginStream) (reason : Nat) : clockView (withdraw s o reason) = clockView s := by
  unfold withdraw streamEvent
  rw [clockView_event, clockView_originDrop]

theorem clockView_refuseStream (s : State) (o : OriginStream) (f : FailRec) (c : Option Nat) :
    clockView (refuseStream s o f c) = clockView s := by
  unfold refuseStream completeAdmit
  split
  · rw [clockView_respond, clockView_originDrop]
  · exact clockView_originDrop s o

theorem clockView_admissionLost (s : State) : clockView (admissionLost s) = clockView s := by
  refine Eq.trans rfl (foldl_keeps clockView _ (fun s o => ?_) s.adm.streams s)
  split
  · exact clockView_withdraw s o 5
  · exact clockView_withdraw s o 5
  · exact clockView_refuseStream s o _ _

/-! ### The Far Window and the process data -/

theorem clockView_farLog (s : State) (f bits addr status : Nat) : clockView (farLog s f bits addr status) = clockView s := by
  unfold farLog
  dsimp only
  rw [clockView_report]
  split
  · rw [clockView_event]; rfl
  · rfl

theorem clockView_farErr (s : State) (f b : Nat) : clockView (farErr s f b) = clockView s := rfl

theorem clockView_farErrIf (s : State) (c : Prop) [Decidable c] (f b : Nat) :
    clockView (if c then farErr s f b else s) = clockView s := by
  split <;> rfl

theorem clockView_farEnd (s : State) (f : Nat) (a : FarAcc) (e : FarEnd) : clockView (farEnd s f a e) = clockView s := by
  unfold farEnd
  dsimp only
  split
  · split
    · exact clockView_respond _ _ _ _ _ _
    · rw [clockView_respond, clockView_farErrIf]
    · rw [clockView_respond]
      exact clockView_farErrIf s _ f 2
  · split
    · rw [clockView_farErrIf]
      split <;> rfl
    · split
      · rfl
      · rw [apply_ite clockView, clockView_farLog, ite_self]
      · exact clockView_farLog _ _ _ _ _

theorem clockView_farHeadEnd (s : State) (f : Nat) (e : FarEnd) : clockView (farHeadEnd s f e) = clockView s := by
  unfold farHeadEnd
  split
  · rfl
  · rw [clockView_farEnd]
    unfold farReserve
    dsimp only
    split <;> rfl

theorem clockView_farFlush (n : Nat) (s : State) (f : Nat) (e : FarEnd) : clockView (farFlush n s f e) = clockView s := by
  induction n generalizing s with
  | zero => rfl
  | succ n ih =>
    unfold farFlush
    split
    · rfl
    · rw [ih, clockView_farHeadEnd]

theorem clockView_pdDegrade (s : State) : clockView (pdDegrade s) = clockView s := by
  refine foldl_keeps clockView _ (fun s v => ?_) _ s
  split
  · unfold pdGoStale
    dsimp only
    split <;> rfl
  · rfl

theorem clockView_timeGone (s : State) : clockView (timeGone s) = clockView s := by
  unfold timeGone
  rw [clockView_pdDegrade]
  refine (foldl_keeps clockView _ (fun s f => clockView_farFlush _ s f _) _ _).trans ?_
  rw [clockView_admissionLost, clockView_inaugTimeLost]

/-! ## The clock and the PLL (R20, R340, Table 14-7) -/

/-- Without a clock the PLL locks to the internal RC, in degraded mode. -/
theorem xinLate_effect {s : State} (hph : s.pwc.phase = .xin) :
    (xinLate s).pwc.phase = .lock false true ∧ (xinLate s).glob.degraded = true ∧ (xinLate s).tms.tsValid = false
      ∧ bitAt (alarmOf (xinLate s) .pwc) 4 = true ∧ (xinLate s).isl = s.isl ∧ (xinLate s).otp = s.otp
      ∧ (xinLate s).tms.refSource = 0xFF ∧ (xinLate s).mono = max s.mono (s.pwc.phaseAt + 10000000) := by
  have hview : clockView (xinLate s)
      = (.lock false true, true, false, 0xFF, s.isl, s.otp, max s.mono (s.pwc.phaseAt + 10000000)) := by
    unfold xinLate
    rw [if_pos hph]
    dsimp only
    rw [clockView_setAlarm, clockView_timeGone]
    simp [clockView]
  have halarm : bitAt (alarmOf (xinLate s) .pwc) 4 = true := by
    unfold xinLate
    rw [if_pos hph]
    dsimp only
    rw [alarmOf_setAlarm]
    exact bitAt_setBit_self _ 4 (by decide)
  simp only [clockView, Prod.mk.injEq] at hview
  obtain ⟨hphase, hdeg, hvalid, href, hisl, hotp, hmono⟩ := hview
  exact ⟨hphase, hdeg, hvalid, halarm, hisl, hotp, href, hmono⟩

/-- The device once its PLL has locked, before a latched wake failure is told. -/
def pllRunning (s : State) : State :=
  { s with
    pwc := { s.pwc with phase := .running, phaseAt := s.mono, lockAt := s.mono }, fw := { s.fw with phase := .rom }
    tms := { s.tms with tsValid := !s.glob.degraded, refAt := s.mono }
    fab := { s.fab with ready := true, admitted := !s.glob.degraded } }

theorem pllLock_eq {s : State} {a b : Bool} (hph : s.pwc.phase = .lock a b) :
    pllLock s = setAlarmIf (pllRunning s) s.pwc.wakeFail .pwc 3 := by
  unfold pllLock
  rw [hph]
  rfl

/-- With the lock of the PLL the device runs. -/
theorem pllLock_runs {s : State} {a b : Bool} (hph : s.pwc.phase = .lock a b) :
    (pllLock s).pwc.phase = .running ∧ (pllLock s).fw.phase = .rom ∧ (pllLock s).pwc.lockAt = s.mono
      ∧ (pllLock s).tms.tsValid = !s.glob.degraded ∧ (pllLock s).fab.ready = true
      ∧ (pllLock s).fab.admitted = !s.glob.degraded
      ∧ (s.pwc.wakeFail = true → bitAt (alarmOf (pllLock s) .pwc) 3 = true) := by
  have halarm : s.pwc.wakeFail = true → bitAt (alarmOf (pllLock s) .pwc) 3 = true := fun hw => by
    rw [pllLock_eq hph, hw, setAlarmIf, if_pos rfl, alarmOf_setAlarm]
    exact bitAt_setBit_self _ 3 (by decide)
  obtain ⟨alarm, host, hform⟩ := setAlarmIf_pwc_form (pllRunning s) s.pwc.wakeFail 3
  have hrun := (pllLock_eq hph).trans hform
  refine ⟨?_, ?_, ?_, ?_, ?_, ?_, halarm⟩ <;> rw [hrun] <;> rfl

/-- Without the lock one further attempt follows, on the internal RC none. -/
theorem pllLate_again {s : State} (hph : s.pwc.phase = .lock false false) :
    (pllLate s).mono = max s.mono (s.pwc.phaseAt + 1000000) ∧ (pllLate s).pwc.phase = .lock true false := by
  unfold pllLate
  rw [hph]
  exact ⟨untilMono_mono s _, rfl⟩

theorem pllLate_fails {s : State} {a b : Bool} (hph : s.pwc.phase = .lock a b) (h : a = true ∨ b = true) :
    pllLate s = attemptFail (untilMono s (s.pwc.phaseAt + 1000000)) 4 := by
  unfold pllLate
  rw [hph]
  exact if_pos (by simpa using h)

/-! ## WAKE_OUT (R342) -/

theorem wakeOutStep_pulse {s : State} {u : Nat} (h : s.pwc.wakeOut = some u) :
    (wakeOutStep s).pwc.wakeOut = none ∧ (wakeOutStep s).mono = max s.mono u := by
  unfold wakeOutStep
  rw [h]
  exact ⟨rfl, untilMono_mono s u⟩

/-- The next repetition of a latched code begins on the raster of 5 s. -/
theorem wakeOutStep_repeats {s : State} {u : Nat} (h : s.pwc.wakeOut = none) (hf : s.pwc.wakeOutFail = some u)
    (hu : u ≤ s.mono) :
    (wakeOutStep s).mono = u + ((s.mono - u) / 5000000000 + 1) * 5000000000
      ∧ (u + 600000000000 ≤ (wakeOutStep s).mono → (wakeOutStep s).pwc.wakeOutFail = none)
      ∧ ((wakeOutStep s).mono < u + 600000000000 → (wakeOutStep s).pwc.wakeOutFail = some u) := by
  have hnext : (untilMono s (u + ((s.mono - u) / 5000000000 + 1) * 5000000000)).mono
      = u + ((s.mono - u) / 5000000000 + 1) * 5000000000 := by
    rw [untilMono_mono]; omega
  unfold wakeOutStep
  rw [h, hf]
  dsimp only
  split
  next hend => exact ⟨hnext, fun _ => rfl, fun hlt => absurd hend (Nat.not_le.2 hlt)⟩
  next hend => exact ⟨hnext, fun hle => absurd hle hend, fun _ => by simpa using hf⟩

/-- Settles O52: each event by what it does where it counts (`wakeEvent_starts`, `pgRise_awaited`, `attemptFail_effect`,
`xinLate_effect`, `pllLock_runs`), and as idle elsewhere. -/
theorem wakeEventsAndTheWakeSequence : Obligations.WakeEventsAndTheWakeSequence := by
  unfold Obligations.WakeEventsAndTheWakeSequence
  refine ⟨fun s src seg hph hat hp => ?_, fun s g p hph hg hw => ?_, fun s g p h => ?_, fun s g p hph hw hst hdet => ?_,
    fun s => ?_, fun s hi hph => congrArg Host.Outcome.next (if_neg (by simp [hi, hph])),
    fun s h => congrArg Host.Outcome.next (if_pos h),
    fun s h => congrArg Host.Outcome.next (if_neg fun ⟨hph, ht⟩ => h.elim (· hph) ht),
    fun s hph ht => ⟨_, congrArg Host.Outcome.next (if_pos ⟨hph, ht⟩), untilMono_mono s _, by simp⟩,
    fun s a b hph hh => ?_, fun s n hn hph hlow => ?_, fun s n hph => ?_,
    fun s hph => ⟨congrArg Host.Outcome.next (if_neg hph), congrArg Host.Outcome.next (if_neg hph)⟩,
    fun s hph => congrArg Host.Outcome.next (if_neg hph), fun s hph => congrArg Host.Outcome.next (if_pos hph),
    fun s hph => ⟨_, rfl, xinLate_effect hph⟩, fun s a b hph => ⟨_, rfl, pllLock_runs hph⟩, fun s a b hph => ?_,
    fun s hph hp => ?_, fun s u h => ⟨_, rfl, wakeOutStep_pulse h⟩,
    fun s u h hf hu => ⟨_, rfl, wakeOutStep_repeats h hf hu⟩⟩
  -- wake events
  · obtain ⟨hsrc, hseg, hatt, hout, hheld, -, -⟩ := startWake_begins s src seg
    obtain ⟨hphase, hinh⟩ := startWake_waits src seg hp
    exact ⟨_, wakeEvent_starts src seg hph hat, hsrc, hseg, hatt, hphase, hinh, hout, hheld⟩
  · exact congrArg Host.Outcome.next ((wakePattern_standby hw hph).trans (if_pos hg))
  · refine congrArg Host.Outcome.next ?_
    cases hw : wakeRule p with
    | false => exact wakePattern_unruly hw s
    | true =>
      obtain ⟨hph, hg⟩ := h.resolve_left (by simp [hw])
      exact (wakePattern_standby hw hph).trans (if_neg hg)
  · refine ⟨_, congrArg Host.Outcome.next (wakePattern_running hph hw hst hdet), ?_, by simp [segEvent, putSeg, countPort],
      fun j hj => ?_⟩
    · rw [segOf_segEvent, segOf_putSeg_self]; rfl
    · rw [segOf_segEvent, segOf_putSeg_other _ _ hj, segOf_countPort]
  · refine ⟨wakeSwOn s, rfl, .inl ?_, fun h => if_pos h, fun h => if_neg (by simp [h])⟩
    unfold wakeSwOn
    dsimp only
    split
    · exact wakeEvent_wakeSw _ 2 0
    · rfl
  · obtain ⟨hsrc, hseg, hatt, -, hheld, -, hmono⟩ := startWake_begins (untilMono s (s.pwc.phaseAt + 100000000)) a b
    refine ⟨_, congrArg Host.Outcome.next ?_, hsrc, hseg, hatt, hheld, hmono.trans (untilMono_mono s _)⟩
    unfold heldWake
    rw [hh]
    exact if_pos hph
  -- the power-goods
  · refine ⟨_, rfl, pgRise_pgs hn hph hlow, fun hn hp => pgRise_next hn hph hlow hp, ?_⟩
    rintro rfl
    exact pgRise_last hph hlow
  · have hfail := attemptFail_effect (untilMono s (s.pwc.phaseAt + 20000000)) (n + 1)
    simp only [untilMono_frame, untilMono_mono] at hfail
    obtain ⟨hinh, hfails, hmono, hotp, hretry, hlast⟩ := hfail
    exact ⟨_, congrArg Host.Outcome.next (if_pos hph), hinh, hfails, hmono, hotp, hretry, hlast⟩
  -- the lock that does not come, and the next attempt
  · refine ⟨_, rfl, ?_⟩
    by_cases h : a = true ∨ b = true
    · have hfail := attemptFail_effect (untilMono s (s.pwc.phaseAt + 1000000)) 4
      simp only [untilMono_frame, untilMono_mono] at hfail
      obtain ⟨hinh, -, hmono, -, hretry, hlast⟩ := hfail
      rw [pllLate_fails hph h]
      exact ⟨hmono, fun ha hb => by simp [ha, hb] at h, fun _ hatt => ⟨(hretry hatt).1, hinh⟩,
        fun _ hatt => ⟨(hlast hatt).1, (hlast hatt).2.2⟩⟩
    · obtain ⟨ha, hb⟩ : a = false ∧ b = false := by simpa using h
      subst ha hb
      obtain ⟨hmono, hphase⟩ := pllLate_again hph
      exact ⟨hmono, fun _ _ => hphase, fun h' => absurd h' h, fun h' => absurd h' h⟩
  · obtain ⟨hphase, hatt, hinh, hmono⟩ := nextAttempt_waits (s := untilMono s (s.pwc.phaseAt + 100000000)) (by simpa using hp)
    exact ⟨_, congrArg Host.Outcome.next (if_pos hph), hphase, by simpa using hatt, hinh, hmono.trans (untilMono_mono s _)⟩

end Sys2Proof.Proofs
end

section
/-! SUPPORT. Train time: the alarms of the TMS, the lock rule of a following node, the servos and the entry into holdover. -/

namespace Sys2Proof.Proofs

open Sys2Proof Sys2Proof.Machine

/-- Time that passes changes the model time and the two time bases. -/
theorem untilMono_form (s : State) (n : Nat) : ∃ m f a b,
    untilMono s n = { s with mono := m, monoFrac := f, tms := { s.tms with trt := a, wyt := b } } :=
  advance_form s _

/-! ## Alarms of the TMS block -/

/-- An alarm of the TMS changes its register, and the vectors of the host interface. -/
theorem setAlarm_tms_form (s : State) (b : Nat) : setAlarm s .tms b
    = { s with tms := { s.tms with alarm := setBit s.tms.alarm b true }, host := (setAlarm s .tms b).host } := by
  unfold setAlarm
  dsimp only
  split
  · rw [msixRaise_form]; rfl
  · rfl

theorem setAlarmIf_tms_form (s : State) (c : Bool) (b : Nat) : ∃ h, setAlarmIf s c .tms b
    = { s with tms := { s.tms with alarm := if c then setBit s.tms.alarm b true else s.tms.alarm }, host := h } := by
  cases c with
  | false => exact ⟨_, rfl⟩
  | true => exact ⟨_, setAlarm_tms_form s b⟩

/-! ## The lock rule (R44) -/

/-- What the lock rule leaves as it was: TRT, its DRIFT and the configuration. -/
def lockView (s : State) : Nat × Int × TimeCfg := (s.tms.trt, s.tms.trtDrift, s.tms.cfg)

theorem lockView_setAlarm (s : State) (b : Nat) : lockView (setAlarm s .tms b) = lockView s := by simp [lockView]

theorem lockView_lockRule (s : State) (x : Int) : lockView (lockRule s x) = lockView s := by
  unfold lockRule
  extract_lets w good bad g b u
  split
  · exact (apply_ite lockView _ _ _).trans (ite_self _)
  · rw [apply_ite lockView, lockView_setAlarm]
    exact ite_self _
  · rfl

theorem lockWindow_lockRule (s : State) (x : Int) : (lockRule s x).tms.cfg.lockWindow = s.tms.cfg.lockWindow := by
  have hview := lockView_lockRule s x
  simp only [lockView, Prod.mk.injEq] at hview
  obtain ⟨-, -, hcfg⟩ := hview
  rw [hcfg]

/-- From ACQUIRING an offset within lock_window counts, and the 16th in a row locks. -/
theorem lockRule_acquiring_good {s : State} {x : Int} (hs : s.tms.trtState = .acquiring)
    (hx : x.natAbs ≤ s.tms.cfg.lockWindow * 1000) :
    (lockRule s x).tms.trtState = (if 16 ≤ s.tms.goodRun + 1 then .locked else .acquiring)
      ∧ (lockRule s x).tms.goodRun = s.tms.goodRun + 1 := by
  unfold lockRule
  simp only [hs, hx, decide_true, if_true]
  split <;> exact ⟨rfl, rfl⟩

/-- From ACQUIRING an offset outside lock_window starts the count again. -/
theorem lockRule_acquiring_outside {s : State} {x : Int} (hs : s.tms.trtState = .acquiring)
    (hx : s.tms.cfg.lockWindow * 1000 < x.natAbs) :
    (lockRule s x).tms.trtState = .acquiring ∧ (lockRule s x).tms.goodRun = 0 := by
  unfold lockRule
  simp [hs, Nat.not_le.2 hx]

/-- From LOCKED an offset within four times lock_window ends a run of bad ones. -/
theorem lockRule_locked_kept {s : State} {x : Int} (hs : s.tms.trtState = .locked)
    (hx : x.natAbs ≤ 4 * (s.tms.cfg.lockWindow * 1000)) :
    (lockRule s x).tms.trtState = .locked ∧ (lockRule s x).tms.badRun = 0 := by
  unfold lockRule
  simp [hs, Nat.not_lt.2 hx]

/-- From LOCKED an offset outside four times lock_window counts, and the 4th in a row unlocks with trt_lock_lost. -/
theorem lockRule_locked_bad {s : State} {x : Int} (hs : s.tms.trtState = .locked)
    (hx : 4 * (s.tms.cfg.lockWindow * 1000) < x.natAbs) :
    (s.tms.badRun + 1 < 4 → (lockRule s x).tms.trtState = .locked ∧ (lockRule s x).tms.badRun = s.tms.badRun + 1)
      ∧ (4 ≤ s.tms.badRun + 1 → (lockRule s x).tms.trtState = .acquiring ∧ bitAt (lockRule s x).tms.alarm 2 = true) := by
  unfold lockRule
  simp only [hs, hx, decide_true, if_true]
  constructor <;> intro h
  · rw [if_neg (Nat.not_le.2 h)]; exact ⟨rfl, rfl⟩
  · rw [if_pos h]; simp

/-- Offsets within lock_window keep a LOCKED node LOCKED. -/
theorem lockRun_locked {s : State} {l : List Int} (hs : s.tms.trtState = .locked)
    (hl : ∀ x ∈ l, x.natAbs ≤ s.tms.cfg.lockWindow * 1000) : (l.foldl lockRule s).tms.trtState = .locked := by
  induction l generalizing s with
  | nil => exact hs
  | cons x r ih =>
    have hx := hl x List.mem_cons_self
    refine ih (lockRule_locked_kept hs (by omega)).1 fun y hy => ?_
    rw [lockWindow_lockRule]
    exact hl y (List.mem_cons_of_mem x hy)

/-- From ACQUIRING a run of offsets within lock_window locks exactly where it brings the count to 16. -/
theorem lockRun_acquiring {s : State} {l : List Int} (hs : s.tms.trtState = .acquiring) (hg : s.tms.goodRun < 16)
    (hl : ∀ x ∈ l, x.natAbs ≤ s.tms.cfg.lockWindow * 1000) :
    (l.foldl lockRule s).tms.trtState = .locked ↔ 16 ≤ s.tms.goodRun + l.length := by
  induction l generalizing s with
  | nil => simp [hs, hg]
  | cons x r ih =>
    obtain ⟨hstate, hrun⟩ := lockRule_acquiring_good hs (hl x List.mem_cons_self)
    have hr : ∀ y ∈ r, y.natAbs ≤ (lockRule s x).tms.cfg.lockWindow * 1000 := fun y hy => by
      rw [lockWindow_lockRule]
      exact hl y (List.mem_cons_of_mem x hy)
    rw [List.foldl_cons, List.length_cons]
    by_cases h16 : 16 ≤ s.tms.goodRun + 1
    · rw [if_pos h16] at hstate
      exact iff_of_true (lockRun_locked hstate hr) (by omega)
    · rw [if_neg h16] at hstate
      rw [ih hstate (by omega) hr, hrun]
      omega

/-- From LOCKED up to four offsets outside four times lock_window end it exactly where they bring the count to 4. -/
theorem lockRun_bad {s : State} {l : List Int} (hs : s.tms.trtState = .locked) (hb : s.tms.badRun + l.length ≤ 4)
    (hl : ∀ x ∈ l, 4 * (s.tms.cfg.lockWindow * 1000) < x.natAbs) (hlt : s.tms.badRun < 4) :
    ((l.foldl lockRule s).tms.trtState = .locked ↔ s.tms.badRun + l.length < 4)
      ∧ (s.tms.badRun + l.length = 4 → bitAt (l.foldl lockRule s).tms.alarm 2 = true) := by
  induction l generalizing s with
  | nil => exact ⟨iff_of_true hs hlt, fun h => absurd h (Nat.ne_of_lt hlt)⟩
  | cons x r ih =>
    obtain ⟨hkept, hended⟩ := lockRule_locked_bad hs (hl x List.mem_cons_self)
    rw [List.foldl_cons]
    rw [List.length_cons] at hb ⊢
    by_cases h4 : 4 ≤ s.tms.badRun + 1
    · obtain ⟨hstate, halarm⟩ := hended h4
      have hr : r = [] := List.length_eq_zero_iff.1 (by omega)
      subst hr
      exact ⟨iff_of_false (by simp [hstate]) (by omega), fun _ => halarm⟩
    · obtain ⟨hstate, hrun⟩ := hkept (by omega)
      have hnext := ih hstate (by omega) (fun y hy => by
        rw [lockWindow_lockRule]
        exact hl y (List.mem_cons_of_mem x hy)) (by omega)
      rwa [hrun, Nat.add_assoc, Nat.add_comm 1] at hnext

/-- Settles O16, by the lengths of the runs (`lockRun_acquiring`, `lockRun_bad`). -/
theorem upstreamOffsetsLockOrUnlock : Obligations.UpstreamOffsetsLockOrUnlock := by
  unfold Obligations.UpstreamOffsetsLockOrUnlock
  intro s os o _ w run t
  have hview : lockView t = lockView s := foldl_keeps lockView lockRule lockView_lockRule (os ++ [o]) s
  have hall : ∀ {P : Int → Prop}, (∀ x ∈ os, P x) → P o → ∀ x ∈ os ++ [o], P x := fun hos ho x hx =>
    (List.mem_append.1 hx).elim (hos x) fun hx => List.mem_singleton.1 hx ▸ ho
  simp only [lockView, Prod.mk.injEq] at hview
  obtain ⟨htrt, hdrift, -⟩ := hview
  refine ⟨htrt, hdrift, fun hs hg hos ho => ?_, fun hs hg ho hnil => ?_,
    fun hs hb hlen hos ho => ?_, fun hs ho hnil => ?_⟩
  · have h := lockRun_acquiring (l := os ++ [o]) hs (by omega) (hall hos ho)
    simpa [hg, t, run] using h
  · subst hnil
    exact lockRule_acquiring_outside hs ho
  · have h := lockRun_bad (l := os ++ [o]) hs (by simp; omega) (hall hos ho) (by omega)
    simp only [hb, List.length_append, List.length_singleton] at h
    exact ⟨h.1.trans (by omega), fun h3 => h.2 (by omega)⟩
  · subst hnil
    exact lockRule_locked_kept hs ho

/-! ## Servos (R36, R37, R39) -/

/-- A DRIFT within the range of R36. -/
def saturated (d : Int) : Int := max driftMin (min driftMax d)

theorem driftMin_le_saturated (d : Int) : driftMin ≤ saturated d := le_max_left _ _

theorem saturated_le_driftMax (d : Int) : saturated d ≤ driftMax := max_le (by decide) (min_le_left _ _)

/-- A DRIFT that takes effect changes no more than itself, its history and the alarms. -/
theorem setTrtDrift_form (s : State) (d : Int) : ∃ hist host, setTrtDrift s d
    = { s with
        tms := { s.tms with
          trtDrift := saturated d, trtHist := hist
          alarm := if saturated d != d then setBit s.tms.alarm 9 true else s.tms.alarm }
        host := host } := by
  obtain ⟨h, e⟩ := setAlarmIf_tms_form { s with tms := { s.tms with
    trtDrift := saturated d, trtHist := ((s.mono, saturated d) :: s.tms.trtHist).take 10000 } } (saturated d != d) 9
  exact ⟨_, _, e⟩

theorem setWytDrift_form (s : State) (d : Int) : ∃ hist host, setWytDrift s d
    = { s with
        tms := { s.tms with
          wytDrift := saturated d, wytHist := hist
          alarm := if saturated d != d then setBit s.tms.alarm 9 true else s.tms.alarm }
        host := host } := by
  obtain ⟨h, e⟩ := setAlarmIf_tms_form { s with tms := { s.tms with
    wytDrift := saturated d, wytHist := ((s.mono, saturated d) :: s.tms.wytHist).take 10000 } } (saturated d != d) 9
  exact ⟨_, _, e⟩

@[simp] theorem setTrtDrift_drift (s : State) (d : Int) : (setTrtDrift s d).tms.trtDrift = saturated d := by
  obtain ⟨_, _, e⟩ := setTrtDrift_form s d
  rw [e]

@[simp] theorem setWytDrift_drift (s : State) (d : Int) : (setWytDrift s d).tms.wytDrift = saturated d := by
  obtain ⟨_, _, e⟩ := setWytDrift_form s d
  rw [e]

/-- A value beyond the range sets drift_limit. -/
theorem setTrtDrift_limit (s : State) {d : Int} (h : d < driftMin ∨ driftMax < d) :
    bitAt (setTrtDrift s d).tms.alarm 9 = true := by
  obtain ⟨_, _, e⟩ := setTrtDrift_form s d
  have hne : saturated d ≠ d := fun he => h.elim
    (fun h => absurd (driftMin_le_saturated d) (by omega)) (fun h => absurd (saturated_le_driftMax d) (by omega))
  rw [e, if_pos (by simpa using hne)]
  exact bitAt_setBit_self _ 9 (by decide)

/-- What no servo moves: the time bases, the configuration in force, the epoch, what leaves the device and the model time. -/
def servoView (s : State) : Nat × Nat × TimeCfg × BitVec 8 × List Sent × Nat :=
  (s.tms.trt, s.tms.wyt, s.tms.cfg, s.tms.trtEpoch, s.wire, s.mono)

theorem setTrtDrift_keeps (s : State) (d : Int) :
    servoView (setTrtDrift s d) = servoView s ∧ (setTrtDrift s d).tms.wytDrift = s.tms.wytDrift := by
  obtain ⟨_, _, e⟩ := setTrtDrift_form s d
  rw [e]
  exact ⟨rfl, rfl⟩

@[simp] theorem setTrtDrift_frame (s : State) (d : Int) :
    (setTrtDrift s d).tms.trtStopped = s.tms.trtStopped ∧ (setTrtDrift s d).tms.upstream = s.tms.upstream
      ∧ (setTrtDrift s d).tms.leaderId = s.tms.leaderId ∧ (setTrtDrift s d).tms.trtEpoch = s.tms.trtEpoch
      ∧ (setTrtDrift s d).mono = s.mono := by
  obtain ⟨_, _, e⟩ := setTrtDrift_form s d
  rw [e]
  exact ⟨rfl, rfl, rfl, rfl, rfl⟩

theorem setWytDrift_keeps (s : State) (d : Int) :
    servoView (setWytDrift s d) = servoView s ∧ (setWytDrift s d).tms.trtDrift = s.tms.trtDrift := by
  obtain ⟨_, _, e⟩ := setWytDrift_form s d
  rw [e]
  exact ⟨rfl, rfl⟩

theorem trtServo_keeps (rate : Option Int) (span : Nat) (s : State) :
    servoView (trtServo rate span s) = servoView s ∧ (trtServo rate span s).tms.wytDrift = s.tms.wytDrift := by
  have hset : ∀ u d, servoView u = servoView s → u.tms.wytDrift = s.tms.wytDrift →
      servoView (setTrtDrift u d) = servoView s ∧ (setTrtDrift u d).tms.wytDrift = s.tms.wytDrift := fun u d hv hw => by
    obtain ⟨hview, hdrift⟩ := setTrtDrift_keeps u d
    exact ⟨hview.trans hv, hdrift.trans hw⟩
  unfold trtServo
  split
  · dsimp only
    split
    · exact hset _ _ rfl rfl
    · exact ⟨rfl, rfl⟩
  · split
    · dsimp only
      split
      · exact hset _ _ rfl rfl
      · exact ⟨rfl, rfl⟩
    · exact ⟨rfl, rfl⟩

theorem wytServo_keeps (span : Nat) (s : State) :
    servoView (wytServo span s) = servoView s ∧ (wytServo span s).tms.trtDrift = s.tms.trtDrift := by
  have hset : ∀ u d, servoView u = servoView s → u.tms.trtDrift = s.tms.trtDrift →
      servoView (setWytDrift u d) = servoView s ∧ (setWytDrift u d).tms.trtDrift = s.tms.trtDrift := fun u d hv hw => by
    obtain ⟨hview, hdrift⟩ := setWytDrift_keeps u d
    exact ⟨hview.trans hv, hdrift.trans hw⟩
  unfold wytServo
  split
  · dsimp only
    split
    · exact hset _ _ rfl rfl
    · exact ⟨rfl, rfl⟩
  · split
    · exact hset _ _ rfl rfl
    · exact ⟨rfl, rfl⟩

/-- The correction beyond feed-forward stays within slew_limit. -/
theorem slewed_natAbs_le (s : State) (v : Int) : (slewed s v).natAbs ≤ (slewMax s).natAbs := by
  unfold slewed
  omega

/-- The first update after manual mode asks for the present DRIFT. -/
theorem servoRun_resumes (s : State) (ff present integ off : Int) (bw span : Nat) :
    (servoRun s true ff present integ off bw span).1 = present := rfl

/-- Every other update asks for the feed-forward and a correction within slew_limit. -/
theorem servoRun_corrects (s : State) (ff present integ off : Int) (bw span : Nat) :
    ∃ c : Int, c.natAbs ≤ (slewMax s).natAbs ∧ (servoRun s false ff present integ off bw span).1 = ff + c :=
  ⟨_, slewed_natAbs_le s _, rfl⟩

section trtServo

variable {s : State} (rate : Option Int) (span : Nat)

/-- In manual mode DRIFT is the value given. -/
theorem trtServo_manual {d : Int} (hm : s.tms.cfg.manual = true) (hd : s.tms.manualTrt = some d) :
    ∃ u, trtServo rate span s = setTrtDrift u d := by
  unfold trtServo
  rw [if_pos hm]
  simp only [hd]
  exact ⟨_, rfl⟩

/-- A TRT that leads, holds over or follows nothing keeps its DRIFT. -/
theorem trtServo_idle (hm : s.tms.cfg.manual = false) (hl : s.tms.trtState ≠ .locked) (ha : s.tms.trtState ≠ .acquiring) :
    trtServo rate span s = s := by
  unfold trtServo
  rw [if_neg (by simp [hm]), if_neg (by simp [hl, ha])]

variable (hm : s.tms.cfg.manual = false) (hf : s.tms.trtState = .locked ∨ s.tms.trtState = .acquiring) {p : PeerTime}
  (hp : (linkTime s s.tms.upstream).peer = some p)

include hm hf hp

/-- A TRT that follows takes what its servo asks for. -/
theorem trtServo_follows : ∃ u off, trtServo rate span s = setTrtDrift u
      (servoRun s s.tms.trtStopped (feedForward (rate.getD (linkTime s s.tms.upstream).ratio) p.drift) s.tms.trtDrift
        s.tms.trtInteg off s.tms.cfg.trtBw span).1
    ∧ u.tms.trtStopped = false := by
  unfold trtServo
  rw [if_neg (by simp [hm]), if_pos hf]
  simp only [hp]
  exact ⟨_, _, rfl, rfl⟩

theorem trtServo_resumes (hr : s.tms.trtStopped = true) :
    (trtServo rate span s).tms.trtDrift = saturated s.tms.trtDrift ∧ (trtServo rate span s).tms.trtStopped = false := by
  obtain ⟨u, off, h, hu⟩ := trtServo_follows rate span hm hf hp
  rw [h, hr, servoRun_resumes]
  simpa using hu

theorem trtServo_corrects (hr : s.tms.trtStopped = false) : ∃ c : Int, c.natAbs ≤ (slewMax s).natAbs
    ∧ (trtServo rate span s).tms.trtDrift
      = saturated (feedForward (rate.getD (linkTime s s.tms.upstream).ratio) p.drift + c) := by
  obtain ⟨u, off, h, -⟩ := trtServo_follows rate span hm hf hp
  obtain ⟨c, hc, hrun⟩ := servoRun_corrects s (feedForward (rate.getD (linkTime s s.tms.upstream).ratio) p.drift)
    s.tms.trtDrift s.tms.trtInteg off s.tms.cfg.trtBw span
  rw [h, hr, hrun, setTrtDrift_drift]
  exact ⟨c, hc, rfl⟩

end trtServo

section wytServo

variable {s : State} (span : Nat)

theorem wytServo_manual {d : Int} (hm : s.tms.cfg.manual = true) (hd : s.tms.manualWyt = some d) :
    (wytServo span s).tms.wytDrift = saturated d := by
  unfold wytServo
  rw [if_pos hm]
  simp only [hd, setWytDrift_drift]

variable (hm : s.tms.cfg.manual = false) (hf : s.tms.wytState = .locked ∨ s.tms.wytState = .acquiring)

include hm hf

theorem wytServo_follows : (wytServo span s).tms.wytDrift
    = saturated (servoRun s s.tms.wytStopped (domainOf s s.tms.wytDom).ratio s.tms.wytDrift s.tms.wytInteg
        ((domainOf s s.tms.wytDom).offset * 1000) s.tms.cfg.wytBw span).1 := by
  unfold wytServo
  rw [if_neg (by simp [hm]), if_pos hf]
  exact setWytDrift_drift _ _

theorem wytServo_resumes (hr : s.tms.wytStopped = true) : (wytServo span s).tms.wytDrift = saturated s.tms.wytDrift := by
  rw [wytServo_follows span hm hf, hr, servoRun_resumes]

theorem wytServo_corrects (hr : s.tms.wytStopped = false) : ∃ c : Int, c.natAbs ≤ (slewMax s).natAbs
    ∧ (wytServo span s).tms.wytDrift = saturated ((domainOf s s.tms.wytDom).ratio + c) := by
  obtain ⟨c, hc, hrun⟩ := servoRun_corrects s (domainOf s s.tms.wytDom).ratio s.tms.wytDrift s.tms.wytInteg
    ((domainOf s s.tms.wytDom).offset * 1000) s.tms.cfg.wytBw span
  exact ⟨c, hc, by rw [wytServo_follows span hm hf, hr, hrun]⟩

end wytServo

/-- Parameters that were changed are in force (R37). -/
def configured (s : State) : State := { s with tms := { s.tms with cfg := s.tms.cfgNext } }

theorem servoEffect_trt (rate : Option Int) (span : Nat) {s : State} (hv : s.tms.tsValid = true) :
    servoEffect .trt rate span s = trtServo rate span (configured s) := by
  simp [servoEffect, hv, configured]

theorem servoEffect_wyt (rate : Option Int) (span : Nat) {s : State} (hv : s.tms.tsValid = true) :
    servoEffect .wyt rate span s = wytServo span (configured s) := by
  simp [servoEffect, hv, configured]

/-! ## Holdover (R45) -/

/-- The leader fell silent: the node has an upstream that does not hold over itself. -/
def fellSilent (s : State) : Bool := !upstreamHolds s && s.tms.upstream != 15

/-- The node in holdover with DRIFT `d`, saturated. -/
def holdingOver (s : State) (d : Int) : State :=
  let u := setAlarmIf s (fellSilent s) .tms 3
  let v := setTrtDrift { u with tms := { u.tms with upstream := if fellSilent s then 15 else u.tms.upstream } } d
  setAlarm { v with tms := { v.tms with trtState := .holdover, trtHoldSince := some v.mono } } .tms 0

theorem enterHoldover_holds {s : State} (h : mayHold s = true) : ∃ d, enterHoldover s = holdingOver s d :=
  ⟨_, if_pos h⟩

theorem upstream_after (s : State) :
    (if fellSilent s then 15 else s.tms.upstream) = if upstreamHolds s then s.tms.upstream else 15 := by
  unfold fellSilent
  cases upstreamHolds s <;> simp

/-- Where the node follows a leader, it holds over: DRIFT within its range, and no upstream unless that holds over itself. -/
theorem enterHoldover_effect {s : State} (h : mayHold s = true) :
    (enterHoldover s).tms.trtState = .holdover ∧ bitAt (enterHoldover s).tms.alarm 0 = true
      ∧ (enterHoldover s).tms.upstream = (if upstreamHolds s then s.tms.upstream else 15)
      ∧ (enterHoldover s).tms.trtHoldSince = some s.mono
      ∧ (∃ d, (enterHoldover s).tms.trtDrift = saturated d)
      ∧ (enterHoldover s).tms.leaderId = s.tms.leaderId ∧ (enterHoldover s).tms.trtEpoch = s.tms.trtEpoch
      ∧ (enterHoldover s).mono = s.mono := by
  obtain ⟨d, hd⟩ := enterHoldover_holds h
  rw [hd, ← upstream_after]
  unfold holdingOver
  exact ⟨by simp, by simp, by simp, by simp, ⟨d, by simp⟩, by simp, by simp, by simp⟩

/-- An upstream that does not hold over is not the cause. -/
theorem upstreamHolds_of_heard {s : State}
    (h : ∀ q, (linkTime s s.tms.upstream).peer = some q → q.inHoldover = false) : upstreamHolds s = false := by
  unfold upstreamHolds
  split
  next q hq => simp [h q hq]
  · rfl

/-- The state at the instant of the entry: 500 µs after the leader's last LTM, or now where the upstream's holdover is the cause. -/
def holdoverInstant (s : State) : State := if upstreamHolds s then s else untilMono s (leaderSilentAt s)

theorem holdoverEffect_eq {s : State} (h : mayHold s = true) : holdoverEffect s = enterHoldover (holdoverInstant s) := by
  unfold holdoverEffect holdoverInstant
  rw [if_pos h, apply_ite enterHoldover]

theorem holdoverInstant_keeps (s : State) :
    (holdoverInstant s).tms.trtState = s.tms.trtState ∧ (holdoverInstant s).tms.upstream = s.tms.upstream
      ∧ (holdoverInstant s).tms.links = s.tms.links ∧ (holdoverInstant s).tms.leaderId = s.tms.leaderId
      ∧ (holdoverInstant s).tms.trtEpoch = s.tms.trtEpoch
      ∧ (holdoverInstant s).mono = if upstreamHolds s then s.mono else max s.mono (leaderSilentAt s) := by
  unfold holdoverInstant
  split <;> simp

/-- Settles O17: a servo takes the DRIFT it asks for saturated (`trtServo_corrects`, `wytServo_corrects`), and holdover its mean
(`enterHoldover_effect`). -/
theorem servosAndHoldoverSetDrift : Obligations.ServosAndHoldoverSetDrift := by
  unfold Obligations.ServosAndHoldoverSetDrift
  refine ⟨fun s sc rate span hv => ⟨_, rfl, ?_⟩, fun s h => ⟨_, rfl, ?_⟩, fun s h => ?_⟩
  · cases sc with
    | trt =>
      obtain ⟨hview, hdrift⟩ := trtServo_keeps rate span (configured s)
      simp only [servoView, Prod.mk.injEq] at hview
      obtain ⟨htrt, hwyt, hcfg, hepoch, hwire, hmono⟩ := hview
      rw [servoEffect_trt rate span hv]
      refine ⟨htrt, hwyt, hcfg, hepoch, hwire, hmono, fun _ => ⟨hdrift, fun d hm hd => ?_, fun hm hl ha => ?_,
        fun p hm hf hp hr => trtServo_resumes (s := configured s) rate span hm hf hp hr,
        fun p hm hf hp hr => trtServo_corrects (s := configured s) rate span hm hf hp hr⟩, fun h => by cases h⟩
      · obtain ⟨u, hu⟩ := trtServo_manual (s := configured s) rate span hm hd
        rw [hu]
        exact ⟨setTrtDrift_drift u d, fun h => setTrtDrift_limit u h⟩
      · rw [trtServo_idle (s := configured s) rate span hm hl ha]; rfl
    | wyt =>
      obtain ⟨hview, hdrift⟩ := wytServo_keeps span (configured s)
      simp only [servoView, Prod.mk.injEq] at hview
      obtain ⟨htrt, hwyt, hcfg, hepoch, hwire, hmono⟩ := hview
      rw [servoEffect_wyt rate span hv]
      exact ⟨htrt, hwyt, hcfg, hepoch, hwire, hmono, (fun h => by cases h), fun _ => ⟨hdrift,
        fun d hm hd => wytServo_manual (s := configured s) span hm hd,
        fun hm hf hr => wytServo_resumes (s := configured s) span hm hf hr,
        fun hm hf hr => wytServo_corrects (s := configured s) span hm hf hr⟩⟩
  · obtain ⟨hstate0, hup0, hlinks0, hleader0, hepoch0, hmono0⟩ := holdoverInstant_keeps s
    have hmay : mayHold (holdoverInstant s) = true := by simpa [mayHold, hstate0, hleader0] using h
    obtain ⟨hstate, halarm, hup, hsince, ⟨d, hdrift⟩, hleader, hepoch, hmono⟩ := enterHoldover_effect hmay
    rw [holdoverEffect_eq h, hdrift, hup]
    refine ⟨hstate, halarm, fun hu => ?_, fun hq => ?_, by rw [hsince, hmono], driftMin_le_saturated d,
      saturated_le_driftMax d, hleader.trans hleader0, hepoch.trans hepoch0, hmono.trans hmono0⟩
    · rw [holdoverInstant, if_pos hu, if_pos hu]
    · have hheard := upstreamHolds_of_heard (s := holdoverInstant s) (by simpa [linkTime, hup0, hlinks0] using hq)
      rw [hheard]
      rfl
  · exact congrArg Host.Outcome.next (if_neg (by simp [h]))

end Sys2Proof.Proofs
end

section
/-! SUPPORT. Reads that latch: the registers of the TMS, CSS, INE, PWC, AGM and EVR blocks with shadows, and arrays of registers. -/

namespace Sys2Proof.Proofs

open Sys2Proof Sys2Proof.Machine

/-- The element of an array that an offset lies in. -/
theorem elemAt_at {base size count i o off : Nat} (hi : i < count) (ho : o < size) (hoff : off = base + (i * size + o)) :
    elemAt off base size count = some (i, o) := by
  have hdiv : (i * size + o) / size = i := by
    rw [Nat.mul_comm, Nat.mul_add_div (by omega), Nat.div_eq_of_lt ho, Nat.add_zero]
  have hmod : (i * size + o) % size = o := by rw [Nat.mul_comm, Nat.mul_add_mod, Nat.mod_eq_of_lt ho]
  subst hoff
  unfold elemAt
  rw [Nat.add_sub_cancel_left, hdiv, hmod, if_pos ⟨Nat.le_add_right _ _, hi⟩]

/-- An offset behind an array lies in none of its elements. -/
theorem elemAt_behind {base size count off : Nat} (hs : 0 < size) (h : base + size * count ≤ off) :
    elemAt off base size count = none := by
  unfold elemAt
  refine if_neg fun ⟨_, hlt⟩ => absurd ((Nat.div_lt_iff_lt_mul hs).1 hlt) ?_
  rw [Nat.mul_comm]
  omega

/-- A sound register that reads as `v` returns it, with what the read latches. -/
theorem read_latches {s t : State} {off : Nat} {v : Word} (hr : readReg s off = some v) (hp : poisonedBacking s off = none)
    (he : readEffect (returned s [v] false) off = t) : (.next (busRead s off) : Out) = .next t :=
  congrArg Host.Outcome.next ((busRead_sound hr hp).trans he)

/-! ## Time-read slots (R59) -/

/-- Registers of the TMS block. -/
theorem readReg_tms (s : State) {off : Nat} (hlo : 0x300000 ≤ off) (hhi : off < 0x340000) :
    readReg s off = tmsReg s (off - 0x300000) := by
  unfold readReg
  rw [if_neg (by omega), if_neg (by omega), if_neg (by omega), if_neg (by omega), if_neg (by omega), if_pos (by omega)]

/-- The first register of a time-read slot is TRT ns. -/
theorem tmsReg_slot (s : State) {off k : Nat} (h : elemAt off 0x100 0x40 8 = some (k, 0)) :
    tmsReg s off = some (word (trtNs s % 1000000000)) := by
  simp [tmsReg, h, slotReg, regList]

theorem readReg_slot (s : State) {k : Nat} (hk : k < 8) :
    readReg s (0x300100 + k * 0x40) = some (word (trtNs s % 1000000000)) := by
  have hslot : elemAt (0x300100 + k * 0x40 - 0x300000) 0x100 0x40 8 = some (k, 0) :=
    elemAt_at hk (by omega) (by omega)
  exact (readReg_tms s (by omega) (by omega)).trans (tmsReg_slot s hslot)

theorem readEffect_slot (s : State) {k : Nat} (hk : k < 8) : readEffect s (0x300100 + k * 0x40) = slotLatch s k := by
  have hslot : elemAt (0x300100 + k * 0x40) 0x300100 0x40 8 = some (k, 0) := elemAt_at hk (by omega) rfl
  unfold readEffect
  split
  case h_11 => simp [hslot]
  all_goals omega

/-! ## The recorder's window (R359) -/

/-- Registers of the EVR and AGM blocks. -/
theorem readReg_evr (s : State) {off : Nat} (hlo : 0x440000 ≤ off) (hhi : off < 0x480000) :
    readReg s off = evrReg s (off - 0x440000) := by
  unfold readReg
  rw [if_neg (by omega), if_neg (by omega), if_neg (by omega), if_neg (by omega), if_neg (by omega), if_neg (by omega),
    if_neg (by omega), if_neg (by omega), if_neg (by omega), if_pos (by omega)]

/-- Word 0 of the window is the first of its entry. -/
theorem evrReg_window (s : State) {off i : Nat} (h : elemAt off 0x10000 0x20 4096 = some (i, 0)) :
    evrReg s off = some ((winWords s i).getD 0 0) := by
  simp [evrReg, h]

theorem readReg_window (s : State) {i : Nat} (hi : i < 4096) :
    readReg s (0x450000 + i * 0x20) = some ((winWords s i).getD 0 0) := by
  have hwin : elemAt (0x450000 + i * 0x20 - 0x440000) 0x10000 0x20 4096 = some (i, 0) :=
    elemAt_at hi (by omega) (by omega)
  exact (readReg_evr s (by omega) (by omega)).trans (evrReg_window s hwin)

theorem readEffect_window (s : State) {i : Nat} (hi : i < 4096) : readEffect s (0x450000 + i * 0x20) = winLatch s i := by
  have hslot : elemAt (0x450000 + i * 0x20) 0x300100 0x40 8 = none := elemAt_behind (by omega) (by omega)
  have hlast : elemAt (0x450000 + i * 0x20) 0x240000 0x10 256 = none := elemAt_behind (by omega) (by omega)
  have hwin : elemAt (0x450000 + i * 0x20) 0x450000 0x20 4096 = some (i, 0) := elemAt_at hi (by omega) rfl
  unfold readEffect
  split
  case h_11 => simp [hslot, hlast, hwin]
  all_goals omega

/-- Settles O5: each register reads as its value, and its read has the effect of its rule (`read_latches`). -/
theorem readsLatchTheirShadows : Obligations.ReadsLatchTheirShadows := by
  unfold Obligations.ReadsLatchTheirShadows
  refine ⟨fun s k hk hp => ?_, fun s hp => read_latches rfl hp rfl, fun s hp => read_latches rfl hp rfl,
    fun s hp => read_latches rfl hp rfl, fun s hp => read_latches rfl hp rfl, fun s hp => read_latches rfl hp rfl,
    fun s hp => read_latches rfl hp rfl, fun s hp => read_latches rfl hp rfl, fun s hp => read_latches rfl hp rfl,
    fun s hp => read_latches rfl hp rfl, fun s hp => read_latches rfl hp rfl, fun s i hi hp => ?_⟩
  · refine (congrArg Host.Outcome.next (if_pos hk)).trans ?_
    exact read_latches (readReg_slot s hk) hp (readEffect_slot _ hk)
  · refine (congrArg Host.Outcome.next (if_pos hi)).trans ?_
    exact read_latches (readReg_window s hi) hp (readEffect_window _ hi)

end Sys2Proof.Proofs
end

section
/-! SUPPORT. Link timing: messages and beacons sent and received, the upstream, and the loss of a phase tracker's lock. -/

namespace Sys2Proof.Proofs

open Sys2Proof Sys2Proof.Machine

/-! ## Ports and links -/

theorem portOfLink_linkOf {p l : Nat} (h : linkOf p = some l) : portOfLink l = p := by
  unfold linkOf at h
  unfold portOfLink
  split at h
  · cases h; rw [if_neg (by omega)]
  · split at h
    next hp => cases h; exact hp.symm
    · cases h

theorem linkOf_le {p l : Nat} (h : linkOf p = some l) : l ≤ 4 := by
  unfold linkOf at h
  split at h
  · cases h; omega
  · split at h
    · cases h; exact Nat.le_refl 4
    · cases h

/-! ## Sending (R40, R53, R56) -/

/-- All that one LTM changes as it leaves: its number and instant, the port's counters and what leaves. -/
theorem ltmNow_form (p l : Nat) (i : Bool) (u : State) : ltmNow p l i u = { u with
    tms := { u.tms with
      links := tset {} u.tms.links l { linkTime u l with txSeq := (linkTime u l).txSeq + 1, ltmAt := some u.mono } }
    ports := (countSent u p 82).ports
    wire := u.wire ++ (if (tget ({} : LinkRec) u.ports.links p).lpiNow then [.lpiWake p] else [])
      ++ [if i then .ltm p (ltmOf u l ((linkTime u l).txSeq + 1)) else .spoiled p] } := by
  have hports : (putLinkTime u l { linkTime u l with txSeq := (linkTime u l).txSeq + 1, ltmAt := some u.mono }).ports
    = u.ports := rfl
  unfold ltmNow
  dsimp only
  rw [hports]
  cases (tget ({} : LinkRec) u.ports.links p).lpiNow with
  | true => rfl
  | false => simp only [Bool.false_eq_true, if_false, List.append_nil]; rfl

/-- All that one beacon changes as it leaves. -/
theorem beaconNow_form (sg : Nat) (i : Bool) (u : State) : beaconNow sg i u = { u with
    tms := { u.tms with
      beaconSeq := tset 0 u.tms.beaconSeq sg (tget 0 u.tms.beaconSeq sg + 1)
      beaconAt := tset none u.tms.beaconAt sg (some u.mono) }
    ports := (countSent u (16 + sg) 64).ports
    wire := u.wire ++ [if i then .beacon (16 + sg) (u.tms.trtState == .locked) (u.tms.trtState == .holdover)
        (tget 0 u.tms.beaconSeq sg + 1) (txTrt u (16 + sg) / nsRaw / 1000000000) (txTrt u (16 + sg) / nsRaw % 1000000000)
        (fracOf (txTrt u (16 + sg))) u.tms.trtEpoch else .spoiled (16 + sg)] } := rfl

/-- The counters of a frame sent depend on the ports alone. -/
theorem countSent_ports_congr {u s : State} (h : u.ports = s.ports) (p n : Nat) :
    (countSent u p n).ports = (countSent s p n).ports := by
  simp [countSent, countPort, h]

/-- What a link timing message says of the node that sends it (Table 2-4). -/
theorem ltmOf_says (u : State) {p l : Nat} (hl : linkOf p = some l) (q : BitVec 16) :
    (ltmOf u l q).tSec * 1000000000 + (ltmOf u l q).tNs = txTrt u p / nsRaw ∧ (ltmOf u l q).tNs < 1000000000 := by
  have hport := portOfLink_linkOf hl
  have ht : (ltmOf u l q).tSec = txTrt u (portOfLink l) / nsRaw / 1000000000
    ∧ (ltmOf u l q).tNs = txTrt u (portOfLink l) / nsRaw % 1000000000 := ⟨rfl, rfl⟩
  rw [ht.1, ht.2, hport]
  omega

/-- An LTM leaves at the next nominal instant of its link. -/
theorem ltmSend_sends {s : State} {p l : Nat} (i : Bool) (hl : linkOf p = some l) (hup : linkIsUp s p = true)
    (hv : s.tms.tsValid = true) :
    ltmSendEffect p i s = ltmNow p l i (untilMono s (nextBeat (linkTime s l).ltmAt 125000 s.mono)) := by
  simp [ltmSendEffect, hl, hup, hv]

theorem beaconSend_sends {s : State} {sg : Nat} (i : Bool) (hsg : sg < 64) (hv : s.tms.tsValid = true)
    (hen : (tget ({} : PortCfg) s.ports.cfg (16 + sg)).enabled = true)
    (hst : (tget ({} : Segment) s.ports.segs sg).state = .normal) (hb : segBursts s sg = false) :
    beaconSend sg i s = beaconNow sg i (untilMono s (nextBeat (tget none s.tms.beaconAt sg) 10000000 s.mono)) := by
  have hlt : ¬ 64 ≤ sg := Nat.not_le.2 hsg
  simp [beaconSend, hlt, hv, hen, hst, hb]

/-! ## The upstream (R43) -/

/-- All that the choice of an upstream changes. -/
theorem selectUpstream_form (s : State) : ∃ up hops offs alarm host, selectUpstream s
    = { s with
        tms := { s.tms with upstream := up, hops := hops, offsets := offs, alarm := alarm }
        host := host } := by
  unfold selectUpstream
  split
  · exact ⟨_, _, _, _, _, rfl⟩
  · split
    · obtain ⟨h, e⟩ := setAlarmIf_tms_form _ _ 3
      exact ⟨_, _, _, _, _, e⟩
    · exact ⟨_, _, _, _, _, rfl⟩

theorem selectUpstream_leader {s : State} (h : s.tms.trtState = .leader) : selectUpstream s = s := if_pos (.inl h)

/-- The upstream chosen is a link that may be one. -/
theorem upstreamOk_of_best {s : State} {k : Nat} (h : bestUpstream s = some k) : upstreamOk s k = true := by
  have hfold : ∀ (l : List Nat) (o : Option Nat), (∀ j ∈ l, upstreamOk s j = true) → (∀ j, o = some j → upstreamOk s j = true) →
      ∀ k, l.foldl (fun o l => match o with
        | none => some l
        | some k => if upstreamRank s l < upstreamRank s k then some l else some k) o = some k → upstreamOk s k = true := by
    intro l
    induction l with
    | nil => exact fun o _ ho k hk => ho k hk
    | cons a r ih =>
      intro o hl ho
      refine ih _ (fun j hj => hl j (List.mem_cons_of_mem a hj)) fun j hj => ?_
      have ha := hl a List.mem_cons_self
      cases o with
      | none => cases hj; exact ha
      | some b =>
        dsimp only at hj
        split at hj
        · cases hj; exact ha
        · cases hj; exact ho _ rfl
  exact hfold _ none (fun j hj => (List.mem_filter.1 hj).2) (fun j hj => by cases hj) k h

theorem upstreamOk_unqualified {s : State} {l : Nat} (h : (linkTime s l).qualified = false) : upstreamOk s l = false := by
  unfold linkTime at h
  unfold upstreamOk
  dsimp only
  rw [h, Bool.and_false, Bool.false_and]

/-- A change of upstream sets upstream_change. -/
theorem selectUpstream_changes {s : State} {k : Nat} (hl : s.tms.trtState ≠ .leader) (hn : s.tms.trtState ≠ .none)
    (hk : bestUpstream s = some k) (hne : k ≠ s.tms.upstream) :
    (selectUpstream s).tms.upstream = k ∧ (selectUpstream s).tms.alarm = setBit s.tms.alarm 3 true := by
  unfold selectUpstream
  rw [if_neg (by simp [hl, hn]), hk]
  simp [hne, setAlarmIf]

/-! ## Receiving (R40 to R46) -/

/-- A receive stamp depends on the time bases, the lanes' latencies and the model time alone. -/
theorem rxCorrection_congr {s t : State} (ht : t.tms = s.tms) (ha : t.agm = s.agm) (hm : t.mono = s.mono) (p : Nat) :
    rxCorrection t p = rxCorrection s p := by
  simp only [rxCorrection, laneLatency, ht, ha, hm]

theorem rxTrt_countGot (s : State) (q n p : Nat) : rxTrt (countGot s q n) p = rxTrt s p := by
  unfold rxTrt
  rw [rxCorrection_congr (s := s) (by simp) (by simp) (by simp)]
  simp

/-- What is kept of a received LTM in its link's record. -/
def heardLink (s : State) (l : Nat) (m : Ltm) (r : Int) : LinkTime :=
  let t4 := rxTrt s (portOfLink l)
  { linkTime s l with
    ratio := r
    echo := some (m.seq, word (linNs m.tSec m.tNs), m.tFrac, stamp32 t4, fracOf t4)
    peer := some { leaderId := m.leaderId, senderId := m.senderId, epoch := m.domainEpoch, hops := m.hops
                   isLeader := m.isLeader, inHoldover := m.inHoldover, valid := m.trtValid, drift := m.drift, at_ := s.mono }
    samples := if echoValid (linkTime s l) m then
        (delaySample s l { linkTime s l with ratio := r } m :: (linkTime s l).samples).take 16
      else (linkTime s l).samples }

/-- All that is kept of a received LTM stands in its link's record. -/
theorem ltmStore_form (s : State) (l : Nat) (m : Ltm) (r : Int) :
    ltmStore s l m r = putLinkTime s l (heardLink s l m r) := rfl

/-- The record of a link whose port is `p`: its echo, what its sender says, the tracker's reading, and one more delay sample where
the LTM carries a valid echo. -/
theorem heardLink_record (s : State) {p l : Nat} (m : Ltm) (r : Int) (hl : linkOf p = some l) :
    (heardLink s l m r).echo
        = some (m.seq, word (linNs m.tSec m.tNs), m.tFrac, stamp32 (rxTrt s p), fracOf (rxTrt s p))
      ∧ (heardLink s l m r).txSeq = (linkTime s l).txSeq ∧ (heardLink s l m r).qualified = (linkTime s l).qualified
      ∧ (heardLink s l m r).ratio = r ∧ ((heardLink s l m r).peer.map fun q => q.leaderId) = some m.leaderId
      ∧ (echoValid (linkTime s l) m = false → (heardLink s l m r).samples = (linkTime s l).samples)
      ∧ (echoValid (linkTime s l) m = true → (heardLink s l m r).samples
          = (delaySample s l { linkTime s l with ratio := r } m :: (linkTime s l).samples).take 16) := by
  unfold heardLink
  rw [portOfLink_linkOf hl]
  exact ⟨rfl, rfl, rfl, rfl, rfl, fun h => if_neg (by simp [h]), fun h => if_pos h⟩

/-- The record depends on no counter of a port. -/
theorem heardLink_countGot (s : State) (p n l : Nat) (m : Ltm) (r : Int) :
    heardLink (countGot s p n) l m r = heardLink s l m r := by
  have hlink : linkTime (countGot s p n) l = linkTime s l := by simp [linkTime]
  have hdelay : ∀ x, delaySample (countGot s p n) l x m = delaySample s l x m := fun x => by
    unfold delaySample
    simp only [rxTrt_countGot, countGot_frame]
  unfold heardLink
  rw [rxTrt_countGot, hlink, hdelay]
  simp

/-- A TRT leader that CSS or its domain keeps takes no leader from an LTM. -/
theorem ltmAdopt_keeps {v : State} {l : Nat} {m : Ltm} (hs : v.tms.trtState = .leader)
    (hkeep : v.css.state = .coldstart ∨ v.css.state = .leader ∨ m.domainEpoch ≠ v.tms.domainEpoch) :
    ltmAdopt v l m = v := by
  have hkeep' : (v.css.state == .coldstart || v.css.state == .leader || m.domainEpoch != v.tms.domainEpoch) = true := by
    simpa [or_assoc] using hkeep
  simp only [ltmAdopt, hs, hkeep', beq_self_eq_true, if_true, ite_self]

/-- Any other TRT leader follows the leader that its domain names. -/
theorem ltmAdopt_yields {v : State} {l : Nat} {m : Ltm} (hs : v.tms.trtState = .leader) (hc : v.css.state ≠ .coldstart)
    (hl : v.css.state ≠ .leader) (he : m.domainEpoch = v.tms.domainEpoch) (hz : m.leaderId ≠ 0)
    (ho : m.leaderId ≠ v.otp.unitId) : ltmAdopt v l m = unleadTime v m.leaderId := by
  have hz' : m.leaderId ≠ 0#64 := hz
  simp [ltmAdopt, hs, hc, hl, he, hz', ho]

theorem ltmLed_other {v : State} {l : Nat} {m : Ltm} (h : m.leaderId ≠ v.tms.leaderId) : ltmLed v l m = v := by
  simp [ltmLed, h]

/-- What the choice of an upstream and the note of the leader's LTM leave as it was: the node's state and leader, TRT, its DRIFT,
which trackers are qualified, and CSS. -/
def followView (s : State) : TrtState × UnitId × Nat × Int × (Nat → Bool) × Css :=
  (s.tms.trtState, s.tms.leaderId, s.tms.trt, s.tms.trtDrift, fun l => (linkTime s l).qualified, s.css)

theorem followView_selectUpstream (s : State) : followView (selectUpstream s) = followView s := by
  obtain ⟨_, _, _, _, _, e⟩ := selectUpstream_form s
  rw [e]
  rfl

theorem followView_putLinkTime (s : State) (l : Nat) {x : LinkTime} (hq : x.qualified = (linkTime s l).qualified) :
    followView (putLinkTime s l x) = followView s := by
  have hqual : ∀ j, (linkTime (putLinkTime s l x) j).qualified = (linkTime s j).qualified := fun j => by
    by_cases hj : j = l
    · rw [hj, linkTime_putLinkTime_self, hq]
    · rw [linkTime_putLinkTime_other _ _ hj]
  simp only [followView, hqual]
  rfl

theorem followView_ltmLed (s : State) (l : Nat) (m : Ltm) : followView (ltmLed s l m) = followView s := by
  unfold ltmLed
  split
  · exact followView_putLinkTime s l rfl
  · rfl

/-- A TRT leader that follows `id`: it acquires it, with TRT and its DRIFT as they are. -/
theorem followView_unleadTime {s : State} (id : UnitId) (h : s.tms.trtState = .leader) : followView (unleadTime s id)
    = (.acquiring, id, s.tms.trt, s.tms.trtDrift, (fun l => (linkTime s l).qualified), s.css) := by
  unfold unleadTime
  rw [if_pos h, followView_selectUpstream]
  unfold followLeader
  split
  next hid => rw [← hid]; rfl
  · rfl

/-- The state once a received LTM is kept. -/
def ltmKept (s : State) (p l : Nat) (m : Ltm) (r : Int) : State := putLinkTime (countGot s p 82) l (heardLink s l m r)

theorem followView_ltmKept (s : State) (p l : Nat) (m : Ltm) (r : Int) : followView (ltmKept s p l m r) = followView s := by
  refine (followView_putLinkTime (countGot s p 82) l ?_).trans ?_
  · simp [heardLink, linkTime]
  · simp [followView, linkTime]

section receive

variable {s : State} {p l : Nat} {m : Ltm} (r : Int) (hl : linkOf p = some l) (hup : linkIsUp s p = true)
  (hv : s.tms.tsValid = true)

include hl hup hv

/-- An LTM of another version is discarded and counted. -/
theorem ltmReceive_otherVersion (hver : m.version ≠ 1) : ltmReceiveEffect p m r s
    = putLinkTime (countGot s p 82) l
        { linkTime s l with versionDiscards := (linkTime s l).versionDiscards + 1 } := by
  simp [ltmReceiveEffect, hl, hup, hv, hver]

/-- Where its link does not become the upstream, an LTM is kept, and bears on the leader and the upstream alone. -/
theorem ltmReceive_noOffset (hver : m.version = 1) {u : State}
    (hu : selectUpstream (ltmLed (ltmAdopt (ltmKept s p l m r) l m) l m) = u)
    (hno : u.tms.trtState = .leader ∨ upstreamOk u l = false) : ltmReceiveEffect p m r s = u := by
  have hstored : ltmStore (countGot s p 82) l m r = ltmKept s p l m r := by
    rw [ltmStore_form, heardLink_countGot]; rfl
  have hskip : (u.tms.trtState == .leader || u.tms.upstream != l || !upstreamOk u l) = true := by
    rcases hno with h | h <;> simp [h]
  simp only [ltmReceiveEffect, hl, hup, hv, hver, hstored, hu, hskip, if_true]
  rfl

/-- On a TRT leader that keeps the lead, an LTM is kept and nothing more. -/
theorem ltmReceive_leader (hver : m.version = 1) (hs : s.tms.trtState = .leader) (hid : m.leaderId ≠ s.tms.leaderId)
    (hkeep : s.css.state = .coldstart ∨ s.css.state = .leader ∨ m.domainEpoch ≠ s.tms.domainEpoch) :
    ltmReceiveEffect p m r s = ltmKept s p l m r := by
  have htms : ∀ x, (putLinkTime (countGot s p 82) l x).tms.trtState = s.tms.trtState
      ∧ (putLinkTime (countGot s p 82) l x).tms.leaderId = s.tms.leaderId
      ∧ (putLinkTime (countGot s p 82) l x).tms.domainEpoch = s.tms.domainEpoch
      ∧ (putLinkTime (countGot s p 82) l x).css = s.css := fun x => by simp [putLinkTime]
  obtain ⟨hstate, hleader, hepoch, hcss⟩ := htms (heardLink s l m r)
  have hadopt : ltmAdopt (ltmKept s p l m r) l m = ltmKept s p l m r :=
    ltmAdopt_keeps (hstate.trans hs) (by unfold ltmKept; rw [hcss, hepoch]; exact hkeep)
  refine ltmReceive_noOffset r hl hup hv hver ?_ (.inl (hstate.trans hs))
  rw [hadopt, ltmLed_other (by unfold ltmKept; rw [hleader]; exact hid)]
  exact selectUpstream_leader (hstate.trans hs)

/-- A TRT leader whose CSS leads no more follows the leader of its domain. -/
theorem ltmReceive_yields (hver : m.version = 1) (hs : s.tms.trtState = .leader) (hc : s.css.state ≠ .coldstart)
    (hn : s.css.state ≠ .leader) (he : m.domainEpoch = s.tms.domainEpoch) (hz : m.leaderId ≠ 0)
    (ho : m.leaderId ≠ s.otp.unitId) (hq : (linkTime s l).qualified = false) :
    followView (ltmReceiveEffect p m r s)
      = (.acquiring, m.leaderId, s.tms.trt, s.tms.trtDrift, (fun l => (linkTime s l).qualified), s.css) := by
  have hkept := followView_ltmKept s p l m r
  have hadopt : ltmAdopt (ltmKept s p l m r) l m = unleadTime (ltmKept s p l m r) m.leaderId := by
    refine ltmAdopt_yields ?_ ?_ ?_ ?_ hz ?_ <;> simpa [ltmKept, putLinkTime]
  have hview : followView (selectUpstream (ltmLed (ltmAdopt (ltmKept s p l m r) l m) l m))
      = (.acquiring, m.leaderId, s.tms.trt, s.tms.trtDrift, (fun l => (linkTime s l).qualified), s.css) := by
    simp only [followView, Prod.mk.injEq] at hkept
    obtain ⟨hstate, -, htrt, hdrift, hqual, hcss⟩ := hkept
    rw [followView_selectUpstream, followView_ltmLed, hadopt, followView_unleadTime _ (hstate.trans hs), htrt, hdrift, hqual,
      hcss]
  have hnot : (linkTime (selectUpstream (ltmLed (ltmAdopt (ltmKept s p l m r) l m) l m)) l).qualified = false := by
    have hview' := hview
    simp only [followView, Prod.mk.injEq] at hview'
    obtain ⟨-, -, -, -, hqual, -⟩ := hview'
    exact (congrFun hqual l).trans hq
  rw [ltmReceive_noOffset r hl hup hv hver rfl (.inr (upstreamOk_unqualified hnot)), hview]

end receive

/-! ## Loss and return of a phase tracker's lock (R42) -/

/-- The link of a tracker that has lost lock is not qualified, with phase_track_loss set. -/
def trackLost (s : State) (l : Nat) : State :=
  setAlarm (putLinkTime s l { linkTime s l with trackSince := none, qualified := false }) .tms 10

theorem trackLoss_other {s : State} {l : Nat} (h : s.tms.upstream ≠ l) : trackLoss s l = trackLost s l := by
  have hup : (trackLost s l).tms.upstream ≠ l := by simpa [trackLost, putLinkTime] using h
  exact if_neg hup

/-- A follower whose upstream's tracker loses lock has another upstream or none. -/
theorem trackLoss_upstream {s : State} {l : Nat} (hle : l ≤ 4) (h : s.tms.upstream = l) (hl : s.tms.trtState ≠ .leader)
    (hn : s.tms.trtState ≠ .none) :
    (trackLoss s l).tms.upstream ≠ l ∧ (linkTime (trackLoss s l) l).qualified = false
      ∧ bitAt (trackLoss s l).tms.alarm 10 = true ∧ bitAt (trackLoss s l).tms.alarm 3 = true
      ∧ (trackLoss s l).tms.trt = s.tms.trt ∧ (trackLoss s l).tms.trtDrift = s.tms.trtDrift := by
  have hup : (trackLost s l).tms.upstream = l := by simpa [trackLost, putLinkTime] using h
  have hstate : (trackLost s l).tms.trtState = s.tms.trtState := by simp [trackLost, putLinkTime]
  have hqual : (linkTime (trackLost s l) l).qualified = false := by simp [trackLost, linkTime, putLinkTime]
  have htrt : (trackLost s l).tms.trt = s.tms.trt ∧ (trackLost s l).tms.trtDrift = s.tms.trtDrift := by
    simp [trackLost, putLinkTime]
  have halarm : bitAt (trackLost s l).tms.alarm 10 = true := by simp [trackLost]
  have hboth : bitAt (setBit (trackLost s l).tms.alarm 3 true) 10 = true
      ∧ bitAt (setBit (trackLost s l).tms.alarm 3 true) 3 = true :=
    ⟨(bitAt_setBit_other _ _ (by decide)).trans halarm, bitAt_setBit_self _ 3 (by decide)⟩
  have hloss : trackLoss s l = match bestUpstream (trackLost s l) with
      | some _ => selectUpstream (trackLost s l)
      | none => setAlarm { trackLost s l with tms := { (trackLost s l).tms with upstream := 15 } } .tms 3 := if_pos hup
  rw [hloss]
  cases hb : bestUpstream (trackLost s l) with
  | some k =>
    have hk : k ≠ l := fun hk => by
      have hok := upstreamOk_of_best hb
      rw [hk, upstreamOk_unqualified hqual] at hok
      cases hok
    have hview := followView_selectUpstream (trackLost s l)
    obtain ⟨hnew, hbits⟩ := selectUpstream_changes (hstate ▸ hl) (hstate ▸ hn) hb (by rw [hup]; exact hk)
    simp only [followView, Prod.mk.injEq] at hview
    obtain ⟨-, -, htrt', hdrift', hqual', -⟩ := hview
    dsimp only
    rw [hnew, hbits]
    exact ⟨hk, (congrFun hqual' l).trans hqual, hboth.1, hboth.2, htrt'.trans htrt.1, hdrift'.trans htrt.2⟩
  | none =>
    dsimp only
    refine ⟨by simp; omega, ?_, by simpa using hboth.1, by simp, by simpa using htrt.1, by simpa using htrt.2⟩
    simpa [linkTime] using hqual

/-- A tracker that holds lock for 10 ms makes its link usable. -/
theorem requalify_qualifies {s : State} {p l : Nat} (hl : linkOf p = some l) (hup : linkIsUp s p = true)
    (hq : (linkTime s l).qualified = false) : (linkTime (requalify p s) l).qualified = true
      ∧ (requalify p s).mono = max s.mono ((linkTime s l).trackSince.getD s.mono + 10000000) := by
  have hcond : (!linkIsUp s p || (linkTime s l).qualified) = false := by simp [hup, hq]
  simp only [requalify, hl, hcond, Bool.false_eq_true, if_false]
  generalize hu : putLinkTime (untilMono s ((linkTime s l).trackSince.getD s.mono + 10000000)) l _ = u
  obtain ⟨up, hops, offs, alarm, host, e⟩ := selectUpstream_form u
  rw [e, ← hu]
  exact ⟨by simp [linkTime, putLinkTime], untilMono_mono s _⟩

/-- Settles O15: what is sent by the record of what leaves (`ltmNow_form`, `beaconNow_form`), what is received by what the node's
lead makes of it (`ltmReceive_leader`, `ltmReceive_yields`), a tracker's loss by `trackLoss_upstream`. -/
theorem linkTimingFramesAreSentAndKept : Obligations.LinkTimingFramesAreSentAndKept := by
  unfold Obligations.LinkTimingFramesAreSentAndKept
  refine ⟨fun s p l i hl hup hv => ?_, fun s sg i hsg hv hen hst hb => ?_, fun s p l m r hl hup hv hver => ?_,
    fun s p l m r hl hup hv hver hs hid hkeep => ?_, fun s p l m r hl hup hv hver hs hc hn he hz ho hq => ?_,
    fun s p l hl h => ?_, fun s p l hl h hn hnone => ?_, fun s p l hl hup hq => ?_⟩
  -- sending
  · intro u
    have hsent : exec (.ltmSend ⟨p, i⟩) s = .next (ltmNow p l i u) := congrArg Host.Outcome.next (ltmSend_sends i hl hup hv)
    have hmono : u.mono = max s.mono (nextBeat (linkTime s l).ltmAt 125000 s.mono) := untilMono_mono s _
    obtain ⟨hsec, hns⟩ := ltmOf_says u hl ((linkTime s l).txSeq + 1)
    obtain ⟨m, f, a, b, hu⟩ := untilMono_form s (nextBeat (linkTime s l).ltmAt 125000 s.mono)
    change u = _ at hu
    have hlink : linkTime u l = linkTime s l := by rw [hu]; rfl
    have hports : (countSent u p 82).ports = (countSent s p 82).ports := countSent_ports_congr (by rw [hu]) p 82
    rw [ltmNow_form, hlink, hports] at hsent
    refine ⟨ltmOf u l ((linkTime s l).txSeq + 1), _, hsent, ?_, ?_, rfl, ?_, hmono, rfl, rfl, ?_, ?_, ?_, ?_, ?_, hsec, hns, ?_, ?_⟩
    all_goals clear_value u; subst hu; rfl
  · intro u
    have hsent : exec (.segmentBeaconSend ⟨sg, i⟩) s = .next (beaconNow sg i u) :=
      congrArg Host.Outcome.next (beaconSend_sends i hsg hv hen hst hb)
    obtain ⟨m, f, a, b, hu⟩ := untilMono_form s (nextBeat (tget none s.tms.beaconAt sg) 10000000 s.mono)
    change u = _ at hu
    have hports : (countSent u (16 + sg) 64).ports = (countSent s (16 + sg) 64).ports :=
      countSent_ports_congr (by rw [hu]) (16 + sg) 64
    rw [beaconNow_form, hports] at hsent
    refine ⟨_, hsent, ?_, ?_, rfl, ?_⟩
    all_goals clear_value u; subst hu; rfl
  -- receiving
  · refine congrArg Host.Outcome.next ((ltmReceive_otherVersion r hl hup hv hver).trans ?_)
    simp [putLinkTime]
  · refine ⟨heardLink s l m r, congrArg Host.Outcome.next ((ltmReceive_leader r hl hup hv hver hs hid hkeep).trans ?_), ?_⟩
    · simp [ltmKept, putLinkTime]
    · exact heardLink_record s m r hl
  · have hview := ltmReceive_yields r hl hup hv hver hs hc hn he hz ho hq
    simp only [followView, Prod.mk.injEq] at hview
    obtain ⟨hstate, hleader, htrt, hdrift, -, hcss⟩ := hview
    exact ⟨_, rfl, hstate, hleader, htrt, hdrift, hcss⟩
  -- trackers
  · refine congrArg Host.Outcome.next ?_
    rw [hl]
    exact trackLoss_other h
  · refine ⟨trackLoss s l, congrArg Host.Outcome.next (by rw [hl]), ?_⟩
    exact trackLoss_upstream (linkOf_le hl) h hn hnone
  · exact ⟨_, rfl, requalify_qualifies hl hup hq⟩

end Sys2Proof.Proofs
end

section
/-! SUPPORT. Wayside time: steps of WYT, the choice of the domain, and what leaves a port or waits for it. -/

namespace Sys2Proof.Proofs

open Sys2Proof Sys2Proof.Machine

/-! ## Tables of which every entry is mapped -/

section tmap

variable {α : Type} [DecidableEq α] (d : α) (f : Nat → α → α)

theorem tget_tmap_tdel (t : Table α) (k : Nat) : tget d (tmap d (tdel t k) f) k = d := by
  induction t with
  | nil => rfl
  | cons e r ih =>
    obtain ⟨j, a⟩ := e
    by_cases hj : j = k
    · simpa [tdel, hj] using ih
    · by_cases hv : f j a = d
      · simpa [tdel, hj, tmap, hv] using ih
      · simpa [tdel, hj, tmap, hv, tget] using ih

theorem tget_tmap_tins (t : Table α) (k : Nat) {v : α} (hv : f k v ≠ d) : tget d (tmap d (tins t k v) f) k = f k v := by
  induction t with
  | nil => simp [tins, tmap, hv, tget]
  | cons e r ih =>
    obtain ⟨j, a⟩ := e
    simp only [tins]
    split
    · simp [tmap, hv, tget]
    · split
      · simp [tmap, hv, tget]
      next hj =>
        by_cases ha : f j a = d
        · simpa [tmap, ha] using ih
        · simpa [tmap, ha, tget, Ne.symm hj] using ih

/-- An entry that was written reads as mapped, where the map takes the default, and that alone, to the default. -/
theorem tget_tmap_tset (t : Table α) {k : Nat} {v : α} (hd : f k d = d) (hv : f k v = d → v = d) :
    tget d (tmap d (tset d t k v) f) k = f k v := by
  unfold tset
  split
  next h => rw [tget_tmap_tdel, h, hd]
  next h => exact tget_tmap_tins d f t k fun hf => h (hv hf)

end tmap

/-! ## What a step of a timescale does to the TAUs -/

/-- What the abort of a TAU leaves as it was: the TMS, the model time and the fuses. -/
def timeView (s : State) : Tms × Nat × Otp := (s.tms, s.mono, s.otp)

theorem timeView_tauEvent (s : State) (k o r f at_ : Nat) : timeView (tauEvent s k o r f at_) = timeView s := by
  unfold tauEvent
  dsimp only
  split
  · rfl
  · split
    · rfl
    · simp [timeView]

theorem timeView_harvestAbort (s : State) (b r : Nat) : timeView (harvestAbort s b r) = timeView s := by
  unfold harvestAbort
  dsimp only
  split
  · rfl
  · simp [timeView]

theorem timeView_surveySeal (s : State) (k : Nat) : timeView (surveySeal s k) = timeView s := by
  unfold surveySeal
  split <;> rfl

theorem timeView_tauFinish (s : State) (k r at_ : Nat) (f c : Bool) : timeView (tauFinish s k f r c at_) = timeView s := by
  unfold tauFinish
  dsimp only
  split
  · rw [apply_ite timeView, timeView_surveySeal, ite_self]
    rfl
  · rfl

theorem timeView_tauAbort (s : State) (k r : Nat) : timeView (tauAbort s k r) = timeView s := by
  unfold tauAbort
  dsimp only
  rw [timeView_tauFinish, timeView_tauEvent]
  split
  · exact timeView_harvestAbort _ _ _
  · rfl

theorem timeView_tauNext (s : State) (k : Nat) : timeView (tauNext s k) = timeView s := by
  unfold tauNext
  dsimp only
  split <;> rfl

theorem timeView_tauSkip (n : Nat) (s : State) (k new16 : Nat) : timeView (tauSkip n s k new16) = timeView s := by
  induction n generalizing s with
  | zero => rfl
  | succ n ih =>
    unfold tauSkip
    dsimp only
    split
    · rw [ih, timeView_tauNext]
      exact timeView_tauEvent s k 2 3 0 _
    · rfl

theorem timeView_tauStep (s : State) (w : Bool) (old16 new16 k : Nat) : timeView (tauStep s w old16 new16 k) = timeView s := by
  unfold tauStep
  dsimp only
  split
  · rfl
  · split
    · exact timeView_tauAbort s k 4
    · split
      · split
        · exact timeView_tauSkip _ s k new16
        · exact timeView_tauAbort s k 3
      · rfl

theorem timeView_tausStep (s : State) (w : Bool) (old16 new16 : Nat) : timeView (tausStep s w old16 new16) = timeView s :=
  foldl_keeps timeView _ (fun s k => timeView_tauStep s w old16 new16 k) _ s

/-! ## Steps of WYT (R38) and the selected domain (R50) -/

/-- A domain measured against WYT moved by `m`. -/
def remeasured (m : Int) (x : GptpDomain) : GptpDomain := if x.synced then { x with offset := x.offset + m } else x

theorem remeasured_default (m : Int) : remeasured m {} = {} := rfl

theorem eq_default_of_remeasured {m : Int} {x : GptpDomain} (h : remeasured m x = {}) : x = {} := by
  unfold remeasured at h
  split at h
  next hs =>
    have hf : x.synced = false := congrArg GptpDomain.synced h
    rw [hs] at hf
    cases hf
  · exact h

/-- All of the TMS that a step of WYT changes. -/
theorem wytStep_view (s : State) (new : Nat) : ∃ m pd, timeView (wytStep s new)
    = ({ s.tms with
          wyt := new % timeSpan, domains := tmap {} s.tms.domains fun _ x => remeasured m x, peerDelay := pd
          alarm := setBit s.tms.alarm 6 true }, s.mono, s.otp) := by
  unfold wytStep
  dsimp only
  rw [timeView_tausStep, setAlarm_tms_form]
  exact ⟨_, _, rfl⟩

/-- The domains as they stand, or each measured anew. -/
def keptOrRemeasured (t u : Table GptpDomain) : Prop := u = t ∨ ∃ m, u = tmap {} t fun _ x => remeasured m x

/-- A domain that was written keeps all but its offset. -/
theorem tget_keptOrRemeasured {t u : Table GptpDomain} {d : Nat} {x : GptpDomain} (h : keptOrRemeasured (tset {} t d x) u) :
    ∃ o, tget {} u d = { x with offset := o } := by
  rcases h with rfl | ⟨m, rfl⟩
  · exact ⟨x.offset, tget_tset_self _ _ _ _⟩
  · rw [tget_tmap_tset {} (fun _ x => remeasured m x) t (remeasured_default m) eq_default_of_remeasured]
    unfold remeasured
    split
    · exact ⟨_, rfl⟩
    · exact ⟨x.offset, rfl⟩

/-- WYT joins a domain: stepped or not, nothing but WYT, what is measured against it and the alarms changes. -/
theorem wytJoin_view (s : State) (o : Int) : ∃ wyt domains pd alarm, timeView (wytJoin s o)
    = ({ s.tms with wyt := wyt, domains := domains, peerDelay := pd, alarm := alarm }, s.mono, s.otp)
    ∧ keptOrRemeasured s.tms.domains domains ∧ (bitAt s.tms.alarm 4 = true → bitAt alarm 4 = true) := by
  unfold wytJoin
  split
  · obtain ⟨m, pd, h⟩ := wytStep_view s _
    exact ⟨_, _, _, _, h, .inr ⟨m, rfl⟩, fun hbit => (bitAt_setBit_other _ _ (by decide)).trans hbit⟩
  · exact ⟨_, _, _, _, rfl, .inl rfl, id⟩

/-- WYT's state with another domain selected. -/
def stateSelected (st : WytState) : WytState := if st = .holdover then .locked else st

/-- Domain `d` selected, before WYT joins it. -/
def selecting (s : State) (d : Nat) : State :=
  { s with tms := { s.tms with wytDom := d, wytState := stateSelected s.tms.wytState, wytHoldSince := none } }

/-- All of the TMS that the selection of a domain changes. -/
theorem wytSelect_view (s : State) (d : Nat) : ∃ wyt domains pd alarm, timeView (wytSelect s d)
    = ({ (selecting s d).tms with wyt := wyt, domains := domains, peerDelay := pd, alarm := alarm }, s.mono, s.otp)
    ∧ keptOrRemeasured s.tms.domains domains ∧ bitAt alarm 4 = true := by
  have hset := setAlarm_tms_form (selecting s d) 4
  obtain ⟨wyt, domains, pd, alarm, hview, hdom, hbit⟩ :=
    wytJoin_view (setAlarm (selecting s d) .tms 4) (domainOf (setAlarm (selecting s d) .tms 4) d).offset
  refine ⟨wyt, domains, pd, alarm, Eq.trans hview ?_, ?_, hbit (by simp)⟩
  · rw [hset]; rfl
  · rwa [hset] at hdom

/-- What the selection of a domain comes to. -/
theorem wytSelect_effect (s : State) (d : Nat) :
    (wytSelect s d).tms.wytDom = d ∧ (wytSelect s d).tms.wytState = stateSelected s.tms.wytState
      ∧ bitAt (wytSelect s d).tms.alarm 4 = true ∧ (wytSelect s d).tms.trt = s.tms.trt ∧ (wytSelect s d).mono = s.mono
      ∧ (wytSelect s d).otp = s.otp := by
  obtain ⟨wyt, domains, pd, alarm, hview, -, hbit⟩ := wytSelect_view s d
  simp only [timeView, Prod.mk.injEq] at hview
  obtain ⟨htms, hmono, hotp⟩ := hview
  rw [htms]
  exact ⟨rfl, rfl, hbit, rfl, hmono, hotp⟩

/-- The selection leaves all but the offset of a domain that was written. -/
theorem domainOf_wytSelect (s : State) (d k : Nat) (x : GptpDomain) :
    ∃ o, domainOf (wytSelect (putDomain s k x) d) k = { x with offset := o } := by
  obtain ⟨wyt, domains, pd, alarm, hview, hdom, -⟩ := wytSelect_view (putDomain s k x) d
  have htms := congrArg (fun v => v.1.domains) hview
  change (wytSelect (putDomain s k x) d).tms.domains = domains at htms
  unfold domainOf
  rw [htms]
  exact tget_keptOrRemeasured hdom

/-! ## Best master selection runs anew (R49, Table 2-6) -/

/-- Domain `d` under the grandmaster that is named now. -/
def withGrandmaster (s : State) (d : Nat) : GptpDomain :=
  { domainOf s d with grandmaster := gmOf s d, gmNew := (domainOf s d).synced }

theorem reselect_same {s : State} {d : Nat} (h : gmOf s d = (domainOf s d).grandmaster) : reselect s d = s := if_pos h

theorem one_sub_ne_self (d : Nat) : 1 - d ≠ d := by omega

theorem reselect_changed {s : State} {d : Nat} (h : gmOf s d ≠ (domainOf s d).grandmaster) : reselect s d
    = if (domainOf s d).synced ∧ d = s.tms.wytDom ∧ (domainOf s (1 - d)).synced then
        wytSelect (putDomain s d (withGrandmaster s d)) (1 - d)
      else putDomain s d (withGrandmaster s d) := by
  rw [← domainOf_putDomain_other s (withGrandmaster s d) (one_sub_ne_self d)]
  exact if_neg h

/-- What best master selection leaves as it was. -/
theorem reselect_keeps (s : State) (d : Nat) :
    (reselect s d).mono = s.mono ∧ (reselect s d).otp = s.otp ∧ (reselect s d).tms.trt = s.tms.trt
      ∧ (domainOf (reselect s d) d).heard = (domainOf s d).heard := by
  by_cases h : gmOf s d = (domainOf s d).grandmaster
  · rw [reselect_same h]
    exact ⟨rfl, rfl, rfl, rfl⟩
  · rw [reselect_changed h]
    split
    · obtain ⟨-, -, -, htrt, hmono, hotp⟩ := wytSelect_effect (putDomain s d (withGrandmaster s d)) (1 - d)
      obtain ⟨o, hdom⟩ := domainOf_wytSelect s (1 - d) d (withGrandmaster s d)
      rw [hdom]
      exact ⟨hmono, hotp, htrt, rfl⟩
    · rw [domainOf_putDomain_self]
      exact ⟨rfl, rfl, rfl, rfl⟩

/-- On a domain that is not selected best master selection leaves WYT alone. -/
theorem reselect_unselected {s : State} {d : Nat} (h : d ≠ s.tms.wytDom) :
    (reselect s d).tms.wyt = s.tms.wyt ∧ (reselect s d).tms.wytState = s.tms.wytState
      ∧ (reselect s d).tms.wytDom = s.tms.wytDom := by
  by_cases hg : gmOf s d = (domainOf s d).grandmaster
  · rw [reselect_same hg]
    exact ⟨rfl, rfl, rfl⟩
  · rw [reselect_changed hg, if_neg (by simp [h])]
    exact ⟨rfl, rfl, rfl⟩

/-! ## Holdover of WYT (Table 2-6) -/

/-- WYT in holdover with DRIFT `d`, saturated. -/
def wytHolding (s : State) (d : Int) : State :=
  let u := setWytDrift s d
  setAlarm { u with tms := { u.tms with wytState := .holdover, wytHoldSince := some u.mono } } .tms 5

theorem wytHoldover_holds (s : State) : ∃ d, wytHoldover s = wytHolding s d := ⟨_, rfl⟩

theorem wytHoldover_effect (s : State) : (wytHoldover s).tms.wytState = .holdover
    ∧ bitAt (wytHoldover s).tms.alarm 5 = true ∧ (wytHoldover s).tms.domains = s.tms.domains
    ∧ (wytHoldover s).mono = s.mono := by
  obtain ⟨d, h⟩ := wytHoldover_holds s
  obtain ⟨hist, host, hdrift⟩ := setWytDrift_form s d
  rw [h]
  unfold wytHolding
  simp [hdrift]

/-! ## What leaves a port, or waits for it (R184) -/

/-- What sending on ports leaves as it was: all but what has left, the ports, the peer delays and the free values drawn. -/
def sendView (s : State) : State :=
  { s with wire := [], ports := {}, draws := 0, tms := { s.tms with peerDelay := [] } }

/-- WYT, its state and domains, TRT and the model time are the same wherever that is. -/
theorem fields_of_sendView {s t : State} (h : sendView t = sendView s) :
    t.tms.wyt = s.tms.wyt ∧ t.tms.wytState = s.tms.wytState ∧ t.tms.wytDom = s.tms.wytDom ∧ t.tms.trt = s.tms.trt
      ∧ t.tms.domains = s.tms.domains ∧ t.mono = s.mono := by
  have hself : ∀ u : State, (sendView u).tms.wyt = u.tms.wyt ∧ (sendView u).tms.wytState = u.tms.wytState
      ∧ (sendView u).tms.wytDom = u.tms.wytDom ∧ (sendView u).tms.trt = u.tms.trt
      ∧ (sendView u).tms.domains = u.tms.domains ∧ (sendView u).mono = u.mono := fun u => ⟨rfl, rfl, rfl, rfl, rfl, rfl⟩
  have ht := hself t
  rw [h] at ht
  simpa only [hself s, eq_comm] using ht

theorem sendView_depart (s : State) (e : HeldOut) : sendView (depart s e) = sendView s := by
  unfold depart departing
  split <;> simp [sendView, emit]

theorem sendView_emitPort (s : State) (p : Nat) (x : Sent) : sendView (emitPort s p x) = sendView s := by
  unfold emitPort releasePort
  split
  · rfl
  · exact (foldl_keeps sendView depart sendView_depart _ _).trans rfl

/-- A departure's stamp depends on nothing that sending changes. -/
theorem txWyt_congr {s t : State} (h : sendView t = sendView s) (p : Nat) : txWyt t p = txWyt s p := by
  have hself : ∀ u : State, txWyt (sendView u) p = txWyt u p := fun u => rfl
  rw [← hself t, h, hself s]

/-- Nor does what leaves in place of an item that waited. -/
theorem departing_congr {s t : State} (h : sendView t = sendView s) (e : HeldOut) :
    (departing t e).2 = (departing s e).2 := by
  obtain ⟨-, -, -, -, -, hmono⟩ := fields_of_sendView h
  unfold departing
  split <;> simp [txWyt_congr h, hmono]

/-- A run of departures: what leaves, in order, and that what still waits stays. -/
theorem foldl_depart_sends (l : List HeldOut) (s : State) : (l.foldl depart s).wire = s.wire ++ l.map (fun e => (departing s e).2)
    ∧ (l.foldl depart s).ports.heldOut = s.ports.heldOut := by
  induction l generalizing s with
  | nil => simp
  | cons e r ih =>
    obtain ⟨hwire, hheld⟩ := ih (depart s e)
    have hone : (depart s e).wire = s.wire ++ [(departing s e).2] ∧ (depart s e).ports.heldOut = s.ports.heldOut := by
      unfold depart departing
      split <;> simp [emit]
    have hrest : r.map (fun e' => (departing (depart s e) e').2) = r.map fun e' => (departing s e').2 :=
      List.map_congr_left fun e' _ => departing_congr (sendView_depart s e) e'
    rw [List.foldl_cons, hwire, hheld, hone.1, hone.2, hrest]
    simp

section emitPort

variable {s : State} {p : Nat}

/-- Something given to a port waits behind what waits there. -/
def heldBehind (s : State) (p : Nat) (x : Sent) : State :=
  { s with ports := { s.ports with heldOut := s.ports.heldOut ++ [{ port := p, item := x, since := s.mono }] } }

theorem emitPort_halted (x : Sent) (h : txHalted s p = true) : emitPort s p x = heldBehind s p x := if_pos h

/-- What waited for the end of the port's halt, and then `x`. -/
def departures (s : State) (p : Nat) (x : Sent) : List HeldOut :=
  (s.ports.heldOut.filter fun e => e.port == p) ++ [{ port := p, item := x, since := s.mono }]

/-- The state once nothing waits at port `p`. -/
def unheld (s : State) (p : Nat) : State :=
  { s with ports := { s.ports with heldOut := s.ports.heldOut.filter fun e => e.port != p } }

theorem releasePort_open (h : txHalted s p = false) :
    releasePort s p = (s.ports.heldOut.filter fun e => e.port == p).foldl depart (unheld s p) :=
  if_neg (by simp [h])

theorem emitPort_open (x : Sent) (h : txHalted s p = false) :
    emitPort s p x = (departures s p x).foldl depart (unheld s p) := by
  have hgo : (heldBehind s p x).ports.heldOut.filter (fun e => e.port == p) = departures s p x := by
    simp [heldBehind, departures, List.filter_append]
  have hstay : unheld (heldBehind s p x) p = unheld s p := by
    simp [unheld, heldBehind, List.filter_append]
  have hsent : emitPort s p x = releasePort (heldBehind s p x) p := rfl
  rw [hsent, releasePort_open (s := heldBehind s p x) h, hgo, hstay]

/-- An open port sends what waited there, oldest first, and then what it is given; a peer delay request's departure is its t1. -/
theorem emitPort_sends (x : Sent) (h : txHalted s p = false) :
    (emitPort s p x).wire = s.wire ++ (departures s p x).map (fun e => (departing s e).2)
      ∧ (emitPort s p x).ports.heldOut = s.ports.heldOut.filter (fun e => e.port != p)
      ∧ ∀ q, x = .pdelayReq p q →
        (tget ({} : PeerDelay) (emitPort s p x).tms.peerDelay p).t1 = some (stamp16 (txWyt s p)) := by
  have hview : sendView (unheld s p) = sendView s := rfl
  obtain ⟨hwire, hheld⟩ := foldl_depart_sends (departures s p x) (unheld s p)
  rw [emitPort_open x h]
  refine ⟨hwire.trans ?_, hheld, fun q hq => ?_⟩
  · rw [List.map_congr_left fun e _ => departing_congr hview e]
    rfl
  · subst hq
    have hlast : sendView ((s.ports.heldOut.filter fun e => e.port == p).foldl depart (unheld s p)) = sendView s :=
      (foldl_keeps sendView depart sendView_depart _ _).trans hview
    unfold departures
    rw [List.foldl_append, List.foldl_cons, List.foldl_nil, ← txWyt_congr hlast p]
    simp [depart, departing, emit]

end emitPort

/-! ## Messages of the domains (R49 to R51) -/

/-- The state in which a message of domain `d` on port `p` is taken: counted, with best master selection run. -/
def heardOf (s : State) (p d : Nat) : State := reselect (countGot s p 64) d

/-- What a message that is taken does. -/
def messageTaken (s : State) (p d : Nat) : GptpKind → State
  | .sync sec ns c r i => syncReceive s p d sec ns c r i
  | .pdelayReq q => emitPort s p (.pdelayResp p q (rxWyt s p / nsRaw) 0)
  | .pdelayResp q t2 t3 => pdelayTake s p q t2 t3
  | .announce r k => announceReceive s p d r k

/-- A port runs 802.1AS, with link up and time service. -/
def runsGptp (s : State) (p : Nat) : Prop :=
  s.tms.cfg.gptpPorts.contains p = true ∧ linkIsUp s p = true ∧ s.tms.tsValid = true

theorem runsGptp_guard {s : State} {p : Nat} (h : runsGptp s p) :
    ¬ (!s.tms.cfg.gptpPorts.contains p || !linkIsUp s p || !s.tms.tsValid) = true := by
  obtain ⟨hc, hl, hv⟩ := h
  rw [hc, hl, hv]
  decide

theorem gptpEffect_taken {s : State} {p d : Nat} (h : runsGptp s p) (hd : d ≤ 1) (k : GptpKind) :
    gptpEffect p { domain := d, kind := k } s = messageTaken (heardOf s p d) p d k := by
  unfold gptpEffect
  rw [if_neg (runsGptp_guard h)]
  dsimp only
  rw [if_neg (Nat.not_lt.2 hd)]
  cases k <;> rfl

/-- The state of the node in which a message is taken. -/
theorem heardOf_keeps (s : State) (p d : Nat) :
    (heardOf s p d).mono = s.mono ∧ (heardOf s p d).otp = s.otp ∧ (heardOf s p d).tms.trt = s.tms.trt
      ∧ (domainOf (heardOf s p d) d).heard = (domainOf s d).heard := by
  obtain ⟨hmono, hotp, htrt, hheard⟩ := reselect_keeps (countGot s p 64) d
  exact ⟨hmono.trans (by simp), hotp.trans (by simp), htrt.trans (by simp), hheard.trans (by simp [domainOf])⟩

/-! ### Peer delay -/

theorem rateOver_pos (theirs : Int) {ours : Nat} (old : Int) (h : 0 < ours) :
    rateOver theirs ours old = theirs * 2 ^ 41 / ours - 2 ^ 41 := if_pos h

theorem pdelayTake_other {s : State} {p : Nat} {q : BitVec 16} (t2 t3 : Nat)
    (h : q ≠ (tget ({} : PeerDelay) s.tms.peerDelay p).seq) : pdelayTake s p q t2 t3 = s := by
  unfold pdelayTake
  dsimp only
  split
  · rfl
  · exact if_pos h

/-- The record of a port after the response of its open exchange. -/
theorem pdelayTake_open {s : State} {p : Nat} {x : PeerDelay} {t1 : Nat} (t2 t3 : Nat)
    (hx : x = tget ({} : PeerDelay) s.tms.peerDelay p) (h1 : x.t1 = some t1) :
    ∃ y, pdelayTake s p x.seq t2 t3 = { s with tms := { s.tms with peerDelay := tset {} s.tms.peerDelay p y } }
      ∧ y.t1 = none ∧ y.seq = x.seq ∧ y.last = some (t3, stamp16 (rxWyt s p), s.mono)
      ∧ y.delay = ((((stamp16 (rxWyt s p) : Nat) : Int) - t1) * (2 ^ 41 + y.rateRatio) / 2 ^ 41 - ((t3 : Int) - t2)) / 2
      ∧ (x.last = none → y.rateRatio = x.rateRatio ∧ y.oscRatio = x.oscRatio)
      ∧ ∀ a b c, x.last = some (a, b, c) →
        (c < s.mono → y.oscRatio = ((t3 : Int) - a) * 2 ^ 41 / ((s.mono - c) * 65536 : Nat) - 2 ^ 41)
        ∧ (b < stamp16 (rxWyt s p)
          → y.rateRatio = ((t3 : Int) - a) * 2 ^ 41 / (stamp16 (rxWyt s p) - b : Nat) - 2 ^ 41) := by
  unfold pdelayTake
  rw [← hx]
  dsimp only
  rw [h1]
  dsimp only
  rw [if_neg (not_not.2 rfl)]
  refine ⟨_, rfl, rfl, rfl, rfl, rfl, fun hl => ?_, fun a b c hl => ⟨fun hc => ?_, fun hb => ?_⟩⟩
  · rw [hl]; exact ⟨rfl, rfl⟩
  · rw [hl]; exact rateOver_pos _ _ (Nat.mul_pos (Nat.sub_pos_of_lt hc) (by decide))
  · rw [hl]; exact rateOver_pos _ _ (Nat.sub_pos_of_lt hb)

/-! ### Sync -/

theorem syncReceive_other {s : State} {p d : Nat} (sec ns : Nat) (c r i : Int) (h : slavePort s d ≠ some p) :
    syncReceive s p d sec ns c r i = s := if_pos h

theorem sendView_oneStep (s : State) (p : Nat) (x : Sent) : sendView (oneStep s p x).2 = sendView s := rfl

/-- A Sync passed on changes nothing but its domain's sequence number, and what sending changes. -/
theorem sendView_relaySync (s : State) (p d sec ns : Nat) (c : Int) : sendView (relaySync s p d sec ns c)
    = sendView (putDomain s d { domainOf s d with txSeq := (domainOf s d).txSeq + 1 }) := by
  unfold relaySync
  refine (foldl_keeps sendView _ (fun s k => ?_) _ _).trans rfl
  rw [sendView_emitPort, sendView_oneStep]

/-- The first Sync of any domain selects it and steps WYT by the offset measured. -/
theorem syncTake_first {s : State} (d : Nat) (before : GptpDomain) (h : s.tms.wytState = .invalid) :
    (syncTake s d before).tms.wytState = .acquiring ∧ (syncTake s d before).tms.wytDom = d
      ∧ bitAt (syncTake s d before).tms.alarm 6 = true ∧ (syncTake s d before).tms.trt = s.tms.trt
      ∧ (syncTake s d before).tms.wyt = ((s.tms.wyt : Int) - (domainOf s d).offset * nsRaw).toNat % timeSpan := by
  obtain ⟨m, pd, hview⟩ := wytStep_view s ((s.tms.wyt : Int) - (domainOf s d).offset * nsRaw).toNat
  have htms := congrArg Prod.fst hview
  change (wytStep s _).tms = _ at htms
  have htake : syncTake s d before = { wytStep s ((s.tms.wyt : Int) - (domainOf s d).offset * nsRaw).toNat with
      tms := { (wytStep s ((s.tms.wyt : Int) - (domainOf s d).offset * nsRaw).toNat).tms with
        wytState := .acquiring, wytDom := d } } := if_pos h
  rw [htake]
  dsimp only
  rw [htms]
  exact ⟨rfl, rfl, bitAt_setBit_self _ 6 (by decide), rfl, rfl⟩

/-- A Sync on the slave port of an invalid WYT. -/
theorem syncReceive_first {s : State} {p d : Nat} (sec ns : Nat) (c r i : Int) (hs : s.tms.wytState = .invalid)
    (hp : slavePort s d = some p) :
    (syncReceive s p d sec ns c r i).tms.wytState = .acquiring ∧ (syncReceive s p d sec ns c r i).tms.wytDom = d
      ∧ bitAt (syncReceive s p d sec ns c r i).tms.alarm 6 = true ∧ (syncReceive s p d sec ns c r i).tms.trt = s.tms.trt
      ∧ (syncReceive s p d sec ns c r i).tms.wyt
        = ((s.tms.wyt : Int) - syncOffset s p sec ns c * nsRaw).toNat % timeSpan := by
  obtain ⟨y, hy, hrecv⟩ : ∃ y : GptpDomain, y.offset = syncOffset s p sec ns c
      ∧ syncReceive s p d sec ns c r i = syncTake (relaySync (putDomain s d y) p d sec ns c) d (domainOf s d) :=
    ⟨_, rfl, if_neg (not_not.2 hp)⟩
  have hview := sendView_relaySync (putDomain s d y) p d sec ns c
  rw [domainOf_putDomain_self] at hview
  generalize relaySync (putDomain s d y) p d sec ns c = u at hrecv hview
  obtain ⟨hwyt, hstate, -, htrt, hdomains, -⟩ := fields_of_sendView hview
  have hoff : domainOf u d = { y with txSeq := y.txSeq + 1 } := by
    unfold domainOf
    rw [hdomains]
    exact domainOf_putDomain_self _ d _
  have htake := syncTake_first d (domainOf s d) (hstate.trans hs)
  rwa [hoff, hy, hwyt, htrt, ← hrecv] at htake

/-! ### Announce -/

theorem sendView_passOn (s : State) (l : List Nat) (f : Nat → Sent) :
    sendView (l.foldl (fun s k => emitPort s k (f k)) s) = sendView s :=
  foldl_keeps sendView _ (fun s k => sendView_emitPort s k (f k)) l s

/-- An Announce of another device on a domain that is not selected is kept for its port. -/
theorem announceReceive_kept {s : State} {p d n : Nat} {r : GptpRank} (hid : r.identity ≠ s.otp.unitId) (hn : n < 255)
    (hd : d ≠ s.tms.wytDom) :
    (domainOf (announceReceive s p d r n) d).heard = tset none (domainOf s d).heard p (some (r, n, s.mono))
      ∧ (announceReceive s p d r n).tms.wyt = s.tms.wyt ∧ (announceReceive s p d r n).tms.wytState = s.tms.wytState
      ∧ (announceReceive s p d r n).tms.wytDom = s.tms.wytDom := by
  obtain ⟨x, hx, hkept⟩ : ∃ x : GptpDomain, x.heard = tset none (domainOf s d).heard p (some (r, n, s.mono))
      ∧ sendView (announceReceive s p d r n) = sendView (reselect (putDomain s d x) d) := by
    refine ⟨{ domainOf s d with heard := tset none (domainOf s d).heard p (some (r, n, s.mono)) }, rfl, ?_⟩
    unfold announceReceive
    rw [if_neg (by simp [hid]; omega)]
    dsimp only
    split
    · exact sendView_passOn _ _ _
    · rfl
  obtain ⟨-, -, -, hheard⟩ := reselect_keeps (putDomain s d x) d
  obtain ⟨hwyt, hstate, hdom⟩ := reselect_unselected (s := putDomain s d x) hd
  rw [domainOf_putDomain_self, hx] at hheard
  obtain ⟨hwyt', hstate', hdom', -, hdomains, -⟩ := fields_of_sendView hkept
  refine ⟨?_, hwyt'.trans hwyt, hstate'.trans hstate, hdom'.trans hdom⟩
  unfold domainOf at hheard ⊢
  rw [hdomains]
  exact hheard

/-! ### What is discarded -/

theorem report_tms (s : State) (c : Nat) (d : Bytes) : (report s c d).tms = s.tms := by
  have h : { report s c d with evr := s.evr, host := s.host } = s := report_recorderOnly s c d
  have htms := congrArg State.tms h
  exact htms

/-- A discard with reason 4 counts at its port, and leaves the TMS as it was. -/
theorem discard_counts (s : State) {x : Discard} (hx : x.reason = 4) :
    (Machine.discard s x).tms = s.tms ∧ (Machine.discard s x).wire = s.wire
      ∧ tget 0 (Machine.discard s x).fab.bit.ports (x.port * 16 + 4)
        = tget 0 s.fab.bit.ports (x.port * 16 + 4) + 1 := by
  have hcount : tget 0 (discardRecord s x).ports (x.port * 16 + 4) = tget 0 s.fab.bit.ports (x.port * 16 + 4) + 1 := by
    rw [← hx]
    simp [discardRecord]
  have halarms : ∀ u : State, setAlarmIf (setAlarmIf u (x.reason == 1) .fab 1) (x.reason == 8) .fab 11 = u := fun u => by
    rw [hx]; rfl
  refine ⟨?_, by simp, ?_⟩
  · unfold Machine.discard
    simp only [halarms]
    split
    · rfl
    · rw [report_tms]; rfl
  · unfold Machine.discard
    simp only [halarms]
    split
    · exact hcount
    · rw [report_fab]; exact hcount

/-- A message of a domain number above 1 is discarded and counted. -/
theorem gptpEffect_discards {s : State} {p : Nat} {m : GptpMsg} (h : runsGptp s p) (hm : 1 < m.domain) :
    (gptpEffect p m s).tms = s.tms ∧ (gptpEffect p m s).wire = s.wire
      ∧ tget 0 (gptpEffect p m s).fab.bit.ports (p * 16 + 4) = tget 0 s.fab.bit.ports (p * 16 + 4) + 1 := by
  obtain ⟨x, hreason, hport, he⟩ : ∃ x : Discard, x.reason = 4 ∧ x.port = p
      ∧ gptpEffect p m s = Machine.discard (countGot s p 64) x :=
    ⟨_, rfl, rfl, (if_neg (runsGptp_guard h)).trans (if_pos hm)⟩
  obtain ⟨htms, hwire, hcount⟩ := discard_counts (countGot s p 64) hreason
  rw [he, htms, hwire]
  rw [hport] at hcount
  rw [hcount]
  simp

/-! ### Sending (R49, R56) -/

theorem pdelaySend_sends {s : State} {p : Nat} (h : runsGptp s p) : pdelaySend p s
    = let x := tget ({} : PeerDelay) s.tms.peerDelay p
      let u := untilMono s (nextBeat x.reqAt 1000000000 s.mono)
      emitPort { u with
        tms := { u.tms with
          peerDelay := tset {} s.tms.peerDelay p { x with seq := x.seq + 1, t1 := none, reqAt := some u.mono } } } p
        (.pdelayReq p (x.seq + 1)) := by
  have hpd : ∀ n, (untilMono s n).tms.peerDelay = s.tms.peerDelay := fun n => by
    obtain ⟨m, f, a, b, hu⟩ := untilMono_form s n
    rw [hu]
  refine (if_neg (runsGptp_guard h)).trans ?_
  dsimp only
  rw [hpd]

theorem syncSend_sends {s : State} {p d : Nat} (i : Bool) (h : runsGptp s p) (hd : d < 2) (hg : isGrandmaster s d = true) :
    syncSend p d i s
    = let x := domainOf s d
      let u := untilMono s (nextBeat (tget none x.syncAt p) (logIntervalNs x.logInterval) s.mono)
      let v := { u with
        tms := { u.tms with
          domains := tset {} s.tms.domains d
            { x with txSeq := x.txSeq + 1, syncAt := tset none x.syncAt p (some u.mono) } } }
      emitPort (emitPort v p (.announce p d (ownRank s d) 0)) p
        (if i then .sync p d (x.txSeq + 1) (txWyt u p / nsRaw / 1000000000) (txWyt u p / nsRaw % 1000000000)
            (stamp16 (txWyt u p) % 65536 : Nat)
          else .spoiled p) := by
  have hall : (decide (d < 2) && isGrandmaster s d && s.tms.cfg.gptpPorts.contains p && linkIsUp s p && s.tms.tsValid)
      = true := by
    obtain ⟨hc, hl, hv⟩ := h
    rw [hg, hc, hl, hv, decide_eq_true hd]
    rfl
  have hdom : ∀ n, (untilMono s n).tms.domains = s.tms.domains := fun n => by simp
  have hrank : ∀ (n : Nat) (x : GptpDomain), x.priority1 = (domainOf s d).priority1 →
      ownRank (putDomain (untilMono s n) d x) d = ownRank s d := fun n x hx => by
    unfold ownRank
    rw [domainOf_putDomain_self, hx]
    simp [putDomain]
  refine (if_pos hall).trans ?_
  dsimp only
  rw [hrank]
  · unfold putDomain
    rw [hdom]
  · rfl

/-! ### Loss and return of a domain (R50) -/

/-- The state in which the loss of domain `d` is judged, as a change of that domain at the instant of its timeout. -/
theorem syncTimeout_moves {s : State} {d : Nat} (hs : (domainOf s d).synced = true) : ∃ w y, y.synced = false
    ∧ w.mono = max s.mono ((domainOf s d).lastSync + 3 * logIntervalNs (domainOf s d).logInterval)
    ∧ w.tms.wytDom = s.tms.wytDom ∧ w.tms.wytState = s.tms.wytState ∧ domainOf w (1 - d) = domainOf s (1 - d)
    ∧ syncTimeout d s = let v := putDomain w d y
        if d ≠ v.tms.wytDom then v
        else if (domainOf v (1 - d)).synced then wytSelect v (1 - d) else wytHoldover v := by
  refine ⟨_, _, ?_, ?_, ?_, ?_, ?_, if_neg (by simp [hs])⟩
  · rw [domainOf_putDomain_self]
  · exact untilMono_mono s _
  · simp [putDomain]
  · simp [putDomain]
  · rw [domainOf_putDomain_other _ _ (one_sub_ne_self d)]
    simp [domainOf]

/-- A domain that is lost: no longer synchronised, and WYT left to the other domain, or to holdover where that is lost too. -/
theorem syncTimeout_lost {s : State} {d : Nat} (hs : (domainOf s d).synced = true) :
    (domainOf (syncTimeout d s) d).synced = false
      ∧ (syncTimeout d s).mono = max s.mono ((domainOf s d).lastSync + 3 * logIntervalNs (domainOf s d).logInterval)
      ∧ (d ≠ s.tms.wytDom → (syncTimeout d s).tms.wytState = s.tms.wytState ∧ (syncTimeout d s).tms.wytDom = s.tms.wytDom)
      ∧ (d = s.tms.wytDom → (domainOf s (1 - d)).synced = false →
          (syncTimeout d s).tms.wytState = .holdover ∧ bitAt (syncTimeout d s).tms.alarm 5 = true)
      ∧ (d = s.tms.wytDom → (domainOf s (1 - d)).synced = true →
          (syncTimeout d s).tms.wytState = stateSelected s.tms.wytState ∧ (syncTimeout d s).tms.wytDom = 1 - d
          ∧ bitAt (syncTimeout d s).tms.alarm 4 = true) := by
  obtain ⟨w, y, hy, hmono, hdom, hstate, hother, ht⟩ := syncTimeout_moves hs
  have hother' : domainOf (putDomain w d y) (1 - d) = domainOf s (1 - d) :=
    (domainOf_putDomain_other w y (one_sub_ne_self d)).trans hother
  have hsel : (putDomain w d y).tms.wytDom = s.tms.wytDom := hdom
  have hlost : (domainOf (putDomain w d y) d).synced = false := by rw [domainOf_putDomain_self, hy]
  rw [ht]
  dsimp only
  rw [hother', hsel]
  by_cases hd : d = s.tms.wytDom
  · rw [if_neg (not_not.2 hd)]
    cases hsync : (domainOf s (1 - d)).synced with
    | true =>
      obtain ⟨hdom', hstate', hbit, -, hmono', -⟩ := wytSelect_effect (putDomain w d y) (1 - d)
      obtain ⟨o, ho⟩ := domainOf_wytSelect w (1 - d) d y
      rw [if_pos rfl, ho]
      exact ⟨hy, hmono'.trans hmono, fun h => absurd hd h, (fun _ h => by cases h),
        fun _ _ => ⟨hstate'.trans (congrArg stateSelected hstate), hdom', hbit⟩⟩
    | false =>
      obtain ⟨hstate', hbit, hdomains, hmono'⟩ := wytHoldover_effect (putDomain w d y)
      rw [if_neg (by decide)]
      refine ⟨?_, hmono'.trans hmono, fun h => absurd hd h, fun _ _ => ⟨hstate', hbit⟩, (fun _ h => by cases h)⟩
      unfold domainOf
      rw [hdomains]
      exact hlost
  · rw [if_pos hd]
    exact ⟨hlost, hmono, fun _ => ⟨hstate, hdom⟩, fun h => absurd h hd, fun h => absurd h hd⟩

theorem preferredReturn_selects {s : State} (hs : (domainOf s s.tms.cfg.domainPref).synced = true)
    (hn : s.tms.wytDom ≠ s.tms.cfg.domainPref) :
    (preferredReturn s).tms.wytDom = s.tms.cfg.domainPref ∧ bitAt (preferredReturn s).tms.alarm 4 = true
      ∧ (preferredReturn s).mono = max s.mono ((domainOf s s.tms.cfg.domainPref).since + 10000000000) := by
  obtain ⟨hdom, -, hbit, -, hmono, -⟩ := wytSelect_effect
    (untilMono s ((domainOf s s.tms.cfg.domainPref).since + 10000000000)) s.tms.cfg.domainPref
  have hret : preferredReturn s = wytSelect _ s.tms.cfg.domainPref := if_pos ⟨hs, hn⟩
  rw [hret]
  exact ⟨hdom, hbit, hmono.trans (untilMono_mono s _)⟩

/-- Settles O18: a message by what it does once it is taken (`gptpEffect_taken`), what is sent by the state of its port
(`emitPort_halted`, `emitPort_sends`), and the choice of the domain by its moves (`reselect_changed`, `wytSelect_effect`). -/
theorem waysideDomainsAreTracked : Obligations.WaysideDomainsAreTracked := by
  unfold Obligations.WaysideDomainsAreTracked
  intro runs heard
  have taken : ∀ {s : State} {p d : Nat} {k : GptpKind} {t : State}, runs s p → d ≤ 1 →
      messageTaken (heardOf s p d) p d k = t → exec (.gptpMessageReceive p { domain := d, kind := k }) s = .next t :=
    fun hr hd ht => congrArg Host.Outcome.next ((gptpEffect_taken hr hd _).trans ht)
  refine ⟨fun s p d q hr hd => taken hr hd rfl, fun s p d x t1 t2 t3 hr hd hx h1 => ?_,
    fun s p d q t2 t3 hr hd hq => taken hr hd (pdelayTake_other t2 t3 hq), fun s p d sec ns c r i hr hd hs hp => ?_,
    fun s p d sec ns c r i hr hd hp => taken hr hd (syncReceive_other sec ns c r i hp),
    fun s p d r n hr hd hid hn hsel => ?_, fun s d h => reselect_same h, fun s d h hno => ?_,
    fun s d hd h hsync hsel hother => ?_, fun s p m hr hm => ⟨_, rfl, gptpEffect_discards hr hm⟩,
    fun s p hr => congrArg Host.Outcome.next (pdelaySend_sends hr),
    fun s p d i hr hd hg => congrArg Host.Outcome.next (syncSend_sends i hr hd hg),
    fun s p x h => emitPort_halted x h, fun s p x h => emitPort_sends x h, fun s p d q sec ns c at_ => ⟨rfl, rfl⟩,
    fun s d hs => ?_, fun s hs hn => ⟨_, rfl, preferredReturn_selects hs hn⟩⟩
  · obtain ⟨hmono, -, -, -⟩ := heardOf_keeps s p d
    obtain ⟨y, hy, hrec⟩ := pdelayTake_open t2 t3 hx h1
    change (heard s p d).mono = s.mono at hmono
    rw [hmono] at hrec
    exact ⟨y, taken hr hd hy, hrec⟩
  · obtain ⟨-, -, htrt, -⟩ := heardOf_keeps s p d
    obtain ⟨hstate, hdom, hbit, htrt', hwyt⟩ := syncReceive_first sec ns c r i hs hp
    exact ⟨_, taken hr hd rfl, hstate, hdom, hbit, htrt'.trans htrt, hwyt⟩
  · obtain ⟨hmono, hotp, -, hheard⟩ := heardOf_keeps s p d
    have hkept := announceReceive_kept (s := heardOf s p d) (p := p) (by rw [hotp]; exact hid) hn hsel
    rw [hmono, hheard] at hkept
    exact ⟨_, taken hr hd rfl, hkept⟩
  · rw [reselect_changed h, if_neg fun ⟨hsync, hsel, hother⟩ => by
      rcases hno with h | h | h
      · rw [h] at hsync; cases hsync
      · exact h hsel
      · rw [h] at hother; cases hother]
    rfl
  · obtain ⟨hdom, -, hbit, -⟩ := wytSelect_effect (putDomain s d (withGrandmaster s d)) (1 - d)
    rw [reselect_changed h, if_pos ⟨hsync, hsel, hother⟩]
    exact ⟨hdom, hbit⟩
  · obtain ⟨hlost, hmono, hunsel, hhold, hmove⟩ := syncTimeout_lost hs
    exact ⟨_, rfl, hlost, hmono, hunsel, fun h _ => hhold h, fun h _ => hmove h⟩

end Sys2Proof.Proofs
end

section
/-! SUPPORT. PPS and the reference monitor. -/

namespace Sys2Proof.Proofs

open Sys2Proof Sys2Proof.Machine

/-! ## PPS_OUT (R62) -/

theorem ppsOut_trt {s : State} (h : s.tms.cfg.ppsSrc = .trt) : ppsOutEffect s = if trtValid s then
      let u := untilTrt s ((s.tms.trt / (1000000000 * nsRaw) + 1) * (1000000000 * nsRaw))
      { u with tms := { u.tms with ppsFallAt := some (u.mono + 100000000) } }
    else s := by
  unfold ppsOutEffect
  rw [h]

theorem ppsOut_wyt {s : State} (h : s.tms.cfg.ppsSrc = .wyt) : ppsOutEffect s = if wytValid s then
      let u := untilWyt s ((s.tms.wyt / (1000000000 * nsRaw) + 1) * (1000000000 * nsRaw))
      { u with tms := { u.tms with ppsFallAt := some (u.mono + 100000000) } }
    else s := by
  unfold ppsOutEffect
  rw [h]

theorem ppsOut_off {s : State} (h : s.tms.cfg.ppsSrc = .off) : ppsOutEffect s = s := by
  unfold ppsOutEffect
  rw [h]

/-! ## The reference (R63, R64) -/

/-- Every reference but XIN has a code other than 0 (Table 2-11). -/
theorem sourceCode_ne_zero (p : Nat) : sourceCode p ≠ 0 := by
  unfold sourceCode
  split <;> omega

/-- All that a move of the reference changes: it leaves XIN, with ref_switch and clk_switch set. -/
theorem refMove_form (s : State) : ∃ src alarm err host, src ≠ 0
    ∧ refMove s = { s with
        tms := { s.tms with refSource := src, alarm := alarm }, glob := { s.glob with err := err }, host := host }
    ∧ (s.tms.refSource = 0 → bitAt alarm 7 = true ∧ bitAt err 4 = true) := by
  have hsrc : ∀ o : Option Nat, (match o with | some p => sourceCode p | none => 0xF0) ≠ 0 := fun o => by
    cases o with
    | none => decide
    | some p => exact sourceCode_ne_zero p
  unfold refMove
  extract_lets src
  split
  next h => exact ⟨s.tms.refSource, s.tms.alarm, s.glob.err, s.host, h ▸ hsrc _, rfl, fun h0 => absurd (h.trans h0) (hsrc _)⟩
  · rw [setAlarm_glob_form, setAlarm_tms_form]
    exact ⟨src, _, _, _, hsrc _, rfl, fun _ => ⟨bitAt_setBit_self _ 7 (by decide), bitAt_setBit_self _ 4 (by decide)⟩⟩

/-- A fault of XIN: the reference leaves it, and ref_alarm is set. -/
theorem xinFaulted_form (s : State) : ∃ src alarm err host, src ≠ 0
    ∧ xinFaulted s = { s with
        tms := { s.tms with xinFault := true, refSource := src, alarm := alarm }
        glob := { s.glob with refAlarm := true, err := err }, host := host }
    ∧ (s.tms.refSource = 0 → bitAt alarm 7 = true ∧ bitAt err 4 = true) :=
  refMove_form { s with tms := { s.tms with xinFault := true }, glob := { s.glob with refAlarm := true } }

/-! ## The monitor's windows (R63, R66) -/

/-- The measures that count: those of BB and CP ports with link up. -/
def candidates (s : State) (ms : List RefMeas) : List RefMeas :=
  ms.filter fun m => (portKind m.port == .bb || portKind m.port == .cp) && linkIsUp s m.port

theorem candidates_congr {s u : State} (h : u.ports = s.ports) (ms : List RefMeas) : candidates u ms = candidates s ms := by
  simp only [candidates, linkIsUp, h]

/-- A window's end: 100 ms after that of the window before it. -/
def windowEnd (s : State) : State :=
  let u := untilMono s (s.tms.refAt + 100000000)
  { u with tms := { u.tms with refAt := u.mono } }

theorem candidates_windowEnd (s : State) (ms : List RefMeas) : candidates (windowEnd s) ms = candidates s ms :=
  candidates_congr (by simp [windowEnd]) ms

/-- What a window that ends now does with its consensus: `w` is the state at its end. -/
def judged (w : State) (c : List RefMeas) : State :=
  let mask := c.foldl (fun (v : BitVec 16) m => setBit v (candBit m.port) true) 0
  if c.isEmpty then
    let w := { w with tms := { w.tms with refCand := 0, refPpb := none, refBad := 0, refGood := none } }
    if w.tms.refSource = 0 then w else refMove w
  else
    let ppb := (c.map RefMeas.ppb).sum / (c.length : Int)
    let bad := decide (w.tms.cfg.refThreshold < ppb.natAbs)
    let good := decide (ppb.natAbs * 2 ≤ w.tms.cfg.refThreshold)
    let w : State := { w with tms := { w.tms with
        refCand := mask, refPpb := some ppb, refBad := if bad then w.tms.refBad + 1 else 0
        refGood := if good then some (w.tms.refGood.getD w.mono) else none } }
    if w.tms.refSource = 0 then (if 3 ≤ w.tms.refBad then xinFaulted w else w)
    else
      let held := (List.range 16).any fun p => bitAt mask p && sourceCode p == w.tms.refSource
      if held then w else refMove w

theorem refWindow_eq {s : State} (ms : List RefMeas) (hm : monitorOn s = true) :
    refWindow ms s = judged (windowEnd s) (consensus (candidates s ms)) := by
  rw [← candidates_windowEnd s ms]
  exact if_neg (by simp [hm])

/-- Without a consensus on XIN the candidates are forgotten. -/
theorem judged_none {w : State} (hs : w.tms.refSource = 0) : judged w []
    = { w with tms := { w.tms with refCand := 0, refPpb := none, refBad := 0, refGood := none } } :=
  if_pos hs

/-- A consensus beyond the threshold counts on XIN, and the third in a row faults it. -/
theorem judged_beyond {w : State} {c : List RefMeas} (hs : w.tms.refSource = 0) (hc : c ≠ [])
    (hb : w.tms.cfg.refThreshold < ((c.map RefMeas.ppb).sum / (c.length : Int)).natAbs) : ∃ mask good, judged w c
      = let v := { w with tms := { w.tms with
          refCand := mask, refPpb := some ((c.map RefMeas.ppb).sum / (c.length : Int)), refBad := w.tms.refBad + 1
          refGood := good } }
        if 2 ≤ w.tms.refBad then xinFaulted v else v := by
  unfold judged
  simp only [List.isEmpty_iff, hc, if_false, hs, if_true, hb, decide_true, Nat.reduceLeDiff]
  exact ⟨_, _, rfl⟩

theorem windowEnd_form (s : State) : ∃ m f a b, windowEnd s
    = { s with mono := m, monoFrac := f, tms := { s.tms with trt := a, wyt := b, refAt := m } } := by
  obtain ⟨m, f, a, b, h⟩ := untilMono_form s (s.tms.refAt + 100000000)
  exact ⟨m, f, a, b, by unfold windowEnd; rw [h]⟩

theorem windowEnd_mono (s : State) : (windowEnd s).mono = max s.mono (s.tms.refAt + 100000000) := untilMono_mono s _

/-- What a consensus beyond the threshold brings on XIN (R63, R64). -/
theorem refWindow_beyond {s : State} {ms : List RefMeas} {ppb : Int} (hm : monitorOn s = true) (hs : s.tms.refSource = 0)
    (hc : consensus (candidates s ms) ≠ [])
    (hp : ppb = ((consensus (candidates s ms)).map RefMeas.ppb).sum / ((consensus (candidates s ms)).length : Int))
    (hb : s.tms.cfg.refThreshold < ppb.natAbs) :
    (refWindow ms s).tms.refPpb = some ppb ∧ (refWindow ms s).tms.refBad = s.tms.refBad + 1
      ∧ (refWindow ms s).mono = max s.mono (s.tms.refAt + 100000000) ∧ (refWindow ms s).tms.trtDrift = s.tms.trtDrift
      ∧ (2 ≤ s.tms.refBad → (refWindow ms s).tms.xinFault = true ∧ (refWindow ms s).glob.refAlarm = true)
      ∧ (s.tms.refBad < 2 → (refWindow ms s).tms.refSource = 0 ∧ (refWindow ms s).glob = s.glob) := by
  have hmono := windowEnd_mono s
  obtain ⟨m, f, a, b, hw⟩ := windowEnd_form s
  obtain ⟨mask, good, hj⟩ := judged_beyond (w := windowEnd s) (by rw [hw]; exact hs) hc (by rw [hw, ← hp]; exact hb)
  rw [refWindow_eq ms hm, hj, ← hp]
  dsimp only
  have hbad : (windowEnd s).tms.refBad = s.tms.refBad := by rw [hw]
  rw [hbad]
  split
  next h =>
    obtain ⟨src, alarm, err, host, -, e, -⟩ := xinFaulted_form { windowEnd s with tms := { (windowEnd s).tms with
      refCand := mask, refPpb := some ppb, refBad := s.tms.refBad + 1, refGood := good } }
    rw [e]
    exact ⟨rfl, rfl, hmono, by rw [hw], fun _ => ⟨rfl, rfl⟩, fun h' => absurd h (Nat.not_le.2 h')⟩
  next h =>
    exact ⟨rfl, rfl, hmono, by rw [hw], fun h' => absurd h' h, fun _ => by rw [hw]; exact ⟨hs, rfl⟩⟩

/-! ## XIN stops and returns (R63, R64, R66) -/

theorem xinStop_effect {s : State} (hm : monitorOn s = true) (hs : s.tms.refSource = 0) :
    (xinStopEffect s).glob.refAlarm = true ∧ (xinStopEffect s).tms.xinFault = true ∧ (xinStopEffect s).tms.refSource ≠ 0
      ∧ bitAt (xinStopEffect s).glob.err 4 = true ∧ bitAt (xinStopEffect s).tms.alarm 7 = true
      ∧ (xinStopEffect s).tms.trt = s.tms.trt ∧ (xinStopEffect s).tms.trtDrift = s.tms.trtDrift := by
  obtain ⟨src, alarm, err, host, hsrc, e, hbits⟩ := xinFaulted_form { s with tms := { s.tms with refGood := none } }
  have hstop : xinStopEffect s = xinFaulted { s with tms := { s.tms with refGood := none } } := by
    unfold xinStopEffect
    rw [if_neg (by simp [hm])]
    exact if_pos hs
  obtain ⟨halarm, herr⟩ := hbits hs
  rw [hstop, e]
  exact ⟨rfl, rfl, hsrc, herr, halarm, rfl, rfl⟩

theorem refReturn_effect {s : State} {a : Nat} (hm : monitorOn s = true) (hs : s.tms.refSource ≠ 0)
    (hr : s.tms.cfg.refRevert = true) (hg : s.tms.refGood = some a) :
    (refReturnEffect s).tms.refSource = 0 ∧ (refReturnEffect s).glob.refAlarm = false
      ∧ bitAt (refReturnEffect s).tms.alarm 8 = true ∧ (refReturnEffect s).mono = max s.mono (a + 60000000000) := by
  have hback : (s.tms.cfg.refRevert && s.tms.refSource != 0 && monitorOn s) = true := by simp [hm, hs, hr]
  unfold refReturnEffect
  rw [hg]
  dsimp only
  rw [if_pos hback, setAlarm_glob_form, setAlarm_tms_form]
  exact ⟨rfl, rfl, bitAt_setBit_self _ 8 (by decide), untilMono_mono s _⟩

/-- Settles O19: PPS by its cases, the reference by its moves (`refMove_form`) and the monitor's judgement (`judged_beyond`). -/
theorem ppsAndReferenceMonitor : Obligations.PpsAndReferenceMonitor := by
  unfold Obligations.PpsAndReferenceMonitor
  refine ⟨fun s => rfl, fun s h hv => ?_, fun s h hv => ?_, fun s a h => ?_, fun s ms hm hs hc => ?_,
    fun s hm hs => ⟨_, rfl, xinStop_effect hm hs⟩, fun s a hm hs hr hg => ⟨_, rfl, refReturn_effect hm hs hr hg⟩,
    fun s ms ppb hm hs hc hp hb => ⟨_, rfl, refWindow_beyond hm hs hc hp hb⟩, fun s h => congrArg Host.Outcome.next ?_⟩
  -- PPS_OUT rises and falls
  · exact congrArg Host.Outcome.next ((ppsOut_trt h).trans (if_pos hv))
  · exact congrArg Host.Outcome.next ((ppsOut_wyt h).trans (if_pos hv))
  · refine ⟨_, rfl, ?_⟩
    unfold ppsFallEffect
    rw [h]
    exact ⟨rfl, untilMono_mono s a⟩
  -- a window without a consensus
  · change consensus (candidates s ms) = [] at hc
    refine congrArg Host.Outcome.next ?_
    rw [refWindow_eq ms hm, hc, judged_none (by simpa [windowEnd] using hs)]
    rfl
  -- PPS_OUT off, or its timescale invalid
  · rcases h with h | ⟨h, hv⟩ | ⟨h, hv⟩
    · exact ppsOut_off h
    · exact (ppsOut_trt h).trans (if_neg (by simp [hv]))
    · exact (ppsOut_wyt h).trans (if_neg (by simp [hv]))

end Sys2Proof.Proofs
end

section
/-! SUPPORT. The Cyclic Slot Service: its alarms and state changes, and the commands of its schedule (R84 to R93). -/

namespace Sys2Proof.Proofs

open Sys2Proof Sys2Proof.Machine

/-! ## State changes (Table 3-6) -/

/-- An alarm of CSS changes its register, and the vectors of the host interface. -/
theorem setAlarm_css_form (s : State) (b : Nat) : setAlarm s .css b
    = { s with css := { s.css with alarm := setBit s.css.alarm b true }, host := (setAlarm s .css b).host } := by
  unfold setAlarm
  dsimp only
  split
  · rw [msixRaise_form]; rfl
  · rfl

/-- All that a change of the guard changes (R74). -/
theorem guardUpdate_form (s : State) : ∃ alarm host, guardUpdate s
    = { s with css := { s.css with guardEff := s.css.guardCfg + s.css.guardAllow, alarm := alarm }, host := host } := by
  unfold guardUpdate setAlarmIf
  dsimp only
  split
  · exact ⟨_, _, setAlarm_css_form _ 10⟩
  · exact ⟨_, _, rfl⟩

/-- Where no pan runs any more, own slots have stopped and the counts are up to date; time and the INE stay. -/
theorem cssHalt_effect (s : State) : (cssHalt s).css.slotsRun = false
    ∧ (cssHalt s).css.rejectTotal = s.css.rejectTotal + BitVec.ofNat 32 s.css.rejectNow ∧ (cssHalt s).css.rejectNow = 0
    ∧ (cssHalt s).tms = s.tms ∧ (cssHalt s).ine = s.ine ∧ (cssHalt s).mono = s.mono := by
  unfold cssHalt
  dsimp only
  split <;> exact ⟨rfl, rfl, rfl, rfl, rfl, rfl⟩

/-- A node that stops is STOPPED for that reason, as after `cssHalt_effect`, with stopped set (Tables 3-9 and 3-10). -/
theorem cssStopped_effect (s : State) (reason : Nat) : (cssStopped s reason).css.state = .stopped
    ∧ (cssStopped s reason).css.stopReason = reason ∧ (cssStopped s reason).css.slotsRun = false
    ∧ bitAt (cssStopped s reason).css.alarm 6 = true
    ∧ (cssStopped s reason).css.rejectTotal = s.css.rejectTotal + BitVec.ofNat 32 s.css.rejectNow
    ∧ (cssStopped s reason).css.rejectNow = 0 ∧ (cssStopped s reason).ine = s.ine := by
  obtain ⟨hrun, htotal, hnow, -, hine, -⟩ := cssHalt_effect s
  unfold cssStopped
  rw [setAlarm_css_form]
  split <;> exact ⟨rfl, rfl, hrun, bitAt_setBit_self _ 6 (by decide), htotal, hnow, hine⟩

/-! ## Loading a schedule (R84, R87, R91) -/

/-- SCHED_LOAD_BEGIN on a STOPPED node opens the tenant's load. -/
theorem schedLoadBegin_opens {h : Hcp} {s : State} {len : Nat} (ident : Word)
    (ha : accepts { opcode := 0x0201, classC := true } h s = true) (hs : s.css.state = .stopped)
    (hi : inaugurating s = false) (hb : loadBusy s.css.loads h.tenant = false) (hlo : 0 < len) (hhi : len ≤ 1048576) :
    exec (.schedLoadBegin h len ident) s = .next (respond { s with css := { s.css with
      loads := loadBegin s.css.loads h.tenant len ident } } h 0x0201 .ok 0 []) := by
  have hfree : ¬ (s.css.state ≠ .stopped ∨ inaugurating s = true ∨ loadBusy s.css.loads h.tenant = true) := by
    simp [hs, hi, hb]
  have hlen : ¬ (len = 0 ∨ 1048576 < len) := by omega
  refine congrArg Host.Outcome.next ((runHcp_accepted _ ha).trans ?_)
  rw [if_neg hfree, if_neg hlen, conclude_okay]

/-- SCHED_LOAD_BLOCK within the announced length adds to the load. -/
theorem schedLoadBlock_adds {h : Hcp} {s : State} {off : Nat} {d : Bytes} {l : LoadStage}
    (ha : accepts { opcode := 0x0202, classC := true } h s = true) (hl : loadOf s.css.loads h.tenant = some l)
    (hlo : 1 ≤ d.length) (hhi : d.length ≤ 4096) (hend : off + d.length ≤ l.len) :
    exec (.schedLoadBlock h off d) s = .next (respond { s with css := { s.css with
      loads := loadPut s.css.loads h.tenant off d } } h 0x0202 .ok 0 []) := by
  have hok : blockOk l off d = true := decide_eq_true ⟨hlo, hhi, hend⟩
  refine congrArg Host.Outcome.next ((runHcp_accepted _ ha).trans ?_)
  simp only [hl, hok, if_true, conclude_okay]

/-- A signature depends on the running image alone. -/
theorem manifestSigned_congr {s t : State} (h : t.fw = s.fw) (b : Bytes) (n : Nat) :
    manifestSigned t b n = manifestSigned s b n := by
  simp only [manifestSigned, h]

/-- An instantiation has entries for the 1,024 slots and 4,096 windows of the device at most. -/
theorem instantiate_bounds {tp : Templates} {nodes : List NodeRec} {cars i r pan mbps : Nat} {x}
    (h : instantiate tp nodes cars i r pan mbps = some x) : x.slots.length ≤ 1024 ∧ x.windows.length ≤ 4096 := by
  unfold instantiate at h
  split at h
  · split at h
    next hfit =>
      simp only [Bool.and_eq_true, decide_eq_true_eq] at hfit
      obtain ⟨⟨-, hslots⟩, hwindows⟩ := hfit
      cases h
      exact ⟨hslots, hwindows⟩
    · cases h
  · cases h

/-- An image that fits is in force with its guard, its slots and its windows. -/
theorem instantiateImage_effect {s u : State} {im : SchedImage} (h : instantiateImage s im = some u) :
    u.css.image = some im ∧ u.css.fits = true ∧ u.css.guardCfg = im.guard ∧ u.css.slots.length ≤ 1024
      ∧ u.css.windows.length ≤ 4096 := by
  unfold instantiateImage at h
  dsimp only at h
  split at h
  · cases h
  · obtain ⟨x, hx, rfl⟩ := Option.map_eq_some_iff.1 h
    obtain ⟨alarm, host, e⟩ := guardUpdate_form { unpoisonWhere s 5 (fun _ => true) with css := { s.css with
      image := some im, fits := true, slots := x.slots, windows := x.windows, gates := x.gates
      skipped := x.skipped, capable := x.capable, guardCfg := im.guard } }
    rw [e]
    exact ⟨rfl, rfl, rfl, instantiate_bounds hx⟩

/-- The verification of an image that is well-formed, signed and fits. -/
theorem schedVerify_okay {s u : State} {l : LoadStage} {b : Bytes} {im : SchedImage} (hf : schedFormat l b = some im)
    (hm : manifestSigned s b 0 = true) (hu : instantiateImage s im = some u) :
    schedVerify s l b = okay (ownWindows u) := by
  simp only [schedVerify, hf, hm, Bool.not_true, Bool.false_eq_true, if_false, hu]

/-- The load of a tenant is over. -/
def loadEnded (s : State) (t : Nat) : State := { s with css := { s.css with loads := loadDrop s.css.loads t } }

/-- SCHED_LOAD_END of a whole image, well-formed and signed, that fits. -/
theorem schedLoadEnd_instantiates {h : Hcp} {s u : State} {met : List Nat} {l : LoadStage} {b : Bytes} {im : SchedImage}
    (ha : accepts { opcode := 0x0203, classC := true } h s = true) (hl : loadOf s.css.loads h.tenant = some l)
    (hb : loadBytes l.blocks l.len = some b) (hs : s.css.state = .stopped) (hf : schedFormat l b = some im)
    (hm : manifestSigned s b 0 = true)
    (hu : instantiateImage (readsCorrected (loadEnded s h.tenant) 8 met) im = some u) :
    exec (.schedLoadEnd h met) s = .next (respond (ownWindows u) h 0x0203 .ok 0 []) := by
  have hsigned : manifestSigned (readsCorrected (loadEnded s h.tenant) 8 met) b 0 = true :=
    (manifestSigned_congr (readsCorrected_fw _ 8 met) b 0).trans hm
  refine congrArg Host.Outcome.next ((runHcp_accepted _ ha).trans
    (congrArg (conclude h 0x0203) (.trans ?_ (schedVerify_okay hf hsigned hu))))
  simp only [hl, hb]
  exact if_neg (not_not.2 hs)

/-! ## CSS_START (R88) -/

/-- The tests that CSS_START makes in either mode. -/
structure Startable (h : Hcp) (s : State) : Prop where
  accepted : accepts { opcode := 0x0204, classC := true } h s = true
  stopped : s.css.state = .stopped
  alone : inaugurating s = false
  time : s.tms.tsValid = true
  fits : s.css.fits = true

/-- A cold start takes the node to LISTEN. -/
theorem cssStart_cold {h : Hcp} {s : State} (hh : Startable h s) : ∃ t,
    exec (.cssStart h .cold) s = .next (respond t h 0x0204 .ok 0 []) ∧ t.css.state = .listen
      ∧ t.css.listenSince = s.mono ∧ t.css.stopReason = 0 ∧ t.tms = s.tms := by
  obtain ⟨ha, hs, hi, hv, hf⟩ := hh
  obtain ⟨-, -, -, htms, -, hmono⟩ := cssHalt_effect (cssFresh s)
  refine ⟨{ cssListen (cssFresh s) with css := { (cssListen (cssFresh s)).css with stopReason := 0 } },
    congrArg Host.Outcome.next ((runHcp_accepted _ ha).trans ?_), rfl, hmono, rfl, htms⟩
  simp only [hs, hi, hv, hf, ne_eq, not_true_eq_false, Bool.false_eq_true, or_self, if_false, Bool.not_true, conclude_okay]

/-- A timed start takes the node to WAIT_START. -/
theorem cssStart_timed {h : Hcp} {s : State} {sec ns : Nat} (id : UnitId) (hh : Startable h s)
    (hr : (s.css.image.all fun i => i.timedRestart) = true) (hlo : trtNs s + 1000000 ≤ linNs sec ns)
    (hhi : linNs sec ns ≤ trtNs s + 10000000000) (hst : s.tms.trtState = .locked ∨ s.tms.trtState = .leader) : ∃ t,
    exec (.cssStart h (.timed sec ns id)) s = .next (respond t h 0x0204 .ok 0 []) ∧ t.css.state = .waitStart
      ∧ t.css.tStart = linNs sec ns ∧ t.css.followed = id ∧ t.tms = s.tms := by
  obtain ⟨ha, hs, hi, hv, hf⟩ := hh
  obtain ⟨-, -, -, htms, -, -⟩ := cssHalt_effect (cssFresh s)
  have hrestart : ¬ (s.css.image.any fun i => !i.timedRestart) = true := by
    cases him : s.css.image with
    | none => simp
    | some i => simpa [him] using hr
  have hrange : ¬ (linNs sec ns < trtNs s + 1000000 ∨ trtNs s + 10000000000 < linNs sec ns) := by omega
  have hstate : ¬ (s.tms.trtState ≠ .locked ∧ s.tms.trtState ≠ .leader) := by
    rcases hst with h | h <;> simp [h]
  refine ⟨{ cssHalt (cssFresh s) with css := { (cssHalt (cssFresh s)).css with
      state := .waitStart, tStart := linNs sec ns, followed := id, stopReason := 0 } },
    congrArg Host.Outcome.next ((runHcp_accepted _ ha).trans ?_), rfl, rfl, rfl, htms⟩
  simp only [hs, hi, hv, hf, ne_eq, not_true_eq_false, Bool.false_eq_true, or_self, if_false, Bool.not_true]
  rw [if_neg hrestart, if_neg hrange, if_neg hstate, conclude_okay]

/-! ## CSS_STOP and CSS_COUNTERS_CLEAR (R85, R93) -/

/-- What CSS_STOP does by its scope, outside an inauguration. -/
theorem cssStop_eq {h : Hcp} {s : State} {scope : StopScope} {pan : Word}
    (ha : accepts { opcode := 0x0205, classC := true } h s = true) (hi : inaugurating s = false) :
    exec (.cssStop h scope pan) s = .next (conclude h 0x0205 (match scope with
      | .train =>
        if s.css.state ≠ .leader then fails s .notPermitted 0
        else if (pan - s.css.pan).toInt < 2 then fails s .refused 0x0204
        else okay { s with css := { s.css with stopPan := some pan, stopWhy := 2 } }
      | .localOnly =>
        match s.css.state with
        | .stopped => okay s
        | .active | .leader => okay { s with css := { s.css with localStop := true } }
        | _ => okay (cssStopped s 1))) := by
  refine congrArg Host.Outcome.next ((runHcp_accepted _ ha).trans (congrArg (conclude h 0x0205) ?_))
  exact if_neg (by simp [hi])

/-- CSS_COUNTERS_CLEAR while a pan runs waits for its boundary. -/
theorem cssCountersClear_waits {h : Hcp} {s : State} (ha : accepts { opcode := 0x0206 } h s = true)
    (hs : s.css.state = .active ∨ s.css.state = .leader ∨ s.css.state = .integrating) :
    exec (.cssCountersClear h) s
      = .next (respond { s with css := { s.css with clearDue := true } } h 0x0206 .ok 0 []) := by
  refine congrArg Host.Outcome.next ((runHcp_accepted _ ha).trans ?_)
  rcases hs with hs | hs | hs <;> simp only [hs, conclude_okay]

/-- CSS_COUNTERS_CLEAR while none runs zeroes the counts. -/
theorem cssCountersClear_zeroes {h : Hcp} {s : State} (ha : accepts { opcode := 0x0206 } h s = true)
    (hs : s.css.state = .stopped ∨ s.css.state = .listen ∨ s.css.state = .coldstart ∨ s.css.state = .waitStart) :
    exec (.cssCountersClear h) s = .next (respond (cssZero s 0) h 0x0206 .ok 0 []) := by
  refine congrArg Host.Outcome.next ((runHcp_accepted _ ha).trans ?_)
  rcases hs with hs | hs | hs | hs <;> simp only [hs, conclude_okay]

/-- Settles O23: each command by its own lemma, CSS_STOP by its scope and the node's state (`cssStop_eq`). -/
theorem scheduleCommandsComplete : Obligations.ScheduleCommandsComplete := by
  unfold Obligations.ScheduleCommandsComplete
  refine ⟨fun h s len ident => schedLoadBegin_opens ident, fun h s off d l => schedLoadBlock_adds,
    fun h s met l b im u ha hl hb hs hf hm hu =>
      ⟨schedLoadEnd_instantiates ha hl hb hs hf hm hu, instantiateImage_effect hu⟩,
    fun h s m ha hs hi hv hf => ⟨fun hm => ?_, fun sec ns id hm => ?_⟩,
    fun h s pan ha hi hs hp => ?_, fun h s pan ha hi hs => ?_,
    fun h s ha => ⟨cssCountersClear_waits ha, cssCountersClear_zeroes ha⟩,
    fun h s pan ha hi => ⟨fun hs => ?_, fun hs => ⟨cssStopped s 1, ?_, ?_⟩⟩⟩
  · exact hm ▸ cssStart_cold ⟨ha, hs, hi, hv, hf⟩
  · exact hm ▸ cssStart_timed id ⟨ha, hs, hi, hv, hf⟩
  -- CSS_STOP
  · refine (cssStop_eq ha hi).trans ?_
    dsimp only
    rw [if_neg (by simp [hs]), if_neg (Int.not_lt.2 hp), conclude_okay]
  · refine (cssStop_eq ha hi).trans ?_
    rcases hs with hs | hs <;> simp only [hs, conclude_okay]
  · refine (cssStop_eq ha hi).trans ?_
    simp only [hs, conclude_okay]
  · refine (cssStop_eq ha hi).trans ?_
    rcases hs with hs | hs | hs | hs <;> simp only [hs, conclude_okay]
  · obtain ⟨hstate, hreason, hrun, halarm, -⟩ := cssStopped_effect s 1
    exact ⟨hstate, hreason, hrun, halarm⟩

end Sys2Proof.Proofs
end

section
/-! SUPPORT. What the fabric leaves as it was while it queues, sends and discards frames. -/

namespace Sys2Proof.Proofs

open Sys2Proof Sys2Proof.Machine

/-- The blocks beside the fabric: errors, time, CSS, the TAUs and the INE. -/
def besideFabric (s : State) : Global × Tms × Css × Taus × Ine := (s.glob, s.tms, s.css, s.tau, s.ine)

/-- Each of them is the same wherever that is. -/
theorem blocks_of_besideFabric {s t : State} (h : besideFabric t = besideFabric s) :
    t.glob = s.glob ∧ t.tms = s.tms ∧ t.css = s.css ∧ t.tau = s.tau ∧ t.ine = s.ine := by
  simpa only [besideFabric, Prod.mk.injEq] using h

/-! ## Records and alarms -/

theorem besideFabric_report (s : State) (c : Nat) (d : Bytes) : besideFabric (report s c d) = besideFabric s := by
  have h : { report s c d with evr := s.evr, host := s.host } = s := report_recorderOnly s c d
  have hbeside := congrArg besideFabric h
  exact hbeside

/-- An alarm of the fabric changes its register, and the vectors of the host interface. -/
theorem setAlarm_fab_form (s : State) (b : Nat) : setAlarm s .fab b
    = { s with fab := { s.fab with alarm := setBit s.fab.alarm b true }, host := (setAlarm s .fab b).host } := by
  unfold setAlarm
  dsimp only
  split
  · rw [msixRaise_form]; rfl
  · rfl

theorem besideFabric_setAlarm (s : State) (b : Nat) : besideFabric (setAlarm s .fab b) = besideFabric s := by
  rw [setAlarm_fab_form]; rfl

theorem besideFabric_setAlarmIf (s : State) (c : Bool) (b : Nat) :
    besideFabric (setAlarmIf s c .fab b) = besideFabric s := by
  cases c with
  | false => rfl
  | true => exact besideFabric_setAlarm s b

theorem besideFabric_countGot (s : State) (p n : Nat) (m b : Bool) :
    besideFabric (countGot s p n m b) = besideFabric s := by simp [besideFabric]

theorem besideFabric_countSent (s : State) (p n : Nat) (m b : Bool) :
    besideFabric (countSent s p n m b) = besideFabric s := by simp [besideFabric]

theorem besideFabric_countBad (s : State) (p reason : Nat) : besideFabric (countBad s p reason) = besideFabric s := by
  unfold countBad
  split
  · rfl
  · split <;> rfl

theorem besideFabric_event (s : State) (t typ : Nat) (d : Bytes) : besideFabric (event s t typ d) = besideFabric s := by
  simp [besideFabric]

theorem besideFabric_emit (s : State) (x : Sent) : besideFabric (emit s x) = besideFabric s := rfl

theorem besideFabric_mgpSends (s : State) (via : Option Nat) (x : Sent) :
    besideFabric (mgpSends s via x) = besideFabric s := by
  cases via with
  | none => rw [mgpSends_none, besideFabric_emit, besideFabric_countGot]
  | some p => rw [mgpSends_some, besideFabric_emit, besideFabric_countSent, besideFabric_countGot]

/-! ## Discards -/

theorem besideFabric_discard (s : State) (d : Discard) : besideFabric (Machine.discard s d) = besideFabric s := by
  have halarms : ∀ u : State,
      besideFabric (setAlarmIf (setAlarmIf u (d.reason == 1) .fab 1) (d.reason == 8) .fab 11) = besideFabric u :=
    fun u => (besideFabric_setAlarmIf _ _ 11).trans (besideFabric_setAlarmIf u _ 1)
  unfold Machine.discard
  dsimp only
  split
  · exact halarms _
  · exact (besideFabric_report _ _ _).trans (halarms _)

theorem besideFabric_violation (s : State) (i at_ kind reason residence : Nat) :
    besideFabric (violation s i at_ kind reason residence) = besideFabric s := by
  have hcheck : ∀ (u : State) p, besideFabric (tc6Check u p) = besideFabric u := fun u p => by
    unfold tc6Check
    dsimp only
    split <;> rfl
  unfold violation
  split
  · rfl
  · dsimp only
    rw [apply_ite besideFabric, besideFabric_event, besideFabric_mgpSends, ite_self, besideFabric_report, besideFabric_setAlarm]
    exact hcheck s _

theorem besideFabric_lose (s : State) (stream : Option Nat) (c : Bool) (egress reason : Nat) :
    besideFabric (lose s stream c egress reason) = besideFabric s := by
  unfold lose
  split
  · rfl
  · split
    · exact besideFabric_violation ..
    · rfl

theorem besideFabric_dropRouted (s : State) (port : Nat) (r : Routed) (reason at_ egress : Nat) :
    besideFabric (dropRouted s port r reason at_ egress) = besideFabric s :=
  (besideFabric_lose ..).trans (besideFabric_discard ..)

theorem besideFabric_releaseFrame (s : State) (k : Nat) : besideFabric (releaseFrame s k) = besideFabric s := by
  unfold releaseFrame
  split
  · rfl
  · split <;> rfl

theorem besideFabric_dropQueued (s : State) (p cls k reason : Nat) :
    besideFabric (dropQueued s p cls k reason) = besideFabric s := by
  unfold dropQueued
  split
  · rfl
  · exact (besideFabric_releaseFrame ..).trans ((besideFabric_lose ..).trans (besideFabric_discard ..))

/-- Queued frames tested again where gates change (R133). -/
theorem besideFabric_retestCss (s : State) : besideFabric (retestCss s) = besideFabric s := by
  refine foldl_keeps besideFabric _ (fun u p => ?_) _ s
  refine foldl_keeps besideFabric _ (fun u c => ?_) _ u
  refine foldl_keeps besideFabric _ (fun u k => ?_) _ u
  split
  · exact besideFabric_dropQueued ..
  · rfl

/-! ## Queues -/

theorem besideFabric_takeCells (s : State) (a : Alloc) (port cls : Nat) (stream : Option Nat) :
    besideFabric (takeCells s a port cls stream) = besideFabric s :=
  besideFabric_setAlarmIf ..

/-- A frame enters Brine and its egress queues, or is discarded (R122 to R128). -/
theorem besideFabric_brineAndQueue (s : State) (port : Nat) (r : Routed) (lost : Bool) :
    besideFabric (brineAndQueue s port r lost) = besideFabric s := by
  unfold brineAndQueue brineAndQueueAt
  extract_lets a above ok rcts h why bad good dropped numbered k h' taken fab queued woken
  split
  · exact besideFabric_dropRouted ..
  have hnumbered : besideFabric numbered = besideFabric s :=
    (foldl_keeps besideFabric _ (fun u e => besideFabric_dropRouted ..) bad dropped).trans
      (foldl_keeps besideFabric _ (fun u p => besideFabric_dropRouted ..) above s)
  have hqueued : besideFabric queued = besideFabric s := (besideFabric_takeCells numbered ..).trans hnumbered
  have hwoken : besideFabric woken = besideFabric s := by
    refine Eq.trans ?_ hqueued
    unfold woken
    split
    · simp [besideFabric]
    · rfl
  split
  · exact hnumbered
  · split
    · exact .trans (by simp [besideFabric]) hwoken
    · exact hwoken

theorem besideFabric_cutCells (s : State) (port : Nat) (r : Routed) : besideFabric (cutCells s port r) = besideFabric s :=
  besideFabric_takeCells ..

/-- A slot frame goes on along its line (R77, R118). -/
theorem besideFabric_forwardSlot (s : State) (port : Nat) (f : CssFrame) :
    besideFabric (forwardSlot s port f) = besideFabric s := by
  unfold forwardSlot
  dsimp only
  split
  · rfl
  · split
    · exact (besideFabric_countSent ..).trans (besideFabric_cutCells s port _)
    · exact besideFabric_brineAndQueue ..

/-- A slot frame of this node leaves a port, or waits there (R78). -/
theorem besideFabric_slotCopy (s : State) (p own : Nat) (inserted : Bool) (f : CssFrame) :
    besideFabric (slotCopy s p own inserted f) = besideFabric s := by
  unfold slotCopy
  dsimp only
  split
  · exact besideFabric_countSent ..
  · exact besideFabric_brineAndQueue ..

/-- A CSS frame proves bad (R114, R120). -/
theorem besideFabric_lineBad (s : State) (port : Nat) (r : Routed) (c : Nat) (cut : Bool) :
    besideFabric (lineBad s port r c cut) = besideFabric s := by
  unfold lineBad
  extract_lets counted d q
  have hcounted : besideFabric counted = besideFabric s := by
    unfold counted
    split
    · exact besideFabric_countGot ..
    · exact besideFabric_countBad ..
  split
  · exact (besideFabric_discard ..).trans ((besideFabric_setAlarm ..).trans hcounted)
  · exact (besideFabric_discard ..).trans hcounted

/-- A timing frame leaves on the node's own lines (R77). -/
theorem besideFabric_sendLines (s : State) (len : Nat) (mk : Nat → Sent) :
    besideFabric (sendLines s len mk) = besideFabric s := by
  refine foldl_keeps besideFabric _ (fun u p => ?_) _ s
  exact besideFabric_countSent u p len _ _

end Sys2Proof.Proofs
end

section
/-! SUPPORT. Slots and windows: fetching, sending and judging them (R73 to R80). -/

namespace Sys2Proof.Proofs

open Sys2Proof Sys2Proof.Machine

/-! ## Entries of the tables -/

theorem getElem?_modAt_self {α : Type} (l : List α) (i : Nat) (f : α → α) : (modAt l i f)[i]? = (l[i]?).map f := by
  induction l generalizing i with
  | nil => rfl
  | cons a r ih =>
    cases i with
    | zero => rfl
    | succ k => exact ih k

/-- Poison depends on the GLOBAL block alone. -/
theorem entryPoisoned_congr {s t : State} (h : t.glob = s.glob) (m k : Nat) : entryPoisoned t m k = entryPoisoned s m k := by
  simp only [entryPoisoned, poisonedWord, h]

/-! ## SLOT_FETCH (R75) -/

section slotFetch

variable {s : State} {i : Nat} {x : TxSlot} (hx : s.css.slots[i]? = some x) (hv : s.tms.tsValid = true)
  (hr : s.css.slotsRun = true) (ha : slotActive x (slotPan s x).1 = true) (hp : entryPoisoned s 5 i = false)

include hx hv hr ha hp

/-- A fetch for an active pan of a sound slot builds what the slot would carry. -/
theorem slotFetch_builds : slotFetchEffect i s = let u := untilNs s ((slotPan s x).2 - fetchNs)
    match slotBody u x (slotPan s x).2 with
    | some b => modSlot u i fun y => { y with built := some b }
    | none => if x.kind = 0 then
        setAlarm (modSlot u i fun y => { y with built := none, notReadyNow := y.notReadyNow + 1 }) .css 9
      else modSlot u i fun y => { y with built := none } := by
  have hsound : ¬ entryPoisoned (untilNs s ((slotPan s x).2 - fetchNs)) 5 i = true := by
    rw [entryPoisoned_congr (s := s) (by simp), hp]
    exact Bool.false_ne_true
  unfold slotFetchEffect
  rw [hx]
  exact (if_neg (by simp [hv, hr, ha])).trans (if_neg hsound)

/-- A data slot that is ready is built; one that is not is noted for the pan boundary, with its alarm. -/
theorem slotFetch_data (hk : x.kind = 0) : slotFetchEffect i s = let u := untilNs s ((slotPan s x).2 - 5000)
    if x.ready then modSlot u i fun y => { y with built := some (x.dataSeq, .data x.dataSeq x.data) }
    else setAlarm (modSlot u i fun y => { y with built := none, notReadyNow := y.notReadyNow + 1 }) .css 9 := by
  have hbody : ∀ u tx, slotBody u x tx = if x.ready then some (x.dataSeq, .data x.dataSeq x.data) else none := by
    intro u tx
    simp only [slotBody, hk]
  rw [slotFetch_builds hx hv hr ha hp]
  simp only [hbody, hk, if_true]
  cases x.ready <;> rfl

/-- A token or survey slot builds what waits for it. -/
theorem slotFetch_waiting (hk : x.kind ≠ 0) : slotFetchEffect i s = let u := untilNs s ((slotPan s x).2 - 5000)
    modSlot u i fun y => { y with built := slotBody u x (slotPan s x).2 } := by
  rw [slotFetch_builds hx hv hr ha hp]
  dsimp only
  rw [if_neg hk]
  cases slotBody (untilNs s ((slotPan s x).2 - fetchNs)) x (slotPan s x).2 <;> rfl

end slotFetch

/-! ## SLOT_TRANSMIT (R77, R78) -/

theorem length_leBytes (n v : Nat) : (leBytes n v).length = n := by
  induction n generalizing v with
  | zero => rfl
  | succ n ih => exact congrArg Nat.succ (ih _)

theorem length_beBytes (n v : Nat) : (beBytes n v).length = n := by
  rw [beBytes, List.length_reverse, length_leBytes]

/-- The length of a slot frame: addresses, EtherType and FCS (18 B), its header (24 B) and its payload, 64 B at least. -/
theorem slotFrame_len (f : CssFrame) : (slotFrame f).len = max 64 (18 + 24 + (bodyPayload f.body).length) := by
  have hlen : (slotFrame f).len
      = max 46 (hdrBytes (bodyType f.body) f.hdr false (bodyPayload f.body).length ++ bodyPayload f.body).length + 18 := rfl
  simp only [hlen, List.length_append, hdrBytes, length_beBytes]
  omega

/-- The ports of a copy depend on the twin pair, HELLO, the links and what was heard on them. -/
theorem copyPorts_congr {s t : State} (hine : t.ine = s.ine) (hup : t.ports.links = s.ports.links)
    (hheard : t.tms.links = s.tms.links) : copyPorts t = copyPorts s := by
  have hport : ∀ p, cssPort t p = cssPort s p := fun p => by simp only [cssPort, linkIsUp, inRun, hine, hup, hheard]
  simp only [copyPorts, ownLines, hine, funext hport]

/-- A survey report brought up to its transmit instant changes the TAUs alone. -/
theorem surveyAt_form (s : State) (id tx : Nat) (b : CssBody) : ∃ tau, (surveyAt s id tx b).1 = { s with tau := tau } := by
  have hseal : ∀ k, ∃ tau, surveySeal s k = { s with tau := tau } := fun k => by
    unfold surveySeal
    split
    · exact ⟨_, rfl⟩
    · exact ⟨_, rfl⟩
  unfold surveyAt
  split
  · split
    · exact ⟨_, rfl⟩
    · exact hseal _
  · exact ⟨_, rfl⟩

/-- Two steps that agree where CSS is as at first, which the second one keeps, make the same fold. -/
theorem foldl_css_congr {α : Type} {f g : State → α → State} {c : Css} (hfg : ∀ y a, y.css = c → f y a = g y a)
    (hg : ∀ y a, y.css = c → (g y a).css = c) (l : List α) {s : State} (hs : s.css = c) : l.foldl f s = l.foldl g s := by
  induction l generalizing s with
  | nil => rfl
  | cons a r ih => rw [List.foldl_cons, List.foldl_cons, hfg s a hs, ih (hg s a hs)]

/-- A frame that is built leaves at its offset, a copy at each port of the node's own lines. -/
theorem slotTransmit_sends {s : State} {i : Nat} {x : TxSlot} {q : Word} {b : CssBody} (hx : s.css.slots[i]? = some x)
    (hb : x.built = some (q, b)) (hv : s.tms.tsValid = true) (hr : s.css.slotsRun = true)
    (ha : slotActive x s.css.pan = true) (ins : Bool) :
    slotTransmitEffect i ins s =
      let tx := s.css.panStart + x.offset * 10
      let v := surveyAt (untilNs s tx) x.slotId tx b
      let w := countGot v.1 100 (max 64 (18 + 24 + (bodyPayload v.2).length))
      slotSent ((copyPorts s).foldl (fun y p => slotCopy y p (if x.producer < 256 then x.producer else 0) ins
        { hdr := cssHdr y p s.css.pan x.slotId, body := v.2 }) w) i x q v.2 := by
  have hguard : ¬ (!s.tms.tsValid || !s.css.slotsRun || !slotActive x s.css.pan) = true := by simp [hv, hr, ha]
  have hstart : (untilNs s (s.css.panStart + x.offset * 10)).css = s.css := by simp
  unfold slotTransmitEffect
  rw [hx]
  dsimp only
  rw [hb]
  dsimp only
  rw [if_neg hguard, hstart]
  obtain ⟨tau, htau⟩ := surveyAt_form (untilNs s (s.css.panStart + x.offset * 10)) x.slotId (s.css.panStart + x.offset * 10) b
  generalize surveyAt (untilNs s (s.css.panStart + x.offset * 10)) x.slotId (s.css.panStart + x.offset * 10) b = v at htau
  obtain ⟨u, body⟩ := v
  dsimp only at htau ⊢
  rw [slotFrame_len]
  generalize hw : countGot u 100 (max 64 (18 + 24 + (bodyPayload body).length)) = w
  have hcss : w.css = s.css := by rw [← hw, htau]; simp
  have hports : copyPorts w = copyPorts s := by
    refine copyPorts_congr ?_ ?_ ?_ <;> (rw [← hw, htau]; simp)
  rw [hports]
  refine congrArg (slotSent · i x q body) (foldl_css_congr (fun y p hy => ?_) (fun y p hy => ?_) _ hcss)
  · rw [hy]
  · obtain ⟨-, -, hkept, -, -⟩ := blocks_of_besideFabric (besideFabric_slotCopy y p
      (if x.producer < 256 then x.producer else 0) ins { hdr := cssHdr y p s.css.pan x.slotId, body := body })
    exact hkept.trans hy

/-- A copy that an exclusive TC7 window takes leaves at once. -/
theorem slotCopy_leaves {s : State} {p : Nat} {f : CssFrame} (own : Nat) (ins : Bool) (hq : (queueOf s p 7).isEmpty = true)
    (hg : fitsGate s p 7 (slotFrame f).len = true) :
    (slotCopy s p own ins f).wire = s.wire ++ [if ins then .css p f else .spoiled p] := by
  have hopen : ((queueOf s p 7).isEmpty && fitsGate s p 7 (slotFrame f).len) = true := by simp [hq, hg]
  have hcopy : slotCopy s p own ins f = emit (countTx s p (slotFrame f)) (if ins then .css p f else .spoiled p) := if_pos hopen
  rw [hcopy]
  simp [emit, countTx]

/-! ## WINDOW_CLOSE (R79, R80) -/

/-- At the close of an active window its counts are brought up to date, and what its lines brought is judged. -/
theorem windowClose_judges {s : State} {k : Nat} {w : RxWin} (hw : s.css.windows[k]? = some w) (hv : s.tms.tsValid = true)
    (hi : integrated s = true) (ha : winActive w s.css.pan = true) (hp : entryPoisoned s 5 (1024 + k) = false) :
    windowCloseEffect k s = let u := modWin (untilNs s (s.css.panStart + w.close * 10)) k fun _ => winCount w
      let vars := if w.delivery / 1024 = 2 then groupVars u k (w.delivery % 1024) else []
      if w.gotA || w.gotB then
        setAlarmIf (pdAgePans u (pdShort u vars w.value) (2 ^ w.periodLog2)) (!(w.gotA && w.gotB)) .css 8
      else pdAgePans (setAlarm u .css 7) vars (2 ^ w.periodLog2) := by
  unfold windowCloseEffect
  rw [hw]
  exact if_neg (by simp [hv, hi, ha, hp])

end Sys2Proof.Proofs
end

section
/-! SUPPORT. Received slot frames and the pan boundary (R71, R74, R77, R82 to R86, R206). -/

namespace Sys2Proof.Proofs

open Sys2Proof Sys2Proof.Machine

/-! ## CSS_FRAME_RECEIVE (R74, R77, R206) -/

section cssFrame

variable {s : State} {p : Nat} {f : CssFrame}

/-- A slot frame at a BB port is received there as a CSS frame, cut through or stored. -/
theorem cssFrameIn_bb (hp : p < 4) (bad : Option Nat) :
    ∃ cut, cssFrameIn p f bad s = cssReceive s p (lineRoute s p (slotFrame f)) bad cut (slotTake p f) := by
  unfold cssFrameIn
  dsimp only
  split
  · omega
  · exact ⟨_, rfl⟩
  · exact ⟨_, rfl⟩

/-- With a good FCS on a port that carries CSS frames it is counted and taken. -/
theorem cssFrameReceive_taken (hp : p < 4) (hc : cssPort s p = true) (hv : s.tms.tsValid = true) (hfcs : f.hdr.fcsOk = true) :
    exec (.cssFrameReceive p f) s = .next (slotTake p f (countRx s p (slotFrame f))) := by
  obtain ⟨cut, hin⟩ := cssFrameIn_bb (s := s) (f := f) hp (fcsBad f.hdr)
  refine congrArg Host.Outcome.next (hin.trans ?_)
  unfold cssReceive
  rw [if_neg (by simp [hp, hc, hv]), fcsBad, if_pos hfcs]
  rfl

/-- With a bad FCS it is discarded unread. -/
theorem cssFrameReceive_bad (hp : p < 4) (hc : cssPort s p = true) (hv : s.tms.tsValid = true) (hfcs : f.hdr.fcsOk = false) :
    ∃ cut, exec (.cssFrameReceive p f) s = .next (lineBad s p (lineRoute s p (slotFrame f)) 9 cut) := by
  obtain ⟨cut, hin⟩ := cssFrameIn_bb (s := s) (f := f) hp (fcsBad f.hdr)
  refine ⟨cut, congrArg Host.Outcome.next (hin.trans ?_)⟩
  unfold cssReceive
  rw [if_neg (by simp [hp, hc, hv]), fcsBad, if_neg (by simp [hfcs])]

/-- On a port that carries none, or without time service, it gets FILTER_DENY. -/
theorem cssFrameReceive_denied (hp : p < 4) (hup : linkIsUp s p = true) (hc : cssPort s p = false ∨ s.tms.tsValid = false)
    (hfcs : f.hdr.fcsOk = true) : exec (.cssFrameReceive p f) s = .next (Machine.discard (countRx s p (slotFrame f))
      { port := p, reason := 4, ingress := p, tenant := (vlanOf s (frameVid s p (slotFrame f))).tenant
        len := (slotFrame f).len }) := by
  obtain ⟨cut, hin⟩ := cssFrameIn_bb (s := s) (f := f) hp (fcsBad f.hdr)
  have hnot : (!(decide (p < 4) && cssPort s p && s.tms.tsValid)) = true := by
    rcases hc with h | h <;> simp [h]
  refine congrArg Host.Outcome.next (hin.trans ?_)
  unfold cssReceive cssDeny
  rw [if_pos hnot, if_neg (by simp [hup]), fcsBad, if_pos hfcs]
  rfl

/-- A STOPPED node counts every CSS frame, and takes none. -/
theorem slotTake_stopped (hs : s.css.state = .stopped) : slotTake p f s = rejectTotal s := by
  unfold slotTake
  split
  · rfl
  · exact if_pos (.inr hs)

/-- A count of rejected frames of a node on which no pan runs shows at once. -/
theorem rejectTotal_stopped (hs : s.css.state = .stopped) :
    rejectTotal s = { s with css := { s.css with rejectTotal := s.css.rejectTotal + 1 } } :=
  if_neg (by simp [panOn, hs])

/-- The windows of a slot, and whether a copy is valid at one, depend on CSS, TMS and the poison alone. -/
theorem windowsOf_congr {t : State} (hg : t.glob = s.glob) (hc : t.css = s.css) (id : Nat) : windowsOf t id = windowsOf s id := by
  simp only [windowsOf, hc, entryPoisoned_congr hg]

theorem copyValid_congr {t : State} (hc : t.css = s.css) (ht : t.tms = s.tms) (w : RxWin) (h : CssHdr) :
    copyValid t w h = copyValid s w h := by
  simp only [copyValid, panStartOf, panNs, panUs, hdrValid, schedId, hc, ht]

/-- A slot frame of one window reaches it on a node with all as it was but the fabric and the ports. -/
theorem cssFrameReceive_atWindow {i : Nat} {w : RxWin} {d : Bytes} {q : Word} (hp : p < 4) (hc : cssPort s p = true)
    (hv : s.tms.tsValid = true) (hfcs : f.hdr.fcsOk = true) (hl : lineMatches p f.hdr = true) (hi : integrated s = true)
    (hb : f.body = .data q d) (hws : windowsOf s f.hdr.slotId = [i]) (hw : s.css.windows[i]? = some w) :
    ∃ v, besideFabric v = besideFabric s ∧ exec (.cssFrameReceive p f) s
      = .next (if copyValid s w f.hdr then winTake v i w p f else winReject v i) := by
  generalize hu : countRx s p (slotFrame f) = u
  generalize hv' : countSent (forwardSlot u p f) 100 (slotFrame f).len = v
  have hbesideU : besideFabric u = besideFabric s := hu ▸ besideFabric_countGot ..
  have hbeside : besideFabric v = besideFabric s :=
    hv' ▸ (besideFabric_countSent ..).trans ((besideFabric_forwardSlot u p f).trans hbesideU)
  obtain ⟨-, -, hcssU, -, -⟩ := blocks_of_besideFabric hbesideU
  obtain ⟨hglob, htms, hcss, -, -⟩ := blocks_of_besideFabric hbeside
  have hrun : ¬ ((!lineMatches p f.hdr) = true ∨ u.css.state = .stopped) := by
    rw [hl, hcssU]
    rintro (h | h)
    · cases h
    · simp [integrated, h] at hi
  have hhere : ¬ (!integrated v || (windowsOf v f.hdr.slotId).isEmpty) = true := by
    rw [windowsOf_congr hglob hcss, hws]
    unfold integrated at hi ⊢
    rw [hcss, hi]
    exact Bool.false_ne_true
  refine ⟨v, hbeside, (cssFrameReceive_taken hp hc hv hfcs).trans (congrArg Host.Outcome.next ?_)⟩
  have htake : slotTake p f u = slotDeliver (forwardSlot u p f) p f := by
    unfold slotTake
    rw [hb]
    exact if_neg hrun
  have hdeliver : slotDeliver (forwardSlot u p f) p f = winCopy p f v i := by
    unfold slotDeliver
    dsimp only
    rw [hv', if_neg hhere, windowsOf_congr hglob hcss, hws]
    rfl
  rw [hu, htake, hdeliver]
  unfold winCopy
  rw [hcss, hw]
  dsimp only
  rw [copyValid_congr hcss htms]

/-- The first valid copy of a window without a target is kept in it. -/
theorem winTake_first {i : Nat} {w : RxWin} {d : Bytes} {q : Word} (hb : f.body = .data q d)
    (hw : s.css.windows[i]? = some w) (ha : w.gotA = false) (hb' : w.gotB = false) (hd : w.delivery = 0) :
    (winTake s i w p f).css.windows[i]? = some { w with
        gotA := !f.hdr.lineB, gotB := f.hdr.lineB, lastPan := f.hdr.pan.truncate 16, stale := false
        line := f.hdr.lineB, validEver := true, age := 0, value := d }
      ∧ (winTake s i w p f).css.slots = s.css.slots ∧ (winTake s i w p f).css.rejectNow = s.css.rejectNow
      ∧ (winTake s i w p f).tms = s.tms := by
  have hkept : ∀ u, winDeliver u i w p f = u := fun u => by
    unfold winDeliver
    rw [hd]
    rfl
  unfold winTake
  dsimp only
  rw [if_pos (by simp [ha, hb']), hkept, hb]
  refine ⟨?_, rfl, rfl, rfl⟩
  simp only [modWin, getElem?_modAt_self, hw, Option.map_some, ha, hb', Bool.false_or, bodyBytes]

/-- A later copy marks its line in its window. -/
theorem winTake_later {i : Nat} {w : RxWin} {d : Bytes} {q : Word} (hb : f.body = .data q d)
    (hw : s.css.windows[i]? = some w) (hgot : w.gotA = true ∨ w.gotB = true) :
    (winTake s i w p f).css.windows[i]? = some { w with gotA := w.gotA || !f.hdr.lineB, gotB := w.gotB || f.hdr.lineB }
      ∧ (winTake s i w p f).tms = s.tms := by
  have hfirst : (!w.gotA && !w.gotB) = false := by
    rcases hgot with h | h <;> simp [h]
  have hmark : winTake s i w p f
      = modWin s i fun x => { x with gotA := x.gotA || !f.hdr.lineB, gotB := x.gotB || f.hdr.lineB } := by
    unfold winTake
    dsimp only
    rw [hfirst, if_neg Bool.false_ne_true, hb]
    split
    next h => cases h
    · rfl
  rw [hmark]
  refine ⟨?_, rfl⟩
  simp only [modWin, getElem?_modAt_self, hw, Option.map_some]

end cssFrame

/-! ## The pan boundary of a LEADER (R71, R82, R85, R92, R93) -/

/-- A clear keeps the counts of the pan that ends, which are then the only ones. -/
theorem notReady_cleared (l : List TxSlot) :
    ((((l.map fun x => { x with notReady := 0, notReadyNow := 0 }).zipWith (fun x y => { x with notReadyNow := y.notReadyNow })
      l).map fun x => { x with notReady := sat16 (x.notReady + x.notReadyNow), notReadyNow := 0 }).map TxSlot.notReady)
      = l.map fun x => sat16 (0 + x.notReadyNow) := by
  induction l with
  | nil => rfl
  | cons x r ih => exact congrArg (_ :: ·) ih

/-- Counts of not-ready fetches at a boundary: from 0 where a clear waits for it, and with those of the pan that ends. -/
theorem boundaryCounts_form (s : State) (n : Word) : ∃ slots windows due pan,
    boundaryCounts s n = { s with css := { s.css with
        clearDue := due, clearPan := pan, rejectTotal := s.css.rejectTotal + BitVec.ofNat 32 s.css.rejectNow, rejectNow := 0
        slots := slots, windows := windows } }
      ∧ (slots.map fun x => x.notReady) = s.css.slots.map fun x =>
          sat16 ((if s.css.clearDue then 0 else x.notReady) + x.notReadyNow) := by
  unfold boundaryCounts
  split
  · exact ⟨_, _, _, _, rfl, notReady_cleared s.css.slots⟩
  · exact ⟨_, _, _, _, rfl, List.map_map⟩

/-- A pan that begins at `start`: the counts as at its boundary, its number, its start, and the guard in effect. -/
theorem panBegin_effect (s : State) (n : Word) (start : Nat) : (panBegin s n start).css.state = s.css.state
    ∧ (panBegin s n start).css.rejectTotal = s.css.rejectTotal + BitVec.ofNat 32 s.css.rejectNow
    ∧ (panBegin s n start).css.rejectNow = 0 ∧ (panBegin s n start).css.pan = n
    ∧ (panBegin s n start).css.panStart = start
    ∧ (panBegin s n start).css.guardEff = s.css.guardCfg + s.css.guardAllow
    ∧ (panBegin s n start).css.missTotal = s.css.missTotal
    ∧ ((panBegin s n start).css.slots.map fun x => x.notReady) = s.css.slots.map (fun x =>
        sat16 ((if s.css.clearDue then 0 else x.notReady) + x.notReadyNow))
    ∧ (panBegin s n start).ine = s.ine := by
  obtain ⟨slots, windows, due, pan, hcounts, hslots⟩ := boundaryCounts_form s n
  obtain ⟨alarm, host, hguard⟩ := guardUpdate_form
    { boundaryCounts s n with css := { (boundaryCounts s n).css with pan := n, panStart := start } }
  unfold panBegin
  dsimp only
  rw [hguard, hcounts]
  exact ⟨rfl, rfl, rfl, rfl, rfl, rfl, rfl, hslots, rfl⟩

/-- A cycle-start sent is noted as that of the pan, and changes nothing else of CSS or the INE. -/
theorem sendCycleStart_effect (s : State) :
    (sendCycleStart s).css = { s.css with lastCs := some s.css.pan, prevCs := s.css.lastCs }
      ∧ (sendCycleStart s).ine = s.ine := by
  obtain ⟨-, -, hcss, -, hine⟩ := blocks_of_besideFabric (t := sendCycleStart s)
    (s := { s with css := { s.css with lastCs := some s.css.pan, prevCs := s.css.lastCs } }) (besideFabric_sendLines _ _ _)
  exact ⟨hcss, hine⟩

section panNext

variable {s : State}

/-- A LEADER without a stop starts the next pan. -/
theorem panNext_leads (hs : s.css.state = .leader) (hl : s.css.localStop = false) (hp : s.css.stopPan ≠ some (s.css.pan + 1)) :
    panNext s = sendCycleStart (panBegin s (s.css.pan + 1) (s.css.panStart + panNs s)) := by
  have hstate : (panBegin s (s.css.pan + 1) (s.css.panStart + panNs s)).css.state = .leader :=
    (panBegin_effect s _ _).1.trans hs
  unfold panNext
  dsimp only
  have hactive : ¬ s.css.state = .active := by simp [hs]
  rw [if_neg (by simp [hl]), if_neg hp, if_neg hactive, if_pos hstate]

/-- A stop that is due at the boundary. -/
theorem panNext_localStop (hl : s.css.localStop = true) :
    panNext s = retestCss (cssStopped (boundaryCounts s (s.css.pan + 1)) 1) := if_pos hl

theorem panNext_stopPan (hl : s.css.localStop = false) (hp : s.css.stopPan = some (s.css.pan + 1)) :
    panNext s = retestCss (cssStopped (boundaryCounts s (s.css.pan + 1)) s.css.stopWhy) :=
  (if_neg (by simp [hl])).trans (if_pos hp)

/-- The stop itself: STOPPED for its reason, with every count up to date. -/
theorem boundaryStop_effect (s : State) (n : Word) (why : Nat) :
    let t := retestCss (cssStopped (boundaryCounts s n) why)
    t.css.state = .stopped ∧ t.css.stopReason = why
      ∧ t.css.rejectTotal = s.css.rejectTotal + BitVec.ofNat 32 s.css.rejectNow ∧ t.css.rejectNow = 0 ∧ t.ine = s.ine := by
  obtain ⟨slots, windows, due, pan, hcounts, -⟩ := boundaryCounts_form s n
  obtain ⟨hstate, hreason, -, -, htotal, hnow, hine⟩ := cssStopped_effect (boundaryCounts s n) why
  obtain ⟨-, -, hcss, -, hkept⟩ := blocks_of_besideFabric (besideFabric_retestCss (cssStopped (boundaryCounts s n) why))
  have hsettled : (boundaryCounts s n).css.rejectTotal + BitVec.ofNat 32 (boundaryCounts s n).css.rejectNow
      = s.css.rejectTotal + BitVec.ofNat 32 s.css.rejectNow := by
    rw [hcounts]
    simp
  dsimp only
  rw [hcss, hkept, hine, htotal, hsettled]
  exact ⟨hstate, hreason, rfl, hnow, by rw [hcounts]⟩

/-- At a pan boundary outside an inauguration, where nothing is due of the twin pair, only CSS moves. -/
theorem panBoundary_leader {u : State} (hs : s.css.state = .leader) (hv : s.tms.tsValid = true)
    (him : s.css.image.isSome = true) (hu : panNext (untilNs s (s.css.panStart + panNs s)) = u) (hine : u.ine = s.ine)
    (hmove : s.ine.twin.atBoundary = none) (hdue : s.ine.twin.due = false) (hheld : ∀ p, bbHeld s p = false)
    (ht : s.ine.state ≠ .topology) (hi : s.ine.state ≠ .installing) (hst : s.ine.state ≠ .stopping) :
    exec .panBoundary s = .next u := by
  have htwin : twinBoundary u = u := by
    unfold twinBoundary
    dsimp only
    rw [hine, hmove, hdue]
    rfl
  have hfree : [0, 1, 2, 3].filter (bbHeld u) = [] := by
    have hsame : ∀ p, bbHeld u p = false := fun p => by
      have hp := hheld p
      unfold bbHeld at hp ⊢
      rw [hine]
      exact hp
    simp [hsame]
  have hhold : twinPan u = u := by
    unfold twinPan bbHold
    rw [htwin, hfree]
    rfl
  have hpan : inaugPan u = u := by
    unfold inaugPan
    rw [hine, if_neg ht, if_neg fun h => hst h.1, if_neg fun h => hi h.1]
  have hrun : ¬ (!s.tms.tsValid || s.css.image.isNone) = true := by
    rw [hv, Option.isNone_eq_false_iff.2 him]
    exact Bool.false_ne_true
  refine congrArg Host.Outcome.next ?_
  unfold panBoundaryEffect
  rw [if_neg hrun, hs]
  dsimp only
  rw [hu, hhold, hpan]

end panNext

/-- The boundary of a LEADER's pan: the counts are brought up to date, then the next pan starts or the node stops. -/
theorem panBoundary_moves {s : State} (hs : s.css.state = .leader) (hv : s.tms.tsValid = true)
    (him : s.css.image.isSome = true) (hmove : s.ine.twin.atBoundary = none) (hdue : s.ine.twin.due = false)
    (hheld : ∀ p, bbHeld s p = false) (ht : s.ine.state ≠ .topology) (hi : s.ine.state ≠ .installing)
    (hst : s.ine.state ≠ .stopping) : ∃ t, exec .panBoundary s = .next t
      ∧ t.css.rejectTotal = s.css.rejectTotal + BitVec.ofNat 32 s.css.rejectNow ∧ t.css.rejectNow = 0
      ∧ (s.css.localStop = false → s.css.stopPan ≠ some (s.css.pan + 1) →
          t.css.state = .leader ∧ t.css.pan = s.css.pan + 1 ∧ t.css.panStart = s.css.panStart + panNs s
          ∧ t.css.lastCs = some (s.css.pan + 1) ∧ t.css.guardEff = s.css.guardCfg + s.css.guardAllow
          ∧ t.css.missTotal = s.css.missTotal
          ∧ (t.css.slots.map fun x => x.notReady) = s.css.slots.map fun x =>
              sat16 ((if s.css.clearDue then 0 else x.notReady) + x.notReadyNow))
      ∧ (s.css.localStop = true → t.css.state = .stopped ∧ t.css.stopReason = 1)
      ∧ (s.css.localStop = false → s.css.stopPan = some (s.css.pan + 1) →
          t.css.state = .stopped ∧ t.css.stopReason = s.css.stopWhy) := by
  generalize hu : untilNs s (s.css.panStart + panNs s) = u
  have hcss : u.css = s.css := by rw [← hu]; simp
  have hine : u.ine = s.ine := by rw [← hu]; simp
  have hns : panNs u = panNs s := by simp only [panNs, panUs, hcss]
  have hexec : (panNext u).ine = s.ine → exec .panBoundary s = .next (panNext u) :=
    fun h => panBoundary_leader hs hv him (congrArg panNext hu) h hmove hdue hheld ht hi hst
  refine ⟨panNext u, ?_⟩
  cases hl : s.css.localStop with
  | true =>
    obtain ⟨hstate, hreason, htotal, hnow, hkept⟩ := boundaryStop_effect u (s.css.pan + 1) 1
    rw [hcss] at htotal
    rw [panNext_localStop (hcss ▸ hl), hcss] at hexec ⊢
    exact ⟨hexec (hkept.trans hine), htotal, hnow, nofun, fun _ => ⟨hstate, hreason⟩, nofun⟩
  | false =>
    by_cases hp : s.css.stopPan = some (s.css.pan + 1)
    · obtain ⟨hstate, hreason, htotal, hnow, hkept⟩ := boundaryStop_effect u (s.css.pan + 1) s.css.stopWhy
      rw [hcss] at htotal
      rw [panNext_stopPan (hcss ▸ hl) (hcss ▸ hp), hcss] at hexec ⊢
      exact ⟨hexec (hkept.trans hine), htotal, hnow, fun _ h => absurd hp h, nofun, fun _ _ => ⟨hstate, hreason⟩⟩
    · obtain ⟨hstate, htotal, hnow, hpan, hstart, hguard, hmiss, hslots, hkept⟩ :=
        panBegin_effect u (s.css.pan + 1) (s.css.panStart + panNs s)
      obtain ⟨hsent, hsentIne⟩ := sendCycleStart_effect (panBegin u (s.css.pan + 1) (s.css.panStart + panNs s))
      have hnext : panNext u = sendCycleStart (panBegin u (s.css.pan + 1) (s.css.panStart + panNs s)) := by
        rw [panNext_leads (hcss ▸ hs) (hcss ▸ hl) (hcss ▸ hp), hcss, hns]
      rw [hcss] at hstate htotal hguard hmiss hslots
      rw [hnext] at hexec ⊢
      refine ⟨hexec (hsentIne.trans (hkept.trans hine)), ?_⟩
      rw [hsent]
      exact ⟨htotal, hnow, fun _ _ => ⟨hstate.trans hs, hpan, hstart, congrArg some hpan, hguard, hmiss, hslots⟩, nofun,
        fun _ h => absurd h hp⟩

/-- Settles O20: fetching and sending by what a slot has built (`slotFetch_builds`, `slotTransmit_sends`), a window's close by
what its lines brought (`windowClose_judges`), a received frame by its port and its window (`cssFrameReceive_atWindow`), the pan
boundary by `panBoundary_moves`. -/
theorem slotsAndWindowsFollowTheirPan : Obligations.SlotsAndWindowsFollowTheirPan := by
  unfold Obligations.SlotsAndWindowsFollowTheirPan
  refine ⟨fun s i x hx hv hr ha hp => ⟨fun hk => ?_, fun hk => ?_⟩, fun s i x q b hx hb hv hr ha ins => ?_,
    fun s i x q d => rfl, fun s p own ins f hq hg => slotCopy_leaves own ins hq hg, fun s k w hw hv hi ha hp => ?_,
    fun s p f i w d q hp hc hv hfcs hl hi hb hws hw => ?_, fun s p f hp hc hv hfcs hs => ?_, fun s p f hp hc hv hfcs => ?_,
    fun s p f hp hup hc hfcs => cssFrameReceive_denied hp hup hc hfcs,
    fun s hs hv him hmove hdue hheld ht hi hst => panBoundary_moves hs hv him hmove hdue hheld ht hi hst⟩
  -- slots
  · exact congrArg Host.Outcome.next (slotFetch_data hx hv hr ha hp hk)
  · exact congrArg Host.Outcome.next (slotFetch_waiting hx hv hr ha hp hk)
  · exact congrArg Host.Outcome.next (slotTransmit_sends hx hb hv hr ha ins)
  -- the close of a window
  · have hclose := windowClose_judges hw hv hi ha hp
    refine ⟨fun hA hB => ?_, fun hA hB => ?_, fun hA hB => ?_, fun hA hB => ?_⟩ <;>
      refine congrArg Host.Outcome.next (hclose.trans ?_)
    all_goals
      simp only [winCount, winSettle, hA, hB]
      rfl
  -- a received frame: at its window, on a STOPPED node, with a bad FCS
  · obtain ⟨v, hbeside, hexec⟩ := cssFrameReceive_atWindow hp hc hv hfcs hl hi hb hws hw
    obtain ⟨-, htms, hcss, -, -⟩ := blocks_of_besideFabric hbeside
    have hwin : v.css.windows[i]? = some w := hcss ▸ hw
    refine ⟨fun hok hA hB hd => ⟨_, hexec, ?_⟩, fun hok hgot => ⟨_, hexec, ?_⟩, fun hbad => ⟨_, hexec, ?_⟩⟩
    · obtain ⟨hkept, hslots, hnow, htime⟩ := winTake_first (p := p) hb hwin hA hB hd
      rw [if_pos hok, hkept, hslots, hnow, htime, hcss, htms]
      exact ⟨rfl, rfl, rfl, rfl⟩
    · obtain ⟨hmarked, htime⟩ := winTake_later (p := p) hb hwin hgot
      rw [if_pos hok, hmarked, htime, htms]
      exact ⟨rfl, rfl⟩
    · rw [if_neg (by simp [hbad])]
      refine ⟨?_, htms⟩
      simp only [winReject, modWin, getElem?_modAt_self, hwin, Option.map_some]
  · have hstopped : (countRx s p (slotFrame f)).css.state = .stopped := by simpa [countRx] using hs
    refine ⟨_, cssFrameReceive_taken hp hc hv hfcs, ?_⟩
    rw [slotTake_stopped hstopped, rejectTotal_stopped hstopped]
    simp [countRx]
  · obtain ⟨cut, hexec⟩ := cssFrameReceive_bad hp hc hv hfcs
    obtain ⟨-, htms, hcss, htau, -⟩ := blocks_of_besideFabric (besideFabric_lineBad s p (lineRoute s p (slotFrame f)) 9 cut)
    exact ⟨_, hexec, hcss, htms, htau⟩

end Sys2Proof.Proofs
end

section
/-! SUPPORT. Timed actions: how a TAU leaves ARMED, the tokens and reports that reach it, and the decisions of its issuer
(R100 to R109). -/

namespace Sys2Proof.Proofs

open Sys2Proof Sys2Proof.Machine

/-! ## What the operations on a TAU leave as it was -/

/-- A TAU depends on the TAU block alone. -/
theorem tauOf_congr {s t : State} (h : t.tau = s.tau) (k : Nat) : tauOf t k = tauOf s k := by
  simp only [tauOf, h]

/-- TAUs and CSS, which events, harvests and counts of frames leave as they were. -/
def actionView (s : State) : Taus × Css := (s.tau, s.css)

theorem blocks_of_actionView {s t : State} (h : actionView t = actionView s) : t.tau = s.tau ∧ t.css = s.css := by
  simpa only [actionView, Prod.mk.injEq] using h

theorem actionView_tauEvent (s : State) (k o r f at_ : Nat) : actionView (tauEvent s k o r f at_) = actionView s := by
  unfold tauEvent
  dsimp only
  split
  · rfl
  · split
    · rfl
    · simp [actionView]

theorem actionView_harvestAbort (s : State) (b r : Nat) : actionView (harvestAbort s b r) = actionView s := by
  unfold harvestAbort
  dsimp only
  split
  · rfl
  · simp [actionView]

theorem actionView_untilScale (s : State) (w : Bool) (t : Nat) : actionView (untilScale s w t) = actionView s := by
  cases w <;> simp [untilScale, actionView]

/-! ## A TAU leaves ARMED or COMMITTED (Table 4-4) -/

/-- The record of a TAU that has fired or aborted: a commit-gated one with a survey waits for its report's slot. -/
def ended (r : TauRec) (fired : Bool) (reason : Nat) (reports : List Survey) : TauRec :=
  { r with
    state := if r.mode = .gated ∧ r.survey then .surveyWait else .idle, reason := reason, fired := fired, reports := reports }

theorem ended_survey {r : TauRec} (h : r.mode = .gated ∧ r.survey) (fired : Bool) (reason : Nat) (l : List Survey) :
    ended r fired reason l = { r with state := .surveyWait, reason := reason, fired := fired, reports := l } := by
  rw [ended, if_pos h]

theorem ended_idle {r : TauRec} (h : ¬ (r.mode = .gated ∧ r.survey)) (fired : Bool) (reason : Nat) (l : List Survey) :
    ended r fired reason l = { r with state := .idle, reason := reason, fired := fired, reports := l } := by
  rw [ended, if_neg h]

/-- A report that takes the fields of T_fire changes the survey table of its TAU alone, and no other block. -/
theorem surveySeal_record (s : State) (k : Nat) : (∃ reports, tauOf (surveySeal s k) k = { tauOf s k with reports := reports })
    ∧ (surveySeal s k).css = s.css := by
  unfold surveySeal
  split
  · exact ⟨⟨_, rfl⟩, rfl⟩
  · exact ⟨⟨_, tauOf_putTau_self s k _⟩, rfl⟩

/-- A TAU that ends keeps all of its record but the state, the outcome and the survey table. -/
theorem tauFinish_record (s : State) (k : Nat) (fired : Bool) (reason : Nat) (c : Bool) (at_ : Nat) :
    (∃ reports, tauOf (tauFinish s k fired reason c at_) k = ended (tauOf s k) fired reason reports)
      ∧ (tauFinish s k fired reason c at_).css = s.css := by
  unfold tauFinish
  extract_lets r report own s₁ e taus s₂
  split
  next hsurvey =>
    have hrecord : tauOf s₂ k = ended (tauOf s k) fired reason own := by
      have hqueued : tauOf s₂ k = tauOf s₁ k := rfl
      rw [hqueued, ended_survey hsurvey]
      exact tauOf_putTau_self s k _
    split
    · obtain ⟨⟨reports, hsealed⟩, hcss⟩ := surveySeal_record s₂ k
      exact ⟨⟨reports, by rw [hsealed, hrecord]; rfl⟩, hcss⟩
    · exact ⟨⟨own, hrecord⟩, rfl⟩
  next hsurvey =>
    refine ⟨⟨r.reports, ?_⟩, rfl⟩
    rw [tauOf_putTau_self, ended_idle hsurvey]

/-- An abort ends a TAU unfired, with its reason. -/
theorem tauAbort_record (s : State) (k reason : Nat) :
    (∃ reports, tauOf (tauAbort s k reason) k = ended (tauOf s k) false reason reports)
      ∧ (tauAbort s k reason).css = s.css := by
  unfold tauAbort
  extract_lets at_ s₁
  have hharvest : actionView s₁ = actionView s := by
    unfold s₁
    split
    · exact actionView_harvestAbort ..
    · rfl
  obtain ⟨htau, hcss⟩ := blocks_of_actionView ((actionView_tauEvent s₁ k 2 reason 0 at_).trans hharvest)
  obtain ⟨⟨reports, hrecord⟩, hkept⟩ := tauFinish_record (tauEvent s₁ k 2 reason 0 at_) k false reason false at_
  exact ⟨⟨reports, by rw [hrecord, tauOf_congr htau]⟩, hkept.trans hcss⟩

theorem ended_state (r : TauRec) (fired : Bool) (reason : Nat) (l : List Survey) :
    (ended r fired reason l).state = .idle ∨ (ended r fired reason l).state = .surveyWait := by
  unfold ended
  split
  · exact .inr rfl
  · exact .inl rfl

/-! ## Decisions of the issuer (R105) -/

section decision

variable {s : State} {h : Hcp} {k src key slot : Nat}

/-- A decision on a TAU of another tenant or issuer, or on none under a gate, has a bad target. -/
theorem decideFault_stranger
    (hr : (tauOf s k).mode ≠ .gated ∨ (tauOf s k).owner ≠ some h.tenant ∨ (tauOf s k).issuer ≠ nodeUnit s) :
    decideFault s h k src key slot = some (.refused, 0x0105) := if_pos hr

/-- One decided before, or no longer ARMED, is decided. -/
theorem decideFault_decided (hm : (tauOf s k).mode = .gated) (ho : (tauOf s k).owner = some h.tenant)
    (hi : (tauOf s k).issuer = nodeUnit s) (hd : (tauOf s k).decided = true ∨ (tauOf s k).state ≠ .armed) :
    decideFault s h k src key slot = some (.refused, 0x0108) := by
  have hown : ¬ ((tauOf s k).mode ≠ .gated ∨ (tauOf s k).owner ≠ some h.tenant ∨ (tauOf s k).issuer ≠ nodeUnit s) := by
    simp [hm, ho, hi]
  exact (if_neg hown).trans (if_pos (hd.elim (fun hd => .inr (.inl hd)) .inl))

/-- Where every test of R105 passes, the caller issues the action, and a CSS source has its commit-token slot. -/
theorem decideFault_none (hf : decideFault s h k src key slot = none) : (tauOf s k).mode = .gated
    ∧ (tauOf s k).owner = some h.tenant ∧ (tauOf s k).issuer = nodeUnit s
    ∧ ((tauOf s k).wayside = false → ∃ x, (s.css.slots.find? fun x => x.slotId == slot && x.kind == 1) = some x) := by
  unfold decideFault at hf
  dsimp only at hf
  split at hf
  · cases hf
  next hown =>
  obtain ⟨hm, ho, hi⟩ : (tauOf s k).mode = .gated ∧ (tauOf s k).owner = some h.tenant ∧ (tauOf s k).issuer = nodeUnit s := by
    simpa only [not_or, not_not] using hown
  refine ⟨hm, ho, hi, fun hw => ?_⟩
  rw [hw] at hf
  split at hf
  · cases hf
  split at hf
  · cases hf
  rw [if_neg Bool.false_ne_true] at hf
  split at hf
  · cases hf
  next x hx => exact ⟨x, hx⟩

/-- The state once the token of a decision is in its slot, or in the wayside store. -/
def tokenPlaced (s : State) (k slot decision : Nat) : State :=
  let r := tauOf s k
  let t := mkToken s r decision
  if r.wayside then
    { s with tau := { s.tau with
        tokens := tset none s.tau.tokens k (some { token := t, commitAt := r.commitAt, wyt := r.wyt, nextAt := s.mono }) } }
  else
    match s.css.slots.findIdx? fun x => x.slotId == slot && x.kind == 1 with
    | some i => modSlot s i fun x => { x with waiting := some (.token t) }
    | none => s

/-- With its token placed, a decision applies to the issuer's own TAU. -/
theorem decideTau_eq (decision : Nat) : decideTau s k slot decision =
    if decision = 1 then putTau (tokenPlaced s k slot decision) k
      { tauOf s k with decided := true, verdict := decision, state := .committed }
    else tauAbort (putTau (tokenPlaced s k slot decision) k { tauOf s k with decided := true, verdict := decision }) k 2 := rfl

theorem decideTau_commit : decideTau s k slot 1 = putTau (tokenPlaced s k slot 1) k
    { tauOf s k with decided := true, verdict := 1, state := .committed } := (decideTau_eq 1).trans (if_pos rfl)

theorem decideTau_abort : decideTau s k slot 2 = tauAbort (putTau (tokenPlaced s k slot 2) k
    { tauOf s k with decided := true, verdict := 2 }) k 2 := (decideTau_eq 2).trans (if_neg (by decide))

/-- The token waits in the slot named, or is stored for WL0; nothing else changes. -/
theorem tokenPlaced_form (decision : Nat)
    (hslot : (tauOf s k).wayside = false → ∃ x, (s.css.slots.find? fun x => x.slotId == slot && x.kind == 1) = some x) :
    ∃ tokens slots, tokenPlaced s k slot decision
        = { s with tau := { s.tau with tokens := tokens }, css := { s.css with slots := slots } }
      ∧ ((tauOf s k).wayside = true →
          (tget none tokens k).map WaysideTok.token = some (mkToken s (tauOf s k) decision))
      ∧ ((tauOf s k).wayside = false →
          ∃ x ∈ slots, x.slotId = slot ∧ x.waiting = some (.token (mkToken s (tauOf s k) decision))) := by
  unfold tokenPlaced
  dsimp only
  cases hw : (tauOf s k).wayside with
  | true => exact ⟨_, s.css.slots, rfl, fun _ => by rw [tget_tset_self]; rfl, nofun⟩
  | false =>
    rw [if_neg Bool.false_ne_true]
    obtain ⟨x, hx⟩ := hslot hw
    cases hidx : s.css.slots.findIdx? fun x => x.slotId == slot && x.kind == 1 with
    | none =>
      have hnone := List.findIdx?_eq_none_iff.1 hidx x (List.mem_of_find?_eq_some hx)
      exact absurd (List.find?_some hx) (by simp [hnone])
    | some i =>
      obtain ⟨hi, hnamed, -⟩ := List.findIdx?_eq_some_iff_getElem.1 hidx
      simp only [Bool.and_eq_true, beq_iff_eq] at hnamed
      have hput : (modAt s.css.slots i fun x => { x with waiting := some (.token (mkToken s (tauOf s k) decision)) })[i]?
          = some { s.css.slots[i] with waiting := some (.token (mkToken s (tauOf s k) decision)) } := by
        rw [getElem?_modAt_self, List.getElem?_eq_getElem hi, Option.map_some]
      exact ⟨s.tau.tokens, _, rfl, nofun, fun _ => ⟨_, List.mem_of_getElem? hput, hnamed.1, rfl⟩⟩

/-- A decision that a test of R105 refuses changes nothing but the response. -/
theorem tauCommit_refused (ha : accepts { opcode := 0x0304, classC := true } h s = true) (hk : k < 64) {st : Status} {reason : Nat}
    (hf : decideFault s h k src key slot = some (st, reason)) :
    exec (.tauCommit h k src key slot) s = .next (respond s h 0x0304 st reason []) := by
  refine congrArg Host.Outcome.next ((runHcp_accepted _ ha).trans ?_)
  unfold decideCmd
  rw [if_neg (Nat.not_le.2 hk), hf, conclude_fails]

/-- One that passes them is applied at once. -/
theorem decideCmd_passes (hk : k < 64) (hf : decideFault s h k src key slot = none) (decision : Nat) :
    decideCmd h k src key slot decision s = okay (decideTau s k slot decision) := by
  unfold decideCmd
  rw [if_neg (Nat.not_le.2 hk), hf]

theorem tauCommit_commits (ha : accepts { opcode := 0x0304, classC := true } h s = true) (hk : k < 64)
    (hf : decideFault s h k src key slot = none) :
    exec (.tauCommit h k src key slot) s = .next (respond (decideTau s k slot 1) h 0x0304 .ok 0 []) := by
  refine congrArg Host.Outcome.next ((runHcp_accepted _ ha).trans ?_)
  rw [decideCmd_passes hk hf, conclude_okay]

theorem tauAbort_aborts (ha : accepts { opcode := 0x0305, classC := true } h s = true) (hk : k < 64)
    (hf : decideFault s h k src key slot = none) :
    exec (.tauAbort h k src key slot) s = .next (respond (decideTau s k slot 2) h 0x0305 .ok 0 []) := by
  refine congrArg Host.Outcome.next ((runHcp_accepted _ ha).trans ?_)
  rw [decideCmd_passes hk hf, conclude_okay]

end decision

/-- Settles O25: the token by where it is placed (`tokenPlaced_form`), the tests of R105 by the first that fails
(`decideFault_none`, `decideFault_decided`, `decideFault_stranger`), an abort by the record it leaves (`tauAbort_record`). -/
theorem issuerDecidesOncePerAction : Obligations.IssuerDecidesOncePerAction := by
  unfold Obligations.IssuerDecidesOncePerAction
  intro h s k src key slot hk
  refine ⟨rfl, fun ha => ⟨fun hf => ?_, fun hr => tauCommit_refused ha hk (decideFault_stranger hr),
    fun hm ho hi hd => tauCommit_refused ha hk (decideFault_decided hm ho hi hd)⟩, fun ha hf => ?_⟩
  · obtain ⟨hm, ho, hi, hslot⟩ := decideFault_none hf
    obtain ⟨tokens, slots, hplaced, hstored, hwaits⟩ := tokenPlaced_form 1 hslot
    have hrecord : tauOf (decideTau s k slot 1) k
        = { tauOf s k with decided := true, verdict := 1, state := .committed } := by
      rw [decideTau_commit]
      exact tauOf_putTau_self _ k _
    refine ⟨_, tauCommit_commits ha hk hf, by rw [hrecord], by rw [hrecord], by rw [hrecord], ?_, ?_⟩
    · refine decideFault_decided ?_ ?_ ?_ ?_ <;> rw [hrecord]
      · exact hm
      · exact ho
      · rw [decideTau_commit, hplaced]; exact hi
      · exact .inl rfl
    · rw [decideTau_commit, hplaced]
      exact ⟨hstored, hwaits⟩
  · obtain ⟨-, -, -, hslot⟩ := decideFault_none hf
    obtain ⟨tokens, slots, hplaced, -, -⟩ := tokenPlaced_form 2 hslot
    obtain ⟨⟨reports, hrecord⟩, hcss⟩ := tauAbort_record (putTau (tokenPlaced s k slot 2) k
      { tauOf s k with decided := true, verdict := 2 }) k 2
    rw [tauOf_putTau_self] at hrecord
    refine ⟨_, tauAbort_aborts ha hk hf, ?_⟩
    rw [decideTau_abort, hrecord, hcss, hplaced]
    exact ⟨ended_state _ false 2 reports, rfl, rfl, rfl, rfl⟩

end Sys2Proof.Proofs
end

section
/-! SUPPORT. Commit tokens and survey reports: what one that reaches a TAU does, how it comes there on WL0 and through a window,
and the events of T_commit, the wayside store and the survey (R100 to R109). -/

namespace Sys2Proof.Proofs

open Sys2Proof Sys2Proof.Machine

/-! ## A token at a TAU (R100, R102) -/

/-- What the tests of tokens and reports read: the TAUs with their keys, the TMS and the schedule. -/
def judgeView (s : State) : Taus × Tms × Option SchedImage := (s.tau, s.tms, s.css.image)

section congr

variable {s t : State}

theorem blocks_of_judgeView (h : judgeView t = judgeView s) : t.tau = s.tau ∧ t.tms = s.tms ∧ t.css.image = s.css.image := by
  simpa only [judgeView, Prod.mk.injEq] using h

theorem judgeView_of_besideFabric (h : besideFabric t = besideFabric s) : judgeView t = judgeView s := by
  obtain ⟨-, htms, hcss, htau, -⟩ := blocks_of_besideFabric h
  simp only [judgeView, htms, hcss, htau]

theorem tauOf_of_judgeView (h : judgeView t = judgeView s) (k : Nat) : tauOf t k = tauOf s k :=
  tauOf_congr (blocks_of_judgeView h).1 k

theorem scale_of_judgeView (h : judgeView t = judgeView s) (w : Bool) :
    scaleRaw t w = scaleRaw s w ∧ scaleNs t w = scaleNs s w := by
  obtain ⟨-, htms, -⟩ := blocks_of_judgeView h
  simp only [scaleRaw, scaleNs, wytNs, trtNs, htms, and_self]

theorem tauCmac_of_judgeView (h : judgeView t = judgeView s) (slot : Nat) (m : Bytes) : tauCmac t slot m = tauCmac s slot m := by
  unfold tauCmac
  rw [(blocks_of_judgeView h).1]

theorem cmacPrefix_of_judgeView (h : judgeView t = judgeView s) (wayside : Bool) :
    cmacPrefix t wayside = cmacPrefix s wayside := by
  obtain ⟨-, htms, him⟩ := blocks_of_judgeView h
  unfold cmacPrefix schedId
  rw [htms, him]

theorem tokenOk_of_judgeView (h : judgeView t = judgeView s) (r : TauRec) (x : Token) : tokenOk t r x = tokenOk s r x := by
  simp only [tokenOk, tokenSigned, tauCmac_of_judgeView h, cmacPrefix_of_judgeView h, (scale_of_judgeView h _).1,
    (blocks_of_judgeView h).1]

theorem surveySigned_of_judgeView (h : judgeView t = judgeView s) (r : TauRec) (x : Survey) :
    surveySigned t r x = surveySigned s r x := by
  simp only [surveySigned, tauCmac_of_judgeView h, cmacPrefix_of_judgeView h, (blocks_of_judgeView h).1]

end congr

/-- A TAU's record with the line and the arrival of an accepted token. -/
def tokenNoted (s : State) (r : TauRec) (line : Nat) : TauRec :=
  { r with
    lines := setBit r.lines line true
    tokenAt := if r.tokenAt.isNone then some (word (scaleNs s r.wyt)) else r.tokenAt }

theorem tokenReject_record (s : State) (k : Nat) (t : Token) :
    tauOf (tokenReject s k t) k = { tauOf s k with rejects := sat32 ((tauOf s k).rejects + 1) } := by
  unfold tokenReject
  extract_lets r u
  have hcounted : tauOf u k = { tauOf s k with rejects := sat32 ((tauOf s k).rejects + 1) } := tauOf_putTau_self s k _
  split
  · exact (tauOf_congr (blocks_of_actionView (actionView_tauEvent ..)).1 k).trans hcounted
  · exact hcounted

section armed

variable {s : State} {k : Nat} {t : Token} {line : Nat} (ha : (tauOf s k).state = .armed)

include ha

/-- The first accepted token commits an ARMED TAU, or cancels it. -/
theorem tokenAccept_commits (hv : (tauOf s k).verdict = 0) (hd : t.decision = 1) :
    tauOf (tokenAccept s k t line) k = { tokenNoted s (tauOf s k) line with verdict := 1, state := .committed } := by
  unfold tokenAccept
  dsimp only
  rw [if_pos ⟨hv, ha⟩, if_pos hd]
  exact tauOf_putTau_self _ k _

theorem tokenAccept_cancels (hv : (tauOf s k).verdict = 0) (hd : t.decision ≠ 1) : ∃ reports,
    tauOf (tokenAccept s k t line) k
      = ended { tokenNoted s (tauOf s k) line with verdict := t.decision } false 2 reports := by
  unfold tokenAccept
  dsimp only
  rw [if_pos ⟨hv, ha⟩, if_neg hd]
  obtain ⟨⟨reports, hrecord⟩, -⟩ := tauAbort_record
    (putTau s k { tokenNoted s (tauOf s k) line with verdict := t.decision }) k 2
  rw [tauOf_putTau_self] at hrecord
  exact ⟨reports, hrecord⟩

/-- Either way its line and its arrival are noted. -/
theorem tokenAccept_effect (hv : (tauOf s k).verdict = 0) (hl : line < 8) :
    let x := tauOf (tokenAccept s k t line) k
    (t.decision = 1 → x.state = .committed ∧ x.verdict = 1 ∧ x.rejects = (tauOf s k).rejects)
      ∧ (t.decision ≠ 1 → x.reason = 2 ∧ (x.state = .idle ∨ x.state = .surveyWait))
      ∧ ((tauOf s k).tokenAt = none → x.tokenAt = some (word (scaleNs s (tauOf s k).wyt))) ∧ bitAt x.lines line = true := by
  have harrival : (tauOf s k).tokenAt = none →
      (tokenNoted s (tauOf s k) line).tokenAt = some (word (scaleNs s (tauOf s k).wyt)) := fun hn => by
    rw [tokenNoted, hn]
    rfl
  have hline : bitAt (tokenNoted s (tauOf s k) line).lines line = true := bitAt_setBit_self (tauOf s k).lines line hl
  by_cases hd : t.decision = 1
  · rw [tokenAccept_commits ha hv hd]
    exact ⟨fun _ => ⟨rfl, rfl, rfl⟩, fun h => absurd hd h, harrival, hline⟩
  · obtain ⟨reports, hrecord⟩ := tokenAccept_cancels (line := line) ha hv hd
    rw [hrecord]
    exact ⟨fun h => absurd h hd, fun _ => ⟨rfl, ended_state ..⟩, harrival, hline⟩

/-- A token that reaches an ARMED TAU is accepted where it passes every test and comes from the source armed. -/
theorem tokenIn_armed (hm : (tauOf s k).mode = .gated) (hl : line = 2 → (tauOf s k).wayside = true) : tokenIn s k t line =
    if (line ≠ 2 → (tauOf s k).wayside = false) ∧ tokenOk s (tauOf s k) t = true then tokenAccept s k t line
    else tokenReject s k t := by
  have htaken : ¬ ((tauOf s k).mode ≠ .gated ∨ (tauOf s k).state = .idle ∨ (line = 2 ∧ ¬ (tauOf s k).wayside = true)) := by
    rw [hm, ha]
    rintro (h | h | ⟨h, hw⟩)
    · exact h rfl
    · cases h
    · exact hw (hl h)
  unfold tokenIn
  dsimp only
  rw [if_neg htaken]
  by_cases hsrc : line ≠ 2 ∧ (tauOf s k).wayside = true
  · rw [if_pos hsrc, if_neg fun h => by simp [h.1 hsrc.1] at hsrc]
  · rw [if_neg hsrc]
    have hfrom : line ≠ 2 → (tauOf s k).wayside = false := fun h => by simpa [h] using hsrc
    exact (if_congr (and_iff_right hfrom) rfl rfl).symm

end armed

/-! ## A token on WL0 (R105) -/

/-- It is counted there and offered to every TAU armed with a wayside source, which is the one listed. -/
theorem commitTokenReceive_wayside {s : State} {f : CssFrame} {t : Token} {k : Nat} {r : TauRec} (hv : s.tms.tsValid = true)
    (hup : linkIsUp s 94 = true) (hfcs : f.hdr.fcsOk = true) (hb : f.body = .token t) (hu : s.tau.units = [(k, r)]) :
    ∃ u, judgeView u = judgeView s ∧ exec (.commitTokenReceive 94 f) s = .next (tokenIn u k t 2) := by
  have hbeside : besideFabric (countRx s 94 (lineRoute s 94 (slotFrame f)).frame) = besideFabric s := besideFabric_countGot ..
  obtain ⟨-, -, -, htau, -⟩ := blocks_of_besideFabric hbeside
  refine ⟨_, judgeView_of_besideFabric hbeside, congrArg Host.Outcome.next ?_⟩
  unfold cssFrameIn
  rw [hb]
  refine (if_neg (by simp [hup, hv])).trans ?_
  rw [fcsBad, if_pos hfcs]
  unfold waysideIn
  rw [htau, hu]
  rfl

/-! ## A token or a report through a window (R74, R102, R109) -/

section window

variable {s : State} {p : Nat} {f : CssFrame}

/-- On a node that runs a slot frame goes on along its line and is delivered here. -/
theorem slotTake_running (hl : lineMatches p f.hdr = true) (hi : integrated s = true) (hb : ∀ n, f.body ≠ .other n) :
    slotTake p f s = slotDeliver (forwardSlot s p f) p f := by
  have hrun : ¬ ((!lineMatches p f.hdr) = true ∨ s.css.state = .stopped) := by
    rw [hl]
    rintro (h | h)
    · cases h
    · simp [integrated, h] at hi
  unfold slotTake
  split
  next n hn => exact absurd hn (hb n)
  · exact if_neg hrun

/-- Delivered on a node that runs, with one window for its slot, it meets that window. -/
theorem slotDeliver_single {i : Nat} (hi : integrated s = true) (hws : windowsOf s f.hdr.slotId = [i]) :
    slotDeliver s p f = winCopy p f (countSent s 100 (slotFrame f).len) i := by
  generalize hu : countSent s 100 (slotFrame f).len = u
  have hkept : besideFabric u = besideFabric s := hu ▸ besideFabric_countSent ..
  obtain ⟨hglob, -, hcss, -, -⟩ := blocks_of_besideFabric hkept
  have hhere : ¬ (!integrated u || (windowsOf u f.hdr.slotId).isEmpty) = true := by
    rw [windowsOf_congr hglob hcss, hws]
    unfold integrated at hi ⊢
    rw [hcss, hi]
    exact Bool.false_ne_true
  unfold slotDeliver
  dsimp only
  rw [hu, if_neg hhere, windowsOf_congr hglob hcss, hws]
  rfl

/-- A first valid copy, on a port of its line, for the one window of its slot. -/
structure FirstCopy (s : State) (p : Nat) (f : CssFrame) (i : Nat) (w : RxWin) : Prop where
  port : p < 4
  carries : cssPort s p = true
  time : s.tms.tsValid = true
  line : lineMatches p f.hdr = true
  runs : integrated s = true
  only : windowsOf s f.hdr.slotId = [i]
  entry : s.css.windows[i]? = some w
  valid : copyValid s w f.hdr = true
  noneA : w.gotA = false
  noneB : w.gotB = false

theorem fcsOk_of_copyValid {w : RxWin} {h : CssHdr} (hv : copyValid s w h = true) : h.fcsOk = true := by
  unfold copyValid at hv
  split at hv
  · cases hv
  · simp only [Bool.and_eq_true] at hv
    obtain ⟨⟨⟨⟨⟨⟨hfcs, -⟩, -⟩, -⟩, -⟩, -⟩, -⟩ := hv
    exact hfcs

/-- A first copy is noted in its window and goes to the window's target. -/
theorem winTake_delivers {i : Nat} {w : RxWin} (hA : w.gotA = false) (hB : w.gotB = false) :
    ∃ u, judgeView u = judgeView s ∧ winTake s i w p f = winDeliver u i w p f := by
  unfold winTake
  dsimp only
  rw [if_pos (by simp [hA, hB])]
  exact ⟨modWin (modWin s i _) i _, rfl, rfl⟩

/-- It goes to the window's target with the TAUs, the TMS and the schedule as they were. -/
theorem firstCopy_delivered {i : Nat} {w : RxWin} (hc : FirstCopy s p f i w) (hb : ∀ n, f.body ≠ .other n) :
    ∃ u, judgeView u = judgeView s ∧ cssFrameIn p f (fcsBad f.hdr) s = winDeliver u i w p f := by
  obtain ⟨hp, hcarries, htime, hl, hi, hws, hw, hvalid, hA, hB⟩ := hc
  have hcounted : besideFabric (countRx s p (slotFrame f)) = besideFabric s := besideFabric_countGot ..
  have hforwarded : besideFabric (forwardSlot (countRx s p (slotFrame f)) p f) = besideFabric s :=
    (besideFabric_forwardSlot ..).trans hcounted
  have hintegrated : ∀ {v : State}, besideFabric v = besideFabric s → integrated v = true := fun {v} h => by
    obtain ⟨-, -, hcss, -, -⟩ := blocks_of_besideFabric h
    unfold integrated at hi ⊢
    rw [hcss, hi]
  obtain ⟨hglob, -, hcss, -, -⟩ := blocks_of_besideFabric hforwarded
  have htaken : cssFrameIn p f (fcsBad f.hdr) s
      = winCopy p f (countSent (forwardSlot (countRx s p (slotFrame f)) p f) 100 (slotFrame f).len) i := by
    rw [← slotDeliver_single (hintegrated hforwarded) ((windowsOf_congr hglob hcss _).trans hws),
      ← slotTake_running hl (hintegrated hcounted) hb]
    exact Host.Outcome.next.inj (cssFrameReceive_taken hp hcarries htime (fcsOk_of_copyValid hvalid))
  have hsent : besideFabric (countSent (forwardSlot (countRx s p (slotFrame f)) p f) 100 (slotFrame f).len)
      = besideFabric s := (besideFabric_countSent ..).trans hforwarded
  rw [htaken]
  generalize countSent (forwardSlot (countRx s p (slotFrame f)) p f) 100 (slotFrame f).len = v at hsent
  obtain ⟨-, htms, hcssV, -, -⟩ := blocks_of_besideFabric hsent
  unfold winCopy
  rw [hcssV, hw]
  dsimp only
  rw [copyValid_congr hcssV htms, if_pos hvalid]
  obtain ⟨u, hview, hdelivered⟩ := winTake_delivers (s := v) (p := p) (f := f) (i := i) hA hB
  exact ⟨u, hview.trans (judgeView_of_besideFabric hsent), hdelivered⟩

/-- A window bound to a TAU delivers tokens and reports to it. -/
theorem winDeliver_token {i k : Nat} {w : RxWin} {t : Token} (hd : w.delivery = 3072 + k) (hk : k < 64)
    (hb : f.body = .token t) : winDeliver s i w p f = tokenIn s k t (b2n f.hdr.lineB) := by
  have hgroup : (3072 + k) / 1024 = 3 := by omega
  have hindex : (3072 + k) % 1024 = k := by omega
  unfold winDeliver
  rw [hd, hgroup, hindex, hb]
  rfl

theorem winDeliver_survey {i k : Nat} {w : RxWin} {x : Survey} (hd : w.delivery = 3072 + k) (hk : k < 64)
    (hb : f.body = .survey x) : winDeliver s i w p f = surveyIn s k x := by
  have hgroup : (3072 + k) / 1024 = 3 := by omega
  have hindex : (3072 + k) % 1024 = k := by omega
  unfold winDeliver
  rw [hd, hgroup, hindex, hb]
  rfl

end window

/-! ## Surveys (R108, R109) -/

/-- A verified report of a new reporter is kept while the survey is open. -/
theorem surveyIn_keeps {s : State} {k : Nat} {x : Survey} (ho : (tauOf s k).surveyOpen = true)
    (hid : x.actionId = (tauOf s k).actionId) (hs : surveySigned s (tauOf s k) x = true)
    (hnew : ((tauOf s k).reports.any fun y => y.reporterId == x.reporterId) = false) :
    tauOf (surveyIn s k x) k = { tauOf s k with reports := (tauOf s k).reports ++ [x] } := by
  unfold surveyIn
  dsimp only
  rw [if_pos (by simp [ho, hid, hs, hnew])]
  exact tauOf_putTau_self s k _

/-- A survey that closes keeps its table. -/
theorem surveyEnd_closes {s : State} {k : Nat} (hv : s.tms.tsValid = true) (ho : (tauOf s k).surveyOpen = true) :
    tauOf (surveyEnd k s) k = { tauOf s k with surveyOpen := false } := by
  unfold surveyEnd
  extract_lets r u r' v c
  have hclosed : tauOf v k = { tauOf s k with surveyOpen := false } := by
    have hlater : r' = tauOf s k := tauOf_congr (blocks_of_actionView (actionView_untilScale ..)).1 k
    rw [← hlater]
    exact tauOf_putTau_self u k _
  rw [if_pos (by simp [hv, r, ho])]
  split
  · exact (tauOf_congr (by simp) k).trans hclosed
  · exact hclosed

/-- The outcome is COMPLETE where as many fired as were expected. -/
theorem surveyOutcome_complete (r : TauRec) :
    surveyOutcome r = 0 ↔ (r.reports.filter fun x => x.outcome == 1).length = r.expected := by
  unfold surveyOutcome surveyCounts
  dsimp only
  split
  · simpa
  next h =>
    split <;> simpa using h

/-- It is NONE where none fired and none is missing. -/
theorem surveyOutcome_none (r : TauRec) : surveyOutcome r = 1 ↔
    (r.reports.filter fun x => x.outcome == 1).length ≠ r.expected
      ∧ (r.reports.filter fun x => x.outcome == 1).length = 0 ∧ r.expected ≤ r.reports.length := by
  unfold surveyOutcome surveyCounts
  dsimp only
  split
  next h => simp [h]
  next h =>
    split
    next hn => exact iff_of_true rfl ⟨h, hn.1, Nat.sub_eq_zero_iff_le.1 hn.2⟩
    next hn => exact iff_of_false (by decide) fun hx => hn ⟨hx.2.1, Nat.sub_eq_zero_iff_le.2 hx.2.2⟩

/-! ## T_commit and the wayside store (R100, R105) -/

/-- A TAU still ARMED at T_commit aborts with NO_COMMIT. -/
theorem deadline_aborts {s : State} {k : Nat} (hv : s.tms.tsValid = true) (ha : (tauOf s k).state = .armed)
    (hm : (tauOf s k).mode = .gated) : ∃ reports, tauOf (deadline k s) k = ended (tauOf s k) false 1 reports := by
  have hexec : deadline k s = tauAbort (untilScale s (tauOf s k).wyt ((tauOf s k).commitAt * 65536)) k 1 :=
    if_pos (by simp [hv, ha, hm])
  obtain ⟨⟨reports, hrecord⟩, -⟩ := tauAbort_record (untilScale s (tauOf s k).wyt ((tauOf s k).commitAt * 65536)) k 1
  rw [tauOf_congr (blocks_of_actionView (actionView_untilScale ..)).1] at hrecord
  exact ⟨reports, hexec ▸ hrecord⟩

section repeats

variable {s : State} {k : Nat} {w : WaysideTok} (hw : tget none s.tau.tokens k = some w)

include hw

/-- Until 1 ms before T_commit a stored token leaves on WL0 and is due again 1 ms later. -/
theorem waysideRepeat_sends (hv : s.tms.tsValid = true) (hc : scaleNs (untilMono s w.nextAt) w.wyt + 1000000 ≤ w.commitAt)
    (hup : linkIsUp s 94 = true) : waysideRepeat k s = let u := untilMono s w.nextAt
      { emitPort u 94 (.wayside w.token) with
        tau := { s.tau with tokens := tset none s.tau.tokens k (some { w with nextAt := u.mono + 1000000 }) } } := by
  have hview := sendView_emitPort (untilMono s w.nextAt) 94 (.wayside w.token)
  have htau : (emitPort (untilMono s w.nextAt) 94 (.wayside w.token)).tau = s.tau := by
    have h := congrArg State.tau hview
    simpa [sendView] using h
  obtain ⟨-, -, -, -, -, hmono⟩ := fields_of_sendView hview
  have hlink : linkIsUp (untilMono s w.nextAt) 94 = true := by simpa [linkIsUp] using hup
  unfold waysideRepeat
  rw [hw]
  dsimp only
  rw [if_pos (by simp [hv, hc]), if_pos hlink, htau, hmono]

/-- From then on it is stored no more, and nothing leaves. -/
theorem waysideRepeat_stops (hc : w.commitAt < scaleNs (untilMono s w.nextAt) w.wyt + 1000000) :
    (waysideRepeat k s).wire = s.wire ∧ tget none (waysideRepeat k s).tau.tokens k = none := by
  unfold waysideRepeat
  rw [hw]
  dsimp only
  rw [if_neg (by simp [hc])]
  exact ⟨by simp, tget_tset_self none _ k none⟩

end repeats

/-- Settles O27: a token by what an ARMED TAU makes of it (`tokenIn_armed`), on WL0 by `commitTokenReceive_wayside` and through
a window by `firstCopy_delivered`, as a report is; the deadline, the repeats and the survey's end by the records they leave. -/
theorem tokensAndSurveysAreJudged : Obligations.TokensAndSurveysAreJudged := by
  unfold Obligations.TokensAndSurveysAreJudged
  refine ⟨fun s k r t f hv hup hfcs hb hu hm ha hw hverdict _ => ?_, fun s k hv ha hm _ => ?_, fun s k w hw hv => ⟨?_, ?_⟩,
    fun s p f i w x k hp hc hv hl hi hb hws hw hok hA hB hd hk ho hid hs hnew => ?_, fun s k hv ho => ?_,
    fun r => ⟨surveyOutcome_complete r, surveyOutcome_none r⟩,
    fun s p f i w t k hp hc hv hl hi hb hws hw hok hA hB hd hk hm ha hverdict hdec => ?_⟩
  · obtain ⟨u, hview, hexec⟩ := commitTokenReceive_wayside hv hup hfcs hb hu
    have hlisted : tauOf s k = r := by rw [tauOf, hu, tget, if_pos rfl]
    have hr : tauOf u k = r := (tauOf_of_judgeView hview k).trans hlisted
    rw [← hr] at hm ha hw hverdict
    rw [tokenIn_armed ha hm (fun _ => hw), hr, tokenOk_of_judgeView hview] at hexec
    refine ⟨fun hok => ⟨_, hexec, ?_⟩, fun hbad => ⟨_, hexec, ?_⟩⟩
    · obtain ⟨hcommit, hcancel, harrival, hline⟩ := tokenAccept_effect (t := t) (line := 2) ha hverdict (by decide)
      rw [hr, (scale_of_judgeView hview _).2] at harrival
      rw [hr] at hcommit
      rw [if_pos ⟨nofun, hok⟩]
      refine ⟨fun hd => ?_, fun hd => hcancel (by omega), harrival, hline⟩
      obtain ⟨hstate, -, hrejects⟩ := hcommit hd
      exact ⟨hstate, hrejects⟩
    · rw [if_neg (by simp [hbad]), tokenReject_record]
      exact ⟨ha, by rw [hr], hverdict⟩
  · obtain ⟨reports, hrecord⟩ := deadline_aborts hv ha hm
    refine ⟨_, rfl, ?_⟩
    rw [hrecord]
    refine ⟨?_, rfl, rfl⟩
    simp only [ended, hm, true_and]
  · exact fun hc hup => congrArg Host.Outcome.next (waysideRepeat_sends hw hv hc hup)
  · exact fun hc => ⟨_, rfl, waysideRepeat_stops hw hc⟩
  · obtain ⟨u, hview, hexec⟩ := firstCopy_delivered ⟨hp, hc, hv, hl, hi, hws, hw, hok, hA, hB⟩ (by simp [hb])
    have hr := tauOf_of_judgeView hview k
    refine ⟨_, congrArg Host.Outcome.next (hexec.trans (winDeliver_survey hd hk hb)), ?_⟩
    rw [← hr] at ho hid hs hnew ⊢
    rw [surveyIn_keeps ho hid ((surveySigned_of_judgeView hview ..).trans hs) hnew]
    exact ⟨rfl, rfl⟩
  · refine ⟨_, rfl, ?_⟩
    rw [surveyEnd_closes hv ho]
    exact ⟨rfl, rfl, rfl⟩
  · obtain ⟨u, hview, hexec⟩ := firstCopy_delivered ⟨hp, hc, hv, hl, hi, hws, hw, hok, hA, hB⟩ (by simp [hb])
    have hr := tauOf_of_judgeView hview k
    have hline : b2n f.hdr.lineB < 2 := by cases f.hdr.lineB <;> decide
    have hdelivered := hexec.trans (winDeliver_token hd hk hb)
    rw [← hr] at hm ha hverdict ⊢
    rw [tokenIn_armed ha hm (fun h => absurd h (by omega)), tokenOk_of_judgeView hview] at hdelivered
    refine ⟨fun h hw => ⟨_, congrArg Host.Outcome.next hdelivered, ?_⟩,
      fun h => ⟨_, congrArg Host.Outcome.next hdelivered, ?_⟩⟩
    · obtain ⟨hstate, hdecided, -⟩ := (tokenAccept_effect (line := b2n f.hdr.lineB) ha hverdict (by omega)).1 hdec
      rw [if_pos ⟨fun _ => hw, h⟩]
      exact ⟨hstate, hdecided⟩
    · have hfails : ¬ ((b2n f.hdr.lineB ≠ 2 → (tauOf u k).wayside = false) ∧ tokenOk s (tauOf u k) t = true) := by
        rcases h with h | h
        · simp [h]
        · simp [h, hline.ne]
      rw [if_neg hfails, tokenReject_record]
      exact ⟨ha, rfl⟩

end Sys2Proof.Proofs
end

section
/-! SUPPORT. TAU_SURVEY_READ: the length of its answer, and the response that carries it (R109, R290). -/

namespace Sys2Proof.Proofs

open Sys2Proof Sys2Proof.Machine

/-! ## The newest response of a tenant -/

/-- The interrupt of a tenant leaves its responses. -/
theorem responses_raiseTenant (s : State) (t : Nat) : (tenant (raiseTenant s t) t).responses = (tenant s t).responses := by
  have hvector : ∀ u, tenant (msixRaise u t) t = tenant u t := fun u => tenant_congr (by simp) t
  unfold raiseTenant
  dsimp only
  split
  · split
    · rw [tenant_modTenant_self]
    · split
      · rw [hvector, tenant_modTenant_self]
      · rw [tenant_modTenant_self]
  · rfl

/-- The response to a command of which no ring entry is in flight carries its whole payload. -/
theorem respond_newest {s : State} {h : Hcp} (hin : (tenant s h.tenant).inflight = []) (op : Nat) (st : Status)
    (reason : Nat) (p : Bytes) :
    ((tenant (respond s h op st reason p) h.tenant).responses.getLast?).map Response.payload = some p := by
  have hput : respond s h op st reason p = putResponse s h.tenant
      { opcode := op ||| 0x8000, flags := b2n h.classC, tag := h.tag, counter := 0, status := st.code
        reason := reason, payload := p, cmac := 0 } false := by
    unfold respond
    dsimp only
    rw [hin]
    rfl
  rw [hput]
  unfold putResponse
  dsimp only
  rw [if_neg Bool.false_ne_true, apply_ite (fun u => (tenant u h.tenant).responses), responses_raiseTenant, ite_self,
    tenant_modTenant_self]
  dsimp only
  rw [List.getLast?_concat]
  rfl

/-! ## The reporter entries -/

/-- A reporter entry holds a report's 28 B (Table 4-7) without its action_id. -/
theorem length_surveyEntry (x : Survey) : (surveyEntry x).length = 24 := rfl

theorem length_surveyEntries (l : List Survey) : (l.flatMap surveyEntry).length = 24 * l.length := by
  induction l with
  | nil => rfl
  | cons x r ih =>
    rw [List.flatMap_cons, List.length_append, ih, length_surveyEntry, List.length_cons]
    omega

/-- A caller that may read the TAU receives the counts and the outcome (12 B), then up to 16 entries of 24 B. -/
theorem tauSurveyRead_answers {h : Hcp} {s : State} {k first : Nat} (ha : accepts { opcode := 0x0308 } h s = true)
    (hk : k < 64) (hr : tauReadable s h.tenant k = true) : ∃ p,
    exec (.tauSurveyRead h k first) s = .next (respond s h 0x0308 .ok 0 p)
      ∧ p.length = 12 + 24 * min 16 ((tauOf s k).reports.length - first) := by
  refine ⟨_, congrArg Host.Outcome.next ((runHcp_accepted _ ha).trans (congrArg (conclude h 0x0308)
    ((if_neg (Nat.not_le.2 hk)).trans (if_neg (by simp [hr]))))), ?_⟩
  simp only [List.length_append, length_leBytes, length_surveyEntries, List.length_take, List.length_drop,
    List.length_cons, List.length_nil]

/-- A device that serves tenant 0, whose TAU0 waits for its survey slot and holds one report. -/
def oneReport : State :=
  { glob := { fwReady := true, featAccepted := BitVec.allOnes 128 }
    fw := { phase := .ready }
    host := { tenants := [(0, { state := .opened, features := BitVec.allOnes 128 })] }
    tau := { units := [(0, {
      state := .surveyWait, mode := .gated, survey := true, expected := 1, actionId := 6, issuer := 5, owner := some 0
      reports := [⟨6, 1, 0, 0, 0, 0, 0, 5, 1, 0, 0, 0⟩] })] } }

/-- The caller that reads it: tenant 0. -/
def surveyReader : Hcp := ⟨0, false, 7⟩

/-- Refutes O24: TAU_SURVEY_READ answers 24 B per reporter entry and not 28 B, so that the survey table of one report
(`oneReport`) is read as 36 B, where the statement asks for 40 B. -/
theorem not_tauCommandsComplete : ¬ Obligations.TauCommandsComplete := by
  unfold Obligations.TauCommandsComplete
  intro h
  obtain ⟨-, -, -, -, -, -, -, -, hread, -⟩ := h
  have ha : accepts { opcode := 0x0308 } surveyReader oneReport = true := by decide
  have hr : tauReadable oneReport surveyReader.tenant 0 = true := by decide
  obtain ⟨p, hclaimed, hclaim, -⟩ := hread surveyReader oneReport 0 0 ha (by decide) hr
  obtain ⟨q, hanswered, hanswer⟩ := tauSurveyRead_answers (first := 0) ha (by decide) hr
  have hsame : some p = some q := by
    rw [← respond_newest (s := oneReport) (h := surveyReader) rfl 0x0308 .ok 0 p,
      Host.Outcome.next.inj (hclaimed.symm.trans hanswered), respond_newest rfl]
  rw [Option.some.inj hsame, hanswer] at hclaim
  exact absurd hclaim (by decide)

end Sys2Proof.Proofs
end

section
/-! SUPPORT. Counters and last-discard records of the FF block: their reads, and what a discard leaves in bittern. -/

namespace Sys2Proof.Proofs

open Sys2Proof Sys2Proof.Machine

/-! ## Counters of the FF block (R151, R188) -/

/-- Registers of the FF block. -/
theorem readReg_ff (s : State) {off : Nat} (hoff : off < 0x100000) : readReg s (0x200000 + off) = ffReg s off := by
  unfold readReg
  rw [if_neg (by omega), if_neg (by omega), if_neg (by omega), if_neg (by omega), if_pos (by omega), Nat.add_sub_cancel_left]

/-- The _LO word of a counter is its low half. -/
theorem ffReg_counter {s : State} {off : Nat} {c : BitVec 64} (hc : ffCounter s off = some c) :
    ffReg s off = some (c.truncate 32) := by
  simp [ffReg, hc, halfOf]

/-- An offset below an array lies in none of its elements. -/
theorem elemAt_before {off base size count : Nat} (h : off < base) : elemAt off base size count = none :=
  if_neg (by omega)

/-- No 64-bit counter lies among the last-discard records. -/
theorem ffCounter_none_of_last (s : State) {off : Nat} (hlo : 0x40000 ≤ off) (hhi : off < 0x41000) : ffCounter s off = none := by
  have hports : elemAt off 0x10000 8 (101 * 16) = none := elemAt_behind (by omega) (by omega)
  have htenants : elemAt off 0x20000 8 (256 * 16) = none := elemAt_behind (by omega) (by omega)
  have hwatches : elemAt off 0x30000 0x20 16 = none := elemAt_behind (by omega) (by omega)
  have hlive : elemAt off 0xC0000 8 (101 * 64) = none := elemAt_before (by omega)
  simp [ffCounter, hports, htenants, hwatches, hlive]

theorem readEffect_counter {s : State} {off : Nat} {c : BitVec 64} (hoff : off < 0x100000) (hc : ffCounter s off = some c) :
    readEffect s (0x200000 + off) = ffLatch s off c := by
  have hslot : elemAt (0x200000 + off) 0x300100 0x40 8 = none := elemAt_before (by omega)
  have hwin : elemAt (0x200000 + off) 0x450000 0x20 4096 = none := elemAt_before (by omega)
  have hlast : elemAt (0x200000 + off) 0x240000 0x10 256 = none := by
    rcases Nat.lt_or_ge off 0x40000 with hlo | hlo
    · exact elemAt_before (by omega)
    · refine elemAt_behind (by omega) (Nat.le_of_not_lt fun hhi => ?_)
      rw [ffCounter_none_of_last s hlo (by omega)] at hc
      cases hc
  unfold readEffect
  split
  case h_11 => simp [hslot, hlast, hwin, hc]
  all_goals omega

/-! ## Last-discard records (R148) -/

theorem readReg_last (s : State) {t : Nat} (ht : t < 256) :
    readReg s (0x240000 + t * 0x10) = some (tget ({} : LastDiscard) s.fab.bit.last t).w0 := by
  have hff : 0x240000 + t * 0x10 = 0x200000 + (0x40000 + t * 0x10) := by omega
  have hcounter : ffCounter s (0x40000 + t * 0x10) = none := ffCounter_none_of_last s (by omega) (by omega)
  have hwatch : elemAt (0x40000 + t * 0x10) 0x30000 0x20 16 = none := elemAt_behind (by omega) (by omega)
  have hlast : elemAt (0x40000 + t * 0x10) 0x40000 0x10 256 = some (t, 0) := elemAt_at ht (by omega) rfl
  rw [hff, readReg_ff s (by omega)]
  simp [ffReg, hcounter, hwatch, hlast, lastReg]

theorem readEffect_last (s : State) {t : Nat} (ht : t < 256) : readEffect s (0x240000 + t * 0x10) = lastLatch s t := by
  have hslot : elemAt (0x240000 + t * 0x10) 0x300100 0x40 8 = none := elemAt_before (by omega)
  have hlast : elemAt (0x240000 + t * 0x10) 0x240000 0x10 256 = some (t, 0) := elemAt_at ht (by omega) rfl
  unfold readEffect
  split
  case h_11 => simp [hslot, hlast]
  all_goals omega

/-- LAST_DISCARD_LATCH returns word 0 and latches the rest. -/
theorem lastDiscardLatch_reads {s : State} {t : Nat} (ht : t < 256)
    (hp : poisonedBacking s (0x240000 + t * 0x10) = none) :
    exec (.lastDiscardLatch t) s = .next (lastLatch (returned s [(tget ({} : LastDiscard) s.fab.bit.last t).w0] false) t) := by
  refine (congrArg Host.Outcome.next (if_pos ht)).trans ?_
  exact read_latches (readReg_last s ht) hp (readEffect_last _ ht)

/-- FF_COUNTER_LATCH returns the low half of a counter and latches the high one. -/
theorem ffCounterLatch_reads {s : State} {off : Nat} {c : BitVec 64} (hoff : off < 0x100000) (hc : ffCounter s off = some c)
    (hp : poisonedBacking s (0x200000 + off) = none) :
    exec (.ffCounterLatch off) s = .next (ffLatch (returned s [c.truncate 32] false) off c) := by
  refine (congrArg Host.Outcome.next (if_pos ⟨hoff, by simp [hc]⟩)).trans ?_
  exact read_latches ((readReg_ff s hoff).trans (ffReg_counter hc)) hp
    (readEffect_counter (s := returned s [c.truncate 32] false) hoff hc)

/-- Settles O6: each read returns its word and latches the others; bit 0 of FF_BRINE_CLEAR sets the low-water mark. -/
theorem fabricReadsLatchTheirShadows : Obligations.FabricReadsLatchTheirShadows := by
  unfold Obligations.FabricReadsLatchTheirShadows
  refine ⟨fun s off c hoff hc hp => ?_, fun s t ht hp => lastDiscardLatch_reads ht hp,
    fun s v hp hv => ?_⟩
  · rw [ffCounterLatch_reads hoff hc hp, ffLatch, Nat.mod_eq_of_lt (show off < 2 ^ 20 by omega)]
    rfl
  · exact congrArg Host.Outcome.next ((posted_sound _ hp).trans (if_pos hv))

/-! ## What bittern holds after a discard (R146 to R148) -/

/-- A discard leaves its record in bittern. -/
theorem discard_bit (s : State) (d : Discard) : (Machine.discard s d).fab.bit = discardRecord s d := by
  have halarm : ∀ (u : State) c b, (setAlarmIf u c .fab b).fab.bit = u.fab.bit := fun u c b => by
    cases c with
    | false => rfl
    | true => rw [setAlarmIf, if_pos rfl, setAlarm_fab_form]
  unfold Machine.discard
  dsimp only
  split
  · exact (halarm _ _ _).trans (halarm _ _ _)
  · rw [report_fab]
    exact (halarm _ _ _).trans (halarm _ _ _)

/-- A count that goes up by one at one key of its table. -/
theorem tget_tmod_count (t : Table (BitVec 64)) (j k : Nat) :
    tget 0 (tmod 0 t j (· + 1)) k = if k = j then tget 0 t k + 1 else tget 0 t k := by
  split
  next h => rw [h, tget_tmod_self]
  next h => exact tget_tmod_other 0 t _ h

/-- A map that keeps what is listed acts on what each key holds. -/
theorem tget_tmap_some {α : Type} [DecidableEq α] (t : Table (Option α)) (f : α → α) {k : Nat} {w : α}
    (h : tget none t k = some w) : tget none (tmap none t fun _ o => o.map f) k = some (f w) := by
  induction t with
  | nil => cases h
  | cons e r ih =>
    obtain ⟨j, a⟩ := e
    by_cases hj : j = k
    · obtain rfl : a = some w := by simpa [tget, hj] using h
      simp [tmap, tget, hj]
    · have hr : tget none r k = some w := by simpa [tget, hj] using h
      cases a with
      | none => simpa [tmap] using ih hr
      | some x => simpa [tmap, tget, hj] using ih hr

/-- The fields of word 1 of a last-discard record (R148). -/
theorem discardWord_fields {reason ingress egress cls : Nat} (violation stomped : Bool) (hr : reason < 256) (hi : ingress < 256)
    (he : egress < 256) (hc : cls < 8) :
    let w := word (reason * 2 ^ 24 + ingress * 2 ^ 16 + egress * 2 ^ 8 + cls * 32 + b2n violation * 16 + b2n stomped * 8)
    w.toNat / 2 ^ 24 = reason ∧ w.toNat / 2 ^ 16 % 256 = ingress ∧ w.toNat / 2 ^ 8 % 256 = egress ∧ w.toNat / 32 % 8 = cls
      ∧ bitAt w 4 = violation ∧ bitAt w 3 = stomped ∧ w.toNat % 8 = 0 := by
  have hv : b2n violation < 2 := by cases violation <;> decide
  have hs : b2n stomped < 2 := by cases stomped <;> decide
  have hbit : ∀ {n : Nat} (b : Bool), n = b2n b → decide (n = 1) = b := by rintro _ (_ | _) rfl <;> rfl
  intro w
  have hw : w.toNat = reason * 2 ^ 24 + ingress * 2 ^ 16 + egress * 2 ^ 8 + cls * 32 + b2n violation * 16 + b2n stomped * 8 := by
    simp only [w, word, BitVec.toNat_ofNat]
    omega
  refine ⟨by omega, by omega, by omega, by omega, ?_, ?_, by omega⟩
  · rw [bitAt, BitVec.getLsbD, Nat.testBit_eq_decide_div_mod_eq]
    exact hbit violation (by omega)
  · rw [bitAt, BitVec.getLsbD, Nat.testBit_eq_decide_div_mod_eq]
    exact hbit stomped (by omega)

/-- Settles O28: a discard leaves `discardRecord`, and a read of word 0 is `lastDiscardLatch_reads`. -/
theorem discardsAreCountedOnceAndRecorded : Obligations.DiscardsAreCountedOnceAndRecorded := by
  unfold Obligations.DiscardsAreCountedOnceAndRecorded
  intro s d
  simp only [discard_bit, discardRecord, tget_tmod_self]
  refine ⟨fun k => ?_, fun k => ?_, fun k w hw => ?_, trivial, fun hr hi he hc => ?_, fun hn => ?_, fun i hs hi => ?_,
    trivial, fun u hu => tget_tmod_other _ _ _ hu, fun u hu hp => ?_⟩
  · exact tget_tmod_count _ _ k
  · exact tget_tmod_count _ _ k
  · exact tget_tmap_some _ _ hw
  · exact discardWord_fields _ _ hr hi he hc
  · rw [hn]; rfl
  · rw [hs]
    exact Nat.mod_eq_of_lt (show i < 2 ^ 32 by omega)
  · refine ⟨_, lastDiscardLatch_reads hu hp, rfl, ?_⟩
    simp [lastLatch, returned]

end Sys2Proof.Proofs
end

section
/-! SUPPORT. Events of the fabric: re-salting, ageing, recovery functions, PRP and the gates of the sluices. -/

namespace Sys2Proof.Proofs

open Sys2Proof Sys2Proof.Machine

/-! ## Re-salting (R144, R145) -/

/-- What the FDB says of its addresses: their destinations and whether they are static, wherever their entries lie. -/
def known (f : Fdb) : List (Mac × Nat × FdbDest × Bool) := f.entries.map fun e => (e.mac, e.fid, e.dest, e.isStatic)

/-- Entries that move within the FDB say what they said. -/
theorem known_moved (f : Fdb) {g : FdbEntry → FdbEntry}
    (hg : ∀ e, ((g e).mac, (g e).fid, (g e).dest, (g e).isStatic) = (e.mac, e.fid, e.dest, e.isStatic)) :
    (f.entries.map g).map (fun e => (e.mac, e.fid, e.dest, e.isStatic)) = known f := by
  rw [List.map_map]
  exact List.map_congr_left fun e _ => hg e

theorem known_foldl {step : Fdb → FdbEntry → Fdb} (h : ∀ f e, known (step f e) = known f) (l : List FdbEntry) (f : Fdb) :
    known (l.foldl step f) = known f := by
  induction l generalizing f with
  | nil => rfl
  | cons e r ih => exact (ih _).trans (h f e)

theorem known_fdbMove (f : Fdb) (e : FdbEntry) (cam : Bool) : known (fdbMove f e cam) = known f :=
  known_moved f fun x => by split <;> rfl

theorem known_migrateOne (f : Fdb) (e : FdbEntry) : known (migrateOne f e) = known f := by
  unfold migrateOne
  split
  · exact known_fdbMove ..
  · rfl

theorem known_intoCam (f : Fdb) (e : FdbEntry) : known (intoCam f e) = known f := by
  unfold intoCam
  split
  · exact known_fdbMove ..
  · rfl

theorem known_sweepOne (f : Fdb) (e : FdbEntry) : known (sweepOne f e) = known f := by
  unfold sweepOne
  split
  · exact known_fdbMove ..
  · split
    · exact known_moved f fun x => by split <;> rfl
    · rfl

theorem known_migrateAll (f : Fdb) : known (migrateAll f) = known f := known_foldl known_migrateOne ..

/-- What a walk of a re-salt leaves as it was: what the FDB says, and the frames in Brine and in the queues. -/
def walkView (s : State) : List (Mac × Nat × FdbDest × Bool) × Table (Option Held) × Table (List Nat) :=
  (known s.fab.fdb, s.fab.held, s.fab.queues)

theorem walkView_setAlarm (s : State) (b : Nat) : walkView (setAlarm s .fab b) = walkView s := by
  rw [setAlarm_fab_form]; rfl

theorem walkView_of_known {s : State} {f : Fdb} (h : known f = known s.fab.fdb) :
    walkView { s with fab := { s.fab with fdb := f } } = walkView s := by
  simp only [walkView, h]

theorem startResalt_form (s : State) : ∃ host, startResalt s = { s with
    draws := s.draws + 1
    fab := { s.fab with
      alarm := setBit s.fab.alarm 5 true
      fdb := { s.fab.fdb with
        newSalt := s.draws, resalt := .migrating, pass := 1, lastResalt := some s.mono, heldTrigger := false
        heldAuto := false, entries := s.fab.fdb.entries.map fun e => { e with newGen := false } } }
    host := host } :=
  ⟨_, setAlarm_fab_form ..⟩

theorem fdbFull_form (s : State) : ∃ host, fdbFull s = { s with
    fab := { s.fab with alarm := setBit s.fab.alarm 8 true, fdb := { s.fab.fdb with full := true } }, host := host } :=
  ⟨_, setAlarm_fab_form ..⟩

theorem walkView_startResalt (s : State) : walkView (startResalt s) = walkView s := by
  obtain ⟨host, h⟩ := startResalt_form s
  rw [h]
  exact congrArg (fun x => (x, s.fab.held, s.fab.queues)) (known_moved s.fab.fdb fun e => rfl)

theorem walkView_resaltOn (s : State) (automatic : Bool) : walkView (resaltOn s automatic) = walkView s := by
  unfold resaltOn
  dsimp only
  split
  · rfl
  · have hfull : walkView (fdbFull s) = walkView s := by
      obtain ⟨host, h⟩ := fdbFull_form s
      rw [h]; rfl
    rw [apply_ite walkView, hfull, walkView_startResalt, ite_self]

/-- The FDB after a CAM sweep: the CAM's entries, then those of the old generation, as far as there is room. -/
def swept (f : Fdb) : Fdb :=
  let g := f.entries.foldl sweepOne f
  let g := (oldWays g).foldl migrateOne g
  (oldWays g).foldl intoCam g

theorem known_swept (f : Fdb) : known (swept f) = known f :=
  (known_foldl known_intoCam ..).trans ((known_foldl known_migrateOne ..).trans (known_foldl known_sweepOne ..))

theorem walkView_camSweep (s : State) : walkView (camSweep s) = walkView s := by
  have hput : ∀ (f : Fdb) b, known f = known s.fab.fdb →
      walkView (setAlarm { s with fab := { s.fab with fdb := f } } .fab b) = walkView s :=
    fun f b h => (walkView_setAlarm _ b).trans (walkView_of_known h)
  have hdone := known_moved (swept s.fab.fdb) (g := fun e => { e with newGen := false }) fun e => rfl
  unfold camSweep
  dsimp only
  split
  · split
    · exact (walkView_resaltOn _ _).trans (hput _ 6 (hdone.trans (known_swept _)))
    · exact hput _ 6 (hdone.trans (known_swept _))
  · exact hput _ 7 (known_swept _)

theorem walkView_walkEnd (s : State) : walkView (walkEnd s) = walkView s := by
  have hall := known_migrateAll s.fab.fdb
  unfold walkEnd
  split
  · dsimp only
    split
    · exact walkView_of_known hall
    · split
      · exact walkView_of_known hall
      · exact walkView_of_known ((known_foldl known_intoCam ..).trans hall)
  · exact walkView_camSweep s
  · rfl

/-- Entries written to another place are clean; nothing else of the fabric changes. -/
theorem walkView_walkDone (s : State) : walkView (walkDone s) = walkView (shedPoisoned s) :=
  walkView_walkEnd (shedPoisoned s)

/-- A walk that leaves no entry of the old generation in a bucket is followed by the CAM sweep. -/
theorem walkEnd_complete {s : State} (hm : s.fab.fdb.resalt = .migrating) (ho : oldWays (migrateAll s.fab.fdb) = []) :
    (walkEnd s).fab.fdb.resalt = .camSweep := by
  simp [walkEnd, hm, ho]

theorem migrateAll_keeps (f : Fdb) : (migrateAll f).resalt = f.resalt ∧ (migrateAll f).pass = f.pass := by
  have hone : ∀ (f : Fdb) (e : FdbEntry), (migrateOne f e).resalt = f.resalt ∧ (migrateOne f e).pass = f.pass := fun f e => by
    unfold migrateOne
    split <;> exact ⟨rfl, rfl⟩
  unfold migrateAll
  induction f.entries generalizing f with
  | nil => exact ⟨rfl, rfl⟩
  | cons e r ih =>
    obtain ⟨hresalt, hpass⟩ := ih (migrateOne f e)
    exact ⟨hresalt.trans (hone f e).1, hpass.trans (hone f e).2⟩

/-- A walk that leaves some is followed by another, up to the fourth. -/
theorem walkEnd_again {s : State} (hm : s.fab.fdb.resalt = .migrating) (ho : oldWays (migrateAll s.fab.fdb) ≠ [])
    (hp : s.fab.fdb.pass < 4) :
    (walkEnd s).fab.fdb.resalt = .migrating ∧ (walkEnd s).fab.fdb.pass = s.fab.fdb.pass + 1 := by
  obtain ⟨hresalt, hpass⟩ := migrateAll_keeps s.fab.fdb
  simp [walkEnd, hm, ho, hpass, hp, hresalt]

/-- RESALT_TRIGGER while its condition holds. -/
theorem resaltTrigger_due {s : State} (h : resaltDue s = true) : exec .resaltTrigger s = .next (resaltOn s true) :=
  congrArg Host.Outcome.next (if_pos h)

theorem resaltOn_starts {s : State} (hi : s.fab.fdb.resalt = .idle) (hn : s.fab.fdb.entries.length ≤ 28672)
    (hl : s.fab.fdb.lastResalt = none) : resaltOn s true = startResalt s := by
  simp [resaltOn, hi, hl, Nat.not_lt.2 hn]

theorem resaltOn_barred {s : State} {a : Nat} (hi : s.fab.fdb.resalt = .idle) (hl : s.fab.fdb.lastResalt = some a)
    (ha : s.mono < a + 60000000000) : resaltOn s true = fdbFull s := by
  simp [resaltOn, hi, hl, ha]

theorem resaltOn_held {s : State} (automatic : Bool) (hi : s.fab.fdb.resalt ≠ .idle) :
    resaltOn s automatic = { s with fab := { s.fab with fdb := { s.fab.fdb with
      heldTrigger := true, heldAuto := automatic && (!s.fab.fdb.heldTrigger || s.fab.fdb.heldAuto) } } } :=
  if_pos hi

/-- RESALT_TRIGGER starts a re-salt, or within 60 s of the last sets fdb_full. -/
theorem resaltTrigger_clause {s : State} (hd : resaltDue s = true) (hi : s.fab.fdb.resalt = .idle)
    (hn : s.fab.fdb.entries.length ≤ 28672) :
    (s.fab.fdb.lastResalt = none → ∃ t, exec .resaltTrigger s = .next t ∧ t.fab.fdb.resalt = .migrating
      ∧ t.fab.fdb.pass = 1 ∧ bitAt t.fab.alarm 5 = true ∧ t.fab.fdb.newSalt = s.draws)
    ∧ (∀ a, s.fab.fdb.lastResalt = some a → s.mono < a + 60000000000 → ∃ t, exec .resaltTrigger s = .next t
      ∧ t.fab.fdb.resalt = .idle ∧ t.fab.fdb.full = true ∧ bitAt t.fab.alarm 8 = true
      ∧ t.fab.fdb.entries = s.fab.fdb.entries) := by
  refine ⟨fun hl => ⟨_, resaltTrigger_due hd, ?_⟩, fun a hl ha => ⟨_, resaltTrigger_due hd, ?_⟩⟩
  · obtain ⟨host, h⟩ := startResalt_form s
    rw [resaltOn_starts hi hn hl, h]
    exact ⟨rfl, rfl, bitAt_setBit_self _ _ (by decide), rfl⟩
  · obtain ⟨host, h⟩ := fdbFull_form s
    rw [resaltOn_barred hi hl ha, h]
    exact ⟨hi, rfl, bitAt_setBit_self _ _ (by decide), rfl⟩

/-! ## Ageing, recovery functions and PRP nodes -/

/-- What the passage of time leaves: everything but the clocks, and the model time it ends at. -/
theorem untilMono_reaches (s : State) (m : Nat) : ∃ f a b, untilMono s m
    = { s with mono := max s.mono m, monoFrac := f, tms := { s.tms with trt := a, wyt := b } } := by
  obtain ⟨n, f, a, b, h⟩ := untilMono_form s m
  have hn : n = max s.mono m := by rw [← untilMono_mono, h]
  exact ⟨f, a, b, hn ▸ h⟩

theorem ageOut_learned {s : State} {mac : Mac} {fid : Nat} {e : FdbEntry} (hf : fdbFind s mac fid = some e)
    (hl : e.isStatic = false) : ageOut mac fid s = fdbEased (fdbDrop (untilMono s (e.seenAt + s.fab.fdb.aging * 1000000000)) mac fid) := by
  simp only [ageOut, hf, hl]
  rfl

theorem frerReset_resets {s : State} {f : Nat} (h : (tget ({} : Recovery) s.fab.recovery f).takeAny = false) :
    frerReset f s =
      let r := tget ({} : Recovery) s.fab.recovery f
      let u := untilMono s (r.lastAt + r.timeoutMs * 1000000)
      { u with fab := { u.fab with
        recovery := tset {} u.fab.recovery f { r with takeAny := true, history := 0, resets := r.resets + 1 } } } :=
  if_neg (by rw [h]; decide)

/-- A recovery function after a latent error test that ends at model time `now`. -/
def tested (r : Recovery) (now : Nat) : Recovery :=
  { r with
    testedAt := now, latentErrors := r.latentErrors + b2n (latentGap r != r.base)
    base := if r.baseAt + 30000000000 ≤ now then latentGap r else r.base
    baseAt := if r.baseAt + 30000000000 ≤ now then now else r.baseAt }

theorem latentError_tests {s : State} {f : Nat} (h : (tget ({} : Recovery) s.fab.recovery f).latentOn = true) :
    latentError f s =
      let r := tget ({} : Recovery) s.fab.recovery f
      let u := untilMono s (r.testedAt + 2000000000)
      setAlarmIf { u with fab := { u.fab with recovery := tset {} u.fab.recovery f (tested r u.mono) } }
        (latentGap r != r.base) .fab 9 := by
  unfold latentError
  dsimp only
  rw [if_neg (by rw [h]; decide)]
  simp only [tested, decide_eq_true_eq]

theorem latentErrorDetection_clause {s : State} {f : Nat} (h : (tget ({} : Recovery) s.fab.recovery f).latentOn = true) :
    let r := tget ({} : Recovery) s.fab.recovery f
    ∃ t, exec (.latentErrorDetection f) s = .next t
      ∧ t.mono = max s.mono (r.testedAt + 2000000000) ∧ tget ({} : Recovery) t.fab.recovery f = tested r t.mono
      ∧ (latentGap r ≠ r.base → bitAt t.fab.alarm 9 = true) ∧ (latentGap r = r.base → t.fab.alarm = s.fab.alarm) := by
  obtain ⟨fr, a, b, hu⟩ := untilMono_reaches s ((tget ({} : Recovery) s.fab.recovery f).testedAt + 2000000000)
  have he : exec (.latentErrorDetection f) s = .next (latentError f s) := rfl
  refine ⟨_, he, ?_⟩
  have ht := latentError_tests h
  dsimp only at ht
  rw [ht, hu]
  by_cases hgap : latentGap (tget ({} : Recovery) s.fab.recovery f) = (tget ({} : Recovery) s.fab.recovery f).base
  · rw [bne_eq_false_iff_eq.2 hgap]
    exact ⟨rfl, tget_tset_self .., fun hne => absurd hgap hne, fun _ => rfl⟩
  · rw [bne_iff_ne.2 hgap, setAlarmIf, if_pos rfl, setAlarm_fab_form]
    exact ⟨rfl, tget_tset_self .., fun _ => bitAt_setBit_self _ _ (by decide), fun heq => absurd heq hgap⟩

theorem prpSupervise_sends {s : State} {k : Nat} (hk : k < 6) (he : s.fab.prp.enabled.contains k = true) :
    prpSupervise k s =
      let a := nextBeat (tget none s.fab.prp.supAt k) 2000000000 s.mono
      let u := untilMono s a
      let v : State := { u with fab := { u.fab with prp := { u.fab.prp with
        supSeq := tset 0 u.fab.prp.supSeq k (tget 0 u.fab.prp.supSeq k + 1), supAt := tset none u.fab.prp.supAt k (some a) } } }
      ([4 + k, 10 + k].filter (linkIsUp v)).foldl (fun w p => emitPort w p (.prpSup p (tget 0 u.fab.prp.supSeq k))) v :=
  if_pos ⟨hk, he⟩

theorem prpForget_forgets {s : State} {mac : Mac} {n : PrpNode} (h : s.fab.prp.nodes.find? (fun x => x.mac == mac) = some n) :
    prpForget mac s =
      let u := untilMono s (n.lastAt + 60000000000)
      { u with fab := { u.fab with prp := { u.fab.prp with
        nodes := u.fab.prp.nodes.filter fun x => x.mac != mac
        dups := u.fab.prp.dups.filter fun d => decide (u.mono < d.at_ + 400000000) } } } := by
  simp only [prpForget, h]

/-! ## Gate changes (R130, R134) -/

/-- The gates that a port's sluice has applied, the number of its entry, and the model time. -/
def gateView (s : State) (p : Nat) : BitVec 8 × Nat × Nat :=
  ((tget ({} : Sluice) s.fab.sluices p).gates, (tget ({} : Sluice) s.fab.sluices p).entry, s.mono)

theorem gateView_congr {s t : State} (p : Nat) (hs : t.fab.sluices = s.fab.sluices) (hm : t.mono = s.mono) :
    gateView t p = gateView s p := by
  simp only [gateView, hs, hm]

theorem gateView_tc6Check (s : State) (q p : Nat) : gateView (tc6Check s q) p = gateView s p := by
  unfold tc6Check
  dsimp only
  split
  · rfl
  · by_cases hp : p = q
    · subst hp
      simp only [gateView, tget_tset_self]
    · simp only [gateView, tget_tset_other _ _ _ hp]

theorem gateView_mgpSends (s : State) (via : Option Nat) (x : Sent) (p : Nat) :
    gateView (mgpSends s via x) p = gateView s p := by
  cases via with
  | none => rw [mgpSends_none]; exact gateView_congr p (by simp) (by simp)
  | some q => rw [mgpSends_some]; exact gateView_congr p (by simp) (by simp)

theorem gateView_violation (s : State) (i at_ kind reason residence p : Nat) :
    gateView (violation s i at_ kind reason residence) p = gateView s p := by
  have htold : ∀ (u : State) c d b, gateView (report (setAlarm u .fab b) c d) p = gateView u p :=
    fun u c d b => gateView_congr p (by simp) (by simp)
  have hevent : ∀ (u : State) t typ d, gateView (event u t typ d) p = gateView u p :=
    fun u t typ d => gateView_congr p (by simp) (by simp)
  unfold violation
  split
  · rfl
  · dsimp only
    rw [apply_ite (gateView · p), hevent, gateView_mgpSends, ite_self, htold]
    exact gateView_tc6Check s _ p

theorem gateView_lose (s : State) (stream : Option Nat) (c : Bool) (egress reason p : Nat) :
    gateView (lose s stream c egress reason) p = gateView s p := by
  unfold lose
  split
  · rfl
  · split
    · exact gateView_violation ..
    · rfl

theorem gateView_releaseFrame (s : State) (k p : Nat) : gateView (releaseFrame s k) p = gateView s p := by
  unfold releaseFrame
  split
  · rfl
  · split <;> rfl

theorem gateView_dropQueued (s : State) (q cls k reason p : Nat) :
    gateView (dropQueued s q cls k reason) p = gateView s p := by
  unfold dropQueued
  split
  · rfl
  · exact (gateView_releaseFrame ..).trans ((gateView_lose ..).trans (gateView_congr p (by simp) (by simp)))

/-- Frames that wait behind a gate that closes are discarded, which moves no gate. -/
theorem closeGates_keeps (s : State) (q : Nat) (before after : BitVec 8) (p : Nat) :
    gateView (closeGates s q before after) p = gateView s p
      ∧ besideFabric (closeGates s q before after) = besideFabric s := by
  constructor
  · refine foldl_keeps (gateView · p) _ (fun u c => ?_) _ s
    rw [apply_ite (gateView · p), foldl_keeps (gateView · p), ite_self]
    intro v k
    rw [apply_ite (gateView · p), gateView_dropQueued, ite_self]
  · refine foldl_keeps besideFabric _ (fun u c => ?_) _ s
    rw [apply_ite besideFabric, foldl_keeps besideFabric, ite_self]
    intro v k
    rw [apply_ite besideFabric, besideFabric_dropQueued, ite_self]

/-- The count of TC6 bytes does not enter into the gates. -/
theorem gatesAt_tc6Check (s : State) (p t : Nat) : gatesAt (tc6Check s p) p t = gatesAt s p t := by
  unfold tc6Check
  dsimp only
  split
  · rfl
  · unfold gatesAt bankIn bankAt
    simp only [tget_tset_self]
    rfl

theorem besideFabric_tc6Check (s : State) (p : Nat) : besideFabric (tc6Check s p) = besideFabric s := by
  unfold tc6Check
  dsimp only
  split <;> rfl

/-- A port's gates after a change at the present instant. -/
theorem applyGates_applies (s : State) (p : Nat) :
    gateView (applyGates (tc6Check s p) p) p
        = ((gatesAt s p (trtNs s)).1, (tget ({} : Sluice) s.fab.sluices p).entry + 1, s.mono)
      ∧ (applyGates (tc6Check s p) p).css = s.css := by
  obtain ⟨-, htms, hcss, -, -⟩ := blocks_of_besideFabric (besideFabric_tc6Check s p)
  obtain ⟨hentry, hmono⟩ : (tget ({} : Sluice) (tc6Check s p).fab.sluices p).entry = (tget ({} : Sluice) s.fab.sluices p).entry
      ∧ (tc6Check s p).mono = s.mono := (Prod.mk.inj (Prod.mk.inj (gateView_tc6Check s p p)).2)
  have htrt : trtNs (tc6Check s p) = trtNs s := by rw [trtNs, trtNs, htms]
  unfold applyGates
  constructor
  · rw [(closeGates_keeps ..).1, htrt, gatesAt_tc6Check]
    simp only [gateView, tget_tset_self, hentry, hmono]
  · obtain ⟨-, -, hkept, -, -⟩ := blocks_of_besideFabric (closeGates_keeps _ _ _ _ p).2
    exact hkept.trans hcss

/-- The instant at which a port's next gate change takes effect: now, where one of this instant is still due (R130). -/
def changeInstant (s : State) (p : Nat) : State :=
  if (tget ({} : Sluice) s.fab.sluices p).gates = (gatesAt s p (trtNs s)).1 then
    untilNs s (trtNs s + (gatesAt s p (trtNs s)).2) else s

theorem changeInstant_keeps (s : State) (p : Nat) : (changeInstant s p).fab = s.fab ∧ (changeInstant s p).css = s.css := by
  unfold changeInstant
  split <;> simp

theorem sluiceChange_listed {s : State} {p : Nat} (hv : s.tms.tsValid = true) (hp : p < 96)
    (hl : (bankIn s p (trtNs s)).isSome = true ∨ (s.css.gates.any fun g => g.port == p) = true) :
    sluiceChange p s = applyGates (tc6Check (changeInstant s p) p) p := by
  unfold sluiceChange changeInstant
  dsimp only
  have hlisted : ((bankIn s p (trtNs s)).isSome || s.css.gates.any fun g => g.port == p) = true := by
    simpa only [Bool.or_eq_true] using hl
  rw [if_neg (by rw [hv, hlisted, decide_eq_false (by omega)]; decide)]
  congr 2
  by_cases h : (tget ({} : Sluice) s.fab.sluices p).gates = (gatesAt s p (trtNs s)).1
  · rw [if_pos h, bne_eq_false_iff_eq.2 h]; rfl
  · rw [if_neg h, bne_iff_ne.2 h]; rfl

/-- Settles O30: the gates by `applyGates_applies`, re-salting by `walkView`, the timers by what each of them does. -/
theorem fabricEventsComplete : Obligations.FabricEventsComplete := by
  unfold Obligations.FabricEventsComplete
  refine ⟨fun s p hv hp hl => ?_, fun s mac fid e hf hl => ⟨_, rfl, ?_⟩, fun s hd hi hn => resaltTrigger_clause hd hi hn,
    fun s => ⟨_, rfl, ?_⟩, fun s => rfl, fun s f hf => ⟨_, rfl, ?_⟩, fun s f => ?_, fun s k hk he => ?_,
    fun s mac n hn => ⟨_, rfl, ?_⟩, fun s hd hi => ⟨_, resaltTrigger_due hd, ?_⟩⟩
  · obtain ⟨hview, hcss⟩ := applyGates_applies (changeInstant s p) p
    obtain ⟨hfab, hcss'⟩ := changeInstant_keeps s p
    obtain ⟨hgates, hrest⟩ := Prod.mk.inj hview
    obtain ⟨hentry, hmono⟩ := Prod.mk.inj hrest
    refine ⟨_, congrArg Host.Outcome.next (sluiceChange_listed hv hp hl), hgates, ?_, hmono, hcss.trans hcss'⟩
    rw [hentry, hfab]
  · obtain ⟨f, a, b, hu⟩ := untilMono_reaches s (e.seenAt + s.fab.fdb.aging * 1000000000)
    rw [ageOut_learned hf hl, hu]
    exact ⟨rfl, rfl⟩
  · obtain ⟨hknown, hrest⟩ := Prod.mk.inj (walkView_walkDone s)
    obtain ⟨hheld, hqueues⟩ := Prod.mk.inj hrest
    exact ⟨hknown, hheld, hqueues, walkEnd_complete (s := shedPoisoned s), walkEnd_again (s := shedPoisoned s)⟩
  · have hreset := frerReset_resets hf
    obtain ⟨fr, a, b, hu⟩ := untilMono_reaches s ((tget ({} : Recovery) s.fab.recovery f).lastAt
      + (tget ({} : Recovery) s.fab.recovery f).timeoutMs * 1000000)
    dsimp only at hreset
    rw [hreset, hu]
    exact ⟨tget_tset_self .., rfl⟩
  · intro r hr
    obtain ⟨t, he, hmono, hrec, hbad, hgood⟩ := latentErrorDetection_clause hr
    rw [he]
    refine ⟨t, rfl, hmono, ?_, ?_, fun hne => ⟨hbad hne, ?_⟩, fun heq => ⟨hgood heq, ?_⟩⟩
    · rw [hrec]; rfl
    · rw [hrec]; rfl
    · rw [hrec, tested, bne_iff_ne.2 hne]; rfl
    · rw [hrec, tested, bne_eq_false_iff_eq.2 heq]; rfl
  · refine congrArg Host.Outcome.next ((prpSupervise_sends hk he).trans ?_)
    obtain ⟨f, a, b, hu⟩ := untilMono_reaches s (nextBeat (tget none s.fab.prp.supAt k) 2000000000 s.mono)
    dsimp only
    rw [hu]
    rfl
  · have hforget := prpForget_forgets hn
    obtain ⟨fr, a, b, hu⟩ := untilMono_reaches s (n.lastAt + 60000000000)
    dsimp only at hforget
    rw [hforget, hu]
    exact ⟨rfl, rfl⟩
  · rw [resaltOn_held true hi]
    exact ⟨rfl, rfl, rfl⟩

end Sys2Proof.Proofs
end

section
/-! SUPPORT. The axes of the safety island: what a channel's axes leave of the device, and one axis of another. -/

namespace Sys2Proof.Proofs

open Sys2Proof Sys2Proof.Machine

/-- What both branches have in common. -/
theorem ite_keeps {β : Type} (v : State → β) {c : Prop} [Decidable c] {x y : State} {b : β} (hx : v x = b) (hy : v y = b) :
    v (if c then x else y) = b := by
  split
  · exact hx
  · exact hy

/-! ## What the axes of one channel leave as it was -/

/-- A channel without what its axes and outputs bring about: the axes, S, the halves, their dark pulses and instants. -/
def restingChan (c : Channel) : Channel :=
  { c with axes := [], grants := 0, halves := 0, dark := 0, changed := [], handSince := [] }

/-- The device without what the axes of a channel bring about: theirs in the channel, the door counters, windrows and
interrupts. -/
def besideAxes (s : State) (ch : Chan) : State :=
  putChan { s with evr := {}, host := {}, isl := { s.isl with cycles := [], since := [], reversals := [] } } ch
    (restingChan (chanOf s ch))

theorem besideAxes_report (s : State) (c : Nat) (d : Bytes) (ch : Chan) : besideAxes (report s c d) ch = besideAxes s ch := by
  have h : { report s c d with evr := s.evr, host := s.host } = s := report_recorderOnly s c d
  have hbeside := congrArg (besideAxes · ch) h
  cases ch <;> exact hbeside

theorem besideAxes_putAxis (s : State) (ch : Chan) (k : Nat) (a : Axis) : besideAxes (putAxis s ch k a) ch = besideAxes s ch := by
  cases ch <;> rfl

theorem besideAxes_clearGrants (s : State) (ch : Chan) (m : BitVec 8) : besideAxes (clearGrants s ch m) ch = besideAxes s ch := by
  cases ch <;> rfl

theorem besideAxes_settle (s : State) (ch : Chan) : besideAxes (settle s ch) ch = besideAxes s ch :=
  foldl_keeps (besideAxes · ch) _ (fun u n => by cases ch <;> rfl) _ s

theorem besideAxes_axisSafe (s : State) (ch : Chan) (k reason func : Nat) :
    besideAxes (axisSafe s ch k reason func) ch = besideAxes s ch := by
  unfold axisSafe
  dsimp only
  split
  · rfl
  · exact besideAxes_putAxis ..
  · exact (besideAxes_settle ..).trans ((besideAxes_report ..).trans (besideAxes_putAxis ..))

theorem besideAxes_countCycle (s : State) (ch : Chan) (a : Axis) (k : Nat) :
    besideAxes (countCycle s ch a k) ch = besideAxes s ch := by
  unfold countCycle
  split
  · cases ch <;> rfl
  · rfl

theorem besideAxes_guardMove (s : State) (ch : Chan) (k : Nat) : besideAxes (guardMove s ch k) ch = besideAxes s ch := by
  unfold guardMove
  dsimp only
  split
  · split
    · exact besideAxes_putAxis ..
    · rfl
  · split
    · exact besideAxes_putAxis ..
    · rfl
  · split
    · rfl
    · split
      · exact besideAxes_axisSafe ..
      · split
        · exact besideAxes_putAxis ..
        · rfl
  · split
    · exact (besideAxes_putAxis ..).trans (besideAxes_countCycle ..)
    · rfl
  · rfl

theorem besideAxes_releaseMove (s : State) (ch : Chan) (k : Nat) : besideAxes (releaseMove s ch k) ch = besideAxes s ch := by
  unfold releaseMove
  dsimp only
  split
  · split
    · exact besideAxes_putAxis ..
    · rfl
  · split
    · exact besideAxes_putAxis ..
    · rfl
  · split
    · rfl
    · exact besideAxes_putAxis ..
  · rfl

theorem besideAxes_moveAxes (s : State) (ch : Chan) : besideAxes (moveAxes s ch) ch = besideAxes s ch :=
  (besideAxes_settle ..).trans
    (foldl_keeps (besideAxes · ch) _ (fun _ _ => (besideAxes_releaseMove ..).trans (besideAxes_guardMove ..)) _ s)

theorem besideAxes_axisReset (s : State) (ch : Chan) (k cause : Nat) :
    besideAxes (axisReset s ch k cause) ch = besideAxes s ch := by
  have hreset : ∀ m b, besideAxes (putAxis (clearGrants s ch m) ch k b) ch = besideAxes s ch :=
    fun m b => (besideAxes_putAxis ..).trans (besideAxes_clearGrants ..)
  unfold axisReset
  split
  · dsimp only
    split
    · exact (besideAxes_report ..).trans (hreset ..)
    · exact hreset ..
  · rfl

theorem besideAxes_obstacleMove (s : State) (ch : Chan) (k : Nat) (f : FuncPar) (t : Telegram) (p : Int) :
    besideAxes (obstacleMove s ch k f t p) ch = besideAxes s ch := by
  unfold obstacleMove
  dsimp only
  split
  · refine (besideAxes_putAxis ..).trans ?_
    split
    · cases ch <;> rfl
    · rfl
  · exact besideAxes_putAxis ..

/-! ### A first copy evaluated (R264) -/

/-- An axis that has heard a telegram of corrected instant `trt`. -/
def heardAxis (s : State) (ch : Chan) (k : Nat) (t : Telegram) (trt : Word) : Axis :=
  let a := axisOf s ch k
  let due := ((trtNs s : Int) - agoNs s trt + stalenessNs s k).toNat
  let ss := newSamples a (t.posB, trt)
  { a with
    newest := if a.heard && a.prev.any fun e => decide (toSigned 32 (trt - e.2).toNat < 0) then a.newest else some t
    heard := true, vB := speedB ss, prev := ss.1, prev2 := ss.2
    deadline := if !a.heard then due else max due a.deadline }

/-- What an axis has received: its newest telegram, whether it has heard one, and its counts. -/
def heardView (a : Axis) : Option Telegram × Bool × Word × Nat × Nat × Nat :=
  (a.newest, a.heard, a.singles, a.streak, a.mismatches, a.rejects)

/-- The position that a channel evaluates (R264). -/
def ownPosition (ch : Chan) (t : Telegram) : Int := if ch = .sfp then t.posA else t.posB

/-- The speed that a channel evaluates, a numerator and a denominator (R264). -/
def ownSpeed (ch : Chan) (t : Telegram) (a : Axis) : Option (Int × Nat) := if ch = .sfp then some (t.speed, 1) else a.vB

/-- That axis with its cross-checks and its ceiling (R269, R273). -/
def checkedAxis (s : State) (ch : Chan) (k : Nat) (f : FuncPar) (t : Telegram) (trt : Word) : Axis :=
  let a := heardAxis s ch k t trt
  raiseCeiling f (crossChecks f a t) (!(axisOf s ch k).heard) (movementGuardOf (putAxis s ch k a) ch k == some false)
    (ownPosition ch t)

theorem heardView_checkedAxis (s : State) (ch : Chan) (k : Nat) (f : FuncPar) (t : Telegram) (trt : Word) :
    heardView (checkedAxis s ch k f t trt) = heardView (heardAxis s ch k t trt) := by
  unfold checkedAxis raiseCeiling
  dsimp only
  split <;> rfl

/-- The axis moved by its state machine after what it has heard. -/
def movedAxis (s : State) (ch : Chan) (k : Nat) (b : Axis) : State := releaseMove (guardMove (putAxis s ch k b) ch k) ch k

/-- An axis in its safe state takes the telegram over; any other moves, and unless that makes it safe its obstacle allowance
follows, and then its outputs or its safe state. -/
theorem evaluateTel_eq (s : State) (ch : Chan) {k : Nat} {f : FuncPar} (hf : funcPar s k = some f) (t : Telegram) (trt : Word) :
    evaluateTel s ch k t trt =
      let a := heardAxis s ch k t trt
      let u := putAxis s ch k a
      let v := movedAxis u ch k (checkedAxis s ch k f t trt)
      let w := obstacleMove v ch k f t (ownPosition ch t)
      let code := islandViolation f (axisOf w ch k) (ownPosition ch t) (ownSpeed ch t a) (handleOf w ch k)
      if a.state = .safe then u
      else if (axisOf v ch k).state = .safe then v
      else if code = 0 then settle w ch else axisSafe w ch k 4 code := by
  simp only [evaluateTel, hf]
  rfl

/-- The states that an evaluation may end in. -/
theorem evaluateTel_cases (s : State) (ch : Chan) {k : Nat} {f : FuncPar} (hf : funcPar s k = some f) (t : Telegram) (trt : Word) :
    let u := putAxis s ch k (heardAxis s ch k t trt)
    let v := movedAxis u ch k (checkedAxis s ch k f t trt)
    let w := obstacleMove v ch k f t (ownPosition ch t)
    evaluateTel s ch k t trt = u ∨ evaluateTel s ch k t trt = v ∨ evaluateTel s ch k t trt = settle w ch
      ∨ ∃ code, evaluateTel s ch k t trt = axisSafe w ch k 4 code := by
  rw [evaluateTel_eq s ch hf]
  dsimp only
  split
  · exact .inl rfl
  · split
    · exact .inr (.inl rfl)
    · split
      · exact .inr (.inr (.inl rfl))
      · exact .inr (.inr (.inr ⟨_, rfl⟩))

theorem besideAxes_evaluateTel (s : State) (ch : Chan) (k : Nat) (t : Telegram) (trt : Word) :
    besideAxes (evaluateTel s ch k t trt) ch = besideAxes s ch := by
  cases hf : funcPar s k with
  | none => simp only [evaluateTel, hf]
  | some f =>
    have hmoved : ∀ b, besideAxes (movedAxis (putAxis s ch k (heardAxis s ch k t trt)) ch k b) ch = besideAxes s ch :=
      fun b => (besideAxes_releaseMove ..).trans ((besideAxes_guardMove ..).trans
        ((besideAxes_putAxis ..).trans (besideAxes_putAxis ..)))
    rcases evaluateTel_cases s ch hf t trt with h | h | h | ⟨code, h⟩
    · rw [h, besideAxes_putAxis]
    · rw [h, hmoved]
    · rw [h, besideAxes_settle, besideAxes_obstacleMove, hmoved]
    · rw [h, besideAxes_axisSafe, besideAxes_obstacleMove, hmoved]

theorem besideAxes_singleCopy (s : State) (ch : Chan) (k : Nat) : besideAxes (singleCopy s ch k) ch = besideAxes s ch := by
  unfold singleCopy
  dsimp only
  split
  · exact (besideAxes_axisSafe ..).trans (besideAxes_putAxis ..)
  · exact besideAxes_putAxis ..

theorem besideAxes_takeCopy (s : State) (ch : Chan) (k : Nat) (segB : Bool) (t : Telegram) (trt : Word) :
    besideAxes (takeCopy s ch k segB t trt) ch = besideAxes s ch := by
  unfold takeCopy
  dsimp only
  split
  · split
    · exact besideAxes_putAxis ..
    · split
      · exact (besideAxes_singleCopy ..).trans (besideAxes_putAxis ..)
      · split
        · exact besideAxes_putAxis ..
        · exact (besideAxes_axisSafe ..).trans (besideAxes_putAxis ..)
  · exact (besideAxes_evaluateTel ..).trans (besideAxes_putAxis ..)

theorem besideAxes_chanTelegram (s : State) (ch : Chan) (p : Nat) (t : Telegram) :
    besideAxes (chanTelegram s ch p t) ch = besideAxes s ch := by
  unfold chanTelegram
  split
  · rfl
  · split
    · exact besideAxes_takeCopy ..
    · exact besideAxes_putAxis ..

/-! ## What one axis leaves of another -/

theorem axisOf_congr {s t : State} {ch : Chan} (h : chanOf t ch = chanOf s ch) (k : Nat) : axisOf t ch k = axisOf s ch k := by
  rw [axisOf, axisOf, h]

theorem axisOf_putAxis_other (s : State) (ch : Chan) {j k : Nat} (a : Axis) (h : j ≠ k) :
    axisOf (putAxis s ch k a) ch j = axisOf s ch j := by
  simp [axisOf, putAxis, tget_tset_other _ _ _ h]

/-- The outputs follow the axes and move none. -/
@[simp] theorem axisOf_settle (s : State) (ch c : Chan) (k : Nat) : axisOf (settle s ch) c k = axisOf s c k :=
  foldl_keeps (axisOf · c k) _ (fun u n => by cases ch <;> cases c <;> rfl) _ s

@[simp] theorem axisOf_report (s : State) (n : Nat) (d : Bytes) (ch : Chan) (k : Nat) :
    axisOf (report s n d) ch k = axisOf s ch k := by
  have hisl : (report s n d).isl = s.isl := by simp
  exact axisOf_congr (by cases ch <;> simp only [chanOf, hisl]) k

/-! ## The safe state of an axis (R260) -/

/-- An axis that moved as it enters its safe state at model time `now`. -/
def madeSafe (a : Axis) (reason func now : Nat) : Axis :=
  { a with
    state := .safe, reason := reason, ceiling := none, allow := none, testAt := none, pairsSince := none
    func := if func = 0 then a.func else func, funcState := if func = 0 then a.funcState else a.state.code
    reasonAt := now, funcAt := if func = 0 then a.funcAt else now }

theorem axisSafe_live {s : State} {ch : Chan} {k : Nat} (reason func : Nat) (hd : (axisOf s ch k).state ≠ .disabled)
    (hs : (axisOf s ch k).state ≠ .safe) : ∃ d, axisSafe s ch k reason func
      = settle (report (putAxis s ch k (madeSafe (axisOf s ch k) reason func s.mono)) 0xA002 d) ch := by
  unfold axisSafe
  dsimp only
  split
  next h => exact absurd h hd
  next h => exact absurd h hs
  next => exact ⟨_, rfl⟩

theorem axisOf_axisSafe_live {s : State} {ch : Chan} {k : Nat} (reason func : Nat) (hd : (axisOf s ch k).state ≠ .disabled)
    (hs : (axisOf s ch k).state ≠ .safe) :
    axisOf (axisSafe s ch k reason func) ch k = madeSafe (axisOf s ch k) reason func s.mono := by
  obtain ⟨d, h⟩ := axisSafe_live reason func hd hs
  rw [h, axisOf_settle, axisOf_report, axisOf_putAxis_self]

theorem axisOf_axisSafe_other (s : State) (ch : Chan) {j k : Nat} (reason func : Nat) (h : j ≠ k) :
    axisOf (axisSafe s ch k reason func) ch j = axisOf s ch j := by
  unfold axisSafe
  dsimp only
  split
  · rfl
  · exact axisOf_putAxis_other _ _ _ h
  · rw [axisOf_settle, axisOf_report, axisOf_putAxis_other _ _ _ h]

/-- The safe state of an axis that is not DISABLED, whatever its state was. -/
theorem axisSafe_state {s : State} {ch : Chan} {k : Nat} (reason func : Nat) (hd : (axisOf s ch k).state ≠ .disabled) :
    (axisOf (axisSafe s ch k reason func) ch k).state = .safe := by
  by_cases hs : (axisOf s ch k).state = .safe
  · simp [axisSafe, hs]
  · rw [axisOf_axisSafe_live reason func hd hs]
    rfl

theorem heardView_axisSafe (s : State) (ch : Chan) (k reason func : Nat) :
    heardView (axisOf (axisSafe s ch k reason func) ch k) = heardView (axisOf s ch k) := by
  unfold axisSafe
  dsimp only
  split
  · rfl
  · rw [axisOf_putAxis_self]; rfl
  · rw [axisOf_settle, axisOf_report, axisOf_putAxis_self]; rfl

theorem heardView_guardMove (s : State) (ch : Chan) (k : Nat) :
    heardView (axisOf (guardMove s ch k) ch k) = heardView (axisOf s ch k) := by
  have hput : ∀ (u : State) (a : Axis), heardView a = heardView (axisOf s ch k) →
      heardView (axisOf (putAxis u ch k a) ch k) = heardView (axisOf s ch k) := fun u a h => by rw [axisOf_putAxis_self, h]
  unfold guardMove
  dsimp only
  split
  · split
    · exact hput _ _ rfl
    · rfl
  · split
    · exact hput _ _ rfl
    · rfl
  · split
    · rfl
    · split
      · exact heardView_axisSafe ..
      · split
        · exact hput _ _ rfl
        · rfl
  · split
    · exact hput _ _ rfl
    · rfl
  · rfl

theorem heardView_releaseMove (s : State) (ch : Chan) (k : Nat) :
    heardView (axisOf (releaseMove s ch k) ch k) = heardView (axisOf s ch k) := by
  have hput : ∀ (u : State) (a : Axis), heardView a = heardView (axisOf s ch k) →
      heardView (axisOf (putAxis u ch k a) ch k) = heardView (axisOf s ch k) := fun u a h => by rw [axisOf_putAxis_self, h]
  unfold releaseMove
  dsimp only
  split
  · split
    · exact hput _ _ rfl
    · rfl
  · split
    · exact hput _ _ rfl
    · rfl
  · split
    · rfl
    · exact hput _ _ rfl
  · rfl

theorem heardView_obstacleMove (s : State) (ch : Chan) (k : Nat) (f : FuncPar) (t : Telegram) (p : Int) :
    heardView (axisOf (obstacleMove s ch k f t p) ch k) = heardView (axisOf s ch k) := by
  unfold obstacleMove
  dsimp only
  split <;> rw [axisOf_putAxis_self] <;> rfl

/-- An axis keeps what it has heard through all that follows from it. -/
theorem heardView_evaluateTel (s : State) (ch : Chan) {k : Nat} {f : FuncPar} (hf : funcPar s k = some f) (t : Telegram)
    (trt : Word) : heardView (axisOf (evaluateTel s ch k t trt) ch k) = heardView (heardAxis s ch k t trt) := by
  have hmoved : ∀ b, heardView (axisOf (movedAxis (putAxis s ch k (heardAxis s ch k t trt)) ch k b) ch k) = heardView b :=
    fun b => (heardView_releaseMove ..).trans ((heardView_guardMove ..).trans (by rw [axisOf_putAxis_self]))
  rcases evaluateTel_cases s ch hf t trt with h | h | h | ⟨code, h⟩
  · rw [h, axisOf_putAxis_self]
  · rw [h, hmoved, heardView_checkedAxis]
  · rw [h, axisOf_settle, heardView_obstacleMove, hmoved, heardView_checkedAxis]
  · rw [h, heardView_axisSafe, heardView_obstacleMove, hmoved, heardView_checkedAxis]

end Sys2Proof.Proofs
end

section
/-! SUPPORT. The device safe state and the cycle of a channel of the safety island (R245, R246, R253, R260). -/

namespace Sys2Proof.Proofs

open Sys2Proof Sys2Proof.Machine

/-! ## What the safe state of the device leaves (R260, R261) -/

/-- What a cycle of a channel has read and posted, with the model time and the fuses. -/
def cycleView (s : State) (ch : Chan) : Word × BitVec 8 × BitVec 8 × Option Vector98 × Nat × Int × Option Nat × Nat × Otp :=
  ((chanOf s ch).cycle, (chanOf s ch).seals, (chanOf s ch).feedback, (chanOf s ch).posted, s.isl.vsafe, s.isl.tj,
    s.isl.sfpRestart, s.mono, s.otp)

/-- The latched causes, and whether the device safe state is in force. -/
def safeView (s : State) : Word × Bool := (s.isl.fault, s.isl.deviceSafe)

theorem cycleView_of_besideAxes {s t : State} {c : Chan} (ch : Chan) (h : besideAxes t c = besideAxes s c) :
    cycleView t ch = cycleView s ch := by
  have hview := congrArg (cycleView · ch) h
  cases c <;> cases ch <;> exact hview

theorem safeView_of_besideAxes {s t : State} {c : Chan} (h : besideAxes t c = besideAxes s c) : safeView t = safeView s := by
  have hview := congrArg safeView h
  cases c <;> exact hview

section bothChannels

variable {β : Type} {v : State → β} (hv : ∀ (s t : State) (ch : Chan), besideAxes t ch = besideAxes s ch → v t = v s)
include hv

theorem settleBoth_keeps (s : State) : v (settleBoth s) = v s :=
  (hv _ _ .sla (besideAxes_settle ..)).trans (hv _ _ .sfp (besideAxes_settle ..))

/-- The axes begin, which only the axes show. -/
theorem axesBegin_keeps (s : State) (cause : Nat) : v (axesBegin s cause) = v s :=
  (settleBoth_keeps hv _).trans (foldl_keeps v _ (fun _ _ =>
    (hv _ _ .sla (besideAxes_axisReset ..)).trans (hv _ _ .sfp (besideAxes_axisReset ..))) _ s)

/-- Beside the axes a device safe state changes its own bits alone. -/
theorem deviceSafe_keeps {s : State} {cause : Nat}
    (h : (!s.otp.island || (bitAt s.isl.fault cause && s.isl.deviceSafe)) = false) :
    v (deviceSafe s cause)
      = v { s with isl := { s.isl with fault := setBit s.isl.fault cause true, deviceSafe := true, ready := false } } := by
  have hsafe : ∀ (l : List Nat) (u : State), v (l.foldl (fun s k => axisSafe (axisSafe s .sfp k 5 0) .sla k 5 0) u) = v u :=
    foldl_keeps v _ fun _ _ => (hv _ _ .sla (besideAxes_axisSafe ..)).trans (hv _ _ .sfp (besideAxes_axisSafe ..))
  unfold deviceSafe
  rw [if_neg (by rw [h]; decide)]
  exact (settleBoth_keeps hv _).trans ((hsafe _ _).trans (hv _ _ .sfp (besideAxes_report ..)))

theorem leaveSafe_keeps (s : State) (cause : Nat) : v (leaveSafe s cause)
    = v { s with isl := { s.isl with deviceSafe := !canLeave s, ready := canLeave s } } := axesBegin_keeps hv _ _

end bothChannels

theorem deviceSafe_already {s : State} {cause : Nat}
    (h : (!s.otp.island || (bitAt s.isl.fault cause && s.isl.deviceSafe)) = true) : deviceSafe s cause = s := if_pos h

theorem cycleView_deviceSafe (s : State) (cause : Nat) (ch : Chan) : cycleView (deviceSafe s cause) ch = cycleView s ch := by
  cases h : !s.otp.island || (bitAt s.isl.fault cause && s.isl.deviceSafe)
  · rw [deviceSafe_keeps (v := (cycleView · ch)) (fun _ _ _ => cycleView_of_besideAxes ch) h]
    cases ch <;> rfl
  · rw [deviceSafe_already h]

theorem safeView_deviceSafe {s : State} {cause : Nat}
    (h : (!s.otp.island || (bitAt s.isl.fault cause && s.isl.deviceSafe)) = false) :
    safeView (deviceSafe s cause) = (setBit s.isl.fault cause true, true) :=
  deviceSafe_keeps (fun _ _ _ => safeView_of_besideAxes) h

theorem cycleView_leaveSafe (s : State) (cause : Nat) (ch : Chan) : cycleView (leaveSafe s cause) ch = cycleView s ch := by
  rw [leaveSafe_keeps (v := (cycleView · ch)) fun _ _ _ => cycleView_of_besideAxes ch]
  cases ch <;> rfl

theorem safeView_leaveSafe (s : State) (cause : Nat) : safeView (leaveSafe s cause) = (s.isl.fault, !canLeave s) :=
  leaveSafe_keeps (fun _ _ _ => safeView_of_besideAxes) s cause

/-- A cause is latched and the device safe state in force. -/
def latched (s : State) (cause : Nat) : Prop := bitAt s.isl.fault cause = true ∧ s.isl.deviceSafe = true

theorem latched_congr {s t : State} {cause : Nat} (h : safeView t = safeView s) : latched t cause ↔ latched s cause := by
  obtain ⟨hfault, hsafe⟩ := Prod.mk.inj h
  rw [latched, latched, hfault, hsafe]

theorem bitAt_setBit_true {n : Nat} {v : BitVec n} {i : Nat} (j : Nat) (h : bitAt v i = true) :
    bitAt (setBit v j true) i = true := by
  simp only [bitAt, setBit, if_true, BitVec.getLsbD_or] at h ⊢
  rw [h, Bool.true_or]

/-- A device safe state latches its cause. -/
theorem deviceSafe_latches {s : State} {cause : Nat} (hi : s.otp.island = true) (hc : cause < 32) :
    latched (deviceSafe s cause) cause := by
  cases h : !s.otp.island || (bitAt s.isl.fault cause && s.isl.deviceSafe)
  · obtain ⟨hfault, hsafe⟩ := Prod.mk.inj (safeView_deviceSafe h)
    exact ⟨by rw [hfault]; exact bitAt_setBit_self _ _ hc, hsafe⟩
  · rw [deviceSafe_already h]
    simpa [hi, latched] using h

/-- What is latched stays latched. -/
theorem latched_deviceSafe {s : State} {b : Nat} (cause : Nat) (hl : latched s b) : latched (deviceSafe s cause) b := by
  cases h : !s.otp.island || (bitAt s.isl.fault cause && s.isl.deviceSafe)
  · obtain ⟨hfault, hsafe⟩ := Prod.mk.inj (safeView_deviceSafe h)
    exact ⟨by rw [hfault]; exact bitAt_setBit_true _ hl.1, hsafe⟩
  · rw [deviceSafe_already h]
    exact hl

theorem cycleView_causes (l : List Nat) (s : State) (ch : Chan) : cycleView (l.foldl deviceSafe s) ch = cycleView s ch :=
  foldl_keeps (cycleView · ch) _ (fun u c => cycleView_deviceSafe u c ch) l s

/-- Of several causes each is latched. -/
theorem latched_causes {l : List Nat} {s : State} {b : Nat} (hi : s.otp.island = true) (hb : b < 32) (h : latched s b ∨ b ∈ l) :
    latched (l.foldl deviceSafe s) b := by
  induction l generalizing s with
  | nil => exact h.resolve_right (List.not_mem_nil)
  | cons c r ih =>
    have hotp : (deviceSafe s c).otp = s.otp := congrArg (fun x => x.2.2.2.2.2.2.2.2) (cycleView_deviceSafe s c .sfp)
    refine ih (by rw [hotp, hi]) ?_
    rcases h with h | h
    · exact .inl (latched_deviceSafe c h)
    · rcases List.mem_cons.1 h with rfl | h
      · exact .inl (deviceSafe_latches hi hb)
      · exact .inr h

/-! ## The safety cycle (R245, R246, R253) -/

/-- What a channel's balls and its measures leave of a cycle. -/
theorem cycleView_measured (s : State) (ch : Chan) (m : CycleMeas) : cycleView (cycleMeasure (sampleBalls s ch m) ch m) ch
    = ((chanOf s ch).cycle + 1, m.seals, m.feedback, (chanOf s ch).posted, m.vsafeMv, m.tj, s.isl.sfpRestart, s.mono, s.otp) := by
  unfold cycleMeasure
  dsimp only
  split <;> cases ch <;> rfl

theorem cycleView_cycleVectors (s : State) (ch : Chan) (vectorIn : Bool) :
    cycleView (cycleVectors s ch vectorIn) ch = cycleView s ch := by
  have hcompare : ∀ u, cycleView (compareVectors u ch) ch = cycleView u ch := fun u => by
    unfold compareVectors
    dsimp only
    rw [apply_ite (cycleView · ch), cycleView_deviceSafe, ite_self]
    cases ch <;> rfl
  unfold cycleVectors
  split
  · rfl
  · rw [hcompare]
    cases vectorIn <;> cases ch <;> rfl

/-- A channel's cycle as far as its causes: the balls and measures taken, the vectors compared (R245 to R247). -/
def cycleJudged (s : State) (ch : Chan) (m : CycleMeas) : State :=
  let u := cycleVectors (cycleMeasure (sampleBalls s ch m) ch m) ch m.vectorIn
  (cycleCauses u ch m).foldl deviceSafe u

/-- Then its axes and outputs follow. -/
def cycleMoved (s : State) (ch : Chan) (before : List Nat) : State :=
  feedbackTimers (moveAxes (clearFallen (inputTimers s ch) ch before) ch) ch

/-- Then it posts its vector. -/
def cyclePosted (s : State) (ch : Chan) : State := putChan s ch { chanOf s ch with posted := some (mkVector s ch) }

/-- Then the island leaves its safe state where it may, and the SFP writes the mirror. -/
def cycleEnd (s : State) (ch : Chan) : State :=
  let u := if s.isl.deviceSafe && canLeave s then leaveSafe s 0 else s
  if ch = .sfp then writeMirror u else u

theorem cycleEffect_eq (s : State) (ch : Chan) (m : CycleMeas) : cycleEffect s ch m =
    let u := untilMono s (cycleDue s ch)
    cycleEnd (cyclePosted (cycleMoved (cycleJudged u ch m) ch ((enabledAxes u).filter fun k => localOf u ch k)) ch) ch := rfl

theorem cycleView_cycleJudged (s : State) (ch : Chan) (m : CycleMeas) : cycleView (cycleJudged s ch m) ch
    = ((chanOf s ch).cycle + 1, m.seals, m.feedback, (chanOf s ch).posted, m.vsafeMv, m.tj, s.isl.sfpRestart, s.mono, s.otp) :=
  (cycleView_causes ..).trans ((cycleView_cycleVectors ..).trans (cycleView_measured ..))

/-- Above 135 °C OVERTEMP is latched. -/
theorem cycleJudged_overtemp {s : State} {ch : Chan} {m : CycleMeas} (hi : s.otp.island = true) (ht : 1350 < m.tj) :
    latched (cycleJudged s ch m) 8 := by
  have hotp : (cycleVectors (cycleMeasure (sampleBalls s ch m) ch m) ch m.vectorIn).otp = s.otp :=
    congrArg (fun x => x.2.2.2.2.2.2.2.2) ((cycleView_cycleVectors ..).trans (cycleView_measured s ch m))
  refine latched_causes (by rw [hotp, hi]) (by decide) (.inr ?_)
  simp [cycleCauses, ht]

/-! ### The outputs -/

/-- One output of a channel follows its state. -/
def outputStep (ch : Chan) (s : State) (n : Nat) : State := handTimer (driveHalf s ch n) ch n

theorem halves_outputStep (ch : Chan) (s : State) (n : Nat) : (chanOf (outputStep ch s n) ch).halves
    = setBit (chanOf s ch).halves n (wantHigh s ch n && !bitAt (chanOf s ch).dark n) := by
  cases ch <;> rfl

theorem safeView_outputStep (ch : Chan) (s : State) (n : Nat) : safeView (outputStep ch s n) = safeView s := by
  cases ch <;> rfl

/-- In the device safe state a half that is high after some outputs is none of theirs. -/
theorem outputSteps_low {l : List Nat} {ch : Chan} {s : State} {i : Nat} (hs : s.isl.deviceSafe = true)
    (h : bitAt (chanOf (l.foldl (outputStep ch) s) ch).halves i = true) : i ∉ l ∧ bitAt (chanOf s ch).halves i = true := by
  induction l generalizing s with
  | nil => exact ⟨List.not_mem_nil, h⟩
  | cons n r ih =>
    have hsafe : (outputStep ch s n).isl.deviceSafe = true :=
      (congrArg Prod.snd (safeView_outputStep ch s n)).trans hs
    obtain ⟨hr, hi⟩ := ih hsafe h
    have hwant : wantHigh s ch n = false := by simp [wantHigh, hs]
    rw [halves_outputStep, hwant, Bool.false_and] at hi
    simp only [bitAt, setBit, Bool.false_eq_true, if_false, BitVec.getLsbD_and, BitVec.getLsbD_not, BitVec.getLsbD_twoPow,
      Bool.and_eq_true, decide_eq_true_eq, Bool.not_eq_true'] at hi ⊢
    obtain ⟨hold, hlt, hne⟩ := hi
    refine ⟨fun hmem => ?_, hold⟩
    rcases List.mem_cons.1 hmem with rfl | hmem
    · simp [hlt] at hne
    · exact hr hmem

/-- While the device safe state stands every half is low (R253). -/
theorem settle_low {s : State} (ch : Chan) (hs : s.isl.deviceSafe = true) : (chanOf (settle s ch) ch).halves = 0 := by
  refine BitVec.eq_of_getLsbD_eq fun i hi => ?_
  refine (Bool.eq_false_iff.2 fun h => ?_).trans BitVec.getLsbD_zero.symm
  obtain ⟨hn, -⟩ := outputSteps_low (l := List.range 8) (ch := ch) hs h
  exact hn (List.mem_range.2 hi)

/-- A channel's part of the timers of a cycle: beside them, what it read, its halves and the safe state. -/
theorem feedbackTimers_keeps (s : State) (ch : Chan) : cycleView (feedbackTimers s ch) ch = cycleView s ch
    ∧ safeView (feedbackTimers s ch) = safeView s ∧ (chanOf (feedbackTimers s ch) ch).halves = (chanOf s ch).halves :=
  ⟨foldl_keeps (cycleView · ch) _ (fun u n => by cases ch <;> rfl) _ s,
    foldl_keeps safeView _ (fun u n => by cases ch <;> rfl) _ s,
    foldl_keeps (fun u => (chanOf u ch).halves) _ (fun u n => by cases ch <;> rfl) _ s⟩

theorem inputTimers_keeps (s : State) (ch : Chan) : cycleView (inputTimers s ch) ch = cycleView s ch
    ∧ safeView (inputTimers s ch) = safeView s :=
  ⟨foldl_keeps (cycleView · ch) _ (fun u n => ite_keeps (cycleView · ch) (by cases ch <;> rfl) (by cases ch <;> rfl)) _ s,
    foldl_keeps safeView _ (fun u n => ite_keeps safeView (by cases ch <;> rfl) (by cases ch <;> rfl)) _ s⟩

theorem besideAxes_clearFallen (s : State) (ch : Chan) (before : List Nat) :
    besideAxes (clearFallen s ch before) ch = besideAxes s ch := by
  refine foldl_keeps (besideAxes · ch) _ (fun u k => ?_) _ s
  split
  · split
    · exact besideAxes_clearGrants ..
    · rfl
  · rfl

theorem cycleMoved_keeps (s : State) (ch : Chan) (before : List Nat) :
    cycleView (cycleMoved s ch before) ch = cycleView s ch ∧ safeView (cycleMoved s ch before) = safeView s := by
  have haxes := (besideAxes_moveAxes (clearFallen (inputTimers s ch) ch before) ch).trans
    (besideAxes_clearFallen (inputTimers s ch) ch before)
  obtain ⟨hview, hsafe, -⟩ := feedbackTimers_keeps (moveAxes (clearFallen (inputTimers s ch) ch before) ch) ch
  obtain ⟨hview', hsafe'⟩ := inputTimers_keeps s ch
  exact ⟨hview.trans ((cycleView_of_besideAxes ch haxes).trans hview'),
    hsafe.trans ((safeView_of_besideAxes haxes).trans hsafe')⟩

theorem cycleMoved_low {s : State} (ch : Chan) (before : List Nat) (hs : s.isl.deviceSafe = true) :
    (chanOf (cycleMoved s ch before) ch).halves = 0 := by
  obtain ⟨-, -, hhalves⟩ := feedbackTimers_keeps (moveAxes (clearFallen (inputTimers s ch) ch before) ch) ch
  refine hhalves.trans (settle_low ch ?_)
  have hmoved : ∀ u : State, safeView ((enabledAxes u).foldl (fun s k => releaseMove (guardMove s ch k) ch k) u) = safeView u :=
    fun u => foldl_keeps safeView _ (fun _ _ =>
      (safeView_of_besideAxes (besideAxes_releaseMove ..)).trans (safeView_of_besideAxes (besideAxes_guardMove ..))) _ u
  have hsafe := (hmoved (clearFallen (inputTimers s ch) ch before)).trans
    ((safeView_of_besideAxes (besideAxes_clearFallen ..)).trans (inputTimers_keeps s ch).2)
  exact (congrArg Prod.snd hsafe).trans hs

/-- Only the mirror is written (R262). -/
theorem writeMirror_form (s : State) : ∃ mirror, writeMirror s = { s with isl := { s.isl with mirror := mirror } } := ⟨_, rfl⟩

theorem writeMirror_keeps (s : State) (ch : Chan) : cycleView (writeMirror s) ch = cycleView s ch
    ∧ safeView (writeMirror s) = safeView s ∧ (chanOf (writeMirror s) ch).halves = (chanOf s ch).halves := by
  obtain ⟨mirror, h⟩ := writeMirror_form s
  rw [h]
  cases ch <;> exact ⟨rfl, rfl, rfl⟩

theorem cycleView_cycleEnd (s : State) (ch : Chan) : cycleView (cycleEnd s ch) ch = cycleView s ch := by
  have hleft := ite_keeps (cycleView · ch) (c := (s.isl.deviceSafe && canLeave s) = true) (cycleView_leaveSafe s 0 ch) rfl
  exact ite_keeps (cycleView · ch) ((writeMirror_keeps _ ch).1.trans hleft) hleft

/-- The island stays in its safe state with what is latched and the halves as they are, or leaves it. -/
theorem cycleEnd_safe (s : State) (ch : Chan) :
    (safeView (cycleEnd s ch) = safeView s ∧ (chanOf (cycleEnd s ch) ch).halves = (chanOf s ch).halves)
      ∨ (canLeave s = true ∧ (cycleEnd s ch).isl.deviceSafe = false) := by
  have hmirror : ∀ u, safeView (if ch = .sfp then writeMirror u else u) = safeView u
      ∧ (chanOf (if ch = .sfp then writeMirror u else u) ch).halves = (chanOf u ch).halves := fun u => by
    split
    · exact (writeMirror_keeps u ch).2
    · exact ⟨rfl, rfl⟩
  by_cases h : (s.isl.deviceSafe && canLeave s) = true
  · have hleave : canLeave s = true := (Bool.and_eq_true_iff.1 h).2
    refine .inr ⟨hleave, ?_⟩
    unfold cycleEnd
    rw [if_pos h]
    refine (congrArg Prod.snd ((hmirror _).1.trans (safeView_leaveSafe s 0))).trans ?_
    rw [hleave]; rfl
  · unfold cycleEnd
    rw [if_neg h]
    exact .inl (hmirror s)

/-- No cause is latched where the island may leave its safe state. -/
theorem not_latched_of_canLeave {s : State} {cause : Nat} (h : canLeave s = true) : ¬ latched s cause := by
  rintro ⟨hbit, -⟩
  have hzero : s.isl.fault = 0 := by
    simp only [canLeave, Bool.and_eq_true, beq_iff_eq] at h
    exact h.1.1.1.1.1
  rw [hzero] at hbit
  simp [bitAt] at hbit

/-- SAFETY_CYCLE of a channel that runs. -/
theorem cycleEffect_clause {s : State} {ch : Chan} (m : CycleMeas) (hi : s.otp.island = true) :
    let t := cycleEffect s ch m
    (∃ v, cycleView t ch = ((chanOf s ch).cycle + 1, m.seals, m.feedback, some v, m.vsafeMv, m.tj, s.isl.sfpRestart,
        max s.mono (cycleDue s ch), s.otp) ∧ v.cycle = (chanOf s ch).cycle + 1 ∧ v.seals = m.seals)
      ∧ (t.isl.deviceSafe = true → (chanOf t ch).halves = 0) ∧ (1350 < m.tj → latched t 8) := by
  obtain ⟨fr, a, b, hu⟩ := untilMono_reaches s (cycleDue s ch)
  rw [cycleEffect_eq]
  dsimp only
  generalize (enabledAxes _).filter _ = before
  have hjudged : cycleView (cycleJudged (untilMono s (cycleDue s ch)) ch m) ch = ((chanOf s ch).cycle + 1, m.seals, m.feedback,
      (chanOf s ch).posted, m.vsafeMv, m.tj, s.isl.sfpRestart, max s.mono (cycleDue s ch), s.otp) := by
    rw [cycleView_cycleJudged, hu]
    cases ch <;> rfl
  have hhot : 1350 < m.tj → latched (cycleJudged (untilMono s (cycleDue s ch)) ch m) 8 :=
    cycleJudged_overtemp (by rw [hu]; exact hi)
  generalize cycleJudged (untilMono s (cycleDue s ch)) ch m = u at hjudged hhot ⊢
  obtain ⟨hmoved, hsafe⟩ := cycleMoved_keeps u ch before
  have hlow : (cycleMoved u ch before).isl.deviceSafe = true → (chanOf (cycleMoved u ch before) ch).halves = 0 :=
    fun h => cycleMoved_low ch before ((congrArg Prod.snd hsafe).symm.trans h)
  have hhot' : 1350 < m.tj → latched (cycleMoved u ch before) 8 := fun h => (latched_congr hsafe).2 (hhot h)
  have hview := hmoved.trans hjudged
  generalize cycleMoved u ch before = w at hview hlow hhot' ⊢
  refine ⟨⟨mkVector w ch, ?_, ?_, ?_⟩, ?_⟩
  · rw [cycleView_cycleEnd]
    simp only [cycleView, Prod.mk.injEq] at hview
    obtain ⟨hcycle, hseals, hfeedback, -, hvsafe, htj, hrestart, hmono, hotp⟩ := hview
    rw [← hcycle, ← hseals, ← hfeedback, ← hvsafe, ← htj, ← hrestart, ← hmono, ← hotp]
    cases ch <;> rfl
  · exact congrArg Prod.fst hview
  · exact congrArg (fun x => x.2.1) hview
  · have hposted : safeView (cyclePosted w ch) = safeView w ∧ (chanOf (cyclePosted w ch) ch).halves = (chanOf w ch).halves := by
      cases ch <;> exact ⟨rfl, rfl⟩
    rcases cycleEnd_safe (cyclePosted w ch) ch with ⟨hkept, hhalves⟩ | ⟨hleave, hleft⟩
    · have hend := hkept.trans hposted.1
      exact ⟨fun h => hhalves.trans (hposted.2.trans (hlow ((congrArg Prod.snd hend).symm.trans h))),
        fun h => (latched_congr hend).2 (hhot' h)⟩
    · refine ⟨fun h => ?_, fun h => ?_⟩
      · rw [hleft] at h; cases h
      · exact absurd ((latched_congr hposted.1).2 (hhot' h)) (not_latched_of_canLeave hleave)

end Sys2Proof.Proofs
end

section
/-! SUPPORT. Telegrams at a channel of the safety island (R249, R250). -/

namespace Sys2Proof.Proofs

open Sys2Proof Sys2Proof.Machine

/-! ## Telegrams (R249, R250) -/

/-- What a channel judges a telegram by: the parameter set, the time, whether it runs, and the channel itself. -/
def telView (s : State) (ch : Chan) : Option SafetyPar × Option Nat × Tms × Nat × Otp × Fw × Channel :=
  (s.isl.par, s.isl.sfpRestart, s.tms, s.mono, s.otp, s.fw, chanOf s ch)

/-- The axes of one channel enter into none of the other's judgements. -/
theorem telView_of_besideAxes {s t : State} {ch : Chan} (h : besideAxes t ch = besideAxes s ch) :
    telView t (otherChan ch) = telView s (otherChan ch) := by
  have hview := congrArg (telView · (otherChan ch)) h
  cases ch <;> exact hview

theorem mono_of_besideAxes {s t : State} {ch : Chan} (h : besideAxes t ch = besideAxes s ch) : t.mono = s.mono := by
  have hmono := congrArg State.mono h
  cases ch <;> exact hmono

section judged

variable {s t : State} {ch : Chan} (h : telView t ch = telView s ch)
include h

theorem fields_of_telView : t.isl.par = s.isl.par ∧ t.isl.sfpRestart = s.isl.sfpRestart ∧ t.tms = s.tms ∧ t.mono = s.mono
    ∧ t.otp = s.otp ∧ t.fw = s.fw ∧ chanOf t ch = chanOf s ch := by
  simpa only [telView, Prod.mk.injEq] using h

theorem chanRuns_of_telView : chanRuns t ch = chanRuns s ch := by
  obtain ⟨-, hrestart, -, -, hotp, hfw, -⟩ := fields_of_telView h
  simp only [chanRuns, islandRuns, hrestart, hotp, hfw]

theorem axisOf_of_telView (k : Nat) : axisOf t ch k = axisOf s ch k := by
  obtain ⟨-, -, -, -, -, -, hchan⟩ := fields_of_telView h
  exact axisOf_congr hchan k

theorem funcPar_of_telView (k : Nat) : funcPar t k = funcPar s k := by
  obtain ⟨hpar, -⟩ := fields_of_telView h
  simp only [funcPar, hpar]

theorem windowNs_of_telView : windowNs t = windowNs s := by
  obtain ⟨hpar, -⟩ := fields_of_telView h
  simp only [windowNs, hpar]

theorem telegramOk_of_telView (k p : Nat) (x : Telegram) : telegramOk t ch k p x = telegramOk s ch k p x := by
  obtain ⟨hpar, -, htms, hmono, -⟩ := fields_of_telView h
  have hrec : chanPar t k = chanPar s k := by simp only [chanPar, hpar]
  have hstale : stalenessNs t k = stalenessNs s k := by simp only [stalenessNs, hpar, hrec]
  have hepoch : epochTrt t x = epochTrt s x := by simp only [epochTrt, htms, hmono]
  have hago : agoNs t = agoNs s := by funext w; simp only [agoNs, stampNs, trtNs, htms]
  unfold telegramOk
  rw [hpar, hrec, hstale, hepoch, hago, htms, axisOf_of_telView h]

end judged

/-- The axis notes the newest seq of the segment that a copy came from (R249). -/
def notedCopy (a : Axis) (segB : Bool) (seq : Word) : Axis :=
  if segB then { a with lastB := some seq } else { a with lastA := some seq }

/-- It changes nothing else. -/
theorem notedCopy_form (a : Axis) (segB : Bool) (seq : Word) : ∃ x y,
    notedCopy a segB seq = { a with lastA := x, lastB := y } := by
  cases segB <;> exact ⟨_, _, rfl⟩

section copies

variable {s : State} {ch : Chan} {k : Nat} {segB : Bool} {t : Telegram} {trt : Word}

/-- The first copy of a seq waits and is evaluated. -/
theorem takeCopy_first (h : (axisOf s ch k).waiting.find? (fun y => y.tel.seq == t.seq && y.segB != segB) = none) :
    takeCopy s ch k segB t trt = evaluateTel (putAxis s ch k { notedCopy (axisOf s ch k) segB t.seq with
      waiting := (⟨t, segB, s.mono, false⟩ :: (axisOf s ch k).waiting).take 64 }) ch k t trt := by
  cases segB <;> simp only [takeCopy, notedCopy, Bool.false_eq_true, if_false, if_true, h]

/-- The second copy of a seq in time completes its pair, or fails it. -/
theorem takeCopy_second {y : PairWait} (h : (axisOf s ch k).waiting.find? (fun y => y.tel.seq == t.seq && y.segB != segB) = some y)
    (hl : y.late = false) (hw : s.mono ≤ y.at_ + windowNs s) :
    let a := { notedCopy (axisOf s ch k) segB t.seq with waiting := (axisOf s ch k).waiting.filter fun w => w.tel.seq != t.seq }
    takeCopy s ch k segB t trt = if telegramBytes y.tel = telegramBytes t then putAxis s ch k (pairDone a t.seq s.mono)
      else axisSafe (putAxis s ch k { a with mismatches := sat16 ((axisOf s ch k).mismatches + 1) }) ch k 2 0 := by
  cases segB <;> simp only [takeCopy, notedCopy, Bool.false_eq_true, if_false, if_true, h, hl, Nat.not_lt.2 hw]

theorem funcPar_putAxis (a : Axis) (j : Nat) : funcPar (putAxis s ch k a) j = funcPar s j := by
  cases ch <;> rfl

/-- A first copy is heard, and becomes the newest unless it was sampled before it. -/
theorem takeCopy_hears {f : FuncPar} (hf : funcPar s k = some f)
    (h : (axisOf s ch k).waiting.find? (fun y => y.tel.seq == t.seq && y.segB != segB) = none) :
    (axisOf (takeCopy s ch k segB t trt) ch k).heard = true
      ∧ (((axisOf s ch k).heard = false ∨ ∀ q z, (axisOf s ch k).prev = some (q, z) → 0 ≤ toSigned 32 (trt - z).toNat) →
        (axisOf (takeCopy s ch k segB t trt) ch k).newest = some t) := by
  obtain ⟨x, y, hnoted⟩ := notedCopy_form (axisOf s ch k) segB t.seq
  rw [takeCopy_first h, hnoted]
  have hview := heardView_evaluateTel (putAxis s ch k { axisOf s ch k with
    lastA := x, lastB := y, waiting := (⟨t, segB, s.mono, false⟩ :: (axisOf s ch k).waiting).take 64 }) ch
    ((funcPar_putAxis _ k).trans hf) t trt
  obtain ⟨hnewest, hrest⟩ := Prod.mk.inj hview
  obtain ⟨hheard, -⟩ := Prod.mk.inj hrest
  refine ⟨hheard, fun hyoung => hnewest.trans ?_⟩
  simp only [heardAxis, axisOf_putAxis_self]
  refine if_neg fun hold => ?_
  obtain ⟨hheard, hprev⟩ := Bool.and_eq_true_iff.1 hold
  rcases hyoung with hfirst | hyoung
  · rw [hfirst] at hheard; cases hheard
  · cases hp : (axisOf s ch k).prev with
    | none => rw [hp] at hprev; cases hprev
    | some e =>
      rw [hp] at hprev
      exact absurd (of_decide_eq_true hprev) (Int.not_lt.2 (hyoung _ _ hp))

/-- A second copy in time that equals the first completes its pair. -/
theorem takeCopy_pairs {y : PairWait} (h : (axisOf s ch k).waiting.find? (fun y => y.tel.seq == t.seq && y.segB != segB) = some y)
    (hl : y.late = false) (hw : s.mono ≤ y.at_ + windowNs s) (he : telegramBytes y.tel = telegramBytes t) :
    let a := axisOf (takeCopy s ch k segB t trt) ch k
    a.streak = 0 ∧ a.lastPair = some t.seq ∧ a.state = (axisOf s ch k).state := by
  obtain ⟨x, z, hnoted⟩ := notedCopy_form (axisOf s ch k) segB t.seq
  rw [takeCopy_second h hl hw, if_pos he, axisOf_putAxis_self, hnoted]
  exact ⟨rfl, rfl, rfl⟩

/-- One that differs makes a live axis SAFE with MISMATCH. -/
theorem takeCopy_mismatches {y : PairWait}
    (h : (axisOf s ch k).waiting.find? (fun y => y.tel.seq == t.seq && y.segB != segB) = some y)
    (hl : y.late = false) (hw : s.mono ≤ y.at_ + windowNs s) (he : telegramBytes y.tel ≠ telegramBytes t)
    (hd : (axisOf s ch k).state ≠ .disabled) (hs : (axisOf s ch k).state ≠ .safe) :
    let a := axisOf (takeCopy s ch k segB t trt) ch k
    a.state = .safe ∧ a.reason = 2 ∧ a.mismatches = sat16 ((axisOf s ch k).mismatches + 1) := by
  obtain ⟨x, z, hnoted⟩ := notedCopy_form (axisOf s ch k) segB t.seq
  rw [takeCopy_second h hl hw, if_neg he, hnoted, axisOf_axisSafe_live, axisOf_putAxis_self]
  · exact ⟨rfl, rfl, rfl⟩
  · rw [axisOf_putAxis_self]; exact hd
  · rw [axisOf_putAxis_self]; exact hs

end copies

theorem chanTelegram_rejects {s : State} {ch : Chan} {p : Nat} {x : Telegram} (hr : chanRuns s ch = true) (hk : x.channel < 64)
    (h : telegramOk s ch x.channel p x = none) : axisOf (chanTelegram s ch p x) ch x.channel
      = { axisOf s ch x.channel with rejects := sat16 ((axisOf s ch x.channel).rejects + 1) } := by
  simp only [chanTelegram, hr, decide_eq_false (Nat.not_le.2 hk), h]
  exact axisOf_putAxis_self ..

theorem chanTelegram_accepts {s : State} {ch : Chan} {p : Nat} {x : Telegram} {w : Word} (hr : chanRuns s ch = true)
    (hk : x.channel < 64) (h : telegramOk s ch x.channel p x = some w) :
    chanTelegram s ch p x = takeCopy s ch x.channel (p % 2 == 1) x w := by
  simp only [chanTelegram, hr, decide_eq_false (Nat.not_le.2 hk), h]
  rfl

/-- In `t` a channel has judged a telegram copy that came in `s` (R249, R250). -/
def copyJudged (s t : State) (ch : Chan) (p : Nat) (x : Telegram) : Prop :=
  let a := axisOf s ch x.channel
  let b := axisOf t ch x.channel
  let first := a.waiting.find? fun y => y.tel.seq == x.seq && y.segB != (p % 2 == 1)
  (telegramOk s ch x.channel p x = none → b = { a with rejects := sat16 (a.rejects + 1) })
  ∧ ∀ w, telegramOk s ch x.channel p x = some w →
    (first = none → b.heard = true
      ∧ ((a.heard = false ∨ ∀ q z, a.prev = some (q, z) → 0 ≤ toSigned 32 (w - z).toNat) → b.newest = some x))
    ∧ ∀ y, first = some y → y.late = false → s.mono ≤ y.at_ + windowNs s →
      (telegramBytes y.tel = telegramBytes x → b.streak = 0 ∧ b.lastPair = some x.seq ∧ b.state = a.state)
      ∧ (telegramBytes y.tel ≠ telegramBytes x → a.state ≠ .disabled → a.state ≠ .safe →
        b.state = .safe ∧ b.reason = 2 ∧ b.mismatches = sat16 (a.mismatches + 1))

theorem chanTelegram_judges {s : State} {ch : Chan} {p : Nat} {x : Telegram} {f : FuncPar} (hr : chanRuns s ch = true)
    (hk : x.channel < 64) (hf : funcPar s x.channel = some f) : copyJudged s (chanTelegram s ch p x) ch p x := by
  refine ⟨chanTelegram_rejects hr hk, fun w hw => ?_⟩
  rw [chanTelegram_accepts hr hk hw]
  exact ⟨takeCopy_hears hf, fun y hy hl ht => ⟨takeCopy_pairs hy hl ht, takeCopy_mismatches hy hl ht⟩⟩

/-- Each channel judges a telegram as if it were the only one. -/
theorem chanTelegrams_apart (s : State) (ch : Chan) (p : Nat) (x : Telegram) : ∃ v, telView v ch = telView s ch
    ∧ ∀ k, axisOf (chanTelegram (chanTelegram s .sfp p x) .sla p x) ch k = axisOf (chanTelegram v ch p x) ch k := by
  cases ch with
  | sfp => exact ⟨s, rfl, axisOf_of_telView (telView_of_besideAxes (ch := .sla) (besideAxes_chanTelegram ..))⟩
  | sla => exact ⟨_, telView_of_besideAxes (ch := .sfp) (besideAxes_chanTelegram ..), fun _ => rfl⟩

/-- A TC6 frame counted at its port, with its policer moved on (R117). -/
def metered (s : State) (p len : Nat) : State :=
  let u := countGot s p len
  { u with fab := { u.fab with policers := tset {} u.fab.policers p (policerFrame s p len).2 } }

theorem countGot_form (s : State) (p len : Nat) (multi broad : Bool) : ∃ ports,
    countGot s p len multi broad = { s with ports := ports } :=
  ⟨(countGot s p len multi broad).ports, by unfold countGot countPort; cases broad <;> cases multi <;> rfl⟩

theorem policed_eq (s : State) (p len : Nat) (f : State → State) : policed s p len f =
    if (policerFrame s p len).1 then f (metered s p len)
    else Machine.discard (metered s p len) { port := p, reason := 2, ingress := p, tenant := 0, cls := 6, len := len } := rfl

theorem metered_form (s : State) (p len : Nat) : ∃ ports policers,
    metered s p len = { s with ports := ports, fab := { s.fab with policers := policers } } := by
  obtain ⟨ports, h⟩ := countGot_form s p len true false
  unfold metered
  rw [h]
  exact ⟨_, _, rfl⟩

theorem metered_keeps (s : State) (p len : Nat) : (metered s p len).isl = s.isl ∧ (metered s p len).tms = s.tms
    ∧ ∀ ch, telView (metered s p len) ch = telView s ch := by
  obtain ⟨ports, policers, h⟩ := metered_form s p len
  rw [h]
  exact ⟨rfl, rfl, fun ch => by cases ch <;> rfl⟩

theorem telegramReceive_eq {s : State} {p : Nat} (x : Telegram) (hs : safetySegment s p = true) (hp : portReceives s p = true) :
    exec (.telegramReceive p x) s = .next (policed s p 64 fun s => chanTelegram (chanTelegram s .sfp p x) .sla p x) :=
  congrArg Host.Outcome.next (if_pos (by rw [hs, hp]; rfl))

/-- TELEGRAM_RECEIVE of a copy that its policer lets pass. -/
theorem telegramReceive_judges {s : State} {p : Nat} {ch : Chan} {x : Telegram} {f : FuncPar} (hk : x.channel < 64)
    (hf : funcPar s x.channel = some f) (hr : chanRuns s ch = true) (hs : safetySegment s p = true) (hp : portReceives s p = true)
    (hc : (policerFrame s p 64).1 = true) : ∃ t, exec (.telegramReceive p x) s = .next t ∧ copyJudged s t ch p x := by
  obtain ⟨v, hv, haxis⟩ := chanTelegrams_apart (metered s p 64) ch p x
  have hv := hv.trans ((metered_keeps s p 64).2.2 ch)
  obtain ⟨-, -, -, hmono, -⟩ := fields_of_telView hv
  have hjudged := chanTelegram_judges (p := p) ((chanRuns_of_telView hv).trans hr) hk ((funcPar_of_telView hv _).trans hf)
  rw [telegramReceive_eq x hs hp, policed_eq, if_pos hc]
  refine ⟨_, rfl, ?_⟩
  unfold copyJudged at hjudged ⊢
  rwa [telegramOk_of_telView hv, axisOf_of_telView hv, windowNs_of_telView hv, hmono, ← haxis] at hjudged

/-- One that its policer discards reaches neither channel. -/
theorem telegramReceive_policed {s : State} {p : Nat} (x : Telegram) (hs : safetySegment s p = true)
    (hp : portReceives s p = true) (hc : (policerFrame s p 64).1 = false) : ∃ t, exec (.telegramReceive p x) s = .next t
      ∧ t.isl = s.isl ∧ t.tms = s.tms := by
  obtain ⟨hisl, htms, -⟩ := metered_keeps s p 64
  rw [telegramReceive_eq x hs hp, policed_eq, if_neg (by rw [hc]; decide)]
  obtain ⟨-, hkept, -⟩ := blocks_of_besideFabric (besideFabric_discard (metered s p 64)
    { port := p, reason := 2, ingress := p, tenant := 0, cls := 6, len := 64 })
  exact ⟨_, rfl, by simp [hisl], hkept.trans htms⟩

end Sys2Proof.Proofs
end

section
/-! SUPPORT. Deadlines, drive commands and start-up of the safety island, and the obligation about its cycles and telegrams (O46). -/

namespace Sys2Proof.Proofs

open Sys2Proof Sys2Proof.Machine

/-! ## Deadlines (R250, R251) -/

/-- A seq that counts as single-copy adds to the axis's counts, and above single_limit makes it SAFE (R250). -/
theorem singleCopy_counts (s : State) (ch : Chan) (k : Nat) :
    let a := axisOf s ch k
    let b := axisOf (singleCopy s ch k) ch k
    b.singles = a.singles + 1 ∧ b.streak = a.streak + 1
      ∧ ∀ p, s.isl.par = some p → p.singleLimit < a.streak + 1 → a.state ≠ .disabled →
        b.state = .safe ∧ (a.state ≠ .safe → b.reason = 3) := by
  intro a b
  have hb : b = axisOf (if s.isl.par.any fun p => decide (p.singleLimit < a.streak + 1) then
      axisSafe (putAxis s ch k { a with streak := a.streak + 1, singles := a.singles + 1, pairsSince := none }) ch k 3 0
      else putAxis s ch k { a with streak := a.streak + 1, singles := a.singles + 1, pairsSince := none }) ch k := by
    cases ch <;> rfl
  have hput := axisOf_putAxis_self s ch k { a with streak := a.streak + 1, singles := a.singles + 1, pairsSince := none }
  generalize putAxis s ch k { a with streak := a.streak + 1, singles := a.singles + 1, pairsSince := none } = u at hb hput
  have hview : heardView b = heardView (axisOf u ch k) := by
    rw [hb]
    split
    · exact heardView_axisSafe ..
    · rfl
  rw [hput] at hview
  simp only [heardView, Prod.mk.injEq] at hview
  obtain ⟨-, -, hsingles, hstreak, -, -⟩ := hview
  refine ⟨hsingles, hstreak, fun p hp hlimit hd => ?_⟩
  have hd' : (axisOf u ch k).state ≠ .disabled := by rw [hput]; exact hd
  rw [hb, if_pos (by rw [hp]; exact decide_eq_true hlimit)]
  refine ⟨axisSafe_state 3 0 hd', fun hs => ?_⟩
  rw [axisOf_axisSafe_live 3 0 hd' (by rw [hput]; exact hs)]
  rfl

/-- COMPARE_WINDOW_EXPIRY of the oldest copy that still waits. -/
theorem compareWindowExpiry_counts {s : State} {ch : Chan} {k : Nat} {w : PairWait} (hr : chanRuns s ch = true)
    (hw : (axisOf s ch k).waiting.reverse.find? (fun w => !w.late) = some w) : ∃ u,
    exec (.compareWindowExpiry ch k) s = .next (singleCopy u ch k) ∧ u.mono = max s.mono (w.at_ + windowNs s)
      ∧ u.isl.par = s.isl.par ∧ ∃ l, axisOf u ch k = { axisOf s ch k with waiting := l } := by
  obtain ⟨fr, a, b, hu⟩ := untilMono_reaches s (w.at_ + windowNs s)
  have he : compareExpire ch k s = singleCopy (putAxis (untilMono s (w.at_ + windowNs s)) ch k
      { axisOf (untilMono s (w.at_ + windowNs s)) ch k with
        waiting := (axisOf (untilMono s (w.at_ + windowNs s)) ch k).waiting.map fun x =>
          if x.tel.seq == w.tel.seq then { x with late := true } else x }) ch k := by
    simp only [compareExpire, hr, hw]
    rfl
  refine ⟨_, congrArg Host.Outcome.next he, ?_⟩
  rw [axisOf_putAxis_self, hu]
  cases ch <;> exact ⟨rfl, rfl, _, rfl⟩

theorem compareWindowExpiry_clause {s : State} {ch : Chan} {k : Nat} {w : PairWait} (hr : chanRuns s ch = true)
    (hw : (axisOf s ch k).waiting.reverse.find? (fun w => !w.late) = some w) : ∃ t,
    exec (.compareWindowExpiry ch k) s = .next t ∧ t.mono = max s.mono (w.at_ + windowNs s)
      ∧ (axisOf t ch k).singles = (axisOf s ch k).singles + 1 ∧ (axisOf t ch k).streak = (axisOf s ch k).streak + 1
      ∧ ∀ p, s.isl.par = some p → p.singleLimit < (axisOf s ch k).streak + 1 → (axisOf s ch k).state ≠ .disabled →
        (axisOf t ch k).state = .safe ∧ ((axisOf s ch k).state ≠ .safe → (axisOf t ch k).reason = 3) := by
  obtain ⟨u, he, hmono, hpar, l, haxis⟩ := compareWindowExpiry_counts hr hw
  have hcounts := singleCopy_counts u ch k
  rw [haxis, hpar] at hcounts
  exact ⟨_, he, (mono_of_besideAxes (besideAxes_singleCopy ..)).trans hmono, hcounts⟩

/-- STALENESS_DEADLINE of a live axis. -/
theorem stalenessDeadline_makesSafe {s : State} {ch : Chan} {k : Nat} (hr : chanRuns s ch = true) (hv : s.tms.tsValid = true)
    (hd : (axisOf s ch k).state ≠ .disabled) (hs : (axisOf s ch k).state ≠ .safe) :
    exec (.stalenessDeadline ch k) s = .next (axisSafe (untilNs s (axisOf s ch k).deadline) ch k 1 0) := by
  have he : staleness ch k s = axisSafe (untilNs s (axisOf s ch k).deadline) ch k 1 0 := by
    simp only [staleness, hr, hv, beq_eq_false_iff_ne.2 hd, beq_eq_false_iff_ne.2 hs]
    rfl
  exact congrArg Host.Outcome.next he

theorem axisOf_untilNs (s : State) (n : Nat) (ch : Chan) (k : Nat) : axisOf (untilNs s n) ch k = axisOf s ch k := by
  have hisl : (untilNs s n).isl = s.isl := by simp
  exact axisOf_congr (by cases ch <;> simp only [chanOf, hisl]) k

/-! ## Drive commands (R248, R271) -/

/-- The axis notes a drive command sent at model time `now`. -/
def commanded (a : Axis) (now : Nat) : Axis := { a with cmdSeq := a.cmdSeq + 1, cmdAt := some now }

theorem driveSend_sends {s : State} {ch : Chan} {k : Nat} {p : SafetyPar} {c : ChanPar} (hp : s.isl.par = some p)
    (hc : chanPar s k = some c) (hr : chanRuns s ch = true) (hd : (axisOf s ch k).state ≠ .disabled) :
    driveSend ch k s =
      let u := untilMono s (driveDue s ch k)
      let b := driveBytes u ch k
      driveQueue (putAxis u ch k (commanded (axisOf u ch k) u.mono)) (16 + 2 * c.segPair + if ch = .sfp then 0 else 1)
        (driveFrame (putAxis u ch k (commanded (axisOf u ch k) u.mono))
          (b ++ beBytes 4 (crcSafety (seedOf p k ^^^ 0x80000000) b).toNat)) := by
  simp only [driveSend, hp, hc, hr, beq_eq_false_iff_ne.2 hd, commanded, Bool.not_true, Bool.or_self, Bool.false_eq_true,
    if_false]

theorem driveFrame_congr {s t : State} (h : t.otp = s.otp) (b : Bytes) : driveFrame t b = driveFrame s b := by
  simp only [driveFrame, h]

theorem driveCommandSend_clause {s u : State} {ch : Chan} {k : Nat} {p : SafetyPar} {c : ChanPar} (hp : s.isl.par = some p)
    (hc : chanPar s k = some c) (hr : chanRuns s ch = true) (hd : (axisOf s ch k).state ≠ .disabled)
    (hu : u = untilMono s (driveDue s ch k)) : ∃ t, exec (.driveCommandSend ch k) s
      = .next (driveQueue t (16 + 2 * c.segPair + if ch = .sfp then 0 else 1) (driveFrame s
          (driveBytes u ch k ++ beBytes 4 (crcSafety (seedOf p k ^^^ 0x80000000) (driveBytes u ch k)).toNat)))
      ∧ t.mono = max s.mono (driveDue s ch k) ∧ t.fab = s.fab ∧ t.ports = s.ports
      ∧ axisOf t ch k = commanded (axisOf s ch k) t.mono ∧ ∀ j, j ≠ k → axisOf t ch j = axisOf s ch j := by
  obtain ⟨fr, a, b, hform⟩ := untilMono_reaches s (driveDue s ch k)
  have hsent := driveSend_sends hp hc hr hd
  rw [← hu] at hsent hform
  have haxis : ∀ j, axisOf u ch j = axisOf s ch j := fun j => by rw [hform]; cases ch <;> rfl
  have hput : ∀ x, (putAxis u ch k x).mono = max s.mono (driveDue s ch k) ∧ (putAxis u ch k x).fab = s.fab
      ∧ (putAxis u ch k x).ports = s.ports ∧ (putAxis u ch k x).otp = s.otp := fun x => by
    rw [hform]; cases ch <;> exact ⟨rfl, rfl, rfl, rfl⟩
  obtain ⟨hmono, hfab, hports, hotp⟩ := hput (commanded (axisOf u ch k) u.mono)
  refine ⟨putAxis u ch k (commanded (axisOf u ch k) u.mono), ?_, hmono, hfab, hports, ?_, fun j hj => ?_⟩
  · exact congrArg Host.Outcome.next (by rw [hsent, ← driveFrame_congr hotp])
  · have hclock : u.mono = max s.mono (driveDue s ch k) := by rw [hform]
    rw [axisOf_putAxis_self, hmono, haxis, hclock]
  · rw [axisOf_putAxis_other _ _ _ hj, haxis]

/-! ### A frame for one egress (R122 to R128) -/

/-- The frames held, their queues and the next identity, with the island. -/
def waitingView (s : State) : Table (Option Held) × Table (List Nat) × Nat × Island :=
  (s.fab.held, s.fab.queues, s.fab.nextId, s.isl)

theorem waitingView_setAlarmIf (s : State) (c : Bool) (b : Nat) : waitingView (setAlarmIf s c .fab b) = waitingView s := by
  cases c
  · rfl
  · exact (congrArg waitingView (setAlarm_fab_form s b)).trans rfl

/-- Taking cells moves no frame. -/
theorem waitingView_takeCells (s : State) (a : Alloc) (port cls : Nat) (stream : Option Nat) :
    waitingView (takeCells s a port cls stream) = waitingView s := waitingView_setAlarmIf ..

/-- A routed frame as it is held for one egress. -/
def heldOne (s : State) (port : Nat) (r : Routed) : Held :=
  let a := routedAlloc s port r
  { frame := r.frame, ingress := port, tenant := r.tenant, cls := r.cls, stream := r.stream
    conforming := r.conforming, stamp := rxTrt s port, epoch := s.tms.trtEpoch, clsCells := a.clsCells
    streamCells := a.streamCells, portCells := a.portCells, sharedCells := a.sharedCells, refs := 1
    txRef := none, rcts := prpNumbers s r.frame r.ports }

/-- A frame held under the next identity and put at the end of one queue. -/
def queuedOne (s : State) (h : Held) (queue : Nat) : State :=
  { s with fab := { s.fab with
      nextId := s.fab.nextId + 1, held := tset none s.fab.held s.fab.nextId (some h)
      queues := tmod [] s.fab.queues queue (· ++ [s.fab.nextId]) } }

/-- A frame that draws on its accounts alone, for one external egress that takes it. -/
theorem brineAndQueue_queues {s : State} {port p : Nat} {r : Routed} (hp : p < 96) (hr : r.ports = [p])
    (ha : (routedAlloc s port r).sharedCells = 0)
    (he : egressReason s p r (egressFrame s p (heldOne s port r)).len = none) : ∃ u, waitingView u = waitingView s
      ∧ brineAndQueue s port r false = queuedOne u (heldOne s port r) (p * 8 + r.cls) := by
  have hset : queueSet p r.frame = p := if_neg (by omega)
  have hno : ¬ (false = true ∨ sharedFree s < (routedAlloc s port r).sharedCells) := by rw [ha]; simp
  have h96 : (96 == p) = false := beq_eq_false_iff_ne.2 (by omega)
  have h97 : (97 == p) = false := beq_eq_false_iff_ne.2 (by omega)
  have hkept : (p != 96) = true := bne_iff_ne.2 (by omega)
  have hview := waitingView_takeCells (prpNext s (prpNumbers s r.frame [p])) (routedAlloc s port r) port r.cls r.stream
  have hid := congrArg (fun v => v.2.2.1) hview
  simp only [waitingView] at hid
  refine ⟨_, hview.trans rfl, ?_⟩
  simp only [heldOne, hr] at he
  unfold brineAndQueue brineAndQueueAt
  dsimp only
  rw [if_neg hno, if_pos ha, hr]
  simp only [List.contains_nil, Bool.not_false, List.filter_cons, List.filter_nil, if_true, he, Option.isNone_none,
    List.filterMap_cons, List.filterMap_nil, Option.map_none, List.foldl_nil, List.isEmpty_cons, Bool.false_eq_true,
    if_false, List.contains_cons, h96, h97, Bool.or_false, hkept, List.foldl_cons, hset, false_and, queuedOne, heldOne,
    List.length_singleton, hr, hid]

/-- Such a frame is held and queued there. -/
theorem brineAndQueue_one {s : State} {port p : Nat} {r : Routed} (hp : p < 96) (hr : r.ports = [p])
    (ha : (routedAlloc s port r).sharedCells = 0)
    (he : ∀ h : Held, h.frame = r.frame → h.ingress = port → h.rcts = prpNumbers s r.frame [p] →
      egressReason s p r (egressFrame s p h).len = none) : ∃ h,
    tget none (brineAndQueue s port r false).fab.held s.fab.nextId = some h ∧ h.frame = r.frame ∧ h.ingress = port
      ∧ queueOf (brineAndQueue s port r false) p r.cls = queueOf s p r.cls ++ [s.fab.nextId]
      ∧ (brineAndQueue s port r false).isl = s.isl := by
  obtain ⟨u, hview, hq⟩ := brineAndQueue_queues hp hr ha (he (heldOne s port r) rfl rfl (by rw [← hr]; rfl))
  simp only [waitingView, Prod.mk.injEq] at hview
  obtain ⟨-, hqueues, hid, hisl⟩ := hview
  rw [hq]
  refine ⟨heldOne s port r, ?_, rfl, rfl, ?_, hisl⟩
  · rw [← hid]; simp only [queuedOne, tget_tset_self]
  · rw [queueOf, queueOf, ← hqueues, ← hid]; simp only [queuedOne, tget_tmod_self]

/-! ## The SFP's restart and the start-up timeout (R260, R322) -/

/-- The first vector, as far as the causes: the balls and measures taken, the vector posted. -/
def vectorPosted (s : State) (m : CycleMeas) : State :=
  let u := { s with isl := { s.isl with sfpRestart := none, sfp := { s.isl.sfp with ok := m.selfTestOk } } }
  cyclePosted (cycleMeasure (sampleBalls u .sfp m) .sfp m) .sfp

theorem vectorPosted_reads (s : State) (m : CycleMeas) : ∃ v, cycleView (vectorPosted s m) .sfp
    = (s.isl.sfp.cycle + 1, m.seals, m.feedback, some v, m.vsafeMv, m.tj, none, s.mono, s.otp) := by
  have hview := cycleView_measured
    { s with isl := { s.isl with sfpRestart := none, sfp := { s.isl.sfp with ok := m.selfTestOk } } } .sfp m
  unfold vectorPosted
  dsimp only
  generalize cycleMeasure _ _ _ = u at hview ⊢
  simp only [cycleView, chanOf, Prod.mk.injEq] at hview
  obtain ⟨hcycle, hseals, hfeedback, -, hvsafe, htj, hrestart, hmono, hotp⟩ := hview
  refine ⟨mkVector u .sfp, ?_⟩
  simp only [cycleView, cyclePosted, putChan, chanOf, hcycle, hseals, hfeedback, hvsafe, htj, hrestart, hmono, hotp]

theorem firstVector_ends {s : State} {m : CycleMeas} {u : Nat} (hr : s.isl.sfpRestart = some u) (hi : islandRuns s = true)
    (ht : s.mono ≤ u + 600000000) (ha : ∀ a, s.fw.activation = some a → a.loaded = true) :
    firstVector m s
      = writeMirror (leaveSafe ((cycleCauses (vectorPosted s m) .sfp m).foldl deviceSafe (vectorPosted s m)) 0) := by
  have hloaded : s.fw.activation.all (·.loaded) = true := by
    cases hact : s.fw.activation with
    | none => rfl
    | some a => exact ha a hact
  have htime : decide (u + 600000000 < s.mono) = false := decide_eq_false (by omega)
  unfold firstVector
  rw [hr]
  dsimp only
  rw [if_neg (by rw [hi, htime, hloaded]; decide)]
  rfl

/-- The SFP's first vector in time ends its restart. -/
theorem sfpFirstVector_clause {s : State} {m : CycleMeas} {u : Nat} (hr : s.isl.sfpRestart = some u) (hi : islandRuns s = true)
    (ht : s.mono ≤ u + 600000000) (ha : ∀ a, s.fw.activation = some a → a.loaded = true) : ∃ t,
    exec (.sfpFirstVector m) s = .next t ∧ t.isl.sfpRestart = none ∧ t.isl.sfp.posted.isSome = true
      ∧ t.isl.sfp.cycle = s.isl.sfp.cycle + 1 ∧ t.isl.sfp.seals = m.seals := by
  refine ⟨_, congrArg Host.Outcome.next (firstVector_ends hr hi ht ha), ?_⟩
  obtain ⟨v, hposted⟩ := vectorPosted_reads s m
  have hview := ((writeMirror_keeps (leaveSafe ((cycleCauses (vectorPosted s m) .sfp m).foldl deviceSafe
    (vectorPosted s m)) 0) .sfp).1.trans ((cycleView_leaveSafe ..).trans (cycleView_causes ..))).trans hposted
  generalize writeMirror _ = t at hview ⊢
  simp only [cycleView, chanOf, Prod.mk.injEq] at hview
  obtain ⟨hcycle, hseals, -, hpost, -, -, hrestart, -⟩ := hview
  exact ⟨hrestart, by rw [hpost]; rfl, hcycle, hseals⟩

theorem island_of_islandRuns {s : State} (h : islandRuns s = true) : s.otp.island = true := (Bool.and_eq_true_iff.1 h).1

theorem island_of_chanRuns {s : State} {ch : Chan} (h : chanRuns s ch = true) : s.otp.island = true :=
  island_of_islandRuns (Bool.and_eq_true_iff.1 h).1

/-- STARTUP latched at an instant. -/
theorem lateStart {s : State} (n : Nat) (hi : s.otp.island = true) :
    bitAt (deviceSafe (untilMono s n) 10).isl.fault 10 = true ∧ (deviceSafe (untilMono s n) 10).isl.deviceSafe = true
      ∧ (deviceSafe (untilMono s n) 10).mono = max s.mono n := by
  obtain ⟨fr, a, b, hu⟩ := untilMono_reaches s n
  obtain ⟨hfault, hsafe⟩ := deviceSafe_latches (s := untilMono s n) (cause := 10) (by rw [hu]; exact hi) (by decide)
  have hmono : (deviceSafe (untilMono s n) 10).mono = (untilMono s n).mono :=
    congrArg (fun v => v.2.2.2.2.2.2.2.1) (cycleView_deviceSafe (untilMono s n) 10 .sfp)
  exact ⟨hfault, hsafe, hmono.trans (by rw [hu])⟩

theorem startupLate_restart {s : State} {u : Nat} (hi : islandRuns s = true) (hr : s.isl.sfpRestart = some u) :
    startupLate s = deviceSafe (untilMono s (u + 600000000)) 10 := by
  unfold startupLate
  rw [if_neg (by rw [hi]; decide), hr]

theorem startupLate_channels {s : State} (hi : islandRuns s = true) (hr : s.isl.sfpRestart = none) (hp : s.fw.phase = .ready)
    (hok : s.isl.sfp.ok = false ∨ s.isl.sla.ok = false) :
    startupLate s = deviceSafe (untilMono s (s.fw.readyAt + 500000000)) 10 := by
  have hlate : (s.fw.phase == .ready && !(s.isl.sfp.ok && s.isl.sla.ok)) = true := by
    rcases hok with h | h <;> simp [hp, h]
  unfold startupLate
  rw [if_neg (by rw [hi]; decide), hr]
  exact if_pos hlate

/-! ## What a channel that does not run does -/

theorem safetyCycle_idle {s : State} {ch : Chan} (m : CycleMeas) (h : chanRuns s ch = false) :
    exec (.safetyCycle ch m) s = .next s := congrArg Host.Outcome.next (if_neg (by rw [h]; decide))

theorem compareExpire_idle {s : State} {ch : Chan} (k : Nat) (h : chanRuns s ch = false) : compareExpire ch k s = s :=
  if_pos (by rw [h]; rfl)

theorem staleness_idle {s : State} {ch : Chan} (k : Nat) (h : chanRuns s ch = false) : staleness ch k s = s :=
  if_pos (by rw [h]; rfl)

theorem driveSend_idle {s : State} {ch : Chan} (k : Nat) (h : chanRuns s ch = false) : driveSend ch k s = s := by
  unfold driveSend
  split
  · exact if_pos (by rw [h]; rfl)
  · rfl

theorem telegramReceive_elsewhere {s : State} {p : Nat} (x : Telegram)
    (h : safetySegment s p = false ∨ portReceives s p = false) :
    exec (.telegramReceive p x) s = .next s := by
  have hno : (safetySegment s p && portReceives s p) = false := by
    rcases h with h | h <;> simp [h]
  exact congrArg Host.Outcome.next (if_neg (by rw [hno]; decide))

theorem safetyCycle_clause {s : State} {ch : Chan} (m : CycleMeas) (hr : chanRuns s ch = true) : ∃ t,
    exec (.safetyCycle ch m) s = .next t
      ∧ (chanOf t ch).cycle = (chanOf s ch).cycle + 1 ∧ (chanOf t ch).seals = m.seals ∧ (chanOf t ch).feedback = m.feedback
      ∧ (∃ v, (chanOf t ch).posted = some v ∧ v.cycle = (chanOf s ch).cycle + 1 ∧ v.seals = m.seals)
      ∧ t.isl.vsafe = m.vsafeMv ∧ t.isl.tj = m.tj ∧ (t.isl.deviceSafe = true → (chanOf t ch).halves = 0)
      ∧ (1350 < m.tj → t.isl.deviceSafe = true ∧ bitAt t.isl.fault 8 = true) ∧ t.mono = max s.mono (cycleDue s ch) := by
  obtain ⟨⟨v, hview, hcount, hballs⟩, hlow, hhot⟩ := cycleEffect_clause (ch := ch) m (island_of_chanRuns hr)
  simp only [cycleView, Prod.mk.injEq] at hview
  obtain ⟨hcycle, hseals, hfeedback, hposted, hvsafe, htj, -, hmono, -⟩ := hview
  exact ⟨cycleEffect s ch m, congrArg Host.Outcome.next (if_pos hr), hcycle, hseals, hfeedback, ⟨v, hposted, hcount, hballs⟩,
    hvsafe, htj, hlow, fun h => (hhot h).symm, hmono⟩

theorem stalenessDeadline_clause {s : State} {ch : Chan} {k : Nat} (hr : chanRuns s ch = true) (hv : s.tms.tsValid = true)
    (hd : (axisOf s ch k).state ≠ .disabled) (hs : (axisOf s ch k).state ≠ .safe) : ∃ t,
    exec (.stalenessDeadline ch k) s = .next t ∧ (axisOf t ch k).state = .safe ∧ (axisOf t ch k).reason = 1
      ∧ (axisOf t ch k).newest = (axisOf s ch k).newest ∧ ∀ j, j ≠ k → axisOf t ch j = axisOf s ch j := by
  have hlive := axisOf_untilNs s (axisOf s ch k).deadline ch
  refine ⟨_, stalenessDeadline_makesSafe hr hv hd hs, ?_⟩
  rw [axisOf_axisSafe_live 1 0 (by rw [hlive]; exact hd) (by rw [hlive]; exact hs), hlive]
  exact ⟨rfl, rfl, rfl, fun j hj => (axisOf_axisSafe_other (h := hj) ..).trans (hlive j)⟩

/-- The segments' ports are external. -/
theorem sg_range {p : Nat} (hp : portKind p = .sg) : p < 96 := by
  unfold portKind at hp
  split_ifs at hp
  · omega
  · split at hp <;> cases hp

/-- A drive command's frame enters the fabric at port 98. -/
theorem driveQueue_queues {u : State} {p : Nat} {f : Frame} (hp : portKind p = .sg) :
    let r : Routed := { cls := 6, tenant := 0, stream := none, conforming := false, vid := frameVid u 98 f, frame := f
                        ports := [p] }
    let v := countGot u 98 f.len
    (routedAlloc v 98 r).sharedCells = 0 →
    (∀ h : Held, h.frame = f → h.ingress = 98 → h.rcts = prpNumbers v f [p] →
      egressReason v p r (egressFrame v p h).len = none) → ∃ h,
      tget none (driveQueue u p f).fab.held u.fab.nextId = some h ∧ h.frame = f ∧ h.ingress = 98
      ∧ queueOf (driveQueue u p f) p 6 = queueOf u p 6 ++ [u.fab.nextId] ∧ (driveQueue u p f).isl = u.isl := by
  intro r v ha he
  obtain ⟨ports, hv⟩ := countGot_form u 98 f.len true false
  have hfab : v.fab = u.fab := (congrArg State.fab hv).trans rfl
  have hisl : v.isl = u.isl := (congrArg State.isl hv).trans rfl
  obtain ⟨h, hheld, hframe, hingress, hqueue, hkept⟩ := brineAndQueue_one (r := r) (sg_range hp) rfl ha he
  refine ⟨h, ?_, hframe, hingress, ?_, hkept.trans hisl⟩
  · rw [← hfab]; exact hheld
  · refine hqueue.trans ?_
    rw [queueOf, queueOf, hfab]

/-- Settles O46: each clause is the lemma above on its instruction; a cycle through what its steps leave of the vector, a
telegram through each channel judging its copies alone. -/
theorem safetyCyclesAndTelegrams : Obligations.SafetyCyclesAndTelegrams := by
  unfold Obligations.SafetyCyclesAndTelegrams
  refine ⟨fun s ch m hr => safetyCycle_clause m hr, fun s ch m h => safetyCycle_idle m h, ?_,
    fun s p x hs hp hc => telegramReceive_policed x hs hp hc, fun s p x h => telegramReceive_elsewhere x h,
    fun s ch k h => ⟨congrArg Host.Outcome.next (compareExpire_idle k h), congrArg Host.Outcome.next (staleness_idle k h),
      congrArg Host.Outcome.next (driveSend_idle k h)⟩, ?_,
    fun s h => congrArg Host.Outcome.next (if_pos (by rw [h]; rfl)),
    fun s ch k w hr hw => compareWindowExpiry_clause hr hw,
    fun s ch k hr hv hd hs => stalenessDeadline_clause hr hv hd hs, ?_, fun s b => ⟨rfl, rfl, rfl, rfl⟩,
    fun u p f hp => driveQueue_queues hp, fun s m u hr hi ht ha => sfpFirstVector_clause hr hi ht ha, fun s hi => ⟨?_, ?_⟩⟩
  · rintro s p x ch k c f hk rfl - hf hr hs hp hc
    obtain ⟨t, he, hrejects, htaken⟩ := telegramReceive_judges hk hf hr hs hp hc
    exact ⟨t, he, hrejects, fun w hw => htaken w hw⟩
  · intro s m h
    refine congrArg Host.Outcome.next ?_
    unfold firstVector
    rw [h]
  · rintro s ch k p c u b hp hc hr hd hu rfl
    exact driveCommandSend_clause hp hc hr hd hu
  · intro u hr
    exact ⟨_, congrArg Host.Outcome.next (startupLate_restart hi hr), lateStart _ (island_of_islandRuns hi)⟩
  · intro hr hp hok
    exact ⟨_, congrArg Host.Outcome.next (startupLate_channels hi hr hp hok), lateStart _ (island_of_islandRuns hi)⟩

end Sys2Proof.Proofs
end

section
/-! SUPPORT. Stream admission: what a frame for MGP firmware leaves as it was, CONFIRM at the origin, timeouts, withdrawals and
the admission commands, and the obligation about the end of streams (O33). -/

namespace Sys2Proof.Proofs

open Sys2Proof Sys2Proof.Machine

/-! ## A frame for MGP firmware (R187, R333) -/

/-- A frame that MGP firmware takes is counted, and may end NAP: all else stays. -/
@[simp] theorem mgpTakes_keeps (s : State) (x : Sent) :
    (mgpTakes s x).otp = s.otp ∧ (mgpTakes s x).fw = s.fw ∧ (mgpTakes s x).tms = s.tms ∧ (mgpTakes s x).fab = s.fab
    ∧ (mgpTakes s x).adm = s.adm ∧ (mgpTakes s x).ine = s.ine ∧ (mgpTakes s x).wire = s.wire
    ∧ (mgpTakes s x).mono = s.mono := by
  simp [mgpTakes]

@[simp] theorem originOf_mgpTakes (s : State) (x : Sent) (i : Nat) : originOf (mgpTakes s x) i = originOf s i := by
  simp [originOf]

/-! ## Refusals and withdrawals at the origin (R161, R163) -/

theorem originDrop_streams (s : State) (o : OriginStream) :
    (originDrop s o).adm.streams = s.adm.streams.filter fun x => x.streamId != o.streamId := rfl

/-- A refusal answers the STREAM_ADMIT that waits, with the record of what failed (Table 6-5). -/
theorem refuseStream_answers {o : OriginStream} {c : Hcp} (s : State) (f : FailRec) (computed : Option Nat)
    (hc : o.hcp = some c) : refuseStream s o f computed
      = respond (originDrop s o) c 0x0501 .refused f.reason (refusalBytes f computed o.req.bound) := by
  unfold refuseStream completeAdmit
  rw [hc]

@[simp] theorem refuseStream_adm (s : State) (o : OriginStream) (f : FailRec) (computed : Option Nat) :
    (refuseStream s o f computed).adm = (originDrop s o).adm := by
  unfold refuseStream completeAdmit
  split
  · simp
  · rfl

theorem withdraw_streams (s : State) (o : OriginStream) (reason : Nat) :
    (withdraw s o reason).adm.streams = s.adm.streams.filter fun x => x.streamId != o.streamId := by
  simp only [withdraw, streamEvent, event_frame, originDrop_streams]

/-! ## Timeouts (R160, R161) -/

section origin
variable {s : State} {i : Nat} {o : OriginStream}

theorem prepareTimeout_refuses (ho : originOf s i = some o) (hs : o.state = .preparing) :
    exec (.prepareTimeout i) s = .next (hopTimeout (untilMono s (o.at_ + 2300000)) o
      (firstSilent o fun i => o.dHops.any fun e => e.1 == i)) := by
  refine congrArg Host.Outcome.next ?_
  unfold prepareTimeoutEffect
  rw [ho]
  exact if_neg (not_not.2 hs)

theorem confirmTimeout_refuses (ho : originOf s i = some o) (hs : o.state = .installing) :
    exec (.confirmTimeout i) s = .next (hopTimeout (untilNs s (o.tAct + 1000000)) o
      (firstSilent o fun i => o.confirmed.contains i)) := by
  refine congrArg Host.Outcome.next ?_
  unfold confirmTimeoutEffect
  rw [ho]
  exact if_neg (not_not.2 hs)

theorem suspendHoldExpiry_withdraws (ho : originOf s i = some o) (hs : o.state = .suspended) :
    exec (.suspendHoldExpiry i) s
      = .next (withdraw (untilMono s (o.suspendedAt + s.adm.suspendHold * 1000000000)) o 0x10) := by
  refine congrArg Host.Outcome.next ?_
  unfold suspendExpiry
  rw [ho]
  exact if_neg (not_not.2 hs)

/-- A refusal by HOP_TIMEOUT answers the waiting STREAM_ADMIT with reason 13, and the stream is gone. -/
theorem hopTimeout_answers {c : Hcp} (s : State) (k : Nat) (hc : o.hcp = some c) : ∃ v p,
    hopTimeout s o k = respond v c 0x0501 .refused 13 p
      ∧ v.adm.streams = s.adm.streams.filter fun x => x.streamId != o.streamId :=
  ⟨_, _, refuseStream_answers s _ none hc, originDrop_streams s o⟩

theorem holdLapse_removes {n : StreamName} {h : Hold} (hh : (holdsOf s n).find? (fun h => h.installAt.isNone) = some h) : ∃ t,
    exec (.holdLapse n) s = .next t
      ∧ t.adm.holds = s.adm.holds.filter (fun x => !(x.name == n && x.installAt.isNone))
      ∧ t.mono = max s.mono (h.at_ + 10000000) ∧ t.fab = s.fab := by
  refine ⟨holdLapseEffect n s, rfl, ?_⟩
  unfold holdLapseEffect
  rw [hh]
  simp

/-! ## CONFIRM_RECEIVE (R161) -/

section confirm
variable {n : StreamName} {k : Nat} {g : PathHop}

/-- A CONFIRM of a stream that runs: its hop is back, has lost time service, or is lost. -/
theorem confirmReceive_running (hn : n.origin = s.otp.unitId) (ho : originOf s n.streamId = some o)
    (hs : o.state = .active ∨ o.state = .suspended) (st : Nat) :
    exec (.confirmReceive n k st) s = .next (
      if st = 0 then hopUp (mgpTakes s (.confirm n k st)) o (keyOf o n k)
      else if st = 5 then withdraw (mgpTakes s (.confirm n k st)) o 5
      else hopDown (mgpTakes s (.confirm n k st)) o (keyOf o n k)) := by
  refine congrArg Host.Outcome.next ?_
  unfold confirmEffect
  rw [if_neg (by simp [hn]), originOf_mgpTakes, ho]
  rcases hs with h | h <;> simp only [h]

/-- A CONFIRM of a stream whose entries are being written: its hop has confirmed, has lost time service, or is lost. -/
theorem confirmReceive_installing (hn : n.origin = s.otp.unitId) (ho : originOf s n.streamId = some o)
    (hs : o.state = .installing) (st : Nat) :
    exec (.confirmReceive n k st) s = .next (
      if st = 0 then streamActive (mgpTakes s (.confirm n k st)) { o with
        confirmed := sadd o.confirmed (keyOf o n k), down := o.down.filter fun h => hopAt o (keyOf o n k) != some h }
      else if st = 5 then hopTimeout (mgpTakes s (.confirm n k st)) o (keyOf o n k)
      else hopDown (mgpTakes s (.confirm n k st)) o (keyOf o n k)) := by
  refine congrArg Host.Outcome.next ?_
  unfold confirmEffect
  rw [if_neg (by simp [hn]), originOf_mgpTakes, ho]
  simp only [hs]

theorem hopDown_active (s : State) (hg : hopAt o k = some g) (hs : o.state = .active) (hd : o.down = []) :
    hopDown s o k = suspend s o [g] := by
  unfold hopDown
  rw [hg, hd]
  simp [hs]

theorem hopDown_installing (s : State) (hg : hopAt o k = some g) (hs : o.state = .installing) (hd : o.down = []) :
    hopDown s o k = putOrigin s { o with down := [g] } := by
  unfold hopDown
  rw [hg, hd]
  simp [hs]

/-- The last lost hop that is back makes the stream ACTIVE again. -/
theorem hopUp_last (s : State) (hg : hopAt o k = some g) (hs : o.state = .suspended) (hd : o.down = [g]) :
    hopUp s o k = streamEvent (mirrorState (putOrigin s { o with state := .active, down := [] }) o false) o 1 0 := by
  unfold hopUp
  rw [hg, hd]
  simp [hs]

end confirm

end origin

/-! ## RELEASE_RECEIVE and NOTICE_RECEIVE (R159, R165, R166) -/

/-- An entry of the stream table is left, as it was, where it is not of the stream that goes. -/
theorem mem_removeLocal_streams {s : State} {n : StreamName} {e : Nat × Option Stream} :
    e ∈ (removeLocal s n).fab.streams ↔ e ∈ s.fab.streams
      ∧ ∃ x, e.2 = some x ∧ (x.origin ≠ n.origin ∨ x.streamId ≠ n.streamId) := by
  obtain ⟨k, y⟩ := e
  simp only [removeLocal, tmap, List.mem_filterMap]
  constructor
  · rintro ⟨⟨j, z⟩, hz, he⟩
    cases z with
    | none => simp at he
    | some x =>
      by_cases hx : x.origin = n.origin ∧ x.streamId = n.streamId
      · simp [Option.filter, hx] at he
      · have hkept : x.origin ≠ n.origin ∨ x.streamId ≠ n.streamId := by tauto
        obtain ⟨rfl, rfl⟩ : j = k ∧ some x = y := by simpa [Option.filter, not_and_or.1 hx] using he
        exact ⟨hz, x, rfl, hkept⟩
  · rintro ⟨hy, x, rfl, hx⟩
    have hkept : ¬ (x.origin = n.origin ∧ x.streamId = n.streamId) := by tauto
    exact ⟨_, hy, by simp [Option.filter, hkept]⟩

theorem releaseReceive_elsewhere {s : State} {n : StreamName} (hn : n.origin ≠ s.otp.unitId) :
    exec (.releaseReceive n) s = .next (removeLocal (mgpTakes s (.release n)) n) :=
  congrArg Host.Outcome.next (if_neg (by simpa using hn))

theorem releaseReceive_clause {s : State} {n : StreamName} (hn : n.origin ≠ s.otp.unitId) : ∃ t,
    exec (.releaseReceive n) s = .next t
      ∧ t.adm.holds = s.adm.holds.filter (fun h => !sameStream h.name n)
      ∧ (∀ e ∈ t.fab.streams, e ∈ s.fab.streams ∧ ∀ x, e.2 = some x → x.origin ≠ n.origin ∨ x.streamId ≠ n.streamId)
      ∧ (∀ e ∈ s.fab.streams, ∀ x, e.2 = some x → x.origin ≠ n.origin ∨ x.streamId ≠ n.streamId → e ∈ t.fab.streams)
      ∧ t.adm.streams = s.adm.streams ∧ t.tms = s.tms ∧ t.wire = s.wire := by
  have hfab : (mgpTakes s (.release n)).fab = s.fab := by simp
  refine ⟨_, releaseReceive_elsewhere hn, by simp [removeLocal], ?_, ?_, by simp [removeLocal], by simp [removeLocal],
    by simp [removeLocal]⟩
  · intro e he
    obtain ⟨hmem, x, hx, hne⟩ := mem_removeLocal_streams.1 he
    exact ⟨hfab ▸ hmem, fun y hy => Option.some.inj (hx.symm.trans hy) ▸ hne⟩
  · intro e he x hx hne
    exact mem_removeLocal_streams.2 ⟨hfab.symm ▸ he, x, hx, hne⟩

theorem releaseReceive_origin {s : State} {n : StreamName} {o : OriginStream} (hn : n.origin = s.otp.unitId)
    (ho : originOf s n.streamId = some o) (hs : o.state = .active ∨ o.state = .suspended) :
    exec (.releaseReceive n) s = .next (withdraw (mgpTakes s (.release n)) o 0) := by
  refine congrArg Host.Outcome.next ?_
  unfold releaseEffect
  rw [if_pos (by simpa using hn), originOf_mgpTakes, ho]
  exact if_pos hs

theorem noticeReceive_tells {s : State} {n : Notice} {o : OriginStream} (hn : n.name.origin = s.otp.unitId)
    (ho : originOf s n.name.streamId = some o) : ∃ p,
    exec (.noticeReceive n) s = .next (event (mgpTakes s (.notice n)) o.owner 3 p)
      ∧ p.take 2 = leBytes 2 o.streamId ∧ p.length = 15 := by
  have heffect : noticeEffect n (mgpTakes s (.notice n)) = event (mgpTakes s (.notice n)) o.owner 3
      (leBytes 2 o.streamId ++ leBytes 1 n.hop ++ leBytes 1 n.port ++ leBytes 1 n.kind ++ leBytes 1 n.reason
        ++ leBytes 4 n.residence ++ leBytes 4 n.bound ++ leBytes 1 n.cause) := by
    unfold noticeEffect
    rw [if_neg (by simp [hn]), originOf_mgpTakes, ho]
  exact ⟨_, congrArg Host.Outcome.next heffect, rfl, by simp only [List.length_append, length_leBytes]⟩

/-! ## The commands of Table 6-8 (R156, R166) -/

/-- The entries of a stream in this node's table. -/
def localEntries (s : State) (g : UnitId) (i : Nat) : List Stream :=
  s.fab.streams.filterMap fun e => e.2.bind fun x => if x.origin == g && x.streamId == i then some x else none

/-- The payload of STREAM_STATUS: the code of the state, then the figures of each local hop. -/
def statusAnswer (xs : List Stream) (code : Nat) : Bytes := leBytes 1 code ++ leBytes 3 0 ++ xs.flatMap (streamFigures xs)

theorem head_statusAnswer (xs : List Stream) (code : Nat) : (statusAnswer xs code).head? = some (BitVec.ofNat 8 code) := by
  simp [statusAnswer, leBytes]

theorem length_statusAnswer (xs : List Stream) (code : Nat) : 4 ≤ (statusAnswer xs code).length := by
  simp only [statusAnswer, List.length_append, length_leBytes]
  omega

section commands
variable {h : Hcp} {s : State} {i : Nat} {g : UnitId} {o : OriginStream}

theorem streamWithdraw_withdraws (ha : accepts { opcode := 0x0502, classC := true, features := [5] } h s = true)
    (ho : originOf s i = some o) (ht : h.tenant = 0 ∨ h.tenant = o.owner) (hs : o.state = .active ∨ o.state = .suspended) :
    exec (.streamWithdraw h s.otp.unitId i) s = .next (respond (withdraw s o 0) h 0x0502 .ok 0 []) := by
  have hright : ¬ (h.tenant ≠ 0 ∧ h.tenant ≠ o.owner) := by tauto
  have hruns : ¬ (o.state = .preparing ∨ o.state = .installing) := by rcases hs with e | e <;> simp [e]
  refine congrArg Host.Outcome.next ((runHcp_accepted _ ha).trans ?_)
  simp only [ho, if_neg hright, if_neg hruns, if_true, conclude_okay]

theorem streamWithdraw_releases (ha : accepts { opcode := 0x0502, classC := true, features := [5] } h s = true)
    (hg : g ≠ s.otp.unitId) (hr : ownsRemote h.tenant g i = true) :
    exec (.streamWithdraw h g i) s = .next (respond
      (mgpSends (removeLocal s { origin := g, streamId := i, txn := 0 }) (localPort s { origin := g, streamId := i, txn := 0 })
        (.release { origin := g, streamId := i, txn := 0 })) h 0x0502 .ok 0 []) :=
  congrArg Host.Outcome.next ((runHcp_accepted _ ha).trans (congrArg (conclude h 0x0502)
    ((if_neg hg).trans (if_neg (by simp [hr])))))

theorem streamStatus_origin (ha : accepts { opcode := 0x0503, features := [5] } h s = true)
    (ho : originOf s i = some o) (ht : h.tenant = 0 ∨ h.tenant = o.owner) : exec (.streamStatus h s.otp.unitId i) s
      = .next (respond s h 0x0503 .ok 0 (statusAnswer (localEntries s s.otp.unitId i) (streamCode o.state))) := by
  have hright : ¬ (h.tenant ≠ 0 ∧ h.tenant ≠ o.owner) := by tauto
  refine congrArg Host.Outcome.next ((runHcp_accepted _ ha).trans ?_)
  simp only [ho, if_neg hright, if_true]
  rfl

/-- Off the path of a stream its state is a free value, of which only the draw is noted. -/
theorem streamStatus_remote (ha : accepts { opcode := 0x0503, features := [5] } h s = true)
    (hg : g ≠ s.otp.unitId) (hr : ownsRemote h.tenant g i = true) : ∃ u code,
    exec (.streamStatus h g i) s = .next (respond u h 0x0503 .ok 0 (statusAnswer (localEntries s g i) code))
      ∧ (u = s ∨ u = (draw s).2) := by
  by_cases hl : (localEntries s g i).isEmpty = true
  · exact ⟨_, _, congrArg Host.Outcome.next ((runHcp_accepted _ ha).trans (congrArg (conclude h 0x0503)
      ((if_neg hg).trans ((if_neg (by simp [hr])).trans (if_pos hl))))), .inr rfl⟩
  · exact ⟨_, _, congrArg Host.Outcome.next ((runHcp_accepted _ ha).trans (congrArg (conclude h 0x0503)
      ((if_neg hg).trans ((if_neg (by simp [hr])).trans (if_neg hl))))), .inl rfl⟩

theorem admissionConfig_sets {recs : List Param} {a : Admission}
    (ha : accepts { opcode := 0x0504, classC := true, owner := true, features := [5] } h s = true)
    (hr : applyRecs s admRec 0 s.adm recs = .ok a)
    (hcap : (recs.all fun p => p.key != 1) = true ∨ capFits { s with adm := a } a.cap = true) :
    exec (.admissionConfig h recs) s = .next (respond { s with adm := a } h 0x0504 .ok 0 []) := by
  refine congrArg Host.Outcome.next ((runHcp_accepted _ ha).trans ?_)
  rw [hr]
  dsimp only
  split
  next k hk =>
    have hfits : capFits { s with adm := a } a.cap = true := by
      refine hcap.resolve_left fun hall => ?_
      obtain ⟨p, hp, hkey⟩ := List.any_eq_true.1 (List.findIdx?_isSome.symm.trans (congrArg Option.isSome hk))
      exact bne_iff_ne.1 (List.all_eq_true.1 hall p hp) (beq_iff_eq.1 hkey)
    rw [if_pos hfits, conclude_okay]
  next => rw [conclude_okay]

end commands

/-- Settles O33: each clause is the lemma above on its instruction. -/
theorem streamsEndAndAreRead : Obligations.StreamsEndAndAreRead := by
  unfold Obligations.StreamsEndAndAreRead
  refine ⟨?_, fun s i o ho hs => ⟨_, confirmTimeout_refuses ho hs⟩, fun s n hn => releaseReceive_clause hn,
    fun s n h hh => holdLapse_removes hh, fun s n o hn ho => noticeReceive_tells hn ho, ?_, ?_,
    fun h s i o ha ho ht hs => streamWithdraw_withdraws ha ho ht hs, fun h s i o ha ho ht => ⟨_, streamStatus_origin ha ho ht, head_statusAnswer ..⟩,
    fun h s recs a ha hr hc => admissionConfig_sets ha hr hc, fun s n o hn ho hs => releaseReceive_origin hn ho hs,
    fun h s g i ha hg hr => streamWithdraw_releases ha hg hr, ?_⟩
  · intro s i o ho hs
    exact ⟨_, _, prepareTimeout_refuses ho hs, by simp, by simp, fun c hc => by
      simpa using hopTimeout_answers (untilMono s (o.at_ + 2300000)) _ hc⟩
  · intro s n o k g hn ho hg
    refine ⟨fun hs hd => ?_, fun hs hd => ?_, fun hs hd => ?_, fun hs => ?_⟩
    · rw [confirmReceive_running hn ho (.inl hs), if_neg (by decide), if_neg (by decide), hopDown_active _ hg hs hd]
      simp [suspend]
    · rw [confirmReceive_installing hn ho hs, if_neg (by decide), if_neg (by decide), hopDown_installing _ hg hs hd]
    · rw [confirmReceive_running hn ho (.inr hs), if_pos rfl, hopUp_last _ hg hs hd]
    · rw [confirmReceive_running hn ho hs, if_neg (by decide), if_pos rfl]
  · intro s i o ho hs
    exact ⟨_, suspendHoldExpiry_withdraws ho hs, by simp, by rw [withdraw_streams]; simp⟩
  · intro h s g i ha hg hr
    obtain ⟨u, code, hexec, rfl | rfl⟩ := streamStatus_remote ha hg hr
    · exact ⟨_, _, hexec, length_statusAnswer .., rfl, rfl, rfl⟩
    · exact ⟨_, _, hexec, length_statusAnswer .., by simp⟩

end Sys2Proof.Proofs
end

section
/-! SUPPORT. Stream admission: the two-phase installation of a stream at its origin and at a hop node, clause by clause, and
the obligation about it (O32). -/

namespace Sys2Proof.Proofs

open Sys2Proof Sys2Proof.Machine

/-! ## Tables in canonical form -/

theorem tget_of_tkeysFrom {α : Type} {d : α} {t : Table α} {b k : Nat} (h : tkeysFrom b t = true) (hk : k < b) :
    tget d t k = d := by
  induction t generalizing b with
  | nil => rfl
  | cons e r ih =>
    obtain ⟨j, a⟩ := e
    simp only [tkeysFrom, Bool.and_eq_true, decide_eq_true_eq] at h
    simp only [tget, if_neg (show ¬ j = k by omega), ih h.2 (by omega)]

/-- With keys that rise a map that keeps the default acts on what each key holds. -/
theorem tget_tmap_of_tkeysFrom {α : Type} [DecidableEq α] {d : α} {t : Table α} {f : Nat → α → α} {b k : Nat}
    (h : tkeysFrom b t = true) (hd : f k d = d) : tget d (tmap d t f) k = f k (tget d t k) := by
  induction t generalizing b with
  | nil => exact hd.symm
  | cons e r ih =>
    obtain ⟨j, a⟩ := e
    simp only [tkeysFrom, Bool.and_eq_true, decide_eq_true_eq] at h
    have hrest := ih h.2
    by_cases hj : j = k
    · subst hj
      by_cases hv : f j a = d
      · have habsent : tget d r j = d := tget_of_tkeysFrom h.2 (Nat.lt_succ_self j)
        simpa [tmap, tget, hv, habsent, hd] using hrest
      · simp [tmap, tget, hv]
    · by_cases hv : f j a = d <;> simpa [tmap, tget, hj, hv] using hrest

/-! ## The channel and the end of NAP (R198, R307, R333) -/

theorem countGot_counters (s : State) (p len : Nat) (multi broad : Bool) : ∃ c,
    countGot s p len multi broad = { s with ports := { s.ports with counters := c } } := by
  unfold countGot
  simp only [countPort]
  split_ifs <;> exact ⟨_, rfl⟩

theorem countSent_counters (s : State) (p len : Nat) (multi broad : Bool) : ∃ c,
    countSent s p len multi broad = { s with ports := { s.ports with counters := c } } := by
  unfold countSent
  simp only [countPort]
  split_ifs <;> exact ⟨_, rfl⟩

theorem emitVia_counters (s : State) (l : List Nat) (x : Sent) : ∃ c w,
    emitVia s l x = { s with ports := { s.ports with counters := c }, wire := w } := by
  have hcount : ∀ (l : List Nat) (u : State), ∃ c,
      l.foldl (fun s p => countSent s p (sentLen x)) u = { u with ports := { u.ports with counters := c } } := by
    intro l
    induction l with
    | nil => exact fun u => ⟨_, rfl⟩
    | cons p r ih =>
      intro u
      obtain ⟨c, hc⟩ := countSent_counters u p (sentLen x) true false
      obtain ⟨e, he⟩ := ih (countSent u p (sentLen x))
      exact ⟨e, by rw [List.foldl_cons, he, hc]⟩
  unfold emitVia
  split
  · exact ⟨_, _, rfl⟩
  · obtain ⟨c, hc⟩ := hcount l s
    exact ⟨c, _, by rw [hc]; rfl⟩

theorem passOn_form (s : State) (p : Nat) (x : Sent) : ∃ c w,
    passOn s p x = { s with ports := { s.ports with counters := c }, wire := w } := by
  obtain ⟨c, hc⟩ := countGot_counters s p (sentLen x) true false
  obtain ⟨e, w, he⟩ := emitVia_counters (gotSent s p x)
    ((if p = 95 then [] else [otherPort p, 95]).filter (channelUp s)) x
  exact ⟨e, w, he.trans (by rw [gotSent, hc])⟩

/-- The end of NAP leaves the speed of each link, where their table is in canonical form. -/
theorem napEnd_form {s : State} (h : twf {} s.ports.links = true) : ∃ l w,
    napEnd s = { s with ports := { s.ports with links := l }, pwc := w }
      ∧ ∀ p, (tget {} l p).speed = (tget {} s.ports.links p).speed := by
  unfold napEnd
  split
  · unfold setPower
    split
    · exact ⟨_, _, rfl, fun _ => rfl⟩
    · exact ⟨_, _, rfl, fun p => by rw [tget_tmap_of_tkeysFrom (Bool.and_eq_true_iff.1 h).1 rfl]⟩
  · exact ⟨_, _, rfl, fun _ => rfl⟩

/-! ## What the checks of a hop read (Table 6-6) -/

/-- All that the checks of a hop read of a state. -/
structure SameForHops (s t : State) : Prop where
  otp : t.otp = s.otp
  fab : t.fab = s.fab
  mono : t.mono = s.mono
  holds : t.adm.holds = s.adm.holds
  cap : t.adm.cap = s.adm.cap
  tc6Burst : t.adm.tc6Burst = s.adm.tc6Burst
  tc6Rate : t.adm.tc6Rate = s.adm.tc6Rate
  speed : ∀ p, speedMbps t p = speedMbps s p
  pauses : ∀ p, pausesOn t p = pausesOn s p
  frames : ∀ p, maxFrame t p = maxFrame s p
  bank : ∀ p, activeBank t p = activeBank s p
  steps : ∀ cssOn p cls b, classSteps t cssOn p cls b = classSteps s cssOn p cls b
  plca : ∀ g, plcaNs t g = plcaNs s g

namespace SameForHops

variable {s t : State}

theorem classFigures_eq (h : SameForHops s t) (p cls len : Nat) (b : Option (Nat × SluiceBank)) :
    classFigures t p cls len b = classFigures s p cls len b := by
  simp only [classFigures, h.speed, h.steps, h.plca]

theorem egressLoad_eq (h : SameForHops s t) (p cls extra : Nat) : egressLoad t p cls extra = egressLoad s p cls extra := by
  simp only [egressLoad, Machine.tc6Burst, Machine.tc6Rate, burstSum, rate5Sum, streamsAt, rateBps, h.tc6Burst, h.tc6Rate,
    h.fab, h.holds, h.speed]

theorem rateSum_eq (h : SameForHops s t) (p : Nat) : rateSum t p = rateSum s p := by
  simp only [rateSum, streamsAt, h.fab, h.holds]

theorem poolUsed_eq (h : SameForHops s t) : poolUsed t = poolUsed s := by
  simp only [poolUsed, h.fab, h.holds]

theorem frerLeft_eq (h : SameForHops s t) (gen : Bool) : frerLeft t gen = frerLeft s gen := by
  simp only [frerLeft, h.fab, h.holds]

theorem rateBps_eq (h : SameForHops s t) (p : Nat) : rateBps t p = rateBps s p := by
  simp only [rateBps, h.speed]

theorem hopBound_eq (h : SameForHops s t) (p cls len rin extra : Nat) (b : Option (Nat × SluiceBank)) :
    hopBound t p cls len rin extra b = hopBound s p cls len rin extra b := by
  simp only [hopBound, boundUnder, h.classFigures_eq, h.egressLoad_eq, h.rateBps_eq, h.frames]

theorem hopCheck_eq (h : SameForHops s t) : hopCheck t = hopCheck s := by
  funext p hop port inPort
  simp -zeta only [hopCheck, h.rateSum_eq, h.poolUsed_eq, h.frerLeft_eq, h.rateBps_eq, h.hopBound_eq, h.classFigures_eq,
    h.egressLoad_eq, h.otp, h.fab, h.mono, h.holds, h.cap, h.speed, h.pauses, h.frames, h.bank]

/-- With the same holds in place of both states' own. -/
theorem withHolds (h : SameForHops s t) (l : List Hold) :
    SameForHops { s with adm := { s.adm with holds := l } } { t with adm := { t.adm with holds := l } } :=
  { h with holds := rfl }

theorem hopTry_eq (h : SameForHops s t) : hopTry t = hopTry s := by
  funext p hop port inPort
  simp only [hopTry, h.hopCheck_eq, h.holds, (h.withHolds _).hopCheck_eq]

end SameForHops

/-- The channel and the end of NAP leave what the checks of a hop read, where the table of links is in canonical form. -/
theorem sameForHops_napEnd_passOn {s : State} (h : twf {} s.ports.links = true) (p : Nat) (x : Sent) :
    SameForHops s (napEnd (passOn s p x)) := by
  obtain ⟨c, w, hpass⟩ := passOn_form s p x
  obtain ⟨l, v, hnap, hspeed⟩ := napEnd_form (s := passOn s p x) (by rw [hpass]; exact h)
  have hlinks : ∀ p, (tget {} l p).speed = (tget {} s.ports.links p).speed := by
    intro p
    rw [hspeed, hpass]
  rw [hnap, hpass]
  exact { otp := rfl, fab := rfl, mono := rfl, holds := rfl, cap := rfl, tc6Burst := rfl, tc6Rate := rfl
          speed := fun p => by simp only [speedMbps, hlinks]
          pauses := fun _ => rfl, frames := fun _ => rfl, bank := fun _ => rfl, steps := fun _ _ _ _ => rfl
          plca := fun _ => rfl }

/-- A stream that the origin begins leaves what the checks of a hop read. -/
theorem sameForHops_streams (s : State) (l : List OriginStream) (i n : Nat) :
    SameForHops s { s with adm := { s.adm with streams := l, nextId := i, nextTxn := n } } where
  otp := rfl
  fab := rfl
  mono := rfl
  holds := rfl
  cap := rfl
  tc6Burst := rfl
  tc6Rate := rfl
  speed _ := rfl
  pauses _ := rfl
  frames _ := rfl
  bank _ := rfl
  steps _ _ _ _ := rfl
  plca _ := rfl

/-! ## PREPARE_RECEIVE (R159, R160, R206, R307) -/

theorem channelTake_up {s : State} {p : Nat} (x : Sent) (take : State → State) (hp : channelUp s p = true) :
    channelTake s p x take = take (napEnd (passOn s p x)) := if_pos hp

/-- Where the channel does not run, its frames are counted and discarded with FILTER_DENY (R206). -/
theorem channelTake_denied {s : State} {p : Nat} (x : Sent) (take : State → State) (hp : channelUp s p = false)
    (hl : linkIsUp s p = true) : channelTake s p x take
      = Machine.discard (countGot s p (sentLen x)) { port := p, reason := 4, ingress := p, tenant := 0, len := sentLen x } :=
  (if_neg (by simp [hp])).trans (if_pos hl)

@[simp] theorem passOn_keeps (s : State) (p : Nat) (x : Sent) :
    (passOn s p x).fw = s.fw ∧ (passOn s p x).otp = s.otp ∧ (passOn s p x).ine = s.ine ∧ (passOn s p x).adm = s.adm
    ∧ (passOn s p x).fab = s.fab ∧ (passOn s p x).tms = s.tms := by
  simp [passOn]

section prepare
variable {s : State} {p : Nat} {m : Prepare} {i : Nat} {g : PathHop}

theorem serveHops_placed {x : Hold} (h : hopTry s m i g.port p = .ok x) :
    serveHops s m p [(i, g)] = ({ s with adm := { s.adm with holds := s.adm.holds ++ [x] } }, none) := by
  simp only [serveHops, h]

theorem serveHops_refused {f : FailRec} (h : hopTry s m i g.port p = .error f) : serveHops s m p [(i, g)] = (s, some f) := by
  simp only [serveHops, h]

variable (hf : s.fw.phase = .ready) (hn : m.name.origin ≠ s.otp.unitId) (hg : ownHops s m = [(i, g)])
include hf hn hg

/-- A ready hop node with one hop that passes its checks places its hold, and replies where it is the last one. -/
theorem prepareTake_placed {x : Hold} (h : hopTry s m i g.port p = .ok x) :
    (prepareTake p m s).adm.holds = s.adm.holds ++ [x] ∧ (prepareTake p m s).adm.refusals = s.adm.refusals
    ∧ (prepareTake p m s).fab = s.fab
    ∧ ((m.hops.getLast?.map PathHop.position) = some s.ine.position → ∃ q,
        (prepareTake p m s).wire.getLast? = some (.reply q) ∧ q.name = m.name ∧ q.fail = none) := by
  unfold prepareTake
  rw [if_neg (by simp [hf, hn]), hg]
  simp only [serveHops_placed h, List.isEmpty_cons, Bool.false_eq_true, if_false]
  split
  next => exact ⟨by simp, by simp, by simp, fun _ => ⟨_, by rw [mgpSends_some, emit, List.getLast?_concat], rfl, rfl⟩⟩
  next hl => exact ⟨rfl, rfl, rfl, fun hlast => absurd hlast hl⟩

/-- One whose hop fails notes the refusal for the REPLY that comes by. -/
theorem prepareTake_refused {f : FailRec} (h : hopTry s m i g.port p = .error f) :
    (prepareTake p m s).adm.holds = s.adm.holds ∧ (prepareTake p m s).adm.refusals = s.adm.refusals ++ [(m.name, f)]
    ∧ (prepareTake p m s).fab = s.fab := by
  unfold prepareTake
  rw [if_neg (by simp [hf, hn]), hg]
  simp only [serveHops_refused h, List.isEmpty_cons, Bool.false_eq_true, if_false]
  split <;> simp

variable (hp : channelUp s p = true) (hw : twf {} s.ports.links = true)
include hp hw

/-- PREPARE_RECEIVE at a node whose table of links is in canonical form: the hold is the one its checks give. -/
theorem prepareReceive_placed {x : Hold} (h : hopTry s m i g.port p = .ok x) : ∃ t, exec (.prepareReceive p m) s = .next t
    ∧ t.adm.holds = s.adm.holds ++ [x] ∧ t.adm.refusals = s.adm.refusals ∧ t.fab = s.fab
    ∧ ((m.hops.getLast?.map PathHop.position) = some s.ine.position → ∃ q, t.wire.getLast? = some (.reply q)
        ∧ q.name = m.name ∧ q.fail = none) := by
  have hsame := (sameForHops_napEnd_passOn hw p (.prepare m.lineB m)).hopTry_eq
  refine ⟨_, congrArg Host.Outcome.next (channelTake_up _ _ hp), ?_⟩
  simpa using prepareTake_placed (s := napEnd (passOn s p (.prepare m.lineB m))) (by simpa using hf) (by simpa using hn)
    (by simpa [ownHops] using hg) (by rw [hsame]; exact h)

theorem prepareReceive_refused {f : FailRec} (h : hopTry s m i g.port p = .error f) : ∃ t,
    exec (.prepareReceive p m) s = .next t
    ∧ t.adm.holds = s.adm.holds ∧ t.adm.refusals = s.adm.refusals ++ [(m.name, f)] ∧ t.fab = s.fab := by
  have hsame := (sameForHops_napEnd_passOn hw p (.prepare m.lineB m)).hopTry_eq
  refine ⟨_, congrArg Host.Outcome.next (channelTake_up _ _ hp), ?_⟩
  simpa using prepareTake_refused (s := napEnd (passOn s p (.prepare m.lineB m))) (by simpa using hf) (by simpa using hn)
    (by simpa [ownHops] using hg) (by rw [hsame]; exact h)

end prepare

theorem prepareReceive_denied {s : State} {p : Nat} (m : Prepare) (hp : channelUp s p = false) (hl : linkIsUp s p = true) :
    exec (.prepareReceive p m) s = .next (Machine.discard (countGot s p (sentLen (.prepare m.lineB m)))
      { port := p, reason := 4, ingress := p, tenant := 0, len := sentLen (.prepare m.lineB m) }) :=
  congrArg Host.Outcome.next (channelTake_denied _ _ hp hl)

theorem installReceive_denied {s : State} {p : Nat} (n : StreamName) (sec ns : Nat) (hp : channelUp s p = false)
    (hl : linkIsUp s p = true) : exec (.admissionInstallReceive p n sec ns) s
      = .next (Machine.discard (countGot s p 64) { port := p, reason := 4, ingress := p, tenant := 0, len := 64 }) :=
  congrArg Host.Outcome.next (channelTake_denied _ _ hp hl)

/-! ## INSTALL and the entry write (R159) -/

theorem installReceive_schedules {s : State} {p : Nat} (n : StreamName) (sec ns : Nat) (hp : channelUp s p = true) : ∃ t,
    exec (.admissionInstallReceive p n sec ns) s = .next t
      ∧ t.adm.holds = s.adm.holds.map (fun h => if h.name == n then { h with installAt := some (linNs sec ns) } else h)
      ∧ t.fab = s.fab ∧ t.tms = s.tms :=
  ⟨_, congrArg Host.Outcome.next (channelTake_up _ _ hp), by simp⟩

section activation
variable {s : State} {n : StreamName} {h : Hold} {a : Nat}

theorem streamActivation_activates (hm : (s.adm.holds.filter fun x => sameAttempt x.name n && x.installAt.isSome) = [h])
    (ha : h.installAt = some a) : exec (.streamActivation n) s = .next (activateHold (untilNs s a) h) := by
  refine congrArg Host.Outcome.next ?_
  unfold activationEffect
  simp [hm, ha]

/-- A new entry is written at the first free index; it shares the recovery function of the other line's, where there is one. -/
theorem installEntry_writes (u : State) (x : Stream) :
    (installEntry u x).fab.streams = tset none u.fab.streams (freeStream u.fab.streams)
        (some { x with fn := ((recoveryEntry u x).map Stream.fn).getD (freeFn u) })
      ∧ (installEntry u x).adm = u.adm ∧ (installEntry u x).wire = u.wire ∧ (installEntry u x).otp = u.otp := by
  unfold installEntry
  dsimp only
  split
  next y hy => exact ⟨by simp only [hy, Option.map_some, Option.getD_some]; rfl, rfl, rfl, rfl⟩
  next hy =>
    simp only [hy, Option.map_none, Option.getD_none]
    split <;> exact ⟨rfl, rfl, rfl, rfl⟩

/-- A hold of another origin's stream becomes an entry, and the hop confirms. -/
theorem activateHold_confirms {u : State} (ho : h.name.origin ≠ u.otp.unitId) :
    (activateHold u h).fab.streams = (installEntry u (entryOf u h)).fab.streams
      ∧ (activateHold u h).wire = u.wire ++ [.confirm h.name h.hop 0]
      ∧ (activateHold u h).adm.holds = u.adm.holds.filter fun x => !(x.name == h.name && x.hop == h.hop) := by
  obtain ⟨-, hadm, hwire, hotp⟩ := installEntry_writes u (entryOf u h)
  unfold activateHold
  dsimp only
  rw [if_pos (by rw [hotp]; exact ho), mgpSends_some]
  refine ⟨?_, ?_, ?_⟩
  · simp
  · rw [emit]
    simp [hwire]
  · simp [hadm]

theorem activateHold_clause {u : State} (ho : h.name.origin ≠ u.otp.unitId) :
    tget none (activateHold u h).fab.streams (freeStream u.fab.streams) = some { entryOf u h with
        fn := ((recoveryEntry u (entryOf u h)).map Stream.fn).getD (freeFn u) }
      ∧ (activateHold u h).wire = u.wire ++ [.confirm h.name h.hop 0]
      ∧ (∀ j, j ≠ freeStream u.fab.streams → tget none (activateHold u h).fab.streams j = tget none u.fab.streams j)
      ∧ (activateHold u h).adm.holds = u.adm.holds.filter fun x => !(x.name == h.name && x.hop == h.hop) := by
  obtain ⟨hstreams, hwire, hholds⟩ := activateHold_confirms ho
  rw [hstreams, (installEntry_writes u (entryOf u h)).1]
  exact ⟨tget_tset_self .., hwire, fun j hj => tget_tset_other none _ _ hj, hholds⟩

end activation

/-! ## REPLY_RECEIVE (R160, R161, R307) -/

section reply
variable {s : State} {r : Reply} {o : OriginStream}

theorem mgpSends_keeps (s : State) (via : Option Nat) (x : Sent) :
    (mgpSends s via x).wire = s.wire ++ [x] ∧ (mgpSends s via x).adm = s.adm := by
  cases via <;> simp [emit]

theorem replyReceive_passes (hr : r.name.origin ≠ s.otp.unitId)
    (hf : (s.adm.refusals.find? fun e => e.1 == r.name) = none) : ∃ t, exec (.replyReceive r) s = .next t
      ∧ t.wire = s.wire ++ [.reply { r with hops := ownRecords s r.name ++ r.hops }] ∧ t.adm.holds = s.adm.holds := by
  refine ⟨replyEffect r s, rfl, ?_⟩
  unfold replyEffect
  rw [if_pos hr]
  simp only [hf, mgpSends_keeps, mgpTakes_keeps, true_and]

/-- At the origin a REPLY of the attempt in progress decides: its failure refuses the request, its D_hops are gathered. -/
theorem replyEffect_origin (hr : r.name.origin = s.otp.unitId) (ho : originOf s r.name.streamId = some o)
    (hs : o.state = .preparing) (ht : o.txn = r.name.txn) : (r.fail = none → replyEffect r s
        = decideStream (mgpTakes s (.reply r)) (addHops o (r.hops.map fun h => (keyOf o r.name h.hop, h.dHop))))
      ∧ ∀ f, r.fail = some f → replyEffect r s = refuseStream (mgpTakes s (.reply r)) o f none := by
  unfold replyEffect
  simp only [if_neg (not_not.2 hr), originOf_mgpTakes, ho,
    if_neg (show ¬ (o.state ≠ .preparing ∨ o.txn ≠ r.name.txn) by simp [hs, ht])]
  exact ⟨fun h => by rw [h], fun f h => by rw [h]⟩

theorem holds_refuseStream {y : Hold} {f : FailRec} {c : Option Nat} (s : State)
    (hy : y ∈ (refuseStream s o f c).adm.holds) : sameStream y.name (lineName s o false) = false := by
  rw [refuseStream_adm] at hy
  simpa using (List.mem_filter.1 hy).2

end reply

/-! ## CONFIRM_RECEIVE (R161, R310) -/

theorem confirmReceive_elsewhere {s : State} {n : StreamName} (hop st : Nat) (hn : n.origin ≠ s.otp.unitId) :
    exec (.confirmReceive n hop st) s = .next (if hop = 0 then mirrorLocal (mgpTakes s (.confirm n hop st)) n (st != 0)
      else mgpTakes s (.confirm n hop st)) :=
  congrArg Host.Outcome.next (if_pos (by simpa using hn))

theorem mirrorLocal_entry {s : State} {k : Nat} {x : Stream} (n : StreamName) (b : Bool)
    (hx : tget none s.fab.streams k = some x) : tget none (mirrorLocal s n b).fab.streams k
      = some (if x.origin = n.origin ∧ x.streamId = n.streamId then { x with active := true, suspended := b } else x) := by
  refine (tget_tmap_some _ _ hx).trans ?_
  simp

theorem confirmReceive_completes {s : State} {n : StreamName} {o : OriginStream} {c : Hcp} {g : PathHop}
    (hn : n.origin = s.otp.unitId) (ho : originOf s n.streamId = some o) (hs : o.state = .installing) (hg : o.path = [g])
    (hb : o.pathB = []) (hf : o.req.frer = false) (hc : o.hcp = some c) (hd : o.down = [] ∨ o.down = [g]) :
    let v := mgpTakes s (.confirm n 1 0)
    let y := { o with confirmed := sadd o.confirmed 1, state := .active, hcp := none, down := [] }
    ∃ p, exec (.confirmReceive n 1 0) s = .next (mirrorState (respond (putOrigin v y) c 0x0501 .ok 0 p) y false)
      ∧ p.take 2 = leBytes 2 o.streamId ∧ p.length = 16 := by
  intro v y
  have hkey : keyOf o n 1 = 1 := by simp [keyOf, hf, b2n]
  have hhops : allHops o = [(1, g)] := by simp [allHops, hg, hb, List.range_succ]
  have hat : hopAt o 1 = some g := by simp [hopAt, hhops]
  have hdown : (o.down.filter fun h => hopAt o 1 != some h) = [] := by rcases hd with h | h <;> simp [h, hat]
  rw [confirmReceive_installing hn ho hs, if_pos rfl, hkey, hdown]
  have hall : (((allHops { o with confirmed := sadd o.confirmed 1, down := [] }).map Prod.fst).all fun i =>
      (sadd o.confirmed 1).contains i) = true := by
    simpa [allHops, hg, hb, List.range_succ] using mem_sadd_self o.confirmed 1
  unfold streamActive
  dsimp only
  rw [if_pos hall, if_pos (by rfl)]
  unfold completeAdmit
  simp only [hc]
  exact ⟨_, rfl, rfl, by simp [allHops, hg, hb, List.range_succ, length_leBytes]⟩

/-! ## STREAM_ADMIT (R154, R155, R159) -/

/-- The candidates for the next stream_id: one more than there are streams (R154). -/
def candidateIds (s : State) : List Nat :=
  (List.range (s.adm.streams.length + 1)).map fun i => (s.adm.nextId - 1 + i) % 65535 + 1

theorem nodup_candidateIds {s : State} (hs : s.adm.streams.length < 65535) : (candidateIds s).Nodup := by
  refine List.Nodup.map_on (fun i hi j hj hij => ?_) List.nodup_range
  rw [List.mem_range] at hi hj
  omega

/-- Of the candidates, which differ and are more than the streams, one names none. -/
theorem freshId_unused {s : State} (hs : s.adm.streams.length < 65535) :
    (s.adm.streams.any fun o => o.streamId == freshId s) = false := by
  have hfree : ∃ k ∈ candidateIds s, k ∉ s.adm.streams.map OriginStream.streamId := by
    by_contra hno
    push Not at hno
    have hle := ((nodup_candidateIds hs).subperm hno).length_le
    simp [candidateIds] at hle
  obtain ⟨k, hk, hunused⟩ := hfree
  obtain ⟨f, hf⟩ := Option.isSome_iff_exists.1 (List.find?_isSome
    (p := fun k => !s.adm.streams.any fun o => o.streamId == k) |>.2 ⟨k, hk, by simpa using hunused⟩)
  have hid : freshId s = f := congrArg (Option.getD · s.adm.nextId) hf
  rw [hid]
  simpa using List.find?_some hf

/-- The stream that an accepted request begins, along the paths `bb` to its last hop, with the delay of each line's links. -/
def begunStream (s : State) (h : Hcp) (r : StreamReq) (bb : List PathHop × List PathHop) (last : PathHop) (delayA delayB : Nat) :
    OriginStream :=
  { streamId := freshId s, txn := s.adm.nextTxn, req := r, owner := h.tenant, hcp := some h, state := .preparing
    path := bb.1 ++ [last], pathB := if r.frer then bb.2 ++ [last] else [], dHops := [], linkDelay := delayA
    linkDelayB := if r.frer then delayB else 0, sum := 0, at_ := s.mono, tAct := 0, confirmed := [], down := []
    suspendedAt := 0 }

/-- A STREAM_ADMIT that passes the tests of the request, the resolution and the path (Table 6-6). -/
structure Admissible (h : Hcp) (s : State) (r : StreamReq) (a : AliasEntry) (q : Nat) : Prop where
  accepted : accepts { opcode := 0x0501, classC := true, features := [5] } h s = true
  port : portReserved s r.ingressPort = false
  right : hasRight s h.tenant 2 = true
  ownPort : r.ingressPort = 96 ∨ hasPort s h.tenant r.ingressPort = true
  ranges : reqOk r = true
  settled : inaugurating s = false
  resolved : aliasLookup s r.destTfa = some a
  position : destPosition s a = some q

theorem streamAdmit_begins {h : Hcp} {s : State} {r : StreamReq} {a : AliasEntry} {q : Nat} {last : PathHop}
    {bb : List PathHop × List PathHop} (hr : Admissible h s r a q) (hl : (lastHop s q a).1 = some last)
    (hb : pathsOf s r q = some bb) (hm : max bb.1.length bb.2.length < 63) :
    let d := pathDelay (lastHop s q a).2 bb.1
    let e := pathDelay d.2 bb.2
    exec (.streamAdmit h r) s
      = .next (beginStream (if r.frer then e.2 else d.2) (begunStream s h r bb last d.1 e.1) a) := by
  intro d e
  have hallowed : (!hasRight s h.tenant 2 || (r.ingressPort != 96 && !hasPort s h.tenant r.ingressPort)) = false := by
    rcases hr.ownPort with hp | hp <;> simp [hr.right, hp]
  refine congrArg Host.Outcome.next ((runHcp_accepted _ hr.accepted).trans ?_)
  unfold admitBody
  simp only [hr.port, hallowed, hr.ranges, hr.settled, hr.resolved, hr.position, hl, hb, Option.bind_some, Option.map_some,
    Bool.not_true, Bool.false_eq_true, if_false, if_neg (show ¬ 63 < max bb.1.length bb.2.length + 1 by omega), conclude_wait]
  rfl

/-! ### A path of one hop (R154, R159) -/

/-- The hold that the checks of a hop give, where they pass, is named after its PREPARE and the hop. -/
def NamedAfter (p : Prepare) (hop : Nat) : Except FailRec Hold → Prop
  | .ok x => x.name = p.name ∧ x.hop = hop
  | .error _ => True

theorem namedAfter_hopCheck (s : State) (p : Prepare) (hop port inPort : Nat) :
    NamedAfter p hop (hopCheck s p hop port inPort) := by
  fun_cases hopCheck s p hop port inPort <;> constructor <;> rfl

theorem hopTry_names {s : State} {p : Prepare} {hop port inPort : Nat} {x : Hold}
    (h : hopTry s p hop port inPort = .ok x) : x.name = p.name ∧ x.hop = hop := by
  have hnamed := namedAfter_hopCheck s p hop port inPort
  unfold hopTry at h
  split at h
  next y hy =>
    cases h
    rwa [hy] at hnamed
  next =>
    dsimp only at h
    split at h <;> cases h

theorem originOf_putOrigin {s : State} {o y : OriginStream} (h : originOf s y.streamId = some o) :
    originOf (putOrigin s y) y.streamId = some y := by
  have hid : o.streamId = y.streamId := by simpa using List.find?_some h
  have hsame : ((fun x : OriginStream => x.streamId == y.streamId) ∘ fun x => if x.streamId == y.streamId then y else x)
      = fun x => x.streamId == y.streamId := by
    funext x
    by_cases hx : x.streamId = y.streamId <;> simp [hx]
  unfold originOf putOrigin
  dsimp only
  rw [List.find?_map, hsame]
  unfold originOf at h
  rw [h]
  simp [hid]

/-- The entry write of a hold of an attempt scheduled for `t`. -/
def scheduledFor (n : StreamName) (t : Nat) (h : Hold) : Hold :=
  if sameAttempt h.name n then { h with installAt := some t } else h

/-- An origin stream in INSTALLING, with T_act 1 ms ahead (R159). -/
def installingAt (s : State) (o : OriginStream) : OriginStream :=
  { o with state := .installing, sum := pathSum o, tAct := trtNs s + 1000000 }

/-- Where every hop has answered within the bound the stream is INSTALLING, with T_act 1 ms ahead at each of its holds here. -/
theorem decideStream_installs {s : State} {o : OriginStream} (hall : (allHops o).length ≤ o.dHops.length)
    (hsum : pathSum o ≤ o.req.bound) :
    (decideStream s o).adm.streams = (putOrigin s (installingAt s o)).adm.streams
      ∧ (decideStream s o).adm.holds = s.adm.holds.map (scheduledFor (lineName s o false) (trtNs s + 1000000))
      ∧ (decideStream s o).fab = s.fab ∧ (decideStream s o).tms = s.tms := by
  unfold decideStream
  rw [if_neg (by omega)]
  dsimp only
  rw [if_neg (by omega)]
  have hkeep := foldl_keeps (fun u : State => (u.adm, u.fab, u.tms))
    (fun u (n : StreamName) => emitVia u (channelPorts u n.lineB)
      (.install n ((trtNs s + 1000000) / 1000000000) ((trtNs s + 1000000) % 1000000000))) (fun u n => by simp)
  exact ⟨congrArg (fun v => v.1.streams) (hkeep _ _), congrArg (fun v => v.1.holds) (hkeep _ _),
    congrArg (fun v => v.2.1) (hkeep _ _), congrArg (fun v => v.2.2) (hkeep _ _)⟩

/-- The state in which a new stream's hops are served. -/
def withStream (s : State) (o : OriginStream) : State :=
  { s with adm := { s.adm with
      streams := s.adm.streams ++ [o], nextId := (o.streamId % 65535) + 1, nextTxn := (s.adm.nextTxn % 65535) + 1 } }

/-- The state that has placed the hold of a new stream. -/
def withHold (s : State) (o : OriginStream) (x : Hold) : State :=
  { withStream s o with adm := { (withStream s o).adm with holds := s.adm.holds ++ [x] } }

/-- A stream whose hops here were served, and are all of its path, is decided at once. -/
theorem beginStream_served {s u : State} {o : OriginStream} {a : AliasEntry}
    (hs : serveAll (withStream s o) o.req.ingressPort ((linesOf o).map (prepareOf s o a)) = (u, none)) {y : OriginStream}
    (hy : addHops o ((u.adm.holds.filter fun h => sameAttempt h.name (lineName (withStream s o) o false)).map fun h =>
      (keyOf o h.name h.hop, h.dHop)) = y)
    (hall : ((allHops y).all fun e => e.2.position == u.ine.position) = true) :
    beginStream s o a = decideStream (putOrigin u y) y := by
  unfold beginStream
  unfold withStream at hs hy
  simp only [hs]
  dsimp only at hy
  rw [hy]
  exact if_pos hall

section oneHop
variable {s : State} {o : OriginStream} {a : AliasEntry} {last : PathHop} {x : Hold}

/-- A new stream whose path is one hop, of this node. -/
structure OneHop (s : State) (o : OriginStream) (last : PathHop) : Prop where
  path : o.path = [last]
  pathB : o.pathB = []
  frer : o.req.frer = false
  position : last.position = s.ine.position
  dHops : o.dHops = []
  linkDelay : o.linkDelay = 0
  linkDelayB : o.linkDelayB = 0
  newId : (s.adm.streams.all fun y => y.streamId != o.streamId) = true
  newHold : (s.adm.holds.any fun y => sameAttempt y.name (lineName s o o.req.lineB)) = false

theorem serveAll_oneHop (h : OneHop s o last)
    (hx : hopTry s (prepareOf s o a o.req.lineB) 1 last.port o.req.ingressPort = .ok x) :
    serveAll (withStream s o) o.req.ingressPort [prepareOf s o a o.req.lineB] = (withHold s o x, none) := by
  have hown : ownHops (withStream s o) (prepareOf s o a o.req.lineB) = [(1, last)] := by
    simp [ownHops, prepareOf, h.frer, h.path, List.range_succ, withStream, h.position]
  have htry : hopTry (withStream s o) (prepareOf s o a o.req.lineB) 1 last.port o.req.ingressPort = .ok x := by
    rw [withStream, (sameForHops_streams s _ _ _).hopTry_eq]
    exact hx
  simp only [serveAll, hown, serveHops_placed htry]
  rfl

/-- The stream once its one hop has answered with D_hop `d`. -/
def answeredBy (o : OriginStream) (d : Nat) : OriginStream := { o with dHops := [(1, d)] }

theorem pathSum_oneHop (h : OneHop s o last) (d : Nat) : pathSum (answeredBy o d) = d := by
  simp [pathSum, allHops, answeredBy, h.path, h.pathB, h.linkDelay, h.linkDelayB, List.range_succ, tget]

theorem beginStream_oneHop (h : OneHop s o last)
    (hx : hopTry s (prepareOf s o a o.req.lineB) 1 last.port o.req.ingressPort = .ok x) :
    beginStream s o a = decideStream (putOrigin (withHold s o x) (answeredBy o x.dHop)) (answeredBy o x.dHop) := by
  obtain ⟨hname, hhop⟩ := hopTry_names hx
  have hlines : linesOf o = [o.req.lineB] := by simp [linesOf, h.frer]
  have hmine : ((s.adm.holds ++ [x]).filter fun y => sameAttempt y.name (lineName (withStream s o) o false)) = [x] := by
    have hnone : (s.adm.holds.filter fun y => sameAttempt y.name (lineName (withStream s o) o false)) = [] :=
      List.filter_eq_nil_iff.2 fun y hy => List.any_eq_false.1 h.newHold y hy
    rw [List.filter_append, hnone, List.filter_singleton, hname]
    simp [prepareOf, sameAttempt, sameStream, lineName, withStream]
  have hadd : addHops o ([x].map fun y => (keyOf o y.name y.hop, y.dHop)) = answeredBy o x.dHop := by
    simp [addHops, answeredBy, keyOf, h.frer, h.dHops, hhop, b2n, tins]
  have hhere : ((allHops (answeredBy o x.dHop)).all fun e => e.2.position == s.ine.position) = true := by
    simp [allHops, answeredBy, h.path, h.pathB, h.position, List.range_succ]
  refine beginStream_served ?_ ?_ hhere
  · rw [hlines]
    exact serveAll_oneHop h hx
  · rw [show (withHold s o x).adm.holds = s.adm.holds ++ [x] from rfl, hmine, hadd]

theorem originOf_withHold (h : OneHop s o last) : originOf (withHold s o x) o.streamId = some o := by
  have hnone : s.adm.streams.find? (fun y => y.streamId == o.streamId) = none :=
    List.find?_eq_none.2 fun y hy => by simpa using List.all_eq_true.1 h.newId y hy
  simp [originOf, withHold, withStream, List.find?_append, hnone]

theorem scheduledFor_holds (h : OneHop s o last) (hn : x.name = lineName s o o.req.lineB) (t : Nat) :
    (s.adm.holds ++ [x]).map (scheduledFor (lineName s o false) t) = s.adm.holds ++ [{ x with installAt := some t }] := by
  have hothers : s.adm.holds.map (scheduledFor (lineName s o false) t) = s.adm.holds :=
    (List.map_congr_left fun y hy => if_neg (List.any_eq_false.1 h.newHold y hy)).trans (List.map_id _)
  have hsame : sameAttempt (lineName s o o.req.lineB) (lineName s o false) = true := by
    simp [sameAttempt, sameStream, lineName]
  rw [List.map_append, hothers, List.map_singleton, scheduledFor, hn, if_pos hsame]

theorem beginStream_installs (h : OneHop s o last)
    (hx : hopTry s (prepareOf s o a o.req.lineB) 1 last.port o.req.ingressPort = .ok x) (hb : x.dHop ≤ o.req.bound) :
    (beginStream s o a).adm.holds = s.adm.holds ++ [{ x with installAt := some (trtNs s + 1000000) }]
      ∧ (∃ y, originOf (beginStream s o a) o.streamId = some y ∧ y.state = .installing ∧ y.tAct = trtNs s + 1000000
        ∧ y.sum = x.dHop ∧ y.owner = o.owner)
      ∧ (beginStream s o a).fab = s.fab ∧ (beginStream s o a).tms = s.tms := by
  have hsum := pathSum_oneHop h x.dHop
  have hall : (allHops (answeredBy o x.dHop)).length ≤ (answeredBy o x.dHop).dHops.length := by
    simp [allHops, answeredBy, h.path, h.pathB]
  obtain ⟨hstreams, hholds, hfab, htms⟩ := decideStream_installs (s := putOrigin (withHold s o x) (answeredBy o x.dHop)) hall
    (by rw [hsum]; exact hb)
  rw [beginStream_oneHop h hx]
  refine ⟨hholds.trans (scheduledFor_holds h (hopTry_names hx).1 _), ⟨installingAt _ (answeredBy o x.dHop), ?_, rfl, rfl,
    hsum, rfl⟩, hfab, htms⟩
  unfold originOf
  rw [hstreams]
  exact originOf_putOrigin (y := installingAt _ (answeredBy o x.dHop))
    (originOf_putOrigin (y := answeredBy o x.dHop) (originOf_withHold h))

end oneHop

/-- STREAM_ADMIT of a stream whose one hop is this node's and passes its checks within the bound. -/
theorem streamAdmit_oneHop {h : Hcp} {s : State} {r : StreamReq} {a : AliasEntry} {last : PathHop} {x : Hold}
    (hr : Admissible h s r a s.ine.position) (hl : lastHop s s.ine.position a = (some last, s)) (hf : r.frer = false)
    (ho : OneHop s (begunStream s h r ([], []) last 0 0) last)
    (hx : hopTry s (prepareOf s (begunStream s h r ([], []) last 0 0) a r.lineB) 1 last.port r.ingressPort = .ok x)
    (hb : x.dHop ≤ r.bound) : ∃ t, exec (.streamAdmit h r) s = .next t
      ∧ t.adm.holds = s.adm.holds ++ [{ x with installAt := some (trtNs s + 1000000) }]
      ∧ (∃ y, originOf t (freshId s) = some y ∧ y.state = .installing ∧ y.tAct = trtNs s + 1000000 ∧ y.sum = x.dHop
          ∧ y.owner = h.tenant) ∧ t.fab = s.fab ∧ t.tms = s.tms := by
  have hpaths : pathsOf s r s.ine.position = some ([], []) := by simp [pathsOf, hf, bbHops]
  have hexec := streamAdmit_begins hr (congrArg Prod.fst hl) hpaths (by decide)
  simp only [hl, hf, Bool.false_eq_true, if_false] at hexec
  exact ⟨_, hexec, beginStream_installs ho hx hb⟩

/-! ## A table of links that lists a port twice -/

/-- A device in NAP whose table of links lists CP0 twice, which no table in canonical form does: first in low-power idle at
1000 Mb/s, then at 10 Mb/s. -/
def listedTwice : State :=
  { fw := { phase := .ready }
    fab := { admitted := true }
    ports := { cfg := [(4, { pauseRx := some false })]
               links := [(0, { up := true }), (4, { lpiNow := true }), (4, { speed := 0x10 })] }
    ine := { hello := [(0, { fabricUp := true })] }
    pwc := { state := 3 } }

/-- A PREPARE of another origin whose one hop is that node's, through CP0. -/
def throughCp0 : Prepare :=
  { name := { origin := 5, streamId := 1, txn := 1 }, maxFrame := 64, n := 1, cls5 := false, interval := 1000000
    bound := 1000000000, rho := 1, burst := 84, frer := false, lineB := false, deliverInWindow := false, identMode := false
    mac := 9, vlan := 1, hops := [{ position := listedTwice.ine.position, port := 4 }] }

theorem listedTwice_not_canonical : twf {} listedTwice.ports.links = false := by decide

/-- Before the PREPARE comes, CP0 is read at 1000 Mb/s. -/
theorem hopTry_listedTwice : ∃ x, hopTry listedTwice throughCp0 1 4 0 = .ok x ∧ x.dHop = 110806 :=
  ⟨_, rfl, by decide⟩

/-- The end of NAP drops the first entry of CP0, which it has made the default, so that the hold is placed at 10 Mb/s. -/
theorem prepareEffect_listedTwice : (prepareEffect 0 throughCp0 listedTwice).adm.holds.map Hold.dHop = [11021010] := by
  decide

/-- Refutes O32: where a table of links lists a port twice (`listedTwice`), the end of NAP that PREPARE_RECEIVE brings (R333)
changes the speed the port is read at, so that the hold placed has another D_hop than the one the statement names. In canonical
form this clause holds too (`prepareReceive_placed`, `prepareReceive_refused`). So do the others, in every state:
`streamAdmit_begins`, `streamAdmit_oneHop`, `freshId_unused`, `prepareReceive_denied`, `installReceive_denied`,
`replyReceive_passes`, `replyEffect_origin`, `holds_refuseStream`, `installReceive_schedules`, `streamActivation_activates`,
`activateHold_clause`, `confirmReceive_completes`, `confirmReceive_elsewhere` and `mirrorLocal_entry`. -/
theorem not_streamsAreInstalledInTwoPhases : ¬ Obligations.StreamsAreInstalledInTwoPhases := by
  unfold Obligations.StreamsAreInstalledInTwoPhases
  intro h
  obtain ⟨-, -, -, hprepare, -⟩ := h
  obtain ⟨x, hx, hbound⟩ := hopTry_listedTwice
  obtain ⟨t, hexec, hholds, -⟩ := (hprepare listedTwice 0 throughCp0 1 _ (by decide) rfl (by decide) rfl).1 x hx
  obtain rfl : prepareEffect 0 throughCp0 listedTwice = t := Host.Outcome.next.inj hexec
  have hplaced := prepareEffect_listedTwice
  rw [hholds] at hplaced
  exact absurd (hbound.symm.trans (List.head_eq_of_cons_eq hplaced)) (by decide)

end Sys2Proof.Proofs
end

section
/-! SUPPORT. Links: the streams that a port's link up brings back, and the obligation about links (O34). -/

namespace Sys2Proof.Proofs

open Sys2Proof Sys2Proof.Machine

/-! ## A link up that brings a stream back (R153, R161) -/

/-- A device with WL0 enabled and down, and a stream of another origin that leaves by WL0 (R153) and is SUSPENDED since the link
went down (R161). -/
def suspendedAtWl0 : State :=
  { ports := { cfg := [(94, { enabled := true })] }
    fab := { streams := [(0, some
      { origin := 5, streamId := 1, txn := 1, hop := 1, bySource := false, mac := 9, vlan := 1, port := some 0, egress := 94
        maxSdu := 64, cir := 672000, cbs := 84, eir := 0, ebs := 0, yellowDiscard := false, cls := 5, owner := 0
        bound := 1000000, frer := false, lineB := false, deliverInWindow := false, cells := 1, rate := 672000, bk := 84
        active := true, suspended := true, lost := true })] } }

/-- Its LINK_UP tells the origin by a CONFIRM, which enters the fabric at port 97 and is counted there (R187). -/
theorem linkUp_suspendedAtWl0 :
    tget 0 (linkUpEffect 94 1000000 true none suspendedAtWl0).ports.counters (97 * 64 + 4) = 1 := by
  decide

/-- Refutes O34: LINK_UP of a port at which a stream of another origin was lost (`suspendedAtWl0`) sends a CONFIRM, which counts at
port 97, where the statement says that no other port's counter changes. -/
theorem not_linksFollowTheirPorts : ¬ Obligations.LinksFollowTheirPorts := by
  unfold Obligations.LinksFollowTheirPorts
  intro h
  obtain ⟨hup, -⟩ := h
  obtain ⟨t, hexec, -, -, -, -, -, -, -, hcount⟩ := hup suspendedAtWl0 94 1000000 true none (.inr (.inl rfl)) rfl rfl rfl rfl
    (by decide) (.inr rfl) (by decide)
  obtain rfl : linkUpEffect 94 1000000 true none suspendedAtWl0 = t := Host.Outcome.next.inj hexec
  exact absurd ((hcount (97 * 64 + 4) (by decide)).symm.trans linkUp_suspendedAtWl0) (by decide)

end Sys2Proof.Proofs
end

section
/-! SUPPORT. PAUSE: what a halt of a port's transmitter counts and what it lets go, and the obligation about PAUSE (O35). -/

namespace Sys2Proof.Proofs

open Sys2Proof Sys2Proof.Machine

/-! ## Counters (R187) -/

theorem counter_countPort_self (s : State) (p c n : Nat) : tget 0 (countPort s p c n).ports.counters (p * 64 + c)
    = tget 0 s.ports.counters (p * 64 + c) + BitVec.ofNat 64 n :=
  tget_tmod_self 0 s.ports.counters (p * 64 + c) (· + BitVec.ofNat 64 n)

theorem counter_countPort_other (s : State) {p c k : Nat} (n : Nat) (h : k ≠ p * 64 + c) :
    tget 0 (countPort s p c n).ports.counters k = tget 0 s.ports.counters k :=
  tget_tmod_other 0 s.ports.counters (· + BitVec.ofNat 64 n) h

/-- A counter that no frame sent on port `p` counts: of another port, or none of counters 0 to 3 (Table 7-7). -/
def notSending (p k : Nat) : Prop := k / 64 ≠ p ∨ 4 ≤ k % 64

theorem notSending.ne {p k c : Nat} (h : notSending p k) (hc : c < 4) : k ≠ p * 64 + c := by
  unfold notSending at h
  omega

theorem counter_countSent {p k : Nat} (h : notSending p k) (s : State) (n : Nat) (m b : Bool) :
    tget 0 (countSent s p n m b).ports.counters k = tget 0 s.ports.counters k := by
  have hbase : tget 0 (countPort (countPort s p 0 1) p 1 (dataOctets p n)).ports.counters k = tget 0 s.ports.counters k := by
    rw [counter_countPort_other _ _ (h.ne (by decide)), counter_countPort_other _ _ (h.ne (by decide))]
  unfold countSent
  dsimp only
  split
  · rw [counter_countPort_other _ _ (h.ne (by decide)), hbase]
  · split
    · rw [counter_countPort_other _ _ (h.ne (by decide)), hbase]
    · exact hbase

/-! ## What waits for the end of a halt (R184) -/

theorem departing_ports (s : State) (e : HeldOut) : (departing s e).1.ports = s.ports := by
  unfold departing
  split <;> rfl

/-- A run of departures leaves links and settings as they were. -/
theorem links_foldl_depart (l : List HeldOut) (s : State) : (l.foldl depart s).ports.links = s.ports.links
    ∧ (l.foldl depart s).ports.cfg = s.ports.cfg := by
  have h := foldl_keeps (fun u => (u.ports.links, u.ports.cfg)) depart (fun u e => ?_) l s
  · simpa only [Prod.mk.injEq] using h
  · unfold depart
    simp [departing_ports]

/-- A run of departures from port `p` counts there alone, and as frames sent. -/
theorem counter_foldl_depart {p k : Nat} (h : notSending p k) (l : List HeldOut) (hl : ∀ e ∈ l, e.port = p) (s : State) :
    tget 0 (l.foldl depart s).ports.counters k = tget 0 s.ports.counters k := by
  induction l generalizing s with
  | nil => rfl
  | cons e r ih =>
    obtain ⟨rfl, hr⟩ := List.forall_mem_cons.1 hl
    rw [List.foldl_cons, ih hr]
    exact (counter_countSent h (departing s e).1 (sentLen e.item) true false).trans
      (by rw [departing_ports])

/-- Once a port may send, what waited there leaves: links, settings, the counters that no frame sent counts, and all that is not
sent or held stay. -/
structure Released (s t : State) (p : Nat) : Prop where
  view : sendView t = sendView s
  links : t.ports.links = s.ports.links
  cfg : t.ports.cfg = s.ports.cfg
  counters : ∀ k, notSending p k → tget 0 t.ports.counters k = tget 0 s.ports.counters k

theorem Released.link {s t : State} {p : Nat} (h : Released s t p) (q : Nat) : linkRec t q = linkRec s q := by
  unfold linkRec
  rw [h.links]

theorem Released.same {s t : State} {p : Nat} (h : Released s t p) :
    t.mono = s.mono ∧ t.fab = s.fab ∧ t.host = s.host := by
  have hmono := congrArg State.mono h.view
  have hfab := congrArg State.fab h.view
  have hhost := congrArg State.host h.view
  exact ⟨hmono, hfab, hhost⟩

theorem releasePort_released (s : State) (p : Nat) : Released s (releasePort s p) p := by
  cases hh : txHalted s p with
  | true =>
    have hstay : releasePort s p = s := if_pos hh
    rw [hstay]
    exact ⟨rfl, rfl, rfl, fun _ _ => rfl⟩
  | false =>
    rw [releasePort_open hh]
    obtain ⟨hlinks, hcfg⟩ := links_foldl_depart (s.ports.heldOut.filter fun e => e.port == p) (unheld s p)
    refine ⟨foldl_keeps sendView depart sendView_depart _ _, hlinks, hcfg, fun k hk => ?_⟩
    exact counter_foldl_depart hk _ (fun e he => by simpa using (List.mem_filter.1 he).2) (unheld s p)

/-- A port whose transmitter is not halted has nothing waiting there afterwards. -/
theorem releasePort_heldOut {s : State} {p : Nat} (h : txHalted s p = false) :
    (releasePort s p).ports.heldOut = s.ports.heldOut.filter fun e => e.port != p := by
  rw [releasePort_open h]
  exact (foldl_depart_sends _ _).2

/-- Where nothing waits, nothing leaves. -/
theorem releasePort_nothing {s : State} {p : Nat} (h : (s.ports.heldOut.filter fun e => e.port == p) = []) :
    (releasePort s p).ports.counters = s.ports.counters := by
  unfold releasePort
  split
  · rfl
  · rw [h]; rfl

theorem txHalted_of_haltUntil {s : State} {p : Nat} (h : (linkRec s p).haltUntil = none) : txHalted s p = false := by
  have hform : txHalted s p = (!(linkRec s p).ignoring && match (linkRec s p).haltUntil with
      | some t => decide (s.mono < t)
      | none => false) := rfl
  rw [hform, h, Bool.and_false]

theorem putLink_counters (s : State) (p : Nat) (x : LinkRec) : (putLink s p x).ports.counters = s.ports.counters := rfl

/-! ## PAUSE_RECEIVE (R184) -/

/-- A PAUSE frame counted at its port: received, and as PAUSE. -/
def pauseCounted (s : State) (p : Nat) : State := countPort (countGot s p 64) p 13 1

theorem counters_pauseCounted (s : State) (p : Nat) :
    tget 0 (pauseCounted s p).ports.counters (p * 64 + 13) = tget 0 s.ports.counters (p * 64 + 13) + 1
    ∧ tget 0 (pauseCounted s p).ports.counters (p * 64 + 4) = tget 0 s.ports.counters (p * 64 + 4) + 1
    ∧ tget 0 (pauseCounted s p).ports.counters (p * 64 + 5)
        = tget 0 s.ports.counters (p * 64 + 5) + BitVec.ofNat 64 (dataOctets p 64)
    ∧ tget 0 (pauseCounted s p).ports.counters (p * 64 + 6) = tget 0 s.ports.counters (p * 64 + 6) + 1
    ∧ ∀ k, k ∉ [p * 64 + 4, p * 64 + 5, p * 64 + 6, p * 64 + 13] →
        tget 0 (pauseCounted s p).ports.counters k = tget 0 s.ports.counters k := by
  have hform : pauseCounted s p
    = countPort (countPort (countPort (countPort s p 4 1) p 5 (dataOctets p 64)) p 6 1) p 13 1 := rfl
  have hother : ∀ (u : State) c d n, d ≠ c → tget 0 (countPort u p c n).ports.counters (p * 64 + d)
    = tget 0 u.ports.counters (p * 64 + d) := fun u c d n h => counter_countPort_other u n (by omega)
  rw [hform]
  refine ⟨?_, ?_, ?_, ?_, fun k hk => ?_⟩
  · rw [counter_countPort_self, hother _ 6 13 _ (by decide), hother _ 5 13 _ (by decide), hother _ 4 13 _ (by decide)]; rfl
  · rw [hother _ 13 4 _ (by decide), hother _ 6 4 _ (by decide), hother _ 5 4 _ (by decide), counter_countPort_self]; rfl
  · rw [hother _ 13 5 _ (by decide), hother _ 6 5 _ (by decide), counter_countPort_self, hother _ 4 5 _ (by decide)]
  · rw [hother _ 13 6 _ (by decide), counter_countPort_self, hother _ 5 6 _ (by decide), hother _ 4 6 _ (by decide)]; rfl
  · simp only [List.mem_cons, List.not_mem_nil, or_false, not_or] at hk
    obtain ⟨h4, h5, h6, h13⟩ := hk
    rw [counter_countPort_other _ _ h13, counter_countPort_other _ _ h6, counter_countPort_other _ _ h5,
      counter_countPort_other _ _ h4]

section pauseReceive

variable {s : State} {p : Nat}

@[simp] theorem pauseCounted_keeps (s : State) (p : Nat) :
    (pauseCounted s p).mono = s.mono ∧ (pauseCounted s p).ports.links = s.ports.links
    ∧ (pauseCounted s p).ports.cfg = s.ports.cfg ∧ (pauseCounted s p).fab = s.fab ∧ (pauseCounted s p).host = s.host := by
  simp [pauseCounted]

@[simp] theorem linkRec_pauseCounted (s : State) (p q : Nat) : linkRec (pauseCounted s p) q = linkRec s q := by
  simp [linkRec]

@[simp] theorem haltedNow_pauseCounted (s : State) (p q : Nat) : haltedNow (pauseCounted s p) q = haltedNow s q := by
  simp [haltedNow]

@[simp] theorem pausesOn_pauseCounted (s : State) (p q : Nat) : pausesOn (pauseCounted s p) q = pausesOn s q := by
  simp [pausesOn]

@[simp] theorem speedMbps_pauseCounted (s : State) (p q : Nat) : speedMbps (pauseCounted s p) q = speedMbps s q := by
  simp [speedMbps]

/-- The link of a port at which a PAUSE frame of `n` quanta has been honoured, until its halt is judged. -/
def pauseHeard (s : State) (p n : Nat) (m : Mac) : LinkRec :=
  { linkRec s p with pauseSrc := m, lastPause := if n = 0 then (linkRec s p).lastPause else s.mono }

/-- What PAUSE does at a port that is up, in terms of the frame counted. -/
theorem pauseEffect_up (n : Nat) (m : Mac) (hu : (linkRec s p).up = true) : pauseEffect p n m s =
    (if !pausesOn s p then pauseCounted s p
    else if (linkRec s p).ignoring then putLink (pauseCounted s p) p (pauseHeard s p n m)
    else if n = 0 then
      releasePort (putLink (if haltedNow s p then countPaused (pauseCounted s p) p else pauseCounted s p) p
        { pauseHeard s p n m with haltUntil := none }) p
    else putLink (pauseCounted s p) p { pauseHeard s p n m with
      haltSince := if haltedNow s p then (linkRec s p).haltSince else s.mono
      haltUntil := some (s.mono + n * 512000 / speedMbps s p) }) := by
  have hcounted : countPort (countGot s p 64) p 13 1 = pauseCounted s p := rfl
  unfold pauseEffect
  rw [if_neg (by simp [hu])]
  simp only [hcounted, linkRec_pauseCounted, haltedNow_pauseCounted, pausesOn_pauseCounted, speedMbps_pauseCounted,
    pauseCounted_keeps]
  rfl

/-- A port that does not honour PAUSE only counts the frame. -/
theorem pauseEffect_uncared (n : Nat) (m : Mac) (hu : (linkRec s p).up = true) (hp : pausesOn s p = false) :
    pauseEffect p n m s = pauseCounted s p := by
  rw [pauseEffect_up n m hu, hp]
  rfl

/-- While the watchdog has PAUSE ignored, the frame is only noted. -/
theorem pauseEffect_ignored (n : Nat) (m : Mac) (hu : (linkRec s p).up = true) (hp : pausesOn s p = true)
    (hi : (linkRec s p).ignoring = true) :
    pauseEffect p n m s = putLink (pauseCounted s p) p (pauseHeard s p n m) := by
  rw [pauseEffect_up n m hu, hp, hi]
  rfl

/-- Quanta other than zero halt a transmitter that is not halted yet. -/
theorem pauseEffect_halts {n : Nat} (m : Mac) (hu : (linkRec s p).up = true) (hp : pausesOn s p = true)
    (hi : (linkRec s p).ignoring = false) (hn : n ≠ 0) (hh : haltedNow s p = false) :
    pauseEffect p n m s = putLink (pauseCounted s p) p { pauseHeard s p n m with
      haltSince := s.mono, haltUntil := some (s.mono + n * 512000 / speedMbps s p) } := by
  rw [pauseEffect_up n m hu, hp, hi, hh, if_neg hn]
  rfl

/-- Zero quanta end the halt: the time it took is counted, and what waited leaves. -/
theorem pauseEffect_ends (m : Mac) (hu : (linkRec s p).up = true) (hp : pausesOn s p = true)
    (hi : (linkRec s p).ignoring = false) : ∃ u, u.ports.links = s.ports.links
      ∧ pauseEffect p 0 m s = releasePort (putLink u p { pauseHeard s p 0 m with haltUntil := none }) p := by
  refine ⟨if haltedNow s p then countPaused (pauseCounted s p) p else pauseCounted s p, ?_, ?_⟩
  · split <;> simp [countPaused]
  · rw [pauseEffect_up 0 m hu, hp, hi]
    rfl

end pauseReceive

/-! ## PAUSE_EXPIRY (R184) -/

/-- The state in which a halt that was to end at `u` ends: the time is reached, the halt counted and lifted. -/
def haltLifted (s : State) (p u : Nat) : State :=
  putLink (countPaused (untilMono s u) p) p { linkRec s p with haltUntil := none }

theorem pauseExpire_lifts {s : State} {p u : Nat} (h : (linkRec s p).haltUntil = some u) :
    pauseExpire p s = releasePort (haltLifted s p u) p := by
  have hlink : linkRec (countPaused (untilMono s u) p) p = linkRec s p := by simp [linkRec, countPaused]
  unfold pauseExpire haltLifted
  simp only [h, hlink]

theorem counters_haltLifted (s : State) (p u : Nat) :
    tget 0 (haltLifted s p u).ports.counters (p * 64 + 22) = tget 0 s.ports.counters (p * 64 + 22)
        + BitVec.ofNat 64 ((max s.mono u - (linkRec s p).haltSince) / 1000)
    ∧ ∀ k, k ≠ p * 64 + 22 → tget 0 (haltLifted s p u).ports.counters k = tget 0 s.ports.counters k := by
  have hports : (untilMono s u).ports = s.ports := by simp
  have hspan : ((untilMono s u).mono - (linkRec (untilMono s u) p).haltSince) / 1000
    = (max s.mono u - (linkRec s p).haltSince) / 1000 := by simp [linkRec]
  have hform : (haltLifted s p u).ports.counters = (countPort (untilMono s u) p 22
    ((max s.mono u - (linkRec s p).haltSince) / 1000)).ports.counters := by rw [← hspan]; rfl
  rw [hform]
  exact ⟨(counter_countPort_self ..).trans (by rw [hports]),
    fun k hk => (counter_countPort_other _ _ hk).trans (by rw [hports])⟩

/-- What lifting a halt leaves as it was. -/
theorem haltLifted_keeps (s : State) (p u : Nat) :
    (haltLifted s p u).mono = max s.mono u ∧ (haltLifted s p u).fab = s.fab ∧ (haltLifted s p u).host = s.host
    ∧ (haltLifted s p u).ports.heldOut = s.ports.heldOut
    ∧ ∀ q, q ≠ p → linkRec (haltLifted s p u) q = linkRec s q := by
  refine ⟨by simp [haltLifted, putLink, countPaused], by simp [haltLifted, putLink, countPaused],
    by simp [haltLifted, putLink, countPaused], by simp [haltLifted, putLink, countPaused], fun q hq => ?_⟩
  unfold haltLifted
  rw [linkRec_putLink_other _ _ hq]
  simp [linkRec, countPaused]

theorem pauseExpiry_clause (s : State) (p u : Nat) (h : (linkRec s p).haltUntil = some u) : ∃ t,
    exec (.pauseExpiry p) s = .next t
      ∧ (linkRec t p).haltUntil = none ∧ t.mono = max s.mono u
      ∧ tget 0 t.ports.counters (p * 64 + 22) = tget 0 s.ports.counters (p * 64 + 22)
          + BitVec.ofNat 64 ((max s.mono u - (linkRec s p).haltSince) / 1000)
      ∧ (∀ k, k / 64 ≠ p → tget 0 t.ports.counters k = tget 0 s.ports.counters k)
      ∧ ((s.ports.heldOut.filter fun e => e.port == p) = [] →
          ∀ k, k ≠ p * 64 + 22 → tget 0 t.ports.counters k = tget 0 s.ports.counters k)
      ∧ (s.ports.heldOut.filter fun e => e.port != p) = t.ports.heldOut
      ∧ (∀ q, q ≠ p → linkRec t q = linkRec s q) ∧ t.fab = s.fab ∧ t.host = s.host := by
  refine ⟨pauseExpire p s, rfl, ?_⟩
  rw [pauseExpire_lifts h]
  obtain ⟨hmono, hfab, hhost, hheld, hlinks⟩ := haltLifted_keeps s p u
  obtain ⟨hcount, hothers⟩ := counters_haltLifted s p u
  have hfree : (linkRec (haltLifted s p u) p).haltUntil = none := by
    unfold haltLifted
    rw [linkRec_putLink_self]
  have hr := releasePort_released (haltLifted s p u) p
  obtain ⟨hm, hf, hh⟩ := hr.same
  refine ⟨?_, ?_, ?_, fun k hk => ?_, fun hnone k hk => ?_, ?_, fun q hq => ?_, ?_, ?_⟩
  · rw [hr.link]; exact hfree
  · exact hm.trans hmono
  · exact (hr.counters _ (.inr (by omega))).trans hcount
  · exact (hr.counters _ (.inl hk)).trans (hothers k (by omega))
  · rw [releasePort_nothing (by rw [hheld]; exact hnone)]; exact hothers k hk
  · rw [releasePort_heldOut (txHalted_of_haltUntil hfree), hheld]
  · rw [hr.link, hlinks q hq]
  · exact hf.trans hfab
  · exact hh.trans hhost

/-! ## PAUSE_WATCHDOG_TRIP and PAUSE_IGNORE_END (R186) -/

/-- The instant at which the watchdog of a halted port trips. -/
def tripDue (s : State) (p : Nat) : Nat := (linkRec s p).haltSince + (portCfg s p).pauseLimit * 1000000

/-- The state in which the watchdog releases a port, before what waited leaves. -/
def tripped (s : State) (p : Nat) : State :=
  putLink (countPort (countPaused (untilMono s (tripDue s p)) p) p 21 1) p
    { linkRec s p with haltUntil := none, ignoring := true }

/-- What a trip tells: the port, a zero byte and the source MAC of the PAUSE. -/
def tripData (s : State) (p : Nat) : Bytes := leBytes 1 p ++ [0] ++ beBytes 6 (linkRec s p).pauseSrc.toNat

theorem tripped_keeps (s : State) (p : Nat) :
    linkRec (tripped s p) p = { linkRec s p with haltUntil := none, ignoring := true }
    ∧ (tripped s p).mono = max s.mono (tripDue s p)
    ∧ tget 0 (tripped s p).ports.counters (p * 64 + 21) = tget 0 s.ports.counters (p * 64 + 21) + 1
    ∧ ∀ q, q ≠ p → linkRec (tripped s p) q = linkRec s q := by
  refine ⟨linkRec_putLink_self _ _ _, by simp [tripped, putLink, countPaused], ?_, fun q hq => ?_⟩
  · refine (counter_countPort_self _ p 21 1).trans ?_
    unfold countPaused
    rw [counter_countPort_other _ _ (by omega)]
    simp
  · unfold tripped
    rw [linkRec_putLink_other _ _ hq]
    simp [linkRec, countPaused]

theorem pauseTrip_trips {s : State} {p u : Nat} (h : (linkRec s p).haltUntil = some u) (hd : tripDue s p ≤ u) :
    pauseTrip p s = report (event (releasePort (tripped s p) p) 0 8 (tripData s p)) 0x7001 (tripData s p ++ [0, 0]) := by
  have hlink : linkRec (countPort (countPaused (untilMono s (tripDue s p)) p) p 21 1) p = linkRec s p := by
    simp [linkRec, countPaused]
  have hafter : linkRec (releasePort (tripped s p) p) p = { linkRec s p with haltUntil := none, ignoring := true } :=
    ((releasePort_released _ p).link p).trans (tripped_keeps s p).1
  have hdue : ¬ u < (linkRec s p).haltSince + (portCfg s p).pauseLimit * 1000000 := Nat.not_lt.2 hd
  unfold tripDue at hlink
  unfold tripData
  unfold tripped tripDue at hafter ⊢
  simp only [pauseTrip, h, if_neg hdue, hlink, hafter]

theorem pauseWatchdogTrip_clause (s : State) (p u : Nat) (h : (linkRec s p).haltUntil = some u)
    (hd : (linkRec s p).haltSince + (portCfg s p).pauseLimit * 1000000 ≤ u) :
    ∃ t v d e, exec (.pauseWatchdogTrip p) s = .next t ∧ t = report (event v 0 8 d) 0x7001 e
      ∧ (linkRec t p).haltUntil = none ∧ (linkRec t p).ignoring = true
      ∧ t.mono = max s.mono ((linkRec s p).haltSince + (portCfg s p).pauseLimit * 1000000)
      ∧ tget 0 t.ports.counters (p * 64 + 21) = tget 0 s.ports.counters (p * 64 + 21) + 1
      ∧ d.take 2 = leBytes 1 p ++ [0] ∧ d.drop 2 = beBytes 6 (linkRec s p).pauseSrc.toNat
      ∧ (∀ q, q ≠ p → linkRec t q = linkRec s q) := by
  refine ⟨_, releasePort (tripped s p) p, tripData s p, tripData s p ++ [0, 0],
    congrArg Host.Outcome.next (pauseTrip_trips h hd), rfl, ?_⟩
  obtain ⟨hlink, hmono, hcount, hothers⟩ := tripped_keeps s p
  have hr := releasePort_released (tripped s p) p
  have hports : (report (event (releasePort (tripped s p) p) 0 8 (tripData s p)) 0x7001 (tripData s p ++ [0, 0])).ports
    = (releasePort (tripped s p) p).ports := by simp
  have hrec : ∀ q, linkRec (report (event (releasePort (tripped s p) p) 0 8 (tripData s p)) 0x7001 (tripData s p ++ [0, 0])) q
    = linkRec (tripped s p) q := fun q => Eq.trans (by unfold linkRec; rw [hports]) (hr.link q)
  refine ⟨by rw [hrec, hlink], by rw [hrec, hlink], ?_, ?_, by simp [tripData, leBytes], by simp [tripData, leBytes],
    fun q hq => (hrec q).trans (hothers q hq)⟩
  · obtain ⟨hm, -, -⟩ := hr.same
    simp only [report_frame, event_frame, hm]
    exact hmono
  · rw [hports, hr.counters _ (.inr (by omega)), hcount]

theorem pauseIgnoreEnd_clause (s : State) (p : Nat) (h : (linkRec s p).ignoring = true) : ∃ t,
    exec (.pauseIgnoreEnd p) s = .next t
      ∧ linkRec t p = { linkRec s p with ignoring := false } ∧ t.mono = max s.mono ((linkRec s p).lastPause + 1000000000)
      ∧ (∀ q, q ≠ p → linkRec t q = linkRec s q) ∧ t.ports.counters = s.ports.counters := by
  refine ⟨_, congrArg Host.Outcome.next (if_pos h), ?_⟩
  have hlink : ∀ q, linkRec (untilMono s ((linkRec s p).lastPause + 1000000000)) q = linkRec s q := fun q => by
    simp [linkRec]
  refine ⟨by rw [linkRec_putLink_self, hlink], untilMono_mono _ _, fun q hq => ?_, ?_⟩
  · rw [linkRec_putLink_other _ _ hq, hlink]
  · simp [putLink]

/-- Settles O35: a PAUSE frame by what its port makes of it (`pauseEffect_halts`, `pauseEffect_ends`, `pauseEffect_uncared`), the
end of a halt by what leaves then (`releasePort_released`). -/
theorem pauseHaltsAndIsReleased : Obligations.PauseHaltsAndIsReleased := by
  unfold Obligations.PauseHaltsAndIsReleased
  refine ⟨fun s p n m hu hp hi hn hh => ?_, fun s p m hu hp => ?_,
    fun s p n m hu hp => congrArg Host.Outcome.next (pauseEffect_uncared n m hu hp),
    pauseExpiry_clause, pauseWatchdogTrip_clause, pauseIgnoreEnd_clause⟩
  · refine ⟨_, congrArg Host.Outcome.next (pauseEffect_halts m hu hp hi hn hh), ?_⟩
    rw [linkRec_putLink_self, putLink_counters]
    obtain ⟨hpause, hgot, hoctets, hmulti, hothers⟩ := counters_pauseCounted s p
    obtain ⟨-, -, hcfg, hfab, hhost⟩ := pauseCounted_keeps s p
    exact ⟨rfl, rfl, rfl, if_neg hn, hu, hpause, hgot, hoctets, hmulti, hothers,
      fun q hq => (linkRec_putLink_other _ _ hq).trans (linkRec_pauseCounted s p q), hcfg, hfab, hhost⟩
  · cases hi : (linkRec s p).ignoring with
    | true =>
      refine ⟨_, congrArg Host.Outcome.next (pauseEffect_ignored 0 m hu hp hi), nofun, ?_⟩
      rw [linkRec_putLink_self]
      exact ⟨rfl, rfl, fun q hq => (linkRec_putLink_other _ _ hq).trans (linkRec_pauseCounted s p q)⟩
    | false =>
      obtain ⟨u, hlinks, hends⟩ := pauseEffect_ends m hu hp hi
      refine ⟨_, congrArg Host.Outcome.next hends, ?_⟩
      have hr := releasePort_released (putLink u p { pauseHeard s p 0 m with haltUntil := none }) p
      rw [hr.link, linkRec_putLink_self]
      refine ⟨fun _ => rfl, rfl, rfl, fun q hq => ?_⟩
      rw [hr.link, linkRec_putLink_other _ _ hq]
      unfold linkRec
      rw [hlinks]

end Sys2Proof.Proofs
end

section
/-! SUPPORT. What stays while frames are discarded, streams are suspended or resume and far accesses end: every view of the state
that the blocks, counters, records, events and responses concerned do not change. -/

namespace Sys2Proof.Proofs

open Sys2Proof Sys2Proof.Machine

/-- A view that fabric, admission, far accesses, what leaves, free values, port counters, alarms, records, events and responses
leave as it is. -/
structure Aside {β : Type} (v : State → β) : Prop where
  blocks : ∀ s f a r w d, v { s with fab := f, adm := a, far := r, wire := w, draws := d } = v s
  count : ∀ s p c n, v (countPort s p c n) = v s
  alarm : ∀ s r b, v (setAlarm s r b) = v s
  report : ∀ s c d, v (report s c d) = v s
  event : ∀ s t typ d, v (event s t typ d) = v s
  respond : ∀ s h op st r p, v (respond s h op st r p) = v s

namespace Aside

variable {β : Type} {v : State → β}

/-! ## Frames (R125, R146, R187) -/

theorem countGot (hv : Aside v) (s : State) (p n : Nat) (m b : Bool) : v (Machine.countGot s p n m b) = v s := by
  unfold Machine.countGot
  dsimp only
  split
  · rw [hv.count, hv.count, hv.count]
  · split
    · rw [hv.count, hv.count, hv.count]
    · rw [hv.count, hv.count]

theorem countSent (hv : Aside v) (s : State) (p n : Nat) (m b : Bool) : v (Machine.countSent s p n m b) = v s := by
  unfold Machine.countSent
  dsimp only
  split
  · rw [hv.count, hv.count, hv.count]
  · split
    · rw [hv.count, hv.count, hv.count]
    · rw [hv.count, hv.count]

theorem emit (hv : Aside v) (s : State) (x : Sent) : v (Machine.emit s x) = v s := hv.blocks s _ _ _ _ _

theorem mgpSends (hv : Aside v) (s : State) (via : Option Nat) (x : Sent) : v (Machine.mgpSends s via x) = v s := by
  cases via with
  | none => rw [mgpSends_none, hv.emit, hv.countGot]
  | some p => rw [mgpSends_some, hv.emit, hv.countSent, hv.countGot]

theorem setAlarmIf (hv : Aside v) (s : State) (c : Bool) (r : AlarmReg) (b : Nat) : v (Machine.setAlarmIf s c r b) = v s := by
  cases c with
  | false => rfl
  | true => exact hv.alarm s r b

theorem discard (hv : Aside v) (s : State) (d : Discard) : v (Machine.discard s d) = v s := by
  unfold Machine.discard
  extract_lets fab counted alarmed
  have halarmed : v alarmed = v s := by
    unfold alarmed counted
    rw [hv.setAlarmIf, hv.setAlarmIf, hv.count]
    exact hv.blocks s _ _ _ _ _
  split
  · exact halarmed
  · rw [hv.report, halarmed]

theorem violation (hv : Aside v) (s : State) (i at_ kind reason residence : Nat) :
    v (Machine.violation s i at_ kind reason residence) = v s := by
  have hcheck : ∀ p, v (tc6Check s p) = v s := fun p => by
    unfold tc6Check
    dsimp only
    split
    · rfl
    · exact hv.blocks s _ _ _ _ _
  unfold Machine.violation
  split
  · rfl
  · dsimp only
    rw [apply_ite v, hv.event, hv.mgpSends, ite_self, hv.report, hv.alarm]
    exact (hv.blocks _ _ _ _ _ _).trans (hcheck _)

theorem discardHeld (hv : Aside v) (s : State) (h : Held) (p e r : Nat) : v (Machine.discardHeld s h p e r) = v s := by
  unfold Machine.discardHeld lose
  dsimp only
  split
  · exact hv.discard ..
  · rw [apply_ite v, hv.violation, hv.discard, ite_self]

theorem releaseFrame (hv : Aside v) (s : State) (k : Nat) : v (Machine.releaseFrame s k) = v s := by
  unfold Machine.releaseFrame
  split
  · rfl
  · split
    · exact (hv.blocks _ _ _ _ _ _).trans (hv.blocks s _ _ _ _ _)
    · exact hv.blocks s _ _ _ _ _

theorem dropQueued (hv : Aside v) (s : State) (p c k r : Nat) : v (Machine.dropQueued s p c k r) = v s := by
  unfold Machine.dropQueued
  split
  · rfl
  · rw [hv.releaseFrame, hv.discardHeld]
    exact hv.blocks s _ _ _ _ _

/-! ## Streams (R161, R166) -/

theorem putOrigin (hv : Aside v) (s : State) (o : OriginStream) : v (Machine.putOrigin s o) = v s := hv.blocks s _ _ _ _ _

theorem mirrorState (hv : Aside v) (s : State) (o : OriginStream) (b : Bool) : v (Machine.mirrorState s o b) = v s :=
  hv.blocks s _ _ _ _ _

theorem hopDown (hv : Aside v) (s : State) (o : OriginStream) (k : Nat) : v (Machine.hopDown s o k) = v s := by
  unfold Machine.hopDown
  split
  · rfl
  · dsimp only
    split
    · exact (hv.event ..).trans ((hv.mirrorState ..).trans (hv.putOrigin ..))
    · exact hv.putOrigin ..
    · exact hv.putOrigin ..
    · rfl

theorem hopUp (hv : Aside v) (s : State) (o : OriginStream) (k : Nat) : v (Machine.hopUp s o k) = v s := by
  unfold Machine.hopUp
  split
  · rfl
  · dsimp only
    split
    · split
      · exact (hv.event ..).trans ((hv.mirrorState ..).trans (hv.putOrigin ..))
      · exact hv.putOrigin ..
    · split
      · exact hv.putOrigin ..
      · rfl

theorem markStreams (hv : Aside v) (s : State) (p : Nat) (down : Bool) : v (Machine.markStreams s p down) = v s := by
  have hput : ∀ u i x, v (putStream u i x) = v u := fun u i x => hv.blocks u _ _ _ _ _
  refine foldl_keeps v _ (fun u e => ?_) _ s
  split
  · rfl
  · split
    · rfl
    · dsimp only
      split
      · rw [hv.mgpSends, hput]
      · split
        · rw [apply_ite v, hv.hopDown, hv.hopUp, ite_self, hput]
        · exact hput ..

theorem originDrop (hv : Aside v) (s : State) (o : OriginStream) : v (Machine.originDrop s o) = v s := hv.blocks s _ _ _ _ _

theorem withdrawTenant (hv : Aside v) (s : State) (t : Nat) : v (Machine.withdrawTenant s t) = v s := by
  have hwithdraw : ∀ u o r, v (withdraw u o r) = v u := fun u o r => (hv.event ..).trans (hv.originDrop u o)
  refine foldl_keeps v _ (fun u o => ?_) _ s
  split
  · exact hwithdraw ..
  · exact hwithdraw ..
  · exact hv.originDrop u o

/-! ## Far accesses (R233 to R240) -/

theorem putFar (hv : Aside v) (s : State) (f : Nat) (x : FarTarget) : v (Machine.putFar s f x) = v s := hv.blocks s _ _ _ _ _

theorem farErr (hv : Aside v) (s : State) (f b : Nat) : v (Machine.farErr s f b) = v s := hv.putFar ..

theorem farReserve (hv : Aside v) (s : State) (f : Nat) : v (Machine.farReserve s f) = v s := by
  unfold Machine.farReserve
  dsimp only
  split
  · exact hv.putFar ..
  · rfl

theorem farLog (hv : Aside v) (s : State) (f bits addr st : Nat) : v (Machine.farLog s f bits addr st) = v s := by
  unfold Machine.farLog
  extract_lets x marked owner data told
  have htold : v told = v marked := by
    unfold told
    rw [apply_ite v, hv.event, ite_self]
  rw [hv.report, htold]
  exact hv.putFar ..

theorem farEnd (hv : Aside v) (s : State) (f : Nat) (a : FarAcc) (e : FarEnd) : v (Machine.farEnd s f a e) = v s := by
  have hlate : ∀ (u : State) (late : Bool), v (if late then Machine.farErr u f 2 else u) = v u := fun u late => by
    rw [apply_ite v, hv.farErr, ite_self]
  have hread : ∀ (u : State) (c : Nat), v (if c = 0 then u else Machine.farErr u f 1) = v u := fun u c => by
    rw [apply_ite v, hv.farErr, ite_self]
  have hdraw : ∀ u, v (draw u).2 = v u := fun u => hv.blocks u _ _ _ _ _
  unfold Machine.farEnd
  dsimp only
  split
  · split
    · exact hv.respond ..
    · rw [hv.respond, hlate]
    · rw [hv.respond, hdraw, hlate]
  · split
    · rw [hlate, hread]
      exact hv.blocks s _ _ _ _ _
    · split
      · rfl
      · split
        · rfl
        · exact hv.farLog ..
      · exact hv.farLog ..

theorem farFlush (hv : Aside v) (n : Nat) (s : State) (f : Nat) (e : FarEnd) : v (Machine.farFlush n s f e) = v s := by
  have hhead : ∀ u, v (farHeadEnd u f e) = v u := fun u => by
    unfold farHeadEnd
    split
    · rfl
    · exact (hv.farEnd ..).trans ((hv.putFar ..).trans (hv.farReserve u f))
  induction n generalizing s with
  | zero => rfl
  | succ n ih =>
    unfold Machine.farFlush
    split
    · rfl
    · rw [ih, hhead]

theorem farPortDown (hv : Aside v) (s : State) (p : Nat) : v (Machine.farPortDown s p) = v s := by
  refine foldl_keeps v _ (fun u f => ?_) _ s
  rw [apply_ite v, hv.farFlush, ite_self]

theorem lockRelease (hv : Aside v) (s : State) (f : Nat) : v (Machine.lockRelease s f) = v s := by
  have hgrant : ∀ u w, v (lockGrant u f w) = v u := fun u w =>
    (foldl_keeps v _ (fun u h => hv.respond u h ..) _ _).trans (hv.putFar ..)
  have hnext : ∀ u, v (lockNext u f) = v u := fun u => by
    unfold lockNext
    split
    · rfl
    · rw [hgrant, hv.putFar]
  unfold Machine.lockRelease
  dsimp only
  split
  · rfl
  · rw [hnext, hv.putFar]

theorem farTenantReset (hv : Aside v) (s : State) (t : Nat) : v (Machine.farTenantReset s t) = v s := by
  refine foldl_keeps v _ (fun u f => ?_) _ s
  extract_lets x mine filtered reserved
  have hreserved : v reserved = v u := by
    unfold reserved
    rw [apply_ite v, hv.farReserve, ite_self]
    exact hv.putFar ..
  rw [apply_ite v, apply_ite v, hv.lockRelease, hv.lockRelease, hv.farFlush, ite_self, ite_self, hreserved]

end Aside

end Sys2Proof.Proofs
end

section
/-! SUPPORT. Resets of tenants: what the steps of a reset leave of every tenant, and the obligation about resets (O10). -/

namespace Sys2Proof.Proofs

open Sys2Proof Sys2Proof.Machine

/-! ## What a reset settles of a tenant (R305) -/

/-- What a reset settles of a tenant, and no command, event or interrupt changes: its state, a reset due and a removal, its fault,
its features and its queues. -/
def setupOf (x : Tenant) :
    (TenantState × Bool × Bool) × (Nat × Nat × BitVec 128) × Table HostQueue × Table HostQueue :=
  ((x.state, x.resetDue, x.removing), (x.faultCode, x.faultWhere, x.features), x.txq, x.rxq)

/-- The same of every tenant. -/
def setups (s : State) (t : Nat) :
    (TenantState × Bool × Bool) × (Nat × Nat × BitVec 128) × Table HostQueue × Table HostQueue :=
  setupOf (tenant s t)

theorem fields_of_setup {x y : Tenant} (h : setupOf y = setupOf x) :
    y.state = x.state ∧ y.resetDue = x.resetDue ∧ y.removing = x.removing ∧ y.faultCode = x.faultCode
    ∧ y.faultWhere = x.faultWhere ∧ y.features = x.features ∧ y.txq = x.txq ∧ y.rxq = x.rxq := by
  simp only [setupOf, Prod.mk.injEq] at h
  obtain ⟨⟨hstate, hdue, hremoving⟩, ⟨hcode, hwhere, hfeatures⟩, htxq, hrxq⟩ := h
  exact ⟨hstate, hdue, hremoving, hcode, hwhere, hfeatures, htxq, hrxq⟩

theorem setups_congr {s u : State} (h : u.host.tenants = s.host.tenants) : setups u = setups s :=
  funext fun t => congrArg setupOf (tenant_congr h t)

theorem setups_modTenant (s : State) (t : Nat) {f : Tenant → Tenant} (h : ∀ x, setupOf (f x) = setupOf x) :
    setups (modTenant s t f) = setups s := by
  funext u
  unfold setups
  rcases eq_or_ne u t with rfl | hu
  · rw [tenant_modTenant_self, h]
  · rw [tenant_modTenant_other _ _ hu]

/-! ### Interrupts, events and responses (R289, R290) -/

theorem setups_msixRaise (s : State) (v : Nat) : setups (msixRaise s v) = setups s := setups_congr (by simp)

theorem setups_setAlarm (s : State) (r : AlarmReg) (b : Nat) : setups (setAlarm s r b) = setups s := setups_congr (by simp)

theorem setups_report (s : State) (c : Nat) (d : Bytes) : setups (report s c d) = setups s := setups_congr (by simp)

theorem setups_raiseTenant (s : State) (t : Nat) : setups (raiseTenant s t) = setups s := by
  unfold raiseTenant
  dsimp only
  split
  · split
    · exact setups_modTenant _ _ fun _ => rfl
    · rw [apply_ite setups, setups_msixRaise, ite_self]
      exact setups_modTenant _ _ fun _ => rfl
  · rfl

theorem setups_remoteSends (s : State) (x : Sent) : setups (remoteSends s x) = setups s := rfl

theorem setups_deliverEvent (s : State) (t typ : Nat) (n : Word) (d : Bytes) :
    setups (deliverEvent s t typ n d) = setups s := by
  unfold deliverEvent
  dsimp only
  split
  · rfl
  · split
    · rw [setups_remoteSends]
      exact setups_modTenant _ _ fun _ => rfl
    · split
      · rw [apply_ite setups, setups_raiseTenant, ite_self]
        exact setups_modTenant _ _ fun x => by split <;> rfl
      · exact setups_modTenant _ _ fun _ => rfl

theorem setups_event (s : State) (t typ : Nat) (d : Bytes) : setups (event s t typ d) = setups s := by
  unfold event
  split
  · rfl
  · exact setups_deliverEvent ..

theorem setups_putResponse (s : State) (t : Nat) (r : Response) (b : Bool) : setups (putResponse s t r b) = setups s := by
  have hput : ∀ f : Tenant → Tenant, (∀ x, setupOf (f x) = setupOf x) →
      setups (if b then remoteSends (modTenant s t f) (.remoteResponse t (responseBytes r))
        else if bitAt (tenant (modTenant s t f) t).ctrl 2 then raiseTenant (modTenant s t f) t else modTenant s t f)
        = setups s := fun f hf => by
    rw [apply_ite setups, apply_ite setups, setups_remoteSends, setups_raiseTenant, ite_self, ite_self,
      setups_modTenant _ _ hf]
  exact hput _ fun x => by dsimp only; split <;> rfl

theorem setups_respond (s : State) (h : Hcp) (op : Nat) (st : Status) (reason : Nat) (p : Bytes) :
    setups (respond s h op st reason p) = setups s := by
  unfold respond
  extract_lets x
  split
  · exact setups_putResponse ..
  · extract_lets body r taken answered heldAnswered cached
    have htaken : setups taken = setups s := setups_modTenant _ _ fun x => by split <;> rfl
    have hheld : setups heldAnswered = setups answered := foldl_keeps setups _ (fun u _ => setups_putResponse u ..) _ _
    have hcached : setups { cached with evr := { cached.evr with counterWrites := sadd cached.evr.counterWrites h.tenant } }
      = setups heldAnswered := setups_modTenant heldAnswered h.tenant fun _ => rfl
    have hanswered : setups answered = setups s := (setups_putResponse taken ..).trans htaken
    rw [apply_ite setups, hcached, ite_self, hheld, hanswered]

/-! ### TAUs and harvests (R192) -/

theorem setups_tauEvent (s : State) (k o r f at_ : Nat) : setups (tauEvent s k o r f at_) = setups s := by
  unfold tauEvent
  dsimp only
  split
  · rfl
  · split
    · rfl
    · exact setups_event ..

theorem setups_tauFinish (s : State) (k : Nat) (f : Bool) (r : Nat) (c : Bool) (at_ : Nat) :
    setups (tauFinish s k f r c at_) = setups s := by
  have hseal : ∀ u, setups (surveySeal u k) = setups u := fun u => by
    unfold surveySeal
    split <;> rfl
  unfold tauFinish
  dsimp only
  split
  · rw [apply_ite setups, hseal, ite_self]; rfl
  · rfl

theorem setups_harvestAbort (s : State) (b r : Nat) : setups (harvestAbort s b r) = setups s := by
  unfold harvestAbort
  dsimp only
  split
  · rfl
  · exact setups_event ..

theorem setups_tauAbort (s : State) (k r : Nat) : setups (tauAbort s k r) = setups s := by
  unfold tauAbort
  dsimp only
  rw [setups_tauFinish, setups_tauEvent, apply_ite setups, setups_harvestAbort, ite_self]

theorem setups_tausAbort (s : State) (p : Nat → TauRec → Bool) (r : Nat) : setups (tausAbort s p r) = setups s := by
  refine foldl_keeps setups _ (fun u k => ?_) _ s
  rw [apply_ite setups, setups_tauAbort, ite_self]

theorem setups_harvestsAbort (s : State) (t : Nat) : setups (harvestsAbort s t) = setups s := by
  refine foldl_keeps setups _ (fun u b => ?_) _ s
  rw [apply_ite setups, apply_ite setups, setups_tauAbort, setups_harvestAbort, ite_self, ite_self]

/-! ### Frames that wait for a tenant (R125, R305) -/

/-- Discards, far accesses and withdrawals change none of it. -/
theorem setups_aside : Aside setups where
  blocks _ _ _ _ _ _ := rfl
  count _ _ _ _ := rfl
  alarm := setups_setAlarm
  report := setups_report
  event := setups_event
  respond := setups_respond

theorem setups_dropItem (s : State) (t r : Nat) (i : RxItem) : setups (dropItem s t r i) = setups s := by
  unfold dropItem
  split
  · rw [setups_aside.releaseFrame, setups_aside.discardHeld]
  · exact setups_aside.discard ..

theorem setups_dropWaiting (s : State) (t : Nat) : setups (dropWaiting s t) = setups s :=
  (foldl_keeps setups _ (fun u i => setups_dropItem u t 7 i) _ _).trans (setups_modTenant _ _ fun _ => rfl)

theorem setups_dropUnsent (n : Nat) (s : State) (t : Nat) : setups (dropUnsent n s t) = setups s := by
  induction n generalizing s with
  | zero => rfl
  | succ n ih =>
    unfold dropUnsent
    rw [ih, setups_aside.discard]
    rfl

/-! ## The reset carried out (R305) -/

/-- The steps of a reset before the tenant itself is settled. -/
def beforeReset (s : State) (t : Nat) : State :=
  let s := ((tenant s t).inflight.filter fun i => !i.committed).foldl
    (fun s i => respond s { tenant := t, classC := i.classC, tag := i.tag } i.opcode .abortedReset 0 []) s
  let s := tausAbort s (fun _ r => r.owner == some t && decide (scale16 s r.wyt + 1000 * 65536 ≤ r.fire)) 8
  let s := farTenantReset (withdrawTenant (harvestsAbort s t) t) t
  let s := { s with pwc := { s.pwc with keepers := sdel s.pwc.keepers t } }
  dropWaiting (dropUnsent (txUnsent (tenant s t)) s t) t

theorem setups_beforeReset (s : State) (t : Nat) : setups (beforeReset s t) = setups s := by
  have hpwc : ∀ (u : State) p, setups { u with pwc := p } = setups u := fun u p => rfl
  unfold beforeReset
  dsimp only
  rw [setups_dropWaiting, setups_dropUnsent, hpwc, setups_aside.farTenantReset, setups_aside.withdrawTenant, setups_harvestsAbort,
    setups_tausAbort]
  exact foldl_keeps setups _ (fun u i => setups_respond ..) _ s

/-- The tenant settled and told. -/
def settledReset (s : State) (t : Nat) : State :=
  kaSettle (event (modTenant (beforeReset s t) t tenantAfterReset) t 10 [])

theorem resetTenant_settles (s : State) (t : Nat) : resetTenant s t =
    if (tenant (settledReset s t) t).removing then
      modTenant (settledReset s t) t fun x => { x with state := .free, rights := 0, key := none, removing := false }
    else settledReset s t := rfl

/-- A tenant as its reset leaves it. -/
theorem setupOf_tenantAfterReset (x : Tenant) : setupOf (tenantAfterReset x) =
    ((.configured, false, x.removing), (0, 0, 0), x.txq.map fun e => (e.1, { e.2 with enabled := false, prod := 0, cons := 0 }),
      x.rxq.map fun e => (e.1, { e.2 with enabled := false, prod := 0, cons := 0 })) := rfl

theorem setup_settledReset (s : State) (t : Nat) :
    setupOf (tenant (settledReset s t) t) = setupOf (tenantAfterReset (tenant (beforeReset s t) t)) := by
  have hsettle : ∀ u, setups (kaSettle u) = setups u := fun u => by
    unfold kaSettle
    split <;> rfl
  have h := congrFun ((hsettle _).trans (setups_event (modTenant (beforeReset s t) t tenantAfterReset) t 10 [])) t
  unfold setups at h
  rwa [tenant_modTenant_self] at h

/-- Queues that a reset has disabled. -/
theorem disabled_tget (l : Table HostQueue) (q : Nat) :
    (tget {} (l.map fun e => (e.1, { e.2 with enabled := false, prod := 0, cons := 0 })) q : HostQueue).enabled = false := by
  induction l with
  | nil => rfl
  | cons e l ih =>
    simp only [List.map_cons, tget]
    split
    · rfl
    · exact ih

/-- What the reset leaves of a tenant before a removal takes it. -/
theorem tenant_settledReset (s : State) (t : Nat) :
    (tenant (settledReset s t) t).state = .configured ∧ (tenant (settledReset s t) t).resetDue = false
    ∧ (tenant (settledReset s t) t).removing = (tenant s t).removing ∧ (tenant (settledReset s t) t).faultCode = 0
    ∧ (tenant (settledReset s t) t).features = 0
    ∧ ∀ q r, (queueRead (tenant (settledReset s t) t) r q).enabled = false := by
  obtain ⟨-, -, hkept, -⟩ := fields_of_setup (congrFun (setups_beforeReset s t) t)
  have hsetup := (setup_settledReset s t).trans (setupOf_tenantAfterReset _)
  simp only [setupOf, Prod.mk.injEq] at hsetup
  obtain ⟨⟨hstate, hdue, hremoving⟩, ⟨hcode, -, hfeatures⟩, htxq, hrxq⟩ := hsetup
  refine ⟨hstate, hdue, hremoving.trans hkept, hcode, hfeatures, fun q r => ?_⟩
  unfold queueRead
  rw [htxq, hrxq]
  cases r <;> exact disabled_tget _ q

theorem resetTenant_clause (s : State) (t : Nat) :
    (tenant (resetTenant s t) t).resetDue = false ∧ (tenant (resetTenant s t) t).faultCode = 0
    ∧ (tenant (resetTenant s t) t).features = 0
    ∧ (∀ q r, (queueRead (tenant (resetTenant s t) t) r q).enabled = false)
    ∧ ((tenant s t).removing = false → (tenant (resetTenant s t) t).state = .configured)
    ∧ ((tenant s t).removing = true → (tenant (resetTenant s t) t).state = .free
      ∧ (tenant (resetTenant s t) t).rights = 0 ∧ (tenant (resetTenant s t) t).key = none) := by
  obtain ⟨hstate, hdue, hremoving, hcode, hfeatures, hqueues⟩ := tenant_settledReset s t
  rw [resetTenant_settles, hremoving]
  cases (tenant s t).removing with
  | false =>
    rw [if_neg Bool.false_ne_true]
    exact ⟨hdue, hcode, hfeatures, hqueues, fun _ => hstate, nofun⟩
  | true =>
    rw [if_pos rfl, tenant_modTenant_self]
    generalize tenant (settledReset s t) t = x at hdue hcode hfeatures hqueues ⊢
    exact ⟨hdue, hcode, hfeatures, hqueues, nofun, fun _ => ⟨rfl, rfl, rfl⟩⟩

/-! ## A command ring that is still overrun (R288) -/

theorem ringCheck_within {s : State} {t : Nat} (h : ((tenant s t).cmdProd - (tenant s t).cmdCons).toNat ≤ 64) :
    ringCheck s t = s :=
  if_neg (Nat.not_lt.2 h)

theorem ringCheck_unserved {s : State} {t : Nat} (ho : (tenant s t).state ≠ .opened)
    (hc : (tenant s t).state ≠ .configured) : ringCheck s t = s := by
  unfold ringCheck
  rw [faultTenant_other ho hc, ite_self]

theorem ringCheck_overrun {s : State} {t : Nat} (h : 64 < ((tenant s t).cmdProd - (tenant s t).cmdCons).toNat)
    (hc : (tenant s t).state = .configured) :
    (tenant (ringCheck s t) t).state = .faulted ∧ (tenant (ringCheck s t) t).faultCode = 2
    ∧ (tenant (ringCheck s t) t).faultWhere = 0x20 := by
  have hfault : ringCheck s t = raiseTenant (modTenant s t fun x =>
      { x with state := .faulted, faultWhere := 0x20, faultCode := 2 }) t :=
    (if_pos h).trans (faultTenant_serving (.inr hc) 0x20 2)
  have hsetup := congrFun (setups_raiseTenant (modTenant s t fun x =>
      { x with state := .faulted, faultWhere := 0x20, faultCode := 2 }) t) t
  obtain ⟨hstate, -, -, hcode, hwhere, -⟩ := fields_of_setup hsetup
  rw [hfault, hstate, hcode, hwhere, tenant_modTenant_self]
  exact ⟨rfl, rfl, rfl⟩

/-- Settles O10: the reset by what its steps leave of the tenant (`setups_beforeReset`, `tenant_settledReset`), the ring by how far
its producer is ahead. -/
theorem tenantResetCarriedOut : Obligations.TenantResetCarriedOut := by
  unfold Obligations.TenantResetCarriedOut
  refine ⟨fun s t h => congrArg Host.Outcome.next (if_neg (by simp [h])),
    fun s t h => congrArg Host.Outcome.next (if_pos h), fun s t _ => resetTenant_clause s t, fun s t h => ?_,
    fun s t => ringCheck_overrun⟩
  rcases h with h | h | h | h
  · exact ringCheck_within h
  all_goals exact ringCheck_unserved (by simp [h]) (by simp [h])

end Sys2Proof.Proofs
end

section
/-! SUPPORT. Segments: what a port that goes down or comes up leaves of them, their states and what waits on them, and the
obligation about segments (O36). -/

namespace Sys2Proof.Proofs

open Sys2Proof Sys2Proof.Machine

/-! ## Ports that go down and come up -/

/-- The links, the segments, the model time, and whether ports are held down. -/
def segView (s : State) : Table LinkRec × Table Segment × Nat × Fw × Bool :=
  (s.ports.links, s.ports.segs, s.mono, s.fw, s.glob.degraded)

theorem segView_aside : Aside segView where
  blocks _ _ _ _ _ _ := rfl
  count _ _ _ _ := rfl
  alarm _ _ _ := by simp [segView]
  report _ _ _ := by simp [segView]
  event _ _ _ _ := by simp [segView]
  respond _ _ _ _ _ _ := by simp [segView]

/-- What stays of the segments wherever the view does. -/
theorem fields_of_segView {s t : State} (h : segView t = segView s) :
    (∀ q, linkRec t q = linkRec s q) ∧ (∀ j, segOf t j = segOf s j) ∧ t.mono = s.mono ∧ portsHeld t = portsHeld s := by
  simp only [segView, Prod.mk.injEq] at h
  obtain ⟨hlinks, hsegs, hmono, hfw, hdegraded⟩ := h
  refine ⟨fun q => ?_, fun j => ?_, hmono, ?_⟩
  · simp only [linkRec, hlinks]
  · simp only [segOf, hsegs]
  · simp only [portsHeld, inRecovery, hfw, hdegraded]

/-- The view after a link is written, from that before. -/
theorem segView_putLink {s t : State} (h : segView t = segView s) (p : Nat) (x : LinkRec) :
    segView (putLink t p x) = segView (putLink s p x) := by
  simp only [segView, Prod.mk.injEq] at h
  obtain ⟨hlinks, hsegs, hmono, hfw, hdegraded⟩ := h
  simp only [segView, putLink, hlinks, hsegs, hmono, hfw, hdegraded]

theorem segView_drainPort (s : State) (p r : Nat) : segView (drainPort s p r) = segView s := by
  have hcan : ∀ u, segView (drainCan u p r) = segView u := fun u => by
    unfold drainCan
    split
    · refine (foldl_keeps segView _ (fun w k => ?_) _ _).trans rfl
      split
      · rw [segView_aside.releaseFrame, segView_aside.discardHeld]
      · rfl
    · rfl
  refine (hcan _).trans ?_
  exact foldl_keeps segView _ (fun u c => foldl_keeps segView _ (fun w k => segView_aside.dropQueued w p c k r) _ u) _ s

theorem segView_trackLoss (s : State) (l : Nat) : segView (trackLoss s l) = segView s := by
  have hlost : segView (trackLost s l) = segView s := segView_aside.alarm _ _ _
  have hselect : ∀ u, segView (selectUpstream u) = segView u := fun u => by
    obtain ⟨up, hops, offs, alarm, host, e⟩ := selectUpstream_form u
    rw [e]; rfl
  have hcases : trackLoss s l = if (trackLost s l).tms.upstream = l then
      (match bestUpstream (trackLost s l) with
      | some _ => selectUpstream (trackLost s l)
      | none => setAlarm { trackLost s l with tms := { (trackLost s l).tms with upstream := 15 } } .tms 3)
    else trackLost s l := rfl
  rw [hcases]
  split
  · split
    · rw [hselect, hlost]
    · rw [segView_aside.alarm]; exact hlost
  · exact hlost

theorem segView_linkEvent (s : State) (p f r : Nat) : segView (linkEvent s p f r) = segView s := segView_aside.event ..

/-- A port of another type than BB goes down: of what the view holds only its link changes (R170). -/
theorem portDown_view {s : State} {p : Nat} (f r : Nat) (hp : portKind p ≠ .bb) (hu : (linkRec s p).up = true) :
    segView (portDown s p f r) = segView (putLink s p (downLink (linkRec s p))) := by
  have hpaused : segView (if txHalted s p then countPaused s p else s) = segView s := by
    have hcount : segView (countPaused s p) = segView s := rfl
    rw [apply_ite segView, hcount, ite_self]
  have hdropped : ∀ u, segView (dropHeldOut u p) = segView u := fun u =>
    (foldl_keeps segView _ (fun w _ => segView_aside.discard w _) _ _).trans rfl
  unfold portDown
  rw [if_neg (by simp [hu])]
  extract_lets x paused ports dropped link told marked tracked
  have hlink : segView link = segView (putLink s p (downLink (linkRec s p))) :=
    segView_putLink ((hdropped paused).trans hpaused) p _
  have hmarked : segView marked = segView link := by
    unfold marked told
    rw [segView_aside.farPortDown, segView_aside.markStreams, segView_linkEvent, segView_aside.count, segView_drainPort]
  rw [if_neg hp, ← hlink, ← hmarked]
  unfold tracked
  split
  · exact segView_trackLoss ..
  · rfl

/-- A port of another type than BB comes up without a partner: of what the view holds only its link changes (R170). -/
theorem portUp_view {s : State} {p : Nat} (f : Nat) (hp : portKind p ≠ .bb) (hh : portsHeld s = false) :
    segView (portUp s p f none) = segView (putLink s p { linkRec s p with
      up := true, halfDuplex := false, noSync := false, partner := none, lpiNow := lpiOf s s.pwc.state p }) := by
  unfold portUp
  rw [if_neg (by simp [hh])]
  extract_lets x link tracked told marked
  have htracked : segView tracked = segView link := by
    unfold tracked
    split <;> rfl
  have hmarked : segView marked = segView link := by
    unfold marked
    rw [if_neg hp, segView_aside.markStreams]
    unfold told
    rw [segView_linkEvent, htracked]
  split
  · exact absurd ‹_› hp
  next hnone => cases hnone
  · exact hmarked

/-! ## A segment takes a state (R177) -/

/-- The port of a segment is no BB port (Table 0-4). -/
theorem portKind_segment (g : Nat) : portKind (16 + g) ≠ .bb := by
  intro h
  unfold portKind at h
  split_ifs at h
  · omega
  · split at h <;> cases h

theorem portDown_segs (s : State) (g f r : Nat) :
    (linkRec (portDown s (16 + g) f r) (16 + g)).up = false ∧ (∀ j, segOf (portDown s (16 + g) f r) j = segOf s j)
    ∧ (portDown s (16 + g) f r).mono = s.mono ∧ portsHeld (portDown s (16 + g) f r) = portsHeld s := by
  cases hu : (linkRec s (16 + g)).up with
  | false =>
    have hstay : portDown s (16 + g) f r = s := if_pos (by simp [hu])
    rw [hstay]
    exact ⟨hu, fun _ => rfl, rfl, rfl⟩
  | true =>
    obtain ⟨hlink, hsegs, hmono, hheld⟩ := fields_of_segView (portDown_view f r (portKind_segment g) hu)
    refine ⟨?_, hsegs, hmono, hheld⟩
    rw [hlink, linkRec_putLink_self]; rfl

theorem portUp_segs (s : State) (g f : Nat) :
    (∀ j, segOf (portUp s (16 + g) f none) j = segOf s j)
    ∧ (portUp s (16 + g) f none).mono = s.mono ∧ portsHeld (portUp s (16 + g) f none) = portsHeld s := by
  cases hh : portsHeld s with
  | true =>
    rw [portUp_held _ f none hh]
    exact ⟨fun _ => rfl, rfl, hh⟩
  | false =>
    obtain ⟨-, hsegs, hmono, hheld⟩ := fields_of_segView (portUp_view f (portKind_segment g) hh)
    exact ⟨hsegs, hmono, hheld.trans hh⟩

/-- A segment takes a state: its own changes and no other segment's; time stays, and whether ports are held down. -/
structure Entered (s t : State) (g : Nat) (st : SegState) : Prop where
  self : segOf t g = { segOf s g with state := st }
  others : ∀ j, j ≠ g → segOf t j = segOf s j
  mono : t.mono = s.mono
  held : portsHeld t = portsHeld s

theorem segEnter_enters (s : State) (g : Nat) (st : SegState) : Entered s (segEnter s g st) g st := by
  have hput : Entered s (putSeg s g { segOf s g with state := st }) g st :=
    ⟨segOf_putSeg_self .., fun j hj => segOf_putSeg_other s _ hj, rfl, rfl⟩
  have hfrom : ∀ t, (∀ j, segOf t j = segOf (putSeg s g { segOf s g with state := st }) j) → t.mono = s.mono →
      portsHeld t = portsHeld s → Entered s t g st := fun t hsegs hmono hheld =>
    ⟨(hsegs g).trans hput.self, fun j hj => (hsegs j).trans (hput.others j hj), hmono, hheld⟩
  unfold segEnter
  dsimp only
  split
  · split
    · obtain ⟨hsegs, hmono, hheld⟩ := portUp_segs (putSeg s g { segOf s g with state := st }) g 0
      exact hfrom _ hsegs hmono hheld
    · exact hput
  · obtain ⟨-, hsegs, hmono, hheld⟩ := portDown_segs (putSeg s g { segOf s g with state := st }) g 0 0
    exact hfrom _ hsegs hmono hheld

/-- Outside Normal the port of a segment is not link up (R177). -/
theorem segEnter_linkDown (s : State) (g : Nat) {st : SegState} (h : st ≠ .normal) :
    (linkRec (segEnter s g st) (16 + g)).up = false := by
  unfold segEnter
  dsimp only
  rw [if_neg h]
  exact (portDown_segs _ g 0 0).1

/-! ## SEG_CONFIG (R174) -/

/-- SEG_CONFIG with records that apply. -/
theorem segConfig_sets {h : Hcp} {s u : State} {recs : List Param}
    (ha : accepts { opcode := 0x0602, classC := true, owner := true } h s = true)
    (hr : applyChecked segRec 0 s recs = .ok u) :
    exec (.segConfig h recs) s = .next (respond u h 0x0602 .ok 0 []) := by
  refine congrArg Host.Outcome.next ((runHcp_accepted _ ha).trans ?_)
  simp only [hr, conclude_okay]

theorem segRec_segment (s : State) {r : Param} (hk : portKind r.port = .sg) : segRec s r = segField s r r.port := by
  have hone : r.port ≠ 255 := fun h => by rw [h] at hk; exact absurd hk (by decide)
  unfold segRec
  rw [if_neg hone, if_pos hk]

theorem segRec_busy {s : State} {r : Param} (hk : portKind r.port = .sg) (hn : (segOf s (r.port - 16)).state = .normal) :
    segRec s r = .error (.busy, 0) := by
  rw [segRec_segment s hk]
  exact if_pos hn

theorem segRec_nodeCount {s : State} {r : Param} {v : Nat} (hk : portKind r.port = .sg)
    (hn : (segOf s (r.port - 16)).state ≠ .normal) (hkey : r.key = 1) (hv : recNat r 2 8 = some v) :
    segRec s r = .ok (putSeg s (r.port - 16) { segOf s (r.port - 16) with nodeCount := v }) := by
  rw [segRec_segment s hk]
  unfold segField
  dsimp only
  rw [if_neg hn, hkey]
  simp only [hv, orBad]

/-! ## SEG_STATE (R177) -/

theorem segWait_self (s : State) (g : Nat) (w : SegPending) :
    segOf (segWait s g w) g = { segOf s g with pending := (segOf s g).pending ++ [w] } := segOf_putSeg_self ..

theorem segWait_other (s : State) {g j : Nat} (w : SegPending) (h : j ≠ g) : segOf (segWait s g w) j = segOf s j :=
  segOf_putSeg_other s _ h

/-- What the tests of SEG_STATE leave to do. -/
theorem segState_passes {h : Hcp} {s : State} {g : Nat} (ha : accepts { opcode := 0x0603, classC := true } h s = true) (hg : g < 64)
    (hr : hasRight s h.tenant 3 = true) (hp : hasPort s h.tenant (16 + g) = true) (st : SegState) :
    exec (.segState h g st) s = .next (conclude h 0x0603
      (if (segOf s g).state = st then okay s
        else if st = .sleep then .wait (segWait s g (.sleep s.mono h))
        else if (segOf s g).state = .sleep then .wait (segWait s g (.powerUp st h))
        else okay (segRetarget (segEnter s g st) g st))) := by
  refine congrArg Host.Outcome.next ((runHcp_accepted _ ha).trans (congrArg (conclude h 0x0603) ?_))
  rw [if_neg (Nat.not_le.2 hg), if_neg (by simp [hr, hp])]

theorem segRetarget_keeps (s : State) (g : Nat) (st : SegState) :
    (segOf (segRetarget s g st) g).state = (segOf s g).state
    ∧ ((segOf s g).pending = [] → (segOf (segRetarget s g st) g).pending = [])
    ∧ ∀ j, j ≠ g → segOf (segRetarget s g st) j = segOf s j := by
  unfold segRetarget
  rw [segOf_putSeg_self]
  exact ⟨rfl, fun h => by simp [h], fun j hj => segOf_putSeg_other s _ hj⟩

theorem segState_clause (h : Hcp) (s : State) (g : Nat) (st : SegState)
    (ha : accepts { opcode := 0x0603, classC := true } h s = true) (hg : g < 64)
    (hr : hasRight s h.tenant 3 = true) (hp : hasPort s h.tenant (16 + g) = true) :
    ((segOf s g).state = st → exec (.segState h g st) s = .next (respond s h 0x0603 .ok 0 []))
      ∧ ((segOf s g).state ≠ st → st ≠ .sleep → (segOf s g).state ≠ .sleep → ∃ t, exec (.segState h g st) s
          = .next (respond t h 0x0603 .ok 0 []) ∧ (segOf t g).state = st ∧ ((segOf s g).pending = [] → (segOf t g).pending = [])
          ∧ ∀ j, j ≠ g → segOf t j = segOf s j)
      ∧ ((segOf s g).state ≠ .sleep → exec (.segState h g .sleep) s = .next (segWait s g (.sleep s.mono h)))
      ∧ ((segOf s g).state = .sleep → st ≠ .sleep → exec (.segState h g st) s = .next (segWait s g (.powerUp st h))) := by
  have hpass := segState_passes ha hg hr hp
  refine ⟨fun hsame => ?_, fun hne hst hawake => ?_, fun hawake => ?_, fun hsleep hst => ?_⟩
  · rw [hpass, if_pos hsame, conclude_okay]
  · refine ⟨segRetarget (segEnter s g st) g st, ?_, ?_⟩
    · rw [hpass, if_neg hne, if_neg hst, if_neg hawake, conclude_okay]
    · have hin := segEnter_enters s g st
      obtain ⟨hstate, hpending, hothers⟩ := segRetarget_keeps (segEnter s g st) g st
      rw [hin.self] at hstate hpending
      exact ⟨hstate, hpending, fun j hj => (hothers j hj).trans (hin.others j hj)⟩
  · rw [hpass, if_neg hawake, if_pos rfl, conclude_wait]
  · rw [hpass, if_neg (by rw [hsleep]; exact hst.symm), if_neg hst, if_pos hsleep, conclude_wait]

/-! ## Sleep (Table 7-4) -/

theorem untilMono_segs (s : State) (m j : Nat) : segOf (untilMono s m) j = segOf s j := by simp [segOf]

theorem segSleepSilence_clause (s : State) (g i : Nat) (h : Hcp) (r : List (Nat × Hcp)) (hs : segSleeps s g = (i, h) :: r)
    (hm : s.mono ≤ i + 100000000) (hb : segBursts s g = false) : ∃ t,
      exec (.segSleepSilence g) s
        = .next (((i, h) :: r).foldl (fun u (e : Nat × Hcp) => respond u e.2 0x0603 .ok 0 []) t)
        ∧ (segOf t g).state = .sleep ∧ t.mono = max s.mono (i + 1000000)
        ∧ (segOf t g).pending = segOthers s g ∧ (linkRec t (16 + g)).up = false ∧ ∀ j, j ≠ g → segOf t j = segOf s j := by
  let u := untilMono s (i + 1000000)
  let w := putSeg u g { segOf u g with pending := segOthers u g }
  have hsegs : ∀ j, segOf u j = segOf s j := untilMono_segs s _
  have hin := segEnter_enters w g .sleep
  have hself : segOf w g = { segOf u g with pending := segOthers u g } := segOf_putSeg_self ..
  refine ⟨segEnter w g .sleep, congrArg Host.Outcome.next ?_, by rw [hin.self], hin.mono.trans (untilMono_mono ..), ?_,
    segEnter_linkDown w g (by decide), fun j hj => ?_⟩
  · have hgo : ¬ (i + 100000000 < s.mono ∨ segBursts s g = true) := by simp [hb]; omega
    unfold segSilence
    simp only [hs, if_neg hgo]
    rfl
  · rw [hin.self, hself]
    simp only [segOthers, hsegs]
  · exact (hin.others j hj).trans ((segOf_putSeg_other u _ hj).trans (hsegs j))

theorem segSleep_none {s : State} {g : Nat} (h : segSleeps s g = []) :
    exec (.segSleepSilence g) s = .next s ∧ exec (.segSleepTimeout g) s = .next s := by
  refine ⟨congrArg Host.Outcome.next ?_, congrArg Host.Outcome.next ?_⟩
  · unfold segSilence
    rw [h]
  · unfold segSleepLate
    rw [h]

/-- What waits on a segment whose oldest Sleep command has been answered: the Sleep commands that are left, and the rest. -/
theorem sleeps_of_pending {s t : State} {g : Nat} {r : List (Nat × Hcp)}
    (h : (segOf t g).pending = r.map (fun e => SegPending.sleep e.1 e.2) ++ segOthers s g) :
    segSleeps t g = r ∧ segOthers t g = segOthers s g := by
  have hno : ∀ w ∈ segOthers s g, ∀ i c, w ≠ .sleep i c := fun w hw i c he => by
    subst he
    simp [segOthers] at hw
  constructor
  · unfold segSleeps
    rw [h, List.filterMap_append, List.filterMap_map]
    have hrest : (segOthers s g).filterMap (fun w => match w with
        | .sleep since c => some (since, c)
        | _ => none) = [] := List.filterMap_eq_nil_iff.2 fun w hw => by
      cases w with
      | sleep i c => exact absurd rfl (hno _ hw i c)
      | _ => rfl
    refine (congrArg (_ ++ ·) hrest).trans ((List.append_nil _).trans ?_)
    exact List.filterMap_some
  · unfold segOthers at hno ⊢
    rw [h, List.filter_append]
    refine Eq.trans (congrArg (· ++ _) (List.filter_eq_nil_iff.2 fun w hw => ?_)) ?_
    · obtain ⟨e, -, rfl⟩ := List.mem_map.1 hw
      exact Bool.false_ne_true
    · exact List.filter_eq_self.2 fun w hw => (List.mem_filter.1 hw).2

theorem segSleepTimeout_clause (s : State) (g i : Nat) (h : Hcp) (r : List (Nat × Hcp)) (hs : segSleeps s g = (i, h) :: r) :
    ∃ t, exec (.segSleepTimeout g) s
      = .next (respond t h 0x0603 .busy 0 []) ∧ (segOf t g).state = (segOf s g).state ∧ segSleeps t g = r
        ∧ segOthers t g = segOthers s g ∧ t.mono = max s.mono (i + 100000000) ∧ ∀ j, j ≠ g → segOf t j = segOf s j := by
  let u := untilMono s (i + 100000000)
  let x : Segment := { segOf u g with pending := r.map (fun e => SegPending.sleep e.1 e.2) ++ segOthers u g }
  have hsegs : ∀ j, segOf u j = segOf s j := untilMono_segs s _
  have hself : segOf (putSeg u g x) g = x := segOf_putSeg_self ..
  have hrest : segOthers u g = segOthers s g := by simp only [segOthers, hsegs]
  obtain ⟨hsleeps, hothers⟩ := sleeps_of_pending (t := putSeg u g x) (s := u) (congrArg Segment.pending hself)
  refine ⟨putSeg u g x, congrArg Host.Outcome.next ?_, ?_, hsleeps, hothers.trans hrest, untilMono_mono .., fun j hj => ?_⟩
  · unfold segSleepLate
    simp only [hs]
    rfl
  · have hstate : x.state = (segOf u g).state := rfl
    rw [hself, hstate, hsegs]
  · exact (segOf_putSeg_other u x hj).trans (hsegs j)

/-! ## The PHY powers up (R177) -/

/-- A sleeping segment whose PHY has powered up: it is in Standby, and nothing waits on it until what waited goes on. -/
def poweredUp (s : State) (g : Nat) : State := segEnter (putSeg s g { segOf s g with pending := [] }) g .standby

theorem poweredUp_segs (s : State) (g : Nat) :
    segOf (poweredUp s g) g = { segOf s g with state := .standby, pending := [] }
    ∧ (∀ j, j ≠ g → segOf (poweredUp s g) j = segOf s j) ∧ (poweredUp s g).mono = s.mono
    ∧ portsHeld (poweredUp s g) = portsHeld s := by
  have hin := segEnter_enters (putSeg s g { segOf s g with pending := [] }) g .standby
  refine ⟨hin.self.trans ?_, fun j hj => (hin.others j hj).trans (segOf_putSeg_other s _ hj), hin.mono, hin.held⟩
  rw [segOf_putSeg_self]

theorem segPowerUp_one {s : State} {g : Nat} {w : SegPending} (hs : (segOf s g).state = .sleep)
    (hw : (segOf s g).pending = [w]) : segPowerUp g s = segResume g (poweredUp s g) w := by
  unfold segPowerUp poweredUp
  simp only [hs, hw]
  rfl

theorem segPhyPowerUp_state {s : State} {g : Nat} {st : SegState} {h : Hcp} (hs : (segOf s g).state = .sleep)
    (hw : (segOf s g).pending = [.powerUp st h]) : ∃ t, exec (.segPhyPowerUp g) s
      = .next (respond t h 0x0603 .ok 0 []) ∧ segOf t g = { segOf s g with
          state := st
          pending := [] }
        ∧ ∀ j, j ≠ g → segOf t j = segOf s j := by
  have hin := segEnter_enters (poweredUp s g) g st
  obtain ⟨hself, hothers, -, -⟩ := poweredUp_segs s g
  refine ⟨segEnter (poweredUp s g) g st, congrArg Host.Outcome.next (segPowerUp_one hs hw), ?_,
    fun j hj => (hin.others j hj).trans (hothers j hj)⟩
  rw [hin.self, hself]

theorem segPhyPowerUp_wake {s : State} {g : Nat} {h : Hcp} (hs : (segOf s g).state = .sleep)
    (hw : (segOf s g).pending = [.powerUpWake h]) (hp : portsHeld s = false) : ∃ t,
      exec (.segPhyPowerUp g) s = .next t
      ∧ segOf t g = { segOf s g with
          state := .standby
          pending := [.burst s.mono .standby h] }
      ∧ t.wire.getLast? = some (.wakeBurst g) ∧ ∀ j, j ≠ g → segOf t j = segOf s j := by
  obtain ⟨hself, hothers, hmono, hheld⟩ := poweredUp_segs s g
  have hburst : segPowerUp g s = segBurst (poweredUp s g) g .standby h := by
    rw [segPowerUp_one hs hw]
    unfold segResume
    dsimp only
    rw [hheld, hp, if_neg Bool.false_ne_true, hself]
  refine ⟨segBurst (poweredUp s g) g .standby h, congrArg Host.Outcome.next hburst, ?_, List.getLast?_concat,
    fun j hj => (segWait_other _ _ hj).trans (hothers j hj)⟩
  refine (segWait_self ..).trans ?_
  rw [hself, hmono]
  rfl

/-! ## Wake bursts (R179) -/

/-- What the tests of SEG_WAKE leave to do. -/
theorem segWake_passes {h : Hcp} {s : State} {g : Nat} (ha : accepts { opcode := 0x0604 } h s = true) (hg : g < 64)
    (hr : hasRight s h.tenant 3 = true) (hp : hasPort s h.tenant (16 + g) = true) :
    exec (.segWake h g) s = .next (conclude h 0x0604
      (if portsHeld s then fails s .refused 0
        else if (segOf s g).state = .sleep then .wait (segWait s g (.powerUpWake h))
        else .wait (segBurst s g (segOf s g).state h))) := by
  refine congrArg Host.Outcome.next ((runHcp_accepted _ ha).trans (congrArg (conclude h 0x0604) ?_))
  rw [if_neg (Nat.not_le.2 hg), if_neg (by simp [hr, hp])]

theorem segWake_clause {h : Hcp} {s : State} {g : Nat} (ha : accepts { opcode := 0x0604 } h s = true) (hg : g < 64)
    (hr : hasRight s h.tenant 3 = true) (hp : hasPort s h.tenant (16 + g) = true) :
    (portsHeld s = false → (segOf s g).state ≠ .sleep →
        exec (.segWake h g) s = .next (emit (segWait s g (.burst s.mono (segOf s g).state h)) (.wakeBurst g)))
      ∧ (portsHeld s = false → (segOf s g).state = .sleep → exec (.segWake h g) s = .next (segWait s g (.powerUpWake h)))
      ∧ (portsHeld s = true → exec (.segWake h g) s = .next (respond s h 0x0604 .refused 0 [])) := by
  rw [segWake_passes ha hg hr hp]
  refine ⟨fun hh hs => ?_, fun hh hs => ?_, fun hh => ?_⟩
  · rw [hh, if_neg Bool.false_ne_true, if_neg hs, conclude_wait]; rfl
  · rw [hh, if_neg Bool.false_ne_true, if_pos hs, conclude_wait]
  · rw [hh, if_pos rfl, conclude_fails]

theorem segWakeBurstEnd_clause (s : State) (g i : Nat) (a : SegState) (h : Hcp) (hw : (segOf s g).pending = [.burst i a h]) :
    ∃ t, exec (.segWakeBurstEnd g) s
      = .next (respond t h 0x0604 .ok 0 []) ∧ t.mono = max s.mono (i + 1000000) ∧ segOf t g = { segOf s g with
          state := a
          pending := [] }
        ∧ ∀ j, j ≠ g → segOf t j = segOf s j := by
  let u := untilMono s (i + 1000000)
  have hsegs : ∀ j, segOf u j = segOf s j := untilMono_segs s _
  have hin := segEnter_enters (putSeg u g { segOf s g with pending := [] }) g a
  refine ⟨segEnter (putSeg u g { segOf s g with pending := [] }) g a, congrArg Host.Outcome.next ?_,
    hin.mono.trans (untilMono_mono ..), ?_, fun j hj => ?_⟩
  · have hnone : (segOf u g).pending.erase (.burst i a h) = [] := by rw [hsegs, hw, List.erase_cons_head]
    have hrest : ({ segOf u g with pending := (segOf u g).pending.erase (.burst i a h) } : Segment)
      = { segOf s g with pending := [] } := by rw [hnone, hsegs]
    rw [← hrest]
    unfold segBurstEnd
    rw [hw]
    rfl
  · rw [hin.self, segOf_putSeg_self]
  · exact (hin.others j hj).trans ((segOf_putSeg_other u _ hj).trans (hsegs j))

/-! ## The wake detector (R178, Table 7-4) -/

theorem segActivity_clause {s : State} {g : Nat} {p : SegPulse} (hs : (segOf s g).state = .standby) (hw : wakeRule p = true) :
    ((segOf s g).autoWake = false → exec (.segActivity g p) s = .next (event s 0 9 (leBytes 1 0 ++ leBytes 1 (16 + g))))
      ∧ ((segOf s g).autoWake = true → ∃ t, exec (.segActivity g p) s = .next t
          ∧ segOf t g = { segOf s g with state := .normal } ∧ ∀ j, j ≠ g → segOf t j = segOf s j) := by
  have hevent : segActive g p s = if (segOf s g).autoWake then segEnter (segEvent s g 0) g .normal else segEvent s g 0 := by
    unfold segActive
    rw [if_pos ⟨hs, hw⟩]
    dsimp only
    rw [segOf_segEvent]
  refine ⟨fun ha => congrArg Host.Outcome.next ?_, fun ha => ?_⟩
  · rw [hevent, ha]; rfl
  · have hin := segEnter_enters (segEvent s g 0) g .normal
    refine ⟨segEnter (segEvent s g 0) g .normal, congrArg Host.Outcome.next ?_, ?_, fun j hj => ?_⟩
    · rw [hevent, ha, if_pos rfl]
    · rw [hin.self, segOf_segEvent]
    · rw [hin.others j hj, segOf_segEvent]

theorem segActivity_nothing {s : State} {g : Nat} {p : SegPulse} (h : (segOf s g).state ≠ .standby ∨ wakeRule p = false) :
    exec (.segActivity g p) s = .next s := by
  refine congrArg Host.Outcome.next (if_neg fun hc => ?_)
  obtain ⟨hs, hw⟩ := hc
  rcases h with h | h
  · exact h hs
  · rw [h] at hw; cases hw

/-- Settles O36: each command and event by its own lemma, a state taken by `segEnter_enters`: a port that goes down or comes up
leaves the segments (`portDown_view`, `portUp_view`). -/
theorem segmentsTakeTheirStates : Obligations.SegmentsTakeTheirStates := by
  unfold Obligations.SegmentsTakeTheirStates
  exact ⟨fun h s recs u => segConfig_sets, fun s r hk => ⟨segRec_busy hk, fun v => segRec_nodeCount hk⟩, segState_clause,
    fun s g w => ⟨segWait_self s g w, fun j => segWait_other s w⟩, segSleepSilence_clause, fun s g => segSleep_none,
    segSleepTimeout_clause, fun s g st h => segPhyPowerUp_state, fun s g h => segPhyPowerUp_wake,
    fun h s g => segWake_clause, segWakeBurstEnd_clause, fun s g p => segActivity_clause, fun s g p => segActivity_nothing⟩

end Sys2Proof.Proofs
end

section
/-! SUPPORT. Inauguration: what its frames leave of the state, what CSS leaves of the INE, and what an inauguration without a merge
keeps as it runs (R198 to R212). -/

namespace Sys2Proof.Proofs

open Sys2Proof Sys2Proof.Machine

/-! ## Frames that this node sends -/

/-- Frames have left, and nothing else: the record of what is sent and the port counters have changed. -/
def SendsOnly (s t : State) : Prop :=
  ∃ c w, t = { s with ports := { s.ports with counters := c }, wire := w }

theorem SendsOnly.refl (s : State) : SendsOnly s s := ⟨_, _, rfl⟩

theorem SendsOnly.trans {s t u : State} (h : SendsOnly s t) (k : SendsOnly t u) : SendsOnly s u := by
  obtain ⟨c, w, rfl⟩ := h
  obtain ⟨d, x, rfl⟩ := k
  exact ⟨d, x, rfl⟩

theorem SendsOnly.foldl {α : Type} {f : State → α → State} (h : ∀ s a, SendsOnly s (f s a)) (l : List α) (s : State) :
    SendsOnly s (l.foldl f s) := by
  induction l generalizing s with
  | nil => exact .refl s
  | cons a r ih => exact (h s a).trans (ih _)

/-- A view that neither the record of what is sent nor the port counters enter stays. -/
theorem SendsOnly.keeps {β : Type} {s t : State} (h : SendsOnly s t) (v : State → β)
    (hv : ∀ u c w, v { u with ports := { u.ports with counters := c }, wire := w } = v u) : v t = v s := by
  obtain ⟨c, w, rfl⟩ := h
  exact hv s c w

theorem SendsOnly.ine {s t : State} (h : SendsOnly s t) : t.ine = s.ine := h.keeps State.ine fun _ _ _ => rfl

theorem sendsOnly_emit (s : State) (x : Sent) : SendsOnly s (emit s x) := ⟨_, _, rfl⟩

theorem sendsOnly_countSent (s : State) (p n : Nat) (m b : Bool) : SendsOnly s (countSent s p n m b) := by
  unfold countSent
  dsimp only
  split
  · exact ⟨_, _, rfl⟩
  · split <;> exact ⟨_, _, rfl⟩

theorem sendsOnly_emitEach (s : State) (l : List Nat) (mk : Nat → Sent) : SendsOnly s (emitEach s l mk) :=
  .foldl (fun _ _ => (sendsOnly_countSent ..).trans (sendsOnly_emit ..)) l s

theorem sendsOnly_emitVia (s : State) (l : List Nat) (x : Sent) : SendsOnly s (emitVia s l x) := by
  unfold emitVia
  split
  · exact .refl s
  · exact (SendsOnly.foldl (fun _ _ => sendsOnly_countSent ..) l s).trans (sendsOnly_emit ..)

theorem sendsOnly_inaugSend (s : State) (mk : InaugHdr → Sent) : SendsOnly s (inaugSend s mk) := by
  unfold inaugSend
  split
  · exact .foldl (fun _ _ => sendsOnly_emitVia ..) _ s
  · exact .refl s

theorem sendsOnly_inaugSendEach (s : State) (mk : Nat → InaugHdr → Sent) : SendsOnly s (inaugSendEach s mk) := by
  unfold inaugSendEach
  split
  · exact sendsOnly_emitEach ..
  · exact .refl s

theorem sendsOnly_sendTable (s : State) (ports : List Nat) (l : List NodeRec) : SendsOnly s (sendTable s ports l) := by
  unfold sendTable
  dsimp only
  split
  · exact .foldl (fun _ _ => sendsOnly_emitEach ..) _ s
  · exact .refl s

/-! ## Alarms of the INE -/

/-- An alarm of the INE changes its register, and the vectors of the host interface. -/
theorem setAlarm_ine_form (s : State) (b : Nat) : setAlarm s .ine b
    = { s with ine := { s.ine with alarm := setBit s.ine.alarm b true }, host := (setAlarm s .ine b).host } := by
  unfold setAlarm
  dsimp only
  split
  · rw [msixRaise_form]; rfl
  · rfl

theorem untilMono_ine (s : State) (m : Nat) : (untilMono s m).ine = s.ine := by simp

/-! ## CSS leaves the INE (R91) -/

/-- The INE, the TAUs and the time bases. -/
def ineView (s : State) : Ine × Taus × Tms := (s.ine, s.tau, s.tms)

theorem ineView_setAlarm_css (s : State) (b : Nat) : ineView (setAlarm s .css b) = ineView s := by
  rw [setAlarm_css_form]; rfl

theorem ineView_report (s : State) (c : Nat) (d : Bytes) : ineView (report s c d) = ineView s := by
  have hview : ineView { report s c d with evr := s.evr, host := s.host } = ineView s :=
    congrArg ineView (report_recorderOnly s c d)
  exact hview

theorem ineView_cssHalt (s : State) : ineView (cssHalt s) = ineView s := by
  unfold cssHalt
  dsimp only
  split <;> rfl

theorem ineView_cssStopped (s : State) (reason : Nat) : ineView (cssStopped s reason) = ineView s := by
  unfold cssStopped
  dsimp only
  rw [ineView_setAlarm_css]
  split <;> exact ineView_cssHalt s

theorem ineView_ownWindows (s : State) : ineView (ownWindows s) = ineView s := by
  refine foldl_keeps ineView _ (fun s e => ?_) _ s
  split
  · rw [ineView_report]; rfl
  · rfl

theorem ineView_instantiateImage {s t : State} {im : SchedImage} (h : instantiateImage s im = some t) : ineView t = ineView s := by
  unfold instantiateImage at h
  dsimp only at h
  split at h
  · cases h
  · obtain ⟨x, -, rfl⟩ := Option.map_eq_some_iff.1 h
    obtain ⟨alarm, host, hguard⟩ := guardUpdate_form { unpoisonWhere s 5 (fun _ => true) with css := { s.css with
      image := some im, fits := true, slots := x.slots, windows := x.windows, gates := x.gates
      skipped := x.skipped, capable := x.capable, guardCfg := im.guard } }
    rw [hguard]; rfl

theorem ineView_reinstantiate (s : State) : ineView (reinstantiate s) = ineView s := by
  unfold reinstantiate
  split
  · rfl
  · split
    next t h =>
      have hages : ineView (agesKept s t) = ineView t := rfl
      rw [ineView_ownWindows, hages, ineView_instantiateImage h]
    · rw [ineView_setAlarm_css]; rfl

theorem ineView_selfTimedStart (s : State) (t : Nat) (leader : UnitId) : ineView (selfTimedStart s t leader) = ineView s := by
  unfold selfTimedStart
  dsimp only
  split
  · split <;> exact ineView_cssHalt s
  · rfl

end Sys2Proof.Proofs
end

section
/-! SUPPORT. The INAUG and ALIAS commands, and the obligation about them (O40). -/

namespace Sys2Proof.Proofs

open Sys2Proof Sys2Proof.Machine

/-! ## INAUG_LEAD renumbers (R200, R207) -/

/-- The declared cab, and which inauguration runs: its number, and whether it is a merge. -/
def leadView (s : State) : Nat × Word × Bool := (s.ine.lead, s.ine.run.seq, s.ine.run.merge)

theorem leadView_of_ine {s t : State} (h : t.ine = s.ine) : leadView t = leadView s := by
  unfold leadView
  rw [h]

theorem SendsOnly.leadView {s t : State} (h : SendsOnly s t) : leadView t = Proofs.leadView s := leadView_of_ine h.ine

theorem leadView_of_ineView {s t : State} (h : ineView t = ineView s) : leadView t = leadView s :=
  leadView_of_ine (congrArg Prod.fst h)

theorem merge_of_leadView {s t : State} (h : leadView t = leadView s) : t.ine.run.merge = s.ine.run.merge :=
  congrArg (fun v => v.2.2) h

theorem leadView_setAlarm (s : State) (b : Nat) : leadView (setAlarm s .ine b) = leadView s := by simp [leadView]

theorem leadView_setAlarmIf (s : State) (c : Bool) (b : Nat) : leadView (setAlarmIf s c .ine b) = leadView s := by
  simp [leadView]

theorem leadView_takeNumbers (s : State) (l : List NodeRec) : leadView (takeNumbers s l) = leadView s := by
  unfold takeNumbers
  split <;> rfl

theorem leadView_putBank (s : State) (b : Nat) (t : Table (Option AliasEntry)) : leadView (putBank s b t) = leadView s := by
  unfold putBank
  split <;> rfl

theorem leadView_buildAlias (s : State) (l : List NodeRec) : leadView (buildAlias s l) = leadView s := by
  unfold buildAlias
  dsimp only
  rw [leadView_setAlarmIf, leadView_putBank]
  rfl

theorem leadView_renumber (s : State) : leadView (renumber s) = leadView s := by
  have hbuilt : ∀ l, leadView (buildAlias (takeNumbers s l) l) = leadView s := fun l => by
    rw [leadView_buildAlias, leadView_takeNumbers]
  unfold renumber
  dsimp only
  split
  · exact hbuilt _
  · rw [leadView_of_ineView (ineView_reinstantiate _), hbuilt]

theorem leadView_sendAck (s : State) (sub status : Nat) : leadView (sendAck s sub status) = leadView s :=
  (sendsOnly_inaugSend _ _).leadView

/-- Without a merge the bank does not switch in the step of INSTALL. -/
theorem leadView_installRun {s : State} (t : Nat) (topo : Word) (h : s.ine.run.merge = false) :
    leadView (installRun s t topo) = leadView s := by
  unfold installRun
  extract_lets kept _ _ installing started acked b
  have hkept : leadView kept = leadView s := by
    unfold kept
    split
    · exact leadView_renumber s
    · rfl
  have hstarted : leadView started = leadView installing := by
    unfold started
    split
    · rfl
    · exact leadView_of_ineView (ineView_selfTimedStart ..)
  have hacked : leadView acked = leadView s := by
    unfold acked
    rw [leadView_sendAck, hstarted, ← hkept]
    rfl
  rw [if_neg (by simp [merge_of_leadView hacked, h])]
  exact hacked

theorem leadView_sendInstall {s : State} (h : s.ine.run.merge = false) : leadView (sendInstall s) = leadView s := by
  have hsent := fun mk => (sendsOnly_inaugSend s mk).leadView
  exact (leadView_installRun _ _ ((merge_of_leadView (hsent _)).trans h)).trans (hsent _)

theorem leadView_mergeSettle {s : State} (h : s.ine.run.merge = false) : leadView (mergeSettle s) = leadView s := by
  unfold mergeSettle
  split
  · have hacked : leadView (sendAck (renumber (putIne s .renumbering)) 0x45 0) = leadView s := by
      rw [leadView_sendAck, leadView_renumber]; rfl
    unfold afterRenumber
    split
    · rw [leadView_sendInstall ((merge_of_leadView hacked).trans h), hacked]
    · exact hacked
  · rfl

theorem leadView_stopped5 {s : State} (h : s.ine.run.merge = false) : leadView (stopped5 s) = leadView s := by
  unfold stopped5
  rw [if_neg (by simp [h])]
  exact leadView_mergeSettle (s := putIne s .merging) h

theorem leadView_proceedRun {s : State} (h : s.ine.run.merge = false) : leadView (proceedRun s) = leadView s := by
  unfold proceedRun
  extract_lets stopping told
  have htold : leadView told = leadView s := (sendsOnly_inaugSendEach ..).leadView
  have hmerge : told.ine.run.merge = false := (merge_of_leadView htold).trans h
  have hstopped : leadView (cssStopped told 5) = leadView told := leadView_of_ineView (ineView_cssStopped told 5)
  split
  any_goals exact htold
  · rw [leadView_stopped5 hmerge, htold]
  · rw [leadView_stopped5 ((merge_of_leadView hstopped).trans hmerge), hstopped, htold]

theorem leadView_topologyAgreed {s : State} (h : s.ine.run.merge = false) : leadView (topologyAgreed s) = leadView s := by
  have hsent := (sendsOnly_inaugSend s .proceed).leadView
  unfold topologyAgreed
  dsimp only
  split
  · split
    · exact leadView_sendInstall h
    · rw [leadView_proceedRun ((merge_of_leadView hsent).trans h), hsent]
  · rfl

theorem leadView_sendDigest (s : State) : leadView (sendDigest s) = leadView s := by
  unfold sendDigest
  dsimp only
  exact (sendsOnly_inaugSendEach ..).leadView

/-! ### The table of the half -/

/-- Of several declared cabs the one that stays is one of them. -/
theorem lead_of_mem_oneLead {l : List NodeRec} {n : NodeRec} (hn : n ∈ oneLead l) (hl : n.lead = true) :
    ∃ m ∈ l, m.unit = n.unit ∧ m.lead = true := by
  unfold oneLead at hn
  split at hn
  · obtain ⟨m, hm, rfl⟩ := List.mem_map.1 hn
    exact ⟨m, hm, rfl, (Bool.and_eq_true_iff.1 hl).1⟩
  · exact ⟨n, hn, rfl, hl⟩

/-- The own declaration is cleared only for one of another node (R200). -/
theorem leadView_proposeSingle {s : State}
    (h : s.ine.lead = 0 ∨ ∀ n ∈ s.ine.run.own, n.lead = true → n.unit = nodeUnit s) :
    leadView (proposeSingle s) = leadView s := by
  unfold proposeSingle
  extract_lets l told lost conflict _ cleared keeps joint leader
  have hlost : lost = false := by
    rcases h with h | h
    · simp [lost, h]
    · simp only [lost, Bool.and_eq_false_iff, Bool.not_eq_false']
      by_cases hany : l.any NodeRec.lead = true
      · obtain ⟨n, hn, hlead⟩ := List.any_eq_true.1 hany
        obtain ⟨m, hm, hunit, hmlead⟩ := lead_of_mem_oneLead hn hlead
        refine .inl (.inr (List.any_eq_true.2 ⟨n, hn, ?_⟩))
        simp only [told, hlead, Bool.true_and, beq_iff_eq, ← hunit]
        exact h m hm hmlead
      · exact .inr (Bool.eq_false_iff.2 hany)
  have hcleared : leadView cleared = leadView s := by
    unfold cleared
    rw [leadView_setAlarmIf, hlost]
    rfl
  rw [leadView_sendDigest, ← hcleared]
  rfl

/-- The records of the other nodes depend on the numbered table and the leader alone. -/
theorem mem_ownTable_congr {s t : State} {n : NodeRec} (hnodes : t.ine.nodes = s.ine.nodes) (hs : s.ine.nodes ≠ [])
    (hunit : nodeUnit t = nodeUnit s) (hleader : t.tms = s.tms) (hn : n ∈ ownTable t) (hu : n.unit ≠ nodeUnit s) :
    n ∈ ownTable s := by
  unfold ownTable at hn ⊢
  rw [if_neg (by simpa using hs)]
  rw [hnodes, if_neg (by simpa using hs), hunit, hleader] at hn
  obtain ⟨m, hm, rfl⟩ := List.mem_map.1 hn
  refine List.mem_map.2 ⟨m, hm, ?_⟩
  by_cases hself : (m.unit == nodeUnit s) = true
  · rw [if_pos hself] at hu
    exact absurd hunit hu
  · rw [if_neg hself, if_neg hself]

/-- An inauguration without a merge: the next one, with the cab as declared. -/
theorem leadView_beginSingle {s : State} {l : List NodeRec}
    (h : s.ine.lead = 0 ∨ ∀ n ∈ l, n.lead = true → n.unit = nodeUnit s) :
    leadView (beginSingle s l) = (s.ine.lead, s.ine.run.seq + 1, false) := by
  unfold beginSingle afterDigest
  extract_lets begun _ owning
  have howning : leadView owning = (s.ine.lead, s.ine.run.seq + 1, false) := leadView_setAlarm _ _
  have hsent := sendsOnly_sendTable owning (inaugPorts owning) l
  generalize sendTable owning (inaugPorts owning) l = sent at hsent ⊢
  have hkept : leadView sent = (s.ine.lead, s.ine.run.seq + 1, false) := hsent.leadView.trans howning
  have hmerge : sent.ine.run.merge = false := congrArg (fun v => v.2.2) hkept
  have hproposed : leadView (propose sent) = leadView sent := by
    unfold propose
    dsimp only
    split
    · rfl
    · rw [if_neg (by simp [hmerge])]
      refine leadView_proposeSingle ?_
      have hlead : sent.ine.lead = s.ine.lead := congrArg Prod.fst hkept
      have hown : sent.ine.run.own = l := congrArg (fun i => i.run.own) hsent.ine
      have hunit : nodeUnit sent = nodeUnit s := by
        have hown : nodeUnit sent = nodeUnit owning := hsent.keeps nodeUnit fun _ _ _ => rfl
        rw [hown]
        simp [owning, begun, inaugBegin, nodeUnit, putRun]
      rw [hlead, hown, hunit]
      exact h
  rw [leadView_topologyAgreed ((merge_of_leadView hproposed).trans hmerge), hproposed, hkept]

/-! ## INAUG_CONFIG, INAUG_LEAD, INAUG_INHIBIT and INAUG_STATUS (R194, R200, R220) -/

theorem inaugConfig_sets {h : Hcp} {s : State} {recs : List Param} {fs : List FuncEntry} {d : Identity}
    (ha : accepts { opcode := 0x0701, classC := true, owner := true, features := [3, 4] } h s = true)
    (hr : applyRecs s identRec 0 s.ine.identNext recs = .ok d) (hn : fs.length ≤ 64) (hf : fs.all funcOk = true) :
    exec (.inaugConfig h recs fs) s = .next (respond { s with ine := { s.ine with
      identNext := if fs.isEmpty then d else { d with functions := fs } } } h 0x0701 .ok 0 []) := by
  refine congrArg Host.Outcome.next ((runHcp_accepted _ ha).trans ?_)
  simp only [hr]
  rw [if_neg (by simp only [hf, not_true, or_false]; omega), conclude_okay]

/-- Cab `c` of this node declared (R200). -/
def declaring (s : State) (c : Nat) : State := { s with ine := { s.ine with lead := c } }

section lead

variable {h : Hcp} {s : State} {c : Nat}
  (ha : accepts { opcode := 0x0702, classC := true, owner := true, features := [3, 4] } h s = true)
  (hi : inaugurating s = false) (hc : c = 0 ∨ c = s.ine.ident.cab ∨ c = s.ine.identNext.cab)
include ha hi hc

/-- What the tests of INAUG_LEAD leave to do. -/
theorem inaugLead_passes : exec (.inaugLead h c) s = .next (conclude h 0x0702
    (if c ≠ 0 ∧ ((ownTable s).any fun n => n.lead && n.unit != nodeUnit s) = true then
      okay (setAlarm (declaring s 0) .ine 8)
    else if s.ine.nodes.isEmpty || orientTable (ownTable (declaring s c)) (fun _ => true) (some true)
        == ownTable (declaring s c) then okay (declaring s c)
    else okay (beginSingle (declaring s c) (ownTable (declaring s c))))) := by
  have hcab : ¬ (c ≠ 0 ∧ c ≠ s.ine.ident.cab ∧ c ≠ s.ine.identNext.cab) := fun ⟨h0, hnow, hnext⟩ =>
    hc.elim h0 fun hc => hc.elim hnow hnext
  refine congrArg Host.Outcome.next ((runHcp_accepted _ ha).trans ?_)
  rw [hi, if_neg Bool.false_ne_true, if_neg hcab]
  rfl

theorem inaugLead_conflict (h0 : c ≠ 0) (hn : ∃ n ∈ ownTable s, n.unit ≠ nodeUnit s ∧ n.lead = true) :
    exec (.inaugLead h c) s
      = .next (respond (setAlarm (declaring s 0) .ine 8) h 0x0702 .ok 0 []) := by
  obtain ⟨n, hmem, hunit, hlead⟩ := hn
  rw [inaugLead_passes ha hi hc, if_pos ⟨h0, List.any_eq_true.2 ⟨n, hmem, by simp [hlead, hunit]⟩⟩, conclude_okay]

/-- A cab declared beside no other: the train is renumbered where its front end moves. -/
theorem inaugLead_declares {l : List NodeRec} (hl : l = ownTable (declaring s c))
    (hn : c = 0 ∨ ∀ n ∈ ownTable s, n.unit ≠ nodeUnit s → n.lead = false) :
    ((s.ine.nodes = [] ∨ orientTable l (fun _ => true) (some true) = l) →
      exec (.inaugLead h c) s = .next (respond (declaring s c) h 0x0702 .ok 0 []))
    ∧ (s.ine.nodes ≠ [] → orientTable l (fun _ => true) (some true) ≠ l → ∃ t,
        exec (.inaugLead h c) s = .next (respond t h 0x0702 .ok 0 []) ∧ t.ine.lead = c
          ∧ t.ine.run.seq = s.ine.run.seq + 1 ∧ t.ine.run.merge = false) := by
  have halone : ¬ (c ≠ 0 ∧ ((ownTable s).any fun n => n.lead && n.unit != nodeUnit s) = true) := by
    rintro ⟨h0, hany⟩
    obtain ⟨n, hmem, hother⟩ := List.any_eq_true.1 hany
    simp only [Bool.and_eq_true, bne_iff_ne, ne_eq] at hother
    have hlead := (hn.resolve_left h0) n hmem hother.2
    rw [hother.1] at hlead
    cases hlead
  rw [inaugLead_passes ha hi hc, if_neg halone, ← hl]
  refine ⟨fun hstay => ?_, fun hnodes hturn => ?_⟩
  · rw [if_pos (by simpa using hstay), conclude_okay]
  · rw [if_neg (by simp [hnodes, hturn]), conclude_okay]
    have hview : leadView (beginSingle (declaring s c) l) = (c, s.ine.run.seq + 1, false) := by
      refine leadView_beginSingle (hn.imp_right fun hn n hmem hlead => ?_)
      by_contra hunit
      rw [hl] at hmem
      have hother := hn n (mem_ownTable_congr (t := declaring s c) rfl hnodes rfl rfl hmem hunit) hunit
      rw [hlead] at hother
      cases hother
    simp only [leadView, Prod.mk.injEq] at hview
    exact ⟨_, rfl, hview⟩

end lead

section inhibit

variable {h : Hcp} {s : State} (ha : accepts { opcode := 0x0703, classC := true, owner := true, features := [3, 4] } h s = true)
include ha

theorem inaugInhibit_holds : exec (.inaugInhibit h true) s
    = .next (respond { s with ine := { s.ine with inhibited := true } } h 0x0703 .ok 0 []) :=
  congrArg Host.Outcome.next (runHcp_accepted _ ha)

/-- Released with no confirmed link that waits: a held node is back in HELLO. -/
theorem inaugInhibit_releases
    (hq : ∀ p, p < 4 → (helloOf s p).confirmed = true → (helloOf s p).fabricUp = false → linkIsUp s p = false) :
    exec (.inaugInhibit h false) s = .next (respond { s with ine := { s.ine with
      inhibited := false, state := if s.ine.state = .held then .hello else s.ine.state } } h 0x0703 .ok 0 []) := by
  let u : State := { s with ine := { s.ine with
    inhibited := false, state := if s.ine.state = .held then .hello else s.ine.state } }
  have hnone : ∀ p, p < 4 → ((helloOf u p).confirmed && !(helloOf u p).fabricUp && linkIsUp u p) = false := fun p hp => by
    have hlink : linkIsUp u p = linkIsUp s p := rfl
    have hhello : helloOf u p = helloOf s p := rfl
    rw [hlink, hhello]
    cases hcon : (helloOf s p).confirmed
    · rfl
    · cases hfab : (helloOf s p).fabricUp
      · exact hq p hp hcon hfab
      · rfl
  have hstate : (if s.ine.state = .held then putIne { s with ine := { s.ine with inhibited := false } } .hello
      else { s with ine := { s.ine with inhibited := false } }) = u := by
    unfold u
    split <;> rfl
  have hcouple : [0, 1, 2, 3].foldl (fun s p =>
      if (helloOf s p).confirmed && !(helloOf s p).fabricUp && linkIsUp s p then couple s p else s) u = u := by
    simp only [List.foldl_cons, List.foldl_nil, hnone 0 (by decide), hnone 1 (by decide), hnone 2 (by decide),
      hnone 3 (by decide), Bool.false_eq_true, if_false]
  refine congrArg Host.Outcome.next ((runHcp_accepted _ ha).trans ?_)
  rw [if_neg Bool.false_ne_true]
  refine Eq.trans ?_ (congrArg (fun x => respond x h 0x0703 .ok 0 []) hcouple)
  rw [← hstate]
  rfl

end inhibit

theorem leNat_leBytes_word (w : Word) : leNat (leBytes 4 w.toNat) = w.toNat := by
  simp only [leBytes, leNat, BitVec.toNat_ofNat]
  omega

theorem inaugStatus_answers {h : Hcp} {s : State} (ha : accepts { opcode := 0x0704, features := [3, 4] } h s = true) :
    ∃ p, exec (.inaugStatus h) s = .next (respond s h 0x0704 .ok 0 p) ∧ p.length = 28
      ∧ leAt p 0 4 = (ineStatus s).toNat ∧ leAt p 12 4 = s.ine.topo.toNat ∧ leAt p 16 4 = s.ine.count.toNat :=
  ⟨_, congrArg Host.Outcome.next (runHcp_accepted _ ha), rfl, leNat_leBytes_word _, leNat_leBytes_word _, leNat_leBytes_word _⟩

/-! ## The ALIAS commands (R212) -/

theorem bankRead_putBank_self (s : State) (b : Nat) (t : Table (Option AliasEntry)) : bankRead (putBank s b t) b = t := by
  unfold bankRead putBank
  split
  · rfl
  · rfl

/-- A write of the inactive bank leaves the active one. -/
theorem bankRead_putBank_active (s : State) (t : Table (Option AliasEntry)) :
    bankRead (putBank s (1 - s.ine.activeBank) t) s.ine.activeBank = bankRead s s.ine.activeBank := by
  by_cases h0 : s.ine.activeBank = 0
  · simp [bankRead, putBank, h0]
  · have hinactive : 1 - s.ine.activeBank = 0 := by omega
    simp [bankRead, putBank, h0, hinactive]

theorem putBank_keeps (s : State) (b : Nat) (t : Table (Option AliasEntry)) :
    (putBank s b t).ine.activeBank = s.ine.activeBank ∧ (putBank s b t).ine.statics = s.ine.statics
    ∧ (putBank s b t).ine.gen = s.ine.gen + 2 := by
  unfold putBank
  split <;> exact ⟨rfl, rfl, rfl⟩

theorem aliasSet_writes {h : Hcp} {s : State} {a : AliasArgs} {k : Nat}
    (ha : accepts { opcode := 0x0705, classC := true, owner := true, features := [3, 4] } h s = true)
    (hb : aliasBusy s = false) (htfa : a.tfa < 65536) (hvlan : a.vlan < 4096) (hstream : ∀ i, a.stream = some i → i < 8192)
    (hk : k = (staticAt (bankRead s (1 - s.ine.activeBank)) a.tfa).getD (aliasFree (bankRead s (1 - s.ine.activeBank))))
    (hp : poisonedWord s 4 ((1 - s.ine.activeBank) * 4096 + k) = none) (hlt : k < 4096) : ∃ t,
    exec (.aliasSet h a) s = .next (respond t h 0x0705 .ok 0 [])
      ∧ t.ine.statics = (s.ine.statics.filter fun x => x.tfa != a.tfa) ++ [a]
      ∧ tget none (bankRead t (1 - s.ine.activeBank)) k = some (staticAlias s a)
      ∧ (∀ j, j ≠ k → tget none (bankRead t (1 - s.ine.activeBank)) j = tget none (bankRead s (1 - s.ine.activeBank)) j)
      ∧ bankRead t s.ine.activeBank = bankRead s s.ine.activeBank ∧ t.ine.activeBank = s.ine.activeBank
      ∧ t.ine.gen = s.ine.gen + 2 := by
  let u : State := { s with ine := { s.ine with statics := (s.ine.statics.filter fun x => x.tfa != a.tfa) ++ [a] } }
  let bank := tset none (bankRead s (1 - s.ine.activeBank)) k (some (staticAlias s a))
  obtain ⟨hactive, hstatics, hgen⟩ := putBank_keeps u (1 - s.ine.activeBank) bank
  have hbad : ¬ (65536 ≤ a.tfa ∨ 4096 ≤ a.vlan ∨ (a.stream.any fun i => decide (8192 ≤ i)) = true) := by
    rintro (hbad | hbad | hbad)
    · omega
    · omega
    · obtain ⟨i, hi, hbig⟩ := (Option.any_eq_true ..).1 hbad
      exact absurd (of_decide_eq_true hbig) (Nat.not_le.2 (hstream i hi))
  refine ⟨putBank u (1 - s.ine.activeBank) bank, ?_, hstatics, ?_, fun j hj => ?_, bankRead_putBank_active u bank, hactive, hgen⟩
  · refine congrArg Host.Outcome.next ((runHcp_accepted _ ha).trans ?_)
    rw [hb, if_neg Bool.false_ne_true, if_neg hbad]
    dsimp only
    rw [← hk, if_pos hlt, hp]
    dsimp only
    rw [if_neg (Nat.not_le.2 hlt), conclude_okay]
    rfl
  · rw [bankRead_putBank_self]; exact tget_tset_self ..
  · rw [bankRead_putBank_self]; exact tget_tset_other _ _ _ hj

theorem aliasClear_clears {h : Hcp} {s : State} {f k : Nat}
    (ha : accepts { opcode := 0x0706, classC := true, owner := true, features := [3, 4] } h s = true)
    (hb : aliasBusy s = false) (hf : ∃ x ∈ s.ine.statics, x.tfa = f)
    (hk : staticAt (bankRead s (1 - s.ine.activeBank)) f = some k) : ∃ t,
    exec (.aliasClear h f) s = .next (respond t h 0x0706 .ok 0 [])
      ∧ t.ine.statics = s.ine.statics.filter (fun x => x.tfa != f)
      ∧ tget none (bankRead t (1 - s.ine.activeBank)) k = none
      ∧ bankRead t s.ine.activeBank = bankRead s s.ine.activeBank ∧ t.ine.activeBank = s.ine.activeBank := by
  let u : State := unpoisonEntry { s with ine := { s.ine with statics := s.ine.statics.filter fun x => x.tfa != f } } 4
    ((1 - s.ine.activeBank) * 4096 + k)
  let bank := tset none (bankRead s (1 - s.ine.activeBank)) k none
  obtain ⟨hactive, hstatics, -⟩ := putBank_keeps u (1 - s.ine.activeBank) bank
  have hany : (s.ine.statics.any fun x => x.tfa == f) = true := by
    obtain ⟨x, hx, htfa⟩ := hf
    exact List.any_eq_true.2 ⟨x, hx, beq_iff_eq.2 htfa⟩
  have hkept : staticAt (bankRead { s with ine := { s.ine with statics := s.ine.statics.filter fun x => x.tfa != f } }
    (1 - s.ine.activeBank)) f = some k := hk
  refine ⟨putBank u (1 - s.ine.activeBank) bank, ?_, hstatics, ?_, bankRead_putBank_active u bank, hactive⟩
  · refine congrArg Host.Outcome.next ((runHcp_accepted _ ha).trans ?_)
    rw [hb, if_neg Bool.false_ne_true, hany, if_neg (by decide)]
    simp only [hkept, conclude_okay]
    rfl
  · rw [bankRead_putBank_self]; exact tget_tset_self ..

theorem aliasCommit_arms {h : Hcp} {s : State} {c n : Nat}
    (ha : accepts { opcode := 0x0707, classC := true, owner := true, features := [3, 4] } h s = true)
    (hb : aliasBusy s = false) (hn : n < 1000000000) (hv : s.tms.tsValid = true) (hsoon : trtNs s + 20000 ≤ linNs c n)
    (hfar : linNs c n ≤ trtNs s + 3600000000000) : ∃ t, exec (.aliasCommit h c n) s = .next (respond t h 0x0707 .ok 0 [])
      ∧ (tauOf t 56).state = .armed ∧ (tauOf t 56).fire = linNs c n * 65536 ∧ (tauOf t 56).arg = word (1 - s.ine.activeBank)
      ∧ t.ine = { s.ine with copyAfter := true } ∧ ∀ k, k ≠ 56 → tauOf t k = tauOf s k := by
  let u : State := armDevice { s with ine := { s.ine with copyAfter := true } } 56 6 (word (1 - s.ine.activeBank)) (linNs c n)
  have hself := tauOf_putTau_self { s with ine := { s.ine with copyAfter := true } } 56
  refine ⟨u, ?_, congrArg TauRec.state (hself _), congrArg TauRec.fire (hself _), congrArg TauRec.arg (hself _), rfl,
    fun k hk => tauOf_putTau_other _ _ hk⟩
  refine congrArg Host.Outcome.next ((runHcp_accepted _ ha).trans ?_)
  rw [hb, hv, if_neg Bool.false_ne_true, if_neg (Nat.not_le.2 hn), if_neg (by decide), if_neg (Nat.not_lt.2 hsoon),
    if_neg (Nat.not_lt.2 hfar), conclude_okay]

/-- Settles O40: each command by its own lemma, what a renumbering keeps by `leadView_beginSingle`. -/
theorem inaugurationAndAliasCommands : Obligations.InaugurationAndAliasCommands := by
  unfold Obligations.InaugurationAndAliasCommands
  exact ⟨fun h s recs fs d => inaugConfig_sets, fun h s c l ha hi hc => inaugLead_declares ha hi hc,
    fun h s c ha hi h0 hc => inaugLead_conflict ha hi (.inr hc) h0,
    fun h s ha => ⟨inaugInhibit_holds ha, inaugInhibit_releases ha⟩, fun h s => inaugStatus_answers,
    fun h s a k => aliasSet_writes, fun h s f k => aliasClear_clears, fun h s c n => aliasCommit_arms⟩

end Sys2Proof.Proofs
end

section
/-! SUPPORT. The twin pair: what its messages and events leave of the state, what a state image brings to a Standby device, and the
obligation about the pair (O41). -/

namespace Sys2Proof.Proofs

open Sys2Proof Sys2Proof.Machine

/-! ## Messages and events of the pair (R187, R289) -/

/-- All that a message sent on TW0 changes: the free values drawn, the counters of the port and the record of what is sent. -/
theorem twinSend_form (s : State) (x : Sent) : ∃ d c, twinSend s x
    = { s with draws := d, ports := { s.ports with counters := c }, wire := s.wire ++ [x] } := by
  unfold twinSend emit countPort draw
  exact ⟨_, _, rfl⟩

/-- All that a message received on TW0 changes. -/
theorem twinGot_form (s : State) : ∃ d c, twinGot s = { s with draws := d, ports := { s.ports with counters := c } } := by
  unfold twinGot countPort draw
  exact ⟨_, _, rfl⟩

/-- A twin event sets its alarm; of the INE, CSS and time nothing else changes. -/
theorem twinEvent_keeps (s : State) (kind : Nat) :
    (twinEvent s kind).ine = { s.ine with alarm := setBit s.ine.alarm (9 + kind) true }
    ∧ (twinEvent s kind).css = s.css ∧ (twinEvent s kind).tms = s.tms ∧ (twinEvent s kind).mono = s.mono := by
  unfold twinEvent
  rw [setAlarm_ine_form]
  simp

/-! ## Twin states (Table 8-10) -/

theorem twinEnter_enters (s : State) (r : TwinState) : (twinEnter s r).ine.twin.state = r
    ∧ (twinEnter s r).ine.alarm = s.ine.alarm ∧ (twinEnter s r).mono = s.mono := by
  unfold twinEnter
  cases r
  case syncing =>
    dsimp only
    obtain ⟨d, c, e⟩ := twinSend_form (putTwin s { s.ine.twin with
      state := .syncing, atBoundary := none, finalSent := false, imagesOn := true, requested := true, syncAt := s.mono })
      .twinRequest
    rw [e]
    exact ⟨rfl, rfl, rfl⟩
  all_goals exact ⟨rfl, rfl, rfl⟩

/-- Only the request of a SYNCING device leaves. -/
theorem twinEnter_wire (s : State) {r : TwinState} (h : r ≠ .syncing) : (twinEnter s r).wire = s.wire := by
  cases r
  case syncing => exact absurd rfl h
  all_goals rfl

/-- No BB port has to be held down but those of a Standby device in standard mode (Table 8-2). -/
theorem bbHold_free {s : State} (h : s.ine.state ≠ .standard ∨ s.ine.twin.state ≠ .standby) : bbHold s = s := by
  have hnone : ∀ p, bbHeld s p = false := fun p => by
    unfold bbHeld
    rcases h with h | h <;> simp [h]
  unfold bbHold
  rw [List.filter_eq_nil_iff.2 fun p _ => by rw [hnone p]; exact Bool.false_ne_true]
  rfl

/-! ## TWIN_CONFIG and TWIN_SWAP (R214, R218) -/

theorem twinConfig_sets {h : Hcp} {s : State} {recs : List Param} {x : Twin}
    (ha : accepts { opcode := 0x0708, classC := true, owner := true, features := [14] } h s = true)
    (hr : applyRecs s twinRec 0 s.ine.twin recs = .ok x) (hup : linkIsUp s 95 = false) : exec (.twinConfig h recs) s
      = .next (respond (putTwin s { x with dueAt := s.mono + x.interval * 1000000000 }) h 0x0708 .ok 0 []) := by
  refine congrArg Host.Outcome.next ((runHcp_accepted _ ha).trans ?_)
  simp only [hr]
  have hdown : linkIsUp (putTwin s { x with dueAt := s.mono + x.interval * 1000000000 }) 95 = false := hup
  rw [hdown]
  split <;> rfl

theorem twinSwap_falls_due {h : Hcp} {s : State}
    (ha : accepts { opcode := 0x0709, classC := true, owner := true, features := [14] } h s = true)
    (hi : inaugurating s = false) (hs : s.ine.twin.state = .active ∨ s.ine.twin.state = .standby) : exec (.twinSwap h) s
      = .next (respond (putTwin s { s.ine.twin with due := true, dueAt := s.mono }) h 0x0709 .ok 0 []) := by
  refine congrArg Host.Outcome.next ((runHcp_accepted _ ha).trans ?_)
  rw [hi, if_neg Bool.false_ne_true]
  rcases hs with hs | hs <;> simp only [hs, conclude_okay]

/-! ## State images sent (R216) -/

section imageSend

variable {s : State} (hs : s.ine.twin.state = .active) (hup : linkIsUp s 95 = true) (hf : s.ine.twin.finalSent = false)
  (hon : s.ine.twin.imagesOn = true)
include hs hup hf hon

theorem twinImageSend_sends (hdue : 150 ≤ panUs s ∨ s.ine.twin.oddPan = true ∨ s.ine.twin.atBoundary = some .standby) :
    exec .twinImageSend s = .next (twinSend (putTwin s { s.ine.twin with
      oddPan := false, finalSent := s.ine.twin.atBoundary == some .standby }) (.twinImage (imageOf s))) := by
  refine congrArg Host.Outcome.next ?_
  unfold imageSend
  rw [if_neg (by simp [hs, hup, hf, hon]), if_neg]
  rintro ⟨hshort, hodd, hfinal⟩
  rcases hdue with h | h | h
  · omega
  · exact hodd h
  · exact hfinal (beq_iff_eq.2 h)

theorem twinImageSend_skips (hshort : panUs s < 150) (hodd : s.ine.twin.oddPan = false)
    (hb : s.ine.twin.atBoundary ≠ some .standby) :
    exec .twinImageSend s = .next (putTwin s { s.ine.twin with oddPan := true }) := by
  refine congrArg Host.Outcome.next ?_
  unfold imageSend
  rw [if_neg (by simp [hs, hup, hf, hon]), if_pos ⟨hshort, by simp [hodd], by simpa using hb⟩]

end imageSend

/-! ## The full transfer asked for (R217) -/

/-- What TW0 brings while it is up. -/
def heardOnTw0 (s : State) : State := if linkIsUp s 95 then twinGot s else s

theorem heardOnTw0_form (s : State) : ∃ d c, heardOnTw0 s = { s with draws := d, ports := { s.ports with counters := c } } := by
  unfold heardOnTw0
  split <;> exact ⟨_, _, rfl⟩

theorem twinImageSend_idle {s : State} (hs : s.ine.twin.state ≠ .active) : exec .twinImageSend s = .next s :=
  congrArg Host.Outcome.next (if_pos (by simp [hs]))

theorem twinState_heardOnTw0 (s : State) :
    (if linkIsUp s 95 then twinGot s else s).ine.twin.state = s.ine.twin.state := by
  obtain ⟨d, c, e⟩ := heardOnTw0_form s
  exact congrArg (fun t => t.ine.twin.state) e

theorem fullTransferRequest_idle {s : State} (hs : s.ine.twin.state ≠ .active) (ha : s.ine.twin.state ≠ .alone) :
    exec .fullTransferRequest s = .next (if linkIsUp s 95 then twinGot s else s) := by
  refine congrArg Host.Outcome.next ?_
  unfold transferAsked
  dsimp only
  rw [twinState_heardOnTw0]
  split
  · exact absurd ‹_› ha
  · exact absurd ‹_› hs
  · rfl

/-- The image of a device that has heard on TW0 is the one it had. -/
theorem imageOf_heardOnTw0 (s : State) : imageOf (heardOnTw0 s) = imageOf s := by
  obtain ⟨d, c, e⟩ := heardOnTw0_form s
  rw [e]
  rfl

theorem fullTransferRequest_alone {s : State} (hs : s.ine.twin.state = .alone) : ∃ t, exec .fullTransferRequest s = .next t
    ∧ t.wire = s.wire ++ [.twinFull (imageOf s)] ∧ t.ine.twin.state = .active ∧ t.ine.twin.imagesOn = false := by
  have hasked : transferAsked s = (let u := twinEnter (twinSend (heardOnTw0 s) (.twinFull (imageOf s))) .active
      putTwin u { u.ine.twin with imagesOn := false }) := by
    rw [← imageOf_heardOnTw0 s]
    unfold transferAsked
    dsimp only
    rw [twinState_heardOnTw0, hs]
    rfl
  obtain ⟨d, c, e⟩ := heardOnTw0_form s
  exact ⟨_, congrArg Host.Outcome.next hasked, by rw [e]; rfl, rfl, rfl⟩

theorem fullTransferRequest_active {s : State} (hs : s.ine.twin.state = .active) : ∃ t, exec .fullTransferRequest s = .next t
    ∧ t.wire = s.wire ++ [.twinFull (imageOf s)] ∧ t.ine = s.ine := by
  have hasked : transferAsked s = twinSend (heardOnTw0 s) (.twinFull (imageOf s)) := by
    rw [← imageOf_heardOnTw0 s]
    unfold transferAsked
    dsimp only
    rw [twinState_heardOnTw0, hs]
    rfl
  obtain ⟨d, c, e⟩ := heardOnTw0_form s
  exact ⟨_, congrArg Host.Outcome.next hasked, by rw [e]; rfl, by rw [e]; rfl⟩

/-! ## Losses (R217) -/

/-- An instant reached, and the twin event of kind `k` told there. -/
def toldAt (s : State) (m k : Nat) : State := twinEvent (untilMono s m) k

theorem toldAt_keeps (s : State) (m k : Nat) :
    (toldAt s m k).ine = { s.ine with alarm := setBit s.ine.alarm (9 + k) true } ∧ (toldAt s m k).mono = max s.mono m
    ∧ panRuns (toldAt s m k) = panRuns s := by
  obtain ⟨hine, hcss, htms, hmono⟩ := twinEvent_keeps (untilMono s m) k
  refine ⟨by rw [toldAt, hine, untilMono_ine], ?_, ?_⟩
  · rw [toldAt, hmono, untilMono_mono]
  · unfold panRuns
    rw [toldAt, hcss, htms]
    simp

/-- A device that goes ALONE as it tells a loss. -/
theorem twinEnter_toldAt (s : State) (m k : Nat) (hk : 9 + k < 32) (r : TwinState) :
    (twinEnter (toldAt s m k) r).ine.twin.state = r ∧ (twinEnter (toldAt s m k) r).mono = max s.mono m
    ∧ bitAt (alarmOf (twinEnter (toldAt s m k) r) .ine) (9 + k) = true := by
  obtain ⟨hine, hmono, -⟩ := toldAt_keeps s m k
  obtain ⟨hstate, halarm, htime⟩ := twinEnter_enters (toldAt s m k) r
  refine ⟨hstate, htime.trans hmono, ?_⟩
  have hbit : alarmOf (twinEnter (toldAt s m k) r) .ine = setBit s.ine.alarm (9 + k) true :=
    halarm.trans (congrArg Ine.alarm hine)
  rw [hbit]
  exact bitAt_setBit_self _ _ hk

theorem twinPartnerTimeout_active {s : State} (hs : s.ine.twin.state = .active) : ∃ t, exec .twinPartnerTimeout s = .next t
    ∧ t.ine.twin.state = .alone ∧ t.mono = max s.mono (ltmSilentAt s) ∧ bitAt (alarmOf t .ine) 11 = true := by
  refine ⟨twinEnter (toldAt s (ltmSilentAt s) 2) .alone, congrArg Host.Outcome.next ?_,
    twinEnter_toldAt s _ 2 (by decide) .alone⟩
  unfold partnerLost
  rw [hs]
  rfl

theorem twinPartnerTimeout_standby {s : State} (hs : s.ine.twin.state = .standby) : ∃ t, exec .twinPartnerTimeout s = .next t
    ∧ bitAt (alarmOf t .ine) 10 = true
    ∧ (panRuns s = true → t.ine.twin.state = .standby ∧ t.ine.twin.atBoundary = some .alone)
    ∧ (panRuns s = false → t.ine.twin.state = .alone) := by
  let u := toldAt s (max (ltmSilentAt s) (s.ine.twin.imageAt + imagePeriod s)) 1
  have hlost : partnerLost s = twinMove u .alone := by
    unfold partnerLost
    rw [hs]
    rfl
  obtain ⟨hine, -, hruns⟩ := toldAt_keeps s (max (ltmSilentAt s) (s.ine.twin.imageAt + imagePeriod s)) 1
  obtain ⟨hstate, -, hbit⟩ := twinEnter_toldAt s (max (ltmSilentAt s) (s.ine.twin.imageAt + imagePeriod s)) 1 (by decide) .alone
  refine ⟨twinMove u .alone, congrArg Host.Outcome.next hlost, ?_⟩
  unfold twinMove
  rw [hruns]
  cases hp : panRuns s with
  | true =>
    rw [if_pos rfl]
    have halarm : alarmOf (putTwin u { u.ine.twin with atBoundary := some .alone }) .ine = setBit s.ine.alarm 10 true :=
      congrArg Ine.alarm hine
    refine ⟨?_, fun _ => ⟨?_, rfl⟩, nofun⟩
    · rw [halarm]; exact bitAt_setBit_self _ 10 (by decide)
    · exact (congrArg (fun i => i.twin.state) hine).trans hs
  | false =>
    rw [if_neg Bool.false_ne_true]
    exact ⟨hbit, nofun, fun _ => hstate⟩

theorem twinUnpairedTimeout_alone {s : State} (hs : s.ine.twin.state = .unpaired) (hp : s.ine.twin.partner ≠ none)
    (hready : s.glob.fwReady = true) (hup : linkIsUp s 95 = false) : ∃ t, exec .twinUnpairedTimeout s = .next t
      ∧ t.ine.twin.state = .alone ∧ t.mono = max s.mono (s.fw.readyAt + 2000000000) ∧ bitAt (alarmOf t .ine) 11 = true := by
  refine ⟨twinEnter (toldAt s (s.fw.readyAt + 2000000000) 2) .alone, congrArg Host.Outcome.next ?_,
    twinEnter_toldAt s _ 2 (by decide) .alone⟩
  unfold unpairedLate
  dsimp only
  rw [hup, if_pos]
  · rfl
  · cases (tget ({} : LinkRec) s.ports.links 95).partner <;> simp [hs, Option.isSome_iff_ne_none.2 hp, hready]

theorem twinSyncTimeout_asks {s : State} (hs : s.ine.twin.state = .syncing)
    (hl : max s.mono (s.ine.twin.syncAt + 2000000000) < ltmSilentAt s) : ∃ t, exec .twinSyncTimeout s = .next t
      ∧ t.ine.twin.state = .syncing ∧ t.ine.twin.requested = true ∧ t.ine.twin.syncAt = t.mono
      ∧ t.mono = max s.mono (s.ine.twin.syncAt + 2000000000) ∧ t.wire = s.wire ++ [.twinRequest] := by
  let u := untilMono s (s.ine.twin.syncAt + 2000000000)
  have hmono : u.mono = max s.mono (s.ine.twin.syncAt + 2000000000) := untilMono_mono ..
  have hsilent : ltmSilentAt u = ltmSilentAt s := by simp [u, ltmSilentAt, linkTime]
  obtain ⟨d, c, e⟩ := twinSend_form (putTwin u { u.ine.twin with
    state := .syncing, atBoundary := none, finalSent := false, imagesOn := true, requested := true, syncAt := u.mono })
    .twinRequest
  have hwire : u.wire = s.wire := by simp [u]
  refine ⟨twinEnter u .syncing, congrArg Host.Outcome.next ?_, ?_⟩
  · unfold syncLate
    rw [if_neg (not_not.2 hs)]
    exact if_pos (show u.mono < ltmSilentAt u by rw [hmono, hsilent]; exact hl)
  · unfold twinEnter
    dsimp only
    rw [e]
    exact ⟨rfl, rfl, rfl, hmono, congrArg (· ++ [Sent.twinRequest]) hwire⟩

/-! ## The swap (R218) -/

theorem twinSwapDue_falls_due {s : State} (hs : s.ine.twin.state = .active ∨ s.ine.twin.state = .standby) :
    exec .twinSwapDue s = .next (putTwin (untilMono s s.ine.twin.dueAt) { s.ine.twin with due := true }) := by
  refine congrArg Host.Outcome.next ?_
  have hine := untilMono_ine s s.ine.twin.dueAt
  unfold swapDue
  rcases hs with hs | hs
  all_goals
    rw [hs]
    dsimp only
    rw [hine]

theorem twinBoundary_swaps {s : State} (hb : s.ine.twin.atBoundary = none) (hd : s.ine.twin.due = true)
    (hs : s.ine.twin.state = .active ∨ s.ine.twin.state = .standby) :
    (s.mono ≤ s.ine.twin.dueAt + 1000000000 → swapPermitted s = true → (twinBoundary s).ine.twin = { s.ine.twin with
      swaps := s.ine.twin.swaps + 1
      due := false
      dueAt := s.ine.twin.dueAt + s.ine.twin.interval * 1000000000
      atBoundary := some (if s.ine.twin.state = .active then .standby else .active) })
    ∧ (s.ine.twin.dueAt + 1000000000 < s.mono ∨ swapPermitted s = false → twinBoundary s = s) := by
  have hcases : twinBoundary s
      = if s.ine.twin.due && decide (s.mono ≤ s.ine.twin.dueAt + 1000000000) && swapPermitted s then swapNow s else s := by
    unfold twinBoundary
    dsimp only
    rw [hb]
  rw [hcases]
  refine ⟨fun htime hperm => ?_, fun hnot => if_neg ?_⟩
  · rw [if_pos (by simp [hd, htime, hperm])]
    have htwin : (twinEvent s 0).ine.twin = s.ine.twin := by rw [(twinEvent_keeps s 0).1]
    unfold swapNow swapLater
    rcases hs with hs | hs
    · simp only [hs, htwin, putTwin, if_pos]
    · simp only [hs, putTwin]
      rw [if_neg (by decide)]
  · rcases hnot with hlate | hperm
    · simp [Nat.not_le.2 hlate]
    · simp [hperm]

theorem twinBoundary_moves {s : State} {r : TwinState} (hb : s.ine.twin.atBoundary = some r) :
    (twinBoundary s).ine.twin.state = r
    ∧ (s.ine.twin.state = .active → r = .standby → (twinBoundary s).wire
      = if s.ine.twin.finalSent then s.wire else s.wire ++ [.twinImage (imageOf s)]) := by
  have hcases : twinBoundary s = twinEnter (if s.ine.twin.state = .active ∧ r = .standby ∧ ¬ s.ine.twin.finalSent then
      twinSend s (.twinImage (imageOf s)) else s) r := by
    unfold twinBoundary
    dsimp only
    rw [hb]
  rw [hcases]
  refine ⟨(twinEnter_enters _ r).1, fun hs hr => ?_⟩
  rw [twinEnter_wire _ (by rw [hr]; decide)]
  cases hf : s.ine.twin.finalSent with
  | true => rw [if_neg (by simp), if_pos rfl]
  | false =>
    obtain ⟨d, c, e⟩ := twinSend_form s (.twinImage (imageOf s))
    rw [if_pos ⟨hs, hr, Bool.false_ne_true⟩, if_neg Bool.false_ne_true, e]

theorem twinSwapSkip_reports {s : State} (hs : s.ine.twin.state = .active ∨ s.ine.twin.state = .standby) :
    (s.ine.twin.due = false → exec .twinSwapSkip s = .next s)
    ∧ (s.ine.twin.due = true → ∃ t, exec .twinSwapSkip s = .next t
      ∧ t.ine.twin = { s.ine.twin with due := false, dueAt := s.ine.twin.dueAt + s.ine.twin.interval * 1000000000 }
      ∧ bitAt (alarmOf t .ine) 12 = true ∧ t.mono = max s.mono (s.ine.twin.dueAt + 1000000000)) := by
  let u := untilMono s (s.ine.twin.dueAt + 1000000000)
  have hskip : swapSkip s = if s.ine.twin.due then swapLater (setAlarm u .ine 12) s.ine.twin.dueAt else s := by
    unfold swapSkip
    dsimp only
    rcases hs with hs | hs <;> rw [hs]
  refine ⟨fun hd => congrArg Host.Outcome.next ?_, fun hd => ⟨_, congrArg Host.Outcome.next (hskip.trans (if_pos hd)), ?_⟩⟩
  · rw [hskip, hd]; rfl
  · have hine : u.ine = s.ine := untilMono_ine ..
    unfold swapLater
    rw [setAlarm_ine_form, hine]
    exact ⟨rfl, bitAt_setBit_self _ 12 (by decide), untilMono_mono ..⟩

end Sys2Proof.Proofs
end

section
/-! SUPPORT. The twin pair: what a state image brings to a Standby device, mirrored commits, and the obligation about the pair (O41). -/

namespace Sys2Proof.Proofs

open Sys2Proof Sys2Proof.Machine

/-! ## The parts of a state image (R216, Table 8-9) -/

/-- The twin-shared TAUs of an image taken: those it does not name become IDLE, those it names are armed. -/
def imageTaus (s : State) (im : TwinImage) : State :=
  im.taus.foldl (fun s a => putTau s a.arm.tau (recOfShared s a))
    ((s.tau.units.filter fun e => e.2.shared && tauLive e.2 && !(im.taus.any fun a => a.arm.tau == e.1)).foldl
      (fun s e => putTau s e.1 { e.2 with state := .idle }) s)

/-- The sessions of an image taken, after its TAUs. -/
def imageSessions (s : State) (im : TwinImage) : State := im.sessions.foldl takeSession (imageTaus s im)

/-- The shared slots of an image taken, after its sessions. -/
def imageSlots (s : State) (im : TwinImage) : State := im.slots.foldl takeSlot (imageSessions s im)

/-- Nodes, topology and stream origins of an image taken, after its slots. -/
def imageTrain (s : State) (im : TwinImage) : State :=
  let t := if im.nodes.isEmpty then imageSlots s im else takeNumbers (imageSlots s im) im.nodes
  { t with ine := { t.ine with topo := im.topo }, adm := { t.adm with streams := im.streams.map takeOrigin } }

/-- The ownership records of an image taken, after all else. -/
def imageOwners (s : State) (im : TwinImage) : State := im.owners.foldl takeOwner (imageTrain s im)

theorem takeImage_eq (s : State) (im : TwinImage) : takeImage s im
    = putTwin (imageOwners s im) { (imageOwners s im).ine.twin with image := some im, imageAt := (imageOwners s im).mono } := rfl

/-! Each part changes its own unit of the state only. -/

theorem imageTaus_form (s : State) (im : TwinImage) : ∃ x, imageTaus s im = { s with tau := x } := by
  unfold imageTaus
  refine List.foldlRecOn (motive := fun t => ∃ x, t = { s with tau := x }) _ _ ?_ ?_
  · refine List.foldlRecOn (motive := fun t => ∃ x, t = { s with tau := x }) _ _ ⟨s.tau, rfl⟩ ?_
    rintro _ ⟨x, rfl⟩ e -
    exact ⟨_, rfl⟩
  · rintro _ ⟨x, rfl⟩ a -
    exact ⟨_, rfl⟩

theorem imageSessions_form (s : State) (im : TwinImage) : ∃ x, imageSessions s im = { imageTaus s im with host := x } := by
  unfold imageSessions
  refine List.foldlRecOn (motive := fun t => ∃ x, t = { imageTaus s im with host := x }) _ _ ⟨(imageTaus s im).host, rfl⟩ ?_
  rintro _ ⟨x, rfl⟩ r -
  exact ⟨_, rfl⟩

theorem imageSlots_form (s : State) (im : TwinImage) : ∃ x, imageSlots s im = { imageSessions s im with css := x } := by
  unfold imageSlots
  refine List.foldlRecOn (motive := fun t => ∃ x, t = { imageSessions s im with css := x }) _ _ ⟨(imageSessions s im).css, rfl⟩ ?_
  rintro _ ⟨x, rfl⟩ r -
  unfold takeSlot
  split <;> exact ⟨_, rfl⟩

/-- Of a numbering taken only the table, the own numbers and the generation of INE_SELF change. -/
theorem takeNumbers_form (s : State) (l : List NodeRec) : ∃ i, takeNumbers s l = { s with ine := i }
    ∧ i.nodes = l ∧ i.twin = s.ine.twin ∧ i.state = s.ine.state := by
  unfold takeNumbers
  split <;> exact ⟨_, rfl, rfl, rfl, rfl⟩

theorem imageTrain_form (s : State) (im : TwinImage) : ∃ i, imageTrain s im
      = { imageSlots s im with ine := i, adm := { (imageSlots s im).adm with streams := im.streams.map takeOrigin } }
    ∧ (im.nodes ≠ [] → i.nodes = im.nodes) ∧ i.topo = im.topo ∧ i.twin = (imageSlots s im).ine.twin
    ∧ i.state = (imageSlots s im).ine.state := by
  unfold imageTrain
  dsimp only
  split
  next h => exact ⟨_, rfl, fun hn => absurd (List.isEmpty_iff.1 h) hn, rfl, rfl, rfl⟩
  next =>
    obtain ⟨i, e, hnodes, htwin, hstate⟩ := takeNumbers_form (imageSlots s im) im.nodes
    rw [e]
    exact ⟨_, rfl, fun _ => hnodes, rfl, htwin, hstate⟩

theorem imageOwners_form (s : State) (im : TwinImage) : ∃ x, imageOwners s im = { imageTrain s im with lgb := x } := by
  unfold imageOwners
  refine List.foldlRecOn (motive := fun t => ∃ x, t = { imageTrain s im with lgb := x }) _ _ ⟨(imageTrain s im).lgb, rfl⟩ ?_
  rintro _ ⟨x, rfl⟩ r -
  unfold takeOwner
  split <;> exact ⟨_, rfl⟩

/-- Where each part of an image stands once it is taken. -/
theorem takeImage_parts (s : State) (im : TwinImage) :
    (takeImage s im).tau = (imageTaus s im).tau ∧ (takeImage s im).host = (imageSessions s im).host
    ∧ (takeImage s im).css = (imageSlots s im).css ∧ (takeImage s im).lgb = (imageOwners s im).lgb
    ∧ (takeImage s im).adm.streams = im.streams.map takeOrigin := by
  obtain ⟨lgb, elgb⟩ := imageOwners_form s im
  obtain ⟨i, etrain, -⟩ := imageTrain_form s im
  obtain ⟨css, ecss⟩ := imageSlots_form s im
  obtain ⟨host, ehost⟩ := imageSessions_form s im
  rw [takeImage_eq, elgb, etrain]
  refine ⟨?_, ?_, rfl, rfl, rfl⟩
  · change (imageSlots s im).tau = _
    rw [ecss, ehost]
  · change (imageSlots s im).host = _
    rw [ecss]

/-- The state of the inauguration and the twin record stay, but for the image kept and its instant. -/
theorem takeImage_ine (s : State) (im : TwinImage) :
    (takeImage s im).ine.twin = { s.ine.twin with image := some im, imageAt := s.mono }
    ∧ (takeImage s im).ine.state = s.ine.state ∧ (im.nodes ≠ [] → (takeImage s im).ine.nodes = im.nodes)
    ∧ (takeImage s im).ine.topo = im.topo := by
  obtain ⟨lgb, elgb⟩ := imageOwners_form s im
  obtain ⟨i, etrain, hnodes, htopo, htwin, hstate⟩ := imageTrain_form s im
  obtain ⟨css, ecss⟩ := imageSlots_form s im
  obtain ⟨host, ehost⟩ := imageSessions_form s im
  obtain ⟨tau, etau⟩ := imageTaus_form s im
  have hslots : (imageSlots s im).ine = s.ine ∧ (imageSlots s im).mono = s.mono := by
    rw [ecss, ehost, etau]
    exact ⟨rfl, rfl⟩
  obtain ⟨hine, hmono⟩ := hslots
  rw [takeImage_eq, elgb, etrain]
  refine ⟨?_, hstate.trans (by rw [hine]), hnodes, htopo⟩
  change ({ i.twin with image := some im, imageAt := (imageSlots s im).mono } : Twin) = _
  rw [htwin, hine, hmono]

/-! ## What one record of each kind brings (Table 8-9) -/

/-- A live shared TAU that the image does not name is none that it names. -/
theorem tauOf_gone (s : State) (l : List (Nat × TauRec)) {k : Nat} (h : ∀ e ∈ l, e.1 ≠ k) :
    tauOf (l.foldl (fun s e => putTau s e.1 { e.2 with state := .idle }) s) k = tauOf s k :=
  List.foldlRecOn (motive := fun t => tauOf t k = tauOf s k) _ _ rfl
    fun t ht e he => (tauOf_putTau_other t _ (h e he).symm).trans ht

theorem takeImage_tau (s : State) {im : TwinImage} {r : TauShared} (h : im.taus = [r]) :
    tauOf (takeImage s im) r.arm.tau = recOfShared s r := by
  obtain ⟨htau, -⟩ := takeImage_parts s im
  have hpart : tauOf (takeImage s im) r.arm.tau = tauOf (imageTaus s im) r.arm.tau :=
    congrArg (fun x : Taus => tget ({} : TauRec) x.units r.arm.tau) htau
  rw [hpart]
  unfold imageTaus
  rw [h]
  let gone := s.tau.units.filter fun e => e.2.shared && tauLive e.2 && !([r].any fun a => a.arm.tau == e.1)
  let u := gone.foldl (fun s e => putTau s e.1 { e.2 with state := .idle }) s
  have hother : ∀ e ∈ gone, e.1 ≠ r.arm.tau := by
    intro e he
    have hkept := (List.mem_filter.1 he).2
    intro heq
    simp [heq] at hkept
  have hsame : tauOf u r.arm.tau = tauOf s r.arm.tau := tauOf_gone s gone hother
  have htms : u.tms = s.tms := foldl_keeps State.tms (fun s e => putTau s e.1 { e.2 with state := .idle }) (fun _ _ => rfl) gone s
  have hrec : recOfShared u r = recOfShared s r := by
    unfold recOfShared recOfArm
    rw [hsame, htms]
  exact (tauOf_putTau_self u r.arm.tau _).trans hrec

theorem takeImage_session (s : State) {im : TwinImage} {r : SessionRec} (h : im.sessions = [r]) :
    (tenant (takeImage s im) r.tenant).counter = r.counter ∧ (tenant (takeImage s im) r.tenant).shortCmac = r.cmac4
    ∧ (tenant (takeImage s im) r.tenant).shortStatus = r.status := by
  obtain ⟨-, hhost, -⟩ := takeImage_parts s im
  have hpart : tenant (takeImage s im) r.tenant = tenant (takeSession (imageTaus s im) r) r.tenant := by
    refine congrArg (fun x : HostIf => tget ({} : Tenant) x.tenants r.tenant) (hhost.trans ?_)
    rw [imageSessions, h]
    rfl
  rw [hpart, takeSession, tenant_modTenant_self]
  exact ⟨rfl, rfl, rfl⟩

/-- A shared slot takes its record of the image. -/
theorem takeSlot_shared {s : State} {r : SlotRec} {i : Nat} {x : TxSlot} (hi : slotIndex s r.slot = some i)
    (hx : s.css.slots[i]? = some x) (hs : x.shared = true) : (takeSlot s r).css.slots[i]? = some { x with
      prodSeq := r.prodSeq, dataSeq := r.prodSeq, ready := r.ready
      data := if r.data.isEmpty then x.data else r.data, commitAt := s.mono - r.age * panNs s } := by
  unfold takeSlot
  rw [hi]
  refine (getElem?_modAt_self ..).trans ?_
  rw [hx, Option.map_some, if_pos hs]

theorem takeImage_slot (s : State) {im : TwinImage} {r : SlotRec} (h : im.slots = [r]) {i : Nat} {x : TxSlot}
    (hi : slotIndex s r.slot = some i) (hx : s.css.slots[i]? = some x) (hs : x.shared = true) :
    (takeImage s im).css.slots[i]? = some { x with
      prodSeq := r.prodSeq, dataSeq := r.prodSeq, ready := r.ready
      data := if r.data.isEmpty then x.data else r.data, commitAt := s.mono - r.age * panNs s } := by
  obtain ⟨-, -, hcss, -⟩ := takeImage_parts s im
  obtain ⟨host, ehost⟩ := imageSessions_form s im
  obtain ⟨tau, etau⟩ := imageTaus_form s im
  have hpart : imageSlots s im = takeSlot { s with tau := tau, host := host } r := by
    rw [imageSlots, h, ehost, etau]
    rfl
  rw [hcss, hpart]
  exact takeSlot_shared hi hx hs

theorem takeImage_owner (s : State) {im : TwinImage} {r : PdRec} (h : im.owners = [r]) (hv : (pdVar s r.var).len ≠ 0) :
    pdVar (takeImage s im) r.var = { pdVar s r.var with writer := r.writer, stale := r.stale } := by
  obtain ⟨-, -, -, hlgb, -⟩ := takeImage_parts s im
  obtain ⟨i, etrain, -⟩ := imageTrain_form s im
  obtain ⟨css, ecss⟩ := imageSlots_form s im
  obtain ⟨host, ehost⟩ := imageSessions_form s im
  obtain ⟨tau, etau⟩ := imageTaus_form s im
  have hvars : pdVar (imageTrain s im) r.var = pdVar s r.var := by
    rw [etrain, ecss, ehost, etau]
    rfl
  have hpart : pdVar (takeImage s im) r.var = pdVar (takeOwner (imageTrain s im) r) r.var := by
    refine congrArg (fun x : Lgb => tget ({} : PdVar) x.vars r.var) (hlgb.trans ?_)
    rw [imageOwners, h]
    rfl
  rw [hpart, takeOwner, hvars, if_neg hv, pdVar_putVar_self]

/-! ## TWIN_IMAGE_RECEIVE and TWIN_FULL_TRANSFER_DONE (R216, R217) -/

section standby

variable {s : State} (hs : s.ine.twin.state = .standby)
include hs

/-- A good image is kept with its instant, and each of its records with it. -/
theorem twinImageReceive_keeps {im : TwinImage} (hc : im.crcOk = true) : ∃ t, exec (.twinImageReceive (some im)) s = .next t
    ∧ t.ine.twin.image = some im ∧ t.ine.twin.imageAt = s.mono ∧ t.ine.twin.state = .standby
    ∧ t.ine.twin.misses = s.ine.twin.misses ∧ (im.nodes ≠ [] → t.ine.nodes = im.nodes) ∧ t.ine.topo = im.topo
    ∧ t.adm.streams = im.streams.map takeOrigin
    ∧ (∀ r, im.taus = [r] → tauOf t r.arm.tau = recOfShared s r)
    ∧ (∀ r i x, im.slots = [r] → slotIndex s r.slot = some i → s.css.slots[i]? = some x → x.shared = true →
      t.css.slots[i]? = some { x with
        prodSeq := r.prodSeq, dataSeq := r.prodSeq, ready := r.ready
        data := if r.data.isEmpty then x.data else r.data, commitAt := s.mono - r.age * panNs s })
    ∧ (∀ r, im.owners = [r] → (pdVar s r.var).len ≠ 0 →
      pdVar t r.var = { pdVar s r.var with writer := r.writer, stale := r.stale })
    ∧ (∀ r, im.sessions = [r] → (tenant t r.tenant).counter = r.counter
      ∧ (tenant t r.tenant).shortCmac = r.cmac4 ∧ (tenant t r.tenant).shortStatus = r.status) := by
  obtain ⟨d, c, e⟩ := twinGot_form s
  have hreceived : imageReceive (some im) s = takeImage (twinGot s) im := by
    unfold imageReceive
    rw [if_neg (not_not.2 hs)]
    exact if_pos hc
  obtain ⟨htwin, -, hnodes, htopo⟩ := takeImage_ine (twinGot s) im
  obtain ⟨-, -, -, -, hstreams⟩ := takeImage_parts (twinGot s) im
  refine ⟨takeImage (twinGot s) im, congrArg Host.Outcome.next hreceived, ?_, ?_, ?_, ?_, hnodes, htopo, hstreams, ?_⟩
  · rw [htwin]
  · rw [htwin, e]
  · rw [htwin, e]
    exact hs
  · rw [htwin, e]
  · rw [e]
    exact ⟨fun r hr => takeImage_tau _ hr, fun r i x hr hi hx hsh => takeImage_slot _ hr hi hx hsh,
      fun r hr hv => takeImage_owner _ hr hv, fun r hr => takeImage_session _ hr⟩

theorem twinImageReceive_bad {im : TwinImage} (hc : im.crcOk = false) : exec (.twinImageReceive (some im)) s
    = .next (putTwin (twinGot s) { s.ine.twin with misses := s.ine.twin.misses + 1 }) := by
  obtain ⟨d, c, e⟩ := twinGot_form s
  refine congrArg Host.Outcome.next ?_
  unfold imageReceive
  rw [if_neg (not_not.2 hs)]
  dsimp only [Option.isSome]
  rw [hc, if_neg Bool.false_ne_true, if_pos rfl, e]

theorem twinImageReceive_missed : exec (.twinImageReceive none) s
    = .next (putTwin s { s.ine.twin with misses := s.ine.twin.misses + 1 }) :=
  congrArg Host.Outcome.next (if_neg (not_not.2 hs))

end standby

theorem twinImageReceive_idle {s : State} (im : Option TwinImage) (hs : s.ine.twin.state ≠ .standby) :
    exec (.twinImageReceive im) s = .next s :=
  congrArg Host.Outcome.next (if_pos hs)

theorem twinSyncTimeout_idle {s : State} (hs : s.ine.twin.state ≠ .syncing) : exec .twinSyncTimeout s = .next s :=
  congrArg Host.Outcome.next (if_pos hs)

theorem twinFullTransferDone_idle {s : State} (im : TwinImage) (hs : s.ine.twin.state ≠ .syncing) :
    exec (.twinFullTransferDone im) s = .next (if s.ine.twin.state = .active then
      putTwin s { s.ine.twin with imagesOn := true } else twinGot s) := by
  obtain ⟨d, c, e⟩ := twinGot_form s
  have hgot : (twinGot s).ine.twin.state ≠ .syncing := by
    rw [e]
    exact hs
  refine congrArg Host.Outcome.next ?_
  unfold fullDone
  dsimp only
  rw [if_neg (c := _ ∧ _) fun h => hgot h.1]

theorem twinFullTransferDone_standby {s : State} {im : TwinImage} (hs : s.ine.twin.state = .syncing) (hc : im.crcOk = true)
    (ht : s.mono ≤ s.ine.twin.syncAt + 2000000000) (hn : s.ine.state ≠ .standard) : ∃ t,
    exec (.twinFullTransferDone im) s = .next t ∧ t.ine.twin.state = .standby ∧ t.ine.twin.requested = false
      ∧ t.ine.twin.image = some im := by
  obtain ⟨d, c, e⟩ := twinGot_form s
  let u := twinEnter (takeImage (twinGot s) im) .standby
  let v := putTwin u { u.ine.twin with requested := false }
  have hdone : fullDone im s = bbHold v := by
    unfold fullDone
    rw [if_neg (by rw [hs]; decide)]
    refine if_pos ?_
    rw [e]
    exact ⟨hs, hc, ht⟩
  obtain ⟨htwin, hstate, -⟩ := takeImage_ine (twinGot s) im
  have hfree : bbHold v = v := by
    refine bbHold_free (.inl ?_)
    have hv : v.ine.state = (takeImage (twinGot s) im).ine.state := rfl
    rw [hv, hstate, e]
    exact hn
  refine ⟨v, congrArg Host.Outcome.next (hdone.trans hfree), rfl, rfl, ?_⟩
  have hv : v.ine.twin.image = (takeImage (twinGot s) im).ine.twin.image := rfl
  rw [hv, htwin]

/-! ## Mirrored commits (R215) -/

theorem getElem?_modAt_other {α : Type} (l : List α) {i j : Nat} (f : α → α) (h : j ≠ i) : (modAt l i f)[j]? = l[j]? := by
  induction l generalizing i j with
  | nil => rfl
  | cons a r ih =>
    cases i with
    | zero =>
      cases j with
      | zero => exact absurd rfl h
      | succ n => rfl
    | succ k =>
      cases j with
      | zero => rfl
      | succ n => exact ih fun hn => h (congrArg Nat.succ hn)

section mirrored

variable {s : State} {k i : Nat} {x : TxSlot} (w : Word) (hi : slotIndex s k = some i) (hx : s.css.slots[i]? = some x)
include hi hx

theorem twinMirrorReceive_foreign (d : Bytes) (hs : x.shared = false) :
    exec (.twinMirrorReceive k w (some d)) s = .next (twinGot s) := by
  obtain ⟨dr, c, e⟩ := twinGot_form s
  refine congrArg Host.Outcome.next ?_
  unfold mirrorReceive
  rw [hi]
  dsimp only
  rw [if_neg]
  rw [e]
  simp [hx, hs]

theorem twinMirrorReceive_stores (d : Bytes) (hs : x.shared = true) : ∃ t, exec (.twinMirrorReceive k w (some d)) s = .next t
    ∧ t.wire = s.wire ++ [.twinMirrorAck k]
    ∧ t.css.slots[i]? = some { x with prodSeq := w, dataSeq := w, data := d, ready := true, commitAt := s.mono }
    ∧ ∀ j, j ≠ i → t.css.slots[j]? = s.css.slots[j]? := by
  obtain ⟨dr, c, e⟩ := twinGot_form s
  let u := modSlot (twinGot s) i fun x =>
    { x with prodSeq := w, dataSeq := w, data := d, ready := true, commitAt := (twinGot s).mono }
  have hstored : mirrorReceive k w (some d) s = twinSend u (.twinMirrorAck k) := by
    unfold mirrorReceive
    rw [hi]
    refine if_pos ?_
    rw [e]
    simp [hx, hs]
  obtain ⟨dr', c', e'⟩ := twinSend_form u (.twinMirrorAck k)
  have hslots : u.css.slots = modAt s.css.slots i fun x =>
      { x with prodSeq := w, dataSeq := w, data := d, ready := true, commitAt := s.mono } := by
    simp only [u, modSlot, e]
  have hwire : u.wire = s.wire := by simp only [u, modSlot, e]
  refine ⟨_, congrArg Host.Outcome.next hstored, ?_⟩
  rw [e']
  refine ⟨by rw [hwire], ?_, fun j hj => ?_⟩
  · change u.css.slots[i]? = _
    rw [hslots, getElem?_modAt_self, hx]
    rfl
  · change u.css.slots[j]? = _
    rw [hslots, getElem?_modAt_other _ _ hj]

theorem twinMirrorReceive_acknowledged {d : Bytes} (hm : x.mirrored = some d) (hw : x.prodSeq = w) : ∃ t,
    exec (.twinMirrorReceive k w none) s = .next t
    ∧ t.css.slots[i]? = some (if s.mono ≤ x.commitAt + 10000 then
        { x with dataSeq := w, data := d, ready := true, mirrored := none } else x)
    ∧ (∀ j, j ≠ i → t.css.slots[j]? = s.css.slots[j]?) ∧ t.wire = s.wire := by
  obtain ⟨dr, c, e⟩ := twinGot_form s
  have hacked : ∃ f, mirrorReceive k w none s = modSlot (twinGot s) i f
      ∧ f x = if s.mono ≤ x.commitAt + 10000 then
        { x with dataSeq := w, data := d, ready := true, mirrored := none } else x := by
    unfold mirrorReceive
    rw [hi, e]
    refine ⟨_, rfl, ?_⟩
    dsimp only
    rw [hm]
    simp only [hw, true_and]
  obtain ⟨f, hf, hfx⟩ := hacked
  refine ⟨_, congrArg Host.Outcome.next hf, ?_⟩
  rw [e]
  refine ⟨?_, fun j hj => getElem?_modAt_other _ _ hj, rfl⟩
  change (modAt s.css.slots i f)[i]? = _
  rw [getElem?_modAt_self, hx, Option.map_some, hfx]

end mirrored

/-- Settles O41: each clause is the lemma of its transition above. -/
theorem twinPairTransitions : Obligations.TwinPairTransitions := by
  unfold Obligations.TwinPairTransitions
  refine ⟨fun h s recs x ha hr hup => twinConfig_sets ha hr hup, fun h s ha hi hs => twinSwap_falls_due ha hi hs,
    fun s hs hup hf hon hdue => twinImageSend_sends hs hup hf hon hdue, fun s x => ?_,
    fun s hs hup hf hon hp ho hb => twinImageSend_skips hs hup hf hon hp ho hb,
    fun s hs => ⟨twinImageSend_idle hs, fun ha => fullTransferRequest_idle hs ha⟩,
    fun s im => ⟨fun hs => twinImageReceive_idle im hs,
      fun hs => ⟨twinSyncTimeout_idle hs, fun i => twinFullTransferDone_idle i hs⟩⟩,
    fun s im hs => ⟨fun hc => twinImageReceive_keeps hs hc, fun hc => twinImageReceive_bad hs hc, twinImageReceive_missed hs⟩,
    fun s im hs hc ht hn => twinFullTransferDone_standby hs hc ht hn, fun s hs hl => twinSyncTimeout_asks hs hl,
    fun s hs => twinPartnerTimeout_active hs, fun s hs => twinPartnerTimeout_standby hs,
    fun s hs hp hready hup => twinUnpairedTimeout_alone hs hp hready hup, fun s hs => twinSwapDue_falls_due hs,
    fun s hb hd hs => twinBoundary_swaps hb hd hs, fun s r hb => twinBoundary_moves hb, fun s hs => twinSwapSkip_reports hs,
    fun s k i x w hi hx => ⟨fun hs d => twinMirrorReceive_foreign w hi hx d hs,
      fun hs d => twinMirrorReceive_stores w hi hx d hs, fun d hm hw => twinMirrorReceive_acknowledged w hi hx hm hw⟩,
    fun s => ⟨fun hs => fullTransferRequest_alone hs, fun hs => fullTransferRequest_active hs⟩⟩
  obtain ⟨d, c, esend⟩ := twinSend_form s x
  obtain ⟨d', c', egot⟩ := twinGot_form s
  rw [esend, egot]
  exact ⟨rfl, rfl, rfl, rfl⟩

end Sys2Proof.Proofs
end

section
/-! SUPPORT. HELLO: what a HELLO sent, received or confirmed leaves of the exchange of its port and of the others (R199, R202). -/

namespace Sys2Proof.Proofs

open Sys2Proof Sys2Proof.Machine

/-! ## Streams that carry again leave the INE (R161) -/

theorem ineView_mgpSends (s : State) (via : Option Nat) (x : Sent) : ineView (mgpSends s via x) = ineView s := by
  cases via <;> simp [ineView, emit]

theorem ineView_hopUp (s : State) (o : OriginStream) (k : Nat) : ineView (hopUp s o k) = ineView s := by
  unfold hopUp
  split
  · rfl
  · dsimp only
    (repeat' split) <;> simp [ineView, streamEvent, mirrorState, mirrorLocal, putOrigin]

theorem ineView_hopDown (s : State) (o : OriginStream) (k : Nat) : ineView (hopDown s o k) = ineView s := by
  unfold hopDown
  split
  · rfl
  · dsimp only
    split <;> simp [ineView, suspend, streamEvent, mirrorState, mirrorLocal, putOrigin]

theorem ineView_markStreams (s : State) (p : Nat) (down : Bool) : ineView (markStreams s p down) = ineView s := by
  refine foldl_keeps ineView _ (fun s e => ?_) _ s
  split
  · rfl
  · split
    · rfl
    · dsimp only
      split
      · rw [ineView_mgpSends]; rfl
      · split
        · rw [apply_ite ineView, ineView_hopDown, ineView_hopUp, ite_self]; rfl
        · rfl

theorem ineView_streamsBack (s : State) : ineView (streamsBack s) = ineView s := by
  refine foldl_keeps ineView _ (fun s p => ?_) _ s
  split
  · exact ineView_markStreams ..
  · rfl

theorem streamsBack_ine (s : State) : (streamsBack s).ine = s.ine := congrArg Prod.fst (ineView_streamsBack s)

/-! ## The exchange of a port -/

/-- The exchange of each port is in the INE. -/
theorem helloOf_congr {s t : State} (h : t.ine.hello = s.ine.hello) (p : Nat) : helloOf t p = helloOf s p := by
  unfold helloOf
  rw [h]

/-- All that a frame received changes. -/
theorem gotSent_form (s : State) (p : Nat) (x : Sent) : ∃ c, gotSent s p x = { s with ports := { s.ports with counters := c } } :=
  countGot_counters ..

theorem ownTable_length (s : State) : (ownTable s).length = if s.ine.nodes.isEmpty then 1 else s.ine.nodes.length := by
  unfold ownTable
  split
  · rfl
  · exact List.length_map ..

/-- A state of INE_STATUS entered on a condition leaves exchanges and alarms. -/
theorem putIneIf_keeps (s : State) (x : IneState) (c : Prop) [Decidable c] :
    (if c then putIne s x else s).ine.hello = s.ine.hello ∧ (if c then putIne s x else s).ine.alarm = s.ine.alarm := by
  split <;> exact ⟨rfl, rfl⟩

/-! ## HELLO_SEND (R199) -/

/-- The exchange of a port after one more HELLO sent at its next instant. -/
def helloSentOn (s : State) (p : Nat) : HelloLink :=
  { helloOf s p with
    seq := (helloOf s p).seq + 1
    sentAt := some (max s.mono (nextBeat (helloOf s p).sentAt 100000 s.mono))
    echoed := if (helloOf s p).partner = 0 then 0 else (helloOf s p).echoed + 1 }

theorem helloSend_sends {s : State} {p : Nat} (hp : p < 4) (hup : linkIsUp s p = true) (hr : (helloOf s p).running = true)
    (hc : (helloOf s p).confirmed = false) (hf : (helloOf s p).fabricUp = false) : ∃ t m, exec (.helloSend p) s
      = .next (if bothHeard (helloSentOn s p) then helloConfirmed t p else t) ∧ t.wire = s.wire ++ [.hello m]
      ∧ m.port = p ∧ m.fast = true ∧ m.seq = (helloOf s p).seq + 1 ∧ m.echo.toNat = (helloOf s p).rxSeq.toNat % 65536
      ∧ m.hdr.senderId = nodeUnit s ∧ m.hdr.version = 1 ∧ t.mono = max s.mono (nextBeat (helloOf s p).sentAt 100000 s.mono)
      ∧ helloOf t p = helloSentOn s p ∧ (∀ q, q ≠ p → helloOf t q = helloOf s q) ∧ t.ine.state = s.ine.state
      ∧ t.css = s.css := by
  let u := untilMono s (nextBeat (helloOf s p).sentAt 100000 s.mono)
  have hmono : u.mono = max s.mono (nextBeat (helloOf s p).sentAt 100000 s.mono) := untilMono_mono ..
  have hine : u.ine = s.ine := untilMono_ine ..
  let m : Hello :=
    { hdr := inaugHdr u (lineOf p == .b), fast := true, standard := u.ine.identNext.mode == 2, port := p
      nodeCount := (ownTable u).length, leaderId := u.tms.leaderId, seq := (helloOf s p).seq + 1
      echo := BitVec.ofNat 16 (helloOf s p).rxSeq.toNat }
  let t := emit (countSent (putHello u p (helloSentOn s p)) p 64) (.hello m)
  have hsent : helloSendEffect p s = if bothHeard (helloSentOn s p) then helloConfirmed t p else t := by
    have hy : ({ helloOf s p with
        seq := (helloOf s p).seq + 1
        sentAt := some u.mono
        echoed := if (helloOf s p).partner = 0 then 0 else (helloOf s p).echoed + 1 } : HelloLink) = helloSentOn s p := by
      rw [hmono]
      rfl
    unfold helloSendEffect
    rw [if_neg (by simp [hup, hr, hc, hf, hp])]
    dsimp only
    rw [hy]
  have htine : t.ine = (putHello u p (helloSentOn s p)).ine := by simp [t, emit]
  have hunit : nodeUnit u = nodeUnit s := by simp [nodeUnit, u]
  refine ⟨t, m, congrArg Host.Outcome.next hsent, ?_, rfl, rfl, rfl, BitVec.toNat_ofNat .., hunit, rfl, ?_, ?_, fun q hq => ?_, ?_, ?_⟩
  · simp [t, emit, putHello, u]
  · rw [← hmono]
    simp [t, emit, putHello]
  · rw [helloOf_congr (congrArg Ine.hello htine), helloOf_putHello_self]
  · rw [helloOf_congr (congrArg Ine.hello htine), helloOf_putHello_other _ _ hq, helloOf_congr (congrArg Ine.hello hine)]
  · rw [htine]
    exact (congrArg Ine.state hine : u.ine.state = s.ine.state)
  · simp [t, emit, putHello, u]

theorem helloSend_idle {s : State} {p : Nat} (h : 4 ≤ p ∨ linkIsUp s p = false ∨ (helloOf s p).running = false) :
    exec (.helloSend p) s = .next s := by
  refine congrArg Host.Outcome.next (if_pos ?_)
  rcases h with h | h | h <;> simp [h]

/-! ## A confirmed link (R199, R202, Table 8-7) -/

/-- The exchange of a port once its link is confirmed. -/
def confirmedOn (s : State) (p : Nat) : HelloLink := { helloOf s p with confirmed := true, running := false }

section sameTrain

variable {s : State} {p : Nat} (hl : (helloOf s p).leader = s.tms.leaderId) (he : (helloOf s p).epoch = s.tms.domainEpoch)
  (ht : (helloOf s p).topo = s.ine.topo)
include hl he ht

/-- What is done with a link within the train. -/
theorem helloConfirmed_sameTrain : helloConfirmed s p
    = if inaugurating s && s.ine.state != .hello then
        putHello (putHello s p (confirmedOn s p)) p { confirmedOn s p with held := true }
      else
        let w := streamsBack (setAlarm (putHello (putHello s p (confirmedOn s p)) p { confirmedOn s p with fabricUp := true }) .ine 0)
        if w.ine.state = .hello && !(helloOn w) then putIne w .idle else w := by
  unfold helloConfirmed
  refine (if_pos ?_).trans rfl
  simp [putHello, hl, he, ht]

/-- A link within the train is held while an inauguration runs. -/
theorem helloConfirmed_held (hi : inaugurating s = true) (hs : s.ine.state ≠ .hello) :
    helloConfirmed s p = putHello (putHello s p (confirmedOn s p)) p { confirmedOn s p with held := true } := by
  exact (helloConfirmed_sameTrain hl he ht).trans (if_pos (by simp [hi, hs]))

/-- A link within the train joins otherwise. -/
theorem helloConfirmed_joins (hi : inaugurating s = false ∨ s.ine.state = .hello) :
    (∀ q, helloOf (helloConfirmed s p) q
      = helloOf (putHello (putHello s p (confirmedOn s p)) p { confirmedOn s p with fabricUp := true }) q)
    ∧ bitAt (alarmOf (helloConfirmed s p) .ine) 0 = true := by
  let v := putHello (putHello s p (confirmedOn s p)) p { confirmedOn s p with fabricUp := true }
  let w := streamsBack (setAlarm v .ine 0)
  have hjoin : helloConfirmed s p = if w.ine.state = .hello && !(helloOn w) then putIne w .idle else w := by
    refine (helloConfirmed_sameTrain hl he ht).trans (if_neg ?_)
    rcases hi with hi | hi <;> simp [hi]
  have hw : w.ine = { v.ine with alarm := setBit v.ine.alarm 0 true } :=
    (streamsBack_ine (setAlarm v .ine 0)).trans (congrArg State.ine (setAlarm_ine_form v 0))
  obtain ⟨hhello, halarm⟩ := putIneIf_keeps w .idle (w.ine.state = .hello && !(helloOn w))
  rw [hjoin]
  refine ⟨helloOf_congr (hhello.trans (by rw [hw])), ?_⟩
  unfold alarmOf
  rw [halarm, hw]
  exact bitAt_setBit_self _ 0 (by decide)

end sameTrain

/-- A link to another train is a coupling. -/
theorem helloConfirmed_couples {s : State} {p : Nat} (hl : (helloOf s p).leader ≠ s.tms.leaderId) :
    helloConfirmed s p = couple (putHello s p (confirmedOn s p)) p := by
  unfold helloConfirmed
  refine if_neg ?_
  simp [putHello, hl]

/-- Phase 2 begins with the coupling of an idle node, or of one with a stable topology of standard mode and auto mode. -/
theorem couple_begins {s : State} {p : Nat} (hn : (ownTable s).length + (helloOf s p).nodes ≤ 63)
    (hi : s.ine.inhibited = false)
    (hs : s.ine.state = .idle ∨ s.ine.state = .hello ∨ s.ine.state = .held ∨ autoStable s = true) :
    (couple s p).ine.state = .topology ∧ (couple s p).ine.run.couplers = [p] ∧ (couple s p).ine.run.merge = true
    ∧ (couple s p).ine.run.otherEpoch = (helloOf s p).epoch ∧ (couple s p).ine.run.seq = s.ine.run.seq + 1
    ∧ (couple s p).ine.ident = s.ine.identNext ∧ (couple s p).ine.hello = s.ine.hello
    ∧ bitAt (alarmOf (couple s p) .ine) 1 = true := by
  let a := inaugBegin s true (helloOf s p).upAt
  let b := putRun a { a.ine.run with couplers := [p], otherEpoch := (helloOf s p).epoch }
  let c := putRun b { b.ine.run with own := ownTable b }
  have hcouple : couple s p = sendTable c [p] c.ine.run.own := by
    unfold couple
    dsimp only
    rw [if_neg (Nat.not_lt.2 hn), hi, if_neg Bool.false_ne_true, if_pos]
    rcases hs with h | h | h | h <;> simp [h]
  have hine : (couple s p).ine = c.ine := by
    rw [hcouple]
    exact (sendsOnly_sendTable c [p] c.ine.run.own).ine
  have hbegun : a.ine.state = .topology ∧ a.ine.run.merge = true ∧ a.ine.run.seq = s.ine.run.seq + 1
      ∧ a.ine.ident = s.ine.identNext ∧ a.ine.hello = s.ine.hello ∧ bitAt a.ine.alarm 1 = true := by
    simp only [a, inaugBegin]
    rw [setAlarm_ine_form]
    exact ⟨rfl, rfl, rfl, rfl, rfl, bitAt_setBit_self _ 1 (by decide)⟩
  obtain ⟨hstate, hmerge, hseq, hident, hhello, halarm⟩ := hbegun
  have hreg : alarmOf (couple s p) .ine = c.ine.alarm := congrArg Ine.alarm hine
  rw [hreg, hine]
  exact ⟨hstate, rfl, hmerge, rfl, hseq, hident, hhello, halarm⟩

/-- INAUG_INHIBIT holds a coupling (Table 8-2). -/
theorem couple_inhibited {s : State} {p : Nat} (hn : (ownTable s).length + (helloOf s p).nodes ≤ 63)
    (hi : s.ine.inhibited = true) (hs : s.ine.state = .hello) : couple s p = putIne s .held := by
  unfold couple
  dsimp only
  rw [if_neg (Nat.not_lt.2 hn), hi, if_pos rfl, hs]
  rfl

/-! ## HELLO_RECEIVE (R199) -/

/-- The exchange of a port after a HELLO heard there. -/
def helloHeardOn (x : HelloLink) (m : Hello) : HelloLink :=
  let same := x.partner == m.hdr.senderId
  let echoes := m.echo == BitVec.ofNat 16 x.seq.toNat && x.seq != 0
  { x with
    partner := m.hdr.senderId, rxSeq := m.seq, run := if echoes then (if same then x.run + 1 else 1) else 0
    nodes := m.nodeCount, leader := m.leaderId, epoch := m.hdr.domainEpoch, topo := m.hdr.topoCount, ttdp := false
    echoed := if !same then 0 else if echoes then x.echoed else x.echoed - 1 }

/-- An echo that matches is counted by `run`, one that does not sets it to 0, so that `run` tells which it was. -/
theorem helloHeardOn_eq {x : HelloLink} {m : Hello} {k e : Nat}
    (hk : k = (if (m.echo == BitVec.ofNat 16 x.seq.toNat && x.seq != 0) = true then
      (if x.partner = m.hdr.senderId then x.run + 1 else 1) else 0))
    (he : e = (if x.partner = m.hdr.senderId then (if k = 0 then x.echoed - 1 else x.echoed) else 0)) :
    helloHeardOn x m = { x with
      partner := m.hdr.senderId, rxSeq := m.seq, run := k, nodes := m.nodeCount, leader := m.leaderId
      epoch := m.hdr.domainEpoch, topo := m.hdr.topoCount, ttdp := false, echoed := e } := by
  unfold helloHeardOn
  dsimp only
  subst he hk
  by_cases hsame : x.partner = m.hdr.senderId
  · cases hecho : m.echo == BitVec.ofNat 16 x.seq.toNat && x.seq != 0 <;> simp [hsame]
  · simp [hsame]

theorem helloReceive_down {s : State} {p : Nat} (m : Hello) (h : 4 ≤ p ∨ linkIsUp s p = false) :
    exec (.helloReceive p m) s = .next s := by
  refine congrArg Host.Outcome.next (if_pos ?_)
  rcases h with h | h <;> simp [h]

/-- A HELLO has been counted at its port, and the exchange there is `y`. -/
def heardAt (s : State) (p : Nat) (m : Hello) (y : HelloLink) : State := putHello (gotSent s p (.hello m)) p y

theorem heardAt_keeps (s : State) (p : Nat) (m : Hello) (y : HelloLink) :
    (heardAt s p m y).ine = { s.ine with hello := tset {} s.ine.hello p y } ∧ (heardAt s p m y).tms = s.tms
    ∧ (heardAt s p m y).css = s.css ∧ (heardAt s p m y).wire = s.wire := by
  obtain ⟨c, e⟩ := gotSent_form s p (.hello m)
  unfold heardAt
  rw [e]
  exact ⟨rfl, rfl, rfl, rfl⟩

theorem helloOf_heardAt_self (s : State) (p : Nat) (m : Hello) (y : HelloLink) : helloOf (heardAt s p m y) p = y :=
  helloOf_putHello_self ..

theorem helloOf_heardAt_other (s : State) {p q : Nat} (m : Hello) (y : HelloLink) (h : q ≠ p) :
    helloOf (heardAt s p m y) q = helloOf s q := by
  have hgot : (gotSent s p (.hello m)).ine.hello = s.ine.hello := by simp
  rw [heardAt, helloOf_putHello_other _ _ h, helloOf_congr hgot]

theorem inaugurating_heardAt (s : State) (p : Nat) (m : Hello) (y : HelloLink) :
    inaugurating (heardAt s p m y) = inaugurating s := by
  unfold inaugurating
  rw [(heardAt_keeps s p m y).1]

section hears

variable {s : State} {p : Nat} {m : Hello} (hp : p < 4) (hup : linkIsUp s p = true)
include hp hup

/-- What is done with a HELLO on a link that is up. -/
theorem helloReceiveEffect_up : helloReceiveEffect p m s
    = if (helloOf s p).fabricUp || !(helloOf s p).running || m.hdr.version != 1 then gotSent s p (.hello m)
      else
        let t := heardAt s p m (helloHeardOn (helloOf s p) m)
        if bothHeard (helloHeardOn (helloOf s p) m) then helloConfirmed t p else t := by
  unfold helloReceiveEffect
  rw [if_neg (by simp [hup, hp])]
  rfl

theorem helloReceive_counts (h : (helloOf s p).running = false ∨ (helloOf s p).fabricUp = true ∨ m.hdr.version ≠ 1) :
    exec (.helloReceive p m) s = .next (gotSent s p (.hello m)) := by
  refine congrArg Host.Outcome.next ((helloReceiveEffect_up hp hup).trans (if_pos ?_))
  rcases h with h | h | h <;> simp [h]

variable (hr : (helloOf s p).running = true) (hf : (helloOf s p).fabricUp = false) (hv : m.hdr.version = 1)
  {y : HelloLink} (hy : helloHeardOn (helloOf s p) m = y)
include hr hf hv hy

theorem helloReceive_hears : exec (.helloReceive p m) s
    = .next (if bothHeard y then helloConfirmed (heardAt s p m y) p else heardAt s p m y) := by
  refine congrArg Host.Outcome.next ((helloReceiveEffect_up hp hup).trans ?_)
  rw [if_neg (by simp [hr, hf, hv]), hy]

theorem helloReceive_keeps (hb : bothHeard y = false) : ∃ t, exec (.helloReceive p m) s = .next t ∧ helloOf t p = y
    ∧ (∀ q, q ≠ p → helloOf t q = helloOf s q) ∧ t.wire = s.wire ∧ t.tms = s.tms := by
  obtain ⟨-, htms, -, hwire⟩ := heardAt_keeps s p m y
  refine ⟨heardAt s p m y, ?_, helloOf_heardAt_self .., fun q hq => helloOf_heardAt_other s m y hq, hwire, htms⟩
  rw [helloReceive_hears hp hup hr hf hv hy, hb, if_neg Bool.false_ne_true]

variable (hb : bothHeard y = true)
include hb

theorem helloReceive_confirms : exec (.helloReceive p m) s = .next (helloConfirmed (heardAt s p m y) p) := by
  rw [helloReceive_hears hp hup hr hf hv hy, hb, if_pos rfl]

theorem helloReceive_joins (hl : y.leader = s.tms.leaderId) (he : y.epoch = s.tms.domainEpoch) (ht : y.topo = s.ine.topo)
    (hi : inaugurating s = false ∨ s.ine.state = .hello) : ∃ t, exec (.helloReceive p m) s = .next t
      ∧ (helloOf t p).fabricUp = true ∧ (helloOf t p).confirmed = true ∧ (helloOf t p).running = false
      ∧ bitAt (alarmOf t .ine) 0 = true ∧ ∀ q, q ≠ p → helloOf t q = helloOf s q := by
  obtain ⟨hine, htms, -⟩ := heardAt_keeps s p m y
  have hself := helloOf_heardAt_self s p m y
  obtain ⟨hello, hbit⟩ := helloConfirmed_joins (s := heardAt s p m y) (p := p) (by rw [hself, htms, hl]) (by rw [hself, htms, he])
    (by rw [hself, hine, ht]) (by rw [inaugurating_heardAt, hine]; exact hi)
  refine ⟨_, helloReceive_confirms hp hup hr hf hv hy hb, ?_⟩
  have hport := hello p
  rw [helloOf_putHello_self] at hport
  rw [hport]
  refine ⟨rfl, rfl, rfl, hbit, fun q hq => ?_⟩
  rw [hello, helloOf_putHello_other _ _ hq, helloOf_putHello_other _ _ hq, helloOf_heardAt_other s m y hq]

theorem helloReceive_held (hl : y.leader = s.tms.leaderId) (he : y.epoch = s.tms.domainEpoch) (ht : y.topo = s.ine.topo)
    (hi : inaugurating s = true) (hs : s.ine.state ≠ .hello) : ∃ t, exec (.helloReceive p m) s = .next t
      ∧ helloOf t p = { y with confirmed := true, running := false, held := true } ∧ t.ine.state = s.ine.state
      ∧ ∀ q, q ≠ p → helloOf t q = helloOf s q := by
  obtain ⟨hine, htms, -⟩ := heardAt_keeps s p m y
  have hself := helloOf_heardAt_self s p m y
  have hheld := helloConfirmed_held (s := heardAt s p m y) (p := p) (by rw [hself, htms, hl]) (by rw [hself, htms, he])
    (by rw [hself, hine, ht]) (by rw [inaugurating_heardAt]; exact hi) (by rw [hine]; exact hs)
  refine ⟨_, (helloReceive_confirms hp hup hr hf hv hy hb).trans (congrArg Host.Outcome.next hheld), ?_, ?_, fun q hq => ?_⟩
  · rw [helloOf_putHello_self, confirmedOn, hself]
  · simp only [putHello, hine]
  · rw [helloOf_putHello_other _ _ hq, helloOf_putHello_other _ _ hq, helloOf_heardAt_other s m y hq]

section coupling

variable (hl : y.leader ≠ s.tms.leaderId) (hn : (ownTable s).length + y.nodes ≤ 63)
include hl hn

/-- A link to another train is a coupling of the exchange heard. -/
theorem helloReceive_couples : ∃ u, exec (.helloReceive p m) s = .next (couple u p)
    ∧ helloOf u p = { y with confirmed := true, running := false } ∧ (∃ h, u.ine = { s.ine with hello := h })
    ∧ u.tms = s.tms ∧ u.css = s.css ∧ (ownTable u).length + (helloOf u p).nodes ≤ 63 := by
  obtain ⟨hine, htms, hcss, -⟩ := heardAt_keeps s p m y
  have hself := helloOf_heardAt_self s p m y
  have hcouples := helloConfirmed_couples (s := heardAt s p m y) (p := p) (by rw [hself, htms]; exact hl)
  let u := putHello (heardAt s p m y) p (confirmedOn (heardAt s p m y) p)
  have huine : ∃ h, u.ine = { s.ine with hello := h } := by
    simp only [u, putHello, hine]
    exact ⟨_, rfl⟩
  have hport : helloOf u p = { y with confirmed := true, running := false } := by
    simp only [u]
    rw [helloOf_putHello_self, confirmedOn, hself]
  refine ⟨u, (helloReceive_confirms hp hup hr hf hv hy hb).trans (congrArg Host.Outcome.next hcouples), hport, huine, htms, hcss, ?_⟩
  obtain ⟨h, e⟩ := huine
  rw [hport, ownTable_length, e, ← ownTable_length s]
  exact hn

theorem helloReceive_begins (hi : s.ine.inhibited = false)
    (hs : s.ine.state = .idle ∨ s.ine.state = .hello ∨ s.ine.state = .held ∨ autoStable s = true) : ∃ t,
    exec (.helloReceive p m) s = .next t ∧ t.ine.state = .topology ∧ t.ine.run.couplers = [p] ∧ t.ine.run.merge = true
      ∧ t.ine.run.otherEpoch = y.epoch ∧ t.ine.run.seq = s.ine.run.seq + 1 ∧ t.ine.ident = s.ine.identNext
      ∧ (helloOf t p).fabricUp = false ∧ bitAt (alarmOf t .ine) 1 = true := by
  obtain ⟨u, hexec, hport, ⟨h, hine⟩, -, -, hlen⟩ := helloReceive_couples hp hup hr hf hv hy hb hl hn
  have hauto : autoStable u = autoStable s := by
    unfold autoStable
    rw [hine]
  have hstates : u.ine.state = .idle ∨ u.ine.state = .hello ∨ u.ine.state = .held ∨ autoStable u = true := by
    rw [hauto, hine]
    exact hs
  obtain ⟨hstate, hcouplers, hmerge, hepoch, hseq, hident, hhello, hbit⟩ := couple_begins hlen (by rw [hine]; exact hi) hstates
  refine ⟨couple u p, hexec, hstate, hcouplers, hmerge, ?_, ?_, ?_, ?_, hbit⟩
  · rw [hepoch, hport]
  · rw [hseq, hine]
  · rw [hident, hine]
  · rw [helloOf_congr hhello, hport]
    subst hy
    exact hf

theorem helloReceive_inhibited (hi : s.ine.inhibited = true) (hs : s.ine.state = .hello) : ∃ t,
    exec (.helloReceive p m) s = .next t ∧ t.ine.state = .held ∧ t.ine.run = s.ine.run ∧ t.css = s.css ∧ t.tms = s.tms := by
  obtain ⟨u, hexec, -, ⟨h, hine⟩, htms, hcss, hlen⟩ := helloReceive_couples hp hup hr hf hv hy hb hl hn
  have hheld := couple_inhibited hlen (by rw [hine]; exact hi) (by rw [hine]; exact hs)
  exact ⟨putIne u .held, hexec.trans (congrArg Host.Outcome.next hheld), rfl, by simp only [putIne, hine], hcss, htms⟩

end coupling

end hears

end Sys2Proof.Proofs
end

section
/-! SUPPORT. Standard mode and the hold-off after DISAGREE: the fall-back, a stable topology, HELLO started again, and the obligation
about them (O38). -/

namespace Sys2Proof.Proofs

open Sys2Proof Sys2Proof.Machine

/-! ## One step for each of some ports -/

/-- A step for each port of a list brings what it brings to its own port, where no step takes that away again or ends the condition
it rests on. -/
theorem foldl_reaches {f : State → Nat → State} {C P : State → Nat → Prop} (hreach : ∀ s p, C s p → P (f s p) p)
    (hcond : ∀ s p q, C s q → C (f s p) q) (hkeep : ∀ s p q, P s q → P (f s p) q) {l : List Nat} {s : State} {q : Nat}
    (hq : q ∈ l) (hc : C s q) : P (l.foldl f s) q := by
  have hstays : ∀ (l : List Nat) (s : State), P s q → P (l.foldl f s) q := fun l s h =>
    List.foldlRecOn (motive := fun t => P t q) l f h fun t ht p _ => hkeep t p q ht
  induction l generalizing s with
  | nil => exact absurd hq List.not_mem_nil
  | cons p r ih =>
    rcases List.mem_cons.1 hq with rfl | hq
    · exact hstays r _ (hreach s q hc)
    · exact ih hq (hcond s p q hc)

/-! ## TTDP_FALLBACK (R195) -/

/-- All that exchanges written change is in the INE. -/
theorem putHello_foldl_form (g : HelloLink → HelloLink) (l : List Nat) (s : State) : ∃ h : Table HelloLink,
    l.foldl (fun s p => putHello s p (g (helloOf s p))) s = { s with ine := { s.ine with hello := h } } := by
  refine List.foldlRecOn (motive := fun t => ∃ h : Table HelloLink, t = { s with ine := { s.ine with hello := h } }) _ _
    ⟨s.ine.hello, rfl⟩ ?_
  rintro _ ⟨h, rfl⟩ p -
  exact ⟨_, rfl⟩

theorem goStandard_enters {s : State} (h : s.ine.twin.state ≠ .standby) : (goStandard s).ine.state = .standard
    ∧ (goStandard s).ine.mode = 1 ∧ (goStandard s).ine.result = 6 ∧ (goStandard s).mono = s.mono := by
  obtain ⟨x, hx⟩ := putHello_foldl_form (fun x => { x with running := false, confirmed := false }) [0, 1, 2, 3] s
  let a := [0, 1, 2, 3].foldl (fun s p => putHello s p { helloOf s p with running := false, confirmed := false }) s
  have ha : a = { s with ine := { s.ine with hello := x } } := hx
  let b := { a with ine := { a.ine with
    state := .standard, mode := 1, result := 6, missing := 0, ident := a.ine.identNext
    run := { a.ine.run with couplers := [], joint := [], otherParts := {}, ownParts := {}, other := [], own := [], stable := false } } }
  let c := emitEach b ([0, 1, 2, 3].filter (linkIsUp b)) .ttdp
  have hsent : SendsOnly b c := sendsOnly_emitEach ..
  have htwin : c.ine.twin.state ≠ .standby := by
    rw [hsent.ine]
    simp only [b, ha]
    exact h
  have hgo : goStandard s = c := bbHold_free (.inr htwin)
  have hmono : c.mono = b.mono := hsent.keeps State.mono fun _ _ _ => rfl
  rw [hgo, hsent.ine, hmono]
  refine ⟨rfl, rfl, rfl, ?_⟩
  simp only [b, ha]

section fallback

variable {s : State} {p : Nat} (hp : p < 4) (hup : linkIsUp s p = true) (hr : (helloOf s p).running = true)
  (hn : (helloOf s p).partner = 0)
include hp hup hr hn

/-- In auto mode the node changes to standard mode. -/
theorem ttdpFallback_changes (hm : s.ine.identNext.mode = 2) (ht : s.ine.twin.state ≠ .standby) : ∃ t,
    exec (.ttdpFallback p) s = .next t ∧ t.ine.state = .standard ∧ t.ine.mode = 1 ∧ t.ine.result = 6
      ∧ t.mono = max s.mono ((helloOf s p).upAt + 2000000) := by
  let u := untilMono s ((helloOf s p).upAt + 2000000)
  have hine : u.ine = s.ine := untilMono_ine ..
  let v := inaugSend u fun h => .inaugAbort h 6
  have hsent : SendsOnly u v := sendsOnly_inaugSend ..
  have hfall : fallbackEffect p s = goStandard v := by
    unfold fallbackEffect
    rw [if_neg (by simp [hp, hup, hr, hn])]
    exact if_pos (by rw [hine]; exact hm)
  obtain ⟨hstate, hmode, hresult, hmono⟩ := goStandard_enters (s := v) (by rw [hsent.ine, hine]; exact ht)
  refine ⟨goStandard v, congrArg Host.Outcome.next hfall, hstate, hmode, hresult, hmono.trans ?_⟩
  rw [hsent.keeps State.mono fun _ _ _ => rfl]
  exact untilMono_mono ..

/-- In fast mode the port stays fabric-down, with an alarm. -/
theorem ttdpFallback_alarms (hm : s.ine.identNext.mode ≠ 2) : ∃ u, exec (.ttdpFallback p) s = .next (setAlarm u .ine 7)
    ∧ u.mono = max s.mono ((helloOf s p).upAt + 2000000) ∧ u.ine = s.ine := by
  have hine : (untilMono s ((helloOf s p).upAt + 2000000)).ine = s.ine := untilMono_ine ..
  refine ⟨untilMono s ((helloOf s p).upAt + 2000000), congrArg Host.Outcome.next ?_, untilMono_mono .., hine⟩
  unfold fallbackEffect
  rw [if_neg (by simp [hp, hup, hr, hn])]
  exact if_neg (by rw [hine]; exact hm)

end fallback

/-! ## A stable topology of standard mode (R196) -/

/-- What a numbering has set, and the bank that lookups use. -/
def trainView (s : State) : List NodeRec × Word × Bool × Word × Nat × Table HelloLink × Table LinkRec × Tms × Taus :=
  (s.ine.nodes, s.ine.topo, s.ine.run.stable, s.ine.count, s.ine.activeBank, s.ine.hello, s.ports.links, s.tms, s.tau)

theorem trainView_putBank (s : State) (b : Nat) (t : Table (Option AliasEntry)) : trainView (putBank s b t) = trainView s := by
  unfold putBank
  split <;> rfl

theorem trainView_buildAlias (s : State) (l : List NodeRec) : trainView (buildAlias s l) = trainView s := by
  unfold buildAlias
  dsimp only
  have halarm : ∀ u c, trainView (setAlarmIf u c .ine 5) = trainView u := fun u c => by
    cases c
    · rfl
    · rw [setAlarmIf, if_pos rfl, setAlarm_ine_form]
      rfl
  rw [halarm, trainView_putBank]
  rfl

/-- The train is numbered by the topology and the inactive bank is built from it; lookups have not switched yet. -/
def numberedBy (s : State) (l : List NodeRec) (w : Word) : State :=
  let t := takeNumbers (putRun (beginStandard s) { (beginStandard s).ine.run with stable := true }) l
  buildAlias { t with ine := { t.ine with topo := w } } l

theorem beginStandard_form (s : State) : ∃ i, beginStandard s = { s with ine := i } ∧ i.count = s.ine.count
    ∧ i.activeBank = s.ine.activeBank ∧ i.hello = s.ine.hello := by
  unfold beginStandard
  split <;> exact ⟨_, rfl, rfl, rfl, rfl⟩

theorem trainView_numberedBy (s : State) (l : List NodeRec) (w : Word) : trainView (numberedBy s l w)
    = (l, w, true, s.ine.count, s.ine.activeBank, s.ine.hello, s.ports.links, s.tms, s.tau) := by
  obtain ⟨i, e, hcount, hbank, hhello⟩ := beginStandard_form s
  unfold numberedBy
  dsimp only
  rw [trainView_buildAlias, e]
  unfold takeNumbers
  split
  all_goals
    simp only [trainView, putRun]
    rw [hcount, hbank, hhello]

/-- Lookups switch by TAU56 6 ms later, without a leader at once. -/
def switched (s : State) : State :=
  if s.tms.tsValid ∧ s.tms.trtState ≠ .none then armDevice s 56 6 (word (1 - s.ine.activeBank)) (trtNs s + 6000000)
  else aliasSwitch s (1 - s.ine.activeBank)

theorem switched_keeps (s : State) : (switched s).ine.nodes = s.ine.nodes ∧ (switched s).ine.topo = s.ine.topo
    ∧ (switched s).ine.run.stable = s.ine.run.stable ∧ (switched s).ine.count = s.ine.count
    ∧ (switched s).ports.links = s.ports.links := by
  unfold switched aliasSwitch
  dsimp only
  split
  · exact ⟨rfl, rfl, rfl, rfl, rfl⟩
  · split
    · unfold putBank
      split <;> exact ⟨rfl, rfl, rfl, rfl, rfl⟩
    · exact ⟨rfl, rfl, rfl, rfl, rfl⟩

theorem switched_at_once {s : State} (h : s.tms.trtState = .none) : (switched s).ine.activeBank = 1 - s.ine.activeBank := by
  unfold switched aliasSwitch
  rw [if_neg fun hc => hc.2 h]
  dsimp only
  split
  · unfold putBank
    split <;> rfl
  · rfl

theorem switched_armed {s : State} (hv : s.tms.tsValid = true) (h : s.tms.trtState ≠ .none) :
    (switched s).ine.activeBank = s.ine.activeBank ∧ (tauOf (switched s) 56).state = .armed
    ∧ (tauOf (switched s) 56).fire = (trtNs s + 6000000) * 65536
    ∧ (tauOf (switched s) 56).arg = word (1 - s.ine.activeBank) := by
  unfold switched
  rw [if_pos ⟨hv, h⟩]
  unfold armDevice
  rw [tauOf_putTau_self]
  exact ⟨rfl, rfl, rfl, rfl⟩

/-- A BB port that is up joins. -/
def joinPort (s : State) (q : Nat) : State := if linkIsUp s q then putHello s q { helloOf s q with fabricUp := true } else s

/-- Every BB port that is up joins. -/
def portsJoined (s : State) : State := [0, 1, 2, 3].foldl joinPort s

theorem joinPort_form (s : State) (q : Nat) : ∃ h : Table HelloLink, joinPort s q = { s with ine := { s.ine with hello := h } } := by
  unfold joinPort
  split
  · exact ⟨_, rfl⟩
  · exact ⟨s.ine.hello, rfl⟩

theorem portsJoined_form (s : State) : ∃ h : Table HelloLink, portsJoined s = { s with ine := { s.ine with hello := h } } := by
  unfold portsJoined
  refine List.foldlRecOn (motive := fun t => ∃ h : Table HelloLink, t = { s with ine := { s.ine with hello := h } }) _ _
    ⟨s.ine.hello, rfl⟩ ?_
  rintro _ ⟨h, rfl⟩ q -
  obtain ⟨x, e⟩ := joinPort_form { s with ine := { s.ine with hello := h } } q
  exact ⟨x, e⟩

theorem portsJoined_up {s : State} {q : Nat} (hq : q < 4) (h : linkIsUp s q = true) :
    (helloOf (portsJoined s) q).fabricUp = true := by
  refine foldl_reaches (C := fun t p => linkIsUp t p = true) (P := fun t p => (helloOf t p).fabricUp = true)
    (fun t p hup => ?_) (fun t p r hup => ?_) (fun t p r hjoined => ?_) (by simp; omega) h
  · rw [joinPort, if_pos hup, helloOf_putHello_self]
  · obtain ⟨x, e⟩ := joinPort_form t p
    rw [e]
    exact hup
  · unfold joinPort
    split
    · rcases eq_or_ne r p with rfl | hne
      · rw [helloOf_putHello_self]
      · rw [helloOf_putHello_other _ _ hne]
        exact hjoined
    · exact hjoined

/-- The streams of the ports joined carry again, a stopped schedule fits the new numbering, and the inauguration is counted. -/
def stableTaken (s : State) : State :=
  let s := streamsBack s
  let s := if s.css.state = .stopped then reinstantiate s else s
  setAlarm { s with ine := { s.ine with count := s.ine.count + 1 } } .ine 2

theorem ttdpStable_eq (s : State) (l : List NodeRec) (w : Word) :
    ttdpStable s l w = stableTaken (portsJoined (switched (numberedBy s l w))) := by
  unfold ttdpStable numberedBy switched portsJoined joinPort stableTaken
  dsimp only

theorem stableTaken_form (s : State) :
    (stableTaken s).ine = { s.ine with count := s.ine.count + 1, alarm := setBit s.ine.alarm 2 true }
    ∧ (stableTaken s).tau = s.tau := by
  have hview : ineView (if (streamsBack s).css.state = .stopped then reinstantiate (streamsBack s) else streamsBack s)
      = ineView s := by
    rw [apply_ite ineView, ineView_reinstantiate, ite_self, ineView_streamsBack]
  unfold stableTaken
  dsimp only
  generalize (if (streamsBack s).css.state = .stopped then reinstantiate (streamsBack s) else streamsBack s) = u at hview ⊢
  have hine : u.ine = s.ine := congrArg Prod.fst hview
  have htau : u.tau = s.tau := congrArg (fun a => a.2.1) hview
  rw [setAlarm_ine_form]
  refine ⟨?_, htau⟩
  dsimp only
  rw [hine]

theorem ttdpStable_numbers {s t : State} {l : List NodeRec} {w : Word} (ht : ttdpStable s l w = t) :
    t.ine.nodes = l ∧ t.ine.topo = w ∧ t.ine.run.stable = true ∧ t.ine.count = s.ine.count + 1
    ∧ bitAt (alarmOf t .ine) 2 = true
    ∧ (s.tms.trtState = .none → t.ine.activeBank = 1 - s.ine.activeBank)
    ∧ (s.tms.tsValid = true → s.tms.trtState ≠ .none → t.ine.activeBank = s.ine.activeBank
      ∧ (tauOf t 56).state = .armed ∧ (tauOf t 56).fire = (trtNs s + 6000000) * 65536
      ∧ (tauOf t 56).arg = word (1 - s.ine.activeBank))
    ∧ ∀ q, q < 4 → linkIsUp s q = true → (helloOf t q).fabricUp = true := by
  have hview := trainView_numberedBy s l w
  rw [ttdpStable_eq] at ht
  generalize numberedBy s l w = n at hview ht
  simp only [trainView, Prod.mk.injEq] at hview
  obtain ⟨hnodes, htopo, hstable, hcount, hbank, -, hlinks, htms, -⟩ := hview
  obtain ⟨snodes, stopo, sstable, scount, slinks⟩ := switched_keeps n
  obtain ⟨x, hjoin⟩ := portsJoined_form (switched n)
  obtain ⟨hine, hunits⟩ := stableTaken_form (portsJoined (switched n))
  rw [ht] at hine hunits
  have halarm : alarmOf t .ine = setBit (portsJoined (switched n)).ine.alarm 2 true := by
    unfold alarmOf
    rw [hine]
  have htau56 : tauOf t 56 = tauOf (switched n) 56 := by
    unfold tauOf
    rw [hunits, hjoin]
  have hactive : t.ine.activeBank = (switched n).ine.activeBank := by rw [hine, hjoin]
  have htrt : trtNs n = trtNs s := by
    unfold trtNs
    rw [htms]
  refine ⟨?_, ?_, ?_, ?_, ?_, fun h => ?_, fun hv h => ?_, fun q hq hup => ?_⟩
  · rw [hine, hjoin, ← hnodes, ← snodes]
  · rw [hine, hjoin, ← htopo, ← stopo]
  · rw [hine, hjoin, ← hstable, ← sstable]
  · rw [hine, hjoin, ← hcount, ← scount]
  · rw [halarm]
    exact bitAt_setBit_self _ 2 (by decide)
  · rw [hactive, switched_at_once (s := n) (by rw [htms]; exact h), hbank]
  · obtain ⟨abank, astate, afire, aarg⟩ := switched_armed (s := n) (by rw [htms]; exact hv) (by rw [htms]; exact h)
    rw [hactive, htau56, abank, hbank, astate, afire, aarg, hbank, htrt]
    exact ⟨rfl, rfl, rfl, rfl⟩
  · have hlink : linkIsUp (switched n) q = true := by
      unfold linkIsUp
      rw [slinks, hlinks]
      exact hup
    have hhello : t.ine.hello = (portsJoined (switched n)).ine.hello := by rw [hine]
    rw [helloOf_congr hhello]
    exact portsJoined_up hq hlink

section ttdpFrame

variable {s : State} {p : Nat} (hup : linkIsUp s p = true) (hready : s.fw.phase = .ready) (hs : s.ine.state = .standard)
include hup hready hs

/-- What is done with a TTDP frame in standard mode. -/
theorem ttdpEffect_standard (r : TtdpResult) : ttdpEffect p r s = match r with
    | .hello | .topology =>
      emitEach (putHello (gotSent s p (.ttdp p)) p { helloOf (gotSent s p (.ttdp p)) p with ttdp := true }) [p] .ttdp
    | .stable nodes topo =>
      if (gotSent s p (.ttdp p)).ine.inhibited then gotSent s p (.ttdp p) else ttdpStable (gotSent s p (.ttdp p)) nodes topo := by
  unfold ttdpEffect
  have hgot : ¬ (gotSent s p (.ttdp p)).ine.state ≠ .standard := by simp [hs]
  rw [if_neg (by simp [hup, hready])]
  exact (if_neg hgot).trans (by cases r <;> rfl)

theorem ttdpFrameReceive_answers {r : TtdpResult} (hr : r = .hello ∨ r = .topology) : exec (.ttdpFrameReceive p r) s
    = .next (emitEach (putHello (gotSent s p (.ttdp p)) p { helloOf s p with ttdp := true }) [p] .ttdp) := by
  have hhello : helloOf (gotSent s p (.ttdp p)) p = helloOf s p := helloOf_congr (by simp) p
  refine congrArg Host.Outcome.next ((ttdpEffect_standard hup hready hs r).trans ?_)
  rcases hr with rfl | rfl <;> simp only [hhello]

theorem ttdpFrameReceive_inhibited (hi : s.ine.inhibited = true) (l : List NodeRec) (w : Word) :
    exec (.ttdpFrameReceive p (.stable l w)) s = .next (gotSent s p (.ttdp p)) :=
  congrArg Host.Outcome.next ((ttdpEffect_standard hup hready hs (.stable l w)).trans (if_pos (by simp [hi])))

theorem ttdpFrameReceive_numbers (hi : s.ine.inhibited = false) (l : List NodeRec) (w : Word) : ∃ t,
    exec (.ttdpFrameReceive p (.stable l w)) s = .next t ∧ t.ine.nodes = l ∧ t.ine.topo = w
      ∧ t.ine.run.stable = true ∧ t.ine.count = s.ine.count + 1 ∧ bitAt (alarmOf t .ine) 2 = true
      ∧ (s.tms.trtState = .none → t.ine.activeBank = 1 - s.ine.activeBank)
      ∧ (s.tms.tsValid = true → s.tms.trtState ≠ .none → t.ine.activeBank = s.ine.activeBank
        ∧ (tauOf t 56).state = .armed ∧ (tauOf t 56).fire = (trtNs s + 6000000) * 65536
        ∧ (tauOf t 56).arg = word (1 - s.ine.activeBank))
      ∧ ∀ q, q < 4 → linkIsUp s q = true → (helloOf t q).fabricUp = true := by
  obtain ⟨c, e⟩ := gotSent_form s p (.ttdp p)
  have htaken := (ttdpEffect_standard hup hready hs (.stable l w)).trans (if_neg (by simp [hi]))
  refine ⟨_, congrArg Host.Outcome.next htaken, ?_⟩
  have hnumbers := ttdpStable_numbers (rfl : ttdpStable (gotSent s p (.ttdp p)) l w = _)
  rw [e] at hnumbers ⊢
  exact hnumbers

end ttdpFrame

/-! ## DISAGREE_HOLDOFF_END (R205) -/

theorem startHello_form (s : State) (p : Nat) : ∃ i, startHello s p = { s with ine := i } ∧ i.run = s.ine.run
    ∧ ∃ x : HelloLink, i.hello = tset {} s.ine.hello p x ∧ x.running = true ∧ x.run = 0 := by
  unfold startHello
  dsimp only
  split <;> exact ⟨_, rfl, rfl, { helloOf s p with
    running := true, confirmed := false, held := false, run := 0, echoed := 0, partner := 0, upAt := s.mono, sentAt := none },
    rfl, rfl, rfl⟩

theorem helloOf_startHello_self (s : State) (p : Nat) : (helloOf (startHello s p) p).running = true
    ∧ (helloOf (startHello s p) p).run = 0 := by
  obtain ⟨i, e, -, x, hhello, hrunning, hrun⟩ := startHello_form s p
  rw [e]
  unfold helloOf
  dsimp only
  rw [hhello, tget_tset_self]
  exact ⟨hrunning, hrun⟩

theorem helloOf_startHello_other (s : State) {p q : Nat} (h : q ≠ p) : helloOf (startHello s p) q = helloOf s q := by
  obtain ⟨i, e, -, x, hhello, -⟩ := startHello_form s p
  rw [e]
  unfold helloOf
  dsimp only
  rw [hhello, tget_tset_other _ _ _ h]

/-- HELLO starts again on a port that is up. -/
def restartHello (s : State) (p : Nat) : State := if linkIsUp s p then startHello s p else s

theorem restartHello_form (s : State) (p : Nat) : ∃ i, restartHello s p = { s with ine := i } ∧ i.run = s.ine.run := by
  unfold restartHello
  split
  · obtain ⟨i, e, hrun, -⟩ := startHello_form s p
    exact ⟨i, e, hrun⟩
  · exact ⟨s.ine, rfl, rfl⟩

theorem restartHello_foldl_form (l : List Nat) (s : State) : ∃ i, l.foldl restartHello s = { s with ine := i } ∧ i.run = s.ine.run := by
  refine List.foldlRecOn (motive := fun t => ∃ i, t = { s with ine := i } ∧ i.run = s.ine.run) _ _ ⟨s.ine, rfl, rfl⟩ ?_
  rintro _ ⟨i, rfl, hi⟩ p -
  obtain ⟨j, e, hj⟩ := restartHello_form { s with ine := i } p
  exact ⟨j, e, hj.trans hi⟩

theorem restartHello_foldl_starts {l : List Nat} {s : State} {p : Nat} (hp : p ∈ l) (hup : linkIsUp s p = true) :
    (helloOf (l.foldl restartHello s) p).running = true ∧ (helloOf (l.foldl restartHello s) p).run = 0 := by
  refine foldl_reaches (C := fun t p => linkIsUp t p = true) (P := fun t p => (helloOf t p).running = true ∧ (helloOf t p).run = 0)
    (fun t q hq => ?_) (fun t q r hr => ?_) (fun t q r hstarted => ?_) hp hup
  · rw [restartHello, if_pos hq]
    exact helloOf_startHello_self t q
  · obtain ⟨i, e, -⟩ := restartHello_form t q
    rw [e]
    exact hr
  · unfold restartHello
    split
    · rcases eq_or_ne r q with rfl | hne
      · exact helloOf_startHello_self t r
      · rw [helloOf_startHello_other t hne]
        exact hstarted
    · exact hstarted

theorem restartHello_foldl_other {l : List Nat} (s : State) {p : Nat} (hp : p ∉ l) :
    helloOf (l.foldl restartHello s) p = helloOf s p := by
  refine List.foldlRecOn (motive := fun t => helloOf t p = helloOf s p) _ _ rfl fun t ht q hq => ?_
  have hne : p ≠ q := fun h => hp (h ▸ hq)
  unfold restartHello
  split
  · rw [helloOf_startHello_other t hne, ht]
  · exact ht

theorem disagreeHoldoffEnd_restarts {s : State} {u : Nat} (hu : s.ine.run.holdUntil = some u) : ∃ t,
    exec .disagreeHoldoffEnd s = .next t ∧ t.ine.run.holdUntil = none ∧ t.ine.run.couplers = [] ∧ t.mono = max s.mono u
      ∧ (∀ p, p ∈ s.ine.run.couplers → linkIsUp s p = true → (helloOf t p).running = true ∧ (helloOf t p).run = 0)
      ∧ ∀ p, p ∉ s.ine.run.couplers → helloOf t p = helloOf s p := by
  let v := untilMono s u
  have hine : v.ine = s.ine := untilMono_ine ..
  let x := putRun v { v.ine.run with holdUntil := none, couplers := [] }
  have hend : holdoffEnd s = s.ine.run.couplers.foldl restartHello x := by
    rw [← show v.ine.run.couplers = s.ine.run.couplers from by rw [hine]]
    unfold holdoffEnd
    rw [hu]
    rfl
  obtain ⟨i, e, hrun⟩ := restartHello_foldl_form s.ine.run.couplers x
  have hmono : x.mono = max s.mono u := untilMono_mono ..
  refine ⟨_, congrArg Host.Outcome.next hend, ?_, ?_, ?_, fun p hp hup => ?_, fun p hp => ?_⟩
  · rw [e]
    exact congrArg InaugRun.holdUntil hrun
  · rw [e]
    exact congrArg InaugRun.couplers hrun
  · rw [e]
    exact hmono
  · refine restartHello_foldl_starts hp ?_
    have hlink : linkIsUp x p = linkIsUp s p := by simp [x, v, putRun, linkIsUp]
    rw [hlink]
    exact hup
  · rw [restartHello_foldl_other x hp]
    exact helloOf_congr (congrArg Ine.hello hine) p

/-! ## The obligation -/

/-- Settles O38: each clause is the lemma of its transition above; `bothHeard` tells the cases of HELLO_RECEIVE apart. -/
theorem helloConfirmsOrFallsBack : Obligations.HelloConfirmsOrFallsBack := by
  unfold Obligations.HelloConfirmsOrFallsBack
  refine ⟨fun s p y hp hup hr hc hf hy => ?_, fun s p m h => ⟨helloSend_idle h, fun hd => helloReceive_down m hd⟩,
    fun s p m hp hup h => helloReceive_counts hp hup h,
    fun s p m k e y hp hup hr hf hv hk he hy => ?_,
    fun s p hp hup hr hn => ⟨fun hm ht => ttdpFallback_changes hp hup hr hn hm ht, fun hm => ttdpFallback_alarms hp hup hr hn hm⟩,
    fun s p hup hready hs => ⟨fun r hr => ttdpFrameReceive_answers hup hready hs hr,
      fun hi l w => ttdpFrameReceive_inhibited hup hready hs hi l w, fun hi l w => ttdpFrameReceive_numbers hup hready hs hi l w⟩,
    fun s u hu => disagreeHoldoffEnd_restarts hu⟩
  · subst hy
    exact helloSend_sends hp hup hr hc hf
  · have hheard : helloHeardOn (helloOf s p) m = y := (helloHeardOn_eq hk he).trans hy.symm
    have hboth : bothHeard y = decide (3 ≤ k ∧ 3 ≤ e) := by rw [hy]; rfl
    have hconfirms : 3 ≤ k → 3 ≤ e → bothHeard y = true := fun h3k h3e => by simp [hboth, h3k, h3e]
    have hleader : y.leader = m.leaderId := by rw [hy]
    have hnodes : y.nodes = m.nodeCount := by rw [hy]
    have hepoch : y.epoch = m.hdr.domainEpoch := by rw [hy]
    have htopo : y.topo = m.hdr.topoCount := by rw [hy]
    rw [← hleader, ← hnodes, ← hepoch, ← htopo]
    exact ⟨fun h => helloReceive_keeps hp hup hr hf hv hheard (by rw [hboth]; exact decide_eq_false h),
      fun h3k h3e hl hd ht =>
        ⟨fun hi => helloReceive_joins hp hup hr hf hv hheard (hconfirms h3k h3e) hl hd ht hi,
          fun hi hs => helloReceive_held hp hup hr hf hv hheard (hconfirms h3k h3e) hl hd ht hi hs⟩,
      fun h3k h3e hl hn hi hs => helloReceive_begins hp hup hr hf hv hheard (hconfirms h3k h3e) hl hn hi hs,
      fun h3k h3e hl hn hi hs => helloReceive_inhibited hp hup hr hf hv hheard (hconfirms h3k h3e) hl hn hi hs⟩

end Sys2Proof.Proofs
end

section
/-! SUPPORT. The addressed memories, and what the operations that every family shares leave of them. -/

namespace Sys2Proof.Proofs

open Sys2Proof Sys2Proof.Machine

/-! ## The addressed memories -/

/-- The addressed memories: the Process Data Store (R222), the recorder's ring (R350) and its counter area (R357). -/
def memories (s : State) : Table PdVar × Table Bytes × Table (Option CounterCopy) := (s.lgb.vars, s.evr.mem, s.evr.area)

@[simp] theorem memories_mk (a b c d e f g h i j l m n o p q r w x y z k) :
    memories (State.mk a b c d e f g h i j l m n o p q r w x y z k) = (l.vars, q.mem, q.area) := (rfl)

@[simp] theorem memories_fold (s : State) : (s.lgb.vars, s.evr.mem, s.evr.area) = memories s := (rfl)

@[simp] theorem memories_ite (c : Prop) [Decidable c] (s t : State) :
    memories (if c then s else t) = if c then memories s else memories t := apply_ite ..

@[simp] theorem memories_foldl {β : Type} {f : State → β → State} (h : ∀ s b, memories (f s b) = memories s) (l : List β)
    (s : State) : memories (l.foldl f s) = memories s := foldl_keeps memories f h l s

/-- A row answers a state whose memories are those it found. -/
def Leaves (s : State) (o : Out) : Prop := ∃ t, o = .next t ∧ memories t = memories s

theorem leaves_next {s t : State} (h : memories t = memories s) : Leaves s (.next t) := ⟨t, rfl, h⟩

@[simp] theorem leaves_next_iff {s t : State} : Leaves s (.next t) ↔ memories t = memories s :=
  ⟨fun ⟨_, e, h⟩ => by cases e; exact h, leaves_next⟩

/-! ## Alarms -/

@[simp] theorem memories_msixRaise (s : State) (v : Nat) : memories (msixRaise s v) = memories s := by
  simp [msixRaise]

@[simp] theorem memories_putAlarm (s : State) (r : AlarmReg) (v : Word) : memories (putAlarm s r v) = memories s := by
  unfold putAlarm
  split <;> simp

@[simp] theorem memories_putAlarmEn (s : State) (r : AlarmReg) (v : Word) :
    memories (putAlarmEn s r v) = memories s := by
  unfold putAlarmEn
  split <;> simp

@[simp] theorem memories_setAlarm (s : State) (r : AlarmReg) (b : Nat) : memories (setAlarm s r b) = memories s := by
  simp [setAlarm]

@[simp] theorem memories_setAlarmIf (s : State) (c : Bool) (r : AlarmReg) (b : Nat) :
    memories (setAlarmIf s c r b) = memories s := by
  simp [setAlarmIf]

@[simp] theorem memories_clearAlarm (s : State) (r : AlarmReg) (v : Word) :
    memories (clearAlarm s r v) = memories s := by
  simp [clearAlarm]

/-! ## Time, records, events, responses and host commands -/

@[simp] theorem memories_ticks (s : State) (n : Nat) : memories (s.ticks n) = memories s := by
  obtain ⟨m, f, a, b, e⟩ := ticks_form s n
  rw [e]
  rfl

@[simp] theorem memories_advance (s : State) (n : Nat) : memories (s.advance n) = memories s := by
  obtain ⟨m, f, a, b, e⟩ := advance_form s n
  rw [e]
  rfl

@[simp] theorem memories_untilMono (s : State) (m : Nat) : memories (untilMono s m) = memories s := by
  simp [untilMono]

@[simp] theorem memories_untilTrt (s : State) (target : Nat) : memories (untilTrt s target) = memories s := by
  simp [untilTrt]

@[simp] theorem memories_untilWyt (s : State) (target : Nat) : memories (untilWyt s target) = memories s := by
  simp [untilWyt]

@[simp] theorem memories_untilNs (s : State) (t : Nat) : memories (untilNs s t) = memories s := by
  simp [untilNs]

@[simp] theorem memories_emit (s : State) (x : Sent) : memories (emit s x) = memories s := by
  simp [emit]

@[simp] theorem memories_countPort (s : State) (p c n : Nat) : memories (countPort s p c n) = memories s := by
  simp [countPort]

@[simp] theorem memories_countGot (s : State) (p len : Nat) (multi : Bool) (broad : Bool) :
    memories (countGot s p len multi broad) = memories s := by
  simp [countGot]

@[simp] theorem memories_countSent (s : State) (p len : Nat) (multi : Bool) (broad : Bool) :
    memories (countSent s p len multi broad) = memories s := by
  simp [countSent]

@[simp] theorem memories_setPower (s : State) (n : Nat) : memories (setPower s n) = memories s := by
  simp [setPower]

@[simp] theorem memories_napEnd (s : State) : memories (napEnd s) = memories s := by
  simp [napEnd]

@[simp] theorem memories_mgpSends (s : State) (via : Option Nat) (x : Sent) : memories (mgpSends s via x) = memories s := by
  cases via <;> simp

@[simp] theorem memories_remoteSends (s : State) (x : Sent) : memories (remoteSends s x) = memories s := by
  simp [remoteSends]

@[simp] theorem memories_mgpTakes (s : State) (x : Sent) : memories (mgpTakes s x) = memories s := by
  simp [mgpTakes]

@[simp] theorem memories_emitAll (s : State) (xs : List Sent) : memories (emitAll s xs) = memories s := by
  simp [emitAll]

@[simp] theorem memories_windrowLost (s : State) (safety : Bool) : memories (windrowLost s safety) = memories s := by
  simp [windrowLost]

@[simp] theorem memories_stageWindrow (s : State) (w : Windrow) (st : List Windrow) :
    memories (stageWindrow s w st) = memories s := by
  simp [stageWindrow]

@[simp] theorem memories_newWindrow (s : State) (code : Nat) (data : Bytes) :
    memories (newWindrow s code data) = memories s := by
  unfold newWindrow
  split <;> simp

@[simp] theorem memories_report (s : State) (code : Nat) (data : Bytes) :
    memories (report s code data) = memories s := by
  unfold report
  repeat' split
  all_goals simp [suppressReport]

@[simp] theorem memories_modTenant (s : State) (t : Nat) (f : Tenant → Tenant) :
    memories (modTenant s t f) = memories s := by
  simp [modTenant]

@[simp] theorem memories_raiseTenant (s : State) (t : Nat) : memories (raiseTenant s t) = memories s := by
  simp [raiseTenant]

@[simp] theorem memories_deliverEvent (s : State) (t typ : Nat) (ns : Word) (data : Bytes) :
    memories (deliverEvent s t typ ns data) = memories s := by
  simp [deliverEvent]

@[simp] theorem memories_event (s : State) (t : Nat) (typ : Nat) (data : Bytes) :
    memories (event s t typ data) = memories s := by
  simp [event]

@[simp] theorem memories_eventsAfterPause (s : State) : memories (eventsAfterPause s) = memories s := by
  simp [eventsAfterPause]

@[simp] theorem memories_faultTenant (s : State) (t wh code : Nat) :
    memories (faultTenant s t wh code) = memories s := by
  simp [faultTenant]

@[simp] theorem memories_putResponse (s : State) (t : Nat) (r : Response) (remote : Bool) :
    memories (putResponse s t r remote) = memories s := by
  simp [putResponse]

@[simp] theorem memories_respond (s : State) (h : Hcp) (op : Nat) (st : Status) (r : Nat) (p : Bytes) :
    memories (respond s h op st r p) = memories s := by
  unfold respond
  dsimp only
  split <;> simp

/-- The memories are aside of what fabric, admission and far accesses change. -/
theorem asideMemories : Aside memories where
  blocks _ _ _ _ _ _ := rfl
  count := memories_countPort
  alarm := memories_setAlarm
  report := memories_report
  event := memories_event
  respond := memories_respond

/-- The state in which an answer leaves the device. -/
def answerState : Answer → State
  | .done s .. => s
  | .wait s => s

@[simp] theorem answerState_done (s : State) (st : Status) (r : Nat) (p : Bytes) : answerState (.done s st r p) = s := rfl

@[simp] theorem answerState_wait (s : State) : answerState (.wait s) = s := rfl

@[simp] theorem answerState_okWith (s : State) (p : Bytes) : answerState (okWith s p) = s := rfl

@[simp] theorem answerState_okay (s : State) : answerState (okay s) = s := rfl

@[simp] theorem answerState_fails (s : State) (st : Status) (r : Nat) : answerState (fails s st r) = s := rfl

@[simp] theorem answerState_failsAt (s : State) (i : Nat) : answerState (failsAt s i) = s := rfl

@[simp] theorem answerState_ite (c : Prop) [Decidable c] (a b : Answer) :
    answerState (if c then a else b) = if c then answerState a else answerState b := apply_ite ..

@[simp] theorem memories_conclude (h : Hcp) (op : Nat) (x : Answer) : memories (conclude h op x) = memories (answerState x) := by
  cases x <;> simp [conclude]

/-- A host command leaves the memories as they are where its body does. -/
@[simp] theorem memories_runHcp {c : Cmd} {h : Hcp} {s : State} {body : State → Answer}
    (hb : memories (answerState (body s)) = memories s) : memories (runHcp c h s body) = memories s := by
  simp [runHcp, hb]

@[simp] theorem memories_emitEach (s : State) (ports : List Nat) (mk : Nat → Sent) :
    memories (emitEach s ports mk) = memories s := by
  simp [emitEach]

@[simp] theorem memories_emitVia (s : State) (ports : List Nat) (x : Sent) :
    memories (emitVia s ports x) = memories s := by
  simp [emitVia]

@[simp] theorem memories_gotSent (s : State) (p : Nat) (x : Sent) : memories (gotSent s p x) = memories s := by
  simp [gotSent]

@[simp] theorem memories_countPhy (s : State) (p : Nat) (l : List PhyCount) :
    memories (countPhy s p l) = memories s := by
  simp [countPhy]

@[simp] theorem memories_discard (s : State) (d : Discard) : memories (Machine.discard s d) = memories s := asideMemories.discard s d

@[simp] theorem memories_correctable (s : State) (m w : Nat) : memories (correctable s m w) = memories s := by
  simp [correctable]

@[simp] theorem memories_readsCorrected (s : State) (m : Nat) (ws : List Nat) :
    memories (readsCorrected s m ws) = memories s := by
  simp [readsCorrected]

@[simp] theorem memories_uncorrectable (s : State) (m w : Nat) : memories (uncorrectable s m w) = memories s := by
  simp [uncorrectable]

@[simp] theorem memories_unpoison (s : State) (m w : Nat) : memories (unpoison s m w) = memories s := by
  simp [unpoison]

@[simp] theorem memories_unpoisonWhere (s : State) (m : Nat) (p : Nat → Bool) :
    memories (unpoisonWhere s m p) = memories s := by
  simp [unpoisonWhere]

@[simp] theorem memories_unpoisonEntry (s : State) (m k : Nat) : memories (unpoisonEntry s m k) = memories s := by
  simp [unpoisonEntry]

@[simp] theorem memories_dropWrite (s : State) (m w : Nat) : memories (dropWrite s m w) = memories s := by
  simp [dropWrite]

@[simp] theorem memories_posted {s : State} {off : Nat} {f : State → State} (hf : ∀ u, memories (f u) = memories u) :
    memories (posted s off f) = memories s := by
  unfold posted
  split <;> simp [hf]

@[simp] theorem memories_draw (s : State) : memories (draw s).2 = memories s := by
  simp [draw]

end Sys2Proof.Proofs
end

section
/-! SUPPORT. What timed actions, slots, queues and the stages of the fabric leave of the addressed memories. -/

namespace Sys2Proof.Proofs

open Sys2Proof Sys2Proof.Machine

/-! ## Timed actions -/

@[simp] theorem memories_putTau (s : State) (k : Nat) (r : TauRec) : memories (putTau s k r) = memories s := by
  simp [putTau]

@[simp] theorem memories_tauEvent (s : State) (k outcome reason flags : Nat) (at_ : Nat) :
    memories (tauEvent s k outcome reason flags at_) = memories s := by
  unfold tauEvent
  dsimp only
  split <;> simp

@[simp] theorem memories_surveySeal (s : State) (k : Nat) : memories (surveySeal s k) = memories s := by
  unfold surveySeal
  split <;> simp

@[simp] theorem memories_tauFinish (s : State) (k : Nat) (fired : Bool) (reason : Nat) (collision : Bool) (at_ : Nat) :
    memories (tauFinish s k fired reason collision at_) = memories s := by
  simp [tauFinish]

@[simp] theorem memories_harvestAbort (s : State) (b reason : Nat) :
    memories (harvestAbort s b reason) = memories s := by
  unfold harvestAbort
  dsimp only
  split <;> simp

@[simp] theorem memories_harvestFill (s : State) (b tenantId : Nat) (a : HarvestArgs) (t : Nat) (invalid : Bool) :
    memories (harvestFill s b tenantId a t invalid) = memories s := by
  simp [harvestFill]

@[simp] theorem memories_tauAbort (s : State) (k reason : Nat) : memories (tauAbort s k reason) = memories s := by
  simp [tauAbort]

@[simp] theorem memories_tauReason (s : State) (k reason : Nat) : memories (tauReason s k reason) = memories s := by
  simp [tauReason]

@[simp] theorem memories_tauNext (s : State) (k : Nat) : memories (tauNext s k) = memories s := by
  simp [tauNext]

@[simp] theorem memories_tauSkip (n : Nat) (s : State) (k m : Nat) : memories (tauSkip n s k m) = memories s := by
  induction n generalizing s with
  | zero => rfl
  | succ n ih => simp [tauSkip, ih]

@[simp] theorem memories_tausStep (s : State) (wyt : Bool) (old16 new16 : Nat) :
    memories (tausStep s wyt old16 new16) = memories s := by
  simp [tausStep, tauStep]

/-! ## Time steps, servos and what leaves a port -/

@[simp] theorem memories_setTrtDrift (s : State) (d : Int) : memories (setTrtDrift s d) = memories s := by
  simp [setTrtDrift]

@[simp] theorem memories_setWytDrift (s : State) (d : Int) : memories (setWytDrift s d) = memories s := by
  simp [setWytDrift]

@[simp] theorem memories_trtStep (s : State) (new : Nat) : memories (trtStep s new) = memories s := by
  simp [trtStep]

@[simp] theorem memories_wytStep (s : State) (new : Nat) : memories (wytStep s new) = memories s := by
  simp [wytStep]

@[simp] theorem memories_selectUpstream (s : State) : memories (selectUpstream s) = memories s := by
  unfold selectUpstream
  repeat' split
  all_goals simp

@[simp] theorem memories_enterHoldover (s : State) : memories (enterHoldover s) = memories s := by
  simp [enterHoldover]

@[simp] theorem memories_followLeader (s : State) (id : UnitId) : memories (followLeader s id) = memories s := by
  simp [followLeader]

@[simp] theorem memories_leadTime (s : State) (cold : Bool) : memories (leadTime s cold) = memories s := by
  simp [leadTime]

@[simp] theorem memories_unleadTime (s : State) (id : UnitId) : memories (unleadTime s id) = memories s := by
  simp [unleadTime]

@[simp] theorem memories_departing (s : State) (e : HeldOut) : memories (departing s e).1 = memories s := by
  unfold departing
  split <;> rfl

@[simp] theorem memories_releasePort (s : State) (p : Nat) : memories (releasePort s p) = memories s := by
  simp [releasePort, depart]

@[simp] theorem memories_emitPort (s : State) (p : Nat) (x : Sent) : memories (emitPort s p x) = memories s := by
  simp [emitPort]

@[simp] theorem memories_oneStep (s : State) (p : Nat) (x : Sent) : memories (oneStep s p x).2 = memories s := rfl

@[simp] theorem memories_policed {s : State} {p n : Nat} {f : State → State} (hf : ∀ u, memories (f u) = memories u) :
    memories (policed s p n f) = memories s := by
  simp [policed, hf]

/-! ## Slots and windows -/

@[simp] theorem memories_sendLines (s : State) (len : Nat) (mk : Nat → Sent) :
    memories (sendLines s len mk) = memories s := by
  simp [sendLines]

@[simp] theorem memories_rejectTotal (s : State) : memories (rejectTotal s) = memories s := by
  simp [rejectTotal]

@[simp] theorem memories_cssSettle (s : State) : memories (cssSettle s) = memories s := by
  simp [cssSettle]

@[simp] theorem memories_modSlot (s : State) (i : Nat) (f : TxSlot → TxSlot) :
    memories (modSlot s i f) = memories s := by
  simp [modSlot]

@[simp] theorem memories_modWin (s : State) (w : Nat) (f : RxWin → RxWin) : memories (modWin s w f) = memories s := by
  simp [modWin]

@[simp] theorem memories_commitSlot (s : State) (i p : Nat) (d : Bytes) : memories (commitSlot s i p d).2 = memories s := by
  unfold commitSlot
  repeat' split
  all_goals simp

@[simp] theorem memories_cssZero (s : State) (pan : Word) : memories (cssZero s pan) = memories s := by
  simp [cssZero]

@[simp] theorem memories_setLeader (s : State) (id : UnitId) : memories (setLeader s id) = memories s := by
  simp [setLeader]

@[simp] theorem memories_cssQuiet (s : State) : memories (cssQuiet s) = memories s := by
  simp [cssQuiet]

@[simp] theorem memories_cssHalt (s : State) : memories (cssHalt s) = memories s := by
  simp [cssHalt]

@[simp] theorem memories_cssStopped (s : State) (reason : Nat) : memories (cssStopped s reason) = memories s := by
  simp [cssStopped, windowsStale]

@[simp] theorem memories_cssFresh (s : State) : memories (cssFresh s) = memories s := by
  simp [cssFresh]

@[simp] theorem memories_cssListen (s : State) : memories (cssListen s) = memories s := by
  simp [cssListen]

@[simp] theorem memories_cssFollow (s : State) (id : UnitId) : memories (cssFollow s id) = memories s := by
  simp [cssFollow]

@[simp] theorem memories_cssIntegrated (s : State) (st : CssState) : memories (cssIntegrated s st) = memories s := by
  simp [cssIntegrated]

@[simp] theorem memories_sendCycleStart (s : State) : memories (sendCycleStart s) = memories s := by
  simp [sendCycleStart]

@[simp] theorem memories_cssLead (s : State) : memories (cssLead s) = memories s := by
  simp [cssLead]

@[simp] theorem memories_sendColdStart (s : State) (origin : Nat) : memories (sendColdStart s origin) = memories s := by
  simp [sendColdStart]

@[simp] theorem memories_guardUpdate (s : State) : memories (guardUpdate s) = memories s := by
  simp [guardUpdate]

theorem memories_instantiateImage {s u : State} {im : SchedImage} (h : instantiateImage s im = some u) :
    memories u = memories s := by
  unfold instantiateImage at h
  dsimp only at h
  split at h
  · cases h
  · obtain ⟨x, -, rfl⟩ := Option.map_eq_some_iff.1 h
    simp

/-! ## Queues, streams and policers -/

@[simp] theorem memories_noteShared (s : State) (before : Nat) : memories (noteShared s before) = memories s := by
  simp [noteShared]

@[simp] theorem memories_returnCells (s : State) (h : Held) : memories (returnCells s h) = memories s := by
  simp [returnCells]

@[simp] theorem memories_releaseFrame (s : State) (k : Nat) : memories (releaseFrame s k) = memories s :=
  asideMemories.releaseFrame s k

@[simp] theorem memories_tc6Check (s : State) (p : Nat) : memories (tc6Check s p) = memories s := by
  simp [tc6Check]

@[simp] theorem memories_violation (s : State) (i t k r d : Nat) : memories (violation s i t k r d) = memories s :=
  asideMemories.violation s i t k r d

@[simp] theorem memories_putStream (s : State) (i : Nat) (x : Stream) : memories (putStream s i x) = memories s := by
  simp [putStream]

@[simp] theorem memories_lose (s : State) (stream : Option Nat) (conforming : Bool) (egress reason : Nat) :
    memories (lose s stream conforming egress reason) = memories s := by
  unfold lose
  split <;> simp

@[simp] theorem memories_discardHeld (s : State) (h : Held) (p e r : Nat) : memories (discardHeld s h p e r) = memories s :=
  asideMemories.discardHeld s h p e r

@[simp] theorem memories_dropQueued (s : State) (p c k r : Nat) : memories (dropQueued s p c k r) = memories s :=
  asideMemories.dropQueued s p c k r

@[simp] theorem memories_drainCan (s : State) (p r : Nat) : memories (drainCan s p r) = memories s := by
  unfold drainCan
  split
  · refine (memories_foldl (fun u k => ?_) _ _).trans rfl
    split <;> simp
  · rfl

@[simp] theorem memories_drainPort (s : State) (p reason : Nat) : memories (drainPort s p reason) = memories s := by
  simp [drainPort]

@[simp] theorem memories_learnFail (s : State) : memories (learnFail s) = memories s := by
  simp [learnFail]

@[simp] theorem memories_fdbPlace (s : State) (e : FdbEntry) : memories (fdbPlace s e) = memories s := by
  simp [fdbPlace, fdbWrite]

@[simp] theorem memories_fdbDrop (s : State) (mac : Mac) (fid : Nat) : memories (fdbDrop s mac fid) = memories s := by
  simp [fdbDrop]

@[simp] theorem memories_fdbLearn (s : State) (port : Nat) (mac : Mac) (fid tenant : Nat) :
    memories (fdbLearn s port mac fid tenant) = memories s := by
  simp only [fdbLearn]
  repeat' split
  all_goals simp

@[simp] theorem memories_takeCells (s : State) (a : Alloc) (port cls : Nat) (stream : Option Nat) :
    memories (takeCells s a port cls stream) = memories s := by
  simp [takeCells]

/-! ## The stages of the fabric -/

@[simp] theorem memories_countRx (s : State) (p : Nat) (f : Frame) : memories (countRx s p f) = memories s := by
  simp [countRx]

@[simp] theorem memories_countTx (s : State) (p : Nat) (f : Frame) : memories (countTx s p f) = memories s := by
  simp [countTx]

@[simp] theorem memories_countConsumed (s : State) (p : Nat) (f : Frame) :
    memories (countConsumed s p f) = memories s := by
  simp [countConsumed]

@[simp] theorem memories_prpIngress (s : State) (p : Nat) (f : Frame) : memories (prpIngress s p f).2 = memories s := by
  simp [prpIngress]

@[simp] theorem memories_frerIngress (s : State) (n : Nat) (f : Frame) : memories (frerIngress s n f).2 = memories s := by
  unfold frerIngress
  dsimp only
  split <;> rfl

@[simp] theorem memories_eliminate (s : State) (p : Nat) (f : Frame) (x : Option (Nat × Stream)) :
    memories (eliminate s p f x).2.1 = memories s := by
  unfold eliminate
  dsimp only
  repeat' split
  all_goals simp_all

/-- The state that a verdict leaves. -/
def verdictState : Verdict → State
  | .pass s _ => s
  | .deny s .. => s

@[simp] theorem verdictState_pass (s : State) (r : Routed) : verdictState (.pass s r) = s := rfl

@[simp] theorem verdictState_deny (s : State) (c t k : Nat) (i : Option Nat) (g : Bool) :
    verdictState (.deny s c t k i g) = s := rfl

@[simp] theorem memories_classify (s : State) (p : Nat) (f : Frame) (t : Option Nat) :
    memories (verdictState (classify s p f t)) = memories s := by
  have hpair : ∀ {u v : State} {g g' : Frame} {x : Option (Nat × Stream)} {c : Option Nat},
      eliminate u p g x = (c, v, g') → memories v = memories u := fun {u v g g' x c} h => by
    simpa [h] using memories_eliminate u p g x
  unfold classify
  extract_lets vid own tag fab
  split
  · rfl
  split
  · rfl
  split
  · rfl
  · rfl
  split
  · rfl
  extract_lets hit cls pol policed
  have hpoliced : memories policed = memories s := by
    unfold policed
    split <;> rfl
  clear_value hit policed
  split
  · extract_lets tn m metered cls
    have hmetered : memories metered = memories s := memories_putStream ..
    clear_value metered
    split
    · rfl
    split
    · exact memories_putStream ..
    split
    · exact hmetered
    split
    case h_1 h => exact (hpair h).trans hmetered
    case h_2 h => exact (hpair h).trans hmetered
  · split
    · exact hpoliced
    split
    case h_1 h => exact (hpair h).trans hpoliced
    case h_2 h => exact (hpair h).trans hpoliced

@[simp] theorem memories_prpNext (s : State) (rs : List (Nat × BitVec 16)) : memories (prpNext s rs) = memories s := by
  simp [prpNext]

@[simp] theorem memories_dropRouted (s : State) (port : Nat) (r : Routed) (reason at_ egress : Nat) :
    memories (dropRouted s port r reason at_ egress) = memories s := by
  simp [dropRouted]

@[simp] theorem memories_brineAndQueueAt (s₀ s : State) (p : Nat) (r : Routed) (lost : Bool) :
    memories (brineAndQueueAt s₀ s p r lost) = memories s := by
  unfold brineAndQueueAt
  extract_lets a above ok rcts h why bad good dropped left k h' taken fab queued napped
  have hleft : memories left = memories s := by simp [left, dropped]
  have hnapped : memories napped = memories s := by simp [napped, queued, fab, taken, hleft]
  repeat' split
  · simp
  · exact hleft
  · simp [hnapped]
  · exact hnapped

@[simp] theorem memories_brineAndQueue (s : State) (port : Nat) (r : Routed) (lost : Bool) :
    memories (brineAndQueue s port r lost) = memories s := by
  simp [brineAndQueue]

@[simp] theorem memories_slotCopy (s : State) (p own : Nat) (inserted : Bool) (f : CssFrame) :
    memories (slotCopy s p own inserted f) = memories s := by
  simp [slotCopy]

@[simp] theorem memories_cutCells (s : State) (port : Nat) (r : Routed) :
    memories (cutCells s port r) = memories s := by
  simp [cutCells]

@[simp] theorem memories_countTc6 (s : State) (p cls len : Nat) : memories (countTc6 s p cls len) = memories s := by
  simp [countTc6]

@[simp] theorem memories_readFinds (s : State) (x : Ingress) : memories (readFinds s x) = memories s := by
  refine memories_foldl (fun u e => ?_) _ _
  split <;> simp

@[simp] theorem memories_sendCut (s : State) (x : Ingress) (r : Routed) (lost : Bool) :
    memories (sendCut s x r lost) = memories s := by
  unfold sendCut
  dsimp only
  split <;> simp

@[simp] theorem memories_countBad (s : State) (p reason : Nat) : memories (countBad s p reason) = memories s := by
  simp [countBad]

@[simp] theorem memories_stage1Drop (s : State) (port : Nat) (f : Frame) (c : Nat) :
    memories (stage1Drop s port f c) = memories s := by
  simp [stage1Drop]

@[simp] theorem memories_forwardSlot (s : State) (port : Nat) (f : CssFrame) :
    memories (forwardSlot s port f) = memories s := by
  simp [forwardSlot]

@[simp] theorem memories_forwardTiming (s : State) (r : Routed) (port : Nat) (x : Nat → Sent) :
    memories (forwardTiming s r port x) = memories s := by
  simp [forwardTiming]

@[simp] theorem memories_lineBad (s : State) (port : Nat) (r : Routed) (c : Nat) (cut : Bool) :
    memories (lineBad s port r c cut) = memories s := by
  simp [lineBad]

@[simp] theorem memories_cssDeny (s : State) (port : Nat) (r : Routed) (bad : Option Nat) :
    memories (cssDeny s port r bad) = memories s := by
  unfold cssDeny
  repeat' split
  all_goals simp

@[simp] theorem memories_cssReceive {s : State} {p : Nat} {r : Routed} {bad : Option Nat} {cut : Bool} {f : State → State}
    (hf : ∀ u, memories (f u) = memories u) : memories (cssReceive s p r bad cut f) = memories s := by
  unfold cssReceive
  repeat' split
  all_goals simp [hf]

@[simp] theorem memories_timingReceive {s : State} {p : Nat} {x : Frame} {bad : Option Nat} {f : State → State}
    (hf : ∀ u, memories (f u) = memories u) : memories (timingReceive s p x bad f) = memories s := by
  simp [timingReceive, hf]

@[simp] theorem memories_learnFrom (s : State) (port : Nat) (f : Frame) (r : Routed) :
    memories (learnFrom s port f r) = memories s := by
  simp [learnFrom]

@[simp] theorem memories_denied (s : State) (p : Nat) (f : Frame) (reason tn cls : Nat) (stream : Option Nat)
    (green : Bool) :
    memories (denied s p f reason tn cls stream green) = memories s := by
  simp [denied]

@[simp] theorem memories_ingressOne (s₀ s : State) (x : Ingress) (lost : Bool) :
    memories (ingressOne s₀ s x lost) = memories s := by
  have hverdict := memories_classify (readFinds (countPhy s x.port x.phy) x) x.port x.frame none
  unfold ingressOne
  dsimp only
  split
  · rfl
  · split
    · simp
    · split
      · split <;> simp
      · split
        case h_1 u r h =>
          have hpass : memories u = memories s := by simpa [h] using hverdict
          repeat' split
          all_goals simp [hpass]
        case h_2 u c t k i g h =>
          have hdeny : memories u = memories s := by simpa [h] using hverdict
          split <;> simp [hdeny]

@[simp] theorem memories_requestOf (s₀ s : State) (x : Ingress) : memories (requestOf s₀ s x).1 = memories s := by
  have hverdict := memories_classify s x.port x.frame none
  unfold requestOf
  dsimp only
  split
  · split
    case h_1 h =>
      rw [h] at hverdict
      split <;> simpa using hverdict
    case h_2 h =>
      rw [h] at hverdict
      exact hverdict
  · rfl

@[simp] theorem memories_ingressEffect (fs : List Ingress) (s : State) :
    memories (ingressEffect fs s) = memories s := by
  simp [ingressEffect]

theorem memories_selectFrame {s u : State} {p k c : Nat} (h : selectFrame s p = some (k, c, u)) : memories u = memories s := by
  unfold selectFrame at h
  split at h
  · cases h
    rfl
  · dsimp only at h
    split at h
    · split at h
      · cases h
        rfl
      · cases h
    · cases h

@[simp] theorem memories_stampTx (s : State) (p : Nat) (h : Held) : memories (stampTx s p h) = memories s := by
  unfold stampTx
  split <;> simp

@[simp] theorem memories_checkResidence (s : State) (p : Nat) (h : Held) :
    memories (checkResidence s p h) = memories s := by
  simp only [checkResidence]
  repeat' split
  all_goals simp

@[simp] theorem memories_transmit (s : State) (set cls k : Nat) : memories (transmit s set cls k) = memories s := by
  simp only [transmit]
  repeat' split
  all_goals simp

@[simp] theorem memories_dropLong (s : State) (p : Nat) : memories (dropLong s p) = memories s := by
  refine memories_foldl (fun u c => ?_) _ _
  split <;> simp

@[simp] theorem memories_canFill (n : Nat) (s : State) (p : Nat) : memories (canFill n s p) = memories s := by
  induction n generalizing s with
  | zero => rfl
  | succ n ih =>
    unfold canFill
    dsimp only
    split
    · rfl
    · split
      case h_1 h => simp [ih, memories_selectFrame h]
      case h_2 => rfl

@[simp] theorem memories_canSend (s : State) (p : Nat) (phy : List PhyCount) :
    memories (canSend s p phy) = memories s := by
  simp only [canSend]
  repeat' split
  all_goals simp

@[simp] theorem memories_sendSelected (s : State) (p : Nat) : memories (sendSelected s p) = memories s := by
  unfold sendSelected
  split
  case h_1 h => rw [memories_transmit, memories_selectFrame h]
  case h_2 => rfl

@[simp] theorem memories_egressEffect (p : Nat) (phy : List PhyCount) (s : State) :
    memories (egressEffect p phy s) = memories s := by
  simp [egressEffect]

@[simp] theorem memories_applyGates (s : State) (p : Nat) : memories (applyGates s p) = memories s := by
  simp [applyGates, closeGates]

@[simp] theorem memories_sluiceChange (port : Nat) (s : State) : memories (sluiceChange port s) = memories s := by
  simp [sluiceChange]

@[simp] theorem memories_resaltOn (s : State) (automatic : Bool) : memories (resaltOn s automatic) = memories s := by
  simp [resaltOn, startResalt, fdbFull]

theorem leaves_execResaltTrigger (s : State) : Leaves s (execResaltTrigger s) := by
  simp [execResaltTrigger]

@[simp] theorem memories_walkEnd (s : State) : memories (walkEnd s) = memories s := by
  unfold walkEnd
  split <;> simp [camSweep]

@[simp] theorem memories_walkDone (s : State) : memories (walkDone s) = memories s := by
  simp [walkDone, shedPoisoned, movedClean]

theorem leaves_execResaltResume (s : State) : Leaves s (execResaltResume s) := by
  simp [execResaltResume]

@[simp] theorem memories_fdbEased (s : State) : memories (fdbEased s) = memories s := by
  simp [fdbEased]

@[simp] theorem memories_ageOut (mac : Mac) (fid : Nat) (s : State) : memories (ageOut mac fid s) = memories s := by
  unfold ageOut
  split <;> simp

@[simp] theorem memories_frerReset (fn : Nat) (s : State) : memories (frerReset fn s) = memories s := by
  simp [frerReset]

@[simp] theorem memories_latentError (fn : Nat) (s : State) : memories (latentError fn s) = memories s := by
  simp [latentError]

@[simp] theorem memories_prpSupervise (pair : Nat) (s : State) : memories (prpSupervise pair s) = memories s := by
  simp [prpSupervise]

@[simp] theorem memories_prpForget (mac : Mac) (s : State) : memories (prpForget mac s) = memories s := by
  unfold prpForget
  split <;> simp

theorem leaves_execBrineConfig (h : Hcp) (recs : List Param) (s : State) : Leaves s (execBrineConfig h recs s) := by
  refine leaves_next (memories_runHcp ?_)
  repeat' split
  all_goals simp

theorem leaves_execClassConfig (h : Hcp) (recs : List Param) (s : State) : Leaves s (execClassConfig h recs s) := by
  refine leaves_next (memories_runHcp ?_)
  split <;> simp

@[simp] theorem memories_bankWritten (s : State) (port bank : Nat) :
    memories (bankWritten s port bank) = memories s := by
  simp [bankWritten]

theorem leaves_execSluiceLoad (h : Hcp) (port bank : Nat) (b : SluiceBank) (s : State) :
    Leaves s (execSluiceLoad h port bank b s) := by
  simp [execSluiceLoad]

theorem leaves_execTagConfig (h : Hcp) (recs : List Param) (s : State) : Leaves s (execTagConfig h recs s) := by
  refine leaves_next (memories_runHcp ?_)
  split <;> simp

theorem leaves_execPrpConfig (h : Hcp) (recs : List Param) (s : State) : Leaves s (execPrpConfig h recs s) := by
  refine leaves_next (memories_runHcp ?_)
  split <;> simp

theorem leaves_execFrerStatus (h : Hcp) (fn : Nat) (s : State) : Leaves s (execFrerStatus h fn s) := by
  simp [execFrerStatus]

theorem leaves_execFdbAdd (h : Hcp) (mac : Mac) (fid : Nat) (dest : FdbDest) (s : State) :
    Leaves s (execFdbAdd h mac fid dest s) := by
  simp [execFdbAdd]

theorem leaves_execFdbDelete (h : Hcp) (mac : Mac) (fid : Nat) (s : State) : Leaves s (execFdbDelete h mac fid s) := by
  simp [execFdbDelete]

theorem leaves_execFdbFlush (h : Hcp) (sel : FlushSel) (s : State) : Leaves s (execFdbFlush h sel s) := by
  simp [execFdbFlush]

theorem leaves_execFdbResalt (h : Hcp) (s : State) : Leaves s (execFdbResalt h s) := by
  simp [execFdbResalt]

theorem leaves_execBitternWatch (h : Hcp) (k : Nat) (f : WatchFilter) (s : State) :
    Leaves s (execBitternWatch h k f s) := by
  simp [execBitternWatch]

theorem leaves_execBitternClear (h : Hcp) (sel : BitternSel) (s : State) : Leaves s (execBitternClear h sel s) := by
  refine leaves_next (memories_runHcp ?_)
  dsimp only
  repeat' split
  all_goals simp

/-! ## Operations shared by families -/

@[simp] theorem memories_putTwin (s : State) (x : Twin) : memories (putTwin s x) = memories s := by
  simp [putTwin]

@[simp] theorem memories_twinEvent (s : State) (kind : Nat) : memories (twinEvent s kind) = memories s := by
  simp [twinEvent]

@[simp] theorem memories_twinSend (s : State) (x : Sent) : memories (twinSend s x) = memories s := by
  simp [twinSend]

@[simp] theorem memories_twinGot (s : State) : memories (twinGot s) = memories s := by
  simp [twinGot]

@[simp] theorem memories_twinEnter (s : State) (st : TwinState) : memories (twinEnter s st) = memories s := by
  unfold twinEnter
  split <;> simp [mirrorsAlone]

@[simp] theorem memories_twinMove (s : State) (st : TwinState) : memories (twinMove s st) = memories s := by
  simp [twinMove]

@[simp] theorem memories_pdClean (s : State) (v : Nat) : memories (pdClean s v) = memories s := by
  simp [pdClean]

@[simp] theorem memories_pdMismatch (s : State) (v : Nat) (w : Writer) : memories (pdMismatch s v w) = memories s := by
  simp [pdMismatch]

@[simp] theorem memories_ownWindows (s : State) : memories (ownWindows s) = memories s := by
  simp [ownWindows]

@[simp] theorem memories_steerTo (s : State) (e ingress : Nat) (mk : Nat → RxItem) :
    memories (steerTo s e ingress mk) = memories s := by
  unfold steerTo
  split <;> simp

end Sys2Proof.Proofs
end

section
/-! SUPPORT. What admission, far accesses, inauguration, time and the ports leave of the addressed memories. -/

namespace Sys2Proof.Proofs

open Sys2Proof Sys2Proof.Machine

/-! ## Stream admission -/

@[simp] theorem memories_lastHop (s : State) (q : Nat) (a : AliasEntry) : memories (lastHop s q a).2 = memories s := by
  unfold lastHop
  split <;> rfl

@[simp] theorem memories_serveHops (s : State) (p : Prepare) (q : Nat) (l : List (Nat × PathHop)) :
    memories (serveHops s p q l).1 = memories s := by
  induction l generalizing s with
  | nil => rfl
  | cons e r ih =>
    unfold serveHops
    split
    · rfl
    · exact ih _

@[simp] theorem memories_removeLocal (s : State) (n : StreamName) : memories (removeLocal s n) = memories s := by
  simp [removeLocal]

@[simp] theorem memories_putOrigin (s : State) (o : OriginStream) : memories (putOrigin s o) = memories s := by
  simp [putOrigin]

@[simp] theorem memories_originDrop (s : State) (o : OriginStream) : memories (originDrop s o) = memories s := by
  simp [originDrop]

@[simp] theorem memories_completeAdmit (s : State) (o : OriginStream) (st : Status) (reason : Nat) (payload : Bytes) :
    memories (completeAdmit s o st reason payload) = memories s := by
  unfold completeAdmit
  split <;> simp

@[simp] theorem memories_refuseStream (s : State) (o : OriginStream) (f : FailRec) (computed : Option Nat) :
    memories (refuseStream s o f computed) = memories s := by
  simp [refuseStream]

@[simp] theorem memories_decideStream (s : State) (o : OriginStream) : memories (decideStream s o) = memories s := by
  simp [decideStream]

@[simp] theorem memories_drawDelays (n : Nat) (s : State) : memories (drawDelays n s).2 = memories s := by
  induction n generalizing s with
  | zero => rfl
  | succ n ih => exact ih _

@[simp] theorem memories_serveAll (s : State) (q : Nat) (l : List Prepare) : memories (serveAll s q l).1 = memories s := by
  induction l generalizing s with
  | nil => rfl
  | cons p r ih =>
    have hfirst := memories_serveHops s p q (ownHops s p)
    unfold serveAll
    split
    case h_1 h => rwa [h] at hfirst
    case h_2 h =>
      rw [h] at hfirst
      exact (ih _).trans hfirst

@[simp] theorem memories_beginStream (s : State) (o : OriginStream) (a : AliasEntry) :
    memories (beginStream s o a) = memories s := by
  unfold beginStream
  dsimp only
  repeat' split
  all_goals simp

@[simp] theorem answerState_refuseRequest (s : State) (r : StreamReq) (c n v k : Nat) :
    answerState (refuseRequest s r c n v k) = s := rfl

@[simp] theorem memories_pathDelay (s : State) (l : List PathHop) : memories (pathDelay s l).2 = memories s :=
  memories_drawDelays ..

@[simp] theorem memories_admitBody (h : Hcp) (r : StreamReq) (s : State) :
    memories (answerState (admitBody h r s)) = memories s := by
  unfold admitBody
  dsimp only
  repeat' split
  all_goals simp

theorem leaves_execStreamAdmit (h : Hcp) (r : StreamReq) (s : State) : Leaves s (execStreamAdmit h r s) := by
  simp [execStreamAdmit]

@[simp] theorem memories_passOn (s : State) (port : Nat) (x : Sent) : memories (passOn s port x) = memories s := by
  simp [passOn]

@[simp] theorem memories_channelTake {s : State} {p : Nat} {x : Sent} {f : State → State}
    (hf : ∀ u, memories (f u) = memories u) : memories (channelTake s p x f) = memories s := by
  simp [channelTake, hf]

@[simp] theorem memories_prepareTake (p : Nat) (x : Prepare) (s : State) : memories (prepareTake p x s) = memories s := by
  unfold prepareTake
  dsimp only
  repeat' split
  all_goals simp

@[simp] theorem memories_prepareEffect (port : Nat) (p : Prepare) (s : State) :
    memories (prepareEffect port p s) = memories s := by
  simp [prepareEffect]

@[simp] theorem memories_replyEffect (r : Reply) (s : State) : memories (replyEffect r s) = memories s := by
  simp only [replyEffect]
  repeat' split
  all_goals simp

@[simp] theorem memories_installEffect (p : Nat) (n : StreamName) (sec ns : Nat) (s : State) :
    memories (installEffect p n sec ns s) = memories s := by
  refine memories_channelTake fun u => ?_
  simp

@[simp] theorem memories_streamEvent (s : State) (o : OriginStream) (kind reason : Nat) :
    memories (streamEvent s o kind reason) = memories s := by
  simp [streamEvent]

@[simp] theorem memories_mirrorLocal (s : State) (n : StreamName) (b : Bool) :
    memories (mirrorLocal s n b) = memories s := by
  simp [mirrorLocal]

@[simp] theorem memories_mirrorState (s : State) (o : OriginStream) (b : Bool) :
    memories (mirrorState s o b) = memories s := by
  simp [mirrorState]

@[simp] theorem memories_suspend (s : State) (o : OriginStream) (down : List PathHop) :
    memories (suspend s o down) = memories s := by
  simp [suspend]

@[simp] theorem memories_streamActive (s : State) (o : OriginStream) : memories (streamActive s o) = memories s := by
  simp [streamActive]

@[simp] theorem memories_installEntry (s : State) (x : Stream) : memories (installEntry s x) = memories s := by
  unfold installEntry
  split <;> simp

@[simp] theorem memories_activateHold (s : State) (h : Hold) : memories (activateHold s h) = memories s := by
  simp only [activateHold]
  repeat' split
  all_goals simp

@[simp] theorem memories_activationEffect (name : StreamName) (s : State) :
    memories (activationEffect name s) = memories s := by
  unfold activationEffect
  dsimp only
  split <;> simp

@[simp] theorem memories_hopDown (s : State) (o : OriginStream) (k : Nat) : memories (hopDown s o k) = memories s :=
  asideMemories.hopDown s o k

@[simp] theorem memories_hopUp (s : State) (o : OriginStream) (k : Nat) : memories (hopUp s o k) = memories s :=
  asideMemories.hopUp s o k

@[simp] theorem memories_markStreams (s : State) (p : Nat) (down : Bool) : memories (markStreams s p down) = memories s :=
  asideMemories.markStreams s p down

@[simp] theorem memories_streamsBack (s : State) : memories (streamsBack s) = memories s := by
  simp [streamsBack]

@[simp] theorem memories_withdraw (s : State) (o : OriginStream) (reason : Nat) :
    memories (withdraw s o reason) = memories s := by
  simp [withdraw]

@[simp] theorem memories_withdrawTenant (s : State) (t : Nat) : memories (withdrawTenant s t) = memories s :=
  asideMemories.withdrawTenant s t

@[simp] theorem memories_admissionLost (s : State) : memories (admissionLost s) = memories s := by
  refine (memories_foldl (fun u o => ?_) s.adm.streams s)
  split <;> simp

@[simp] theorem memories_hopTimeout (s : State) (o : OriginStream) (k : Nat) :
    memories (hopTimeout s o k) = memories s := by
  simp [hopTimeout]

@[simp] theorem memories_confirmEffect (name : StreamName) (hop status : Nat) (s : State) :
    memories (confirmEffect name hop status s) = memories s := by
  unfold confirmEffect
  repeat' split
  all_goals simp

theorem leaves_execConfirmReceive (n : StreamName) (k st : Nat) (s : State) :
    Leaves s (execConfirmReceive n k st s) := by
  simp [execConfirmReceive]

@[simp] theorem memories_confirmTimeoutEffect (id : Nat) (s : State) :
    memories (confirmTimeoutEffect id s) = memories s := by
  unfold confirmTimeoutEffect
  split <;> simp

@[simp] theorem memories_prepareTimeoutEffect (id : Nat) (s : State) :
    memories (prepareTimeoutEffect id s) = memories s := by
  unfold prepareTimeoutEffect
  split <;> simp

@[simp] theorem memories_releaseEffect (name : StreamName) (s : State) :
    memories (releaseEffect name s) = memories s := by
  unfold releaseEffect
  repeat' split
  all_goals simp

theorem leaves_execReleaseReceive (n : StreamName) (s : State) : Leaves s (execReleaseReceive n s) := by
  simp [execReleaseReceive]

@[simp] theorem memories_holdLapseEffect (name : StreamName) (s : State) :
    memories (holdLapseEffect name s) = memories s := by
  unfold holdLapseEffect
  split <;> simp

@[simp] theorem memories_noticeEffect (n : Notice) (s : State) : memories (noticeEffect n s) = memories s := by
  unfold noticeEffect
  repeat' split
  all_goals simp

theorem leaves_execNoticeReceive (n : Notice) (s : State) : Leaves s (execNoticeReceive n s) := by
  simp [execNoticeReceive]

@[simp] theorem memories_suspendExpiry (id : Nat) (s : State) : memories (suspendExpiry id s) = memories s := by
  unfold suspendExpiry
  split <;> simp

theorem leaves_execStreamWithdraw (h : Hcp) (origin : UnitId) (id : Nat) (s : State) :
    Leaves s (execStreamWithdraw h origin id s) := by
  refine leaves_next (memories_runHcp ?_)
  repeat' split
  all_goals simp

theorem leaves_execStreamStatus (h : Hcp) (origin : UnitId) (id : Nat) (s : State) :
    Leaves s (execStreamStatus h origin id s) := by
  refine leaves_next (memories_runHcp ?_)
  repeat' split
  all_goals simp

theorem leaves_execAdmissionConfig (h : Hcp) (recs : List Param) (s : State) :
    Leaves s (execAdmissionConfig h recs s) := by
  refine leaves_next (memories_runHcp ?_)
  repeat' split
  all_goals simp

/-! ## Far accesses -/

@[simp] theorem memories_putFar (s : State) (f : Nat) (x : FarTarget) : memories (putFar s f x) = memories s := by
  simp [putFar]

@[simp] theorem memories_farErr (s : State) (f b : Nat) : memories (farErr s f b) = memories s := by
  simp [farErr]

@[simp] theorem memories_farLog (s : State) (f b a st : Nat) : memories (farLog s f b a st) = memories s :=
  asideMemories.farLog s f b a st

@[simp] theorem memories_farEnd (s : State) (f : Nat) (a : FarAcc) (e : FarEnd) : memories (farEnd s f a e) = memories s :=
  asideMemories.farEnd s f a e

@[simp] theorem memories_farReserve (s : State) (f : Nat) : memories (farReserve s f) = memories s :=
  asideMemories.farReserve s f

@[simp] theorem memories_farHeadEnd (s : State) (f : Nat) (e : FarEnd) : memories (farHeadEnd s f e) = memories s := by
  unfold farHeadEnd
  split <;> simp

@[simp] theorem memories_farFlush (n : Nat) (s : State) (f : Nat) (e : FarEnd) : memories (farFlush n s f e) = memories s :=
  asideMemories.farFlush n s f e

@[simp] theorem memories_farPortDown (s : State) (p : Nat) : memories (farPortDown s p) = memories s :=
  asideMemories.farPortDown s p

@[simp] theorem memories_farDegraded (s : State) : memories (farDegraded s) = memories s := by
  simp [farDegraded]

@[simp] theorem memories_lockGrant (s : State) (f : Nat) (w : FarLockReq) :
    memories (lockGrant s f w) = memories s := by
  simp [lockGrant]

@[simp] theorem memories_lockNext (s : State) (f : Nat) : memories (lockNext s f) = memories s := by
  unfold lockNext
  split <;> simp

@[simp] theorem memories_lockRelease (s : State) (f : Nat) : memories (lockRelease s f) = memories s :=
  asideMemories.lockRelease s f

@[simp] theorem memories_lockRequest (s : State) (f : Nat) (w : FarLockReq) :
    memories (lockRequest s f w) = memories s := by
  simp only [lockRequest]
  repeat' split
  all_goals simp

@[simp] theorem memories_farTenantReset (s : State) (t : Nat) : memories (farTenantReset s t) = memories s :=
  asideMemories.farTenantReset s t

/-! ## The topology and the twin pair -/

@[simp] theorem memories_bankClean (s : State) (b : Nat) : memories (bankClean s b) = memories s := by
  simp [bankClean]

@[simp] theorem memories_putBank (s : State) (b : Nat) (t : Table (Option AliasEntry)) :
    memories (putBank s b t) = memories s := by
  simp [putBank]

@[simp] theorem memories_buildAlias (s : State) (nodes : List NodeRec) :
    memories (buildAlias s nodes) = memories s := by
  simp [buildAlias]

@[simp] theorem memories_aliasSwitch (s : State) (b : Nat) : memories (aliasSwitch s b) = memories s := by
  simp [aliasSwitch]

@[simp] theorem memories_armDevice (s : State) (k target : Nat) (arg : Word) (t : Nat) :
    memories (armDevice s k target arg t) = memories s := by
  simp [armDevice]

@[simp] theorem memories_putHello (s : State) (p : Nat) (x : HelloLink) : memories (putHello s p x) = memories s := by
  simp [putHello]

@[simp] theorem memories_putRun (s : State) (x : InaugRun) : memories (putRun s x) = memories s := by
  simp [putRun]

@[simp] theorem memories_putIne (s : State) (x : IneState) : memories (putIne s x) = memories s := by
  simp [putIne]

@[simp] theorem memories_inaugSend (s : State) (mk : InaugHdr → Sent) : memories (inaugSend s mk) = memories s := by
  simp [inaugSend]

@[simp] theorem memories_inaugSendEach (s : State) (mk : Nat → InaugHdr → Sent) :
    memories (inaugSendEach s mk) = memories s := by
  simp [inaugSendEach]

@[simp] theorem memories_sendTable (s : State) (ports : List Nat) (l : List NodeRec) :
    memories (sendTable s ports l) = memories s := by
  simp [sendTable]

@[simp] theorem memories_startHello (s : State) (p : Nat) : memories (startHello s p) = memories s := by
  simp [startHello]

@[simp] theorem memories_releaseHeld (s : State) : memories (releaseHeld s) = memories s := by
  simp [releaseHeld]

@[simp] theorem memories_inaugComplete (s : State) : memories (inaugComplete s) = memories s := by
  simp [inaugComplete]

@[simp] theorem memories_takeNumbers (s : State) (nodes : List NodeRec) :
    memories (takeNumbers s nodes) = memories s := by
  unfold takeNumbers
  split <;> simp

@[simp] theorem memories_agesKept (old s : State) : memories (agesKept old s) = memories s := rfl

@[simp] theorem memories_reinstantiate (s : State) : memories (reinstantiate s) = memories s := by
  unfold reinstantiate
  split
  · rfl
  · split
    case h_1 h => simp [memories_instantiateImage h]
    case h_2 => simp

@[simp] theorem memories_selfTimedStart (s : State) (t : Nat) (leader : UnitId) :
    memories (selfTimedStart s t leader) = memories s := by
  simp [selfTimedStart]

@[simp] theorem memories_restoreIdent (s : State) : memories (restoreIdent s) = memories s := by
  simp [restoreIdent]

@[simp] theorem memories_inaugAbort (s : State) (reason : Nat) : memories (inaugAbort s reason) = memories s := by
  simp [inaugAbort, restoreNumbers]

@[simp] theorem memories_orderAbort (s : State) (reason : Nat) : memories (orderAbort s reason) = memories s := by
  simp [orderAbort]

@[simp] theorem memories_inaugBegin (s : State) (merge : Bool) (startAt : Nat) :
    memories (inaugBegin s merge startAt) = memories s := by
  simp [inaugBegin]

@[simp] theorem memories_refuseLarge (s : State) (ports : List Nat) : memories (refuseLarge s ports) = memories s := by
  simp [refuseLarge]

@[simp] theorem memories_sendDigest (s : State) : memories (sendDigest s) = memories s := by
  simp [sendDigest]

@[simp] theorem memories_propose (s : State) : memories (propose s) = memories s := by
  simp [propose, tooLarge, proposeMerge, proposeSingle]

@[simp] theorem memories_renumber (s : State) : memories (renumber s) = memories s := by
  simp [renumber]

@[simp] theorem memories_keepAck (s : State) (u : UnitId) (sub status : Nat) :
    memories (keepAck s u sub status) = memories s := by
  simp [keepAck]

@[simp] theorem memories_sendAck (s : State) (sub status : Nat) : memories (sendAck s sub status) = memories s := by
  simp [sendAck]

@[simp] theorem memories_aliasEpoch (s : State) (b : Nat) : memories (aliasEpoch s b) = memories s := by
  simp [aliasEpoch, couplersUp]

@[simp] theorem memories_installRun (s : State) (t : Nat) (topo : Word) :
    memories (installRun s t topo) = memories s := by
  simp [installRun]

@[simp] theorem memories_sendInstall (s : State) : memories (sendInstall s) = memories s := by
  simp [sendInstall]

@[simp] theorem memories_afterRenumber (s : State) : memories (afterRenumber s) = memories s := by
  simp [afterRenumber]

@[simp] theorem memories_mergeSettle (s : State) : memories (mergeSettle s) = memories s := by
  simp [mergeSettle]

@[simp] theorem memories_mergeRun (s : State) (epoch : Word) (leader : UnitId) :
    memories (mergeRun s epoch leader) = memories s := by
  simp [mergeRun]

@[simp] theorem memories_afterStop (s : State) : memories (afterStop s) = memories s := by
  simp [afterStop]

@[simp] theorem memories_stopped5 (s : State) : memories (stopped5 s) = memories s := by
  simp [stopped5]

@[simp] theorem memories_proceedRun (s : State) : memories (proceedRun s) = memories s := by
  unfold proceedRun
  dsimp only
  split <;> simp

@[simp] theorem memories_topologyAgreed (s : State) : memories (topologyAgreed s) = memories s := by
  simp [topologyAgreed]

@[simp] theorem memories_afterDigest (s : State) : memories (afterDigest s) = memories s := by
  simp [afterDigest]

@[simp] theorem memories_inaugListen (s : State) : memories (inaugListen s) = memories s := by
  simp [inaugListen]

@[simp] theorem memories_beginSingle (s : State) (l : List NodeRec) : memories (beginSingle s l) = memories s := by
  simp [beginSingle]

@[simp] theorem memories_uncouple (s : State) (p : Nat) : memories (uncouple s p) = memories s := by
  simp [uncouple]

@[simp] theorem memories_beginStandard (s : State) : memories (beginStandard s) = memories s := by
  simp [beginStandard]

@[simp] theorem memories_ineLinkUp (s : State) (p : Nat) : memories (ineLinkUp s p) = memories s := by
  unfold ineLinkUp
  repeat' split
  all_goals simp

@[simp] theorem memories_ineLinkDown (s : State) (p : Nat) : memories (ineLinkDown s p) = memories s := by
  unfold ineLinkDown
  dsimp only
  split <;> simp [helloLost, splitAt]

@[simp] theorem memories_inaugTimeLost (s : State) : memories (inaugTimeLost s) = memories s := by
  unfold inaugTimeLost
  split <;> simp

@[simp] theorem memories_swapLater (s : State) (from_ : Nat) : memories (swapLater s from_) = memories s := by
  simp [swapLater]

@[simp] theorem memories_swapNow (s : State) : memories (swapNow s) = memories s := by
  unfold swapNow
  split <;> simp

@[simp] theorem memories_twinBoundary (s : State) : memories (twinBoundary s) = memories s := by
  unfold twinBoundary
  dsimp only
  split <;> simp

@[simp] theorem memories_twinLinkUp (s : State) (pt : Partner) : memories (twinLinkUp s pt) = memories s := by
  simp only [twinLinkUp]
  repeat' split
  all_goals simp

/-! ## Train time and wayside time -/

@[simp] theorem memories_putLinkTime (s : State) (l : Nat) (x : LinkTime) :
    memories (putLinkTime s l x) = memories s := by
  simp [putLinkTime]

@[simp] theorem memories_ltmSendEffect (p : Nat) (inserted : Bool) (s : State) :
    memories (ltmSendEffect p inserted s) = memories s := by
  unfold ltmSendEffect
  split <;> simp [ltmNow]

@[simp] theorem memories_ltmStore (s : State) (l : Nat) (m : Ltm) (ratio : Int) :
    memories (ltmStore s l m ratio) = memories s := by
  simp [ltmStore]

@[simp] theorem memories_ltmAdopt (s : State) (l : Nat) (m : Ltm) : memories (ltmAdopt s l m) = memories s := by
  simp [ltmAdopt]

@[simp] theorem memories_lockRule (s : State) (offPs : Int) : memories (lockRule s offPs) = memories s := by
  unfold lockRule
  dsimp only
  split <;> simp

@[simp] theorem memories_applyOffset (s : State) (offPs : Int) : memories (applyOffset s offPs) = memories s := by
  simp [applyOffset, cssStepped, stepToUpstream]

@[simp] theorem memories_ltmLed (s : State) (l : Nat) (m : Ltm) : memories (ltmLed s l m) = memories s := by
  simp [ltmLed]

@[simp] theorem memories_ltmReceiveEffect (p : Nat) (m : Ltm) (ratio : Int) (s : State) :
    memories (ltmReceiveEffect p m ratio s) = memories s := by
  unfold ltmReceiveEffect
  split <;> simp

@[simp] theorem memories_holdoverEffect (s : State) : memories (holdoverEffect s) = memories s := by
  simp [holdoverEffect]

@[simp] theorem memories_trtServo (rate : Option Int) (span : Nat) (s : State) :
    memories (trtServo rate span s) = memories s := by
  simp only [trtServo]
  repeat' split
  all_goals simp

@[simp] theorem memories_wytServo (span : Nat) (s : State) : memories (wytServo span s) = memories s := by
  simp only [wytServo]
  repeat' split
  all_goals simp

@[simp] theorem memories_servoEffect (scale : Scale) (rate : Option Int) (span : Nat) (s : State) :
    memories (servoEffect scale rate span s) = memories s := by
  unfold servoEffect
  repeat' split
  all_goals simp

@[simp] theorem memories_trackLoss (s : State) (l : Nat) : memories (trackLoss s l) = memories s := by
  simp only [trackLoss]
  repeat' split
  all_goals simp

theorem leaves_execPhaseTrackLoss (p : Nat) (s : State) : Leaves s (execPhaseTrackLoss p s) := by
  refine leaves_next ?_
  split <;> simp

@[simp] theorem memories_requalify (p : Nat) (s : State) : memories (requalify p s) = memories s := by
  unfold requalify
  split <;> simp

@[simp] theorem memories_putDomain (s : State) (d : Nat) (x : GptpDomain) :
    memories (putDomain s d x) = memories s := by
  simp [putDomain]

@[simp] theorem memories_wytJoin (s : State) (offsetNs : Int) : memories (wytJoin s offsetNs) = memories s := by
  simp [wytJoin]

@[simp] theorem memories_wytSelect (s : State) (d : Nat) : memories (wytSelect s d) = memories s := by
  simp [wytSelect]

@[simp] theorem memories_reselect (s : State) (d : Nat) : memories (reselect s d) = memories s := by
  simp [reselect]

@[simp] theorem memories_syncTake (s : State) (d : Nat) (before : GptpDomain) :
    memories (syncTake s d before) = memories s := by
  unfold syncTake
  repeat' split
  all_goals simp

@[simp] theorem memories_pdelayTake (s : State) (port : Nat) (seq : BitVec 16) (t2 t3 : Nat) :
    memories (pdelayTake s port seq t2 t3) = memories s := by
  unfold pdelayTake
  dsimp only
  split <;> simp

@[simp] theorem memories_gptpEffect (port : Nat) (m : GptpMsg) (s : State) :
    memories (gptpEffect port m s) = memories s := by
  unfold gptpEffect
  repeat' split
  all_goals simp [announceReceive, relaySync, syncReceive]

@[simp] theorem memories_syncTimeout (dom : Nat) (s : State) : memories (syncTimeout dom s) = memories s := by
  simp [syncTimeout, wytHoldover]

@[simp] theorem memories_preferredReturn (s : State) : memories (preferredReturn s) = memories s := by
  simp [preferredReturn]

@[simp] theorem memories_pdelaySend (port : Nat) (s : State) : memories (pdelaySend port s) = memories s := by
  simp [pdelaySend]

@[simp] theorem memories_syncSend (port dom : Nat) (inserted : Bool) (s : State) :
    memories (syncSend port dom inserted s) = memories s := by
  simp [syncSend]

@[simp] theorem memories_ppsInEffect (s : State) : memories (ppsInEffect s) = memories s := by
  simp [ppsInEffect]

@[simp] theorem memories_ppsOutEffect (s : State) : memories (ppsOutEffect s) = memories s := by
  unfold ppsOutEffect
  split <;> simp

@[simp] theorem memories_ppsFallEffect (s : State) : memories (ppsFallEffect s) = memories s := by
  unfold ppsFallEffect
  split <;> simp

@[simp] theorem memories_refMove (s : State) : memories (refMove s) = memories s := by
  simp [refMove]

@[simp] theorem memories_xinFaulted (s : State) : memories (xinFaulted s) = memories s := by
  simp [xinFaulted]

@[simp] theorem memories_refWindow (ms : List RefMeas) (s : State) : memories (refWindow ms s) = memories s := by
  simp [refWindow]

@[simp] theorem memories_refReturnEffect (s : State) : memories (refReturnEffect s) = memories s := by
  unfold refReturnEffect
  split <;> simp

@[simp] theorem memories_xinStopEffect (s : State) : memories (xinStopEffect s) = memories s := by
  simp [xinStopEffect]

@[simp] theorem memories_beaconSend (sg : Nat) (inserted : Bool) (s : State) :
    memories (beaconSend sg inserted s) = memories s := by
  simp [beaconSend, beaconNow]

theorem leaves_execTimeRead (h : Hcp) (s : State) : Leaves s (execTimeRead h s) := by
  refine leaves_next (memories_runHcp ?_)
  simp

theorem leaves_execTimeConfig (h : Hcp) (recs : List Param) (s : State) : Leaves s (execTimeConfig h recs s) := by
  refine leaves_next (memories_runHcp ?_)
  split <;> simp

theorem leaves_execTimeSet (h : Hcp) (sec ns frac : Nat) (s : State) : Leaves s (execTimeSet h sec ns frac s) := by
  simp [execTimeSet]

/-! ## Ports, segments and CAN -/

@[simp] theorem memories_putCfg (s : State) (p : Nat) (c : PortCfg) : memories (putCfg s p c) = memories s := by
  simp [putCfg]

@[simp] theorem memories_putLink (s : State) (p : Nat) (l : LinkRec) : memories (putLink s p l) = memories s := by
  simp [putLink]

@[simp] theorem memories_linkEvent (s : State) (p flags reason : Nat) :
    memories (linkEvent s p flags reason) = memories s := by
  simp [linkEvent]

@[simp] theorem memories_countPaused (s : State) (p : Nat) : memories (countPaused s p) = memories s := by
  simp [countPaused]

@[simp] theorem memories_portDown (s : State) (p flags reason : Nat) :
    memories (portDown s p flags reason) = memories s := by
  unfold portDown
  repeat' split
  all_goals simp

@[simp] theorem memories_bbHold (s : State) : memories (bbHold s) = memories s := by
  simp [bbHold]

@[simp] theorem memories_portUp (s : State) (p flags : Nat) (partner : Option Partner) :
    memories (portUp s p flags partner) = memories s := by
  unfold portUp
  repeat' split
  all_goals simp

@[simp] theorem memories_holdHalf (s : State) (p speed : Nat) (changed : Bool) :
    memories (holdHalf s p speed changed) = memories s := by
  simp [holdHalf]

@[simp] theorem memories_linkUpEffect (p lockNs : Nat) (full : Bool) (partner : Option Partner) (s : State) :
    memories (linkUpEffect p lockNs full partner s) = memories s := by
  unfold linkUpEffect
  split <;> simp

theorem leaves_execLinkDown (port : Nat) (s : State) : Leaves s (execLinkDown port s) := by
  refine leaves_next ?_
  split <;> simp

@[simp] theorem memories_inbandEffect (p : Nat) (up : Bool) (speed : Nat) (full : Bool) (s : State) :
    memories (inbandEffect p up speed full s) = memories s := by
  simp [inbandEffect]

@[simp] theorem memories_laneLoss (lane : Nat) (s : State) : memories (laneLoss lane s) = memories s := by
  simp [laneLoss]

@[simp] theorem memories_pauseEffect (p quanta : Nat) (src : Mac) (s : State) :
    memories (pauseEffect p quanta src s) = memories s := by
  simp [pauseEffect]

@[simp] theorem memories_pauseExpire (p : Nat) (s : State) : memories (pauseExpire p s) = memories s := by
  unfold pauseExpire
  split <;> simp

@[simp] theorem memories_pauseTrip (p : Nat) (s : State) : memories (pauseTrip p s) = memories s := by
  unfold pauseTrip
  split <;> simp

@[simp] theorem memories_pauseHonour (p : Nat) (s : State) : memories (pauseHonour p s) = memories s := by
  simp [pauseHonour]

/-- A step that may fail leaves the memories as they are. -/
def Applies {ε : Type} (s : State) (x : Except ε State) : Prop := ∀ t, x = .ok t → memories t = memories s

@[simp] theorem applies_ok {ε : Type} {s t : State} : Applies s (.ok t : Except ε State) ↔ memories t = memories s :=
  ⟨fun h => h t rfl, fun h _ e => by cases e; exact h⟩

@[simp] theorem applies_error {ε : Type} {s : State} {e : ε} : Applies s (.error e) := fun _ h => by cases h

@[simp] theorem applies_badRec {s : State} : Applies s badRec := applies_error

@[simp] theorem applies_refusedRec {s : State} {n : Nat} : Applies s (refusedRec n) := applies_error

@[simp] theorem applies_orBad {α : Type} {s : State} {o : Option α} {k : α → Except (Status × Nat) State}
    (h : ∀ a, Applies s (k a)) : Applies s (orBad o k) := by
  cases o with
  | none => exact applies_error
  | some a => exact h a

theorem applies_overPorts {f : State → Nat → Except (Status × Nat) State} (h : ∀ s p, Applies s (f s p)) (l : List Nat)
    (s : State) : Applies s (overPorts f l s) := by
  induction l generalizing s with
  | nil => exact applies_ok.2 rfl
  | cons p r ih =>
    unfold overPorts
    split
    · exact applies_error
    · rename_i u hu
      exact fun t ht => (ih u t ht).trans (h s p u hu)

/-- Records of which each leaves the memories as they are, applied in turn. -/
theorem memories_applyChecked {f : State → Param → Except (Status × Nat) State} (h : ∀ s r, Applies s (f s r)) {i : Nat}
    {s t : State} {l : List Param} (ht : applyChecked f i s l = .ok t) : memories t = memories s := by
  induction l generalizing i s with
  | nil =>
    cases ht
    rfl
  | cons r l ih =>
    unfold applyChecked at ht
    split at ht
    · cases ht
    · rename_i u hu
      exact (ih ht).trans (h s r u hu)

theorem applies_portRec (s : State) (r : Param) : Applies s (portRec s r) := by
  have hfield : ∀ u p, Applies u (portField u r p) := fun u p => by
    unfold portField
    dsimp only
    split
    case h_19 => exact applies_badRec
    all_goals
      refine applies_orBad fun v => ?_
      repeat' split
      all_goals simp
  unfold portRec
  extract_lets ps
  split
  · exact applies_badRec
  · exact applies_overPorts hfield _ _

@[simp] theorem memories_portApply (old s : State) (p : Nat) : memories (portApply old s p) = memories s := by
  unfold portApply
  dsimp only
  repeat' split
  all_goals simp

theorem leaves_execPortConfig (h : Hcp) (recs : List Param) (s : State) : Leaves s (execPortConfig h recs s) := by
  refine leaves_next (memories_runHcp ?_)
  split
  · rfl
  · rename_i u hu
    simp [memories_applyChecked applies_portRec hu]

@[simp] theorem memories_putSeg (s : State) (sg : Nat) (x : Segment) : memories (putSeg s sg x) = memories s := by
  simp [putSeg]

@[simp] theorem memories_segEnter (s : State) (sg : Nat) (st : SegState) :
    memories (segEnter s sg st) = memories s := by
  simp [segEnter]

theorem applies_segRec (s : State) (r : Param) : Applies s (segRec s r) := by
  have hfield : ∀ u p, Applies u (segField u r p) := fun u p => by
    unfold segField
    dsimp only
    repeat' split
    all_goals simp
  unfold segRec
  split
  · exact applies_overPorts hfield _ _
  · split
    · exact hfield _ _
    · exact applies_badRec

theorem leaves_execSegConfig (h : Hcp) (recs : List Param) (s : State) : Leaves s (execSegConfig h recs s) := by
  refine leaves_next (memories_runHcp ?_)
  split
  · rfl
  · rename_i u hu
    exact memories_applyChecked applies_segRec hu

@[simp] theorem memories_segWait (s : State) (sg : Nat) (w : SegPending) : memories (segWait s sg w) = memories s := by
  simp [segWait]

@[simp] theorem memories_segRetarget (s : State) (sg : Nat) (st : SegState) :
    memories (segRetarget s sg st) = memories s := by
  simp [segRetarget]

theorem leaves_execSegState (h : Hcp) (sg : Nat) (st : SegState) (s : State) : Leaves s (execSegState h sg st s) := by
  simp [execSegState]

@[simp] theorem memories_segSilence (sg : Nat) (s : State) : memories (segSilence sg s) = memories s := by
  unfold segSilence
  split <;> simp

@[simp] theorem memories_segSleepLate (sg : Nat) (s : State) : memories (segSleepLate sg s) = memories s := by
  unfold segSleepLate
  split <;> simp

@[simp] theorem memories_segEvent (s : State) (sg kind : Nat) : memories (segEvent s sg kind) = memories s := by
  simp [segEvent]

@[simp] theorem memories_segActive (sg : Nat) (p : SegPulse) (s : State) :
    memories (segActive sg p s) = memories s := by
  simp [segActive]

@[simp] theorem memories_segBurst (s : State) (sg : Nat) (after : SegState) (h : Hcp) :
    memories (segBurst s sg after h) = memories s := by
  simp [segBurst]

theorem leaves_execSegWake (h : Hcp) (sg : Nat) (s : State) : Leaves s (execSegWake h sg s) := by
  simp [execSegWake]

@[simp] theorem memories_segBurstEnd (sg : Nat) (s : State) : memories (segBurstEnd sg s) = memories s := by
  unfold segBurstEnd
  split <;> simp

@[simp] theorem memories_segResume (sg : Nat) (s : State) (w : SegPending) :
    memories (segResume sg s w) = memories s := by
  unfold segResume
  split <;> simp

@[simp] theorem memories_segPowerUp (sg : Nat) (s : State) : memories (segPowerUp sg s) = memories s := by
  simp [segPowerUp]

@[simp] theorem memories_putCan (s : State) (n : Nat) (x : CanPort) : memories (putCan s n x) = memories s := by
  simp [putCan]

theorem applies_canRec (s : State) (r : Param) : Applies s (canRec s r) := by
  have hput : ∀ (u : State) (n : Nat) (y : CanPort) (c : Prop) [Decidable c] (k : Nat),
      Applies u (if c then refusedRec k else .ok (putCan u n y)) := fun u n y c _ k => by
    split <;> simp
  have hrate : ∀ {u : State} {lo hi : Nat} {k : Nat → Except (Status × Nat) State}, (∀ v, Applies u (k v)) →
      Applies u (canRateRec r lo hi k) := fun hk => by
    unfold canRateRec
    refine applies_orBad fun v => ?_
    split
    · exact applies_refusedRec
    · split
      · exact applies_badRec
      · exact hk _
  have hfield : ∀ u p, Applies u (canField u r p) := fun u p => by
    unfold canField
    dsimp only
    repeat' split
    all_goals simp [hput, hrate]
  unfold canRec
  split
  · exact applies_overPorts hfield _ _
  · split
    · exact hfield _ _
    · exact applies_badRec

theorem leaves_execCanConfig (h : Hcp) (recs : List Param) (s : State) : Leaves s (execCanConfig h recs s) := by
  refine leaves_next (memories_runHcp ?_)
  split
  · rfl
  · rename_i u hu
    have hkept := memories_applyChecked applies_canRec hu
    repeat' split
    all_goals simp [hkept]

theorem leaves_execCanRecover (h : Hcp) (port : Nat) (s : State) : Leaves s (execCanRecover h port s) := by
  simp [execCanRecover]

@[simp] theorem memories_canOff (p : Nat) (s : State) : memories (canOff p s) = memories s := by
  simp [canOff]

@[simp] theorem memories_canRejoin (p bits : Nat) (s : State) : memories (canRejoin p bits s) = memories s := by
  simp [canRejoin]

theorem leaves_execMdioAccess (h : Hcp) (ops : List MdioOp) (s : State) : Leaves s (execMdioAccess h ops s) := by
  simp [execMdioAccess]

theorem leaves_execPortStatus (h : Hcp) (port : Nat) (s : State) : Leaves s (execPortStatus h port s) := by
  simp [execPortStatus]

theorem leaves_execHarvestTake (h : Hcp) (a : HarvestArgs) (s : State) : Leaves s (execHarvestTake h a s) := by
  simp [execHarvestTake]

@[simp] theorem memories_fillDone (b : Nat) (s : State) : memories (fillDone b s) = memories s := by
  simp [fillDone]

/-! ## The Far Window -/

theorem leaves_execFarTargetSet (h : Hcp) (f : Nat) (c : Option FarCfg) (s : State) :
    Leaves s (execFarTargetSet h f c s) := by
  refine leaves_next (memories_runHcp ?_)
  split <;> simp

@[simp] theorem memories_farPut (s : State) (f : Nat) (path : FarPath) (isRead : Bool) (addr len : Nat) (data : Bytes)
    (h : Option Hcp) :
    memories (farPut s f path isRead addr len data h) = memories s := by
  simp [farPut]

@[simp] theorem memories_farCommand (h : Hcp) (f a n : Nat) (r : Bool) (d : Bytes) (s : State) :
    memories (answerState (farCommand h f a n r d s)) = memories s := by
  unfold farCommand
  repeat' split
  all_goals simp

theorem leaves_execFarRead (h : Hcp) (f addr len : Nat) (s : State) : Leaves s (execFarRead h f addr len s) := by
  simp [execFarRead]

theorem leaves_execFarWrite (h : Hcp) (f addr : Nat) (data : Bytes) (s : State) :
    Leaves s (execFarWrite h f addr data s) := by
  simp [execFarWrite]

theorem leaves_execFarLock (h : Hcp) (f token lease : Nat) (s : State) : Leaves s (execFarLock h f token lease s) := by
  simp [execFarLock]

theorem leaves_execFarUnlock (h : Hcp) (f token : Nat) (s : State) : Leaves s (execFarUnlock h f token s) := by
  simp [execFarUnlock]

@[simp] theorem memories_hostRead (f off len : Nat) (s : State) : memories (hostRead f off len s) = memories s := by
  unfold hostRead
  repeat' split
  all_goals simp [farReject]

@[simp] theorem memories_hostWrite (f off : Nat) (data : Bytes) (s : State) :
    memories (hostWrite f off data s) = memories s := by
  unfold hostWrite
  repeat' split
  all_goals simp

@[simp] theorem memories_fwLock (f : Nat) (v : Word) (s : State) : memories (fwLock f v s) = memories s := by
  simp [fwLock]

@[simp] theorem memories_farIssue (s : State) (c : FarCfg) (t : FarTxn) : memories (farIssue s c t) = memories s := by
  simp [farIssue]

@[simp] theorem memories_requestSend (f : Nat) (s : State) : memories (requestSend f s) = memories s := by
  unfold requestSend
  dsimp only
  split <;> simp

@[simp] theorem memories_responseReceive (f : Nat) (r : FarResp) (s : State) :
    memories (responseReceive f r s) = memories s := by
  unfold responseReceive
  dsimp only
  split <;> simp

@[simp] theorem memories_resend (f : Nat) (s : State) : memories (resend f s) = memories s := by
  unfold resend
  dsimp only
  split <;> simp

@[simp] theorem memories_farLate (f : Nat) (s : State) : memories (farLate f s) = memories s := by
  unfold farLate
  split <;> simp

@[simp] theorem memories_discardEnd (f tag : Nat) (s : State) : memories (discardEnd f tag s) = memories s := by
  simp [discardEnd]

@[simp] theorem memories_leaseExpire (f : Nat) (s : State) : memories (leaseExpire f s) = memories s := by
  unfold leaseExpire
  split <;> simp

@[simp] theorem memories_canReceive (p : Nat) (r : CanRecord) (phy : List PhyCount) (s : State) :
    memories (canReceive p r phy s) = memories s := by
  simp only [canReceive]
  repeat' split
  all_goals simp

end Sys2Proof.Proofs
end

section
/-! SUPPORT. What the safety island, the recorder, firmware, tenants and power leave of the addressed memories. -/

namespace Sys2Proof.Proofs

open Sys2Proof Sys2Proof.Machine

/-! ## The safety island -/

@[simp] theorem memories_putChan (s : State) (ch : Chan) (c : Channel) : memories (putChan s ch c) = memories s := by
  unfold putChan
  split <;> simp

@[simp] theorem memories_putAxis (s : State) (ch : Chan) (k : Nat) (a : Axis) :
    memories (putAxis s ch k a) = memories s := by
  simp [putAxis]

@[simp] theorem memories_settle (s : State) (ch : Chan) : memories (settle s ch) = memories s := by
  simp [settle, driveHalf, handTimer]

@[simp] theorem memories_settleBoth (s : State) : memories (settleBoth s) = memories s := by
  simp [settleBoth]

@[simp] theorem memories_clearGrants (s : State) (ch : Chan) (m : BitVec 8) :
    memories (clearGrants s ch m) = memories s := by
  simp [clearGrants]

@[simp] theorem memories_outputFault (s : State) (n reason chan : Nat) :
    memories (outputFault s n reason chan) = memories s := by
  simp [outputFault]

@[simp] theorem memories_axisSafe (s : State) (ch : Chan) (k reason func : Nat) :
    memories (axisSafe s ch k reason func) = memories s := by
  unfold axisSafe
  dsimp only
  split <;> simp

@[simp] theorem memories_deviceSafe (s : State) (cause : Nat) : memories (deviceSafe s cause) = memories s := by
  simp [deviceSafe]

@[simp] theorem memories_axisReset (s : State) (ch : Chan) (k cause : Nat) :
    memories (axisReset s ch k cause) = memories s := by
  unfold axisReset
  split <;> simp

@[simp] theorem memories_leaveSafe (s : State) (cause : Nat) : memories (leaveSafe s cause) = memories s := by
  simp [leaveSafe, axesBegin]

@[simp] theorem memories_guardMove (s : State) (ch : Chan) (k : Nat) : memories (guardMove s ch k) = memories s := by
  unfold guardMove
  dsimp only
  split <;> simp [countCycle]

@[simp] theorem memories_releaseMove (s : State) (ch : Chan) (k : Nat) :
    memories (releaseMove s ch k) = memories s := by
  unfold releaseMove
  dsimp only
  split <;> simp

@[simp] theorem memories_moveAxes (s : State) (ch : Chan) : memories (moveAxes s ch) = memories s := by
  simp [moveAxes]

@[simp] theorem memories_releaseAll (s : State) (ch : Chan) : memories (releaseAll s ch) = memories s := by
  simp [releaseAll]

@[simp] theorem memories_moveRelease (s : State) (ch : Chan) (n : Nat) :
    memories (moveRelease s ch n) = memories s := by
  simp [moveRelease]

@[simp] theorem memories_releaseWithdraw (s : State) (n : Nat) : memories (releaseWithdraw s n) = memories s := by
  simp [releaseWithdraw]

theorem memories_releaseGrant {s u : State} {n : Nat} (h : releaseGrant s n = some u) : memories u = memories s := by
  unfold releaseGrant at h
  split at h
  · cases h
    simp
  · cases h

@[simp] theorem memories_writeMirror (s : State) : memories (writeMirror s) = memories s := by
  unfold writeMirror
  extract_lets
  exact (memories_mk ..).trans (memories_fold s)

@[simp] theorem memories_chansRestart (s : State) (par : Option SafetyPar) :
    memories (chansRestart s par) = memories s := by
  simp [chansRestart]

/-! ## The recorder -/

@[simp] theorem memories_writeCheckpoint (s : State) : memories (writeCheckpoint s) = memories s := by
  simp [writeCheckpoint]

@[simp] theorem memories_tellLoss (s : State) : memories (tellLoss s) = memories s := by
  simp [tellLoss]

@[simp] theorem memories_evrMemFault (s : State) : memories (evrMemFault s) = memories s := by
  simp [evrMemFault]

@[simp] theorem memories_countersRestore (s : State) : memories (countersRestore s) = memories s := by
  simp [countersRestore]

@[simp] theorem memories_stagingFinal (s : State) : memories (stagingFinal s) = memories s := by
  simp [stagingFinal]

@[simp] theorem memories_shareWindrow (s : State) (code : Nat) (data : Bytes) :
    memories (shareWindrow s code data) = memories s := by
  simp [shareWindrow]

@[simp] theorem memories_counterSet (s : State) : memories (counterSet s) = memories s := by
  simp [counterSet]

/-! ## Power -/

@[simp] theorem memories_kaSettle (s : State) : memories (kaSettle s) = memories s := by
  simp [kaSettle]

@[simp] theorem memories_powerEval (s : State) : memories (powerEval s) = memories s := by
  simp [powerEval]

@[simp] theorem memories_powerHold (s : State) (n : Nat) (since : Option Nat) (hold : Nat) :
    memories (powerHold s n since hold) = memories s := by
  unfold powerHold
  split <;> simp

@[simp] theorem memories_kaEmit (s : State) (k : KeepAlive) (mk : KeepAlive → Sent) :
    memories (kaEmit s k mk) = memories s := by
  simp [kaEmit]

@[simp] theorem memories_sendNotice (s : State) (at_ : Nat) : memories (sendNotice s at_) = memories s := by
  simp [sendNotice]

@[simp] theorem memories_trackKeeper (s : State) (k : KeepAlive) : memories (trackKeeper s k) = memories s := by
  simp [trackKeeper]

@[simp] theorem memories_sendKeepAlive (s : State) : memories (sendKeepAlive s) = memories s := by
  simp [sendKeepAlive]

@[simp] theorem memories_powerEvent (s : State) (kind : Nat) : memories (powerEvent s kind) = memories s := by
  simp [powerEvent]

@[simp] theorem memories_armSleep (s : State) (at_ : Nat) : memories (armSleep s at_) = memories s := by
  simp [armSleep]

@[simp] theorem memories_sleepCancel (s : State) : memories (sleepCancel s) = memories s := by
  simp [sleepCancel]

@[simp] theorem memories_busyAll (s : State) (p : Nat → Bool) : memories (busyAll s p) = memories s := by
  simp [busyAll]

@[simp] theorem memories_enterPg (k : Nat) (s : State) (n : Nat) : memories (enterPg k s n) = memories s := by
  induction k generalizing s n with
  | zero => rfl
  | succ k ih => simp [enterPg, ih]

@[simp] theorem memories_wakeFirst (s : State) : memories (wakeFirst s) = memories s := by
  simp [wakeFirst]

@[simp] theorem memories_startWake (s : State) (source seg : Nat) : memories (startWake s source seg) = memories s := by
  simp [startWake]

@[simp] theorem memories_wakeEvent (s : State) (source seg : Nat) : memories (wakeEvent s source seg) = memories s := by
  simp [wakeEvent]

@[simp] theorem memories_nextAttempt (s : State) : memories (nextAttempt s) = memories s := by
  simp [nextAttempt]

/-! ## Recorder and Ageing Monitor -/

theorem leaves_execEvrReport (code : Nat) (data : Bytes) (s : State) : Leaves s (execEvrReport code data s) := by
  simp [execEvrReport]

@[simp] theorem memories_summaries (l : List (Nat × Nat)) (s : State) : memories (summaries l s) = memories s := by
  induction l, s using summaries.induct with
  | case1 s => rfl
  | case2 s c n => simp [summaries]
  | case3 s c n d m r ih => simpa [summaries] using ih

@[simp] theorem memories_secondSummary (s : State) : memories (secondSummary s) = memories s := by
  simp [secondSummary]

@[simp] theorem memories_checkpointFalls (s : State) : memories (checkpointFalls s) = memories s := by
  simp [checkpointFalls]

@[simp] theorem memories_stagingAges (s : State) : memories (stagingAges s) = memories s := by
  unfold stagingAges
  split <;> simp

@[simp] theorem memories_bucketApply (s : State) (e : BucketCfg) : memories (bucketApply s e) = memories s := by
  simp [bucketApply, bucketSet]

theorem leaves_execEvrConfig (h : Hcp) (entries : List BucketCfg) (s : State) :
    Leaves s (execEvrConfig h entries s) := by
  simp [execEvrConfig]

theorem leaves_execEvrRead (h : Hcp) (first count : Nat) (s : State) : Leaves s (execEvrRead h first count s) := by
  simp [execEvrRead]

theorem leaves_execEvrMark (h : Hcp) (data : Bytes) (s : State) : Leaves s (execEvrMark h data s) := by
  simp [execEvrMark]

theorem leaves_execEvrStatus (h : Hcp) (s : State) : Leaves s (execEvrStatus h s) := leaves_next (memories_runHcp rfl)

@[simp] theorem memories_guardAdd (s : State) (ns : Nat) : memories (guardAdd s ns) = memories s := by
  simp [guardAdd]

@[simp] theorem memories_agmFinish (s : State) : memories (agmFinish s) = memories s := by
  simp [agmFinish]

@[simp] theorem memories_avsDecide (s : State) : memories (avsDecide s) = memories s := by
  simp [avsDecide, writeVcore]

@[simp] theorem memories_agmMeasureNow (m : AgmMeas) (s : State) : memories (agmMeasureNow m s) = memories s := by
  unfold agmMeasureNow
  repeat' split
  all_goals simp [agmApply, agmDay]

@[simp] theorem memories_avsSettle (margin : Int) (readVout : Nat) (s : State) :
    memories (avsSettle margin readVout s) = memories s := by
  simp [avsSettle]

@[simp] theorem memories_agmDaily (s : State) : memories (agmDaily s) = memories s := by
  simp only [agmDaily]
  repeat' split
  all_goals simp

theorem applies_agmRec (s : State) (r : Param) : Applies s (agmRec s r) := by
  have hput : ∀ c, Applies s (agmPut s c) := fun c => by simp [agmPut]
  unfold agmRec
  dsimp only
  split
  case h_1 =>
    refine applies_orBad fun v => ?_
    split <;> simp [hput]
  case h_9 => split <;> simp
  all_goals simp [hput]

theorem leaves_execAgmConfig (h : Hcp) (recs : List Param) (s : State) : Leaves s (execAgmConfig h recs s) := by
  refine leaves_next (memories_runHcp ?_)
  split
  · rfl
  · rename_i u hu
    have hkept := memories_applyChecked applies_agmRec hu
    repeat' split
    all_goals simp [hkept]

theorem leaves_execAgmStatus (h : Hcp) (s : State) : Leaves s (execAgmStatus h s) := leaves_next (memories_runHcp rfl)

theorem leaves_execAgmMeasure (h : Hcp) (s : State) : Leaves s (execAgmMeasure h s) := by
  simp [execAgmMeasure]

/-! ## Firmware -/

@[simp] theorem memories_putSlot (s : State) (b : Bool) (x : FwSlot) : memories (putSlot s b x) = memories s := by
  simp [putSlot]

@[simp] theorem memories_makeActive (s : State) (b trial : Bool) : memories (makeActive s b trial) = memories s := by
  simp [makeActive]

@[simp] theorem memories_imageBegin (h : Hcp) (len : Nat) (ident : Word) (s : State) :
    memories (imageBegin h len ident s) = memories s := by
  simp [imageBegin]

@[simp] theorem memories_imageBlock (h : Hcp) (off : Nat) (data : Bytes) (readbackOk : Bool) (s : State) :
    memories (imageBlock h off data readbackOk s) = memories s := by
  simp [imageBlock]

@[simp] theorem memories_imageVerify (h : Hcp) (s : State) : memories (imageVerify h s) = memories s := by
  refine memories_runHcp ?_
  dsimp only
  repeat' split
  all_goals simp

@[simp] theorem memories_sfpRestarts (s : State) : memories (sfpRestarts s) = memories s := by
  simp [sfpRestarts]

@[simp] theorem memories_drainEnd (s : State) : memories (drainEnd s) = memories s := by
  unfold drainEnd
  split <;> simp

@[simp] theorem memories_fallbackWindrow (s : State) (old new : Word) :
    memories (fallbackWindrow s old new) = memories s := by
  simp [fallbackWindrow]

@[simp] theorem memories_activationLate (s : State) : memories (activationLate s) = memories s := by
  unfold activationLate
  split <;> simp

@[simp] theorem memories_imageCommit (h : Hcp) (s : State) : memories (imageCommit h s) = memories s := by
  simp [imageCommit, slotAfterBurn]

@[simp] theorem memories_imageStatus (h : Hcp) (s : State) : memories (imageStatus h s) = memories s := by
  exact memories_runHcp rfl

theorem leaves_execRootRevoke (h : Hcp) (i : Nat) (s : State) : Leaves s (execRootRevoke h i s) := by
  simp [execRootRevoke]

@[simp] theorem memories_bootActive (s : State) : memories (bootActive s) = memories s := by
  simp [bootActive]

@[simp] theorem memories_bootDecide (bootsel : Bool) (fl : FlashView) (s : State) :
    memories (bootDecide bootsel fl s) = memories s := by
  simp [bootDecide, enterRecovery, bootOther]

@[simp] theorem memories_evrNumber (s : State) (base : Nat) : memories (evrNumber s base) = memories s := by
  simp [evrNumber]

@[simp] theorem memories_countersFromRing (s : State) : memories (countersFromRing s) = memories s := by
  refine memories_foldl (fun u k => ?_) _ _
  split <;> rfl

@[simp] theorem memories_islandStart (s : State) : memories (islandStart s) = memories s := by
  unfold islandStart
  repeat' split
  all_goals simp

@[simp] theorem memories_uartAnswers (s : State) (n : Nat) : memories (uartAnswers s n) = memories s := by
  simp [uartAnswers]

/-! ## Tenants -/

@[simp] theorem memories_badAccess (s : State) (bit off : Nat) : memories (badAccess s bit off) = memories s := by
  simp [badAccess]

@[simp] theorem memories_rsvAccess (s : State) (off : Nat) : memories (rsvAccess s off) = memories s := by
  simp [rsvAccess]

@[simp] theorem memories_requestReset (s : State) (t : Nat) : memories (requestReset s t) = memories s := by
  unfold requestReset
  split <;> simp

@[simp] theorem memories_dropUnsent (n : Nat) (s : State) (t : Nat) : memories (dropUnsent n s t) = memories s := by
  induction n generalizing s with
  | zero => rfl
  | succ n ih => simp [dropUnsent, ih]

@[simp] theorem memories_dropItem (s : State) (t reason : Nat) (i : RxItem) :
    memories (dropItem s t reason i) = memories s := by
  unfold dropItem
  split <;> simp

@[simp] theorem memories_resetTenant (s : State) (t : Nat) : memories (resetTenant s t) = memories s := by
  simp [resetTenant, tausAbort, dropWaiting, harvestsAbort]

@[simp] theorem memories_ringCheck (s : State) (t : Nat) : memories (ringCheck s t) = memories s := by
  simp [ringCheck]

@[simp] theorem memories_doorbell (s : State) (t : Nat) (prod : Word) : memories (doorbell s t prod) = memories s := by
  simp [doorbell]

@[simp] theorem memories_eventRoom (s : State) (t : Nat) (cons : Word) :
    memories (eventRoom s t cons) = memories s := by
  simp [eventRoom]

@[simp] theorem memories_resetWrite (s : State) (t : Nat) (v : Word) : memories (resetWrite s t v) = memories s := by
  simp [resetWrite]

@[simp] theorem memories_ctrlWrite (s : State) (t : Nat) (v : Word) (path : Attach) :
    memories (ctrlWrite s t v path) = memories s := by
  simp [ctrlWrite]

@[simp] theorem memories_queueCheck (s : State) (t : Nat) (isRx : Bool) (q : Nat) :
    memories (queueCheck s t isRx q) = memories s := by
  simp [queueCheck]

@[simp] theorem memories_queueProd (s : State) (t : Nat) (isRx : Bool) (q : Nat) (prod : Word) :
    memories (queueProd s t isRx q prod) = memories s := by
  simp [queueProd]

@[simp] theorem memories_queueConfig (s : State) (t : Nat) (isRx : Bool) (q r : Nat) (v : Word) (off : Nat) :
    memories (queueConfig s t isRx q r v off) = memories s := by
  simp [queueConfig]

@[simp] theorem memories_baseWrite (s : State) (t r : Nat) (hi : Bool) (k : Nat) (v : Word) (off : Nat) :
    memories (baseWrite s t r hi k v off) = memories s := by
  simp [baseWrite]

@[simp] theorem memories_evtSizeWrite (s : State) (t : Nat) (v : Word) (off : Nat) :
    memories (evtSizeWrite s t v off) = memories s := by
  simp [evtSizeWrite]

theorem memories_pageWrite {s u : State} {t off : Nat} {v : Word} {path : Attach} {full : Nat}
    (h : pageWrite s t off v path full = some u) : memories u = memories s := by
  unfold pageWrite at h
  repeat' split at h
  all_goals cases h
  all_goals simp

@[simp] theorem memories_pageWrite_getD (s : State) (t off : Nat) (v : Word) (path : Attach) (full : Nat) :
    memories ((pageWrite s t off v path full).getD s) = memories s := by
  cases h : pageWrite s t off v path full with
  | none => rfl
  | some u => exact memories_pageWrite h

@[simp] theorem memories_turnAway (s : State) (t : Nat) (e : CmdEntry) (st : Status) (reason flags : Nat) (u : UnitId)
    (remote : Bool) :
    memories (turnAway s t e st reason flags u remote) = memories s := by
  simp [turnAway]

@[simp] theorem memories_takeUp (s : State) (t : Nat) (e : CmdEntry) (u : UnitId) (auth remote : Bool) :
    memories (takeUp s t e u auth remote) = memories s := by
  simp [takeUp]

@[simp] theorem memories_resendRule (s : State) (t : Nat) (e : CmdEntry) (u : UnitId) (remote : Bool) :
    memories (resendRule s t e u remote) = memories s := by
  simp only [resendRule]
  repeat' split
  all_goals simp

/-! ## Host commands and remote frames -/

@[simp] theorem memories_pageRow {s : State} {t off : Nat} {f : State → State} (hf : ∀ u, memories (f u) = memories u) :
    memories (pageRow s t off f) = memories s := by
  simp [pageRow, hf]

theorem leaves_execCommandDoorbell (t : Nat) (v : Word) (s : State) : Leaves s (execCommandDoorbell t v s) := by
  exact leaves_next (memories_pageRow fun _ => memories_doorbell ..)

theorem leaves_execMbxTResetWrite (t : Nat) (v : Word) (s : State) : Leaves s (execMbxTResetWrite t v s) := by
  exact leaves_next (memories_pageRow fun _ => memories_resetWrite ..)

theorem leaves_execTenantResetExecute (t : Nat) (s : State) : Leaves s (execTenantResetExecute t s) := by
  simp [execTenantResetExecute]

theorem leaves_execEventRingRoom (t : Nat) (v : Word) (s : State) : Leaves s (execEventRingRoom t v s) := by
  exact leaves_next (memories_pageRow fun _ => memories_eventRoom ..)

theorem leaves_execQueueProducerWrite (t : Nat) (isRx : Bool) (q : Nat) (prod : Word) (s : State) :
    Leaves s (execQueueProducerWrite t isRx q prod s) := by
  simp [execQueueProducerWrite]

theorem leaves_execDmaCompletionTimeout (t : Nat) (r : RingRef) (s : State) :
    Leaves s (execDmaCompletionTimeout t r s) := by
  simp [execDmaCompletionTimeout]

@[simp] theorem memories_irqHoldoffEnd (t : Nat) (s : State) : memories (irqHoldoffEnd t s) = memories s := by
  unfold irqHoldoffEnd
  dsimp only
  split <;> simp

@[simp] theorem memories_abortFetched (s : State) (t n : Nat) : memories (abortFetched s t n) = memories s := by
  simp [abortFetched]

@[simp] theorem memories_markStamp (s : State) (k : Nat) (want : Bool) (r : Nat × Nat × Word) :
    memories (markStamp s k want r) = memories s := by
  unfold markStamp
  split <;> simp

@[simp] theorem memories_txInject (s : State) (t q : Nat) (f : Frame) (force : Option Nat) (stamp : Bool) :
    memories (txInject s t q f force stamp) = memories s := by
  have hverdict := memories_classify s 96 f (some t)
  unfold txInject
  dsimp only
  split
  case h_1 h =>
    rw [h] at hverdict
    simpa using hverdict
  case h_2 h =>
    rw [h] at hverdict
    simpa using hverdict

@[simp] theorem memories_txKind (s : State) (t q : Nat) (d : TxDesc) : memories (txKind s t q d) = memories s := by
  unfold txKind
  repeat' split
  all_goals simp [txComplete]

theorem leaves_execTxDescriptor (t q : Nat) (d : Dma TxDesc) (s : State) : Leaves s (execTxDescriptor t q d s) := by
  refine leaves_next ?_
  repeat' split
  all_goals simp

@[simp] theorem memories_freeItem (s : State) (i : RxItem) : memories (freeItem s i) = memories s := by
  unfold freeItem
  split <;> simp

@[simp] theorem memories_rxWriteBack (s : State) (t q : Nat) (i : RxItem) :
    memories (rxWriteBack s t q i) = memories s := by
  simp [rxWriteBack]

theorem leaves_execRxDelivery (t q : Nat) (d : Dma RxDesc) (s : State) : Leaves s (execRxDelivery t q d s) := by
  refine leaves_next ?_
  repeat' split
  all_goals simp

theorem leaves_execSessionOpen (h : Hcp) (version : Nat) (mask : BitVec 128) (maxWake : Nat) (s : State) :
    Leaves s (execSessionOpen h version mask maxWake s) := by
  simp [execSessionOpen]

theorem leaves_execTenantConfig (h : Hcp) (c : TenantCfg) (s : State) : Leaves s (execTenantConfig h c s) := by
  refine leaves_next (memories_runHcp ?_)
  split <;> simp

@[simp] theorem memories_putKey (s : State) (t : Nat) (key : BitVec 128) : memories (putKey s t key) = memories s := by
  simp [putKey]

theorem leaves_execTenantKeySet (h : Hcp) (t : Nat) (key : BitVec 128) (s : State) :
    Leaves s (execTenantKeySet h t key s) := by
  simp [execTenantKeySet]

theorem leaves_execTenantReset (h : Hcp) (t : Nat) (s : State) : Leaves s (execTenantReset h t s) := by
  simp [execTenantReset]

theorem leaves_execFeaturesSet (h : Hcp) (mask : BitVec 128) (s : State) : Leaves s (execFeaturesSet h mask s) := by
  simp [execFeaturesSet]

theorem leaves_execQueueSteer (h : Hcp) (entry tenantId queue : Nat) (s : State) :
    Leaves s (execQueueSteer h entry tenantId queue s) := by
  simp [execQueueSteer]

theorem leaves_execAuthEcho (h : Hcp) (payload : Bytes) (s : State) : Leaves s (execAuthEcho h payload s) := by
  simp [execAuthEcho]

/-! ## Inauguration -/

@[simp] theorem memories_couple (s : State) (p : Nat) : memories (couple s p) = memories s := by
  simp [couple]

@[simp] theorem memories_helloConfirmed (s : State) (p : Nat) : memories (helloConfirmed s p) = memories s := by
  simp [helloConfirmed]

@[simp] theorem memories_helloSendEffect (p : Nat) (s : State) : memories (helloSendEffect p s) = memories s := by
  simp [helloSendEffect]

@[simp] theorem memories_helloReceiveEffect (p : Nat) (m : Hello) (s : State) :
    memories (helloReceiveEffect p m s) = memories s := by
  simp [helloReceiveEffect]

@[simp] theorem memories_goStandard (s : State) : memories (goStandard s) = memories s := by
  simp [goStandard]

@[simp] theorem memories_fallbackEffect (p : Nat) (s : State) : memories (fallbackEffect p s) = memories s := by
  simp [fallbackEffect]

@[simp] theorem memories_ttdpEffect (p : Nat) (r : TtdpResult) (s : State) :
    memories (ttdpEffect p r s) = memories s := by
  unfold ttdpEffect
  repeat' split
  all_goals simp [ttdpStable]

@[simp] theorem memories_otherTable (p : Nat) (hdr : InaugHdr) (part parts : Nat) (records : List NodeRec) (s : State) :
    memories (otherTable p hdr part parts records s) = memories s := by
  unfold otherTable
  dsimp only
  split <;> simp

@[simp] theorem memories_ownTableTake (p : Nat) (hdr : InaugHdr) (part parts : Nat) (records : List NodeRec)
    (s : State) :
    memories (ownTableTake p hdr part parts records s) = memories s := by
  unfold ownTableTake
  dsimp only
  split <;> simp

@[simp] theorem memories_tableEffect (p : Nat) (hdr : InaugHdr) (part parts : Nat) (records : List NodeRec)
    (s : State) :
    memories (tableEffect p hdr part parts records s) = memories s := by
  simp [tableEffect]

@[simp] theorem memories_funcsEffect (p : Nat) (hdr : InaugHdr) (owner : UnitId) (es : List FuncEntry) (s : State) :
    memories (funcsEffect p hdr owner es s) = memories s := by
  simp [funcsEffect]

@[simp] theorem memories_digestEffect (p : Nat) (hdr : InaugHdr) (crc : Word) (count : Nat) (steps : Bool) (s : State) :
    memories (digestEffect p hdr crc count steps s) = memories s := by
  simp [digestEffect]

@[simp] theorem memories_topologyLate (s : State) : memories (topologyLate s) = memories s := by
  simp [topologyLate]

@[simp] theorem memories_holdoffEnd (s : State) : memories (holdoffEnd s) = memories s := by
  unfold holdoffEnd
  split <;> simp

@[simp] theorem memories_proceedEffect (p : Nat) (hdr : InaugHdr) (s : State) :
    memories (proceedEffect p hdr s) = memories s := by
  simp [proceedEffect]

@[simp] theorem memories_mergeEffect (p : Nat) (hdr : InaugHdr) (epoch : Word) (leader : UnitId) (s : State) :
    memories (mergeEffect p hdr epoch leader s) = memories s := by
  simp [mergeEffect]

@[simp] theorem memories_installReceive (p : Nat) (hdr : InaugHdr) (sec ns : Nat) (topo crc : Word) (s : State) :
    memories (installReceive p hdr sec ns topo crc s) = memories s := by
  simp [installReceive]

@[simp] theorem memories_ackEffect (p : Nat) (hdr : InaugHdr) (sub status : Nat) (s : State) :
    memories (ackEffect p hdr sub status s) = memories s := by
  simp [ackEffect]

@[simp] theorem memories_abortEffect (p : Nat) (hdr : InaugHdr) (reason : Nat) (s : State) :
    memories (abortEffect p hdr reason s) = memories s := by
  simp [abortEffect]

theorem leaves_execInaugConfig (h : Hcp) (recs : List Param) (functions : List FuncEntry) (s : State) :
    Leaves s (execInaugConfig h recs functions s) := by
  refine leaves_next (memories_runHcp ?_)
  split <;> simp

theorem leaves_execInaugLead (h : Hcp) (cab : Nat) (s : State) : Leaves s (execInaugLead h cab s) := by
  simp [execInaugLead]

theorem leaves_execInaugInhibit (h : Hcp) (on : Bool) (s : State) : Leaves s (execInaugInhibit h on s) := by
  simp [execInaugInhibit]

theorem leaves_execInaugStatus (h : Hcp) (s : State) : Leaves s (execInaugStatus h s) := leaves_next (memories_runHcp rfl)

theorem leaves_execAliasSet (h : Hcp) (a : AliasArgs) (s : State) : Leaves s (execAliasSet h a s) := by
  refine leaves_next (memories_runHcp ?_)
  dsimp only
  repeat' split
  all_goals simp

theorem leaves_execAliasClear (h : Hcp) (tfa : Nat) (s : State) : Leaves s (execAliasClear h tfa s) := by
  refine leaves_next (memories_runHcp ?_)
  dsimp only
  repeat' split
  all_goals simp

theorem leaves_execAliasCommit (h : Hcp) (sec ns : Nat) (s : State) : Leaves s (execAliasCommit h sec ns s) := by
  simp [execAliasCommit]

theorem leaves_execTwinConfig (h : Hcp) (recs : List Param) (s : State) : Leaves s (execTwinConfig h recs s) := by
  refine leaves_next (memories_runHcp ?_)
  dsimp only
  repeat' split
  all_goals simp

theorem leaves_execTwinSwap (h : Hcp) (s : State) : Leaves s (execTwinSwap h s) := by
  refine leaves_next (memories_runHcp ?_)
  repeat' split
  all_goals simp

@[simp] theorem memories_imageSend (s : State) : memories (imageSend s) = memories s := by
  simp [imageSend]

@[simp] theorem memories_takeSlot (s : State) (r : SlotRec) : memories (takeSlot s r) = memories s := by
  unfold takeSlot
  split <;> simp

@[simp] theorem memories_takeSession (s : State) (r : SessionRec) : memories (takeSession s r) = memories s := by
  simp [takeSession]

@[simp] theorem memories_syncLate (s : State) : memories (syncLate s) = memories s := by
  simp [syncLate]

@[simp] theorem memories_partnerLost (s : State) : memories (partnerLost s) = memories s := by
  unfold partnerLost
  split <;> simp

@[simp] theorem memories_unpairedLate (s : State) : memories (unpairedLate s) = memories s := by
  simp [unpairedLate]

@[simp] theorem memories_swapDue (s : State) : memories (swapDue s) = memories s := by
  unfold swapDue
  split <;> simp

@[simp] theorem memories_swapSkip (s : State) : memories (swapSkip s) = memories s := by
  unfold swapSkip
  dsimp only
  split <;> simp

@[simp] theorem memories_mirrorReceive (slot : Nat) (seq : Word) (data : Option Bytes) (s : State) :
    memories (mirrorReceive slot seq data s) = memories s := by
  unfold mirrorReceive
  repeat' split
  all_goals simp

@[simp] theorem memories_transferAsked (s : State) : memories (transferAsked s) = memories s := by
  unfold transferAsked
  dsimp only
  split <;> simp

/-! ## Wake and resets -/

theorem leaves_execPowerConfig (h : Hcp) (recs : List Param) (s : State) : Leaves s (execPowerConfig h recs s) := by
  refine leaves_next (memories_runHcp ?_)
  split <;> simp

theorem leaves_execPowerKeep (h : Hcp) (on : Bool) (s : State) : Leaves s (execPowerKeep h on s) := by
  simp [execPowerKeep]

theorem leaves_execPowerLatency (h : Hcp) (us : Nat) (s : State) : Leaves s (execPowerLatency h us s) := by
  simp [execPowerLatency]

theorem leaves_execPowerStatus (h : Hcp) (s : State) : Leaves s (execPowerStatus h s) := leaves_next (memories_runHcp rfl)

@[simp] theorem memories_keepaliveDue (s : State) : memories (keepaliveDue s) = memories s := by
  simp [keepaliveDue]

@[simp] theorem memories_keepaliveEffect (port : Nat) (k : KeepAlive) (s : State) :
    memories (keepaliveEffect port k s) = memories s := by
  simp [keepaliveEffect, keepaliveTake]

@[simp] theorem memories_sleepNoticeEffect (port : Nat) (k : KeepAlive) (s : State) :
    memories (sleepNoticeEffect port k s) = memories s := by
  simp [sleepNoticeEffect]

@[simp] theorem memories_quietEffect (s : State) : memories (quietEffect s) = memories s := by
  simp [quietEffect, sleepPend]

@[simp] theorem memories_noticeRepeat (s : State) : memories (noticeRepeat s) = memories s := by
  simp [noticeRepeat]

@[simp] theorem memories_wakeSwOn (s : State) : memories (wakeSwOn s) = memories s := by
  simp [wakeSwOn]

@[simp] theorem memories_externalInh (s : State) : memories (externalInh s) = memories s := by
  simp [externalInh]

@[simp] theorem memories_wakeTimer (s : State) : memories (wakeTimer s) = memories s := by
  simp [wakeTimer]

@[simp] theorem memories_wakePattern (sg : Nat) (p : SegPulse) (s : State) :
    memories (wakePattern sg p s) = memories s := by
  simp [wakePattern]

@[simp] theorem memories_heldWake (s : State) : memories (heldWake s) = memories s := by
  unfold heldWake
  split <;> simp

@[simp] theorem memories_pgRise (n : Nat) (s : State) : memories (pgRise n s) = memories s := by
  simp [pgRise]

theorem leaves_execXinValid (s : State) : Leaves s (execXinValid s) := by
  simp [execXinValid]

@[simp] theorem memories_pllLock (s : State) : memories (pllLock s) = memories s := by
  unfold pllLock
  split <;> simp

theorem leaves_execWakeRetry (s : State) : Leaves s (execWakeRetry s) := by
  simp [execWakeRetry]

@[simp] theorem memories_wakeOutStep (s : State) : memories (wakeOutStep s) = memories s := by
  unfold wakeOutStep
  split <;> simp

@[simp] theorem memories_vaonOn (s : State) : memories (vaonOn s) = memories s := by
  simp [vaonOn]

@[simp] theorem memories_porstHigh (s : State) : memories (porstHigh s) = memories s := by
  simp [porstHigh]

@[simp] theorem memories_pfailHigh (s : State) : memories (pfailHigh s) = memories s := by
  simp [pfailHigh]

@[simp] theorem memories_graceEnd (s : State) : memories (graceEnd s) = memories s := by
  simp [graceEnd]

@[simp] theorem memories_rstoutHigh (s : State) : memories (rstoutHigh s) = memories s := by
  simp [rstoutHigh]

end Sys2Proof.Proofs
end

section
/-! SUPPORT. What host accesses, slots, the commands of the island, timed actions and the bridge leave of the addressed memories. -/

namespace Sys2Proof.Proofs

open Sys2Proof Sys2Proof.Machine

/-! ## Host accesses -/

@[simp] theorem memories_stagingPoison (s : State) (w : Nat) : memories (stagingPoison s w) = memories s := by
  unfold stagingPoison
  split <;> simp

@[simp] theorem memories_memReact (s : State) (m w : Nat) : memories (memReact s m w) = memories s := by
  unfold memReact
  split <;> simp [brinePoison, enginePoison, sequencerPoison, farPoison, counterPoison]

@[simp] theorem memories_scrubOne (s : State) (e : EccFind) : memories (scrubOne s e) = memories s := by
  unfold scrubOne
  split <;> simp [controlRestart]

theorem leaves_execPatrolScrub (finds : List EccFind) (s : State) : Leaves s (execPatrolScrub finds s) := by
  simp [execPatrolScrub]

@[simp] theorem memories_restoreWord (mem w : Nat) (s : State) : memories (restoreWord mem w s) = memories s := by
  simp [restoreWord]

@[simp] theorem memories_readEffect (s : State) (off : Nat) : memories (readEffect s off) = memories s := by
  unfold readEffect
  repeat' split
  all_goals simp [slotLatch, ffLatch, lastLatch, winLatch, originLatch, sleepLatch, keeperLatch]

@[simp] theorem memories_returned (s : State) (ws : List Word) (ep : Bool) :
    memories (returned s ws ep) = memories s := by
  simp [returned]

@[simp] theorem memories_busRead (s : State) (off : Nat) : memories (busRead s off) = memories s := by
  unfold busRead
  repeat' split
  all_goals simp

theorem leaves_execTimeSlotLatch (slot : Nat) (s : State) : Leaves s (execTimeSlotLatch slot s) := by
  simp [execTimeSlotLatch]

theorem leaves_execFfCounterLatch (off : Nat) (s : State) : Leaves s (execFfCounterLatch off s) := by
  simp [execFfCounterLatch]

theorem leaves_execLastDiscardLatch (t : Nat) (s : State) : Leaves s (execLastDiscardLatch t s) := by
  simp [execLastDiscardLatch]

theorem leaves_execEvrWinLatch (i : Nat) (s : State) : Leaves s (execEvrWinLatch i s) := by
  simp [execEvrWinLatch]

@[simp] theorem memories_eccClear (s : State) (v : Word) (ceNow ueNow : Bool) :
    memories (eccClear s v ceNow ueNow) = memories s := by
  simp [eccClear]

theorem leaves_execGlobalEccClear (v : Word) (ce ue : Bool) (s : State) : Leaves s (execGlobalEccClear v ce ue s) := by
  exact leaves_next (memories_posted fun _ => memories_eccClear ..)

@[simp] theorem memories_eccRelease (s : State) (v : Word) : memories (eccRelease s v) = memories s := by
  simp [eccRelease]

theorem leaves_execEccCaptureRelease (w : CaptureWrite) (s : State) : Leaves s (execEccCaptureRelease w s) := by
  refine leaves_next (memories_posted fun u => ?_)
  split
  · rfl
  · exact memories_eccRelease ..

@[simp] theorem memories_brineClear (s : State) (v : Word) : memories (brineClear s v) = memories s := by
  simp [brineClear]

theorem leaves_execFfBrineClear (v : Word) (s : State) : Leaves s (execFfBrineClear v s) := by
  exact leaves_next (memories_posted fun _ => memories_brineClear ..)

@[simp] theorem memories_wakeClear (s : State) (v : Word) : memories (wakeClear s v) = memories s := by
  simp [wakeClear]

@[simp] theorem memories_regPut (s : State) (off : Nat) (v now : Word) : memories (regPut s off v now) = memories s := by
  unfold regPut
  split
  · simp
  · simp
  · split
    all_goals simp

@[simp] theorem memories_busWrite (s : State) (off : Nat) (x : HostWrite) :
    memories (busWrite s off x) = memories s := by
  unfold busWrite
  split <;> simp

@[simp] theorem memories_configRead (s : State) (off : Nat) : memories (configRead s off).2 = memories s := by
  unfold configRead
  dsimp only
  split <;> rfl

@[simp] theorem memories_wordWrite (bar : Bar) (s : State) (off : Nat) (x : HostWrite) :
    memories (wordWrite bar s off x) = memories s := by
  unfold wordWrite
  split <;> simp [farBusWrite, bar2Write, configWrite]

@[simp] theorem memories_wordWrites (bar : Bar) (s : State) (off : Nat) (l : List HostWrite) :
    memories (wordWrites bar s off l) = memories s := by
  induction l generalizing s off with
  | nil => rfl
  | cons x r ih => simp [wordWrites, ih]

theorem leaves_execRegisterWrite (bar : Bar) (off : Nat) (ws : List HostWrite) (s : State) :
    Leaves s (execRegisterWrite bar off ws s) := by
  refine leaves_next ?_
  split <;> simp

@[simp] theorem memories_wordRead (bar : Bar) (s : State) (off : Nat) : memories (wordRead bar s off) = memories s := by
  unfold wordRead
  split <;> simp [farBusRead]

@[simp] theorem memories_wideRead (bar : Bar) (s : State) (off : Nat) : memories (wideRead bar s off) = memories s := by
  simp [wideRead]

theorem leaves_execReservedAccess (acc : Access) (a : HostAddr) (s : State) :
    Leaves s (execReservedAccess acc a s) := by
  refine leaves_next ?_
  repeat' split
  all_goals simp

@[simp] theorem memories_farNarrow (s : State) (off : Nat) (be : BitVec 4) (v : Word) :
    memories (farNarrow s off be v) = memories s := by
  simp [farNarrow]

theorem leaves_execNarrowWrite (off : Nat) (be : BitVec 4) (v : Word) (s : State) :
    Leaves s (execNarrowWrite off be v s) := by
  simp [execNarrowWrite]

@[simp] theorem memories_spiWriteWord (s : State) (a : Nat) (v : Word) :
    memories (spiWriteWord s a v) = memories s := by
  simp [spiWriteWord]

@[simp] theorem memories_spiWrites (s : State) (a : Nat) (l : List Word) : memories (spiWrites s a l) = memories s := by
  induction l generalizing s a with
  | nil => rfl
  | cons v r ih => simp [spiWrites, ih]

@[simp] theorem memories_spiEffect (instr : Byte) (addr : Nat) (data : List Word) (words : Nat) (s : State) :
    memories (spiEffect instr addr data words s) = memories s := by
  simp [spiEffect]

/-! ## The Cyclic Slot Service -/

@[simp] theorem memories_retestPort (s : State) (p : Nat) : memories (retestPort s p) = memories s := by
  simp [retestPort]

@[simp] theorem memories_retestCss (s : State) : memories (retestCss s) = memories s := by
  simp [retestCss]

@[simp] theorem memories_winStart (s : State) : memories (winStart s) = memories s := by
  simp [winStart]

@[simp] theorem memories_boundaryCounts (s : State) (n : Word) : memories (boundaryCounts s n) = memories s := by
  simp [boundaryCounts]

@[simp] theorem memories_panBegin (s : State) (n : Word) (start : Nat) :
    memories (panBegin s n start) = memories s := by
  simp [panBegin]

@[simp] theorem memories_panBoundaryEffect (s : State) : memories (panBoundaryEffect s) = memories s := by
  unfold panBoundaryEffect
  repeat' split
  all_goals simp [inaugPan, judgePan, reelect, panNext, panIntegrate, twinPan]

@[simp] theorem memories_slotFetchEffect (i : Nat) (s : State) : memories (slotFetchEffect i s) = memories s := by
  simp only [slotFetchEffect]
  repeat' split
  all_goals simp

@[simp] theorem memories_surveySent (s : State) (id : Nat) (r : Survey) :
    memories (surveySent s id r) = memories s := by
  unfold surveySent
  split <;> simp

@[simp] theorem memories_slotSent (s : State) (i : Nat) (x : TxSlot) (seq : Word) (b : CssBody) :
    memories (slotSent s i x seq b) = memories s := by
  unfold slotSent
  split <;> simp

@[simp] theorem memories_surveyAt (s : State) (i t : Nat) (b : CssBody) : memories (surveyAt s i t b).1 = memories s := by
  unfold surveyAt
  repeat' split
  all_goals simp

@[simp] theorem memories_slotTransmitEffect (i : Nat) (inserted : Bool) (s : State) :
    memories (slotTransmitEffect i inserted s) = memories s := by
  unfold slotTransmitEffect
  dsimp only
  repeat' split
  all_goals simp

@[simp] theorem memories_hdrReject (s : State) (h : CssHdr) (cycleStart : Bool) :
    memories (hdrReject s h cycleStart) = memories s := by
  simp [hdrReject]

@[simp] theorem memories_follow (s : State) (id : UnitId) : memories (follow s id) = memories s := by
  simp [follow, cssIntegrate]

@[simp] theorem memories_followAgain (s : State) (id : UnitId) : memories (followAgain s id) = memories s := by
  simp [followAgain]

@[simp] theorem memories_giveWay (s : State) (id : UnitId) : memories (giveWay s id) = memories s := by
  simp [giveWay]

@[simp] theorem memories_hearLeader {s : State} {id : UnitId} {f : State → State} (hf : ∀ u, memories (f u) = memories u) :
    memories (hearLeader s id f) = memories s := by
  simp [hearLeader, hf]

@[simp] theorem memories_cycleStartState (s : State) (f : CycleStart) :
    memories (cycleStartState s f) = memories s := by
  unfold cycleStartState
  split <;> simp [integrateCount, csNote]

@[simp] theorem memories_cycleStartEffect (port : Nat) (f : CycleStart) (bad : Option Nat) (s : State) :
    memories (cycleStartEffect port f bad s) = memories s := by
  simp [cycleStartEffect, missInstall, cycleStartTake]

@[simp] theorem memories_coldStartState (s : State) (f : ColdStart) : memories (coldStartState s f) = memories s := by
  unfold coldStartState
  split <;> simp

@[simp] theorem memories_coldStartEffect (port : Nat) (f : ColdStart) (bad : Option Nat) (s : State) :
    memories (coldStartEffect port f bad s) = memories s := by
  simp [coldStartEffect, coldStartTake]

@[simp] theorem memories_listenEffect (s : State) : memories (listenEffect s) = memories s := by
  simp [listenEffect, coldTime]

@[simp] theorem memories_leadFrom (s : State) (origin : Nat) : memories (leadFrom s origin) = memories s := by
  simp [leadFrom]

@[simp] theorem memories_originEffect (s : State) : memories (originEffect s) = memories s := by
  simp [originEffect]

@[simp] theorem memories_timedStartEffect (s : State) : memories (timedStartEffect s) = memories s := by
  unfold timedStartEffect
  split <;> simp

@[simp] theorem memories_waitStartEffect (s : State) : memories (waitStartEffect s) = memories s := by
  simp [waitStartEffect]

@[simp] theorem memories_integratingEffect (s : State) : memories (integratingEffect s) = memories s := by
  simp [integratingEffect]

@[simp] theorem memories_reelectionEffect (s : State) : memories (reelectionEffect s) = memories s := by
  simp [reelectionEffect]

@[simp] theorem memories_leaderlessEffect (s : State) : memories (leaderlessEffect s) = memories s := by
  simp [leaderlessEffect]

theorem leaves_execSchedLoadBegin (h : Hcp) (len : Nat) (ident : Word) (s : State) :
    Leaves s (execSchedLoadBegin h len ident s) := by
  simp [execSchedLoadBegin]

theorem leaves_execSchedLoadBlock (h : Hcp) (off : Nat) (data : Bytes) (s : State) :
    Leaves s (execSchedLoadBlock h off data s) := by
  refine leaves_next (memories_runHcp ?_)
  split <;> simp

@[simp] theorem memories_schedVerify (s : State) (l : LoadStage) (b : Bytes) :
    memories (answerState (schedVerify s l b)) = memories s := by
  unfold schedVerify
  split
  · simp
  · split
    · simp
    · split
      case h_1 h => simp [memories_instantiateImage h]
      case h_2 => simp

theorem leaves_execSchedLoadEnd (h : Hcp) (met : List Nat) (s : State) : Leaves s (execSchedLoadEnd h met s) := by
  refine leaves_next (memories_runHcp ?_)
  repeat' split
  all_goals simp

theorem leaves_execCssStart (h : Hcp) (mode : StartMode) (s : State) : Leaves s (execCssStart h mode s) := by
  refine leaves_next (memories_runHcp ?_)
  repeat' split
  all_goals simp

theorem leaves_execCssStop (h : Hcp) (scope : StopScope) (pan : Word) (s : State) :
    Leaves s (execCssStop h scope pan s) := by
  refine leaves_next (memories_runHcp ?_)
  repeat' split
  all_goals simp

theorem leaves_execCssCountersClear (h : Hcp) (s : State) : Leaves s (execCssCountersClear h s) := by
  refine leaves_next (memories_runHcp ?_)
  split <;> simp

/-! ## Commands and events of the safety island -/

@[simp] theorem memories_sampleBalls (s : State) (ch : Chan) (m : CycleMeas) :
    memories (sampleBalls s ch m) = memories s := by
  simp [sampleBalls]

@[simp] theorem memories_clearFallen (s : State) (ch : Chan) (l : List Nat) : memories (clearFallen s ch l) = memories s := by
  refine memories_foldl (fun u k => ?_) _ _
  repeat' split
  all_goals simp

@[simp] theorem memories_cycleMeasure (s : State) (ch : Chan) (m : CycleMeas) :
    memories (cycleMeasure s ch m) = memories s := by
  simp [cycleMeasure]

@[simp] theorem memories_cycleEffect (s : State) (ch : Chan) (m : CycleMeas) :
    memories (cycleEffect s ch m) = memories s := by
  simp [cycleEffect, compareVectors, inputTimers, feedbackTimers, cycleVectors]

theorem leaves_execSafetyCycle (ch : Chan) (m : CycleMeas) (s : State) : Leaves s (execSafetyCycle ch m s) := by
  simp [execSafetyCycle]

@[simp] theorem memories_evaluateTel (s : State) (ch : Chan) (k : Nat) (t : Telegram) (trt : Word) :
    memories (evaluateTel s ch k t trt) = memories s := by
  unfold evaluateTel
  split <;> simp [obstacleMove]

@[simp] theorem memories_singleCopy (s : State) (ch : Chan) (k : Nat) : memories (singleCopy s ch k) = memories s := by
  simp [singleCopy]

@[simp] theorem memories_takeCopy (s : State) (ch : Chan) (k : Nat) (segB : Bool) (t : Telegram) (trt : Word) :
    memories (takeCopy s ch k segB t trt) = memories s := by
  unfold takeCopy
  dsimp only
  split <;> simp

@[simp] theorem memories_chanTelegram (s : State) (ch : Chan) (port : Nat) (t : Telegram) :
    memories (chanTelegram s ch port t) = memories s := by
  unfold chanTelegram
  repeat' split
  all_goals simp

theorem leaves_execTelegramReceive (port : Nat) (t : Telegram) (s : State) :
    Leaves s (execTelegramReceive port t s) := by
  simp [execTelegramReceive]

@[simp] theorem memories_compareExpire (ch : Chan) (k : Nat) (s : State) :
    memories (compareExpire ch k s) = memories s := by
  unfold compareExpire
  repeat' split
  all_goals simp

@[simp] theorem memories_staleness (ch : Chan) (k : Nat) (s : State) : memories (staleness ch k s) = memories s := by
  simp [staleness]

@[simp] theorem memories_driveSend (ch : Chan) (k : Nat) (s : State) : memories (driveSend ch k s) = memories s := by
  unfold driveSend
  split <;> simp [driveQueue]

@[simp] theorem memories_darkStart (ch : Chan) (n : Nat) (s : State) : memories (darkStart ch n s) = memories s := by
  unfold darkStart
  split <;> simp

@[simp] theorem memories_darkEnd (ch : Chan) (n : Nat) (feedback : Bool) (s : State) :
    memories (darkEnd ch n feedback s) = memories s := by
  simp [darkEnd]

@[simp] theorem memories_feedbackLate (ch : Chan) (n : Nat) (s : State) :
    memories (feedbackLate ch n s) = memories s := by
  unfold feedbackLate
  split <;> simp

@[simp] theorem memories_inputLate (ch : Chan) (i : Nat) (s : State) : memories (inputLate ch i s) = memories s := by
  unfold inputLate
  split <;> simp

@[simp] theorem memories_handLate (n : Nat) (s : State) : memories (handLate n s) = memories s := by
  unfold handLate
  split <;> simp

@[simp] theorem memories_guardLate (ch : Chan) (k : Nat) (s : State) : memories (guardLate ch k s) = memories s := by
  unfold guardLate
  dsimp only
  split <;> simp

@[simp] theorem memories_recover (ch : Chan) (k : Nat) (s : State) : memories (recover ch k s) = memories s := by
  unfold recover
  dsimp only
  split <;> simp

@[simp] theorem memories_startupLate (s : State) : memories (startupLate s) = memories s := by
  unfold startupLate
  repeat' split
  all_goals simp

@[simp] theorem memories_firstVector (m : CycleMeas) (s : State) : memories (firstVector m s) = memories s := by
  unfold firstVector
  split <;> simp

@[simp] theorem memories_onIsland {f : State → Answer} {s : State} (hf : memories (answerState (f s)) = memories s) :
    memories (answerState (onIsland f s)) = memories s := by
  unfold onIsland
  split
  · exact hf
  · rfl

theorem leaves_execSafetyParamBegin (h : Hcp) (len : Nat) (ident : Word) (s : State) :
    Leaves s (execSafetyParamBegin h len ident s) := by
  simp [execSafetyParamBegin]

theorem leaves_execSafetyParamBlock (h : Hcp) (off : Nat) (data : Bytes) (s : State) :
    Leaves s (execSafetyParamBlock h off data s) := by
  refine leaves_next (memories_runHcp ?_)
  refine memories_onIsland ?_
  repeat' split
  all_goals simp

@[simp] theorem memories_storePar (s : State) (b : Bytes) : memories (storePar s b) = memories s := by
  simp [storePar]

@[simp] theorem memories_handPar (s : State) (p : SafetyPar) : memories (handPar s p) = memories s := by
  simp [handPar]

theorem leaves_execSafetyParamEnd (h : Hcp) (s : State) : Leaves s (execSafetyParamEnd h s) := by
  refine leaves_next (memories_runHcp ?_)
  refine memories_onIsland ?_
  dsimp only
  repeat' split
  all_goals simp

theorem leaves_execSafetyResume (h : Hcp) (s : State) : Leaves s (execSafetyResume h s) := by
  simp [execSafetyResume]

theorem leaves_execSafetyChannelReset (h : Hcp) (mask : BitVec 64) (s : State) :
    Leaves s (execSafetyChannelReset h mask s) := by
  refine leaves_next (memories_runHcp ?_)
  simp

@[simp] theorem memories_guardTest (s : State) (ch : Chan) (k : Nat) : memories (guardTest s ch k) = memories s := by
  simp [guardTest]

theorem leaves_execSafetyGuardTest (h : Hcp) (mask : BitVec 64) (s : State) :
    Leaves s (execSafetyGuardTest h mask s) := by
  refine leaves_next (memories_runHcp ?_)
  simp

theorem leaves_execAxisCounterSet (h : Hcp) (c : Nat) (cycles reversals : Word) (s : State) :
    Leaves s (execAxisCounterSet h c cycles reversals s) := by
  simp [execAxisCounterSet]

theorem leaves_execAxisStatus (h : Hcp) (c : Nat) (s : State) : Leaves s (execAxisStatus h c s) := by
  simp [execAxisStatus]

@[simp] theorem memories_counterWrite (s : State) : memories (counterWrite s) = memories s := by
  simp [counterWrite, writeCounters]

/-! ## Actions as they fire -/

@[simp] theorem memories_untilScale (s : State) (wyt : Bool) (t16 : Nat) :
    memories (untilScale s wyt t16) = memories s := by
  simp [untilScale]

@[simp] theorem memories_tauFired (s : State) (k : Nat) (collision : Bool) :
    memories (tauFired s k collision) = memories s := by
  simp [tauFired]

@[simp] theorem memories_firePin (s : State) (k : Nat) : memories (firePin s k) = memories s := by
  simp [firePin]

@[simp] theorem memories_fireFrame (s : State) (r : TauRec) : memories (fireFrame s r) = memories s := by
  simp [fireFrame, launchFrame]

@[simp] theorem memories_fireCapture (s : State) (k : Nat) (r : TauRec) :
    memories (fireCapture s k r) = memories s := by
  simp [fireCapture]

@[simp] theorem memories_fireBank (s : State) (k : Nat) (r : TauRec) : memories (fireBank s k r) = memories s := by
  simp [fireBank, bankSwitch]

@[simp] theorem memories_presented (s : State) (k n : Nat) (grant : Bool) :
    memories (presented s k n grant) = memories s := by
  simp [presented]

@[simp] theorem memories_fireRelease (s : State) (k : Nat) (r : TauRec) : memories (fireRelease s k r) = memories s := by
  unfold fireRelease
  dsimp only
  split
  · simp
  · split
    · simp
    · split
      case h_1 h => simp [memories_releaseGrant h]
      case h_2 => simp

@[simp] theorem memories_fireHarvest (s : State) (k : Nat) : memories (fireHarvest s k) = memories s := by
  unfold fireHarvest
  dsimp only
  split <;> simp

@[simp] theorem memories_fireSlot (s : State) (k : Nat) (r : TauRec) : memories (fireSlot s k r) = memories s := by
  simp [fireSlot, tauFailed]

/-! ## Commands and tokens of the timed actions -/

@[simp] theorem memories_pulseEnd (pin : Nat) (s : State) : memories (pulseEnd pin s) = memories s := by
  unfold pulseEnd
  dsimp only
  split <;> simp

@[simp] theorem memories_captureStamp (pin : Nat) (rising : Bool) (s : State) :
    memories (captureStamp pin rising s) = memories s := by
  unfold captureStamp
  split <;> simp

@[simp] theorem memories_captureEnd (pin : Nat) (s : State) : memories (captureEnd pin s) = memories s := by
  unfold captureEnd
  split <;> simp

@[simp] theorem memories_deadline (k : Nat) (s : State) : memories (deadline k s) = memories s := by
  simp [deadline]

@[simp] theorem memories_tokenIn (s : State) (k : Nat) (t : Token) (line : Nat) :
    memories (tokenIn s k t line) = memories s := by
  simp [tokenIn, tokenReject, tokenAccept]

@[simp] theorem memories_tokenLine (s : State) (k : Nat) (t : Token) (line : Nat) :
    memories (tokenLine s k t line) = memories s := by
  simp [tokenLine]

@[simp] theorem memories_waysideIn (s : State) (t : Token) : memories (waysideIn s t) = memories s := by
  simp [waysideIn]

@[simp] theorem memories_surveyIn (s : State) (k : Nat) (x : Survey) : memories (surveyIn s k x) = memories s := by
  simp [surveyIn]

@[simp] theorem memories_surveyEnd (k : Nat) (s : State) : memories (surveyEnd k s) = memories s := by
  simp only [surveyEnd]
  repeat' split
  all_goals simp

@[simp] theorem memories_winReject (s : State) (i : Nat) : memories (winReject s i) = memories s := by
  simp [winReject]

theorem leaves_execTauArm (h : Hcp) (a : TauArm) (s : State) : Leaves s (execTauArm h a s) := by
  refine leaves_next (memories_runHcp ?_)
  repeat' split
  all_goals simp

theorem leaves_execTauCancel (h : Hcp) (tau : Nat) (s : State) : Leaves s (execTauCancel h tau s) := by
  simp [execTauCancel]

theorem leaves_execTauFrameLoad (h : Hcp) (tau : Nat) (data : Bytes) (s : State) :
    Leaves s (execTauFrameLoad h tau data s) := by
  simp [execTauFrameLoad]

@[simp] theorem memories_decideTau (s : State) (tau slotId decision : Nat) :
    memories (decideTau s tau slotId decision) = memories s := by
  unfold decideTau
  split <;> simp

@[simp] theorem memories_decideCmd (h : Hcp) (k src key slot d : Nat) (s : State) :
    memories (answerState (decideCmd h k src key slot d s)) = memories s := by
  unfold decideCmd
  repeat' split
  all_goals simp

theorem leaves_execTauCommit (h : Hcp) (tau source keySlot slotId : Nat) (s : State) :
    Leaves s (execTauCommit h tau source keySlot slotId s) := by
  simp [execTauCommit]

theorem leaves_execTauAbort (h : Hcp) (tau source keySlot slotId : Nat) (s : State) :
    Leaves s (execTauAbort h tau source keySlot slotId s) := by
  simp [execTauAbort]

@[simp] theorem memories_waysideRepeat (tau : Nat) (s : State) : memories (waysideRepeat tau s) = memories s := by
  unfold waysideRepeat
  split <;> simp

theorem leaves_execTauKeySet (h : Hcp) (slot : Nat) (key : BitVec 128) (s : State) :
    Leaves s (execTauKeySet h slot key s) := by
  simp [execTauKeySet]

theorem leaves_execTauStatus (h : Hcp) (tau : Nat) (s : State) : Leaves s (execTauStatus h tau s) := by
  simp [execTauStatus]

theorem leaves_execTauSurveyRead (h : Hcp) (tau first : Nat) (s : State) :
    Leaves s (execTauSurveyRead h tau first s) := by
  simp [execTauSurveyRead]

/-! ## The legacy bridge -/

@[simp] theorem memories_modMap (s : State) (k : Nat) (f : MapRec → MapRec) : memories (modMap s k f) = memories s := by
  simp [modMap]

@[simp] theorem memories_putMvb (s : State) (n : Nat) (x : MvbPort) : memories (putMvb s n x) = memories s := by
  simp [putMvb]

@[simp] theorem memories_mvbSends (s : State) (n : Nat) (xs : List Sent) : memories (mvbSends s n xs) = memories s := by
  simp [mvbSends]

@[simp] theorem memories_putWtb (s : State) (x : WtbNode) : memories (putWtb s x) = memories s := by
  simp [putWtb]

@[simp] theorem memories_wtbInaug (o : WtbOutcome) (nodes : List Int) (s : State) :
    memories (wtbInaug o nodes s) = memories s := by
  simp [wtbInaug]

@[simp] theorem memories_carry (s : State) (k : Nat) : memories (carry s k) = memories s := by
  simp [carry]

@[simp] theorem memories_sendTrdp (s : State) (comid : Word) (req : Option Word) :
    memories (sendTrdp s comid req) = memories s := by
  unfold sendTrdp
  split <;> simp

@[simp] theorem memories_publishEth (s : State) (k : Nat) (r : MapRec) : memories (publishEth s k r) = memories s := by
  simp only [publishEth]
  repeat' split
  all_goals simp

@[simp] theorem memories_publishBus (s : State) (k : Nat) (r : MapRec) : memories (publishBus s k r) = memories s := by
  simp only [publishBus]
  repeat' split
  all_goals simp

@[simp] theorem memories_publish (b : Bus) (idx : Nat) (s : State) : memories (publish b idx s) = memories s := by
  unfold publish
  repeat' split
  all_goals simp

@[simp] theorem memories_lgbApply (s : State) (c : LgbConfig) : memories (lgbApply s c) = memories s := by
  cases c <;> rfl

theorem leaves_execLgbConfig (h : Hcp) (c : LgbConfig) (s : State) : Leaves s (execLgbConfig h c s) := by
  refine leaves_next (memories_runHcp ?_)
  split <;> simp

@[simp] theorem memories_putEntry (s : State) (k : Nat) (e : MapEntry) : memories (putEntry s k e) = memories s := by
  simp [putEntry]

theorem leaves_execLgbMapSet (h : Hcp) (idx : Nat) (e : MapEntry) (s : State) : Leaves s (execLgbMapSet h idx e s) := by
  refine leaves_next (memories_runHcp ?_)
  split <;> simp

theorem leaves_execTrdpConfig (h : Hcp) (src : Word) (subs : List TrdpSub) (s : State) :
    Leaves s (execTrdpConfig h src subs s) := by
  refine leaves_next (memories_runHcp ?_)
  split <;> simp

theorem leaves_execPdRead (h : Hcp) (v : Nat) (s : State) : Leaves s (execPdRead h v s) := by
  simp [execPdRead]

theorem leaves_execLgbStatus (h : Hcp) (bus : Bus) (idx : Nat) (s : State) : Leaves s (execLgbStatus h bus idx s) := by
  simp [execLgbStatus]

end Sys2Proof.Proofs
end

section
/-! SUPPORT. The operations that write the addressed memories keep their canonical form (log 2). -/

namespace Sys2Proof.Proofs

open Sys2Proof Sys2Proof.Machine

/-! ## Canonical tables -/

/-- The three tables in canonical form. -/
def Canonical (m : Table PdVar × Table Bytes × Table (Option CounterCopy)) : Prop :=
  twf {} m.1 = true ∧ twf [] m.2.1 = true ∧ twf none m.2.2 = true

theorem canonical_mk {v : Table PdVar} {m : Table Bytes} {a : Table (Option CounterCopy)} :
    Canonical (v, m, a) ↔ twf {} v = true ∧ twf [] m = true ∧ twf none a = true := Iff.rfl

theorem buffersWf_iff (s : State) : s.buffersWf = true ↔ Canonical (memories s) := by
  simp only [State.buffersWf, Canonical, Bool.and_eq_true, and_assoc]
  rfl

@[simp] theorem canonical_foldl {β : Type} {f : State → β → State}
    (h : ∀ s b, Canonical (memories s) → Canonical (memories (f s b))) {l : List β} {s : State}
    (hs : Canonical (memories s)) : Canonical (memories (l.foldl f s)) := by
  induction l generalizing s with
  | nil => exact hs
  | cons b l ih => exact ih (h s b hs)

/-- A row answers a state with canonical tables where it found canonical ones. -/
def Keeps (s : State) (o : Out) : Prop := ∃ t, o = .next t ∧ (Canonical (memories s) → Canonical (memories t))

theorem keeps_next {s t : State} (h : Canonical (memories s) → Canonical (memories t)) : Keeps s (.next t) := ⟨t, rfl, h⟩

theorem Leaves.keeps {s : State} {o : Out} (h : Leaves s o) : Keeps s o := by
  obtain ⟨t, e, h⟩ := h
  exact ⟨t, e, fun hs => by rwa [h]⟩

/-- A host command keeps canonical tables where its body does. -/
theorem canonical_runHcp {c : Cmd} {h : Hcp} {s : State} {body : State → Answer} (hs : Canonical (memories s))
    (hb : Canonical (memories (answerState (body s)))) : Canonical (memories (runHcp c h s body)) := by
  unfold runHcp
  split
  · simpa using hb
  · split <;> simpa using hs

@[simp] theorem canonical_cssReceive {s : State} {p : Nat} {r : Routed} {bad : Option Nat} {cut : Bool} {f : State → State}
    (hf : ∀ u, Canonical (memories u) → Canonical (memories (f u))) (h : Canonical (memories s)) :
    Canonical (memories (cssReceive s p r bad cut f)) := by
  unfold cssReceive
  repeat' split
  all_goals simp [h, hf]

/-! ## Operations shared by families -/

@[simp] theorem canonical_putVar {s : State} {v : Nat} {x : PdVar} (h : Canonical (memories s)) :
    Canonical (memories (putVar s v x)) := by
  obtain ⟨hvars, hmem, harea⟩ := h
  exact ⟨twf_tset _ _ _ _ hvars, hmem, harea⟩

@[simp] theorem canonical_pdCommit {s : State} {v : Nat} {value : Bytes} (h : Canonical (memories s)) :
    Canonical (memories (pdCommit s v value)) := by
  unfold pdCommit
  split <;> simp [h]

@[simp] theorem canonical_pdGoStale {s : State} {v : Nat} (h : Canonical (memories s)) :
    Canonical (memories (pdGoStale s v)) := by
  unfold pdGoStale
  dsimp only
  split <;> simp [h]

@[simp] theorem canonical_pdDegrade {s : State} (h : Canonical (memories s)) : Canonical (memories (pdDegrade s)) := by
  refine canonical_foldl (fun u v hu => ?_) h
  split <;> simp [hu]

@[simp] theorem canonical_pdLay {s : State} {l : List Nat} {b : Bytes} (h : Canonical (memories s)) :
    Canonical (memories (pdLay s l b)) := by
  induction l generalizing s b with
  | nil => exact h
  | cons v r ih =>
    unfold pdLay
    dsimp only
    split
    · exact h
    · exact ih (canonical_pdCommit h)

@[simp] theorem canonical_pdAgePans {s : State} {l : List Nat} {n : Nat} (h : Canonical (memories s)) :
    Canonical (memories (pdAgePans s l n)) := by
  refine canonical_foldl (fun u v hu => ?_) h
  extract_lets x age late aged
  have haged : Canonical (memories aged) := canonical_putVar hu
  split
  · exact canonical_pdGoStale haged
  · exact haged

/-! ## The recorder -/

@[simp] theorem canonical_writeWindrow {s : State} {w : Windrow} (h : Canonical (memories s)) :
    Canonical (memories (writeWindrow s w)) := by
  rw [← memories_fold, canonical_mk] at h
  obtain ⟨hvars, hmem, harea⟩ := h
  simp only [writeWindrow, memories_mk, canonical_mk]
  exact ⟨hvars, twf_tset _ _ _ _ hmem, harea⟩

@[simp] theorem canonical_writeWindrows {s : State} {l : List Windrow} (h : Canonical (memories s)) :
    Canonical (memories (writeWindrows s l)) :=
  canonical_foldl (fun _ _ hu => canonical_writeWindrow hu) h

@[simp] theorem canonical_areaAccept {s : State} {t : Nat} {c : BitVec 64} {m : Word} (h : Canonical (memories s)) :
    Canonical (memories (areaAccept s t c m)) := by
  rw [← memories_fold, canonical_mk] at h
  obtain ⟨hvars, hmem, harea⟩ := h
  simp only [areaAccept, memories_mk, canonical_mk]
  exact ⟨hvars, hmem, twf_tset _ _ _ _ harea⟩

@[simp] theorem canonical_areaComplete {s : State} {t : Nat} (h : Canonical (memories s)) :
    Canonical (memories (areaComplete s t)) := by
  rw [← memories_fold, canonical_mk] at h
  obtain ⟨hvars, hmem, harea⟩ := h
  simp only [areaComplete, memories_mk, canonical_mk]
  exact ⟨hvars, hmem, twf_tmod _ _ _ _ harea⟩

@[simp] theorem canonical_burstAny {s : State} (h : Canonical (memories s)) : Canonical (memories (burstAny s)) := by
  simp only [burstAny]
  repeat' split
  all_goals simp [h]

@[simp] theorem canonical_evrBurst {s : State} {answers : Bool} (h : Canonical (memories s)) :
    Canonical (memories (evrBurst s answers)) := by
  simp only [evrBurst]
  repeat' split
  all_goals simp [h]

@[simp] theorem canonical_flushWrite {s : State} (h : Canonical (memories s)) : Canonical (memories (flushWrite s)) := by
  unfold flushWrite
  extract_lets n final d written shared
  have hwritten : Canonical (memories written) := canonical_writeWindrows (canonical_writeWindrows (by simpa [final] using h))
  rw [memories_writeCheckpoint]
  exact canonical_writeWindrows (by simpa [shared] using hwritten)

@[simp] theorem canonical_evrFlush {s : State} (h : Canonical (memories s)) : Canonical (memories (evrFlush s)) := by
  unfold evrFlush
  split <;> simp [h]

/-! ## Power -/

@[simp] theorem canonical_mainReset {s : State} {p : PowerPhase} (h : Canonical (memories s)) :
    Canonical (memories (mainReset s p)) := by
  obtain ⟨-, hmem, harea⟩ := h
  exact ⟨rfl, hmem, harea⟩

@[simp] theorem canonical_warmReset {s : State} {phase : PowerPhase} (h : Canonical (memories s)) :
    Canonical (memories (warmReset s phase)) := by
  simp [warmReset, h]

@[simp] theorem canonical_enterStandby {s : State} {cause : Nat} (h : Canonical (memories s)) :
    Canonical (memories (enterStandby s cause)) := by
  simp [enterStandby, h]

@[simp] theorem canonical_sleepFire {s : State} (h : Canonical (memories s)) : Canonical (memories (sleepFire s)) := by
  unfold sleepFire
  repeat' split
  all_goals simp [h]

@[simp] theorem canonical_attemptFail {s : State} {code : Nat} (h : Canonical (memories s)) :
    Canonical (memories (attemptFail s code)) := by
  simp [attemptFail, h]

/-! ## Recorder and Ageing Monitor -/

@[simp] theorem canonical_evrFormat {s : State} {f : BitVec 64} {n : Nat} (h : Canonical (memories s)) :
    Canonical (memories (evrFormat s f n)) := by
  obtain ⟨hvars, -, -⟩ := h
  simp [evrFormat]
  exact ⟨hvars, rfl, rfl⟩

theorem keeps_execEvrFormat (h : Hcp) (nonce floor : BitVec 64) (size : Nat) (s : State) :
    Keeps s (execEvrFormat h nonce floor size s) := by
  refine keeps_next fun hs => canonical_runHcp hs ?_
  repeat' split
  all_goals simp [hs]

/-! ## Firmware -/

@[simp] theorem canonical_restartDevice {s : State} {noStrap : Bool} {cause : Nat} (h : Canonical (memories s)) :
    Canonical (memories (restartDevice s noStrap cause)) := by
  simp [restartDevice, h]

@[simp] theorem canonical_bootFail {s : State} (h : Canonical (memories s)) : Canonical (memories (bootFail s)) := by
  simp [bootFail, h]

@[simp] theorem canonical_imageActivate {h : Hcp} {live : Bool} {i : Word} {s : State} (hs : Canonical (memories s)) :
    Canonical (memories (imageActivate h live i s)) := by
  refine canonical_runHcp hs ?_
  dsimp only
  repeat' split
  all_goals simp [hs]

@[simp] theorem canonical_keyWipe {h : Hcp} {s : State} (hs : Canonical (memories s)) :
    Canonical (memories (keyWipe h s)) := by
  refine canonical_runHcp hs ?_
  split
  · exact hs
  · obtain ⟨hvars, hmem, -⟩ := hs
    exact ⟨hvars, hmem, rfl⟩

/-- The ring of a foreign memory as the scan finds it. -/
theorem twf_ring (l : List (Nat × Bytes)) {t : Table Bytes} (h : twf [] t = true) :
    twf [] (l.foldl (fun t e => tset [] t e.1 e.2) t) = true := by
  induction l generalizing t with
  | nil => exact h
  | cons e l ih => exact ih (twf_tset _ _ _ _ h)

@[simp] theorem canonical_evrStart {s : State} {x : EvrScan} (h : Canonical (memories s)) :
    Canonical (memories (evrStart s x)) := by
  unfold evrStart
  dsimp only
  rw [memories_report]
  split
  · simpa using h
  · simpa using h
  · obtain ⟨hvars, -, -⟩ := h
    rw [memories_evrNumber]
    exact ⟨hvars, twf_ring _ rfl, rfl⟩
  · simpa using h

@[simp] theorem canonical_componentLoad {checks : List LoadCheck} {scan : EvrScan} {info : Option ImageInfo}
    {s : State} (h : Canonical (memories s)) :
    Canonical (memories (componentLoad checks scan info s)) := by
  simp only [componentLoad]
  repeat' split
  all_goals simp [h]

@[simp] theorem canonical_fwIsReady {s : State} (h : Canonical (memories s)) : Canonical (memories (fwIsReady s)) := by
  simp only [fwIsReady]
  repeat' split
  all_goals simp [h]

@[simp] theorem canonical_bootLate {s : State} (h : Canonical (memories s)) : Canonical (memories (bootLate s)) := by
  unfold bootLate
  split <;> simp [h]

@[simp] theorem canonical_recoveryRun {m : Bytes} {s : State} (h : Canonical (memories s)) :
    Canonical (memories (recoveryRun m s)) := by
  simp only [recoveryRun]
  repeat' split
  all_goals simp [h]

@[simp] theorem canonical_uartReceive {data : Bytes} {s : State} (h : Canonical (memories s)) :
    Canonical (memories (uartReceive data s)) := by
  simp only [uartReceive]
  repeat' split
  all_goals simp [h]

/-! ## Tenants -/

@[simp] theorem canonical_counterRule {s : State} {t : Nat} {e : CmdEntry} {u : UnitId} {remote : Bool}
    (h : Canonical (memories s)) :
    Canonical (memories (counterRule s t e u remote)) := by
  unfold counterRule
  dsimp only
  split <;> simp [h]

@[simp] theorem canonical_authenticate {s : State} {t : Nat} {e : CmdEntry} {u : UnitId} {remote : Bool}
    (h : Canonical (memories s)) :
    Canonical (memories (authenticate s t e u remote)) := by
  unfold authenticate
  repeat' split
  all_goals simp [h]

@[simp] theorem canonical_admitCommand {s : State} {t : Nat} {e : CmdEntry} (h : Canonical (memories s)) :
    Canonical (memories (admitCommand s t e)) := by
  unfold admitCommand
  repeat' split
  all_goals simp [h]

/-! ## Host commands and remote frames -/

@[simp] theorem canonical_fetchOne {t : Nat} {e : CmdEntry} {s : State} (h : Canonical (memories s)) :
    Canonical (memories (fetchOne t e s)) := by
  simp [fetchOne, h]

theorem keeps_execCommandFetch (t : Nat) (e : Dma CmdEntry) (s : State) : Keeps s (execCommandFetch t e s) := by
  refine keeps_next fun hs => ?_
  dsimp only
  repeat' split
  all_goals simp [hs]

@[simp] theorem canonical_remoteTake {s : State} {t : Nat} {e : CmdEntry} {u : UnitId} (h : Canonical (memories s)) :
    Canonical (memories (remoteTake s t e u)) := by
  unfold remoteTake
  split <;> simp [h]

@[simp] theorem canonical_remoteIn {c : RemoteHcp} {s : State} (h : Canonical (memories s)) :
    Canonical (memories (remoteIn c s)) := by
  simp only [remoteIn]
  repeat' split
  all_goals simp [h]

/-! ## Inauguration -/

@[simp] theorem canonical_takeOwner {s : State} {r : PdRec} (h : Canonical (memories s)) :
    Canonical (memories (takeOwner s r)) := by
  unfold takeOwner
  split <;> simp [h]

@[simp] theorem canonical_takeImage {s : State} {im : TwinImage} (h : Canonical (memories s)) :
    Canonical (memories (takeImage s im)) := by
  unfold takeImage
  extract_lets gone idled armed taken numbered ine adm owned twin
  have howned : Canonical (memories owned) := by
    refine canonical_foldl (fun _ _ hu => canonical_takeOwner hu) ?_
    simpa [numbered, taken, armed, idled] using h
  simpa using howned

@[simp] theorem canonical_imageReceive {im : Option TwinImage} {s : State} (h : Canonical (memories s)) :
    Canonical (memories (imageReceive im s)) := by
  unfold imageReceive
  repeat' split
  all_goals simp [h]

@[simp] theorem canonical_fullDone {im : TwinImage} {s : State} (h : Canonical (memories s)) :
    Canonical (memories (fullDone im s)) := by
  simp only [fullDone]
  repeat' split
  all_goals simp [h]

/-! ## Wake and resets -/

theorem keeps_execPowerStandby (h : Hcp) (force : Bool) (s : State) : Keeps s (execPowerStandby h force s) := by
  refine keeps_next fun hs => canonical_runHcp hs ?_
  repeat' split
  all_goals simp [hs]

theorem keeps_execPgTimeout (n : Nat) (s : State) : Keeps s (execPgTimeout n s) := by
  refine keeps_next fun hs => ?_
  split <;> simp [hs]

@[simp] theorem canonical_timeGone {s : State} (h : Canonical (memories s)) : Canonical (memories (timeGone s)) := by
  simp [timeGone, h]

@[simp] theorem canonical_xinLate {s : State} (h : Canonical (memories s)) : Canonical (memories (xinLate s)) := by
  unfold xinLate
  split <;> simp [h]

@[simp] theorem canonical_pllLate {s : State} (h : Canonical (memories s)) : Canonical (memories (pllLate s)) := by
  unfold pllLate
  repeat' split
  all_goals simp [h]

@[simp] theorem canonical_pgFall {n : Nat} {s : State} (h : Canonical (memories s)) :
    Canonical (memories (pgFall n s)) := by
  simp only [pgFall]
  repeat' split
  all_goals simp [h]

@[simp] theorem canonical_pgLow {n : Nat} {s : State} (h : Canonical (memories s)) :
    Canonical (memories (pgLow n s)) := by
  unfold pgLow
  repeat' split
  all_goals simp [h]

@[simp] theorem canonical_vaonOff {s : State} (h : Canonical (memories s)) : Canonical (memories (vaonOff s)) := by
  simp [vaonOff, h]

@[simp] theorem canonical_porstLow {s : State} (h : Canonical (memories s)) : Canonical (memories (porstLow s)) := by
  simp [porstLow, h]

@[simp] theorem canonical_pfailLow {s : State} (h : Canonical (memories s)) : Canonical (memories (pfailLow s)) := by
  unfold pfailLow
  dsimp only
  split <;> simp [h]

/-! ## The Cyclic Slot Service -/

@[simp] theorem canonical_windowCloseEffect {k : Nat} {s : State} (h : Canonical (memories s)) :
    Canonical (memories (windowCloseEffect k s)) := by
  unfold windowCloseEffect
  repeat' split
  all_goals simp [h]

/-! ## Actions as they fire -/

@[simp] theorem canonical_driveTau {s : State} {k : Nat} (h : Canonical (memories s)) :
    Canonical (memories (driveTau s k)) := by
  simp only [driveTau]
  repeat' split
  all_goals simp [h]

@[simp] theorem canonical_fireTau {k : Nat} {s : State} (h : Canonical (memories s)) :
    Canonical (memories (fireTau k s)) := by
  simp only [fireTau]
  repeat' split
  all_goals simp [h]

/-! ## Commands and tokens of the timed actions -/

@[simp] theorem canonical_winDeliver {s : State} {i : Nat} {w : RxWin} {port : Nat} {f : CssFrame}
    (h : Canonical (memories s)) :
    Canonical (memories (winDeliver s i w port f)) := by
  unfold winDeliver
  repeat' split
  all_goals simp [h]

@[simp] theorem canonical_winTake {s : State} {i : Nat} {w : RxWin} {port : Nat} {f : CssFrame}
    (h : Canonical (memories s)) :
    Canonical (memories (winTake s i w port f)) := by
  simp only [winTake]
  repeat' split
  all_goals simp [h]

@[simp] theorem canonical_winCopy {port : Nat} {f : CssFrame} {s : State} {i : Nat} (h : Canonical (memories s)) :
    Canonical (memories (winCopy port f s i)) := by
  unfold winCopy
  repeat' split
  all_goals simp [h]

@[simp] theorem canonical_slotDeliver {s : State} {p : Nat} {f : CssFrame} (h : Canonical (memories s)) :
    Canonical (memories (slotDeliver s p f)) := by
  unfold slotDeliver
  dsimp only
  split
  · simpa using h
  · exact canonical_foldl (fun _ _ hu => canonical_winCopy hu) (by simpa using h)

@[simp] theorem canonical_slotTake {port : Nat} {f : CssFrame} {s : State} (h : Canonical (memories s)) :
    Canonical (memories (slotTake port f s)) := by
  unfold slotTake
  repeat' split
  all_goals simp [h]

@[simp] theorem canonical_cssFrameIn {p : Nat} {f : CssFrame} {bad : Option Nat} {s : State} (h : Canonical (memories s)) :
    Canonical (memories (cssFrameIn p f bad s)) := by
  have htake : ∀ u, Canonical (memories u) → Canonical (memories (slotTake p f u)) := fun _ => canonical_slotTake
  unfold cssFrameIn
  extract_lets r
  split
  · repeat' split
    all_goals simp [h]
  · exact canonical_cssReceive htake h
  · exact canonical_cssReceive htake h

/-! ## Frames at ingress -/

@[simp] theorem canonical_cssIngress {s : State} {x : Ingress} (h : Canonical (memories s)) :
    Canonical (memories (cssIngress s x)) := by
  simp only [cssIngress]
  repeat' split
  all_goals simp [h]

theorem keeps_execFrameIngress (l : List Ingress) (s : State) : Keeps s (execFrameIngress l s) := by
  refine keeps_next fun hs => ?_
  rw [memories_ingressEffect]
  exact canonical_foldl (fun _ _ hu => canonical_cssIngress hu) hs

/-! ## The legacy bridge -/

@[simp] theorem canonical_setTimeout {s : State} {v : Nat} (h : Canonical (memories s)) :
    Canonical (memories (setTimeout s v)) := by
  simp [setTimeout, h]

@[simp] theorem canonical_applyMap {s : State} {b : Bus} (h : Canonical (memories s)) :
    Canonical (memories (applyMap s b)) :=
  canonical_foldl (fun _ _ hu => canonical_setTimeout hu) h

@[simp] theorem canonical_takeField {s : State} {d : Bytes} {k : Nat} {e : MapEntry} (h : Canonical (memories s)) :
    Canonical (memories (takeField s d k e)) := by
  simp only [takeField]
  repeat' split
  all_goals simp [h]

@[simp] theorem canonical_busData {s : State} {b : Bus} {x : BusData} (h : Canonical (memories s)) :
    Canonical (memories (busData s b x)) := by
  refine canonical_foldl (fun u e hu => ?_) h
  split
  · exact canonical_takeField hu
  · exact hu

@[simp] theorem canonical_mvbData {n : Nat} {s : State} {x : BusData} (h : Canonical (memories s)) :
    Canonical (memories (mvbData n s x)) := by
  unfold mvbData
  dsimp only
  split <;> simp [h]

@[simp] theorem canonical_macrocycle {n : Nat} {l : List BusData} {s : State} (h : Canonical (memories s)) :
    Canonical (memories (macrocycle n l s)) := by
  unfold macrocycle
  extract_lets begun p applied last offer sent
  have happlied : Canonical (memories applied) := canonical_applyMap (by simpa [begun] using h)
  split
  · exact h
  · refine canonical_foldl (fun _ _ hu => canonical_mvbData hu) ?_
    unfold sent
    split <;> simpa using happlied

@[simp] theorem canonical_mvbReceive {n : Nat} {f : MvbFrame} {s : State} (h : Canonical (memories s)) :
    Canonical (memories (mvbReceive n f s)) := by
  unfold mvbReceive
  repeat' split
  all_goals simp [h]

@[simp] theorem canonical_wtbReceive {s : State} {x : BusData} (h : Canonical (memories s)) :
    Canonical (memories (wtbReceive s x)) := by
  simp only [wtbReceive]
  repeat' split
  all_goals simp [h]

@[simp] theorem canonical_wtbPeriod {l : List BusData} {s : State} (h : Canonical (memories s)) :
    Canonical (memories (wtbPeriod l s)) := by
  unfold wtbPeriod
  extract_lets ups begun wtb applied sent
  have happlied : Canonical (memories applied) := canonical_applyMap (by simpa [begun] using h)
  split
  · exact h
  · exact canonical_foldl (fun _ _ hu => canonical_wtbReceive hu) (by simpa [sent] using happlied)

@[simp] theorem canonical_variableLate {v : Nat} {s : State} (h : Canonical (memories s)) :
    Canonical (memories (variableLate v s)) := by
  simp only [variableLate]
  repeat' split
  all_goals simp [h]

@[simp] theorem canonical_takeSub {s : State} {f : TrdpFrame} {x : TrdpSub} (h : Canonical (memories s)) :
    Canonical (memories (takeSub s f x)) := by
  simp only [takeSub]
  repeat' split
  all_goals simp [h]

@[simp] theorem canonical_trdpIn {f : TrdpFrame} {s : State} (h : Canonical (memories s)) :
    Canonical (memories (trdpIn f s)) := by
  unfold trdpIn
  extract_lets counted lgb
  have hcounted : Canonical (memories counted) := by simpa [counted] using h
  split
  · simpa [lgb] using hcounted
  · split
    · split <;> simpa using hcounted
    · split
      · exact hcounted
      · exact canonical_foldl (fun _ _ hu => canonical_takeSub hu) hcounted

theorem keeps_execLgbMapClear (h : Hcp) (bus : Bus) (idx : Nat) (s : State) :
    Keeps s (execLgbMapClear h bus idx s) := by
  refine keeps_next fun hs => canonical_runHcp hs ?_
  repeat' split
  all_goals simp [hs]

theorem keeps_execPdOwnerSet (h : Hcp) (v len : Nat) (writer : Writer) (s : State) :
    Keeps s (execPdOwnerSet h v len writer s) := by
  refine keeps_next fun hs => canonical_runHcp hs ?_
  dsimp only
  repeat' split
  all_goals simp [hs]

theorem keeps_execPdWrite (h : Hcp) (v : Nat) (data : Bytes) (s : State) : Keeps s (execPdWrite h v data s) := by
  refine keeps_next fun hs => canonical_runHcp hs ?_
  repeat' split
  all_goals simp [hs]

end Sys2Proof.Proofs
end

section
/-! SUPPORT. Every command keeps the addressed memories in canonical form, and the obligation about them (O59). -/

namespace Sys2Proof.Proofs

open Sys2Proof Sys2Proof.Machine

/-- One step of the device, whatever the command: a row that writes none of the three tables leaves them, any other writes them
entry by entry or empties them. -/
theorem keeps_exec (i : Instr) (s : State) : Keeps s (exec i s) := by
  cases i with
  | egressSelect => exact (leaves_next (memories_egressEffect ..)).keeps
  | sluiceGateChange => exact (leaves_next (memories_sluiceChange ..)).keeps
  | resaltTrigger => exact (leaves_execResaltTrigger ..).keeps
  | resaltWalkDone => exact (leaves_next (memories_walkDone ..)).keeps
  | resaltResume => exact (leaves_execResaltResume ..).keeps
  | fdbAgeOut => exact (leaves_next (memories_ageOut ..)).keeps
  | frerResetTimeout => exact (leaves_next (memories_frerReset ..)).keeps
  | latentErrorDetection => exact (leaves_next (memories_latentError ..)).keeps
  | prpSupervisionSend => exact (leaves_next (memories_prpSupervise ..)).keeps
  | prpNodeForget => exact (leaves_next (memories_prpForget ..)).keeps
  | brineConfig => exact (leaves_execBrineConfig ..).keeps
  | classConfig => exact (leaves_execClassConfig ..).keeps
  | sluiceLoad => exact (leaves_execSluiceLoad ..).keeps
  | tagConfig => exact (leaves_execTagConfig ..).keeps
  | prpConfig => exact (leaves_execPrpConfig ..).keeps
  | frerStatus => exact (leaves_execFrerStatus ..).keeps
  | fdbAdd => exact (leaves_execFdbAdd ..).keeps
  | fdbDelete => exact (leaves_execFdbDelete ..).keeps
  | fdbFlush => exact (leaves_execFdbFlush ..).keeps
  | fdbResalt => exact (leaves_execFdbResalt ..).keeps
  | bitternWatch => exact (leaves_execBitternWatch ..).keeps
  | bitternClear => exact (leaves_execBitternClear ..).keeps
  | streamAdmit => exact (leaves_execStreamAdmit ..).keeps
  | prepareReceive => exact (leaves_next (memories_prepareEffect ..)).keeps
  | replyReceive => exact (leaves_next (memories_replyEffect ..)).keeps
  | admissionInstallReceive => exact (leaves_next (memories_installEffect ..)).keeps
  | streamActivation => exact (leaves_next (memories_activationEffect ..)).keeps
  | confirmReceive => exact (leaves_execConfirmReceive ..).keeps
  | confirmTimeout => exact (leaves_next (memories_confirmTimeoutEffect ..)).keeps
  | prepareTimeout => exact (leaves_next (memories_prepareTimeoutEffect ..)).keeps
  | releaseReceive => exact (leaves_execReleaseReceive ..).keeps
  | holdLapse => exact (leaves_next (memories_holdLapseEffect ..)).keeps
  | noticeReceive => exact (leaves_execNoticeReceive ..).keeps
  | suspendHoldExpiry => exact (leaves_next (memories_suspendExpiry ..)).keeps
  | streamWithdraw => exact (leaves_execStreamWithdraw ..).keeps
  | streamStatus => exact (leaves_execStreamStatus ..).keeps
  | admissionConfig => exact (leaves_execAdmissionConfig ..).keeps
  | ltmSend => exact (leaves_next (memories_ltmSendEffect ..)).keeps
  | ltmReceive => exact (leaves_next (memories_ltmReceiveEffect ..)).keeps
  | trtHoldoverEntry => exact (leaves_next (memories_holdoverEffect ..)).keeps
  | servoUpdate => exact (leaves_next (memories_servoEffect ..)).keeps
  | phaseTrackLoss => exact (leaves_execPhaseTrackLoss ..).keeps
  | phaseTrackRequalify => exact (leaves_next (memories_requalify ..)).keeps
  | gptpMessageReceive => exact (leaves_next (memories_gptpEffect ..)).keeps
  | syncReceiptTimeout => exact (leaves_next (memories_syncTimeout ..)).keeps
  | preferredDomainReturn => exact (leaves_next (memories_preferredReturn ..)).keeps
  | pdelayReqSend => exact (leaves_next (memories_pdelaySend ..)).keeps
  | syncTransmission => exact (leaves_next (memories_syncSend ..)).keeps
  | ppsInEdge => exact (leaves_next (memories_ppsInEffect ..)).keeps
  | ppsOutSecond => exact (leaves_next (memories_ppsOutEffect ..)).keeps
  | ppsOutFall => exact (leaves_next (memories_ppsFallEffect ..)).keeps
  | refMonitorWindow => exact (leaves_next (memories_refWindow ..)).keeps
  | refReturn => exact (leaves_next (memories_refReturnEffect ..)).keeps
  | xinStop => exact (leaves_next (memories_xinStopEffect ..)).keeps
  | segmentBeaconSend => exact (leaves_next (memories_beaconSend ..)).keeps
  | timeRead => exact (leaves_execTimeRead ..).keeps
  | timeConfig => exact (leaves_execTimeConfig ..).keeps
  | timeSet => exact (leaves_execTimeSet ..).keeps
  | linkUp => exact (leaves_next (memories_linkUpEffect ..)).keeps
  | linkDown => exact (leaves_execLinkDown ..).keeps
  | cpInbandStatus => exact (leaves_next (memories_inbandEffect ..)).keeps
  | laneSyncLoss => exact (leaves_next (memories_laneLoss ..)).keeps
  | pauseReceive => exact (leaves_next (memories_pauseEffect ..)).keeps
  | pauseExpiry => exact (leaves_next (memories_pauseExpire ..)).keeps
  | pauseWatchdogTrip => exact (leaves_next (memories_pauseTrip ..)).keeps
  | pauseIgnoreEnd => exact (leaves_next (memories_pauseHonour ..)).keeps
  | portConfig => exact (leaves_execPortConfig ..).keeps
  | segConfig => exact (leaves_execSegConfig ..).keeps
  | segState => exact (leaves_execSegState ..).keeps
  | segSleepSilence => exact (leaves_next (memories_segSilence ..)).keeps
  | segSleepTimeout => exact (leaves_next (memories_segSleepLate ..)).keeps
  | segActivity => exact (leaves_next (memories_segActive ..)).keeps
  | segWake => exact (leaves_execSegWake ..).keeps
  | segWakeBurstEnd => exact (leaves_next (memories_segBurstEnd ..)).keeps
  | segPhyPowerUp => exact (leaves_next (memories_segPowerUp ..)).keeps
  | canConfig => exact (leaves_execCanConfig ..).keeps
  | canRecover => exact (leaves_execCanRecover ..).keeps
  | canBusOff => exact (leaves_next (memories_canOff ..)).keeps
  | canAutoRecovery => exact (leaves_next (memories_canRejoin ..)).keeps
  | mdioAccess => exact (leaves_execMdioAccess ..).keeps
  | portStatus => exact (leaves_execPortStatus ..).keeps
  | harvestTake => exact (leaves_execHarvestTake ..).keeps
  | harvestFillDone => exact (leaves_next (memories_fillDone ..)).keeps
  | farTargetSet => exact (leaves_execFarTargetSet ..).keeps
  | farRead => exact (leaves_execFarRead ..).keeps
  | farWrite => exact (leaves_execFarWrite ..).keeps
  | farLock => exact (leaves_execFarLock ..).keeps
  | farUnlock => exact (leaves_execFarUnlock ..).keeps
  | farHostRead => exact (leaves_next (memories_hostRead ..)).keeps
  | farHostWrite => exact (leaves_next (memories_hostWrite ..)).keeps
  | fwLockWrite => exact (leaves_next (memories_fwLock ..)).keeps
  | farRequestSend => exact (leaves_next (memories_requestSend ..)).keeps
  | farResponseReceive => exact (leaves_next (memories_responseReceive ..)).keeps
  | farResend => exact (leaves_next (memories_resend ..)).keeps
  | farTimeout => exact (leaves_next (memories_farLate ..)).keeps
  | farDiscardEnd => exact (leaves_next (memories_discardEnd ..)).keeps
  | farLeaseExpiry => exact (leaves_next (memories_leaseExpire ..)).keeps
  | canFrameReceive => exact (leaves_next (memories_canReceive ..)).keeps
  | evrReport => exact (leaves_execEvrReport ..).keeps
  | evrSecondSummary => exact (leaves_next (memories_secondSummary ..)).keeps
  | evrWriteBurst => exact keeps_next canonical_evrBurst
  | evrCheckpoint => exact (leaves_next (memories_checkpointFalls ..)).keeps
  | evrStagingFinal => exact (leaves_next (memories_stagingAges ..)).keeps
  | evrConfig => exact (leaves_execEvrConfig ..).keeps
  | evrRead => exact (leaves_execEvrRead ..).keeps
  | evrMark => exact (leaves_execEvrMark ..).keeps
  | evrFormat => exact keeps_execEvrFormat ..
  | evrStatus => exact (leaves_execEvrStatus ..).keeps
  | agmMeasurement => exact (leaves_next (memories_agmMeasureNow ..)).keeps
  | avsStepSettle => exact (leaves_next (memories_avsSettle ..)).keeps
  | agmDaily => exact (leaves_next (memories_agmDaily ..)).keeps
  | agmConfig => exact (leaves_execAgmConfig ..).keeps
  | agmStatus => exact (leaves_execAgmStatus ..).keeps
  | agmMeasure => exact (leaves_execAgmMeasure ..).keeps
  | imageBegin => exact (leaves_next (memories_imageBegin ..)).keeps
  | imageBlock => exact (leaves_next (memories_imageBlock ..)).keeps
  | imageVerify => exact (leaves_next (memories_imageVerify ..)).keeps
  | imageActivate => exact keeps_next canonical_imageActivate
  | activationDrainEnd => exact (leaves_next (memories_drainEnd ..)).keeps
  | activationFallback => exact (leaves_next (memories_activationLate ..)).keeps
  | imageCommit => exact (leaves_next (memories_imageCommit ..)).keeps
  | imageStatus => exact (leaves_next (memories_imageStatus ..)).keeps
  | rootRevoke => exact (leaves_execRootRevoke ..).keeps
  | keyWipe => exact keeps_next canonical_keyWipe
  | bootDecision => exact (leaves_next (memories_bootDecide ..)).keeps
  | componentLoad => exact keeps_next canonical_componentLoad
  | fwReady => exact keeps_next canonical_fwIsReady
  | bootTimeout => exact keeps_next canonical_bootLate
  | uartFrameReceive => exact keeps_next canonical_uartReceive
  | commandDoorbell => exact (leaves_execCommandDoorbell ..).keeps
  | mbxTResetWrite => exact (leaves_execMbxTResetWrite ..).keeps
  | tenantResetExecute => exact (leaves_execTenantResetExecute ..).keeps
  | eventRingRoom => exact (leaves_execEventRingRoom ..).keeps
  | queueProducerWrite => exact (leaves_execQueueProducerWrite ..).keeps
  | dmaCompletionTimeout => exact (leaves_execDmaCompletionTimeout ..).keeps
  | interruptHoldoffEnd => exact (leaves_next (memories_irqHoldoffEnd ..)).keeps
  | commandFetch => exact keeps_execCommandFetch ..
  | txDescriptor => exact (leaves_execTxDescriptor ..).keeps
  | rxDelivery => exact (leaves_execRxDelivery ..).keeps
  | remoteHcpReceive => exact keeps_next canonical_remoteIn
  | sessionOpen => exact (leaves_execSessionOpen ..).keeps
  | tenantConfig => exact (leaves_execTenantConfig ..).keeps
  | tenantKeySet => exact (leaves_execTenantKeySet ..).keeps
  | tenantReset => exact (leaves_execTenantReset ..).keeps
  | featuresSet => exact (leaves_execFeaturesSet ..).keeps
  | queueSteer => exact (leaves_execQueueSteer ..).keeps
  | authEcho => exact (leaves_execAuthEcho ..).keeps
  | helloSend => exact (leaves_next (memories_helloSendEffect ..)).keeps
  | helloReceive => exact (leaves_next (memories_helloReceiveEffect ..)).keeps
  | ttdpFallback => exact (leaves_next (memories_fallbackEffect ..)).keeps
  | ttdpFrameReceive => exact (leaves_next (memories_ttdpEffect ..)).keeps
  | tableReceive => exact (leaves_next (memories_tableEffect ..)).keeps
  | funcsReceive => exact (leaves_next (memories_funcsEffect ..)).keeps
  | digestReceive => exact (leaves_next (memories_digestEffect ..)).keeps
  | topologyTimeout => exact (leaves_next (memories_topologyLate ..)).keeps
  | disagreeHoldoffEnd => exact (leaves_next (memories_holdoffEnd ..)).keeps
  | proceedReceive => exact (leaves_next (memories_proceedEffect ..)).keeps
  | mergeReceive => exact (leaves_next (memories_mergeEffect ..)).keeps
  | inaugInstallReceive => exact (leaves_next (memories_installReceive ..)).keeps
  | inaugAckReceive => exact (leaves_next (memories_ackEffect ..)).keeps
  | inaugAbortReceive => exact (leaves_next (memories_abortEffect ..)).keeps
  | inaugConfig => exact (leaves_execInaugConfig ..).keeps
  | inaugLead => exact (leaves_execInaugLead ..).keeps
  | inaugInhibit => exact (leaves_execInaugInhibit ..).keeps
  | inaugStatus => exact (leaves_execInaugStatus ..).keeps
  | aliasSet => exact (leaves_execAliasSet ..).keeps
  | aliasClear => exact (leaves_execAliasClear ..).keeps
  | aliasCommit => exact (leaves_execAliasCommit ..).keeps
  | twinConfig => exact (leaves_execTwinConfig ..).keeps
  | twinSwap => exact (leaves_execTwinSwap ..).keeps
  | twinImageSend => exact (leaves_next (memories_imageSend ..)).keeps
  | twinImageReceive => exact keeps_next canonical_imageReceive
  | twinFullTransferDone => exact keeps_next canonical_fullDone
  | twinSyncTimeout => exact (leaves_next (memories_syncLate ..)).keeps
  | twinPartnerTimeout => exact (leaves_next (memories_partnerLost ..)).keeps
  | twinUnpairedTimeout => exact (leaves_next (memories_unpairedLate ..)).keeps
  | twinSwapDue => exact (leaves_next (memories_swapDue ..)).keeps
  | twinSwapSkip => exact (leaves_next (memories_swapSkip ..)).keeps
  | twinMirrorReceive => exact (leaves_next (memories_mirrorReceive ..)).keeps
  | fullTransferRequest => exact (leaves_next (memories_transferAsked ..)).keeps
  | powerConfig => exact (leaves_execPowerConfig ..).keeps
  | powerKeep => exact (leaves_execPowerKeep ..).keeps
  | powerLatency => exact (leaves_execPowerLatency ..).keeps
  | powerStandby => exact keeps_execPowerStandby ..
  | powerStatus => exact (leaves_execPowerStatus ..).keeps
  | powerStateEval => exact (leaves_next (memories_powerEval ..)).keeps
  | dozeHoldExpiry => exact (leaves_next (memories_powerHold ..)).keeps
  | napHoldExpiry => exact (leaves_next (memories_powerHold ..)).keeps
  | keepaliveSend => exact (leaves_next (memories_keepaliveDue ..)).keeps
  | keepaliveReceive => exact (leaves_next (memories_keepaliveEffect ..)).keeps
  | sleepNoticeReceive => exact (leaves_next (memories_sleepNoticeEffect ..)).keeps
  | quietExpiry => exact (leaves_next (memories_quietEffect ..)).keeps
  | sleepNoticeRepeat => exact (leaves_next (memories_noticeRepeat ..)).keeps
  | wakeSwDebounce => exact (leaves_next (memories_wakeSwOn ..)).keeps
  | wakeSwRelease => exact (leaves_next (memories_kaSettle ..)).keeps
  | externalInhWake => exact (leaves_next (memories_externalInh ..)).keeps
  | wakeTimerExpiry => exact (leaves_next (memories_wakeTimer ..)).keeps
  | segWakePattern => exact (leaves_next (memories_wakePattern ..)).keeps
  | heldWakeStart => exact (leaves_next (memories_heldWake ..)).keeps
  | pgRise => exact (leaves_next (memories_pgRise ..)).keeps
  | pgTimeout => exact keeps_execPgTimeout ..
  | xinValid => exact (leaves_execXinValid ..).keeps
  | xinTimeout => exact keeps_next canonical_xinLate
  | pllLock => exact (leaves_next (memories_pllLock ..)).keeps
  | pllLockTimeout => exact keeps_next canonical_pllLate
  | wakeRetry => exact (leaves_execWakeRetry ..).keeps
  | wakeOutSignal => exact (leaves_next (memories_wakeOutStep ..)).keeps
  | pgFall => exact keeps_next canonical_pgFall
  | pgLowTimeout => exact keeps_next canonical_pgLow
  | vaonPowerOn => exact (leaves_next (memories_vaonOn ..)).keeps
  | vaonLoss => exact keeps_next canonical_vaonOff
  | porstAssert => exact keeps_next canonical_porstLow
  | porstRelease => exact (leaves_next (memories_porstHigh ..)).keeps
  | pfailFall => exact keeps_next canonical_pfailLow
  | pfailRise => exact (leaves_next (memories_pfailHigh ..)).keeps
  | wakeGraceExpiry => exact (leaves_next (memories_graceEnd ..)).keeps
  | rstoutRelease => exact (leaves_next (memories_rstoutHigh ..)).keeps
  | patrolScrub => exact (leaves_execPatrolScrub ..).keeps
  | shadowRestore => exact (leaves_next (memories_restoreWord ..)).keeps
  | timeSlotLatch => exact (leaves_execTimeSlotLatch ..).keeps
  | driftLatch => exact (leaves_next (memories_busRead ..)).keeps
  | leaderIdLatch => exact (leaves_next (memories_busRead ..)).keeps
  | trtStepRecordLatch => exact (leaves_next (memories_busRead ..)).keeps
  | cssLeaderLatch => exact (leaves_next (memories_busRead ..)).keeps
  | cssOriginLatch => exact (leaves_next (memories_busRead ..)).keeps
  | ffCounterLatch => exact (leaves_execFfCounterLatch ..).keeps
  | lastDiscardLatch => exact (leaves_execLastDiscardLatch ..).keeps
  | ineStepLatch => exact (leaves_next (memories_busRead ..)).keeps
  | sleepAtLatch => exact (leaves_next (memories_busRead ..)).keeps
  | keeperLatch => exact (leaves_next (memories_busRead ..)).keeps
  | eomSecLatch => exact (leaves_next (memories_busRead ..)).keeps
  | evrWinLatch => exact (leaves_execEvrWinLatch ..).keeps
  | globalEccClear => exact (leaves_execGlobalEccClear ..).keeps
  | eccCaptureRelease => exact (leaves_execEccCaptureRelease ..).keeps
  | ffBrineClear => exact (leaves_execFfBrineClear ..).keeps
  | registerWrite => exact (leaves_execRegisterWrite ..).keeps
  | reservedAccess => exact (leaves_execReservedAccess ..).keeps
  | narrowWrite => exact (leaves_execNarrowWrite ..).keeps
  | spiTransaction => exact (leaves_next (memories_spiEffect ..)).keeps
  | panBoundary => exact (leaves_next (memories_panBoundaryEffect ..)).keeps
  | slotFetch => exact (leaves_next (memories_slotFetchEffect ..)).keeps
  | slotTransmit => exact (leaves_next (memories_slotTransmitEffect ..)).keeps
  | windowClose => exact keeps_next canonical_windowCloseEffect
  | cycleStartReceive => exact (leaves_next (memories_cycleStartEffect ..)).keeps
  | coldStartReceive => exact (leaves_next (memories_coldStartEffect ..)).keeps
  | listenTimeout => exact (leaves_next (memories_listenEffect ..)).keeps
  | originReached => exact (leaves_next (memories_originEffect ..)).keeps
  | timedStartReached => exact (leaves_next (memories_timedStartEffect ..)).keeps
  | waitStartTimeout => exact (leaves_next (memories_waitStartEffect ..)).keeps
  | integratingTimeout => exact (leaves_next (memories_integratingEffect ..)).keeps
  | reelectionColdStart => exact (leaves_next (memories_reelectionEffect ..)).keeps
  | leaderlessTimeout => exact (leaves_next (memories_leaderlessEffect ..)).keeps
  | schedLoadBegin => exact (leaves_execSchedLoadBegin ..).keeps
  | schedLoadBlock => exact (leaves_execSchedLoadBlock ..).keeps
  | schedLoadEnd => exact (leaves_execSchedLoadEnd ..).keeps
  | cssStart => exact (leaves_execCssStart ..).keeps
  | cssStop => exact (leaves_execCssStop ..).keeps
  | cssCountersClear => exact (leaves_execCssCountersClear ..).keeps
  | safetyCycle => exact (leaves_execSafetyCycle ..).keeps
  | telegramReceive => exact (leaves_execTelegramReceive ..).keeps
  | compareWindowExpiry => exact (leaves_next (memories_compareExpire ..)).keeps
  | stalenessDeadline => exact (leaves_next (memories_staleness ..)).keeps
  | driveCommandSend => exact (leaves_next (memories_driveSend ..)).keeps
  | darkPulseStart => exact (leaves_next (memories_darkStart ..)).keeps
  | darkPulseEnd => exact (leaves_next (memories_darkEnd ..)).keeps
  | feedbackDisagreeTimeout => exact (leaves_next (memories_feedbackLate ..)).keeps
  | inputDiscrepancyTimeout => exact (leaves_next (memories_inputLate ..)).keeps
  | handoverTimeout => exact (leaves_next (memories_handLate ..)).keeps
  | guardTestTimeout => exact (leaves_next (memories_guardLate ..)).keeps
  | autoRecover => exact (leaves_next (memories_recover ..)).keeps
  | islandStartupTimeout => exact (leaves_next (memories_startupLate ..)).keeps
  | sfpFirstVector => exact (leaves_next (memories_firstVector ..)).keeps
  | safetyParamBegin => exact (leaves_execSafetyParamBegin ..).keeps
  | safetyParamBlock => exact (leaves_execSafetyParamBlock ..).keeps
  | safetyParamEnd => exact (leaves_execSafetyParamEnd ..).keeps
  | safetyResume => exact (leaves_execSafetyResume ..).keeps
  | safetyChannelReset => exact (leaves_execSafetyChannelReset ..).keeps
  | safetyGuardTest => exact (leaves_execSafetyGuardTest ..).keeps
  | axisCounterSet => exact (leaves_execAxisCounterSet ..).keeps
  | axisStatus => exact (leaves_execAxisStatus ..).keeps
  | counterWindrowWrite => exact (leaves_next (memories_counterWrite ..)).keeps
  | tauFire => exact keeps_next canonical_fireTau
  | pinPulseEnd => exact (leaves_next (memories_pulseEnd ..)).keeps
  | captureEdge => exact (leaves_next (memories_captureStamp ..)).keeps
  | captureWindowEnd => exact (leaves_next (memories_captureEnd ..)).keeps
  | commitDeadline => exact (leaves_next (memories_deadline ..)).keeps
  | surveyClose => exact (leaves_next (memories_surveyEnd ..)).keeps
  | cssFrameReceive => exact keeps_next canonical_cssFrameIn
  | commitTokenReceive => exact keeps_next canonical_cssFrameIn
  | surveyReportReceive => exact keeps_next canonical_cssFrameIn
  | tauArm => exact (leaves_execTauArm ..).keeps
  | tauCancel => exact (leaves_execTauCancel ..).keeps
  | tauFrameLoad => exact (leaves_execTauFrameLoad ..).keeps
  | tauCommit => exact (leaves_execTauCommit ..).keeps
  | tauAbort => exact (leaves_execTauAbort ..).keeps
  | waysideTokenRepeat => exact (leaves_next (memories_waysideRepeat ..)).keeps
  | tauKeySet => exact (leaves_execTauKeySet ..).keeps
  | tauStatus => exact (leaves_execTauStatus ..).keeps
  | tauSurveyRead => exact (leaves_execTauSurveyRead ..).keeps
  | frameIngress => exact keeps_execFrameIngress ..
  | mvbMacrocycle => exact keeps_next canonical_macrocycle
  | mvbFrameReceive => exact keeps_next canonical_mvbReceive
  | wtbInauguration => exact (leaves_next (memories_wtbInaug ..)).keeps
  | wtbDataReceive => exact keeps_next canonical_wtbReceive
  | wtbProcessDataPeriod => exact keeps_next canonical_wtbPeriod
  | pdPublish => exact (leaves_next (memories_publish ..)).keeps
  | variableStale => exact keeps_next canonical_variableLate
  | trdpReceive => exact keeps_next canonical_trdpIn
  | lgbConfig => exact (leaves_execLgbConfig ..).keeps
  | lgbMapSet => exact (leaves_execLgbMapSet ..).keeps
  | lgbMapClear => exact keeps_execLgbMapClear ..
  | trdpConfig => exact (leaves_execTrdpConfig ..).keeps
  | pdOwnerSet => exact keeps_execPdOwnerSet ..
  | pdWrite => exact keeps_execPdWrite ..
  | pdRead => exact (leaves_execPdRead ..).keeps
  | lgbStatus => exact (leaves_execLgbStatus ..).keeps

/-- Settles O59: the empty queue lets time pass, and each command keeps the tables (`keeps_exec`). -/
theorem buffersStayCanonical : Obligations.BuffersStayCanonical := by
  unfold Obligations.BuffersStayCanonical
  intro s t hs hstep
  rw [buffersWf_iff] at hs ⊢
  unfold step at hstep
  split at hstep
  · cases hstep
    simpa using hs
  · rename_i c rest _
    obtain ⟨u, hu, hkeeps⟩ := keeps_exec c { s with pending := rest }
    rw [hu] at hstep
    cases hstep
    exact hkeeps (by simpa using hs)

end Sys2Proof.Proofs
end

section
/-! SUPPORT. Far accesses: what their commands queue, which goes next, the request in its port's queue, and how responses, failures
and timeouts end them; the obligation about them (O44). -/

namespace Sys2Proof.Proofs

open Sys2Proof Sys2Proof.Machine

/-! ## The far targets while a frame enters the fabric -/

theorem event_far (s : State) (t typ : Nat) (d : Bytes) : (event s t typ d).far = s.far := by simp

theorem respond_far (s : State) (h : Hcp) (op : Nat) (st : Status) (r : Nat) (p : Bytes) :
    (respond s h op st r p).far = s.far := by simp

theorem draw_far (s : State) : (draw s).2.far = s.far := by simp

theorem report_far (s : State) (c : Nat) (d : Bytes) : (report s c d).far = s.far := by simp

theorem setAlarm_far (s : State) (r : AlarmReg) (b : Nat) : (setAlarm s r b).far = s.far := by simp

@[simp] theorem far_mgpSends (s : State) (via : Option Nat) (x : Sent) : (mgpSends s via x).far = s.far := by
  cases via with
  | none => rw [mgpSends_none]; simp
  | some p => rw [mgpSends_some]; simp

@[simp] theorem far_violation (s : State) (i at_ kind reason residence : Nat) :
    (violation s i at_ kind reason residence).far = s.far := by
  have hcheck : ∀ (u : State) p, (tc6Check u p).far = u.far := fun u p => by
    unfold tc6Check
    dsimp only
    split <;> rfl
  unfold violation
  split
  · rfl
  · dsimp only
    rw [apply_ite State.far, (event_far ..), far_mgpSends, ite_self, report_far, setAlarm_far]
    exact hcheck s _

theorem far_lose (s : State) (stream : Option Nat) (c : Bool) (egress reason : Nat) :
    (lose s stream c egress reason).far = s.far := by
  unfold lose
  split
  · rfl
  · split
    · exact far_violation ..
    · rfl

theorem far_dropRouted (s : State) (port : Nat) (r : Routed) (reason at_ egress : Nat) :
    (dropRouted s port r reason at_ egress).far = s.far := by
  unfold dropRouted
  rw [far_lose]; simp

theorem far_takeCells (s : State) (a : Alloc) (port cls : Nat) (stream : Option Nat) :
    (takeCells s a port cls stream).far = s.far := by
  simp [takeCells, noteShared]

theorem far_brineAndQueue (s : State) (port : Nat) (r : Routed) (lost : Bool) :
    (brineAndQueue s port r lost).far = s.far := by
  unfold brineAndQueue brineAndQueueAt
  extract_lets a above ok rcts h why bad good dropped numbered k h' taken fab queued woken
  split
  · exact far_dropRouted ..
  have hnumbered : numbered.far = s.far :=
    (foldl_keeps State.far _ (fun u e => far_dropRouted ..) bad dropped).trans
      (foldl_keeps State.far _ (fun u p => far_dropRouted ..) above s)
  have hqueued : queued.far = s.far := (far_takeCells numbered ..).trans hnumbered
  have hwoken : woken.far = s.far := by
    refine Eq.trans ?_ hqueued
    unfold woken
    split
    · simp
    · rfl
  split
  · exact hnumbered
  · split
    · exact .trans (by simp) hwoken
    · exact hwoken

theorem far_farIssue (s : State) (c : FarCfg) (x : FarTxn) : (farIssue s c x).far = s.far := by
  unfold farIssue
  rw [far_brineAndQueue]; simp

/-! ## Far targets -/

/-- A far target depends on the Far Window alone. -/
theorem farOf_congr {s u : State} (h : u.far = s.far) (f : Nat) : farOf u f = farOf s f := by
  rw [farOf, h, farOf]

@[simp] theorem putFar_mono (s : State) (f : Nat) (x : FarTarget) : (putFar s f x).mono = s.mono := rfl

@[simp] theorem putFar_arrivals (s : State) (f : Nat) (x : FarTarget) : (putFar s f x).far.arrivals = s.far.arrivals := rfl

@[simp] theorem putFar_completions (s : State) (f : Nat) (x : FarTarget) :
    (putFar s f x).far.completions = s.far.completions := rfl

@[simp] theorem farPortUp_untilMono (s : State) (n : Nat) (c : FarCfg) : farPortUp (untilMono s n) c = farPortUp s c := by
  simp [farPortUp, linkIsUp]

@[simp] theorem farPortUp_putFar (s : State) (f : Nat) (x : FarTarget) (c : FarCfg) :
    farPortUp (putFar s f x) c = farPortUp s c := rfl

@[simp] theorem farOf_untilMono (s : State) (n f : Nat) : farOf (untilMono s n) f = farOf s f := farOf_congr (by simp) f

/-! ## FAR_TARGET_SET, FAR_READ, FAR_WRITE and the host's accesses (R232, R235, R238) -/

theorem targetSet_refused {h : Hcp} {s : State} {x : FarCfg} {i : Nat} (f : Nat)
    (ha : accepts { opcode := 0x0809, classC := true, owner := true, features := [11] } h s = true)
    (hx : farCfgBad s x = some i) :
    exec (.farTargetSet h f (some x)) s = .next (respond s h 0x0809 .invalidArgument 0 (leBytes 2 i)) := by
  change execFarTargetSet h f (some x) s = _
  rw [execFarTargetSet, farFeatures, runHcp_accepted _ ha]
  simp [hx]

theorem targetSet_taken {h : Hcp} {s : State} {f : Nat} {c : Option FarCfg}
    (ha : accepts { opcode := 0x0809, classC := true, owner := true, features := [11] } h s = true)
    (hf : f < 256) (hq : (farOf s f).queue = []) (hc : ∀ x, c = some x → farCfgBad s x = none) :
    exec (.farTargetSet h f c) s = .next (respond (putFar s f { farOf s f with cfg := c }) h 0x0809 .ok 0 []) := by
  have hgood : c.bind (farCfgBad s) = none := by
    cases c with
    | none => rfl
    | some x => exact hc x rfl
  change execFarTargetSet h f c s = _
  rw [execFarTargetSet, farFeatures, runHcp_accepted _ ha]
  simp [hgood, hq, farFlush, Nat.not_le.2 hf]

section

variable {h : Hcp} {s : State} {f : Nat} {c : FarCfg}

theorem farCommand_queues {a n : Nat} (r : Bool) (d : Bytes) (hright : hasRight s h.tenant 7 = true) (hf : f < 256)
    (hc : (farOf s f).cfg = some c) (hup : farPortUp s c = true) (hn : n ≠ 0) (hsize : a + n ≤ c.size) :
    farCommand h f a n r d s = .wait (farPut s f (.tenant h.tenant) r a n d (some h)) := by
  simp [farCommand, hright, hc, hup, hn, Nat.not_le.2 hf, Nat.not_lt.2 hsize]

theorem farCommand_unmapped {a n : Nat} (r : Bool) (d : Bytes) (hright : hasRight s h.tenant 7 = true) (hf : f < 256)
    (hc : (farOf s f).cfg = some c) (hn : n ≠ 0) (hsize : c.size < a + n) :
    farCommand h f a n r d s = fails s .refused 0x0401 := by
  simp [farCommand, hright, hc, hn, Nat.not_le.2 hf, hsize]

theorem exec_farRead (a n : Nat) (ha : accepts { opcode := 0x080A, features := [11] } h s = true) :
    exec (.farRead h f a n) s = .next (conclude h 0x080A (farCommand h f a n true [] s)) :=
  congrArg Host.Outcome.next (runHcp_accepted _ ha)

theorem exec_farWrite (a : Nat) (d : Bytes) (ha : accepts { opcode := 0x080B, classC := true, features := [11] } h s = true) :
    exec (.farWrite h f a d) s = .next (conclude h 0x080B (farCommand h f a d.length false d s)) :=
  congrArg Host.Outcome.next (runHcp_accepted _ ha)

theorem hostRead_queues {a n : Nat} (hf : f < 256) (hc : (farOf s f).cfg = some c) (hup : farPortUp s c = true)
    (hlow : 4 ≤ n) (hhigh : n ≤ 64) (hblock : a / 64 = (a + n - 1) / 64) (hsize : a + n ≤ c.size) (hheld : heldReads s < 24) :
    hostRead f a n s = farPut s f .bar0 true a n [] none := by
  have hfits : ¬ (n < 4 ∨ 64 < n ∨ a / 64 ≠ (a + n - 1) / 64 ∨ c.size < a + n) := by omega
  simp only [hostRead, hc, if_neg (Nat.not_le.2 hf), if_neg hfits, if_neg (Nat.not_le.2 hheld), hup]
  rfl

theorem hostRead_rejected {a n : Nat} (hf : f < 256) (hc : (farOf s f).cfg = some c)
    (hbad : n < 4 ∨ 64 < n ∨ c.size < a + n) : hostRead f a n s = farReject s f 1 := by
  have houtside : n < 4 ∨ 64 < n ∨ a / 64 ≠ (a + n - 1) / 64 ∨ c.size < a + n := by tauto
  simp only [hostRead, hc, if_neg (Nat.not_le.2 hf), if_pos houtside]

theorem hostWrite_queues {a : Nat} {d : Bytes} (hf : f < 256) (hc : (farOf s f).cfg = some c) (hup : farPortUp s c = true)
    (hd : d.length ≠ 0) (hsize : a + d.length ≤ c.size) :
    hostWrite f a d s = farPut s f .bar0 false a d.length d none := by
  have hsome : ¬ (256 ≤ f ∨ d.isEmpty = true) := by
    rw [List.isEmpty_iff_length_eq_zero]; omega
  simp only [hostWrite, hc, if_neg hsome, if_neg (Nat.not_lt.2 hsize), hup]
  rfl

end

/-- A refused host read completes at once and is logged in FW_ERR. -/
theorem farReject_effect (s : State) (f c : Nat) :
    (farReject s f c).far.completions = (f, c, []) :: s.far.completions ∧ bitAt (farOf (farReject s f c) f).err 1 = true
    ∧ (farOf (farReject s f c) f).queue = (farOf s f).queue := by
  unfold farReject farErr
  refine ⟨rfl, ?_, ?_⟩
  · rw [farOf_putFar_self]; exact bitAt_setBit_self _ 1 (by decide)
  · rw [farOf_putFar_self]; rfl

/-- A queued access stands at the end of its target's queue, with the next number in order of arrival. -/
theorem farPut_queues (s : State) (f : Nat) (p : FarPath) (r : Bool) (a n : Nat) (d : Bytes) (h : Option Hcp) :
    ∃ x, farOf (farPut s f p r a n d h) f = { farOf s f with queue := (farOf s f).queue ++ [x] }
      ∧ x.path = p ∧ x.isRead = r ∧ x.addr = a ∧ x.len = n ∧ x.data = d ∧ x.at_ = s.mono ∧ x.sent = 0 ∧ x.hcp = h
      ∧ x.no = s.far.arrivals ∧ (farPut s f p r a n d h).far.arrivals = s.far.arrivals + 1
      ∧ ∀ g, g ≠ f → farOf (farPut s f p r a n d h) g = farOf s g := by
  refine ⟨_, farOf_putFar_self _ f _, rfl, rfl, rfl, rfl, rfl, rfl, rfl, rfl, rfl, rfl, fun g hg => ?_⟩
  exact farOf_putFar_other _ _ hg

/-! ## FAR_REQUEST_SEND (R233, R235, R241) -/

theorem freeTag_lt (r : Table Nat) (n t : Nat) : freeTag r n t < 256 := by
  induction n generalizing t with
  | zero => exact Nat.mod_lt _ (by decide)
  | succ n ih =>
    rw [freeTag]
    split
    · exact Nat.mod_lt _ (by decide)
    · exact ih _

/-- The transaction that asks for the next `n` bytes of an access. -/
def nextTxn (s : State) (x : FarTarget) (c : FarCfg) (a : FarAcc) (n : Nat) : FarTxn :=
  { tag := freeTag x.reserved 256 x.nextTag, isRead := a.isRead, addr := c.base.toNat + a.addr + a.sent, len := n
    data := if a.isRead then [] else (a.data.drop a.sent).take n, resends := 0, at_ := s.mono }

/-- The target once its access `a` has sent `n` more bytes under a transaction. -/
def afterSend (x : FarTarget) (a : FarAcc) (r : List FarAcc) (n : Nat) (t : FarTxn) : FarTarget :=
  { x with nextTag := (t.tag + 1) % 256, queue := { a with sent := a.sent + n } :: r, txn := some t }

section

variable {s : State} {f : Nat} {c : FarCfg} {a : FarAcc} {r : List FarAcc}

theorem requestSend_waits (hc : (farOf s f).cfg = some c) (ht : (farOf s f).txn = none) (hup : farPortUp s c = true)
    (hn : farNext (farOf s f) = some (a, r))
    (hroom : farRoom s c a (min (farChunk c.port) (a.len - a.sent)) = false) : requestSend f s = s := by
  simp [requestSend, hc, ht, hn, hup, hroom]

theorem requestSend_issues (hc : (farOf s f).cfg = some c) (ht : (farOf s f).txn = none) (hup : farPortUp s c = true)
    (hn : farNext (farOf s f) = some (a, r)) (hlen : a.sent < a.len) (hdue : s.mono < a.at_ + farTimeoutNs c)
    (hroom : farRoom s c a (min (farChunk c.port) (a.len - a.sent)) = true) :
    let n := min (farChunk c.port) (a.len - a.sent)
    let x := nextTxn s (farOf s f) c a n
    requestSend f s = farIssue (putFar s f (afterSend (farOf s f) a r n x)) c x := by
  simp [requestSend, hc, ht, hn, hup, hroom, Nat.not_le.2 hlen, Nat.not_le.2 hdue, nextTxn, afterSend]

end

/-- The access under way goes next, or the first where the lock lets it go. -/
theorem farNext_head {x : FarTarget} {a : FarAcc} {r : List FarAcc} (hq : x.queue = a :: r)
    (ha : a.sent ≠ 0 ∨ lockLets x a = true) : farNext x = some (a, r) := by
  simp only [farNext, hq, if_pos ha]

/-- Where the lock holds the first back, the first that it lets go takes the head. -/
theorem farNext_passes {x : FarTarget} {a b : FarAcc} {r : List FarAcc} (hq : x.queue = a :: r) (hs : a.sent = 0)
    (ha : lockLets x a = false) (hb : r.find? (lockLets x) = some b) : farNext x = some (b, a :: r.erase b) := by
  have hne : a ≠ b := fun h => by
    have hlets := List.find?_some hb
    rw [← h, ha] at hlets
    exact Bool.false_ne_true hlets
  have hheld : ¬ (a.sent ≠ 0 ∨ lockLets x a = true) := by simp [hs, ha]
  rw [farNext, hq]
  dsimp only
  rw [if_neg hheld]
  simp only [List.find?_cons, ha, hb, Option.map_some, List.erase_cons_tail (mt beq_iff_eq.1 hne)]

/-! ## The request in its port's queue (R233, R241) -/

theorem farFrame_sg {u : State} {c : FarCfg} {x : FarTxn} (hp : portKind c.port = .sg) :
    (farFrame u c x).dst = c.mac ∧ (farFrame u c x).etype = 0x88B6 ∧ (farFrame u c x).payload = 0x50 :: farPayload x := by
  simp [farFrame, hp]

/-- A request to an SG port is held, charged to the owner, and stands at the end of its egress queue. -/
theorem farIssue_queued {u : State} {c : FarCfg} (x : FarTxn) (hp : portKind c.port = .sg) :
    let r : Routed := { cls := pcpClass (tget ({} : TagPort) u.fab.tags 97).pcp, tenant := c.owner, stream := none
                        conforming := false, vid := frameVid u 97 (farFrame u c x), frame := farFrame u c x
                        ports := [c.port] }
    let v := countGot u 97 r.frame.len
    (routedAlloc v 97 r).sharedCells = 0 →
    (∀ h : Held, h.frame = r.frame → h.ingress = 97 → h.rcts = prpNumbers v r.frame [c.port] →
      egressReason v c.port r (egressFrame v c.port h).len = none) → ∃ h,
      tget none (farIssue u c x).fab.held u.fab.nextId = some h ∧ h.frame.dst = c.mac ∧ h.frame.etype = 0x88B6
      ∧ h.frame.payload = 0x50 :: farPayload x ∧ h.tenant = c.owner ∧ h.refs = 1
      ∧ queueOf (farIssue u c x) c.port r.cls = queueOf u c.port r.cls ++ [u.fab.nextId]
      ∧ (farIssue u c x).far = u.far := by
  intro r v halloc hegress
  have hfab : v.fab = u.fab := by simp [v]
  obtain ⟨w, hview, hq⟩ := brineAndQueue_queues (r := r) (sg_range hp) rfl halloc (hegress (heldOne v 97 r) rfl rfl rfl)
  simp only [waitingView, Prod.mk.injEq, hfab] at hview
  obtain ⟨-, hqueues, hid, -⟩ := hview
  have hissue : farIssue u c x = queuedOne w (heldOne v 97 r) (c.port * 8 + r.cls) := hq
  obtain ⟨hdst, hetype, hpayload⟩ := farFrame_sg (u := u) (x := x) hp
  refine ⟨heldOne v 97 r, ?_, hdst, hetype, hpayload, rfl, rfl, ?_, far_farIssue u c x⟩
  · rw [hissue, ← hid]; simp only [queuedOne, tget_tset_self]
  · rw [hissue, queueOf, queueOf, ← hqueues, ← hid]; simp only [queuedOne, tget_tmod_self]

/-! ## Ends of accesses (R236 to R238) -/

/-- What a target keeps while its failures are logged: everything but FW_ERR and FW_ERR_ADDR, and the time. -/
def KeepsTarget (f : Nat) (s u : State) : Prop :=
  u.mono = s.mono ∧ ∃ err addr, farOf u f = { farOf s f with err := err, errAddr := addr }

theorem KeepsTarget.refl (f : Nat) (s : State) : KeepsTarget f s s := ⟨rfl, _, _, rfl⟩

theorem KeepsTarget.trans {f : Nat} {s t u : State} (h : KeepsTarget f s t) (k : KeepsTarget f t u) : KeepsTarget f s u := by
  obtain ⟨hm, e, a, hx⟩ := h
  obtain ⟨km, e', a', kx⟩ := k
  exact ⟨km.trans hm, e', a', by rw [kx, hx]⟩

theorem keepsTarget_of_same {f : Nat} {s u : State} (hm : u.mono = s.mono) (hx : farOf u f = farOf s f) :
    KeepsTarget f s u := ⟨hm, _, _, hx⟩

theorem keepsTarget_respond (f : Nat) (s : State) (h : Hcp) (op : Nat) (st : Status) (r : Nat) (p : Bytes) :
    KeepsTarget f s (respond s h op st r p) := keepsTarget_of_same (by simp) (farOf_congr (by simp) f)

theorem keepsTarget_draw (f : Nat) (s : State) : KeepsTarget f s (draw s).2 :=
  keepsTarget_of_same (by simp) (farOf_congr (by simp) f)

theorem farOf_farErr (s : State) (f b : Nat) :
    farOf (farErr s f b) f = { farOf s f with err := setBit (farOf s f).err b true } := farOf_putFar_self ..

theorem keepsTarget_farErr (f : Nat) (s : State) (b : Nat) : KeepsTarget f s (farErr s f b) :=
  ⟨rfl, _, _, farOf_farErr s f b⟩

theorem farLog_form (s : State) (f bits addr st : Nat) : (farLog s f bits addr st).mono = s.mono
    ∧ farOf (farLog s f bits addr st) f
      = { farOf s f with err := (farOf s f).err ||| word bits, errAddr := word addr } := by
  unfold farLog
  extract_lets x u owner data v
  have hv : v.mono = s.mono ∧ v.far = u.far := by
    unfold v
    split <;> simp [u]
  obtain ⟨hmono, hfar⟩ := hv
  refine ⟨by simp [hmono], ?_⟩
  rw [farOf_congr (report_far v ..), farOf_congr hfar]
  exact farOf_putFar_self ..

theorem keepsTarget_farLog (s : State) (f bits addr st : Nat) : KeepsTarget f s (farLog s f bits addr st) :=
  ⟨(farLog_form s f bits addr st).1, _, _, (farLog_form s f bits addr st).2⟩

/-- An access that times out ends without a status: FW_ERR shows it, and the rest of its target stays. -/
theorem farEnd_timedOut (s : State) (f : Nat) (a : FarAcc) :
    KeepsTarget f s (farEnd s f a (.lost true)) ∧ bitAt (farOf (farEnd s f a (.lost true)) f).err 2 = true := by
  unfold farEnd
  cases a.hcp with
  | some h =>
    have hdrawn := (keepsTarget_farErr f s 2).trans (keepsTarget_draw f _)
    refine ⟨hdrawn.trans (keepsTarget_respond ..), ?_⟩
    refine (congrArg (fun x => bitAt (FarTarget.err x) 2)
      ((farOf_congr ((respond_far ..).trans (draw_far _)) f).trans (farOf_farErr s f 2))).trans ?_
    exact bitAt_setBit_self _ 2 (by decide)
  | none =>
    cases a.isRead with
    | true =>
      refine ⟨.trans (.trans (keepsTarget_of_same rfl rfl) (keepsTarget_farErr f _ 1)) (keepsTarget_farErr f _ 2), ?_⟩
      refine (congrArg (fun x => bitAt (FarTarget.err x) 2) (farOf_farErr _ f 2)).trans ?_
      exact bitAt_setBit_self _ 2 (by decide)
    | false =>
      refine ⟨keepsTarget_farLog .., ?_⟩
      refine (congrArg (fun x => bitAt (FarTarget.err x) 2) (farLog_form s f 4 _ _).2).trans ?_
      simp [bitAt, word]

/-- The head of a queue that times out leaves it; the tag of its open transaction stays reserved (R236). -/
theorem farHeadEnd_timedOut {s : State} {f : Nat} {c : FarCfg} {a : FarAcc} {r : List FarAcc}
    (hc : (farOf s f).cfg = some c) (hq : (farOf s f).queue = a :: r) :
    (farHeadEnd s f (.lost true)).mono = s.mono
    ∧ bitAt (farOf (farHeadEnd s f (.lost true)) f).err 2 = true
    ∧ (farOf (farHeadEnd s f (.lost true)) f).queue = r ∧ (farOf (farHeadEnd s f (.lost true)) f).txn = none
    ∧ ∀ x, (farOf s f).txn = some x →
      tget 0 (farOf (farHeadEnd s f (.lost true)) f).reserved x.tag = s.mono + 2 * farTimeoutNs c + 1 := by
  obtain ⟨hmono, htxn, hreserved⟩ : (farReserve s f).mono = s.mono ∧ (farOf (farReserve s f) f).txn = none
      ∧ ∀ x, (farOf s f).txn = some x →
        tget 0 (farOf (farReserve s f) f).reserved x.tag = s.mono + 2 * farTimeoutNs c + 1 := by
    unfold farReserve
    cases ht : (farOf s f).txn with
    | none => simp [ht]
    | some x => simp [ht, hc]
  have hend : farHeadEnd s f (.lost true)
      = farEnd (putFar (farReserve s f) f { farOf (farReserve s f) f with queue := r }) f a (.lost true) := by
    simp [farHeadEnd, hq]
  obtain ⟨⟨hm, err, addr, hx⟩, hbit⟩ := farEnd_timedOut (putFar (farReserve s f) f { farOf (farReserve s f) f with queue := r }) f a
  rw [hend]
  refine ⟨hm.trans hmono, hbit, ?_, ?_, ?_⟩ <;> rw [hx, farOf_putFar_self]
  · exact htxn
  · exact hreserved

/-- The oldest of a queue whose first access arrived first is that one. -/
theorem foldl_oldest {a : FarAcc} {r : List FarAcc} (h : ∀ b, b ∈ r → a.at_ ≤ b.at_) :
    r.foldl (fun o b => if b.at_ < o.at_ then b else o) a = a := by
  induction r with
  | nil => rfl
  | cons b r ih =>
    rw [List.foldl_cons, if_neg (Nat.not_lt.2 (h b List.mem_cons_self))]
    exact ih fun b hb => h b (List.mem_cons_of_mem _ hb)

theorem farLate_head {s : State} {f : Nat} {c : FarCfg} {a : FarAcc} {r : List FarAcc} (hc : (farOf s f).cfg = some c)
    (hq : (farOf s f).queue = a :: r) (hold : ∀ b, b ∈ r → a.at_ ≤ b.at_) :
    farLate f s = farHeadEnd (untilMono s (a.at_ + farTimeoutNs c)) f (.lost true) := by
  simp [farLate, hc, hq, foldl_oldest hold]

/-! ## FAR_RESEND, FAR_RESPONSE_RECEIVE and FAR_DISCARD_END (R233, R234, R236) -/

section

variable {s : State} {f : Nat} {x : FarTxn} {a : FarAcc} {r : List FarAcc} {m : FarResp}

theorem resend_issues {c : FarCfg} (hc : (farOf s f).cfg = some c) (hx : (farOf s f).txn = some x) (hn : x.resends < 3)
    (hup : farPortUp s c = true) :
    let u := untilMono s (x.at_ + max 10000 (farTimeoutNs c / 4))
    resend f s = farIssue (putFar u f { farOf s f with txn := some { x with resends := x.resends + 1, at_ := u.mono } }) c x := by
  simp [resend, hc, hx, Nat.not_le.2 hn, hup]

/-- An access with the answer to its open request taken. -/
def answered (a : FarAcc) (x : FarTxn) (m : FarResp) : FarAcc :=
  { a with answered := a.answered + x.len, got := a.got ++ (if x.isRead then m.data.take x.len else []) }

/-- A target with its open transaction answered, and a queue. -/
def afterAnswer (y : FarTarget) (m : FarResp) (q : List FarAcc) : FarTarget :=
  { y with lastStatus := m.status, txn := none, queue := q }

theorem responseReceive_foreign (hx : (farOf s f).txn = some x) (hq : (farOf s f).queue = a :: r)
    (hm : answers x m = false) : responseReceive f m s = farErr s f 3 := by
  simp [responseReceive, hx, hq, hm]

theorem responseReceive_failed (hx : (farOf s f).txn = some x) (hq : (farOf s f).queue = a :: r)
    (hm : answers x m = true) (hs : m.status ≠ 0) : responseReceive f m s
      = farEnd (putFar s f (afterAnswer (farOf s f) m r)) f (answered a x m) (.status m.status) := by
  simp [responseReceive, hx, hq, hm, hs, afterAnswer, answered]

theorem responseReceive_last (hx : (farOf s f).txn = some x) (hq : (farOf s f).queue = a :: r)
    (hm : answers x m = true) (hs : m.status = 0) (hl : a.len ≤ a.answered + x.len) : responseReceive f m s
      = farEnd (putFar s f (afterAnswer (farOf s f) m r)) f (answered a x m) .ok := by
  simp [responseReceive, hx, hq, hm, hs, hl, afterAnswer, answered]

theorem responseReceive_part (hx : (farOf s f).txn = some x) (hq : (farOf s f).queue = a :: r)
    (hm : answers x m = true) (hs : m.status = 0) (hl : a.answered + x.len < a.len) : responseReceive f m s
      = putFar s f (afterAnswer (farOf s f) m (answered a x m :: r)) := by
  simp [responseReceive, hx, hq, hm, hs, Nat.not_le.2 hl, afterAnswer, answered]

theorem farEnd_command_ok {h : Hcp} (u : State) (hh : a.hcp = some h) (hr : a.isRead = true) :
    farEnd u f a .ok = respond u h 0x080A .ok 0 a.got := by
  unfold farEnd
  rw [hh, hr]
  rfl

theorem farEnd_command_failed {h : Hcp} (u : State) (n : Nat) (hh : a.hcp = some h) :
    farEnd u f a (.status n) = respond u h (if a.isRead then 0x080A else 0x080B) .refused (0x0400 + n) [] := by
  unfold farEnd
  rw [hh]
  rfl

theorem answers_iff (x : FarTxn) (m : FarResp) : answers x m = true ↔ (x.tag = m.tag ∧ m.op = if x.isRead then 0x81 else 0x82)
    ∧ (x.isRead = true → m.status = 0 → m.len = x.len ∧ x.len ≤ m.data.length) := by
  cases hr : x.isRead <;> by_cases hs : m.status = 0 <;> simp [answers, hr, hs]

end

theorem discardEnd_frees {s : State} {f g u : Nat} (hg : tget 0 (farOf s f).reserved g = u + 1) :
    discardEnd f g s = putFar (untilMono s u) f { farOf s f with reserved := tset 0 (farOf s f).reserved g 0 } := by
  simp [discardEnd, hg]

/-- Settles O44: each clause is the lemma above on its instruction; a request to an SG port through the frame that Brine holds
for one egress, a timeout through what logging a failure leaves of its target. -/
theorem farAccessesAreQueuedSentAndAnswered : Obligations.FarAccessesAreQueuedSentAndAnswered := by
  unfold Obligations.FarAccessesAreQueuedSentAndAnswered
  refine ⟨?_, ?_, ?_, farPut_queues, ?_, ?_, ?_, ?_, ?_, ?_, ?_, ?_⟩
  · intro h s f c ha hf hq
    refine ⟨fun x i hx hbad => ?_, targetSet_taken ha hf hq⟩
    subst hx
    exact targetSet_refused f ha hbad
  · intro h s f a n c hright hf hc hup
    refine ⟨fun ha hn => ⟨fun hsize => ?_, fun hsize => ?_⟩, fun d ha hd hn => ?_⟩
    · rw [exec_farRead a n ha, farCommand_queues true [] hright hf hc hup hn hsize, conclude_wait]
    · rw [exec_farRead a n ha, farCommand_unmapped true [] hright hf hc hn hsize, conclude_fails]
    · subst hd
      refine ⟨fun hsize => ?_, fun hsize => ?_⟩
      · rw [exec_farWrite a d ha, farCommand_queues false d hright hf hc hup hn hsize, conclude_wait]
      · rw [exec_farWrite a d ha, farCommand_unmapped false d hright hf hc hn hsize, conclude_fails]
  · intro s f a n c hf hc hup
    refine ⟨fun hlow hhigh hblock hsize hheld => ?_, fun hbad => ?_, fun d hd hn hsize => ?_⟩
    · exact congrArg Host.Outcome.next (hostRead_queues hf hc hup hlow hhigh hblock hsize hheld)
    · exact ⟨_, congrArg Host.Outcome.next (hostRead_rejected hf hc hbad), farReject_effect s f 1⟩
    · subst hd
      exact congrArg Host.Outcome.next (hostWrite_queues hf hc hup hn hsize)
  · intro s f c a r hc ht hup hnext hlen hdue
    refine ⟨fun hroom => congrArg Host.Outcome.next (requestSend_waits hc ht hup hnext hroom), fun hroom => ?_⟩
    refine ⟨_, _, _, congrArg Host.Outcome.next (requestSend_issues hc ht hup hnext hlen hdue hroom), rfl, rfl, rfl, rfl, rfl, rfl,
      rfl, freeTag_lt .., ?_, ?_, fun j hj => farOf_putFar_other _ _ hj, rfl, rfl, rfl⟩
    · rw [farOf_putFar_self]; rfl
    · rw [farOf_putFar_self]; rfl
  · intro x a r hq
    exact ⟨farNext_head hq, fun b hs ha hb => farNext_passes hq hs ha hb⟩
  · intro u c x hp
    exact farIssue_queued x hp
  · intro s f c x hc hx hn hup
    refine ⟨_, congrArg Host.Outcome.next (resend_issues hc hx hn hup), untilMono_mono .., ?_, ?_, fun j hj => ?_⟩
    · rw [farOf_putFar_self]; rfl
    · rw [farOf_putFar_self]
    · rw [farOf_putFar_other _ _ hj, farOf_untilMono]
  · intro s f x a r m hx hq
    refine ⟨fun hm hs => ⟨fun hl => ?_, fun h hh hr hxr hl => ?_⟩, fun hm hs h hh => ?_, fun hm => ?_⟩
    · refine ⟨_, answered a x m, congrArg Host.Outcome.next (responseReceive_part hx hq hm hs hl), ?_, ?_, rfl, rfl⟩
      · rw [farOf_putFar_self]; rfl
      · rw [farOf_putFar_self]; rfl
    · refine ⟨putFar s f (afterAnswer (farOf s f) m r), congrArg Host.Outcome.next ?_, ?_, ?_⟩
      · rw [responseReceive_last hx hq hm hs hl, farEnd_command_ok (a := answered a x m) _ hh hr, answered, if_pos hxr]
      · rw [farOf_putFar_self]; rfl
      · rw [farOf_putFar_self]; rfl
    · refine ⟨putFar s f (afterAnswer (farOf s f) m r), congrArg Host.Outcome.next ?_, ?_, ?_⟩
      · rw [responseReceive_failed hx hq hm hs, farEnd_command_failed (a := answered a x m) _ _ hh]; rfl
      · rw [farOf_putFar_self]; rfl
      · rw [farOf_putFar_self]; rfl
    · exact ⟨_, congrArg Host.Outcome.next (responseReceive_foreign hx hq hm), farOf_farErr s f 3⟩
  · intro x m hm
    obtain ⟨⟨htag, hop⟩, hread⟩ := (answers_iff x m).1 hm
    exact ⟨htag.symm, hop, hread⟩
  · intro s f c a r hc hq hold
    have hhead := farHeadEnd_timedOut (s := untilMono s (a.at_ + farTimeoutNs c)) (f := f) (c := c) (a := a) (r := r)
      (by rwa [farOf_untilMono]) (by rwa [farOf_untilMono])
    obtain ⟨hmono, hbit, hqueue, htxn, hreserved⟩ := hhead
    refine ⟨_, congrArg Host.Outcome.next (farLate_head hc hq hold), hqueue, htxn, hbit, ?_, fun x hx => ?_⟩
    · rw [hmono, untilMono_mono]
    · rw [hreserved x (by rwa [farOf_untilMono]), hmono]
  · intro s f g u hg
    refine ⟨_, congrArg Host.Outcome.next (discardEnd_frees hg), ?_, untilMono_mono .., fun j hj => ?_⟩
    · rw [farOf_putFar_self, tget_tset_self]
    · rw [farOf_putFar_other _ _ hj, farOf_untilMono]

end Sys2Proof.Proofs
end

section
/-! SUPPORT. The map of the legacy bridge and the MVB: entries that come into force, what the master sends, frames received and the fields
they bring to the store. -/

namespace Sys2Proof.Proofs

open Sys2Proof Sys2Proof.Machine

/-! ## What the store and the map are read from -/

theorem pdVar_congr {s u : State} (h : u.lgb.vars = s.lgb.vars) (v : Nat) : pdVar u v = pdVar s v := by
  rw [pdVar, h, pdVar]

theorem pdBlocked_congr {s u : State} (hg : u.glob = s.glob) (hv : u.lgb.vars = s.lgb.vars) (v : Nat) :
    pdBlocked u v = pdBlocked s v := by
  rw [pdBlocked, pdBlocked, poisoned, poisoned, hg, pdVar_congr hv]

theorem liveMap_congr {s u : State} (hg : u.glob = s.glob) (hm : u.lgb.map = s.lgb.map) : liveMap u = liveMap s := by
  simp only [liveMap, entryPoisoned, poisonedWord, hg, hm]

theorem mapApplied_congr {s u : State} (hm : u.mono = s.mono) (hv : u.lgb.vars = s.lgb.vars) (b : Bus) (r : MapRec) :
    mapApplied u b r = mapApplied s b r := by
  simp only [mapApplied, hm, pdVar_congr hv]

/-! ## Map entries coming into force (R230) -/

theorem mapApplied_first {u : State} {b : Bus} {r : MapRec} (hn : r.next = none) (hb : r.entry.bus = b)
    (ha : r.applied = false) : mapApplied u b r = { r with applied := true, pubAt := u.mono, busAt := u.mono } := by
  simp [mapApplied, hn, hb, ha]

theorem mapApplied_next {u : State} {b : Bus} {r : MapRec} {e : MapEntry} (hn : r.next = some e) (hb : e.bus = b) :
    (mapApplied u b r).entry = e ∧ (mapApplied u b r).applied = true ∧ (mapApplied u b r).superseded = 0 := by
  simp [mapApplied, hn, hb]

/-- Stale timeouts taken anew change the variables' timeouts alone. -/
theorem setTimeouts_form (l : List Nat) (s : State) : ∃ vars, l.foldl setTimeout s = { s with lgb := { s.lgb with vars := vars } }
    ∧ ∀ v, ∃ m, tget {} vars v = { pdVar s v with timeout := m } := by
  induction l generalizing s with
  | nil => exact ⟨s.lgb.vars, rfl, fun v => ⟨_, rfl⟩⟩
  | cons a r ih =>
    have hfirst : ∀ v, ∃ m, pdVar (setTimeout s a) v = { pdVar s v with timeout := m } := fun v => by
      by_cases h : v = a
      · exact ⟨_, by rw [h, setTimeout, pdVar_putVar_self]⟩
      · exact ⟨_, by rw [setTimeout, pdVar_putVar_other _ _ h]⟩
    obtain ⟨vars, hform, hvars⟩ := ih (setTimeout s a)
    refine ⟨vars, hform, fun v => ?_⟩
    obtain ⟨m, hm⟩ := hvars v
    obtain ⟨m', hm'⟩ := hfirst v
    exact ⟨m, by rw [hm, hm']⟩

theorem applyMap_form (s : State) (b : Bus) : ∃ vars, applyMap s b
      = { s with lgb := { s.lgb with vars := vars, map := tmap none s.lgb.map fun _ o => o.map (mapApplied s b) } }
    ∧ ∀ v, ∃ m, tget {} vars v = { pdVar s v with timeout := m } :=
  setTimeouts_form _ _

/-! ## MVB (R227, R233) -/

theorem mvbSends_form (s : State) (n : Nat) (xs : List Sent) : ∃ c,
    mvbSends s n xs = { s with ports := { s.ports with counters := c }, wire := s.wire ++ xs } := by
  unfold mvbSends
  induction xs generalizing s with
  | nil => exact ⟨s.ports.counters, by rw [List.append_nil]; rfl⟩
  | cons x r ih =>
    obtain ⟨c, hc⟩ := countSent_counters s (88 + n) 2 false false
    obtain ⟨d, hd⟩ := ih (emit (countSent s (88 + n) 2 false) x)
    refine ⟨d, ?_⟩
    rw [List.foldl_cons, hd, hc]
    simp [emit]

@[simp] theorem mvbOf_untilMono (s : State) (m n : Nat) : mvbOf (untilMono s m) n = mvbOf s n := by simp [mvbOf]

theorem mvbSends_effect (s : State) (n : Nat) (xs : List Sent) :
    (mvbSends s n xs).lgb = s.lgb ∧ (mvbSends s n xs).wire = s.wire ++ xs := by
  obtain ⟨c, hc⟩ := mvbSends_form s n xs
  rw [hc]
  exact ⟨rfl, rfl⟩

/-- What the master sends in a basic period: what is due, and at the macrocycle's end the offer of mastership. -/
def masterSends (p : MvbPort) (n : Nat) : List Sent :=
  (mvbDue p p.cycle).map (fun f => .mvbPoll (88 + n) f.addr)
    ++ if (p.cycle + 1) * p.basicUs % 1024000 = 0 then (nextAdmin p).toList.map fun a => .mvbOffer (88 + n) a else []

/-- The port after a basic period in which nothing was heard. -/
def afterPeriod (p : MvbPort) (mono : Nat) : MvbPort :=
  { p with cycle := p.cycle + 1, at_ := mono, master := p.administrator }

theorem macrocycle_unheard {s : State} {n : Nat} (h : mvbRuns s n = true) :
    let u := untilMono s ((mvbOf s n).at_ + (mvbOf s n).basicUs * 1000)
    let v := applyMap (putMvb u n (afterPeriod (mvbOf s n) u.mono)) (.mvb n)
    macrocycle n [] s
      = if (mvbOf s n).administrator && (mvbOf s n).master then mvbSends v n (masterSends (mvbOf s n) n) else v := by
  simp only [macrocycle, h, mvbOf_untilMono, masterSends, afterPeriod, Bool.not_true, Bool.false_eq_true, if_false,
    List.isEmpty_nil, Bool.or_true, Bool.and_true, List.foldl_nil, decide_eq_true_eq]

/-- A basic period in which nothing is heard: time, the port, the entries that come into force with their timeouts, what the
master sends. -/
theorem macrocycle_form {s : State} {n : Nat} (h : mvbRuns s n = true) :
    let u := untilMono s ((mvbOf s n).at_ + (mvbOf s n).basicUs * 1000)
    ∃ vars c, macrocycle n [] s = { u with
      lgb := { u.lgb with
        vars := vars, map := tmap none s.lgb.map fun _ o => o.map (mapApplied u (.mvb n))
        mvb := tset {} s.lgb.mvb n (afterPeriod (mvbOf s n) u.mono) }
      ports := { u.ports with counters := c }
      wire := s.wire ++ if (mvbOf s n).administrator && (mvbOf s n).master then masterSends (mvbOf s n) n else [] }
    ∧ ∀ v, ∃ m, tget {} vars v = { pdVar s v with timeout := m } := by
  intro u
  have hlgb : u.lgb = s.lgb := by simp [u]
  have hwire : u.wire = s.wire := by simp [u]
  obtain ⟨vars, hform, hvars⟩ := applyMap_form (putMvb u n (afterPeriod (mvbOf s n) u.mono)) (.mvb n)
  have hmap : mapApplied (putMvb u n (afterPeriod (mvbOf s n) u.mono)) (.mvb n) = mapApplied u (.mvb n) :=
    funext fun r => mapApplied_congr rfl rfl _ r
  have hkept : ∀ v, ∃ m, tget {} vars v = { pdVar s v with timeout := m } := fun v => by
    rw [← pdVar_congr (congrArg Lgb.vars hlgb) v]
    exact hvars v
  rw [macrocycle_unheard h, hform, hmap]
  by_cases hm : ((mvbOf s n).administrator && (mvbOf s n).master) = true
  · obtain ⟨c, hc⟩ := mvbSends_form _ n (masterSends (mvbOf s n) n)
    refine ⟨vars, c, ?_, hkept⟩
    rw [if_pos hm, if_pos hm, hc, ← hlgb, ← hwire]
    rfl
  · refine ⟨vars, u.ports.counters, ?_, hkept⟩
    rw [if_neg hm, if_neg hm, List.append_nil, ← hlgb, ← hwire]
    rfl

/-- A far response, a status and the three messages about mastership, on a bus that runs. -/
theorem mvbReceive_status {s : State} {n : Nat} (h : mvbRuns s n = true) (d : Nat) (w : BitVec 16) :
    mvbReceive n (.status d w) s = putMvb s n { mvbOf s n with devStatus := tset 0 (mvbOf s n).devStatus d w } := by
  simp [mvbReceive, h]

theorem mvbReceive_far {s : State} {n g : Nat} (h : mvbRuns s n = true)
    (hg : ((farOf s g).cfg.any fun c => c.port == 88 + n) = true) (r : FarResp) :
    mvbReceive n (.far g r) s = responseReceive g r s := by
  simp [mvbReceive, h, hg]

theorem mvbReceive_statusRequest {s : State} {n : Nat} (h : mvbRuns s n = true) :
    mvbReceive n (.statusRequest (mvbOf s n).device) s
      = mvbSends (draw s).2 n [.mvbStatus (88 + n) (mvbOf s n).device (BitVec.ofNat 16 (draw s).1)] := by
  simp [mvbReceive, h]

theorem mvbReceive_offer {s : State} {n : Nat} (h : mvbRuns s n = true) (ha : (mvbOf s n).administrator = true) :
    mvbReceive n (.offer (mvbOf s n).device) s
      = mvbSends (putMvb s n { mvbOf s n with master := true }) n [.mvbAccept (88 + n) (mvbOf s n).device] := by
  simp [mvbReceive, h, ha]

/-- A message for another device: a request and an offer are not this one's, an acceptance ends its mastership. -/
theorem mvbReceive_other {s : State} {n d : Nat} (h : mvbRuns s n = true) (hd : d ≠ (mvbOf s n).device) :
    mvbReceive n (.statusRequest d) s = s ∧ mvbReceive n (.offer d) s = s
      ∧ mvbReceive n (.accept d) s = putMvb s n { mvbOf s n with master := false } := by
  simp [mvbReceive, h, hd]

theorem mvbReceive_stopped {s : State} {n : Nat} (h : mvbRuns s n = false) (f : MvbFrame) (l : List BusData) :
    mvbReceive n f s = s ∧ macrocycle n l s = s := by
  simp [mvbReceive, macrocycle, h]

theorem mvbReceive_unheard {s : State} {n : Nat} {a : BusData} (h : mvbRuns s n = true)
    (ha : lineHears (mvbOf s n).lineB a = false) :
    mvbReceive n (.process a) s = putMvb s n { mvbOf s n with lineB := lineAfter (mvbOf s n).lineB a } := by
  simp [mvbReceive, mvbData, h, ha]

/-! ## Process data of a bus (R223, R225) -/

/-- A value that finds no poisoned word is committed, and no other variable changes. -/
theorem pdCommit_commits {s : State} {v : Nat} (h : pdBlocked s v = false) (x : Bytes) :
    pdVar (pdCommit s v x) v = { pdVar s v with
      value := x, seq := (pdVar s v).seq + 1, at_ := s.mono, stale := s.glob.degraded && pdFed (pdVar s v).writer, agePans := 0 }
    ∧ ∀ w, w ≠ v → pdVar (pdCommit s v x) w = pdVar s w := by
  simp only [pdCommit, h, Bool.false_eq_true, if_false]
  exact ⟨pdVar_putVar_self .., fun w hw => pdVar_putVar_other _ _ hw⟩

/-- Blocked or not, a write of one variable keeps the others and the rest of the bridge. -/
theorem pdCommit_form (s : State) (v : Nat) (x : Bytes) :
    (pdCommit s v x).lgb.wtb = s.lgb.wtb ∧ ∀ w, w ≠ v → pdVar (pdCommit s v x) w = pdVar s w := by
  cases h : pdBlocked s v with
  | false =>
    refine ⟨?_, (pdCommit_commits h x).2⟩
    simp only [pdCommit, h, Bool.false_eq_true, if_false]
    rfl
  | true =>
    have hlgb : (uncorrectable s 7 (Config.pdTail v)).lgb = s.lgb := by simp
    simp only [pdCommit, h, if_true]
    exact ⟨congrArg Lgb.wtb hlgb, fun w _ => pdVar_congr (congrArg Lgb.vars hlgb) w⟩

theorem pdMismatch_lgb (s : State) (v : Nat) (w : Writer) :
    (pdMismatch s v w).lgb = { s.lgb with mismatch := s.lgb.mismatch + 1 } := by
  simp [pdMismatch]

theorem takeField_owned {s : State} {d v : Bytes} {k : Nat} {e : MapEntry} (hf : fieldGet d e.bitOffset e.bitLen = some v)
    (hw : (pdVar s e.var).writer = some (.legacyBus e.bus (k % 4096))) :
    takeField s d k e = pdCommit s e.var (bytesAt v 0 (pdVar s e.var).len) := by
  simp [takeField, hf, hw]

/-- What another party's field leaves: its counts, with the variables and the WTB node as they were. -/
theorem takeField_foreign {s : State} {d v : Bytes} {k : Nat} {e : MapEntry} (hf : fieldGet d e.bitOffset e.bitLen = some v)
    (hw : (pdVar s e.var).writer ≠ some (.legacyBus e.bus (k % 4096))) :
    (takeField s d k e).lgb.vars = s.lgb.vars ∧ (takeField s d k e).lgb.wtb = s.lgb.wtb
    ∧ (takeField s d k e).lgb.mismatch = s.lgb.mismatch + 1
    ∧ ∀ n, e.bus = .mvb n → (mvbOf (takeField s d k e) n).mismatch = sat32 ((mvbOf s n).mismatch + 1) := by
  simp only [takeField, hf, if_neg hw, pdMismatch_lgb, mvbOf]
  cases hb : e.bus with
  | mvb n =>
    refine ⟨rfl, rfl, rfl, fun m hm => ?_⟩
    obtain rfl : n = m := Bus.mvb.inj hm
    change (tget {} (tmod {} s.lgb.mvb n fun p => { p with mismatch := sat32 (p.mismatch + 1) }) n).mismatch = _
    rw [tget_tmod_self]
  | wtb => exact ⟨rfl, rfl, rfl, fun m hm => by cases hm⟩

/-- Whatever a port's data holds, the WTB node stays, and every variable that is not the bus's. -/
theorem takeField_keeps (s : State) (d : Bytes) (k : Nat) (e : MapEntry) : (takeField s d k e).lgb.wtb = s.lgb.wtb
    ∧ ∀ v, (∀ i, (pdVar s v).writer ≠ some (.legacyBus e.bus i)) → pdVar (takeField s d k e) v = pdVar s v := by
  cases hf : fieldGet d e.bitOffset e.bitLen with
  | none => simp [takeField, hf]
  | some x =>
    by_cases hw : (pdVar s e.var).writer = some (.legacyBus e.bus (k % 4096))
    · obtain ⟨hwtb, hvars⟩ := pdCommit_form s e.var (bytesAt x 0 (pdVar s e.var).len)
      rw [takeField_owned hf hw]
      exact ⟨hwtb, fun v hv => hvars v fun hve => hv (k % 4096) (hve ▸ hw)⟩
    · obtain ⟨hvars, hwtb, -⟩ := takeField_foreign hf hw
      exact ⟨hwtb, fun v _ => pdVar_congr hvars v⟩

theorem busData_keeps (s : State) (b : Bus) (x : BusData) : (busData s b x).lgb.wtb = s.lgb.wtb
    ∧ ∀ v, (∀ i, (pdVar s v).writer ≠ some (.legacyBus b i)) → pdVar (busData s b x) v = pdVar s v := by
  unfold busData
  generalize liveMap s = l
  induction l generalizing s with
  | nil => exact ⟨rfl, fun v _ => rfl⟩
  | cons e r ih =>
    rw [List.foldl_cons]
    split
    next h =>
      obtain ⟨⟨hb, -⟩, -⟩ : (e.2.entry.bus = b ∧ e.2.entry.source = true) ∧ e.2.entry.busAddr = x.addr := by simpa using h
      obtain ⟨hwtb, hvars⟩ := takeField_keeps s x.data e.1 e.2.entry
      obtain ⟨ihwtb, ihvars⟩ := ih (takeField s x.data e.1 e.2.entry)
      refine ⟨ihwtb.trans hwtb, fun v hv => ?_⟩
      have hsame := hvars v (by rwa [hb])
      rw [ihvars v (by rwa [hsame]), hsame]
    next => exact ih s

/-- One source entry in force takes its field. -/
theorem busData_one {s : State} {b : Bus} {x : BusData} {k : Nat} {r : MapRec} (hl : liveMap s = [(k, r)])
    (hb : r.entry.bus = b) (hs : r.entry.source = true) (ha : r.entry.busAddr = x.addr) :
    busData s b x = takeField s x.data k r.entry := by
  simp [busData, hl, hb, hs, ha]

/-- The state in which a heard frame reaches the map entries. -/
def heardFrame (s : State) (n : Nat) (a : BusData) : State :=
  countGot (putMvb s n { mvbOf s n with lineB := lineAfter (mvbOf s n).lineB a }) (88 + n) a.data.length false

theorem mvbReceive_heard {s : State} {n : Nat} {a : BusData} (h : mvbRuns s n = true)
    (ha : lineHears (mvbOf s n).lineB a = true) :
    mvbReceive n (.process a) s = busData (heardFrame s n a) (.mvb n) a := by
  simp [mvbReceive, mvbData, h, ha, heardFrame]

theorem heardFrame_form (s : State) (n : Nat) (a : BusData) : ∃ c, heardFrame s n a
    = { putMvb s n { mvbOf s n with lineB := lineAfter (mvbOf s n).lineB a } with ports := { s.ports with counters := c } } :=
  countGot_counters ..

theorem heardFrame_port (s : State) (n : Nat) (a : BusData) :
    mvbOf (heardFrame s n a) n = { mvbOf s n with lineB := lineAfter (mvbOf s n).lineB a } := by
  obtain ⟨c, hc⟩ := heardFrame_form s n a
  rw [hc]
  exact tget_tset_self ..

section

variable {s : State} {n : Nat} {a : BusData} {k : Nat} {r : MapRec} {v : Bytes}

theorem mvbReceive_one (h : mvbRuns s n = true) (ha : lineHears (mvbOf s n).lineB a = true) (hl : liveMap s = [(k, r)])
    (hb : r.entry.bus = .mvb n) (hs : r.entry.source = true) (haddr : r.entry.busAddr = a.addr) :
    mvbReceive n (.process a) s = takeField (heardFrame s n a) a.data k r.entry := by
  obtain ⟨c, hc⟩ := heardFrame_form s n a
  have hlive : liveMap (heardFrame s n a) = [(k, r)] := (liveMap_congr (by rw [hc]; rfl) (by rw [hc]; rfl)).trans hl
  rw [mvbReceive_heard h ha, busData_one hlive hb hs haddr]

/-- A heard frame's field is committed where its entry is the writer. -/
theorem mvbReceive_commits (h : mvbRuns s n = true) (ha : lineHears (mvbOf s n).lineB a = true) (hl : liveMap s = [(k, r)])
    (hb : r.entry.bus = .mvb n) (hs : r.entry.source = true) (haddr : r.entry.busAddr = a.addr)
    (hf : fieldGet a.data r.entry.bitOffset r.entry.bitLen = some v)
    (hw : (pdVar s r.entry.var).writer = some (.legacyBus (.mvb n) (k % 4096))) (hp : pdBlocked s r.entry.var = false) :
    pdVar (mvbReceive n (.process a) s) r.entry.var = { pdVar s r.entry.var with
      value := bytesAt v 0 (pdVar s r.entry.var).len, seq := (pdVar s r.entry.var).seq + 1, at_ := s.mono
      stale := s.glob.degraded, agePans := 0 }
    ∧ ∀ w, w ≠ r.entry.var → pdVar (mvbReceive n (.process a) s) w = pdVar s w := by
  obtain ⟨c, hc⟩ := heardFrame_form s n a
  have hglob : (heardFrame s n a).glob = s.glob := by rw [hc]; rfl
  have hmono : (heardFrame s n a).mono = s.mono := by rw [hc]; rfl
  have hvars : (heardFrame s n a).lgb.vars = s.lgb.vars := by rw [hc]; rfl
  obtain ⟨hself, hother⟩ := pdCommit_commits ((pdBlocked_congr hglob hvars r.entry.var).trans hp)
    (bytesAt v 0 (pdVar s r.entry.var).len)
  rw [mvbReceive_one h ha hl hb hs haddr, takeField_owned hf (by rw [pdVar_congr hvars, hb, hw]), pdVar_congr hvars]
  refine ⟨?_, fun w hne => (hother w hne).trans (pdVar_congr hvars w)⟩
  rw [hself, pdVar_congr hvars, hmono, hglob, hw]
  simp [pdFed]

/-- Another party's field is counted, at the store and at the port. -/
theorem mvbReceive_mismatch (h : mvbRuns s n = true) (ha : lineHears (mvbOf s n).lineB a = true) (hl : liveMap s = [(k, r)])
    (hb : r.entry.bus = .mvb n) (hs : r.entry.source = true) (haddr : r.entry.busAddr = a.addr)
    (hf : fieldGet a.data r.entry.bitOffset r.entry.bitLen = some v)
    (hw : (pdVar s r.entry.var).writer ≠ some (.legacyBus (.mvb n) (k % 4096))) :
    (mvbReceive n (.process a) s).lgb.vars = s.lgb.vars
    ∧ (mvbReceive n (.process a) s).lgb.mismatch = s.lgb.mismatch + 1
    ∧ (mvbOf (mvbReceive n (.process a) s) n).mismatch = sat32 ((mvbOf s n).mismatch + 1) := by
  obtain ⟨c, hc⟩ := heardFrame_form s n a
  have hvars : (heardFrame s n a).lgb.vars = s.lgb.vars := by rw [hc]; rfl
  have hcount : (heardFrame s n a).lgb.mismatch = s.lgb.mismatch := by rw [hc]; rfl
  have hport : (mvbOf (heardFrame s n a) n).mismatch = (mvbOf s n).mismatch := by rw [heardFrame_port]
  obtain ⟨hkept, -, hstore, hmvb⟩ := takeField_foreign (s := heardFrame s n a) (d := a.data) (k := k) hf
    (by rw [pdVar_congr hvars, hb]; exact hw)
  rw [mvbReceive_one h ha hl hb hs haddr]
  exact ⟨hkept.trans hvars, hstore.trans (by rw [hcount]), (hmvb n hb).trans (by rw [hport])⟩

end

end Sys2Proof.Proofs
end

section
/-! SUPPORT. The WTB and TRDP: inauguration, process data of the nodes, datasets sent and received. -/

namespace Sys2Proof.Proofs

open Sys2Proof Sys2Proof.Machine

/-! ## WTB (R228) -/

/-- The node after an inauguration. -/
def inaugurated (w : WtbNode) (o : WtbOutcome) (nodes : List Int) : WtbNode :=
  let master := o.master && w.role != .slave && !(w.role == .weak && o.strong)
  { w with
    inaugurated := true, master := master, inForce := if master || o.periodMs == 0 then w.periodMs else o.periodMs, rx := []
    nodes := nodes.filter fun n => decide (-31 ≤ n ∧ n ≤ 31) }

theorem wtbInaug_runs {s : State} (o : WtbOutcome) (nodes : List Int) (hr : s.glob.fwReady = true)
    (hl : linkIsUp s 92 = true ∨ linkIsUp s 93 = true) :
    wtbInaug o nodes s = putWtb s (inaugurated s.lgb.wtb o nodes) := by
  have hruns : (!s.glob.fwReady || !(linkIsUp s 92 || linkIsUp s 93)) = false := by
    rcases hl with h | h <;> simp [hr, h]
  simp only [wtbInaug, hruns, Bool.false_eq_true, if_false, inaugurated]

theorem inaugurated_master (w : WtbNode) (o : WtbOutcome) (nodes : List Int) : (inaugurated w o nodes).master = true
    ↔ o.master = true ∧ w.role ≠ .slave ∧ (w.role = .weak → o.strong = false) := by
  simp [inaugurated, and_assoc, imp_iff_not_or]

/-- The node once the data of another, heard on its line, is kept. -/
def afterNode (w : WtbNode) (x : BusData) : WtbNode :=
  let b := if x.addr < 0 then w.lineB1 else w.lineB2
  let w := if x.addr < 0 then { w with lineB1 := lineAfter b x } else { w with lineB2 := lineAfter b x }
  { w with rx := (x.addr, x.data) :: w.rx.filter fun e => e.1 != x.addr }

theorem afterNode_rx (w : WtbNode) (x : BusData) :
    (afterNode w x).rx = (x.addr, x.data) :: w.rx.filter (fun e => e.1 != x.addr) := by
  unfold afterNode
  dsimp only
  split <;> rfl

section

variable {s : State} {x : BusData}

theorem wtbReceive_heard (hi : s.lgb.wtb.inaugurated = true) (hn : x.addr ∈ s.lgb.wtb.nodes) (hd : x.data.length ≤ 128)
    (hl : linkIsUp s (wtbPort x.addr) = true)
    (hh : lineHears (if x.addr < 0 then s.lgb.wtb.lineB1 else s.lgb.wtb.lineB2) x = true) : wtbReceive s x
      = busData (putWtb (countGot s (wtbPort x.addr) x.data.length false) (afterNode s.lgb.wtb x)) .wtb x := by
  simp only [wtbReceive, hi, List.contains_iff_mem.2 hn, hd, hl, hh, decide_true, Bool.and_self, if_true, Bool.not_true,
    Bool.false_eq_true, if_false, afterNode]

/-- Data of a present node, heard on the line listened to, is kept; the variables of other writers stay. -/
theorem wtbReceive_keeps (hi : s.lgb.wtb.inaugurated = true) (hn : x.addr ∈ s.lgb.wtb.nodes) (hd : x.data.length ≤ 128)
    (hl : linkIsUp s (wtbPort x.addr) = true)
    (hh : lineHears (if x.addr < 0 then s.lgb.wtb.lineB1 else s.lgb.wtb.lineB2) x = true) :
    (wtbReceive s x).lgb.wtb.rx = (x.addr, x.data) :: s.lgb.wtb.rx.filter (fun e => e.1 != x.addr)
    ∧ ∀ v, (∀ i, (pdVar s v).writer ≠ some (.legacyBus .wtb i)) → pdVar (wtbReceive s x) v = pdVar s v := by
  obtain ⟨hwtb, hvars⟩ := busData_keeps
    (putWtb (countGot s (wtbPort x.addr) x.data.length false) (afterNode s.lgb.wtb x)) .wtb x
  have hsame : ∀ v, pdVar (putWtb (countGot s (wtbPort x.addr) x.data.length false) (afterNode s.lgb.wtb x)) v = pdVar s v :=
    pdVar_congr (by simp [putWtb])
  rw [wtbReceive_heard hi hn hd hl hh]
  refine ⟨(congrArg WtbNode.rx hwtb).trans (afterNode_rx ..), fun v hv => ?_⟩
  rw [hvars v (by rwa [hsame]), hsame]

end

/-- The process data of this node counted on the sides it leaves by. -/
theorem wtbCounted_form (l : List Nat) (s : State) : ∃ c,
    l.foldl (fun s p => countSent s p s.lgb.wtb.tx.length false) s = { s with ports := { s.ports with counters := c } } := by
  induction l generalizing s with
  | nil => exact ⟨_, rfl⟩
  | cons p r ih =>
    obtain ⟨c, hc⟩ := countSent_counters s p s.lgb.wtb.tx.length false false
    obtain ⟨d, hd⟩ := ih (countSent s p s.lgb.wtb.tx.length false)
    exact ⟨d, by rw [List.foldl_cons, hd, hc]⟩

theorem wtbPeriod_unheard {s : State} (hi : s.lgb.wtb.inaugurated = true)
    (hl : linkIsUp s 92 = true ∨ linkIsUp s 93 = true) :
    let u := untilMono s (s.lgb.wtb.at_ + s.lgb.wtb.inForce * 1000000)
    let v := applyMap (putWtb u { s.lgb.wtb with at_ := u.mono }) .wtb
    wtbPeriod [] s = emit (([92, 93].filter (linkIsUp s)).foldl (fun s p => countSent s p s.lgb.wtb.tx.length false) v)
      (.wtb v.lgb.wtb.tx) := by
  have hups : ([92, 93].filter (linkIsUp s)).isEmpty = false := by
    rcases hl with h | h <;> cases h' : linkIsUp s 92 <;> simp_all
  have hlgb : (untilMono s (s.lgb.wtb.at_ + s.lgb.wtb.inForce * 1000000)).lgb = s.lgb := by simp
  simp only [wtbPeriod, hi, hups, hlgb, Bool.not_true, Bool.or_self, Bool.false_eq_true, if_false, List.foldl_nil]

/-- A period in which nothing is heard: time, the entries that come into force with their timeouts, what this node sends. -/
theorem wtbPeriod_effect {s : State} (hi : s.lgb.wtb.inaugurated = true)
    (hl : linkIsUp s 92 = true ∨ linkIsUp s 93 = true) :
    let u := untilMono s (s.lgb.wtb.at_ + s.lgb.wtb.inForce * 1000000)
    (wtbPeriod [] s).wire = s.wire ++ [.wtb s.lgb.wtb.tx] ∧ (wtbPeriod [] s).mono = u.mono
    ∧ (wtbPeriod [] s).lgb.wtb = { s.lgb.wtb with at_ := u.mono }
    ∧ ∀ v, ∃ m, pdVar (wtbPeriod [] s) v = { pdVar s v with timeout := m } := by
  intro u
  have hwire : u.wire = s.wire := by simp [u]
  have hvars : u.lgb.vars = s.lgb.vars := by simp [u]
  obtain ⟨vars, hform, htimeouts⟩ := applyMap_form (putWtb u { s.lgb.wtb with at_ := u.mono }) .wtb
  obtain ⟨c, hc⟩ := wtbCounted_form ([92, 93].filter (linkIsUp s))
    (applyMap (putWtb u { s.lgb.wtb with at_ := u.mono }) .wtb)
  have htx : (applyMap (putWtb u { s.lgb.wtb with at_ := u.mono }) .wtb).lgb.wtb.tx = s.lgb.wtb.tx := by
    rw [hform]
    rfl
  rw [wtbPeriod_unheard hi hl, htx, hc, hform]
  refine ⟨by rw [← hwire]; rfl, rfl, rfl, fun v => ?_⟩
  rw [← pdVar_congr hvars v]
  exact htimeouts v

/-! ## TRDP (R229) -/

/-- A dataset depends on the map, the store, its poison and the clocks of its variables, not on the ports' counters. -/
theorem datasetBytes_ports (s : State) (p : Ports) (c : Word) : datasetBytes { s with ports := p } c = datasetBytes s c := rfl

theorem carries_form (l : List (Nat × MapRec)) (s : State) : ∃ map,
    l.foldl (fun s e => carry s e.1) s = { s with lgb := { s.lgb with map := map } } := by
  induction l generalizing s with
  | nil => exact ⟨s.lgb.map, rfl⟩
  | cons e r ih => exact ih (carry s e.1)

theorem sendTrdp_none {s : State} {c : Word} (h : datasetBytes s c = none) (p : Option Word) : sendTrdp s c p = s := by
  simp [sendTrdp, h]

/-- A telegram leaves with this node's source and topology counter; the variables stay. -/
theorem sendTrdp_sends {s : State} {c : Word} {d : Bytes} (h : datasetBytes s c = some d) (p : Option Word) : ∃ n,
    (sendTrdp s c p).wire = s.wire ++ [.trdp
      { src := s.lgb.src, dst := p.getD (Config.trdpDest c), udp := 17224, msg := if p.isSome then 0x5070 else 0x5064, comid := c
        seq := n, etbTopo := s.ine.topo, opTopo := 0, data := d }]
    ∧ (sendTrdp s c p).lgb.vars = s.lgb.vars := by
  obtain ⟨map, hmap⟩ := carries_form (dataset s c) (countGot s 99 (trdpLen d.length) false)
  obtain ⟨k, hk⟩ := countGot_counters s 99 (trdpLen d.length) false false
  simp only [sendTrdp, h]
  rw [hmap, hk]
  exact ⟨_, rfl, rfl⟩

section

variable {s : State} {f : TrdpFrame}

/-- The state in which a frame is taken: received, it leaves the fabric at port 99. -/
def trdpCounted (s : State) (f : TrdpFrame) : State := countSent s 99 (trdpLen f.data.length) false

theorem trdpCounted_form (s : State) (f : TrdpFrame) : ∃ c,
    trdpCounted s f = { s with ports := { s.ports with counters := c } } :=
  countSent_counters ..

theorem trdpIn_otherTopo (h0 : f.etbTopo ≠ 0) (h : f.etbTopo ≠ s.ine.topo) : trdpIn f s = { trdpCounted s f with
    lgb := { (trdpCounted s f).lgb with topoDiscards := sat32 ((trdpCounted s f).lgb.topoDiscards + 1) } } := by
  obtain ⟨c, hc⟩ := trdpCounted_form s f
  exact if_pos ⟨h0, show f.etbTopo ≠ (trdpCounted s f).ine.topo by rwa [hc]⟩

theorem trdpIn_sameTopo (h : f.etbTopo = 0 ∨ f.etbTopo = s.ine.topo) : trdpIn f s
    = if f.isRequest then
        (if (dataset (trdpCounted s f) f.comid).isEmpty then trdpCounted s f
          else sendTrdp (trdpCounted s f) f.comid (some f.src))
      else if 1432 < f.data.length then trdpCounted s f
      else (subsFor (trdpCounted s f) f).foldl (fun s x => takeSub s f x) (trdpCounted s f) := by
  have htopo : ¬ (f.etbTopo ≠ 0 ∧ f.etbTopo ≠ (trdpCounted s f).ine.topo) := by
    obtain ⟨c, hc⟩ := trdpCounted_form s f
    rw [hc]
    tauto
  rw [trdpIn, ← trdpCounted, if_neg htopo]

/-- A request whose dataset is there is answered to the requester. -/
theorem trdpIn_request {b : Bytes} (h : f.etbTopo = 0 ∨ f.etbTopo = s.ine.topo) (hr : f.isRequest = true)
    (hd : dataset s f.comid ≠ []) (hb : datasetBytes s f.comid = some b) : ∃ n,
    (trdpIn f s).wire = s.wire ++ [.trdp
      { src := s.lgb.src, dst := f.src, udp := 17224, msg := 0x5070, comid := f.comid, seq := n, etbTopo := s.ine.topo
        opTopo := 0, data := b }]
    ∧ (trdpIn f s).lgb.vars = s.lgb.vars := by
  obtain ⟨c, hc⟩ := trdpCounted_form s f
  have hset : (dataset (trdpCounted s f) f.comid).isEmpty = false := by
    rw [hc]
    exact List.isEmpty_eq_false_iff.2 hd
  have hbytes : datasetBytes (trdpCounted s f) f.comid = some b := by rw [hc, datasetBytes_ports, hb]
  obtain ⟨n, hwire, hvars⟩ := sendTrdp_sends hbytes (some f.src)
  rw [trdpIn_sameTopo h, if_pos hr, hset, if_neg Bool.false_ne_true]
  rw [hwire, hvars, hc]
  exact ⟨n, rfl, rfl⟩

/-- Process data for one subscription. -/
theorem trdpIn_one {x : TrdpSub} (h : f.etbTopo = 0 ∨ f.etbTopo = s.ine.topo) (hr : f.isRequest = false)
    (hl : f.data.length ≤ 1432) (hx : subsFor s f = [x]) : trdpIn f s = takeSub (trdpCounted s f) f x := by
  obtain ⟨c, hc⟩ := trdpCounted_form s f
  have hsubs : subsFor (trdpCounted s f) f = [x] := by rw [hc]; exact hx
  rw [trdpIn_sameTopo h, if_neg (by rw [hr]; exact Bool.false_ne_true), if_neg (Nat.not_lt.2 hl), hsubs]
  rfl

theorem subsFor_one {x : TrdpSub} (h : s.lgb.subs.filter (fun y => y.comid == f.comid) = [x]) : subsFor s f = [x] := by
  simp only [subsFor, h, List.filter_cons, List.filter_nil]
  split <;> rfl

/-- Process data of the writer is committed. -/
theorem trdpIn_commits {x : TrdpSub} (h : f.etbTopo = 0 ∨ f.etbTopo = s.ine.topo) (hr : f.isRequest = false)
    (hl : f.data.length ≤ 1432) (hx : s.lgb.subs.filter (fun y => y.comid == f.comid) = [x]) (hsrc : x.src = f.src)
    (hw : (pdVar s x.var).writer = some (.trdp f.comid f.src)) (hlen : x.offset + (pdVar s x.var).len ≤ f.data.length)
    (hp : pdBlocked s x.var = false) :
    pdVar (trdpIn f s) x.var = { pdVar s x.var with
      value := bytesAt f.data x.offset (pdVar s x.var).len, seq := (pdVar s x.var).seq + 1, at_ := s.mono
      stale := s.glob.degraded, agePans := 0 }
    ∧ ∀ w, w ≠ x.var → pdVar (trdpIn f s) w = pdVar s w := by
  obtain ⟨c, hc⟩ := trdpCounted_form s f
  have hblocked : pdBlocked (trdpCounted s f) x.var = false := by rw [hc]; exact hp
  have hvar : ∀ v, pdVar (trdpCounted s f) v = pdVar s v := fun v => by rw [hc]; rfl
  have hglob : (trdpCounted s f).glob = s.glob := by rw [hc]
  have hmono : (trdpCounted s f).mono = s.mono := by rw [hc]
  obtain ⟨hself, hother⟩ := pdCommit_commits hblocked (bytesAt f.data x.offset (pdVar s x.var).len)
  have htake : takeSub (trdpCounted s f) f x
      = pdCommit (trdpCounted s f) x.var (bytesAt f.data x.offset (pdVar s x.var).len) := by
    simp [takeSub, hvar, hsrc, hw, Nat.not_lt.2 hlen]
  rw [trdpIn_one h hr hl (subsFor_one hx), htake]
  refine ⟨?_, fun w hne => (hother w hne).trans (hvar w)⟩
  rw [hself, hvar, hmono, hglob, hw]
  simp [pdFed]

/-- Process data of another party is counted. -/
theorem trdpIn_mismatch {x : TrdpSub} (h : f.etbTopo = 0 ∨ f.etbTopo = s.ine.topo) (hr : f.isRequest = false)
    (hl : f.data.length ≤ 1432) (hx : subsFor s f = [x]) (hw : (pdVar s x.var).writer ≠ some (.trdp f.comid f.src)) :
    (trdpIn f s).lgb.vars = s.lgb.vars ∧ (trdpIn f s).lgb.mismatch = s.lgb.mismatch + 1 := by
  obtain ⟨c, hc⟩ := trdpCounted_form s f
  have hvar : pdVar (trdpCounted s f) x.var = pdVar s x.var := by rw [hc]; rfl
  have htake : takeSub (trdpCounted s f) f x = pdMismatch (trdpCounted s f) x.var (.trdp f.comid f.src) := by
    simp [takeSub, hvar, hw]
  rw [trdpIn_one h hr hl hx, htake, pdMismatch_lgb, hc]
  exact ⟨rfl, rfl⟩

end

end Sys2Proof.Proofs
end

section
/-! SUPPORT. Publications and stale variables: what is written when an entry is due, and the data of an MVB port. -/

namespace Sys2Proof.Proofs

open Sys2Proof Sys2Proof.Machine

/-! ## Publications (R231) -/

section

variable {s : State} {b : Bus} {i k : Nat} {r : MapRec} {u : Nat}

theorem ethDue_untilMono (s : State) (r : MapRec) (n : Nat) : ethDue (untilMono s n) r = ethDue s r := by
  obtain ⟨m, f, x, y, h⟩ := untilMono_form s n
  rw [h]
  rfl

theorem busDue_untilMono (s : State) (r : MapRec) (n : Nat) : busDue (untilMono s n) r = busDue s r := by
  obtain ⟨m, f, x, y, h⟩ := untilMono_form s n
  rw [h]
  rfl

/-- A source entry's destination is its dataset. -/
theorem publish_source (hf : (liveMap s).find? (fun e => e.1 == mapKey b i && e.2.entry.bus == b) = some (k, r))
    (hs : r.entry.source = true) (he : ethDue s r = some u) :
    publish b i s = publishEth (untilMono s u) k r := by
  have hbus : ∀ t, busDue t r = none := fun t => if_pos hs
  simp only [publish, hf, he, hbus, sooner, ethDue_untilMono, untilMono_mono, Option.any_some, Option.any_none,
    Nat.le_max_right, decide_true, if_true, Bool.false_eq_true, if_false]

/-- The entries of a dataset published now. -/
def datasetPublished (s : State) (c : Word) : State :=
  (dataset s c).foldl (fun s e => modMap s e.1 fun r => { r with pubAt := s.mono }) s

theorem datasetPublished_form (s : State) (c : Word) : ∃ map,
    datasetPublished s c = { s with lgb := { s.lgb with map := map } } := by
  unfold datasetPublished
  generalize dataset s c = l
  induction l generalizing s with
  | nil => exact ⟨s.lgb.map, rfl⟩
  | cons e r ih => exact ih (modMap s e.1 fun r => { r with pubAt := s.mono })

theorem publish_trdp (hf : (liveMap s).find? (fun e => e.1 == mapKey b i && e.2.entry.bus == b) = some (k, r))
    (hs : r.entry.source = true) (ht : r.entry.ethKind = .trdp) (he : ethDue s r = some u) :
    publish b i s = sendTrdp (datasetPublished (untilMono s u) r.entry.comid) r.entry.comid none := by
  rw [publish_source hf hs he, publishEth, ht, datasetPublished]

theorem datasetPublished_until (s : State) (u : Nat) (c : Word) :
    (datasetPublished (untilMono s u) c).mono = max s.mono u
    ∧ (datasetPublished (untilMono s u) c).lgb.vars = s.lgb.vars ∧ (datasetPublished (untilMono s u) c).wire = s.wire := by
  obtain ⟨map, h⟩ := datasetPublished_form (untilMono s u) c
  rw [h]
  exact ⟨untilMono_mono s u, by simp, by simp⟩

/-- A sink entry without an Ethernet side is written to its bus. -/
theorem publish_sink (hf : (liveMap s).find? (fun e => e.1 == mapKey b i && e.2.entry.bus == b) = some (k, r))
    (hs : r.entry.source = false) (he : r.entry.ethKind = .none) :
    publish b i s = publishBus (untilMono s (r.busAt + busEff s r.entry)) k r := by
  have heth : ∀ t, ethDue t r = none := fun t => by simp [ethDue, he]
  have hbus : busDue s r = some (r.busAt + busEff s r.entry) := if_neg (by rw [hs]; exact Bool.false_ne_true)
  simp only [publish, hf, heth, hbus, sooner, busDue_untilMono, untilMono_mono, Option.any_some, Option.any_none,
    Nat.le_max_right, decide_true, if_true, Bool.false_eq_true, if_false]

end

/-! ## The data of an MVB port, with a map in canonical form -/

/-- With keys that rise a listed entry is the one its key reads. -/
theorem tget_listed {α : Type} {d : α} {t : Table α} {n k : Nat} {x : α} (h : tkeysFrom n t = true) (hx : (k, x) ∈ t) :
    tget d t k = x ∧ n ≤ k := by
  induction t generalizing n with
  | nil => cases hx
  | cons e r ih =>
    obtain ⟨j, a⟩ := e
    simp only [tkeysFrom, Bool.and_eq_true, decide_eq_true_eq] at h
    obtain ⟨hj, hrest⟩ := h
    rcases List.mem_cons.1 hx with heq | hmem
    · obtain ⟨rfl, rfl⟩ := Prod.mk.inj heq
      exact ⟨if_pos rfl, hj⟩
    · obtain ⟨hread, hlater⟩ := ih hrest hmem
      exact ⟨(if_neg (show ¬ j = k by omega)).trans hread, by omega⟩

/-- With keys that rise a listed key keeps its place when its entry is written. -/
theorem filterMap_tins {α β : Type} {F : Nat × Option α → Option β} {t : Table (Option α)} {n k : Nat} {x y : α}
    (h : tkeysFrom n t = true) (hx : tget none t k = some x) (hF : F (k, some y) = F (k, some x)) :
    (tins t k (some y)).filterMap F = t.filterMap F := by
  induction t generalizing n with
  | nil => cases hx
  | cons e r ih =>
    obtain ⟨j, a⟩ := e
    simp only [tkeysFrom, Bool.and_eq_true, decide_eq_true_eq] at h
    by_cases hj : j = k
    · subst hj
      obtain rfl : a = some x := (if_pos rfl).symm.trans hx
      simp [tins, List.filterMap_cons, hF]
    · have htail : tget none r k = some x := (if_neg hj).symm.trans hx
      have hlt : ¬ k < j := fun hlt => by
        rw [tget_of_tkeysFrom h.2 (by omega)] at htail
        cases htail
      simp [tins, hlt, Ne.symm hj, List.filterMap_cons, ih h.2 htail]

/-- The field that an entry of the map gives to a port of a bus this device is the source of. -/
def portField (s : State) (b : Bus) (a : Int) (e : Nat × Option MapRec) : Option MapEntry :=
  (((e.2.map fun r => (e.1, r)).filter fun e => e.2.applied && !entryPoisoned s 7 e.1).filter fun e =>
    e.2.entry.bus == b && !e.2.entry.source && e.2.entry.busAddr == a).map fun e => e.2.entry

/-- The data of a port with the fields of these entries, from what each publishes. -/
def portData (pub : MapEntry → Option Bytes) (es : List MapEntry) : Option Bytes :=
  es.foldl (fun d e =>
    match d, pub e with
    | some d, some v => some (fieldPut d e.bitOffset e.bitLen v)
    | _, _ => none)
    (some (List.replicate (mvbSize ((es.map fun e => (e.bitOffset + e.bitLen + 7) / 8).foldl max 0)) 0))

theorem mvbPortData_eq (s : State) (b : Bus) (a : Int) :
    mvbPortData s b a = portData (published s) (s.lgb.map.filterMap (portField s b a)) := by
  have hfields : s.lgb.map.filterMap (portField s b a)
      = ((liveMap s).filter fun e => e.2.entry.bus == b && !e.2.entry.source && e.2.entry.busAddr == a).map
        fun e => e.2.entry := by
    rw [liveMap, List.filter_filterMap, List.filter_filterMap, List.map_filterMap]
    rfl
  rw [hfields, portData, List.foldl_map, List.map_map]
  rfl

section

variable {s : State} {n i k : Nat} {r : MapRec} {d : Bytes}

/-- The time of a write noted in a listed entry changes no port's data. -/
theorem mvbPortData_modMap (hm : twf none s.lgb.map = true) (hr : tget none s.lgb.map k = some r) (m : Nat) (b : Bus) (a : Int) :
    mvbPortData (modMap s k fun r => { r with busAt := m }) b a = mvbPortData s b a := by
  have hmap : (modMap s k fun r => { r with busAt := m }).lgb.map = tins s.lgb.map k (some { r with busAt := m }) := by
    simp [modMap, tmod, tset, hr]
  have hfield : portField (modMap s k fun r => { r with busAt := m }) b a = portField s b a := rfl
  have hsame : portField s b a (k, some { r with busAt := m }) = portField s b a (k, some r) := by
    simp only [portField, Option.map_some, Option.filter_some]
    split
    · simp only [Option.filter_some]
      split <;> rfl
    · rfl
  have hkept := filterMap_tins (Bool.and_eq_true_iff.1 hm).1 hr hsame
  rw [mvbPortData_eq, mvbPortData_eq, hmap, hfield, hkept]
  rfl

theorem mvbPortData_untilMono (s : State) (m : Nat) (b : Bus) (a : Int) :
    mvbPortData (untilMono s m) b a = mvbPortData s b a := by
  obtain ⟨m, f, x, y, h⟩ := untilMono_form s m
  rw [h]
  rfl

/-- With a map in canonical form a sink entry's port is sent at its due instant. -/
theorem publish_port (hm : twf none s.lgb.map = true)
    (hf : (liveMap s).find? (fun e => e.1 == mapKey (.mvb n) i && e.2.entry.bus == .mvb n) = some (k, r))
    (hb : r.entry.bus = .mvb n) (hn : mvbRuns s n = true) (hs : r.entry.source = false) (he : r.entry.ethKind = .none)
    (hd : mvbPortData s (.mvb n) r.entry.busAddr = some d) :
    (publish (.mvb n) i s).wire = s.wire ++ [.mvb (88 + n) r.entry.busAddr d]
    ∧ (publish (.mvb n) i s).mono = max s.mono (r.busAt + busEff s r.entry)
    ∧ (publish (.mvb n) i s).lgb.vars = s.lgb.vars := by
  have hlisted : tget none s.lgb.map k = some r := by
    have hlive := List.mem_of_find?_eq_some hf
    simp only [liveMap, List.mem_filter, List.mem_filterMap, Option.map_eq_some_iff, Prod.mk.injEq] at hlive
    obtain ⟨⟨⟨j, o⟩, hmem, x, ho, hj, hx⟩, -⟩ := hlive
    dsimp only at ho hj
    subst ho hj hx
    exact (tget_listed (Bool.and_eq_true_iff.1 hm).1 hmem).1
  have hmono := untilMono_mono s (r.busAt + busEff s r.entry)
  have hlgb : (untilMono s (r.busAt + busEff s r.entry)).lgb = s.lgb := by simp
  have hwire : (untilMono s (r.busAt + busEff s r.entry)).wire = s.wire := by simp
  have hruns : mvbRuns (untilMono s (r.busAt + busEff s r.entry)) n = true := by simpa [mvbRuns, linkIsUp] using hn
  have hdata := mvbPortData_untilMono s (r.busAt + busEff s r.entry) (.mvb n) r.entry.busAddr
  rw [publish_sink hf hs he]
  generalize untilMono s (r.busAt + busEff s r.entry) = u at *
  have hport : mvbPortData (modMap u k fun r => { r with busAt := u.mono }) (.mvb n) r.entry.busAddr = some d := by
    rw [mvbPortData_modMap (r := r) (by rwa [hlgb]) (by rwa [hlgb]), hdata, hd]
  have hstill : mvbRuns (modMap u k fun r => { r with busAt := u.mono }) n = true := hruns
  obtain ⟨c, hc⟩ := countSent_counters (carry (modMap u k fun r => { r with busAt := u.mono }) k) (88 + n) d.length false false
  simp only [publishBus, hb, hport, hstill, if_true, hc]
  refine ⟨by rw [← hwire]; rfl, hmono, ?_⟩
  rw [← hlgb]
  rfl

end

/-! ## Stale variables (R226) -/

/-- A variable whose age passes its timeout is marked, and keeps its value. -/
theorem variableLate_marks {s : State} {v m : Nat} (ht : (pdVar s v).timeout = some m)
    (hw : ∀ w, (pdVar s v).writer ≠ some (.cssWindow w)) (hs : (pdVar s v).stale = false) (hl : (pdVar s v).len ≠ 0) :
    pdVar (variableLate v s) v = { pdVar s v with stale := true }
    ∧ (variableLate v s).mono = max s.mono ((pdVar s v).at_ + m * 1000000 + 1)
    ∧ ∀ w, w ≠ v → pdVar (variableLate v s) w = pdVar s w := by
  have hlate : variableLate v s = pdGoStale (untilMono s ((pdVar s v).at_ + m * 1000000 + 1)) v := by
    have hcond : ((pdVar s v).stale || (pdVar s v).len == 0) = false := by simp [hs, hl]
    simp only [variableLate, ht, hcond, Bool.false_eq_true, if_false]
  have hvar : ∀ w, pdVar (untilMono s ((pdVar s v).at_ + m * 1000000 + 1)) w = pdVar s w := pdVar_congr (by simp)
  have hmono := untilMono_mono s ((pdVar s v).at_ + m * 1000000 + 1)
  rw [hlate]
  generalize untilMono s ((pdVar s v).at_ + m * 1000000 + 1) = u at *
  have hmarked : ∃ map, pdGoStale u v
      = { putVar u v { pdVar u v with stale := true } with
          lgb := { (putVar u v { pdVar u v with stale := true }).lgb with map := map } } :=
    ⟨_, if_neg (by rw [hvar, hs]; exact Bool.false_ne_true)⟩
  obtain ⟨map, h⟩ := hmarked
  rw [h]
  refine ⟨?_, hmono, fun w hne => ?_⟩
  · rw [← hvar v]; exact pdVar_putVar_self ..
  · rw [← hvar w]; exact pdVar_putVar_other _ _ hne

end Sys2Proof.Proofs
end

section
/-! SUPPORT. Process data on the buses and TRDP: what the obligation about it (O42) comes down to, and a map that lists a key twice. -/

namespace Sys2Proof.Proofs

open Sys2Proof Sys2Proof.Machine

/-! ## What the obligation comes down to -/

/-- In this state a sink entry that is due sends its MVB port, its instant and the variables as the obligation has them. -/
def SinkPortsSent (s : State) : Prop :=
  ∀ n i k r d, (liveMap s).find? (fun e => e.1 == mapKey (.mvb n) i && e.2.entry.bus == .mvb n) = some (k, r) →
    r.entry.bus = .mvb n → mvbRuns s n = true → r.entry.source = false → r.entry.ethKind = .none →
    mvbPortData s (.mvb n) r.entry.busAddr = some d → ∃ t, exec (.pdPublish (.mvb n) i) s = .next t
      ∧ t.wire = s.wire ++ [.mvb (88 + n) r.entry.busAddr d] ∧ t.mono = max s.mono (r.busAt + busEff s r.entry)
      ∧ t.lgb.vars = s.lgb.vars

theorem sinkPortsSent_of_canonical {s : State} (h : twf none s.lgb.map = true) : SinkPortsSent s :=
  fun _ _ _ _ _ hf hb hn hs he hd => ⟨_, rfl, publish_port h hf hb hn hs he hd⟩

/-- Every other clause holds in every state, so that the obligation is its clause on sink entries. -/
theorem busesAndTrdpMoveProcessData_iff : Obligations.BusesAndTrdpMoveProcessData ↔ ∀ s, SinkPortsSent s := by
  unfold Obligations.BusesAndTrdpMoveProcessData
  constructor
  · intro h s
    obtain ⟨-, -, -, -, -, -, -, -, -, -, -, -, -, -, -, -, -, -, hport, -⟩ := h
    exact hport s
  intro hport
  refine ⟨?_, fun u n r hn hb ha => mapApplied_first hn hb ha, fun u n r e hn hb => mapApplied_next hn hb, ?_, ?_, ?_, ?_, ?_, ?_,
    ?_, ?_, ?_, ?_, ?_, ?_, ?_, ?_, ?_, hport, ?_⟩
  · intro s n u hn hu
    obtain ⟨vars, c, hform, hvars⟩ := macrocycle_form hn
    rw [← hu] at hform
    have hmono : u.mono = max s.mono ((mvbOf s n).at_ + (mvbOf s n).basicUs * 1000) := by rw [hu, untilMono_mono]
    have hmvb : (macrocycle n [] s).lgb.mvb = tset {} s.lgb.mvb n (afterPeriod (mvbOf s n) u.mono) := by rw [hform]
    have hport : mvbOf (macrocycle n [] s) n = afterPeriod (mvbOf s n) u.mono := by rw [mvbOf, hmvb, tget_tset_self]
    have htime : (macrocycle n [] s).mono = u.mono := by rw [hform]
    have hwire : (macrocycle n [] s).wire
        = s.wire ++ if (mvbOf s n).administrator && (mvbOf s n).master then masterSends (mvbOf s n) n else [] := by rw [hform]
    refine ⟨_, rfl, ?_, ?_, htime.trans hmono, ?_, fun m hm => ?_, fun v => ?_, fun k r hr => ?_, fun hm => ?_, fun ha hm => ?_⟩
    · rw [hport]; rfl
    · rw [hport, htime]; rfl
    · rw [hport]; rfl
    · rw [mvbOf, hmvb, tget_tset_other _ _ _ hm]; rfl
    · rw [pdVar, hform]; exact hvars v
    · rw [hform]; exact tget_tmap_some _ _ hr
    · have hsilent : ((mvbOf s n).administrator && (mvbOf s n).master) = false := by
        rcases hm with h | h <;> simp [h]
      rw [hwire, hsilent, if_neg Bool.false_ne_true, List.append_nil]
    · rw [hwire, ha, hm, List.append_assoc]; rfl
  · intro s n a k r v hn ha hl hb hs haddr hf
    refine ⟨fun hw hp => ?_, fun hw => ?_⟩
    · obtain ⟨hself, hother⟩ := mvbReceive_commits hn ha hl hb hs haddr hf hw hp
      exact ⟨_, rfl, by rw [hself], by rw [hself], by rw [hself], by rw [hself], hother⟩
    · exact ⟨_, rfl, mvbReceive_mismatch hn ha hl hb hs haddr hf hw⟩
  · intro s n a hn ha
    exact congrArg Host.Outcome.next (mvbReceive_unheard hn ha)
  · intro s n d hn
    refine ⟨?_, ?_, fun hd => ?_⟩
    · rintro rfl
      obtain ⟨hlgb, hwire⟩ := mvbSends_effect (draw s).2 n
        [.mvbStatus (88 + n) (mvbOf s n).device (BitVec.ofNat 16 (draw s).1)]
      exact ⟨_, _, congrArg Host.Outcome.next (mvbReceive_statusRequest hn), hwire, hlgb⟩
    · rintro rfl ha
      obtain ⟨hlgb, hwire⟩ := mvbSends_effect (putMvb s n { mvbOf s n with master := true }) n
        [.mvbAccept (88 + n) (mvbOf s n).device]
      refine ⟨_, congrArg Host.Outcome.next (mvbReceive_offer hn ha), hwire, ?_, fun m hm => ?_⟩
      · rw [mvbOf, hlgb]; exact mvbOf_putMvb_self ..
      · rw [mvbOf, hlgb]; exact mvbOf_putMvb_other _ _ hm
    · obtain ⟨hrequest, hoffer, haccept⟩ := mvbReceive_other hn hd
      exact ⟨congrArg Host.Outcome.next hrequest, congrArg Host.Outcome.next hoffer, congrArg Host.Outcome.next haccept⟩
  · intro s n d w hn
    exact congrArg Host.Outcome.next (mvbReceive_status hn d w)
  · intro s n g r hn hg
    exact congrArg Host.Outcome.next (mvbReceive_far hn hg r)
  · intro s n f l hn
    obtain ⟨hframe, hcycle⟩ := mvbReceive_stopped hn f l
    exact ⟨congrArg Host.Outcome.next hframe, congrArg Host.Outcome.next hcycle⟩
  · intro s o ns hr hl
    exact ⟨_, congrArg Host.Outcome.next (wtbInaug_runs o ns hr hl), rfl, inaugurated_master .., rfl, rfl, rfl⟩
  · intro s n x hi hn hd hl hh
    exact ⟨_, rfl, wtbReceive_keeps (x := { x with addr := n }) hi hn hd hl hh⟩
  · intro s hi hl
    obtain ⟨hwire, hmono, hwtb, hvars⟩ := wtbPeriod_effect hi hl
    exact ⟨_, rfl, hwire, hmono.trans (untilMono_mono ..), hwtb.trans (by rw [← hmono]), hvars⟩
  · intro s f h0 h
    exact congrArg Host.Outcome.next (trdpIn_otherTopo h0 h)
  · intro s f b h hr hd hb
    obtain ⟨n, hwire, hvars⟩ := trdpIn_request h hr hd hb
    exact ⟨_, n, rfl, hwire, hvars⟩
  · intro s f x h hr hl hx hsrc hw hlen hp
    obtain ⟨hself, hother⟩ := trdpIn_commits h hr hl hx hsrc hw hlen hp
    exact ⟨_, rfl, by rw [hself], by rw [hself], by rw [hself], hother⟩
  · intro s f x h hr hl hx hw
    exact ⟨_, rfl, trdpIn_mismatch h hr hl hx hw⟩
  · intro s b i k r u hf hs ht he
    exact ⟨_, congrArg Host.Outcome.next (publish_trdp hf hs ht he), datasetPublished_until s u _⟩
  · intro s c p
    refine ⟨fun h => sendTrdp_none h p, fun d h => ?_⟩
    obtain ⟨n, hwire, -⟩ := sendTrdp_sends h p
    exact ⟨n, hwire⟩
  · intro s v m ht hw hs hl
    exact ⟨_, rfl, variableLate_marks ht hw hs hl⟩

/-! ## A map that lists a key twice -/

/-- A sink entry of MVB0: the byte of variable 0 to port 0, every millisecond. -/
def sinkEntry : MapRec :=
  { entry := { bus := .mvb 0, busAddr := 0, source := false, bitOffset := 0, bitLen := 8, var := 0, ethKind := .none, comid := 0
               dsOffset := 0, ethPeriod := 0, slotId := 0, staleTimeout := 0, onStale := .hold, ageOffset := 0xFFFF
               busPeriod := 1 }
    applied := true, superseded := 0, staleCount := 0, mismatch := 0, carried := 0, pubAt := 0, busAt := 0 }

/-- A device with MVB0 up whose map lists key 0 twice, first without an entry, which no table in canonical form does. -/
def mappedTwice : State :=
  { ports := { links := [(88, { up := true })] }
    lgb := { vars := [(0, { len := 1, value := [0xFF], stale := false })], map := [(0, none), (0, some sinkEntry)] } }

theorem mappedTwice_not_canonical : twf none mappedTwice.lgb.map = false := by decide

theorem mvbPortData_mappedTwice : mvbPortData mappedTwice (.mvb 0) 0 = some [0xFF, 0] := by decide

/-- The write of the publication's time reads the key as empty and drops what is listed under it, the field with it. -/
theorem publish_mappedTwice : (publish (.mvb 0) 0 mappedTwice).wire = [.mvb 88 0 [0, 0]] := by decide

/-- Refutes O42: where the map lists a key twice, first without an entry (`mappedTwice`), PD_PUBLISH sends the MVB port without the
field the statement names. With a map in canonical form that clause holds too (`sinkPortsSent_of_canonical`), and every other
clause holds in every state (`busesAndTrdpMoveProcessData_iff`). -/
theorem not_busesAndTrdpMoveProcessData : ¬ Obligations.BusesAndTrdpMoveProcessData := by
  rw [busesAndTrdpMoveProcessData_iff]
  intro h
  obtain ⟨t, hexec, hwire, -⟩ := h mappedTwice 0 0 0 sinkEntry [0xFF, 0] (by decide) rfl (by decide) rfl rfl
    mvbPortData_mappedTwice
  obtain rfl : publish (.mvb 0) 0 mappedTwice = t := Host.Outcome.next.inj hexec
  rw [publish_mappedTwice] at hwire
  exact absurd hwire (by decide)

end Sys2Proof.Proofs
end
